-- ==== Sys2Proof/Word.lean ====
section
/-! DEFINITION. Bytes, byte strings and fixed tables: the types every other file uses, and how one entry of a table is
read and changed. A stamp of the epoch is a `Nat` (the 64-bit bound is an invariant of the time base, R82). -/

namespace Sys2Proof

/-- One byte (R6, R7). -/
abbrev Byte := BitVec 8

/-- A byte string, lowest offset first (R7). -/
abbrev Bytes := List Byte

/-- Entry `i` of a fixed table; the default entry beyond its end. -/
def tget {α : Type} {n : Nat} [Inhabited α] (v : Vector α n) (i : Nat) : α := v.getD i default

/-- The table with entry `i` changed by `f`; unchanged when `i` lies beyond its end. -/
def tmod {α : Type} {n : Nat} [Inhabited α] (v : Vector α n) (i : Nat) (f : α → α) : Vector α n :=
  v.setIfInBounds i (f (tget v i))

/-- The changed entry reads as changed. -/
theorem tget_tmod_same {α : Type} {n : Nat} [Inhabited α] (v : Vector α n) (i : Nat) (f : α → α) (h : i < n) :
    tget (tmod v i f) i = f (tget v i) := by
  simp [tget, tmod, Vector.getD, h]

/-- Every other entry reads as before. -/
theorem tget_tmod_other {α : Type} {n : Nat} [Inhabited α] (v : Vector α n) (i j : Nat) (f : α → α) (h : i ≠ j) :
    tget (tmod v i f) j = tget v j := by
  by_cases hj : j < n <;> simp [tget, tmod, Vector.getD, hj, h]

end Sys2Proof
end

