-- ==== Sys2Proof/Syntax.lean ====
section
/-! DEFINITION. The commands of the block: one constructor per row of the table, with what the row is given from
outside (an address, a value, a telegram as received, a measurement). A command that the host issues through a mailbox
carries the ticket under which it was accepted; its request stands in the Steward's working state. -/

namespace Sys2Proof

/-- An ANSWER telegram as received. -/
structure AnswerTel where
  /-- TOKEN_ID. -/
  token : Nat
  /-- SLOT. -/
  slot : Nat
  /-- FLAGS: [3:0] HEARD, [4] LOW_BATTERY. -/
  flags : Nat
  /-- POLL_SEQ. -/
  seq : Nat
  deriving DecidableEq, Repr, Inhabited
/-- A BUTTON telegram as received (R166). -/
structure ButtonTel where
  /-- TOKEN_ID. -/
  token : Nat
  /-- SLOT. -/
  slot : Nat
  /-- BUTTON: 1 unlock, 2 lock. -/
  button : Nat
  /-- COUNTER. -/
  counter : Nat
  /-- MAC. -/
  mac : Bytes
  deriving DecidableEq, Repr, Inhabited
/-- A RESPONSE telegram as received (R166). -/
structure ResponseTel where
  /-- TOKEN_ID. -/
  token : Nat
  /-- SLOT. -/
  slot : Nat
  /-- FLAGS: [0] EXHAUSTED, [4] LOW_BATTERY. -/
  flags : Nat
  /-- COUNTER. -/
  counter : Nat
  /-- MAC. -/
  mac : Bytes
  /-- MEAS, X, Y, Z for step 0, then steps 1 to N. -/
  meas : Bytes
  deriving DecidableEq, Repr, Inhabited
/-- A LEARN_ACK telegram as received (R166). -/
structure LearnAckTel where
  /-- TOKEN_ID. -/
  token : Nat
  /-- SLOT. -/
  slot : Nat
  /-- COUNTER. -/
  counter : Nat
  /-- MAC. -/
  mac : Bytes
  deriving DecidableEq, Repr, Inhabited
/-- What one channel's loop read in a sequence (R214, R217, R218). -/
structure LfChMeas where
  /-- Channel. -/
  ch : Nat
  /-- Peak coil current of the plateau, mA. -/
  peak : Nat
  /-- Measured minus target phase; at a sweep point voltage to current; 0.1 degrees. -/
  phase : Int
  /-- Current below 10 % of target at full duty, 120 µs after the start. -/
  noCurrent : Bool
  /-- Phase of the bridge-voltage fundamental minus that of the current, 0.1 degrees. -/
  diff : Int
  /-- It fell short of its target without scaling the others (R214). -/
  short : Bool := false
  deriving DecidableEq, Repr, Inhabited
/-- What the array measured in a sequence. -/
structure LfMeas where
  /-- Its channels. -/
  chans : List LfChMeas := []
  /-- SCALE of R214, 1/255; 255 when unscaled. -/
  scale : Nat := 255
  /-- Channel that limited. -/
  limit : Nat := 0
  /-- Code of the static test, 0 or 2–4 (R217, R218). -/
  static : Nat := 0
  deriving DecidableEq, Repr, Inhabited
/-- What the receiver took in an answer slot, with the measurements of the telegrams that re-address it (R168, R182). -/
structure AnswerRx where
  /-- The telegram; none where it could not be decoded. -/
  tel : Option AnswerTel
  /-- Measurements of the POLL_ADDRESSED telegrams that follow. -/
  meas : List LfMeas := []
  deriving DecidableEq, Repr, Inhabited
/-- The current that trips a channel (R221, R224). -/
structure LfTrip where
  /-- Peak coil current, mA. -/
  peak : Nat
  /-- Phase, 0.1 degrees in 16 bits of two's complement. -/
  phase : Nat
  deriving DecidableEq, Repr, Inhabited
/-- The supply out of its range (R216). -/
structure VlfDrop where
  /-- VLF, mV. -/
  mv : Nat
  /-- What the array measured in the sequence that it cuts. -/
  meas : LfMeas := {}
  deriving DecidableEq, Repr, Inhabited
/-- What a VCO calibration found (R229). -/
structure VcoTune where
  /-- VCO band. -/
  band : Nat
  /-- Tuning codes. -/
  codes : Nat
  deriving DecidableEq, Repr, Inhabited
/-- A packet as the receiver took it (R236, R246). -/
structure UhfPacket where
  /-- Stamp of the end of its last sync bit. -/
  stamp : Nat
  /-- RSSI, dBm. -/
  rssi : Int
  /-- FREQ_ERR, 100 Hz units. -/
  freqErr : Int
  /-- Its body. -/
  body : Bytes
  /-- Its CRC, where the format has one, passed. -/
  crcOk : Bool
  deriving DecidableEq, Repr, Inhabited
/-- What the Rangefinder received at the RESPONSE of a session (R254, R257). -/
structure RangingRx where
  /-- A response was stamped in its window. -/
  stamped : Bool
  /-- The STS symbols it carries, one bit each, most significant first. -/
  sts : Bytes
  deriving DecidableEq, Repr, Inhabited
/-- A first path that an antenna port detected in a fast-exchange round (R250, R255). -/
structure PathHit where
  /-- Antenna port. -/
  port : Nat
  /-- Whole 768 MHz ticks from the challenge RMARKER. -/
  ticks : Nat
  /-- What the delay line adds, TDC LSB. -/
  fine : Nat
  /-- Polarity of the reply. -/
  bit : Bool
  deriving DecidableEq, Repr, Inhabited
/-- A fast-exchange round as received. -/
structure FastRound where
  /-- Remainder of the tick count at the challenge, 0–2 (R252). -/
  rem : Nat := 0
  /-- First paths, at most one for each port. -/
  hits : List PathHit
  deriving DecidableEq, Repr, Inhabited
/-- What a cable segment measured (R264). -/
structure CableRx where
  /-- Its points, each the mean of 64 launches, ρ in Q1.14. -/
  samples : List Int
  /-- Launches discarded for partner energy and taken again. -/
  retaken : Nat
  deriving DecidableEq, Repr, Inhabited
/-- A frame on MS_DATA as the F die received it (R280). -/
structure SensorFrame where
  /-- Fixer clock at its start bit. -/
  stamp : Nat
  /-- The bytes received, CRC included. -/
  bytes : Bytes
  deriving DecidableEq, Repr, Inhabited
/-- A frame as a port received it (R314, R315, R318). -/
structure RxFrame where
  /-- KIND (R315). -/
  kind : Nat
  /-- FRAME in its medium form. -/
  bytes : Bytes
  /-- Ingress stamp (R314). -/
  stamp : Nat
  /-- Stamp at which its lookup began. -/
  lookup : Nat
  /-- It passed its medium's checks. -/
  ok : Bool
  deriving DecidableEq, Repr, Inhabited
/-- A master's access to the banks, as its guards see it (R426). -/
structure GuardHit where
  /-- Master 0–7 (R425). -/
  master : Fin 8
  /-- Address of the first byte. -/
  addr : Nat
  /-- Bytes of the access. -/
  len : Nat
  /-- 0 read, 1 write, 2 execute. -/
  access : Nat
  /-- The word read cannot be corrected (R422). -/
  bad : Bool
  deriving DecidableEq, Repr, Inhabited
/-- What a start finds on the pins, the supplies and the dies (R462). -/
structure StartEnv where
  /-- Time to READY, µs: from the release of the M-die reset on a warm start, from the load of the epoch on a cold start. -/
  us : Nat
  /-- VBAT, mV. -/
  vbat : Nat
  /-- VHOLD, mV. -/
  vhold : Nat
  /-- WAKE_IGN is asserted. -/
  ign : Bool
  /-- WAKE_DOOR1–4 asserted, bits 0–3. -/
  doors : Nat
  /-- WORKSHOP strap asserted. -/
  strap : Bool
  /-- The lid comparator reads open. -/
  lidOpen : Bool
  /-- The mesh comparator reads broken. -/
  meshOpen : Bool
  /-- The V die answers. -/
  vdie : Bool
  /-- Images 0 and 1 load and their hashes pass (R453). -/
  loads : Bool × Bool
  deriving DecidableEq, Repr, Inhabited
/-- A vault page that a scan read with many corrected bits, or could not read (R415, R416). -/
structure ScanHit where
  /-- PARTITION. -/
  part : Fin 6
  /-- Place among the retained pages of the partition, oldest first. -/
  page : Nat
  /-- Wrong bits in each of its four codewords (R408). -/
  errors : Vector Nat 4
  deriving DecidableEq, Repr, Inhabited

/-- Every command, event and lane message of the table: those with operands first, each part in the table's order. -/
inductive Instr where
  /-- READ (R38): SPI instruction 0x0B reads words of the DP window or front registers from a 24-bit address. -/
  | read (addr : BitVec 24) (n : Nat)
  /-- WRITE (R38): SPI instruction 0x02 writes whole 32-bit words at a 24-bit address and discards a partial word. -/
  | write (addr : BitVec 24) (data : Bytes) (other : List (Nat × Byte))
  /-- QUAD_READ (R38): SPI instruction 0xEB reads with address and data on HOST_IO[3:0]. -/
  | quadRead (addr : BitVec 24) (n : Nat)
  /-- QUAD_WRITE (R38): SPI instruction 0x38 writes with address and data on HOST_IO[3:0]. -/
  | quadWrite (addr : BitVec 24) (data : Bytes) (other : List (Nat × Byte))
  /-- INVALID_INSTRUCTION (R36): An SPI instruction outside the table ends the transaction without effect and sets SPI_ERR. -/
  | invalidInstruction (op : Byte)
  /-- CMD_DOORBELL (R46): Writing 1 to a CMD_DOORBELL bit hands the command mailbox to the Steward. -/
  | cmdDoorbell (v : BitVec 32)
  /-- RSP_READY (R47): Write-one-to-clear of RSP_READY returns a response mailbox to the Steward and may free the ticket. -/
  | rspReady (v : BitVec 32)
  /-- EVT_TAIL (R59): Host write of EVT_TAIL frees ring records; an out-of-range value is ignored and sets SPI_ERR. -/
  | evtTail (v : BitVec 32)
  /-- INT_STATUS (R62): Write-one-to-clear of INT_STATUS bits, releasing HOST_IRQ_N when none remain enabled. -/
  | intStatus (v : BitVec 32)
  /-- FRONT_STATUS (R41): Write-one-to-clear of the COLLIDE, WR_IGNORED, SPI_ERR and BAD_FRAME bits. -/
  | frontStatus (v : BitVec 32)
  /-- FRONT_REGISTER_WRITE (R41): Write to a front register without behaviour of its own, such as INT_ENABLE, or to a read-only one, which is ignored. -/
  | frontRegisterWrite (off : Byte) (v : BitVec 32)
  /-- T1_COMMAND_FRAME (R64): A KIND 0x01 host frame on the T1 path is authenticated, counter-checked and taken as a command. -/
  | t1CommandFrame (port : Fin 28) (header : Bytes) (body : Bytes)
  /-- T1_RELEASE_FRAME (R66): A KIND 0x04 host frame releases fragments of a ticket's response, freeing the ticket at its LAST. -/
  | t1ReleaseFrame (port : Fin 28) (header : Bytes) (body : Bytes)
  /-- DEVICE_IDENTIFY (R79): Command 0x0101 returns identity, serial and tree sizes. -/
  | deviceIdentify (tk : Fin 128)
  /-- DEVICE_TICKET_QUERY (R79): Command 0x0102 returns the state, path, opcode and status of all 128 tickets. -/
  | deviceTicketQuery (tk : Fin 128)
  /-- NODE_PROBE (R79): Command 0x0110 fans out and reports domain and flags of each tile without waiting. -/
  | nodeProbe (tk : Fin 128)
  /-- NODE_READ (R79): Command 0x0111 returns kind, type, origin and members of a node. -/
  | nodeRead (tk : Fin 128)
  /-- NODE_LIST (R79): Command 0x0112 lists existing nodes in an ID range. -/
  | nodeList (tk : Fin 128)
  /-- NODE_COURSE_STAGE (R502): Command 0x0120 stages creation or replacement of an integrator course. -/
  | nodeCourseStage (tk : Fin 128)
  /-- NODE_COURSE_DELETE_STAGE (R502): Command 0x0121 stages deletion of an integrator course. -/
  | nodeCourseDeleteStage (tk : Fin 128)
  /-- TIME_READ (R108): Command 0x0201 returns the epoch, quality, flags, UTC offset, trim and slew. -/
  | timeRead (tk : Fin 128)
  /-- TIME_SET (R108): Command 0x0202 steps the epoch forward to TARGET, clears UNSET and writes event 0x0202. -/
  | timeSet (tk : Fin 128)
  /-- TIME_SLEW (R108): Command 0x0203 starts, replaces or ends a slew of the epoch. -/
  | timeSlew (tk : Fin 128)
  /-- TIME_SHUTTER_ARM (R108): Command 0x0210 loads a shutter's compare and period, active or into the preload. -/
  | timeShutterArm (tk : Fin 128)
  /-- TIME_SHUTTER_DISARM (R108): Command 0x0211 makes a shutter IDLE and clears PRELOAD_VALID. -/
  | timeShutterDisarm (tk : Fin 128)
  /-- TIME_SHUTTER_READ (R108): Command 0x0212 returns a shutter's state, compares and counts. -/
  | timeShutterRead (tk : Fin 128)
  /-- TIME_SHUTTER_STAGE (R108): Command 0x0213 stages a shutter's compare and period for an exposure. -/
  | timeShutterStage (tk : Fin 128)
  /-- TIME_CAPTURE_READ (R108): Command 0x0220 returns a capture pair's registers and optionally acknowledges them. -/
  | timeCaptureRead (tk : Fin 128)
  /-- SHUTTER_FIRE (R98): The epoch reaches an armed shutter's compare; it fires, takes any preload or advances its period and asserts its router line. -/
  | shutterFire (n : Fin 12)
  /-- CAPTURE_EDGE (R102): A capture input holds a new level for its filter time and the edge is stamped and paired. -/
  | captureEdge (n : Fin 8) (rising : Bool) (stamp : Nat)
  /-- XS_TRIM_MEASURE (R85): After 64 s of unbroken XS and XF the time base measures and replaces TIME.XS_TRIM. -/
  | xsTrimMeasure (ticks : Nat)
  /-- WAKE_PIN_CHANGE (R121): A filtered level change of WAKE_IGN or WAKE_DOOR writes event 0x0402 and acts by mode. -/
  | wakePinChange (pin : Fin 5) (level : Bool)
  /-- WORKSHOP_STRAP_CHANGE (R121): A filtered level change of WORKSHOP_STRAP; its de-assertion in WORKSHOP is trigger 9. -/
  | workshopStrapChange (level : Bool)
  /-- CAN_WAKE (R122): CAN_RX held low for two XS samples in PARKED or WATCH powers PD3 CORE and PD8 NET. -/
  | canWake (ports : BitVec 12)
  /-- DOMAIN_FAULT (R125): A domain misses four times its on-time; it is switched off, event 0x0406 is written and waiting commands complete INTERNAL. -/
  | domainFault (d : Fin 10) (rail : Bool)
  /-- DOMAIN_READY (R124): A switched-on domain reaches its working state and its tiles accept work. -/
  | domainReady (d : Fin 10)
  /-- WAKE_MEASURED (R128): A wake reaches L0 with the fine epoch re-aligned; its latency updates the entry or marks a late wake. -/
  | wakeMeasured (us : Nat)
  /-- POWER_MODE_READ (R132): Command 0x0401 returns the mode, domains, standing time and pins. -/
  | powerModeRead (tk : Fin 128)
  /-- POWER_MODE_REQUEST (R504): Command 0x0402 requests STOWED, PARKED or WORKSHOP and completes when the transition completes. -/
  | powerModeRequest (tk : Fin 128)
  /-- POWER_DOMAIN_READ (R132): Command 0x0403 returns state and counts of each power domain. -/
  | powerDomainRead (tk : Fin 128)
  /-- POWER_EAVE_READ (R505): Command 0x0404 returns latency entries and the next booking. -/
  | powerEaveRead (tk : Fin 128)
  /-- EXPOSE_OPEN (R155): Command 0x0301 opens a staging session. -/
  | exposeOpen (tk : Fin 128)
  /-- EXPOSE_DISCARD (R155): Command 0x0302 closes a session and discards its items. -/
  | exposeDiscard (tk : Fin 128)
  /-- EXPOSE_SET_STAGE (R140): Command 0x0303 stages setting values after checking each against its table. -/
  | exposeSetStage (tk : Fin 128)
  /-- EXPOSE_CHECK (R141): Command 0x0304 evaluates the merged configuration and makes the session CHECKED or lists failures. -/
  | exposeCheck (tk : Fin 128)
  /-- EXPOSE_EXPOSE (R143): Command 0x0305 accepts a checked session for an instant, answers DEFERRED or refuses. -/
  | exposeExpose (tk : Fin 128)
  /-- EXPOSE_CANCEL (R149): Command 0x0306 ends a pending exposure before its decision point. -/
  | exposeCancel (tk : Fin 128)
  /-- EXPOSE_STATUS (R155): Command 0x0307 returns CONFIG_GEN, pending phase and session states. -/
  | exposeStatus (tk : Fin 128)
  /-- EXPOSE_SETTING_READ (R155): Command 0x0308 returns a setting's value in force or staged in a session. -/
  | exposeSettingRead (tk : Fin 128)
  /-- SYNC_EDGE (R151): The lane sync edge latches the Fixer clock for a sample and applies any armed F-die set. -/
  | syncEdge (stamp : Nat)
  /-- LANE_UNKNOWN_MESSAGE (R20): A lane message of an unlisted type is discarded and counted by the F die. -/
  | laneUnknownMessage (ty : Byte)
  /-- POLL_CYCLE (R168): Shutter 13 fires and the poll telegrams and answer slots run. -/
  | pollCycle (meas : List LfMeas)
  /-- ANSWER (R159): A sub-GHz ANSWER telegram arrives in a slot and may give trigger 1. -/
  | answer (slot : Fin 16) (rssi : Int) (rx : AnswerRx)
  /-- BUTTON (R180): A sub-GHz BUTTON telegram arrives; it clears SETTLED, gives trigger 2 or a lock or unlock verdict. -/
  | button (tel : ButtonTel)
  /-- RESPONSE_TELEGRAM (R171): A sub-GHz RESPONSE telegram arrives and is checked by MAC and counter. -/
  | responseTelegram (tel : ResponseTel)
  /-- LEARN_ACK (R195): A valid LEARN_ACK makes the slot LEARNED with its counter and writes its record. -/
  | learnAck (tel : LearnAckTel)
  /-- ACCESS_CYCLE (R169): Shutter 15 fires and an acquire, cab or start cycle sends its CHALLENGE and opens response slots. -/
  | accessCycle (meas : List LfMeas)
  /-- SNIFF_WINDOW (R162): Every 500 ms in POLL and DORMANT a 0.5 ms receive window opens, extended on a preamble. -/
  | sniffWindow (preamble : Bool)
  /-- LEARN_RETRY (R195): Every 500 ms during learning a LEARN telegram is sent for the current entry. -/
  | learnRetry (meas : LfMeas)
  /-- ACCESS_STATUS (R199): Command 0x0501 returns engine state, flags and counters. -/
  | accessStatus (tk : Fin 128)
  /-- ACCESS_SLOT_READ (R199): Command 0x0502 returns a token slot's state. -/
  | accessSlotRead (tk : Fin 128)
  /-- ACCESS_LOCATE (R199): Command 0x0503 runs one cab cycle for the slots reached. -/
  | accessLocate (tk : Fin 128)
  /-- ACCESS_LOCK (R199): Command 0x0504 gives a lock verdict and sends the lock frame. -/
  | accessLock (tk : Fin 128)
  /-- ACCESS_LEARN_SET (R195): Command 0x0505 erases the token set and learns a new one. -/
  | accessLearnSet (tk : Fin 128)
  /-- ACCESS_RELEASE_PAIR (R196): Command 0x0506 installs a new release key, PAIR_ID and counter. -/
  | accessReleasePair (tk : Fin 128)
  /-- ACCESS_ZONEMAP_STAGE (R199): Command 0x0507 stages a zone map. -/
  | accessZonemapStage (tk : Fin 128)
  /-- ACCESS_ZONEMAP_READ (R199): Command 0x0508 returns the zone map in force or staged. -/
  | accessZonemapRead (tk : Fin 128)
  /-- LF_OVERCURRENT (R221): A channel trips its overcurrent limit, stops within 2 µs and latches OVERCURRENT. -/
  | lfOvercurrent (ch : Fin 32) (trip : LfTrip) (meas : LfMeas)
  /-- VLF_DISABLE (R216): VLF leaves 8–32 V; drivers disable, running sequences quench and end. -/
  | vlfDisable (drop : VlfDrop)
  /-- VLF_ENABLE (R216): VLF has stayed in 8.3–31.5 V for 10 ms and drivers are enabled again. -/
  | vlfEnable (v : Nat)
  /-- LF_COMMAND_DEADLINE (R220): A command finds no gap before its deadline and completes TIMEOUT. -/
  | lfCommandDeadline (tk : Fin 128)
  /-- LF_CHANNEL_READ (R223): Command 0x0601 returns a channel's state and last measurements. -/
  | lfChannelRead (tk : Fin 128)
  /-- LF_DIAG (R218): Command 0x0602 runs a full or static diagnosis of channels. -/
  | lfDiag (tk : Fin 128)
  /-- LF_BURST (R223): Command 0x0603 drives a STEP or CW burst on up to four channels. -/
  | lfBurst (tk : Fin 128)
  /-- LF_CLEAR_FAULT (R223): Command 0x0604 clears a latched channel fault. -/
  | lfClearFault (tk : Fin 128)
  /-- UHF_CAL_DONE (R227): VCO calibration completes and the front end enters SETTLE or IDLE. -/
  | uhfCalDone (ok : Bool) (tune : VcoTune) (dur : Nat)
  /-- UHF_PACKET_RECEIVED (R236): A packet is received, stamped at its sync end and delivered or counted on CRC failure. -/
  | uhfPacketReceived (p : UhfPacket)
  /-- RF_GNT_CHANGE (R238): RF_GNT holds a new level for 1 µs; a rise may start the PA, a fall may cut or record. -/
  | rfGntChange (level : Bool)
  /-- UHF_STATUS (R246): Command 0x0701 returns front-end state and counters. -/
  | uhfStatus (tk : Fin 128)
  /-- UHF_TX (R243): Command 0x0702 checks the charter and transmits one packet. -/
  | uhfTx (tk : Fin 128)
  /-- UHF_RX (R246): Command 0x0703 opens a receive window and returns packets. -/
  | uhfRx (tk : Fin 128)
  /-- UHF_CALIBRATE (R246): Command 0x0704 calibrates the VCO for a frequency. -/
  | uhfCalibrate (tk : Fin 128)
  /-- UHF_CHARTER_READ (R246): Command 0x0705 returns the charter page and its state. -/
  | uhfCharterRead (tk : Fin 128)
  /-- UHF_DUTY_READ (R246): Command 0x0706 returns duty usage per band. -/
  | uhfDutyRead (tk : Fin 128)
  /-- RANGING_RESPONSE (R254): The token's RESPONSE frame arrives and its STS is correlated on every enabled port. -/
  | rangingResponse (r : RangingRx)
  /-- FAST_EXCHANGE_ROUND (R255): A fast-exchange round's reply burst is stamped and its polarity read. -/
  | fastExchangeRound (r : FastRound)
  /-- RANGING_REPORT (R256): The token's REPORT arrives at the end of the session. -/
  | rangingReport (rep : Option Bytes)
  /-- TDC_CALIBRATION (R252): The TDC calibrates at switch-on, on a 10 °C move between activities, or every 1 s after a failure. -/
  | tdcCalibration (ok : Bool) (corr : Int)
  /-- CABLE_SEGMENT (R264): A cable-mode segment of launches runs, yielding to access sessions between segments. -/
  | cableSegment (c : CableRx)
  /-- RANGE_STATUS (R268): Command 0x0801 returns Rangefinder state and counts. -/
  | rangeStatus (tk : Fin 128)
  /-- RANGE_PORT_READ (R268): Command 0x0802 returns an antenna port's settings and counts. -/
  | rangePortRead (tk : Fin 128)
  /-- RANGE_PORT_CALIBRATE (R262): Command 0x0803 runs a TDC calibration and 64 reference sessions to compute DELAY. -/
  | rangePortCalibrate (tk : Fin 128)
  /-- RANGE_SESSION_READ (R268): Command 0x0804 returns the last session of a slot. -/
  | rangeSessionRead (tk : Fin 128)
  /-- RANGE_CABLE (R263): Command 0x0810 runs a cable reflectogram on a T1 port. -/
  | rangeCable (tk : Fin 128)
  /-- RANGE_CABLE_TRACE_READ (R268): Command 0x0811 returns samples of the last trace of a port. -/
  | rangeCableTraceRead (tk : Fin 128)
  /-- MS_PULSE_EDGE (R275): A rising edge of MS_PULSE held past the filter is stamped and counted as distance. -/
  | msPulseEdge (stamp : Nat) (highUs : Nat)
  /-- SENSOR_COUNT (R281): The sensor's COUNT frame arrives and is compared with accepted pulses. -/
  | sensorCount (c : SensorFrame)
  /-- CARD_INSERTED (R289): A card's presence holds 10 ms and the F die authenticates it, possibly opening a workshop session. -/
  | cardInserted (slot : Fin 2)
  /-- CARD_REMOVED (R289): A card's absence starts deactivation and may close the workshop session. -/
  | cardRemoved (slot : Fin 2)
  /-- F_SUPPLY_TO_VFB (R272): VFIX falls below 2.45 V and the F die switches to VFB, writing a POWER record. -/
  | fSupplyToVfb (mv : Nat)
  /-- F_SUPPLY_TO_VFIX (R272): VFIX stays above 2.55 V for 10 ms and the F die returns to it. -/
  | fSupplyToVfix (mv : Nat)
  /-- F_LID_MESH (R299): The F die senses a lid opening or mesh break, a seal event. -/
  | fLidMesh (kind : Nat)
  /-- XM_TEMP_CORRECTION (R491): Every 10 s the F die measures its temperature and corrects XM. -/
  | xmTempCorrection (temp : Int)
  /-- FIXER_STATUS (R304): Command 0x0901 returns the F-die status block. -/
  | fixerStatus (tk : Fin 128)
  /-- FIXER_RECORD_READ (R304): Command 0x0902 returns Fixer records from vault and F die. -/
  | fixerRecordRead (tk : Fin 128)
  /-- FIXER_SPEED_READ (R304): Command 0x0903 returns speed-ring samples. -/
  | fixerSpeedRead (tk : Fin 128)
  /-- FIXER_KEY_READ (R304): Command 0x0904 returns the Fixer certificate. -/
  | fixerKeyRead (tk : Fin 128)
  /-- FIXER_TIME_PROPOSE (R304): Command 0x0905 proposes a Fixer clock adjustment. -/
  | fixerTimePropose (tk : Fin 128)
  /-- FIXER_CARD_STATUS (R304): Command 0x0906 returns a card interface's state. -/
  | fixerCardStatus (tk : Fin 128)
  /-- FIXER_CARD_APDU (R304): Command 0x0907 forwards a short APDU to a card. -/
  | fixerCardApdu (tk : Fin 128)
  /-- FIXER_CARD_RESET (R304): Command 0x0908 re-runs card authentication. -/
  | fixerCardReset (tk : Fin 128)
  /-- FIXER_PAIR_STAGE (R304): Command 0x0909 stages the sensor pairing object. -/
  | fixerPairStage (tk : Fin 128)
  /-- FRAME_RECEIVED (R318): A frame is stamped at ingress, classified, admitted to the buffer and its copies queued. -/
  | frameReceived (port : Fin 28) (f : RxFrame)
  /-- COPY_SENT (R333): A copy is transmitted or handed to its consumer, ends SENT and frees cells with the last copy. -/
  | copySent (port : Fin 28)
  /-- HELD_OUT (R333): A multicast copy not started at enqueue + MCAST_HOLD ends HELD_OUT. -/
  | heldOut (port : Fin 28)
  /-- AGED (R333): A copy not started at ingress + MAX_RESIDENCY ends AGED. -/
  | aged (port : Fin 28)
  /-- PORT_DOWN (R313): A port goes DISABLED or DOWN and every queued copy ends FLUSHED. -/
  | portDown (port : Fin 28)
  /-- PORT_UP (R313): A port's link or bus comes up and it passes frames. -/
  | portUp (port : Fin 28)
  /-- CAN_BUS_OFF (R309): A CAN controller enters bus-off and the port becomes BLOCKED while recovery runs. -/
  | canBusOff (port : Fin 28)
  /-- CAN_BUS_OFF_RECOVERED (R309): Bus-off recovery completes after 128 × 11 recessive bits. -/
  | canBusOffRecovered (port : Fin 28)
  /-- CAN_ATTEMPT_LOST (R326): A CAN attempt loses arbitration or errors; the head of the highest queue takes the next attempt. -/
  | canAttemptLost (port : Fin 28) (error : Bool)
  /-- PAUSE_RECEIVED (R331): A received PAUSE frame blocks egress for its stated time. -/
  | pauseReceived (port : Fin 28) (time : BitVec 16)
  /-- PAUSE_EXPIRE (R331): A partner PAUSE time runs out and egress resumes. -/
  | pauseExpire (port : Fin 28)
  /-- PAUSE_REPEAT (R331): While a T1 port is held the PAUSE frame repeats every 100 ms or 10 ms. -/
  | pauseRepeat (port : Fin 28)
  /-- LIN_SLOT (R327): A LIN schedule slot boundary sends a header and publishes or awaits the response. -/
  | linSlot (port : Fin 28)
  /-- LIN_RESPONSE_RECEIVED (R327): A responder's LIN response arrives after the header, or is counted missing or corrupt. -/
  | linResponseReceived (port : Fin 28) (resp : Option Bytes)
  /-- SWITCH_STATUS (R341): Command 0x0A01 returns switch generation and pool state. -/
  | switchStatus (tk : Fin 128)
  /-- SWITCH_PORT_READ (R341): Command 0x0A02 returns a port's state. -/
  | switchPortRead (tk : Fin 128)
  /-- SWITCH_COUNTERS_READ (R341): Command 0x0A03 returns a port's counters. -/
  | switchCountersRead (tk : Fin 128)
  /-- SWITCH_TABLE_STAGE (R341): Command 0x0A04 stages forwarding table entries. -/
  | switchTableStage (tk : Fin 128)
  /-- SWITCH_TABLE_READ (R341): Command 0x0A05 returns table entries. -/
  | switchTableRead (tk : Fin 128)
  /-- SWITCH_LIN_SCHEDULE_STAGE (R341): Command 0x0A06 stages a LIN schedule object. -/
  | switchLinScheduleStage (tk : Fin 128)
  /-- SWITCH_LIN_SCHEDULE_READ (R341): Command 0x0A07 returns a LIN schedule. -/
  | switchLinScheduleRead (tk : Fin 128)
  /-- SWITCH_AUDIT (R341): Command 0x0A08 runs one audit pass. -/
  | switchAudit (tk : Fin 128)
  /-- KEY_LANDING (R356): A shadow key lands once its record is written and no job is bound to the old version. -/
  | keyLanding (slot : Fin 64)
  /-- CHECK_MISMATCH (R362): A block's check fails; the job ends CIPHER_FAULT, possibly latching the engine off. -/
  | checkMismatch (ctx : Fin 8) (kind : Nat) (block : Nat)
  /-- CIPHER_STATUS (R369): Command 0x0B01 returns engine state. -/
  | cipherStatus (tk : Fin 128)
  /-- CIPHER_KEY_READ (R369): Command 0x0B02 returns a slot's attributes, KCV and counters. -/
  | cipherKeyRead (tk : Fin 128)
  /-- CIPHER_KEY_LOAD (R369): Command 0x0B03 unwraps a key into a slot. -/
  | cipherKeyLoad (tk : Fin 128)
  /-- CIPHER_KEY_GENERATE (R369): Command 0x0B04 generates a key from Grain into a slot. -/
  | cipherKeyGenerate (tk : Fin 128)
  /-- CIPHER_KEY_ERASE (R353): Command 0x0B05 erases a slot and revokes bound jobs. -/
  | cipherKeyErase (tk : Fin 128)
  /-- CIPHER_JOB (R369): Command 0x0B10 runs a CBC, CTR, GCM, CCM or CMAC job. -/
  | cipherJob (tk : Fin 128)
  /-- GRAIN_WORD (R373): Every 512 input bits the conditioner emits a word that goes to the first consumer wanting it. -/
  | grainWord (raw : BitVec 512)
  /-- GRAIN_RESEED (R376): Every 2^20 cycles the countermeasure generator is reseeded with one word. -/
  | grainReseed (raw : BitVec 512)
  /-- HEALTH_FAILURE (R380): A health test fails; output stops, queue flushes, waiting requests fail and start-up test restarts. -/
  | healthFailure (src : Nat) (test : Nat) (phase : Nat) (count : Nat)
  /-- GRAIN_RAW_RUN_END (R382): A raw-sample run ends and the start-up test runs. -/
  | grainRawRunEnd (samples : Bytes)
  /-- GRAIN_STATUS (R385): Command 0x0C01 returns Grain state. -/
  | grainStatus (tk : Fin 128)
  /-- GRAIN_READ (R378): Command 0x0C02 gathers random bytes from the queue. -/
  | grainRead (tk : Fin 128)
  /-- GRAIN_RAW_READ (R382): Command 0x0C03 returns raw samples of one source. -/
  | grainRawRead (tk : Fin 128)
  /-- SUPPLY_CHECK_RELEASE (R398): A waiting storage operation passes the supply check and starts. -/
  | supplyCheckRelease (vhold : Nat)
  /-- BLOCK_RETIRED (R414): The die reports a program or erase failed; the block is retired and relocated. -/
  | blockRetired (block : Nat)
  /-- PARAMETER_SCAN (R415): Every 24 h every live parameter-store record is read and sectors refreshed as needed. -/
  | parameterScan (found : List (Nat × Nat)) (lost : List (Nat × Nat))
  /-- VAULT_SCAN (R415): Every STORE.SCAN_PERIOD every written vault page is read and blocks relocated as needed. -/
  | vaultScan (found : List ScanHit)
  /-- STORE_STATUS (R419): Command 0x0D01 returns store and partition state. -/
  | storeStatus (tk : Fin 128)
  /-- STORE_CAPTURE_READ (R419): Command 0x0D02 returns capture records. -/
  | storeCaptureRead (tk : Fin 128)
  /-- STORE_HOST_APPEND (R419): Command 0x0D03 appends a host record. -/
  | storeHostAppend (tk : Fin 128)
  /-- STORE_HOST_READ (R419): Command 0x0D04 returns host records. -/
  | storeHostRead (tk : Fin 128)
  /-- STORE_HOST_CLEAR (R419): Command 0x0D05 erases the HOST partition. -/
  | storeHostClear (tk : Fin 128)
  /-- STORE_CHARTER_WRITE (R406): Command 0x0D06 collects charter parts and writes the page at COMMIT. -/
  | storeCharterWrite (tk : Fin 128)
  /-- STORE_CHARTER_LOCK (R406): Command 0x0D07 programs both charter lock bits. -/
  | storeCharterLock (tk : Fin 128)
  /-- TEST_STRIP (R430): Every MEM.STRIP_INTERVAL the Test strip borrows and marches one strip. -/
  | testStrip (march : Option (Bool × Bool))
  /-- GUARD_VIOLATION (R428): A master access violates its guards; it is logged and the master's outcome applies. -/
  | guardViolation (g : GuardHit)
  /-- CORRECTED_WORD (R422): SEC-DED corrects a bank word and writes it back. -/
  | correctedWord (bank : Fin 24) (addr : Nat)
  /-- MEM_STATUS (R437): Command 0x0E01 returns Test strip and bank state. -/
  | memStatus (tk : Fin 128)
  /-- MEM_GUARD_LOG_READ (R437): Command 0x0E02 returns guard log entries. -/
  | memGuardLogRead (tk : Fin 128)
  /-- MEM_STRIP_RUN (R437): Command 0x0E03 tests every strip of a bank. -/
  | memStripRun (tk : Fin 128)
  /-- MEM_DMA_READ (R437): Command 0x0E04 frees and returns DMA ring entries. -/
  | memDmaRead (tk : Fin 128)
  /-- SENSOR_CONVERSION (R444): A sensor converts at its period or on a router trigger and its state is judged. -/
  | sensorConversion (n : Fin 16) (v : Int) (routed : Bool)
  /-- LID_MESH (R446): The M-die lid or mesh comparator changes, writes event 0x0F02 and may erase key slots. -/
  | lidMesh (kind : Nat)
  /-- SAFELIGHT_RESTART (R441): The Safelight watchdog expires or its guard is violated and it restarts within 2 ms. -/
  | safelightRestart (cause : Nat) (lost : Nat)
  /-- SAFE_STATUS (R457): Command 0x0F01 returns Safelight state. -/
  | safeStatus (tk : Fin 128)
  /-- SAFE_SENSOR_READ (R457): Command 0x0F02 returns a sensor's value and state. -/
  | safeSensorRead (tk : Fin 128)
  /-- SAFE_LOG_READ (R457): Command 0x0F03 returns LOG records. -/
  | safeLogRead (tk : Fin 128)
  /-- UPDATE_BEGIN (R457): Command 0x0F04 erases an image partition. -/
  | updateBegin (tk : Fin 128)
  /-- UPDATE_WRITE (R451): Command 0x0F05 writes image bytes at NEXT_OFFSET. -/
  | updateWrite (tk : Fin 128)
  /-- UPDATE_VERIFY (R451): Command 0x0F06 checks header, hash, signature and rollback of an image. -/
  | updateVerify (tk : Fin 128)
  /-- UPDATE_STATUS (R457): Command 0x0F07 returns image states and the rollback counter. -/
  | updateStatus (tk : Fin 128)
  /-- UPDATE_CONFIRM (R453): Command 0x0F08 confirms the trial image and raises the rollback counter. -/
  | updateConfirm (tk : Fin 128)
  /-- COLD_START (R462): PD0 AON leaves power-on reset without a valid contact sheet and the cold start sequence runs. -/
  | coldStart (env : StartEnv)
  /-- WARM_START (R462): The M-die reset releases with a valid contact sheet and the warm start sequence runs. -/
  | warmStart (env : StartEnv)
  /-- SUPPLY_FAULT (R463): VBAT below 5.5 V for 20 µs; trigger 10, outputs off and the hold-up flush runs. -/
  | supplyFault (vbat : Nat) (vhold : Nat)
  /-- LF_SEQUENCE_END (R220): A command LF sequence (LF.BURST or diagnosis segment) ends its quench; the command completes or continues, and an unbooked access sequence that waited starts. -/
  | lfSequenceEnd (meas : LfMeas)
  /-- CIPHER_JOB_COMPLETE (R355): A cipher job finishes its last block, its result is delivered, its context frees for a waiting command and a shadow key may land. -/
  | cipherJobComplete (ctx : Fin 8)
  /-- GRAIN_READ_DEADLINE (R378): A GRAIN.READ still short of LENGTH at its deadline completes TIMEOUT and its bytes are zeroed. -/
  | grainReadDeadline (tk : Fin 128)
  /-- GRAIN_CONSUMER_WAIT_EXPIRE (R378): An internal queue request of the Rangefinder (200 µs) or access engine or Safelight (1 ms) still short when its wait ends fails, and its consumer skips its cycle or session. -/
  | grainConsumerWaitExpire (consumer : Nat)
  /-- RANGE_CABLE_DEADLINE (R267): A RANGE.CABLE whose first segment has not started by its deadline completes TIMEOUT. -/
  | rangeCableDeadline (tk : Fin 128)
  /-- CARD_APDU_DEADLINE (R303): A FIXER.CARD_APDU whose deadline passes completes TIMEOUT. -/
  | cardApduDeadline (tk : Fin 128)
  /-- CARD_REPLY (R289): A card returns its ATR or an APDU response, advancing authentication or completing a forwarded APDU. -/
  | cardReply (slot : Fin 2) (bytes : Bytes)
  /-- CARD_WAITING_TIME_EXCEEDED (R288): A card exceeds WWT, CWT or BWT; this is a card error and the card is deactivated. -/
  | cardWaitingTimeExceeded (slot : Fin 2)
  /-- WEAR_CREDIT_GAIN (R412): A ring partition's wear credit reaches one block, so a waiting HOST append, LOG page or blocked P25 may proceed. -/
  | wearCreditGain (part : Fin 6)
  /-- F_BROWN_OUT (R492): The F die's supply falls to its brown-out threshold and the F die resets, losing retained buffer and speed ring when both supplies are gone. -/
  | fBrownOut (both : Bool)
  /-- READ_STATUS (R39): SPI instruction 0x05 returns the status byte with READY, IRQ and RESET_SEEN in every power state. -/
  | readStatus
  /-- HOST_CS_N_WAKE (R39): A HOST_CS_N falling edge while PD3 CORE is off requests a wake and starts the HOST.HOLD period once READY is 1. -/
  | hostCsNWake
  /-- MAILBOX_TAKE (R52): The Steward takes a doorbelled mailbox, applies the ordered checks, journals acceptance and clears CMD_OWNER. -/
  | mailboxTake
  /-- RESPONSE_POST (R47): A finished operation's response fragment is posted into the lowest free response mailbox when one frees. -/
  | responsePost
  /-- EVT_IRQ_DELAY_EXPIRE (R61): The oldest unread event record has waited HOST.EVT_IRQ_DELAY and EVT is set. -/
  | evtIrqDelayExpire
  /-- HEARTBEAT (R44): Every 1 ms at L0 or L1 the Steward increments HEARTBEAT in WINDOW_HEADER. -/
  | heartbeat
  /-- HOST_HOLD_EXPIRE (R40): HOST.HOLD after an SPI transaction or wake runs out and PD3 CORE may sleep deeper than L1. -/
  | hostHoldExpire
  /-- T1_RETRY (R66): Every HOST.T1_RETRY unreleased response fragments are sent again as KIND 0x02 frames. -/
  | t1Retry
  /-- T1_REPLAY_TIMEOUT (R475): Replay outcomes of T1 tickets still unsent 5 s after trigger 12 are posted to the mailboxes with PATH_MOVED. -/
  | t1ReplayTimeout
  /-- SLEW_END (R108): A running slew's duration runs out and slew_adj returns to 0. -/
  | slewEnd
  /-- EPOCH_FLOOR_WRITE (R90): The epoch comes within 3,600 s of the floor and a new floor of epoch + 7,200 s is written. -/
  | epochFloorWrite
  /-- MODE_TRANSITION_COMPLETE (R116): The domains of the new mode are ready and MODE_WORD takes the new code with event 0x0401. -/
  | modeTransitionComplete
  /-- DRAIN_TIMEOUT (R118): 20 ms after a transition withdraws a domain, operations still running complete ABORTED. -/
  | drainTimeout
  /-- WATCH_WINDOW_EXPIRE (R115): POWER.WATCH_WINDOW runs out in WATCH, trigger 7 to PARKED. -/
  | watchWindowExpire
  /-- HOLDOVER_EXIT (R120): Replay and flush have finished; trigger 12 leaves HOLDOVER for the mode chosen from the stored mode. -/
  | holdoverExit
  /-- NET_IDLE_EXPIRE (R122): POWER.NET_IDLE passes without a frame after a CAN wake and PD8 NET switches off. -/
  | netIdleExpire
  /-- DEPTH_CHOICE (R126): When the Steward goes idle or a booking changes, Eave chooses the PD3 CORE depth and wake instant. -/
  | depthChoice
  /-- EAVE_WAKE (R126): Eave's booked wake instant arrives and domains are switched on for the booking. -/
  | eaveWake
  /-- XS_STABLE (R497): XS has run 64 stable cycles and Eave leaves the PD0 oscillator, permitting L3 and L4. -/
  | xsStable
  /-- DECISION_POINT (R146): The decision point is reached; the mode is rechecked and the DECIDED marker written or the exposure ends MODE_LOST. -/
  | decisionPoint
  /-- EXPOSE_COMMIT_SEND (R150): At INSTANT − 2 ms the M die checks the mode and sends EXPOSE_COMMIT to the F die. -/
  | exposeCommitSend
  /-- FIXER_PREPARE_TIMEOUT (R152): No PREPARED within 5 ms or by INSTANT − 2 ms, or no commit acknowledgement by INSTANT − 1 ms; rollback and FIXER_ABSENT. -/
  | fixerPrepareTimeout
  /-- EXPOSURE_INSTANT (R147): Shutter 12 fires at the instant; shadows become active, the table flips, CONFIG_GEN rises and the ticket completes. -/
  | exposureInstant
  /-- RECORD_READ (R274): Lane request for buffered records, speed-ring samples, status block or certificate. -/
  | recordRead
  /-- TIME_PROPOSE (R285): Lane request proposing a Fixer clock adjustment, judged against the allowance. -/
  | timePropose
  /-- TOKEN_IDENTITY (R274): Lane request reporting the driver token; a DRIVER_TOKEN record is written when it changed. -/
  | tokenIdentity
  /-- CARD_REQUEST (R290): Lane request forwarding an allow-listed APDU or warm reset to a card interface. -/
  | cardRequest
  /-- EPOCH_SAMPLE (R295): Lane request carrying the epoch and TAIL_SEQ; the F die frees its buffer, resends records and events and answers. -/
  | epochSample
  /-- EXPOSE_PREPARE (R300): Lane request with class 0x09 items; the F die validates and holds the set or refuses. -/
  | exposePrepare
  /-- EXPOSE_COMMIT (R300): Lane request arming the prepared set, or applying it after lane recovery. -/
  | exposeCommit
  /-- EXPOSE_ROLLBACK (R151): Lane request discarding a prepared or armed F-die set. -/
  | exposeRollback
  /-- LANE_RESPONSE (R274): The M die receives the F die's answer to one request, with APPLIED_GEN, card state and HEAD_SEQ. -/
  | laneResponse
  /-- RECORD_APPEND (R411): The storage controller receives a Fixer record and discards, replaces, appends or refuses it by SEQ. -/
  | recordAppend
  /-- FIXER_EVENT (R507): The M die receives a Fixer event record and places it in the log once. -/
  | fixerEvent
  /-- WAKE_STROBE (R273): The F die raises the wake strobe and Eave books PD3 CORE at L2 or shallower. -/
  | wakeStrobe
  /-- EPOCH_SAMPLE_TIMER (R20): Every 60 s while the lane is up the M die sends EPOCH_SAMPLE. -/
  | epochSampleTimer
  /-- LANE_PROBE (R476): Every 1 s while the lane is down the M die sends EPOCH_SAMPLE as a probe. -/
  | laneProbe
  /-- LANE_REQUEST_TIMEOUT (R273): A lane request goes 50 ms unanswered; after three the lane is down, event 0x0909 and outstanding requests complete. -/
  | laneRequestTimeout
  /-- CYCLE_VERDICT (R176): After the last response slot the engine forms CMAC, counter and zone verdicts and requests ranging. -/
  | cycleVerdict
  /-- SUSPECT_HOLD_EXPIRE (R183): ACCESS.SUSPECT_HOLD passes without an invalid response and SUSPECT clears. -/
  | suspectHoldExpire
  /-- APPROACH_MAX_EXPIRE (R159): ACCESS.APPROACH_MAX passes without unlock; answered slots become SETTLED and trigger 8 acts. -/
  | approachMaxExpire
  /-- PARK_POLL_STOP (R159): The standing time reaches ACCESS.PARK_POLL_STOP and polling stops; the engine becomes DORMANT. -/
  | parkPollStop
  /-- CAB_ABSENT_EXPIRE (R184): No token in a CAB zone for ACCESS.CAB_ABSENT; TOKEN_IDENTITY with slot 0xFF is sent. -/
  | cabAbsentExpire
  /-- WALKAWAY_EXPIRE (R185): No valid token in an UNLOCK or CAB zone for ACCESS.WALKAWAY gives a lock verdict. -/
  | walkawayExpire
  /-- RELEASE_FRAME (R189): Shutter 14 fires; a release frame consumes a counter and replaces any waiting one. -/
  | releaseFrame
  /-- RELEASE_FRAME_TRANSMITTED (R189): The CAN controller reports the first release frame transmitted, trigger 5 to DRIVE. -/
  | releaseFrameTransmitted
  /-- LEARN_TIMEOUT (R195): ACCESS.LEARN_TIMEOUT passes without LEARN_ACK; the entry's key is erased and LEARN_PARTIAL completes. -/
  | learnTimeout
  /-- LF_AUTO_DIAG (R219): In CAB or DRIVE a channel whose diagnosis is older than LF.DIAG_PERIOD is diagnosed. -/
  | lfAutoDiag
  /-- LF_COMMAND_SEQUENCE_START (R220): A waiting command sequence or diagnosis segment finds a gap in access bookings and starts. -/
  | lfCommandSequenceStart
  /-- UHF_LOCK (R228): Lock is declared and the front end enters RX or TX_RAMP when conditions are met. -/
  | uhfLock
  /-- UHF_LOCK_TIMEOUT (R228): No lock within 50 µs; recalibrate, or after a second failure return to IDLE with UHF_LOCK_FAIL. -/
  | uhfLockTimeout
  /-- UHF_LOCK_LOST (R228): Lock is lost in RX, returning to SETTLE, or in TX, cutting the transmission. -/
  | uhfLockLost
  /-- UHF_RAMP_UP_DONE (R227): The 16 µs PA ramp completes and the front end enters TX. -/
  | uhfRampUpDone
  /-- UHF_TX_END (R227): The last bit is sent and the front end enters TX_DOWN. -/
  | uhfTxEnd
  /-- UHF_RAMP_DOWN_DONE (R227): The ramp-down completes; IDLE or SETTLE, RF_REQ released and the ticket completes. -/
  | uhfRampDownDone
  /-- UHF_RX_WINDOW_END (R227): A receive window ends and the front end returns to IDLE or SETTLE. -/
  | uhfRxWindowEnd
  /-- UHF_TX_DEADLINE (R232): A transmit or receive request reaches its deadline unmet and completes TX_LATE or UHF_RX_LATE. -/
  | uhfTxDeadline
  /-- DUTY_BUCKET_ROLL (R244): At each whole epoch minute the oldest duty ledger bucket ages out. -/
  | dutyBucketRoll
  /-- RANGING_VERDICT (R257): The session's verdict and distance are computed and event 0x0801 written. -/
  | rangingVerdict
  /-- SPEED_SAMPLE (R278): At each whole Fixer second the speed is computed and written to the speed ring. -/
  | speedSample
  /-- ACTIVITY_RECORD (R292): At each whole Fixer minute an ACTIVITY record closes the minute, with ODOMETER and signature when due. -/
  | activityRecord
  /-- SENSOR_CHECK (R281): Every FIXER.SENSOR_PERIOD the F die sends CHECK to the paired sensor. -/
  | sensorCheck
  /-- SENSOR_REPLY_TIMEOUT (R280): No COUNT within 20 ms; CHECK is retried, and after three tries SENSOR kind 4 is written. -/
  | sensorReplyTimeout
  /-- SUPPLY_LOSS_WARNING (R272): The supply in use falls below 2.40 V with the other absent; a checkpoint is written. -/
  | supplyLossWarning
  /-- FIXER_SLEW_END (R285): A backward slew of the Fixer clock has taken its whole DELTA and ends. -/
  | fixerSlewEnd
  /-- F_DIE_START (R297): The F die starts after its reset; after loss of both supplies it restores clock and chain and writes GAP and POWER kind 3. -/
  | fDieStart
  /-- GENERATION_RETIRE (R324): A retiring table copy is retired when its last frame ends or at the drain bound. -/
  | generationRetire
  /-- P27_TX_SCAN (R337): Every 50 µs the switch takes host-marked TX slots of P27_AREA. -/
  | p27TxScan
  /-- CIPHER_LOOP_RESULT (R323): A P26 cipher loop job completes and its result re-enters the switch or ends FORMAT_DROP. -/
  | cipherLoopResult
  /-- AUDIT_PASS (R338): Every SWITCH.AUDIT_PERIOD the buffer manager audits cells and returns leaked ones. -/
  | auditPass
  /-- STARTUP_TEST_PASS (R375): The Grain start-up test passes and output resumes with event 0x0C04. -/
  | startupTestPass
  /-- STORE_OPERATION_DONE (R399): A flash or vault program or erase finishes and the next queued operation is chosen. -/
  | storeOperationDone
  /-- LOG_FLUSH (R410): STORE.LOG_FLUSH expires and the LOG page is programmed. -/
  | logFlush
  /-- CAPTURE_FLUSH (R410): STORE.CAPTURE_FLUSH expires and the CAPTURE page is programmed. -/
  | captureFlush
  /-- HOST_FLUSH (R410): STORE.HOST_FLUSH expires and the HOST page is programmed. -/
  | hostFlush
  /-- STRIP_YIELD (R431): A master accesses the borrowed strip; the march stops, restores and the access proceeds. -/
  | stripYield
  /-- LOG_SORT_EXPIRE (R447): A record has stayed SAFE.LOG_SORT in the sort buffer and moves to the page buffer with lower keys. -/
  | logSortExpire
  /-- STOW_CHECK (R442): In STOWED every SAFE.STOW_CHECK PD2 SAFE wakes for sensor conversions and due scans. -/
  | stowCheck
  /-- TRIAL_WINDOW_EXPIRE (R453): UPDATE.TRIAL_WINDOW passes; the trial image becomes CONFIRMED or REJECTED. -/
  | trialWindowExpire
  /-- HEARTBEAT_TIMEOUT (R453): HEARTBEAT does not start within 5 s of release from reset and the trial image is rejected. -/
  | heartbeatTimeout
  /-- VBAT_RETURN (R465): VBAT stays at or above 6.5 V for 10 ms and the warm start begins. -/
  | vbatReturn
  /-- WATCHDOG (R467): The Steward watchdog goes 50 ms unserviced; trigger 11, flush and reset. -/
  | watchdog
  /-- LOCKSTEP (R467): The two Steward cores disagree; trigger 11, flush and reset. -/
  | lockstep
  /-- DIE_LINK (R467): The V die does not report ready or returns invalid status; trigger 11 and reset. -/
  | dieLink
  /-- LOCK_FRAME_TIMEOUT (R199): An ACCESS.LOCK whose lock frame is not transmitted within 100 ms completes BODY_NOT_SENT. -/
  | lockFrameTimeout
  /-- COEX_LEAD_EXPIRE (R232): UHF.COEX_LEAD after RF_REQ assertion runs out and, with lock and RF_GNT already present, the PA ramp starts. -/
  | coexLeadExpire
  /-- PD0_AON_POWER_LOSS (R465): VBAT and VHOLD both fall below 2.5 V; PD0 AON loses power and the contact sheet, epoch and retained state are lost. -/
  | pd0AonPowerLoss
  /-- STANDING_TIME_MINUTE (R120): At each minute boundary in PARKED the standing time is stored in the contact sheet. -/
  | standingTimeMinute
  deriving DecidableEq, Repr

end Sys2Proof
end

