-- ==== Sys2Proof/Machine/Bits.lean ====
section
/-! DEFINITION. Byte order and bit fields (R6, R7), saturating and wrapping counts, and the conversion of durations to
epoch units (R82, R84). -/

namespace Sys2Proof.Machine

/-- `n` bytes of `v`, little-endian (R7). -/
def leBytes : Nat → Nat → Bytes
  | 0, _ => []
  | n + 1, v => BitVec.ofNat 8 v :: leBytes n (v / 256)

/-- The number a little-endian byte string spells (R7). -/
def leNat : Bytes → Nat
  | [] => 0
  | b :: bs => b.toNat + 256 * leNat bs

/-- `n` bytes of `v`, most significant first. -/
def beBytes (n v : Nat) : Bytes := (leBytes n v).reverse

/-- The number a big-endian byte string spells. -/
def beNat (b : Bytes) : Nat := leNat b.reverse

/-- `n` zero bytes. -/
def zeros (n : Nat) : Bytes := List.replicate n 0

/-- `len` bytes of `b` from offset `off`. -/
def slice (b : Bytes) (off len : Nat) : Bytes := (b.drop off).take len

/-- Byte at offset `off`, as a number; 0 beyond the end. -/
def u8At (b : Bytes) (off : Nat) : Nat := (b.getD off 0).toNat
/-- 16-bit field at offset `off` (R7). -/
def u16At (b : Bytes) (off : Nat) : Nat := leNat (slice b off 2)
/-- 32-bit field at offset `off` (R7). -/
def u32At (b : Bytes) (off : Nat) : Nat := leNat (slice b off 4)
/-- 64-bit field at offset `off` (R7). -/
def u64At (b : Bytes) (off : Nat) : Nat := leNat (slice b off 8)

/-- Bits [`lo`+`w`−1:`lo`] of `v` (R6). -/
def bitsOf (v lo w : Nat) : Nat := (v / 2 ^ lo) % 2 ^ w

/-- A `w`-bit number read as two's complement. -/
def sext (w v : Nat) : Int := if v < 2 ^ (w - 1) then (v : Int) else (v : Int) - 2 ^ w

/-- An integer as a `w`-bit two's complement number. -/
def unsext (w : Nat) (v : Int) : Nat := (v % (2 ^ w : Int)).toNat

/-- One bit as a number. -/
def b1 (b : Bool) (n : Nat := 0) : Nat := if b then 2 ^ n else 0

/-- A count that stops at its largest value. -/
def satAdd (max v k : Nat) : Nat := min max (v + k)

/-- A count that wraps past its largest value. -/
def wrapAdd (bits v k : Nat) : Nat := (v + k) % 2 ^ bits

/-- Every byte of the string is zero (R8). -/
def allZero (b : Bytes) : Bool := b.all (· == 0)

/-- The bytes padded with zeros to `n`. -/
def padTo (n : Nat) (b : Bytes) : Bytes := b ++ zeros (n - b.length)

/-- Padded to a multiple of 4 bytes (R73). -/
def pad4 (b : Bytes) : Bytes := b ++ zeros ((4 - b.length % 4) % 4)

/-- One second in epoch units (R82). -/
def oneSec : Nat := 2 ^ 30

/-- Microseconds in epoch units, rounded up to a whole unit. -/
def lsbOfUs (us : Nat) : Nat := (us * 2 ^ 30 + 999999) / 1000000
/-- Milliseconds in epoch units, rounded up to a whole unit. -/
def lsbOfMs (ms : Nat) : Nat := (ms * 2 ^ 30 + 999) / 1000
/-- Seconds in epoch units. -/
def lsbOfS (s : Nat) : Nat := s * 2 ^ 30
/-- Whole seconds of a span of epoch units. -/
def secOfLsb (l : Nat) : Nat := l / 2 ^ 30
/-- Whole milliseconds of a span of epoch units. -/
def msOfLsb (l : Nat) : Nat := l * 1000 / 2 ^ 30
/-- Whole microseconds of a span of epoch units. -/
def usOfLsb (l : Nat) : Nat := l * 1000000 / 2 ^ 30

/-- The numbers `lo`, `lo`+1, … : `n` of them. -/
def upFrom (lo n : Nat) : List Nat := (List.range n).map (· + lo)

/-- Which of the low `n` bits of `v` are set, lowest first. -/
def setBits (n v : Nat) : List Nat := (List.range n).filter (fun i => v.testBit i)

/-- The word with bits set at the listed places. -/
def maskOf (l : List Nat) : Nat := l.foldl (fun m i => m ||| 2 ^ i) 0

/-- Value of `k` in an association list. -/
def assoc {α β : Type} [DecidableEq α] (l : List (α × β)) (k : α) : Option β := (l.find? (fun p => p.1 == k)).map (·.2)

/-- The association list with `k` set to `v`: in place where `k` is listed, at the end otherwise. -/
def assocSet {α β : Type} [DecidableEq α] : List (α × β) → α → β → List (α × β)
  | [], k, v => [(k, v)]
  | p :: ps, k, v => if p.1 = k then (k, v) :: ps else p :: assocSet ps k v

/-- The association list without `k`. -/
def assocDel {α β : Type} [DecidableEq α] (l : List (α × β)) (k : α) : List (α × β) := l.filter (fun p => p.1 ≠ k)

end Sys2Proof.Machine
end

