-- ==== Sys2Proof/Machine/Crc.lean ====
section
/-! DEFINITION. The check codes of the spec: CRC-16/CCITT-FALSE (R50), CRC-8/SAE-J1850 (R163, R389), CRC-32 (R239) and
the CRC of T = 1 (R288). -/

namespace Sys2Proof.Machine

/-- `k` shifts of a CRC register of width `w` without reflection. -/
def crcShift (w poly : Nat) : Nat → Nat → Nat
  | 0, c => c
  | k + 1, c =>
    let c2 := (2 * c) % 2 ^ w
    crcShift w poly k (if c.testBit (w - 1) then c2 ^^^ poly else c2)

/-- A CRC of width `w` without reflection, most significant bit first. -/
def crcMsb (w poly : Nat) (init : Nat) (b : Bytes) : Nat :=
  b.foldl (fun c x => crcShift w poly 8 (c ^^^ (x.toNat * 2 ^ (w - 8)))) init

/-- CRC-16/CCITT-FALSE (R50). -/
def crc16 (b : Bytes) : Nat := crcMsb 16 0x1021 0xFFFF b

/-- CRC-8/SAE-J1850: polynomial 0x1D, initial value and final XOR 0xFF (R163). -/
def crc8 (b : Bytes) : Nat := crcMsb 8 0x1D 0xFF b ^^^ 0xFF

/-- `k` shifts of a reflected CRC register. -/
def crcReflected (poly : Nat) : Nat → Nat → Nat
  | 0, c => c
  | k + 1, c => crcReflected poly k (if c.testBit 0 then (c / 2) ^^^ poly else c / 2)

/-- CRC-32 as IEEE 802.3 computes it: reflected, initial value and final XOR all ones (R239). -/
def crc32 (b : Bytes) : Nat := b.foldl (fun c x => crcReflected 0xEDB88320 8 (c ^^^ x.toNat)) 0xFFFFFFFF ^^^ 0xFFFFFFFF

/-- The CRC of a T = 1 block, by ISO/IEC 13239: polynomial 0x1021 reflected, initial value and final XOR all ones (R288; log
entry 206). -/
def crcT1 (b : Bytes) : Nat := b.foldl (fun c x => crcReflected 0x8408 8 (c ^^^ x.toNat)) 0xFFFF ^^^ 0xFFFF

end Sys2Proof.Machine
end

