-- ==== Sys2Proof/Machine/Memory.lean ====
section
/-! DEFINITION. Byte memory as a list of cells in canonical form: addresses strictly rising, no cell equal to what an
unlisted address reads as. The DP window (R43) is held so; an unlisted byte reads 0x00. -/

namespace Sys2Proof.Machine

/-- What a byte that nothing has written reads as (R43, R44: the rest of the header reads zero; DESIGN CHOICE for the
mailboxes, the ring and P27_AREA). -/
def Memory.blank : Byte := 0

/-- Canonical form: addresses strictly rising from `lo` on, no blank cell. -/
def Memory.wfFrom : Nat → List Host.Cell → Bool
  | _, [] => true
  | lo, (a, b) :: r => decide (lo ≤ a) && b != Memory.blank && Memory.wfFrom (a + 1) r

/-- The memory is in canonical form. -/
def Memory.wf (m : List Host.Cell) : Bool := Memory.wfFrom 0 m

/-- One byte. -/
def Memory.read (m : List Host.Cell) (a : Nat) : Byte :=
  match m.find? (fun c => c.1 == a) with
  | some c => c.2
  | none => Memory.blank

/-- One byte written; writing the blank value removes the cell. -/
def Memory.write : List Host.Cell → Nat → Byte → List Host.Cell
  | [], a, b => if b = Memory.blank then [] else [(a, b)]
  | c :: r, a, b =>
    if a < c.1 then (if b = Memory.blank then c :: r else (a, b) :: c :: r)
    else if a = c.1 then (if b = Memory.blank then r else (a, b) :: r)
    else c :: Memory.write r a b

/-- `n` bytes from address `a`. -/
def Memory.readBytes (m : List Host.Cell) (a n : Nat) : Bytes := (upFrom a n).map (Memory.read m)

/-- A byte string written from address `a` on. -/
def Memory.writeBytes : List Host.Cell → Nat → Bytes → List Host.Cell
  | m, _, [] => m
  | m, a, b :: bs => Memory.writeBytes (Memory.write m a b) (a + 1) bs

end Sys2Proof.Machine
end

