-- ==== Sys2Proof/Config.lean ====
section
/-! DEFINITION. What one part fixes (identity, builds, keys) and the free values: constants without a body, so that
nothing can be proved about which value they have. A free value is applied to the counter `State.free` or to operands. -/

namespace Sys2Proof.Config

/-- ID_PART [7:4], the M-die revision (R41). -/
opaque dieRevision : BitVec 4
/-- ID_STEWARD [15:0], the Steward build number (R41). -/
opaque stewardBuild : BitVec 16
/-- ID_FIXER [15:0], the Fixer build number (R41). -/
opaque fixerBuild : BitVec 16
/-- ID_PART [3:0] once the F die has answered (R41). -/
opaque fixerRevision : BitVec 4
/-- The 64-bit serial number of the part (R41). -/
opaque serial : BitVec 64
/-- A free number: anything at all, one per use of the counter. -/
opaque freeNat : Nat → Nat
/-- A free signed number, one per use of the counter. -/
opaque freeInt : Nat → Int
/-- A free bit, one per use of the counter. -/
opaque freeBool : Nat → Bool
/-- A free byte string of any length, one per use of the counter. -/
opaque freeBytes : Nat → Bytes
/-- Whole periods of the F die's crystal XM that pass while the epoch advances by the second argument (R25, R271):
nothing fixes the phase or drift of the two oscillators. -/
opaque xmPeriods : Nat → Nat → Nat

/-- The F-die serial number (R292, R304). -/
opaque fixerSerial : BitVec 64
/-- Public key of the Fixer certificate, X ‖ Y, each most significant byte first (R304). -/
opaque fixerPublicKey : BitVec 512
/-- Issue stamp of the Fixer certificate (R304). -/
opaque fixerIssued : BitVec 64
/-- Signature of the Fixer certificate, r ‖ s, by the Nelantand Fixer root (R304). -/
opaque fixerSignature : BitVec 512
/-- Transport key KT_F, AES-256, most significant byte first (R271). -/
opaque fixerTransportKey : BitVec 256
/-- Card root public key, X ‖ Y, each most significant byte first (R271). -/
opaque cardRootKey : BitVec 512
/-- A 64-byte ECDSA signature r ‖ s made with the F die's signing key (R294): which of the valid ones is open. -/
opaque fixerSign : Nat → Bytes → Bytes
/-- The provisioning KEK of slot 0, AES-256, as the integrator's order agreed it (R347). -/
opaque kek : BitVec 256
/-- The device storage key, AES-256, under which slot records are wrapped in the parameter store (R351). -/
opaque deviceKey : BitVec 256
/-- MAC address of an Ethernet port as the part sends from it (R331). -/
opaque portMac : Nat → Nat
/-- 768 MHz ticks from a request to the next zero crossing of the LF carrier reference, modulo its period (R208): nothing
fixes the reference's phase. -/
opaque carrierWait : Nat → Nat
/-- Epoch units that an active quench takes beyond a whole multiple of its longest time (R207). -/
opaque quenchTime : Nat → Nat
/-- Whether received symbols that are not those expected still correlate with them (R254, R257): first the expected STS. -/
opaque stsCorrelates : Bytes → Bytes → Bool
/-- Epoch units by which a pulse on capture input 0x61 outlasts one, modulo 100 µs (R254, R255). -/
opaque pulseWidth : Nat
/-- The check bits that a data bit, 0–63, of an 8-byte group of the parameter store enters (R388): the spec names a (72,64) code
and not its columns. -/
opaque secDedColumn : Nat → BitVec 8
/-- The polynomial, of degree 14, over which the vault's BCH code builds its field (R408). -/
opaque bchField : Nat
/-- Resonance found by an LF sweep: F0 in Hz, Q × 10 and ESR in 0.1 Ω from the amplitudes and phases (R218). -/
opaque lfFit : List (Nat × Int) → Nat × Nat × Nat

/-- Guard region `r` of master `m` as the Steward firmware programs it during start-up: BASE, LIMIT and PERM (R427). -/
opaque guardRegion : Nat → Nat → Nat × Nat × Nat
/-- The buffer of the job behind region `r` (12–15) of a master while that job runs: its first 4-KiB page and how many further
pages it takes; R427 gives the region to the buffer and does not say where the buffer lies. -/
opaque jobBuffer : Nat → Nat → Nat × Nat
/-- Nelantand Steward root public key, X ‖ Y, each most significant byte first (R449). -/
opaque stewardRootKey : BitVec 512

end Sys2Proof.Config
end

