-- ==== Sys2Proof/Machine/Crypto.lean ====
section
/-! DEFINITION. The cryptographic functions that the spec names by their standards: AES (FIPS 197) in CBC, CTR, GCM, CCM
and CMAC modes and RFC 3394 key wrap (R345), SHA-256 and P-256 signature verification (R449). Blocks and keys are byte
strings, most significant byte first (R346). -/

namespace Sys2Proof.Machine

/-! ### AES -/

/-- Multiplication by x in GF(2⁸), on the byte's number. -/
def xtime (a : Nat) : Nat := if a < 128 then 2 * a else (2 * a) ^^^ 0x11B

/-- Product in GF(2⁸) over the `n` low bits of the second factor. -/
def gfSum : Nat → Nat → Nat → Nat
  | 0, _, _ => 0
  | n + 1, a, b => if b % 2 = 1 then a ^^^ gfSum n (xtime a) (b / 2) else gfSum n (xtime a) (b / 2)

/-- Product in GF(2⁸). -/
def gfMul (a b : Nat) : Nat := gfSum 8 b a

/-- The S-box of FIPS 197: the byte that each byte is replaced by. -/
def sboxTable : List Byte :=
  [0x63, 0x7c, 0x77, 0x7b, 0xf2, 0x6b, 0x6f, 0xc5, 0x30, 0x01, 0x67, 0x2b, 0xfe, 0xd7, 0xab, 0x76] ++
  [0xca, 0x82, 0xc9, 0x7d, 0xfa, 0x59, 0x47, 0xf0, 0xad, 0xd4, 0xa2, 0xaf, 0x9c, 0xa4, 0x72, 0xc0] ++
  [0xb7, 0xfd, 0x93, 0x26, 0x36, 0x3f, 0xf7, 0xcc, 0x34, 0xa5, 0xe5, 0xf1, 0x71, 0xd8, 0x31, 0x15] ++
  [0x04, 0xc7, 0x23, 0xc3, 0x18, 0x96, 0x05, 0x9a, 0x07, 0x12, 0x80, 0xe2, 0xeb, 0x27, 0xb2, 0x75] ++
  [0x09, 0x83, 0x2c, 0x1a, 0x1b, 0x6e, 0x5a, 0xa0, 0x52, 0x3b, 0xd6, 0xb3, 0x29, 0xe3, 0x2f, 0x84] ++
  [0x53, 0xd1, 0x00, 0xed, 0x20, 0xfc, 0xb1, 0x5b, 0x6a, 0xcb, 0xbe, 0x39, 0x4a, 0x4c, 0x58, 0xcf] ++
  [0xd0, 0xef, 0xaa, 0xfb, 0x43, 0x4d, 0x33, 0x85, 0x45, 0xf9, 0x02, 0x7f, 0x50, 0x3c, 0x9f, 0xa8] ++
  [0x51, 0xa3, 0x40, 0x8f, 0x92, 0x9d, 0x38, 0xf5, 0xbc, 0xb6, 0xda, 0x21, 0x10, 0xff, 0xf3, 0xd2] ++
  [0xcd, 0x0c, 0x13, 0xec, 0x5f, 0x97, 0x44, 0x17, 0xc4, 0xa7, 0x7e, 0x3d, 0x64, 0x5d, 0x19, 0x73] ++
  [0x60, 0x81, 0x4f, 0xdc, 0x22, 0x2a, 0x90, 0x88, 0x46, 0xee, 0xb8, 0x14, 0xde, 0x5e, 0x0b, 0xdb] ++
  [0xe0, 0x32, 0x3a, 0x0a, 0x49, 0x06, 0x24, 0x5c, 0xc2, 0xd3, 0xac, 0x62, 0x91, 0x95, 0xe4, 0x79] ++
  [0xe7, 0xc8, 0x37, 0x6d, 0x8d, 0xd5, 0x4e, 0xa9, 0x6c, 0x56, 0xf4, 0xea, 0x65, 0x7a, 0xae, 0x08] ++
  [0xba, 0x78, 0x25, 0x2e, 0x1c, 0xa6, 0xb4, 0xc6, 0xe8, 0xdd, 0x74, 0x1f, 0x4b, 0xbd, 0x8b, 0x8a] ++
  [0x70, 0x3e, 0xb5, 0x66, 0x48, 0x03, 0xf6, 0x0e, 0x61, 0x35, 0x57, 0xb9, 0x86, 0xc1, 0x1d, 0x9e] ++
  [0xe1, 0xf8, 0x98, 0x11, 0x69, 0xd9, 0x8e, 0x94, 0x9b, 0x1e, 0x87, 0xe9, 0xce, 0x55, 0x28, 0xdf] ++
  [0x8c, 0xa1, 0x89, 0x0d, 0xbf, 0xe6, 0x42, 0x68, 0x41, 0x99, 0x2d, 0x0f, 0xb0, 0x54, 0xbb, 0x16]

/-- SubBytes of one byte. -/
def subByte (a : Byte) : Byte := sboxTable.getD a.toNat 0

/-- The inverse S-box of FIPS 197. -/
def invTable : List Byte :=
  [0x52, 0x09, 0x6a, 0xd5, 0x30, 0x36, 0xa5, 0x38, 0xbf, 0x40, 0xa3, 0x9e, 0x81, 0xf3, 0xd7, 0xfb] ++
  [0x7c, 0xe3, 0x39, 0x82, 0x9b, 0x2f, 0xff, 0x87, 0x34, 0x8e, 0x43, 0x44, 0xc4, 0xde, 0xe9, 0xcb] ++
  [0x54, 0x7b, 0x94, 0x32, 0xa6, 0xc2, 0x23, 0x3d, 0xee, 0x4c, 0x95, 0x0b, 0x42, 0xfa, 0xc3, 0x4e] ++
  [0x08, 0x2e, 0xa1, 0x66, 0x28, 0xd9, 0x24, 0xb2, 0x76, 0x5b, 0xa2, 0x49, 0x6d, 0x8b, 0xd1, 0x25] ++
  [0x72, 0xf8, 0xf6, 0x64, 0x86, 0x68, 0x98, 0x16, 0xd4, 0xa4, 0x5c, 0xcc, 0x5d, 0x65, 0xb6, 0x92] ++
  [0x6c, 0x70, 0x48, 0x50, 0xfd, 0xed, 0xb9, 0xda, 0x5e, 0x15, 0x46, 0x57, 0xa7, 0x8d, 0x9d, 0x84] ++
  [0x90, 0xd8, 0xab, 0x00, 0x8c, 0xbc, 0xd3, 0x0a, 0xf7, 0xe4, 0x58, 0x05, 0xb8, 0xb3, 0x45, 0x06] ++
  [0xd0, 0x2c, 0x1e, 0x8f, 0xca, 0x3f, 0x0f, 0x02, 0xc1, 0xaf, 0xbd, 0x03, 0x01, 0x13, 0x8a, 0x6b] ++
  [0x3a, 0x91, 0x11, 0x41, 0x4f, 0x67, 0xdc, 0xea, 0x97, 0xf2, 0xcf, 0xce, 0xf0, 0xb4, 0xe6, 0x73] ++
  [0x96, 0xac, 0x74, 0x22, 0xe7, 0xad, 0x35, 0x85, 0xe2, 0xf9, 0x37, 0xe8, 0x1c, 0x75, 0xdf, 0x6e] ++
  [0x47, 0xf1, 0x1a, 0x71, 0x1d, 0x29, 0xc5, 0x89, 0x6f, 0xb7, 0x62, 0x0e, 0xaa, 0x18, 0xbe, 0x1b] ++
  [0xfc, 0x56, 0x3e, 0x4b, 0xc6, 0xd2, 0x79, 0x20, 0x9a, 0xdb, 0xc0, 0xfe, 0x78, 0xcd, 0x5a, 0xf4] ++
  [0x1f, 0xdd, 0xa8, 0x33, 0x88, 0x07, 0xc7, 0x31, 0xb1, 0x12, 0x10, 0x59, 0x27, 0x80, 0xec, 0x5f] ++
  [0x60, 0x51, 0x7f, 0xa9, 0x19, 0xb5, 0x4a, 0x0d, 0x2d, 0xe5, 0x7a, 0x9f, 0x93, 0xc9, 0x9c, 0xef] ++
  [0xa0, 0xe0, 0x3b, 0x4d, 0xae, 0x2a, 0xf5, 0xb0, 0xc8, 0xeb, 0xbb, 0x3c, 0x83, 0x53, 0x99, 0x61] ++
  [0x17, 0x2b, 0x04, 0x7e, 0xba, 0x77, 0xd6, 0x26, 0xe1, 0x69, 0x14, 0x63, 0x55, 0x21, 0x0c, 0x7d]

/-- InvSubBytes of one byte. -/
def invSub (a : Byte) : Byte := invTable.getD a.toNat 0

/-- Bytewise exclusive or. -/
def xorBytes (a b : Bytes) : Bytes := List.zipWith (· ^^^ ·) a b

/-- ShiftRows on a block, column by column. -/
def shiftRows (b : Bytes) : Bytes := (List.range 16).map (fun i => b.getD ((i + 4 * (i % 4)) % 16) 0)
/-- InvShiftRows. -/
def invShiftRows (b : Bytes) : Bytes := (List.range 16).map (fun i => b.getD ((i + 12 * (i % 4)) % 16) 0)

/-- One column multiplied by the circulant matrix of `m`. -/
def mixColumn (m : List Nat) (c : List Nat) : Bytes :=
  (List.range 4).map (fun r => BitVec.ofNat 8
    ((List.range 4).foldl (fun x k => x ^^^ gfMul (m.getD ((k + 4 - r) % 4) 0) (c.getD k 0)) 0))

/-- Every column of a block multiplied. -/
def mixColumns (m : List Nat) (b : Bytes) : Bytes :=
  (List.range 4).flatMap (fun c => mixColumn m ((slice b (4 * c) 4).map BitVec.toNat))

/-- The matrix of MixColumns. -/
def mixM : List Nat := [2, 3, 1, 1]
/-- The matrix of InvMixColumns. -/
def invMixM : List Nat := [14, 11, 13, 9]

/-- Round constants of the key expansion. -/
def rcon : List Byte := [0x01, 0x02, 0x04, 0x08, 0x10, 0x20, 0x40, 0x80, 0x1b, 0x36]

/-- Next word of the key expansion: `ws` holds the words so far, newest first. -/
def nextWord (nk i : Nat) (ws : List Bytes) : Bytes :=
  let t := ws.getD 0 []
  let u := if i % nk = 0 then xorBytes ((t.drop 1 ++ t.take 1).map subByte) [rcon.getD (i / nk - 1) 0, 0, 0, 0]
    else if 6 < nk ∧ i % nk = 4 then t.map subByte else t
  xorBytes (ws.getD (nk - 1) []) u

/-- `n` further words of the key expansion. -/
def expandWords (nk : Nat) : Nat → Nat → List Bytes → List Bytes
  | 0, _, ws => ws
  | n + 1, i, ws => expandWords nk n (i + 1) (nextWord nk i ws :: ws)

/-- Number of rounds for a key. -/
def aesRounds (k : Bytes) : Nat := k.length / 4 + 6

/-- The round keys, first to last. -/
def roundKeys (k : Bytes) : List Bytes :=
  let nk := k.length / 4
  let nr := aesRounds k
  let ws := (expandWords nk (4 * (nr + 1) - nk) nk ((List.range nk).map (fun i => slice k (4 * i) 4)).reverse).reverse
  (List.range (nr + 1)).map (fun r => ((ws.drop (4 * r)).take 4).flatten)

/-- AES encryption of one block (R345). -/
def aesEnc (k b : Bytes) : Bytes :=
  let rk := roundKeys k
  let nr := aesRounds k
  let mid := (upFrom 1 (nr - 1)).foldl (fun x r =>
    xorBytes (mixColumns mixM (shiftRows (x.map subByte))) (rk.getD r [])) (xorBytes b (rk.getD 0 []))
  xorBytes (shiftRows (mid.map subByte)) (rk.getD nr [])

/-- AES decryption of one block (R345). -/
def aesDec (k b : Bytes) : Bytes :=
  let rk := roundKeys k
  let nr := aesRounds k
  let mid := (upFrom 1 (nr - 1)).foldl (fun x r =>
    mixColumns invMixM (xorBytes ((invShiftRows x).map invSub) (rk.getD (nr - r) []))) (xorBytes b (rk.getD nr []))
  xorBytes ((invShiftRows mid).map invSub) (rk.getD 0 [])

/-! ### Modes -/

/-- 16-byte pieces; the last may be shorter. -/
def blocksOf : Nat → Bytes → List Bytes
  | 0, _ => []
  | n + 1, b => if b.isEmpty then [] else b.take 16 :: blocksOf n (b.drop 16)

/-- The blocks of a byte string. -/
def blocks (b : Bytes) : List Bytes := blocksOf (b.length / 16 + 1) b

/-- CBC encryption of whole blocks. -/
def cbcEnc (k : Bytes) : Bytes → List Bytes → Bytes
  | _, [] => []
  | iv, b :: bs => let c := aesEnc k (xorBytes b iv); c ++ cbcEnc k c bs

/-- CBC decryption of whole blocks. -/
def cbcDec (k : Bytes) : Bytes → List Bytes → Bytes
  | _, [] => []
  | iv, b :: bs => xorBytes (aesDec k b) iv ++ cbcDec k b bs

/-- The 32-bit incrementing function on a counter block. -/
def inc32 (c : Bytes) : Bytes := c.take 12 ++ beBytes 4 ((beNat (c.drop 12) + 1) % 2 ^ 32)

/-- CTR over blocks from a counter block. -/
def ctrBlocks (k : Bytes) : Bytes → List Bytes → Bytes
  | _, [] => []
  | c, b :: bs => xorBytes b (aesEnc k c) ++ ctrBlocks k (inc32 c) bs

/-- CTR encryption and decryption. -/
def ctr (k c d : Bytes) : Bytes := ctrBlocks k c (blocks d)

/-- Doubling in GF(2¹²⁸) as CMAC uses it. -/
def cmacDouble (b : Bytes) : Bytes :=
  let n := beNat b
  beBytes 16 ((2 * n) % 2 ^ 128 ^^^ (if n.testBit 127 then 0x87 else 0))

/-- CMAC chaining over blocks; the last is masked by K1 when whole and by K2 when padded. -/
def cmacChain (k k1 k2 : Bytes) : Bytes → List Bytes → Bytes
  | x, [] => aesEnc k (xorBytes x (xorBytes k2 (0x80 :: zeros 15)))
  | x, [b] =>
    if b.length = 16 then aesEnc k (xorBytes x (xorBytes b k1))
    else aesEnc k (xorBytes x (xorBytes (b ++ 0x80 :: zeros (15 - b.length)) k2))
  | x, b :: bs => cmacChain k k1 k2 (aesEnc k (xorBytes x b)) bs

/-- AES-CMAC, 16 bytes (R345). -/
def cmac (k m : Bytes) : Bytes :=
  let k1 := cmacDouble (aesEnc k (zeros 16))
  cmacChain k k1 (cmacDouble k1) (zeros 16) (blocks m)

/-- Product in GF(2¹²⁸) as GHASH defines it. -/
def ghashMul (x y : Nat) : Nat :=
  ((List.range 128).foldl (fun (p : Nat × Nat) i =>
    (if x.testBit (127 - i) then p.1 ^^^ p.2 else p.1,
     if p.2.testBit 0 then (p.2 / 2) ^^^ (0xE1 * 2 ^ 120) else p.2 / 2)) (0, y)).1

/-- GHASH of some data under the hash subkey. -/
def ghash (h : Nat) (bs : List Bytes) : Nat := bs.foldl (fun y b => ghashMul (y ^^^ beNat (padTo 16 b)) h) 0

/-- GCM tag of AAD and ciphertext, 16 bytes, for a 96-bit IV. -/
def gcmTag (k iv aad c : Bytes) : Bytes :=
  let h := beNat (aesEnc k (zeros 16))
  let s := ghash h (blocks aad ++ blocks c ++ [beBytes 8 (8 * aad.length) ++ beBytes 8 (8 * c.length)])
  xorBytes (beBytes 16 s) (aesEnc k (iv ++ [0, 0, 0, 1]))

/-- GCM encryption or decryption of data under a 96-bit IV. -/
def gcmCrypt (k iv d : Bytes) : Bytes := ctr k (iv ++ [0, 0, 0, 2]) d

/-- Blocks that CCM authenticates, for a 12-byte nonce (R345). -/
def ccmBlocks (n aad d : Bytes) (t : Nat) : List Bytes :=
  let b0 := BitVec.ofNat 8 ((if aad.isEmpty then 0 else 64) + 8 * ((t - 2) / 2) + 2) :: n ++ beBytes 3 d.length
  let a := if aad.isEmpty then [] else (blocks (beBytes 2 aad.length ++ aad)).map (padTo 16)
  b0 :: a ++ (blocks d).map (padTo 16)

/-- CCM counter block `i`. -/
def ccmCtr (n : Bytes) (i : Nat) : Bytes := (2 : Byte) :: n ++ beBytes 3 i

/-- CCM tag of `t` bytes over AAD and plaintext. -/
def ccmTag (k n aad d : Bytes) (t : Nat) : Bytes :=
  let m := (ccmBlocks n aad d t).foldl (fun x b => aesEnc k (xorBytes x b)) (zeros 16)
  (xorBytes m (aesEnc k (ccmCtr n 0))).take t

/-- CCM encryption or decryption of data. -/
def ccmCrypt (k n d : Bytes) : Bytes := ctr k (ccmCtr n 1) d

/-! ### RFC 3394 -/

/-- One step of the wrapping process: A, the registers, and the step number. -/
def wrapStep (k : Bytes) (n : Nat) (st : Bytes × List Bytes) (t : Nat) : Bytes × List Bytes :=
  let i := (t - 1) % n
  let b := aesEnc k (st.1 ++ st.2.getD i [])
  (xorBytes (b.take 8) (beBytes 8 t), st.2.set i (b.drop 8))

/-- One step of the unwrapping process. -/
def unwrapStep (k : Bytes) (n : Nat) (st : Bytes × List Bytes) (t : Nat) : Bytes × List Bytes :=
  let i := (t - 1) % n
  let b := aesDec k (xorBytes st.1 (beBytes 8 t) ++ st.2.getD i [])
  (b.take 8, st.2.set i (b.drop 8))

/-- The default initial value. -/
def wrapIv : Bytes := List.replicate 8 0xA6

/-- 8-byte pieces of a byte string. -/
def halves (b : Bytes) : List Bytes := (List.range (b.length / 8)).map (fun i => slice b (8 * i) 8)

/-- RFC 3394 wrap (R345). -/
def keyWrap (k p : Bytes) : Bytes :=
  let r := halves p
  let out := (upFrom 1 (6 * r.length)).foldl (wrapStep k r.length) (wrapIv, r)
  out.1 ++ out.2.flatten

/-- RFC 3394 unwrap: none when the integrity check fails (R345). -/
def keyUnwrap (k c : Bytes) : Option Bytes :=
  let r := halves (c.drop 8)
  let out := (upFrom 1 (6 * r.length)).reverse.foldl (unwrapStep k r.length) (c.take 8, r)
  if out.1 = wrapIv then some out.2.flatten else none

/-! ### SHA-256 -/

/-- Whole part of the `e`-th root of a number below 2^(36 e), bit by bit from the top. -/
def rootFloor (e n : Nat) : Nat :=
  (List.range 36).reverse.foldl (fun r i => if (r + 2 ^ i) ^ e ≤ n then r + 2 ^ i else r) 0

/-- The primes below 312: 64 of them. -/
def smallPrimes : List Nat := (upFrom 2 310).filter (fun n => (upFrom 2 (n - 2)).all (fun d => n % d != 0))

/-- The first 32 bits of the fractional part of the `e`-th root of a number. -/
def rootWord (e n : Nat) : BitVec 32 := BitVec.ofNat 32 (rootFloor e (n * 2 ^ (32 * e)))

/-- The eight words of the hash as FIPS 180-4 names them. -/
structure Digest where
  /-- a. -/
  a : BitVec 32
  /-- b. -/
  b : BitVec 32
  /-- c. -/
  c : BitVec 32
  /-- d. -/
  d : BitVec 32
  /-- e. -/
  e : BitVec 32
  /-- f. -/
  f : BitVec 32
  /-- g. -/
  g : BitVec 32
  /-- h. -/
  h : BitVec 32
  deriving DecidableEq, Repr

/-- A word turned right by three distances. -/
def spin (x : BitVec 32) (i j k : Nat) : BitVec 32 := x.rotateRight i ^^^ x.rotateRight j ^^^ x.rotateRight k

/-- One round with a sum of round constant and schedule word. -/
def Digest.round (x : Digest) (kw : BitVec 32) : Digest :=
  let pick := x.g ^^^ (x.e &&& (x.f ^^^ x.g))
  let most := (x.a &&& (x.b ||| x.c)) ||| (x.b &&& x.c)
  let up := x.h + spin x.e 6 11 25 + pick + kw
  { a := up + (spin x.a 2 13 22 + most), b := x.a, c := x.b, d := x.c, e := x.d + up, f := x.e, g := x.f, h := x.g }

/-- The rounds over the given primes; the window holds the next 16 schedule words, oldest first. -/
def Digest.rounds : List Nat → List (BitVec 32) → Digest → Digest
  | [], _, x => x
  | p :: ps, win, x =>
    let at_ (i : Nat) : BitVec 32 := win.getD i 0
    let mix (v : BitVec 32) (i j k : Nat) : BitVec 32 := v.rotateRight i ^^^ v.rotateRight j ^^^ (v >>> k)
    Digest.rounds ps (win.drop 1 ++ [mix (at_ 14) 17 19 10 + at_ 9 + mix (at_ 1) 7 18 3 + at_ 0])
      (x.round (rootWord 3 p + at_ 0))

/-- One 64-byte block. -/
def Digest.block (x : Digest) (b : Bytes) : Digest :=
  let y := x.rounds smallPrimes ((List.range 16).map (fun i => BitVec.ofNat 32 (beNat (slice b (4 * i) 4))))
  { a := x.a + y.a, b := x.b + y.b, c := x.c + y.c, d := x.d + y.d, e := x.e + y.e, f := x.f + y.f, g := x.g + y.g
    h := x.h + y.h }

/-- The value before the first block: square roots of the first eight primes. -/
def Digest.first : Digest :=
  { a := rootWord 2 2, b := rootWord 2 3, c := rootWord 2 5, d := rootWord 2 7, e := rootWord 2 11, f := rootWord 2 13
    g := rootWord 2 17, h := rootWord 2 19 }

/-- A message with a one bit, zeros and its length in bits, in whole 64-byte blocks. -/
def shaPadded (m : Bytes) : Bytes :=
  let used := m.length + 9
  m ++ [0x80] ++ zeros ((used + 63) / 64 * 64 - used) ++ beBytes 8 (8 * m.length)

/-- SHA-256 (R449). -/
def sha256 (m : Bytes) : Bytes :=
  let p := shaPadded m
  let x := (List.range (p.length / 64)).foldl (fun y i => y.block (slice p (64 * i) 64)) Digest.first
  [x.a, x.b, x.c, x.d, x.e, x.f, x.g, x.h].flatMap (fun w => beBytes 4 w.toNat)

/-! ### P-256 -/

/-- The field prime. -/
def p256P : Nat := 2 ^ 256 - 2 ^ 224 + 2 ^ 192 + 2 ^ 96 - 1
/-- The group order. -/
def p256N : Nat := 0xffffffff00000000ffffffffffffffffbce6faada7179e84f3b9cac2fc632551
/-- The coefficient b. -/
def p256B : Nat := 0x5ac635d8aa3a93e7b3ebbd55769886bc651d06b0cc53b0f63bce3c3e27d2604b
/-- The base point. -/
def p256G : Option (Nat × Nat) :=
  some (0x6b17d1f2e12c4247f8bce6e563a440f277037d812deb33a0f4a13945d898c296,
        0x4fe342e2fe1a7f9b8ee7eb4a7c0f9e162bce33576b315ececbb6406837bf51f5)

/-- `b` to the power `e` modulo `m`, over `n` bits of `e`. -/
def powMod (m b e : Nat) : Nat → Nat
  | 0 => 1
  | n + 1 => let r := powMod m b e n
    -- bit 255 − n of the exponent, most significant first
    let q := r * r % m
    if e.testBit (255 - n) then q * b % m else q

/-- Inverse modulo a prime of at most 256 bits. -/
def invMod (m a : Nat) : Nat := powMod m (a % m) (m - 2) 256

/-- Sum of two points; none is the point at infinity. -/
def p256Add : Option (Nat × Nat) → Option (Nat × Nat) → Option (Nat × Nat)
  | none, q => q
  | p, none => p
  | some (x1, y1), some (x2, y2) =>
    let P := p256P
    if x1 = x2 ∧ (y1 + y2) % P = 0 then none
    else
      let l := if x1 = x2 then (3 * x1 * x1 + P - 3) % P * invMod P (2 * y1) % P
        else (y2 + P - y1) % P * invMod P (x2 + P - x1) % P
      let x3 := (l * l + 2 * P - x1 - x2) % P
      some (x3, (l * (x1 + P - x3) + P - y1) % P)

/-- `k` times a point, over `n` bits. -/
def p256Mul (k : Nat) (p : Option (Nat × Nat)) : Nat → Option (Nat × Nat)
  | 0 => none
  | n + 1 => let r := p256Mul k p n
    let q := p256Add r r
    if k.testBit (255 - n) then p256Add q p else q

/-- A point on the curve with coordinates in the field. -/
def p256On (x y : Nat) : Bool :=
  decide (x < p256P) && decide (y < p256P) &&
    (y * y) % p256P == (x * x % p256P * x + (p256P - 3) * x + p256B) % p256P

/-- ECDSA verification over P-256 of a 32-byte digest: public key X ‖ Y, signature r ‖ s, all 32-byte big-endian. -/
def p256Verify (pub digest sig : Bytes) : Bool :=
  let x := beNat (pub.take 32)
  let y := beNat (pub.drop 32)
  let r := beNat (sig.take 32)
  let s := beNat (sig.drop 32)
  if p256On x y ∧ 1 ≤ r ∧ r < p256N ∧ 1 ≤ s ∧ s < p256N then
    let w := invMod p256N s
    match p256Add (p256Mul (beNat digest * w % p256N) p256G 256) (p256Mul (r * w % p256N) (some (x, y)) 256) with
    | some (px, _) => px % p256N == r
    | none => false
  else false

end Sys2Proof.Machine
end

