-- ==== Sys2Proof/Machine/Factory.lean ====
section
/-! DEFINITION. What the device leaves the factory with in its stores: the charter page (R242), its fixed keys (R271,
R351, R449) and the provisioning KEK of key slot 0 (R347). -/

namespace Sys2Proof.Machine

/-- A band entry of the charter with every channel permitted (R240). -/
def factoryBand (start step count power duty : Nat) : Bytes :=
  leBytes 4 start ++ leBytes 2 step ++ leBytes 2 count ++ leBytes 32 (2 ^ count - 1) ++ leBytes 2 power ++ leBytes 2 1000
    ++ leBytes 4 duty ++ zeros 16

/-- The charter page at factory lock with a given CRC field (R239, R242). -/
def factoryPage (crc : Nat) : Bytes :=
  leBytes 2 1 ++ leBytes 1 2 ++ zeros 1 ++ leBytes 4 0 ++ [0x58, 0x58] ++ zeros 2 ++ leBytes 4 crc ++ zeros 48
    ++ factoryBand 433050000 100 175 40 360000 ++ factoryBand 868050000 1000 6 56 36000 ++ zeros 3904

/-- The charter page at factory lock (R242). -/
def factoryCharter : Bytes := factoryPage (crc32 (factoryPage 0))

/-- The device storage key (R351). -/
def deviceKey : Bytes := beBytes 32 Config.deviceKey.toNat
/-- The transport key of the F die (R271). -/
def transportKey : Bytes := beBytes 32 Config.fixerTransportKey.toNat
/-- The card root public key (R271). -/
def cardRoot : Bytes := beBytes 64 Config.cardRootKey.toNat
/-- The Steward root public key (R449). -/
def stewardRoot : Bytes := beBytes 64 Config.stewardRootKey.toNat

/-- The slot record of key slot 0 that factory lock writes: KEY_GEN, the attribute block AES-256 with usage UNWRAP only, and
the wrapped KEK (R347, R349, R351); KEY_GEN 1 is a DESIGN CHOICE. -/
def factorySlot : Bytes := leBytes 4 1 ++ [2, 0x10] ++ zeros 6 ++ keyWrap deviceKey (beBytes 32 Config.kek.toNat)

end Sys2Proof.Machine
end

