-- ==== Sys2Proof/Machine/State.lean ====
section
/-! DEFINITION. The state of the block, as plain data, and the state right after reset. Each field names the rule of the
spec that gives it and its value at reset. -/

namespace Sys2Proof.Machine

/-- The eight modes (R111). -/
inductive Mode where
  | stowed | parked | watch | approach | cab | drive | workshop | holdover
  deriving DecidableEq, Repr, Inhabited

/-- Power states of a domain as POWER.DOMAIN_READ reports them (R132). -/
inductive DomState where
  | off | on | switching
  deriving DecidableEq, Repr, Inhabited

/-- What a mode permits a domain (R112, R132). -/
inductive Permit where
  | no | booked | on | own
  deriving DecidableEq, Repr, Inhabited

/-- Ticket states (R53). -/
inductive TicketState where
  | free | accepted | running | completed | replaying
  deriving DecidableEq, Repr, Inhabited

/-- Replay classes (R471). -/
inductive ReplayClass where
  | a | b | c
  deriving DecidableEq, Repr, Inhabited

/-- Session states (R136). -/
inductive SessState where
  | closed | opened | checked | exposing
  deriving DecidableEq, Repr, Inhabited

/-- Shutter states as TIME.SHUTTER_READ reports them (R108). -/
inductive ShutState where
  | idle | oneShot | periodic
  deriving DecidableEq, Repr, Inhabited

/-- An event record (R58). -/
structure EvRec where
  /-- STAMP of the order key (R92). -/
  stamp : Nat := 0
  /-- TAG of the order key: QUALITY, SOURCE and SEQUENCE (R92). -/
  tag : Nat := 0
  /-- EVENT_CODE (R58). -/
  code : Nat := 0
  /-- NODE (R58). -/
  node : Nat := 0
  /-- TICKET, 0xFF for none (R58). -/
  ticket : Nat := 0xFF
  /-- DATA, 12 bytes (R58). -/
  data : Bytes := []
  deriving DecidableEq, Repr, Inhabited

/-- A refusal of a second use of a ticket in flight, waiting for a response mailbox or a frame of the T1 path (R52). -/
structure DupRsp where
  /-- OPCODE copied. -/
  opcode : Nat := 0
  /-- TICKET copied. -/
  ticket : Nat := 0
  /-- NODE copied. -/
  node : Nat := 0
  /-- Stamp of the refusal. -/
  stamp : Nat := 0
  /-- It goes over the T1 path (R81). -/
  t1 : Bool := false
  deriving DecidableEq, Repr, Inhabited

/-- SPI slave, front registers, DP window and T1 host path (02_host_interface.md). -/
structure HostLink where
  /-- DP window, 64 KiB, host view of bytes 0x0000–0xE3FF (R43); unlisted bytes read 0x00. -/
  window : List Host.Cell := []
  /-- CMD_OWNER [15:0] (R41, R42): 0. -/
  cmdOwner : BitVec 16 := 0
  /-- Doorbelled mailboxes in the order their bits were set (R46): none. -/
  doorbell : List Nat := []
  /-- RSP_READY [15:0] (R41, R42): 0. -/
  rspReady : BitVec 16 := 0
  /-- EVT_HEAD [8:0] (R41, R42): equal to EVT_TAIL. -/
  evtHead : Nat := 0
  /-- EVT_TAIL [8:0] (R41, R42): equal to EVT_HEAD. -/
  evtTail : Nat := 0
  /-- EVT_LOST [31:0] (R41, R42): 0. -/
  evtLost : Nat := 0
  /-- Stamp of the first record lost since the last loss record (R60). -/
  firstLost : Nat := 0
  /-- Stamps at which the unread ring records entered it, oldest first (R61): none. -/
  ringSince : List Nat := []
  /-- INT_STATUS [31:0] (R41, R42): RESET_SEEN only. -/
  intStatus : BitVec 32 := 0x10
  /-- INT_ENABLE [31:0] (R41, R42): 0x0000_0010. -/
  intEnable : BitVec 32 := 0x10
  /-- FRONT_STATUS [0] COLLIDE (R41, R42): 0. -/
  collide : Bool := false
  /-- FRONT_STATUS [1] WR_IGNORED (R41, R42): 0. -/
  wrIgnored : Bool := false
  /-- FRONT_STATUS [2] SPI_ERR (R41, R42): 0. -/
  spiErr : Bool := false
  /-- FRONT_STATUS [3] BAD_FRAME (R41, R42): 0. -/
  badFrame : Bool := false
  /-- FRONT_STATUS [7:4] BAD_FRAME_MB (R41). -/
  badFrameMb : Nat := 0
  /-- ID_FIXER [31:0] (R41): 0 until the F die has answered. -/
  idFixer : BitVec 32 := 0
  /-- ID_PART [3:0] F-die revision (R41): 0 until the F die has answered. -/
  fixRev : BitVec 4 := 0
  /-- READY, status bit [7] (R39): 0. -/
  ready : Bool := false
  /-- End of the running HOST.HOLD period (R40): none. -/
  holdUntil : Option Nat := none
  /-- A wake begun by HOST_CS_N starts HOST.HOLD once READY is 1 (R40). -/
  holdOnReady : Bool := false
  /-- HEARTBEAT has started since the reset (R44, R453). -/
  heartbeatSeen : Bool := false
  /-- Stamp at which HEARTBEAT next rises (R44). -/
  beatAt : Nat := 0
  /-- Bytes returned to the host by the last SPI transaction (R35, R39): none. -/
  spiOut : Bytes := []
  /-- Host frames the device sent in the last T1 action, from the destination address on (R63, R66): none. -/
  t1Tx : List Bytes := []
  /-- Host frames discarded by R64, counted (R64): 0. -/
  t1Refused : Nat := 0
  /-- Host frames whose acceptance waits for units of the host counter: COUNTER, KIND, BODY (R65): none. -/
  t1Hold : List (Nat × Nat × Bytes) := []
  /-- The first frame after the start has been sent (R65): no. -/
  t1StartSent : Bool := false
  /-- Event records to be sent as event batches on the T1 path (R66): none. -/
  t1Events : List EvRec := []
  /-- Host frames that wait for the cipher engine to check their TAG: port, frame, and whether a release or another kind was
  brought (R28, R64): none. -/
  t1Wait : List (Nat × Bytes × Bool) := []
  /-- NO_TICKET refusals sent on the T1 path and not released, with the stamp they last went out at (R66): none. -/
  t1Dups : List (DupRsp × Nat) := []
  /-- Event records raised since the M-die reset, while the Steward did not run yet; they enter the ring once it runs
  (R42, R59): none. -/
  early : List EvRec := []
  /-- Stamp of trigger 12, from which the 5 s of R475 run: none. -/
  trigger12At : Option Nat := none
  deriving DecidableEq, Repr, Inhabited

/-- A command's request as the Steward keeps it (R48). -/
structure Req where
  /-- OPCODE. -/
  opcode : Nat := 0
  /-- FLAGS [0] STAGE. -/
  stage : Bool := false
  /-- NODE. -/
  node : Nat := 0
  /-- SESSION. -/
  session : Nat := 0
  /-- DEADLINE in µs, 0 for the default. -/
  deadline : Nat := 0
  /-- PAYLOAD. -/
  payload : Bytes := []
  deriving DecidableEq, Repr, Inhabited

/-- One entry of a fan-out walk (R73). -/
structure WalkItem where
  /-- NODE of the entry. -/
  node : Nat := 0
  /-- KIND: 0 tile, 1 course, 2 repeat. -/
  kind : Nat := 0
  /-- DEPTH of the entry. -/
  depth : Nat := 0
  deriving DecidableEq, Repr, Inhabited

/-- What one tile of a command has answered (R73). -/
structure TileRes where
  /-- The tile. -/
  node : Nat := 0
  /-- Its own status. -/
  status : Nat := 0
  /-- Its tile payload. -/
  data : Bytes := []
  deriving DecidableEq, Repr, Inhabited

/-- The Steward's working state of one ticket in flight: its request, the walk saved at acceptance, what has been
answered, and the response while it is posted and collected (R46–R57, R71–R74). -/
structure Work where
  /-- The request (R48). -/
  req : Req := {}
  /-- Order of acceptance (R57). -/
  order : Nat := 0
  /-- Acceptance stamp (R48). -/
  accept : Nat := 0
  /-- The walk with the membership in force at acceptance (R72). -/
  walk : List WalkItem := []
  /-- Power domains the command needs (R28). -/
  needs : List Nat := []
  /-- Results of tiles that have completed (R73). -/
  results : List TileRes := []
  /-- Working numbers of an operation in progress, as its own chapter uses them. -/
  aux : List Nat := []
  /-- Working bytes of an operation in progress, as its own chapter uses them. -/
  buf : Bytes := []
  /-- FLAGS of the response other than LAST: [1] REPLAYED, [2] MEMBER_RESULTS, [4] PATH_MOVED (R49). -/
  flags : Nat := 0
  /-- STATUS of the response (R49). -/
  status : Nat := 0
  /-- Completion stamp (R49). -/
  stamp : Nat := 0
  /-- Payload fragments of the response (R51); none before completion. -/
  frags : List Bytes := []
  /-- Fragments posted so far (R47). -/
  posted : Nat := 0
  /-- Fragments the host has released (R53). -/
  released : List Nat := []
  /-- The response goes over the T1 path (R66). -/
  t1 : Bool := false
  /-- Stamp at which its fragments last went out on the T1 path (R66). -/
  sentAt : Nat := 0
  deriving DecidableEq, Repr, Inhabited

/-- What waits for a response mailbox (R47). -/
inductive PostItem where
  /-- The next fragment of a ticket's response. -/
  | ticket (t : Nat)
  /-- A NO_TICKET refusal. -/
  | dup (d : DupRsp)
  deriving DecidableEq, Repr, Inhabited

/-- What a response mailbox holds for the host. -/
inductive Held where
  /-- Fragment `f` of ticket `t`. -/
  | frag (t f : Nat)
  /-- A NO_TICKET refusal. -/
  | refusal
  deriving DecidableEq, Repr, Inhabited

/-- The Steward processor: what it holds in its own memory (R46–R57). -/
structure Steward where
  /-- The Steward runs: released from reset and not halted (R462, R468): no. -/
  running : Bool := false
  /-- Working state of the tickets in flight, by ticket number (R53): none. -/
  works : Vector (Option Work) 128 := Vector.replicate 128 none
  /-- Commands accepted so far, the order of R57: 0. -/
  nextOrder : Nat := 0
  /-- Responses waiting to be posted, in completion order (R47): none. -/
  postQ : List PostItem := []
  /-- What each response mailbox holds (R47): nothing. -/
  rmb : Vector (Option Held) 16 := Vector.replicate 16 none
  deriving DecidableEq, Repr, Inhabited

/-- A ticket entry of the contact sheet with its KEEP area and request units (R470, R471). -/
structure TicketEntry where
  /-- STATE (R53). -/
  state : TicketState := .free
  /-- PATH: 1 T1 (R471). -/
  t1 : Bool := false
  /-- OPCODE (R471). -/
  opcode : Nat := 0
  /-- CLASS, the replay class (R471). -/
  cls : ReplayClass := .a
  /-- FLAGS [0] DECIDED (R146). -/
  decided : Bool := false
  /-- FLAGS [1] KEEP_VALID (R472). -/
  keepValid : Bool := false
  /-- STATE reads REPLAYING until the outcome of the re-run is there (R53, R473). -/
  again : Bool := false
  /-- FLAGS [2] REQUEST_KEPT (R472). -/
  requestKept : Bool := false
  /-- FLAGS [3] POSTED (R474). -/
  posted : Bool := false
  /-- STATUS, once known (R471). -/
  status : Nat := 0
  /-- ACCEPT_STAMP (R471). -/
  acceptStamp : Nat := 0
  /-- WRITE_REF (R471). -/
  writeRef : Nat := 0
  /-- REQ_UNIT, 0xFFFF for none (R471). -/
  reqUnit : Nat := 0xFFFF
  /-- REQ_UNITS, 0–16 (R471). -/
  reqUnits : Nat := 0
  /-- KEEP_LEN (R471). -/
  keepLen : Nat := 0
  /-- The 64-byte KEEP area of the ticket (R470). -/
  keep : Bytes := []
  /-- The request held in the ticket's pool units (R472). -/
  request : Option Req := none
  deriving DecidableEq, Repr, Inhabited

/-- The lane message the M die owes the F die (R470 OWED_LANE). -/
inductive Owed where
  | none | commit | rollback
  deriving DecidableEq, Repr, Inhabited

/-- The contact sheet, 32 KiB of PD0 AON retention (R470). -/
structure Sheet where
  /-- HEADER MAGIC reads "PRCS" (R470): no, so the first start is cold. -/
  valid : Bool := false
  /-- HEADER RESET_CAUSE (R460): 0. -/
  resetCause : Nat := 0
  /-- HEADER FLUSH [0] flush ran (R470). -/
  flushRan : Bool := false
  /-- HEADER FLUSH [1] flush complete (R470). -/
  flushComplete : Bool := false
  /-- HEADER FLUSH_RECORDS (R470): 0. -/
  flushRecords : Nat := 0
  /-- HEADER FLUSH_PAGES (R470): 0. -/
  flushPages : Nat := 0
  /-- HEADER RESET_STAMP (R470): 0. -/
  resetStamp : Nat := 0
  /-- HEADER FAULT_STAMP (R470): 0. -/
  faultStamp : Nat := 0
  /-- LAST_MODE, none for 0xFF (R120, R470): none. -/
  lastMode : Option Mode := none
  /-- OWED_LANE (R470): none. -/
  owed : Owed := .none
  /-- OWED_GEN (R470): 0. -/
  owedGen : Nat := 0
  /-- STANDING at the last minute boundary, s (R470): 0. -/
  standing : Nat := 0
  /-- T1_RX_COUNTER (R470): 0. -/
  t1Rx : Nat := 0
  /-- T1_TX_COUNTER (R470): 0. -/
  t1TxCount : Nat := 0
  /-- BOOT_COUNT (R470): 0. -/
  bootCount : Nat := 0
  /-- FAULT_RESETS (R470): 0. -/
  faultResets : Nat := 0
  /-- TICKETS, KEEP and REQUEST_POOL by ticket number (R470): all FREE. -/
  tickets : Vector TicketEntry 128 := Vector.replicate 128 {}
  deriving DecidableEq, Repr, Inhabited

/-- One staged item (R137). -/
inductive ItemVal where
  /-- The value of a setting (R140). -/
  | value (v : Int)
  /-- A staged object, as its command laid it out. -/
  | object (b : Bytes)
  /-- The deletion of a course. -/
  | deletion
  deriving DecidableEq, Repr, Inhabited

/-- A staged item under its SETTING_ID or object reference (R139). -/
structure Item where
  /-- SETTING_ID or object reference. -/
  id : Nat := 0
  /-- What is staged. -/
  val : ItemVal := .value 0
  deriving DecidableEq, Repr, Inhabited

/-- A staging session (R136). -/
structure Session where
  /-- STATE (R136): CLOSED. -/
  state : SessState := .closed
  /-- The staged items, at most 8,192 (R137). -/
  items : List Item := []
  /-- BASE_GEN of the last CHECK (R141). -/
  baseGen : Nat := 0
  /-- A DEFERRED answer was given: its EARLIEST and the generation it was judged at (R145). -/
  deferral : Option (Nat × Nat) := none
  deriving DecidableEq, Repr, Inhabited

/-- Progress of a pending exposure with class 0x09 items (R150). -/
inductive FixPhase where
  /-- No class 0x09 item is staged. -/
  | unused
  /-- EXPOSE_PREPARE sent. -/
  | preparing
  /-- PREPARED received. -/
  | prepared
  /-- EXPOSE_COMMIT sent. -/
  | committing
  /-- EXPOSE_COMMIT acknowledged: the decision point. -/
  | armed
  deriving DecidableEq, Repr, Inhabited

/-- The exposure that is EXPOSING (R143–R147). -/
structure Pending where
  /-- Its session. -/
  session : Nat := 0
  /-- Its EXPOSE ticket. -/
  ticket : Nat := 0
  /-- INSTANT accepted. -/
  instant : Nat := 0
  /-- REASONS in force at T (R144). -/
  reasons : Nat := 0
  /-- CONFIG_GEN the exposure will give (R150). -/
  gen : Nat := 0
  /-- SET_NO of its pending record set (R401). -/
  setNo : Nat := 0
  /-- The pending record set is written (R146). -/
  written : Bool := false
  /-- Every item is in its shadow (R146). -/
  loaded : Bool := false
  /-- DECIDED marker written (R146). -/
  decided : Bool := false
  /-- Lane exchange (R150). -/
  fix : FixPhase := .unused
  /-- Stamp of EXPOSE_PREPARE, from which the 5 ms of R152 run. -/
  sentAt : Nat := 0
  /-- APPLY_STAMP and whether the fire was late, once the set has been applied (R147, R148). -/
  applied : Option (Nat × Bool) := none
  /-- The set has changed UPDATE.BOOT, so the M die is reset after the ticket completes (R452). -/
  boot : Bool := false
  deriving DecidableEq, Repr, Inhabited

/-- The exposure engine (05_exposure.md). -/
structure Expo where
  /-- Sessions 0–3 (R136): CLOSED. -/
  sessions : Vector Session 4 := Vector.replicate 4 {}
  /-- The pending exposure (R143): none. -/
  pending : Option Pending := none
  deriving DecidableEq, Repr, Inhabited

/-- The configuration in force on the M die (R14, R142). -/
structure Conf where
  /-- Settings that differ from their defaults, by SETTING_ID (R139). -/
  values : List (Nat × Int) := []
  /-- Integrator courses in force, by course ID with members in order (R70): none. -/
  courses : List (Nat × List Nat) := []
  /-- Staged objects in force other than courses, by object reference (R139): none. -/
  objects : List (Nat × Bytes) := []
  /-- CONFIG_GEN (R142): 0. -/
  gen : Nat := 0
  deriving DecidableEq, Repr, Inhabited

/-- A compare channel (R97–R100). -/
structure Shutter where
  /-- STATE (R108): IDLE. -/
  state : ShutState := .idle
  /-- Active compare. -/
  active : Nat := 0
  /-- Active period. -/
  period : Nat := 0
  /-- Preload compare and period; present while PRELOAD_VALID is set. -/
  preValid : Bool := false
  /-- PRE_COMPARE. -/
  preCompare : Nat := 0
  /-- PRE_PERIOD. -/
  prePeriod : Nat := 0
  /-- EVENT: event 0x0201 at each fire. -/
  event : Bool := false
  /-- LAST_FIRE. -/
  lastFire : Nat := 0
  /-- Last fire LATE. -/
  lastLate : Bool := false
  /-- Last fire COARSE. -/
  lastCoarse : Bool := false
  /-- A firmware shutter has fired as its compare was loaded or stepped over, and what the firmware does at that fire is still
  to come in the same cycle (R97, R100): no. -/
  owed : Bool := false
  /-- Last compare: at which a periodic channel last fired since it was armed (R100). -/
  lastCompare : Option Nat := none
  /-- FIRE_COUNT, wrapping. -/
  fireCount : Nat := 0
  /-- LATE_COUNT, saturating. -/
  lateCount : Nat := 0
  /-- MISSED_COUNT, saturating. -/
  missedCount : Nat := 0
  /-- TRIGGER_DROPPED, saturating. -/
  dropped : Nat := 0
  deriving DecidableEq, Repr, Inhabited

/-- A capture pair (R101–R104). -/
structure Capture where
  /-- RISE_STAMP, RISE_VALID and RISE_COARSE. -/
  rise : Option (Nat × Bool) := none
  /-- FALL_STAMP, FALL_VALID and FALL_COARSE. -/
  fall : Option (Nat × Bool) := none
  /-- The rising edge in RISE_STAMP may still pair with a falling edge. -/
  open_ : Bool := false
  /-- RISE_STAMP has been acknowledged (R103). -/
  riseAck : Bool := true
  /-- FALL_STAMP has been acknowledged (R103). -/
  fallAck : Bool := true
  /-- WIDTH. -/
  width : Nat := 0
  /-- WIDTH_VALID. -/
  widthValid : Bool := false
  /-- CAP_SEQ, wrapping. -/
  capSeq : Nat := 0
  /-- OVERRUN, saturating. -/
  overrun : Nat := 0
  /-- PULSES, wrapping. -/
  pulses : Nat := 0
  deriving DecidableEq, Repr, Inhabited

/-- Epoch, shutters and capture pairs (03_time_base.md). -/
structure TimeBase where
  /-- Epoch, 64 bits (R82): 0 until R90 loads it. -/
  epoch : Nat := 0
  /-- Remainder of the fractional accumulator (R84): 0. -/
  rem : Nat := 0
  /-- Sub-LSB remainder of the XS increment, in 2⁻⁸ LSB (R85). -/
  xsRem : Nat := 0
  /-- The fine epoch is aligned, so stamps at L0–L2 are FINE (R87): no. -/
  fine : Bool := false
  /-- Highest stamp issued while the epoch was coarse, kept below the first FINE stamp (R87). -/
  lastCoarse : Nat := 0
  /-- RATE_PPB of the running slew (R89): 0. -/
  slewPpb : Int := 0
  /-- End of the running slew (R108): none. -/
  slewEnd : Option Nat := none
  /-- UNSET (R90): clear until a restore sets it. -/
  unset : Bool := false
  /-- The last restore used a floor record (R108). -/
  usedFloor : Bool := false
  /-- TIME.XS_TRIM, 2⁻⁸ LSB (R85, R110): 0. -/
  xsTrim : Int := 0
  /-- XS trim measured since power-up (R108): no. -/
  trimSeen : Bool := false
  /-- Stamp from which XS and XF have both run without a break, or at which the trim was last measured (R85): none. -/
  trimFrom : Option Nat := none
  /-- Stamp from which XF has run without a break, while the epoch is fine (R84, R444): 0. -/
  fineAt : Nat := 0
  /-- Events on their way through the router: source code, stamp, coarse (R105): none. -/
  routing : List (Nat × Nat × Bool) := []
  /-- Epoch floor in force (R90): none. -/
  floor : Option Nat := none
  /-- Shutters 0–15 (R97): IDLE. -/
  shutters : Vector Shutter 16 := Vector.replicate 16 {}
  /-- Capture pairs 0–7 (R101): cleared. -/
  captures : Vector Capture 8 := Vector.replicate 8 {}
  deriving DecidableEq, Repr, Inhabited

/-- A power domain as POWER.DOMAIN_READ shows it (R132). -/
structure Domain where
  /-- STATE (R132): off. -/
  state : DomState := .off
  /-- FAULTS, events 0x0406, saturating. -/
  faults : Nat := 0
  /-- ON_COUNT, wrapping. -/
  onCount : Nat := 0
  /-- Time powered before the present switch-on, in epoch units. -/
  onTime : Nat := 0
  /-- Stamp of the present switch-on. -/
  since : Nat := 0
  deriving DecidableEq, Repr, Inhabited

/-- A mode transition in progress (R116). -/
structure Transition where
  /-- Mode it leads to. -/
  target : Mode := .stowed
  /-- Trigger code of R115. -/
  trigger : Nat := 0
  /-- Stamp of the trigger. -/
  since : Nat := 0
  deriving DecidableEq, Repr, Inhabited

/-- Modes, domains and pins (04_modes_power_wake.md). -/
structure Power where
  /-- MODE_WORD [2:0] (R41, R461): HOLDOVER. -/
  mode : Mode := .holdover
  /-- MODE_WORD [6:4] (R41, R461): 7. -/
  previous : Mode := .holdover
  /-- MODE_WORD [7] and the transition it stands for (R116): none. -/
  moving : Option Transition := none
  /-- Triggers that wait for the transition in progress, by code (R119): none. -/
  waiting : List Nat := []
  /-- MODE_WORD [31:16] (R41, R461): 0. -/
  changes : Nat := 0
  /-- ENTRY_STAMP of the current mode (R132). -/
  entry : Nat := 0
  /-- Stamp at which the standing time was zero (R115). -/
  standingFrom : Nat := 0
  /-- Stamp of the entry to WATCH from which POWER.WATCH_WINDOW counts (R134). -/
  watchFrom : Nat := 0
  /-- APPROACH was entered from PARKED (R115, R132). -/
  fromParked : Bool := false
  /-- PD0–PD9 (R112, R113): PD0 and PD1 on, the others off. -/
  domains : Vector Domain 10 := tmod (tmod (Vector.replicate 10 {}) 0 (fun _ => { state := .on })) 1 (fun _ => { state := .on })
  /-- Filtered level of WAKE_IGN (R121). -/
  ign : Bool := false
  /-- Filtered levels of WAKE_DOOR[3:0] (R121). -/
  doors : Vector Bool 4 := Vector.replicate 4 false
  /-- Filtered level of WORKSHOP_STRAP (R121). -/
  strap : Bool := false
  /-- Ticket of the POWER.MODE_REQUEST whose transition runs or waits (R131, R504): none. -/
  modeTicket : Option Nat := none
  /-- PD8 NET is held on by a CAN wake until this stamp (R122): not held. -/
  canWakeUntil : Option Nat := none
  deriving DecidableEq, Repr, Inhabited

/-- A row of Eave's latency table (R127, R128, R132). -/
structure Latency where
  /-- LATENCY in force, µs. -/
  entry : Nat := 0
  /-- SOURCE: learned. -/
  learned : Bool := false
  /-- The newest measurements, at most eight, newest first, µs. -/
  samples : List Nat := []
  /-- ENTRIES to this depth since power-up, wrapping. -/
  entries : Nat := 0
  deriving DecidableEq, Repr, Inhabited

/-- A wake of PD3 CORE in progress (R128). -/
structure Waking where
  /-- Depth left. -/
  depth : Nat := 0
  /-- Stamp of the start of the wake. -/
  since : Nat := 0
  /-- The booking arrived too late for the depth: not counted as late (R129). -/
  excused : Bool := false
  deriving DecidableEq, Repr, Inhabited

/-- The wake scheduler Eave in PD0 AON (R126–R129). -/
structure Eave where
  /-- Sleep depth of PD3 CORE, 0–4 (R84, R126): 4, PD3 CORE off. -/
  depth : Nat := 4
  /-- Latency rows of L1–L4, in order (R127). -/
  rows : Vector Latency 4 := ⟨#[{ entry := 1 }, { entry := 20 }, { entry := 1200 }, { entry := 3000 }], rfl⟩
  /-- LATE_WAKES, saturating (R132). -/
  lateWakes : Nat := 0
  /-- Booked wake instant (R126): none. -/
  wakeAt : Option Nat := none
  /-- A wake in progress: none. -/
  waking : Option Waking := none
  /-- XS has run 64 stable cycles and Eave counts on it (R462, R497): no. -/
  xsStable : Bool := false
  /-- Next EPOCH_SAMPLE to the F die (R20). -/
  sampleAt : Nat := 0
  deriving DecidableEq, Repr, Inhabited

/-- What FIXER.CARD_STATUS shows of a card slot (R289, R304). -/
structure CardInfo where
  /-- STATE (R304): 0 empty, 1 activating, 2 authenticated, 3 refused. -/
  state : Nat := 0
  /-- ROLE. -/
  role : Nat := 0
  /-- CLASS. -/
  cls : Nat := 0
  /-- PROTOCOL, 0xFF none. -/
  proto : Nat := 0xFF
  /-- FI. -/
  fi : Nat := 0
  /-- DI. -/
  di : Nat := 0
  /-- Holds the workshop session. -/
  shop : Bool := false
  /-- CLOCK_KHZ. -/
  khz : Nat := 0
  /-- CARD_HASH. -/
  hash : Bytes := []
  /-- INSERTED. -/
  inserted : Nat := 0
  deriving DecidableEq, Repr, Inhabited

/-- A request of the M die on the lane (R20, R274). -/
inductive LaneReq where
  /-- RECORD_READ: selection 0 records, 1 speed ring, 2 status block, 3 certificate; first and count. -/
  | recordRead (sel first count : Nat)
  /-- TIME_PROPOSE: DELTA and the WORKSHOP flag. -/
  | timePropose (delta : Int) (workshop : Bool)
  /-- TOKEN_IDENTITY: slot and TOKEN_ID. -/
  | tokenIdentity (slot token : Nat)
  /-- CARD_REQUEST with an APDU. -/
  | cardApdu (slot : Nat) (apdu : Bytes)
  /-- CARD_REQUEST for a warm reset. -/
  | cardReset (slot : Nat)
  /-- EPOCH_SAMPLE: the epoch latched, UNSET, TAIL_SEQ and the key of the newest FIXER_EVENT received. -/
  | epochSample (epoch : Nat) (unset : Bool) (tail confirm : Nat)
  /-- EXPOSE_PREPARE: class 0x09 items by row, the pairing object, the CONFIG_GEN to come, INSTANT and the ticket (R150). -/
  | exposePrepare (items : List (Nat × Int)) (pair : Option Bytes) (gen instant ticket : Nat)
  /-- EXPOSE_COMMIT. -/
  | exposeCommit (gen : Nat)
  /-- EXPOSE_ROLLBACK. -/
  | exposeRollback (gen : Nat)
  /-- A message of another type. -/
  | unknown (ty : Nat)
  deriving DecidableEq, Repr, Inhabited

/-- The F die's answer to one request (R274), with what every RESPONSE carries. -/
structure LaneRsp where
  /-- Lane sequence number of the request. -/
  seq : Nat := 0
  /-- Status of class 0x09. -/
  status : Nat := 0
  /-- Answer data. -/
  data : Bytes := []
  /-- APPLIED_GEN (R150). -/
  applied : Nat := 0
  /-- F-side stamp of that application (R152). -/
  appliedAt : Nat := 0
  /-- Card state of both slots (R289). -/
  cards : List CardInfo := []
  /-- HEAD_SEQ (R295). -/
  head : Nat := 0
  /-- The F die's release, which ID_FIXER shows (R41). -/
  release : Nat := 0
  deriving DecidableEq, Repr, Inhabited

/-- A message from the F die. -/
inductive LaneMsg where
  /-- RECORD_APPEND: SEQ and the 32 bytes. -/
  | record (seq : Nat) (b : Bytes)
  /-- FIXER_EVENT. -/
  | event (r : EvRec)
  /-- RESPONSE. -/
  | response (r : LaneRsp)
  deriving DecidableEq, Repr, Inhabited

/-- Who waits for a RESPONSE on the M die. -/
inductive LaneUser where
  /-- Nobody: samples, identities, rollbacks. -/
  | none
  /-- The command of this ticket; for a course its present tile. -/
  | ticket (tk : Nat)
  /-- The pending exposure. -/
  | exposure
  /-- The first request after an outage or the confirmation of an application (R151, R476). -/
  | owed
  deriving DecidableEq, Repr, Inhabited

/-- A request of the M die without its RESPONSE yet. -/
structure LaneOut where
  /-- Lane sequence number. -/
  seq : Nat := 0
  /-- The request. -/
  req : LaneReq := .unknown 0
  /-- Who waits. -/
  user : LaneUser := .none
  /-- Stamp at which it was sent. -/
  sent : Nat := 0
  /-- Its 50 ms have passed (R273). -/
  late : Bool := false
  deriving DecidableEq, Repr, Inhabited

/-- A pulse on the lane's sync-edge line (R273). -/
inductive SyncKind where
  /-- For the EPOCH_SAMPLE of a lane sequence number. -/
  | sample (seq : Nat)
  /-- For an exposure (R150). -/
  | exposure
  deriving DecidableEq, Repr, Inhabited

/-- The inter-die lane and the M die's side of it (R20, R273, R476). -/
structure Lane where
  /-- FIXER_LANE_UP (R41, R273): down until the first answer. -/
  up : Bool := false
  /-- Lane sequence number of the next request. -/
  seq : Nat := 0
  /-- Requests sent and not yet answered, oldest first. -/
  out : List LaneOut := []
  /-- Requests on their way to the F die. -/
  toF : List (Nat × LaneReq) := []
  /-- Messages on their way to the M die. -/
  toM : List LaneMsg := []
  /-- Pulses on the sync-edge line not yet seen. -/
  edges : List SyncKind := []
  /-- The wake strobe stands (R273): no. -/
  strobe : Bool := false
  /-- Requests answered FIXER_BUSY that are sent again after the next RESPONSE (R303). -/
  again : List (LaneReq × LaneUser) := []
  /-- Consecutive requests unanswered within 50 ms (R273): 0. -/
  missed : Nat := 0
  /-- HEAD_SEQ last reported (R303): 0. -/
  head : Nat := 0
  /-- APPLIED_GEN last reported (R151): 0. -/
  applied : Nat := 0
  /-- Card state last reported, slots 0 and 1 (R289): empty. -/
  cards : List CardInfo := [{}, {}]
  /-- Keys of the FIXER_EVENTs received that the F die may still hold, newest first (R507): none. -/
  seen : List Nat := []
  /-- PD3 CORE is kept at L2 or shallower until the F die has answered the EPOCH_SAMPLE, which it does after every record
  that awaits transfer (R273, R295): no. -/
  hold : Bool := false
  /-- TOKEN_IDENTITY that waits for the lane: slot and TOKEN_ID (R197, R302): none. -/
  owedToken : Option (Nat × Nat) := none
  deriving DecidableEq, Repr, Inhabited

/-- A token slot (R171–R173, R181, R199). -/
structure TokSlot where
  /-- STATE: 0 EMPTY, 1 LEARNED, 2 RELEARN. -/
  state : Nat := 0
  /-- TOKEN_ID; 0 when EMPTY. -/
  token : Nat := 0
  /-- S, the last accepted counter. -/
  s : Nat := 0
  /-- SETTLED. -/
  settled : Bool := false
  /-- LOW_BATTERY last seen. -/
  lowBat : Bool := false
  /-- LAST_ZONE. -/
  zone : Nat := 0xFF
  /-- LAST_RANGE. -/
  range : Nat := 0
  /-- LAST_SEEN. -/
  seen : Nat := 0
  /-- INVALID, saturating. -/
  invalid : Nat := 0
  /-- RELAY, saturating. -/
  relay : Nat := 0
  /-- LEARN_GEN of the set in which it was learned. -/
  gen : Nat := 0
  /-- Polls in a row that admitted it and were not answered (R181). -/
  missed : Nat := 0
  /-- HEARD of its last ANSWER (R166, R169). -/
  heard : Nat := 0
  /-- It answered since APPROACH entry, the poll cycle of the trigger included (R169). -/
  answered : Bool := false
  deriving DecidableEq, Repr, Inhabited

/-- Engine states (R158). -/
inductive Engine where
  | off | dormant | poll | acquire | cabin | release | learn
  deriving DecidableEq, Repr, Inhabited

/-- A telegram that waits for the cipher engine to check its MAC (R28, R167). -/
inductive TokCheck where
  /-- BUTTON. -/
  | button (tel : ButtonTel)
  /-- RESPONSE. -/
  | response (tel : ResponseTel)
  /-- LEARN_ACK. -/
  | learnAck (tel : LearnAckTel)
  deriving DecidableEq, Repr, Inhabited

/-- A frame built by the access engine that waits for PD8 NET and its port (R28). -/
structure BuiltFrame where
  /-- What it is: 1 release, 2 body. -/
  built : Nat := 0
  /-- Port it goes to. -/
  port : Nat := 0
  /-- 29-bit identifier. -/
  id : Nat := 0
  /-- Payload. -/
  data : Bytes := []
  /-- Stamp at which it was built. -/
  at_ : Nat := 0
  deriving DecidableEq, Repr, Inhabited

/-- A poll cycle in progress (R168). -/
structure PollCyc where
  /-- POLL_SEQ. -/
  seq : Nat := 0
  /-- SLOT_MASK. -/
  mask : Nat := 0
  /-- It follows a WAKE_DOOR assertion. -/
  door : Bool := false
  /-- Poll set of each of its telegrams, in order (R168). -/
  sets : List Nat := []
  /-- Re-addressed slots with the opening of their own answer slot (R168). -/
  again : List (Nat × Nat) := []
  /-- Opening of answer slot 0. -/
  first : Nat := 0
  /-- Slots answered. -/
  answered : List Nat := []
  /-- Slots collided once. -/
  collided : List Nat := []
  /-- Slots collided twice, unanswered for the cycle (R182). -/
  twice : List Nat := []
  /-- Start of the next free time after its answer slots and re-addressings. -/
  end_ : Nat := 0
  deriving DecidableEq, Repr, Inhabited

/-- Kinds of a shutter 15 cycle (R169, R199). -/
inductive CycKind where
  | acquire | cab | start | locate
  deriving DecidableEq, Repr, Inhabited

/-- A valid RESPONSE in a cycle. -/
structure Resp where
  /-- Token slot. -/
  slot : Nat := 0
  /-- COUNTER. -/
  counter : Nat := 0
  /-- MEAS, 3 × (N + 1) bytes. -/
  meas : Bytes := []
  /-- Zone verdict, once formed. -/
  zone : Nat := 0xFF
  /-- The verdict requires ranging (R179). -/
  needs : Bool := false
  /-- Ranging as LAST_RANGE: 0 not run, 1 pass, 2 relay suspicion. -/
  ranged : Nat := 0
  /-- Its verdict is concluded. -/
  done : Bool := false
  deriving DecidableEq, Repr, Inhabited

/-- An acquire, cab, start or LOCATE cycle in progress (R169). -/
structure AccCyc where
  /-- Kind. -/
  kind : CycKind := .cab
  /-- STAMP, the fire of shutter 15. -/
  stamp : Nat := 0
  /-- CHALLENGE; none while the queue owes it (R170, R378). -/
  challenge : Option Bytes := none
  /-- SLOT_MASK. -/
  mask : Nat := 0
  /-- Zone map in force at the fire (R176); empty for none. -/
  map : Bytes := []
  /-- Its CHALLENGE telegrams, in order: the poll set of each, 0xFF for CAB_SET, with its slots (R169). -/
  groups : List (Nat × List Nat) := []
  /-- Steps NOT_DRIVEN, each with the poll set of its CHALLENGE (R221). -/
  out : List (Nat × Nat) := []
  /-- Stamp by which its verdicts stand (R169). -/
  due : Nat := 0
  /-- Valid responses, in order of arrival. -/
  resps : List Resp := []
  /-- The verdicts are formed and ranging is under way. -/
  judged : Bool := false
  /-- ACCESS.LOCATE ticket. -/
  locate : Option Nat := none
  /-- LOCATE FLAGS [0]: ranging for every zone. -/
  force : Bool := false
  /-- The measurements of its CHALLENGE sequences as received with its fire. -/
  lfMeas : List LfMeas := []
  deriving DecidableEq, Repr, Inhabited

/-- An ACCESS.LEARN_SET that runs (R195). -/
structure Learning where
  /-- Its ticket. -/
  ticket : Nat := 0
  /-- TOKEN_IDs and keys, in request order. -/
  entries : List (Nat × Bytes) := []
  /-- Present entry. -/
  at_ : Nat := 0
  /-- Stamp at which the present entry began: its key is in force; 0 before. -/
  since : Nat := 0
  /-- The measurement of the LEARN telegram that waits for its nonce. -/
  lfMeas : LfMeas := {}
  /-- LEARN_NONCE of the last LEARN telegram; none before it. -/
  nonce : Option Bytes := none
  /-- Stamp of the last LEARN telegram. -/
  lastSent : Option Nat := none
  /-- An answer of the present entry failed its MAC. -/
  badMac : Bool := false
  deriving DecidableEq, Repr, Inhabited

/-- The access and immobiliser engine (06_access_immobiliser.md). -/
structure Access where
  /-- STATE (R158): OFF. -/
  state : Engine := .off
  /-- Token slots 0–15: EMPTY. -/
  slots : Vector TokSlot 16 := Vector.replicate 16 {}
  /-- SUSPECT (R183): clear. -/
  suspect : Bool := false
  /-- SUSPECT_SINCE. -/
  suspectSince : Nat := 0
  /-- Stamps of the invalid responses of the last 60 s. -/
  invalid : List Nat := []
  /-- Stamp of the last invalid response. -/
  lastInvalid : Nat := 0
  /-- The last silent-step magnitudes, newest first, at most eight (R175): none. -/
  silent : List Nat := []
  /-- LEARN_GEN: 0. -/
  learnGen : Nat := 0
  /-- Driver slot (R184): none. -/
  driver : Option Nat := none
  /-- Driver at start authorisation (R187 SLOT). -/
  relSlot : Nat := 0xFF
  /-- No driver at the last cab cycle (R187 TOKEN_ABSENT). -/
  absent : Bool := false
  /-- Stamp of the last cycle that found the driver in a CAB zone (R184). -/
  cabSeen : Nat := 0
  /-- Stamp of the last cycle that found a valid token in an UNLOCK or CAB zone (R185). -/
  heldSeen : Nat := 0
  /-- The walk-away of this absence has given its lock verdict (R185). -/
  walked : Bool := false
  /-- POLL_SEQ of the next cycle: 0. -/
  pollSeq : Nat := 0
  /-- Poll cycle in progress: none. -/
  poll : Option PollCyc := none
  /-- Poll cycles that are to run at once, first come first: 0–3 by an assertion of WAKE_DOOR bit n (R159), 4 by WAKE_IGN
  (R121), 5 by a fire of shutter 13 that waits for PD7 LF or for the array (R28, R220). -/
  polls : List Nat := []
  /-- Stamp of a fire of shutter 15 whose cycle waits for PD7 LF (R28): none. -/
  cycleDue : Option Nat := none
  /-- Telegrams whose MAC waits for the cipher engine (R28): none. -/
  checks : List TokCheck := []
  /-- Frames that wait for PD8 NET and their port (R28): none. -/
  outbox : List BuiltFrame := []
  /-- Origin of the poll grid: the PARKED or WATCH entry stamp (R160). -/
  grid : Nat := 0
  /-- Shutter 15 cycle in progress: none. -/
  cyc : Option AccCyc := none
  /-- ACCESS.LOCATE that waits for its cycle: ticket, slots and force flag. -/
  locate : Option (Nat × List Nat × Bool) := none
  /-- Consecutive acquire cycles without a valid RESPONSE (R159). -/
  lostCycles : Nat := 0
  /-- Stamp of APPROACH entry (R159). -/
  approachAt : Nat := 0
  /-- APPROACH was entered from HOLDOVER or WORKSHOP (R180). -/
  fromHold : Bool := false
  /-- Passing UNLOCK-zone verdicts since APPROACH entry: slot, zone, its doors, stamp (R180). -/
  unlocks : List (Nat × Nat × Nat × Nat) := []
  /-- Stamps of the last accepted assertions of WAKE_DOOR[3:0] (R180). -/
  doorAt : Vector (Option Nat) 4 := Vector.replicate 4 none
  /-- Start cycles used by the start request that runs (R186): none runs. -/
  start : Option Nat := none
  /-- Start authorised. -/
  authorised : Bool := false
  /-- Next release COUNTER (R190): 0. -/
  relNext : Nat := 0
  /-- RELEASE_RESERVED (R199): 0. -/
  relReserved : Nat := 0
  /-- A release reservation is being written. -/
  relReserving : Bool := false
  /-- COUNTER 0xFFFF_FFFF has been used (R190). -/
  relUsedUp : Bool := false
  /-- Event 0x050B has been written (R190). -/
  relWarned : Bool := false
  /-- PAIR_ID in force: 0. -/
  pairId : Nat := 0
  /-- A release frame has been transmitted since release began (R189). -/
  firstSent : Bool := false
  /-- LAST_RELEASE. -/
  lastRelease : Nat := 0
  /-- RELEASE_DROPPED, wrapping. -/
  dropped : Nat := 0
  /-- CYCLES, wrapping. -/
  cycles : Nat := 0
  /-- Next body SEQ (R193): 0. -/
  bodyNext : Nat := 0
  /-- First body SEQ beyond the reservation written. -/
  bodyReserved : Nat := 0
  /-- A body reservation is being written. -/
  bodyReserving : Bool := false
  /-- ACCESS.LOCK that waits for its frame: ticket, SEQ and stamp of the verdict (R199). -/
  lock : Option (Nat × Nat × Nat) := none
  /-- Learning in progress (R195): none. -/
  learning : Option Learning := none
  /-- LF telegrams of the last sequence: channels, then preamble to CRC (R163, R164). -/
  lfSent : List (List Nat × Bytes) := []
  deriving DecidableEq, Repr, Inhabited


/-- An LF channel (R217, R223). -/
structure LfChan where
  /-- VERDICT (R217): NOT_RUN. -/
  verdict : Nat := 0xFF
  /-- A fault is latched (R217): no. -/
  latched : Bool := false
  /-- Stamp at which the fault was latched. -/
  latchedAt : Nat := 0
  /-- FLAGS [0] headroom loss in the last burst. -/
  headroom : Bool := false
  /-- FLAGS [1] DETUNED_LIVE. -/
  detuned : Bool := false
  /-- LAST_PEAK, mA. -/
  lastPeak : Nat := 0
  /-- LAST_PHASE_ERR, 0.1°. -/
  lastPhase : Int := 0
  /-- F0 of the last full diagnosis, Hz. -/
  f0 : Nat := 0
  /-- Q × 10. -/
  q : Nat := 0
  /-- ESR, 0.1 Ω. -/
  esr : Nat := 0
  /-- LAST_DIAG. -/
  lastDiag : Nat := 0
  /-- BURSTS, wrapping. -/
  bursts : Nat := 0
  /-- FAULTS, saturating. -/
  faults : Nat := 0
  /-- Stamp of the last event 0x0608 (R217): none. -/
  lastDetune : Option Nat := none
  deriving DecidableEq, Repr, Inhabited

/-- A command sequence that waits or runs: an LF.BURST or a diagnosis (R220). -/
structure LfJob where
  /-- Its ticket; none for an automatic diagnosis (R219). -/
  ticket : Option Nat := none
  /-- It is a diagnosis. -/
  diag : Bool := false
  /-- Latest stamp at which its first sequence may start (R222). -/
  latest : Nat := 0
  /-- Its first sequence has started. -/
  begun : Bool := false
  /-- Channels of a diagnosis still to do, the present one first. -/
  tiles : List Nat := []
  /-- Static test only. -/
  static : Bool := false
  /-- Next segment of the present channel, 0–17 (R218). -/
  seg : Nat := 0
  /-- Verdict of the present channel's static test, 0 for none. -/
  found : Nat := 0
  /-- Amplitude and phase of the sweep points so far (R218). -/
  points : List (Nat × Int) := []
  /-- Acceptance order of its ticket (R220). -/
  order : Nat := 0
  deriving DecidableEq, Repr, Inhabited

/-- Burst shapes (R207). -/
inductive LfShape where
  | ask | step | cw
  deriving DecidableEq, Repr, Inhabited

/-- One channel's part in a burst, with what its engine regulates to (R203). -/
structure LfDrive where
  /-- Channel. -/
  ch : Nat := 0
  /-- AMP, 1/255 of the channel's peak current. -/
  amp : Nat := 255
  /-- Phase code, 360/256°. -/
  phase : Nat := 0
  /-- Target peak current, mA. -/
  target : Nat := 0
  deriving DecidableEq, Repr, Inhabited

/-- A stretch of a sequence: a keyed telegram, a measurement step, a burst or a diagnostic segment (R207–R209). -/
structure LfPart where
  /-- Its shape. -/
  shape : LfShape := .ask
  /-- Nominal start, µs from the start of the sequence. -/
  at_ : Nat := 0
  /-- Length, µs. -/
  us : Nat := 0
  /-- What a telegram keys after its lead: preamble to CRC (R163). -/
  data : Bytes := []
  /-- Step of the zone map; 0 for none. -/
  step : Nat := 0
  /-- What drives. -/
  drives : List LfDrive := []
  deriving DecidableEq, Repr, Inhabited

/-- A sequence the array drives, with the settings it started with (R213, R220). -/
structure LfSeq where
  /-- Requester: 0 access, 1 command, 2 automatic diagnosis (R224). -/
  who : Nat := 0
  /-- Poll set of an access sequence; 0xFF for CAB_SET or none. -/
  set : Nat := 0xFF
  /-- What it drives, in order. -/
  parts : List LfPart := []
  /-- Stamp at which it starts: a zero crossing of the carrier reference (R208). -/
  start : Nat := 0
  /-- End of its quench. -/
  end_ : Nat := 0
  /-- The carrier divider D (R202). -/
  div : Nat := 6144
  /-- LF.CH_n.DETUNE_LIMIT and LF.CH_n.ESR_MAX of the channel a segment diagnoses. -/
  limits : Nat × Nat := (0, 0)
  deriving DecidableEq, Repr, Inhabited

/-- The LF field array Thatch (07_lf_field_array.md). -/
structure Lf where
  /-- Channels 0–31. -/
  chans : Vector LfChan 32 := Vector.replicate 32 {}
  /-- Drivers enabled by VLF (R216): no. -/
  enabled : Bool := false
  /-- Thermal hold by the loss budget (R215): no. -/
  budgetHold : Bool := false
  /-- Thermal hold by the die temperature (R215): no. -/
  tempHold : Bool := false
  /-- Recorded losses: end stamp and energy in units of 10 fJ (R215): none. -/
  losses : List (Nat × Nat) := []
  /-- Command sequences that wait or run, in acceptance order (R220): none. -/
  jobs : List LfJob := []
  /-- The sequences that run or are to follow, in order, and those whose edges the capture inputs have not had (R210, R220):
  none. -/
  seqs : List LfSeq := []
  /-- Stamp up to which the capture inputs 0x40 + n have had their edges (R210). -/
  edged : Nat := 0
  deriving DecidableEq, Repr, Inhabited


/-- Front-end states (R226). -/
inductive UhfState where
  | off | idle | cal | settle | rx | txRamp | tx | txDown
  deriving DecidableEq, Repr, Inhabited

/-- A calibration record (R229). -/
structure CalRec where
  /-- Centre frequency, Hz. -/
  freq : Nat := 0
  /-- Stamp at which it was made. -/
  stamp : Nat := 0
  /-- Die temperature, 0.1 °C. -/
  temp : Int := 0
  /-- VCO band. -/
  band : Nat := 0
  /-- Tuning codes. -/
  codes : Nat := 0
  deriving DecidableEq, Repr, Inhabited

/-- An access receive window booked or open (R231). -/
structure AccWin where
  /-- ACCESS.UHF_FREQ, Hz. -/
  freq : Nat := 0
  /-- Stamp at which it opens. -/
  open_ : Nat := 0
  /-- Its end. -/
  end_ : Nat := 0
  /-- It asks for the air by RF_REQ: UHF.COEX_RX and UHF.COEX_MODE as it was booked (R237, R238). -/
  coex : Bool := false
  /-- The front end has gone to its frequency. -/
  begun : Bool := false
  /-- Lock has failed twice: it is lost (R228). -/
  lost : Bool := false
  deriving DecidableEq, Repr, Inhabited

/-- What a host request asks of the front end. -/
inductive UhfKind where
  | tx | rx | cal
  deriving DecidableEq, Repr, Inhabited

/-- A host request that waits or is served (R231, R232). -/
structure UhfReq where
  /-- Its ticket. -/
  ticket : Nat := 0
  /-- What it asks for. -/
  kind : UhfKind := .tx
  /-- Frequency, Hz. -/
  freq : Nat := 0
  /-- Its deadline. -/
  deadline : Nat := 0
  /-- Stamp of its RF_REQ. -/
  reqAt : Nat := 0
  /-- Charter band. -/
  band : Nat := 0
  /-- Charged airtime, µs. -/
  airtime : Nat := 0
  /-- Whole epoch minute of its reservation (R244). -/
  minute : Nat := 0
  /-- POWER used, 0.25 dBm. -/
  power : Int := 0
  /-- Clamped to MAX_POWER. -/
  clamped : Bool := false
  /-- PRIORITY. -/
  priority : Bool := false
  /-- UHF.COEX_MODE as the request took it; 0 for a receive window that does not ask for the air (R237, R238). -/
  coex : Nat := 0
  /-- Acceptance order of its ticket. -/
  order : Nat := 0
  deriving DecidableEq, Repr, Inhabited

/-- A host receive window that is open or suspended (R246). -/
structure UhfWindow where
  /-- OPENED. -/
  opened : Nat := 0
  /-- End of WINDOW. -/
  end_ : Nat := 0
  /-- Entries of the packets delivered. -/
  packets : List Bytes := []
  /-- DROPPED. -/
  dropped : Nat := 0
  /-- A packet came after MAX_PACKETS. -/
  truncated : Bool := false
  /-- Suspended time so far, epoch units. -/
  suspended : Nat := 0
  deriving DecidableEq, Repr, Inhabited

/-- The sub-GHz transceiver and its front-end controller (08_subghz_radio.md). -/
structure Uhf where
  /-- STATE (R226): OFF. -/
  state : UhfState := .off
  /-- FREQ, Hz, present or last: 0. -/
  freq : Nat := 0
  /-- Cached calibration records, newest first, at most four (R229): none. -/
  records : List CalRec := []
  /-- Cause code of the calibration that runs (R247). -/
  calCause : Nat := 0
  /-- LAST_CAL and CAL_TEMP (R246): 0. -/
  lastCal : Nat := 0
  /-- CAL_TEMP. -/
  calTemp : Int := 0
  /-- Lock has failed once for the present request (R228): no. -/
  failed : Bool := false
  /-- Lock is declared. -/
  locked : Bool := false
  /-- LOCK_FAILS, saturating. -/
  lockFails : Nat := 0
  /-- TX_COUNT, wrapping. -/
  txCount : Nat := 0
  /-- RX_PACKETS, wrapping. -/
  rxPackets : Nat := 0
  /-- Charter page as the radio read it (R241): not read. -/
  charter : Bytes := []
  /-- Event 0x0706 kind 2 has been written since power-up (R241): no. -/
  maskWarned : Bool := false
  /-- Duty ledger: 60 one-minute buckets of each band, newest first, µs (R244). -/
  ledger : Vector (List Nat) 16 := Vector.replicate 16 []
  /-- Whole epoch minute of the newest bucket (R244): 0. -/
  minute : Nat := 0
  /-- LAST_END of each band (R246): 0. -/
  lastEnd : Vector Nat 16 := Vector.replicate 16 0
  /-- Level of RF_GNT (R238): low. -/
  gnt : Bool := false
  /-- Level of RF_REQ: low. -/
  req : Bool := false
  /-- Level of RF_PRI: low. -/
  pri : Bool := false
  /-- Request served now. -/
  serving : Option UhfReq := none
  /-- Host requests that wait, in acceptance order (R231). -/
  queue : List UhfReq := []
  /-- Stamp of the PA ramp start of the present transmission (R246 START). -/
  started : Nat := 0
  /-- Cause of a cut transmission, 0 none (R246 CAUSE). -/
  cut : Nat := 0
  /-- The packet on air: preamble, sync, length byte, body and CRC (R235). -/
  sent : Bytes := []
  /-- Host receive window of the request served: none. -/
  window : Option UhfWindow := none
  /-- Access receive window booked or open (R231): none. -/
  access : Option AccWin := none
  /-- Calibration record in use (R229, R230): none. -/
  loaded : Option CalRec := none
  /-- UHF.FREQ_OFFSET in ppb, as the synthesiser took it at its last SETTLE (R234): 0. -/
  offset : Int := 0
  /-- Latest stamp by which the ramp-down ends: TX_DOWN entry + 16 µs (R227). -/
  downAt : Nat := 0
  /-- Next booked sniff window (R162): none. -/
  sniffAt : Option Nat := none
  deriving DecidableEq, Repr, Inhabited


/-- A fast-exchange round as judged (R255, R257). -/
structure Round where
  /-- raw, TDC LSB; none without a reply. -/
  raw : Option Int := none
  /-- Port of the reply. -/
  port : Nat := 0
  /-- Reply polarity differs from the expected bit. -/
  bad : Bool := false
  deriving DecidableEq, Repr, Inhabited

/-- A session requested or running (R253, R254). -/
structure Sess where
  /-- Token slot. -/
  slot : Nat := 0
  /-- CHALLENGE of the cycle, 8 bytes. -/
  challenge : Bytes := []
  /-- STAMP of the cycle. -/
  cycle : Nat := 0
  /-- Bound B, cm. -/
  bound : Nat := 0
  /-- Requested by RANGE.PORT_CALIBRATE. -/
  calib : Bool := false
  /-- Transmit port in force at the start. -/
  txPort : Nat := 0
  /-- Ports enabled at the start. -/
  ports : List Nat := []
  /-- DELAYs in force at the start, ps. -/
  delays : List Nat := []
  /-- Stamp of the request (R268). -/
  asked : Nat := 0
  /-- Stamp from which the times of R254 count: the start. -/
  since : Nat := 0
  /-- Edges given to capture input 0x61 so far (R254, R255). -/
  edges : Nat := 0
  /-- K_S; none until C is drawn. -/
  ks : Option Bytes := none
  /-- Challenge bits C. -/
  c : Nat := 0
  /-- RESPONSE: none before it, then stamped and STS correlated. -/
  response : Option (Bool × Bool) := none
  /-- Rounds so far, in order. -/
  rounds : List Round := []
  /-- REPORT: none before it, then its bytes when one was received. -/
  report : Option (Option Bytes) := none
  deriving DecidableEq, Repr, Inhabited

/-- The last session of a slot (R268). -/
structure SessRec where
  /-- VERDICT, 0xFF without one. -/
  verdict : Nat := 0xFF
  /-- CAUSE. -/
  cause : Nat := 0
  /-- BIT_ERRORS. -/
  errors : Nat := 0
  /-- TURNAROUND. -/
  turnaround : Nat := 0
  /-- LATE. -/
  late : Nat := 0
  /-- BOUND_CM. -/
  bound : Nat := 0
  /-- STAMP. -/
  stamp : Nat := 0
  /-- DISTANCE_MM. -/
  distance : Int := 0
  /-- LIMIT_PS. -/
  limit : Nat := 0
  /-- The 32 round entries, 8 bytes each. -/
  rounds : Bytes := []
  deriving DecidableEq, Repr, Inhabited

/-- A RANGE.PORT_CALIBRATE that runs (R262). -/
structure PortCal where
  /-- Its ticket. -/
  ticket : Nat := 0
  /-- Antenna port. -/
  port : Nat := 0
  /-- SLOT of the reference token. -/
  slot : Nat := 0
  /-- TDC calibration only. -/
  tdcOnly : Bool := false
  /-- DISTANCE_MM. -/
  distance : Nat := 0
  /-- Its TDC calibration has passed. -/
  tdcDone : Bool := false
  /-- Sessions run so far. -/
  ran : Nat := 0
  /-- Values of the PASS sessions, quarter picoseconds. -/
  values : List Int := []
  deriving DecidableEq, Repr, Inhabited

/-- A RANGE.CABLE that waits or runs (R263, R264). -/
structure CableRun where
  /-- Its ticket. -/
  ticket : Nat := 0
  /-- FLAGS [0] FORCE. -/
  force : Bool := false
  /-- FLAGS [1] REFERENCE. -/
  reference : Bool := false
  /-- Latest stamp at which the first segment may start. -/
  latest : Nat := 0
  /-- Its first segment has started. -/
  begun : Bool := false
  /-- Tiles still to do, the present one first. -/
  tiles : List Nat := []
  /-- Samples taken on the present port, Q1.14. -/
  samples : List Int := []
  /-- Launches retaken on the present port. -/
  retaken : Nat := 0
  /-- The present tile's run has started and holds its port. -/
  held : Bool := false
  deriving DecidableEq, Repr, Inhabited

/-- The Rangefinder (09_rangefinder.md). -/
structure Range where
  /-- FLAGS [0] TDC calibrated (R268): no. -/
  tdcOk : Bool := false
  /-- A TDC calibration is owed before the next activity: at switch-on of PD6 (R252): no. -/
  tdcDue : Bool := false
  /-- LAST_TDC_CAL: 0. -/
  lastTdc : Nat := 0
  /-- TDC_TEMP, 0.1 °C: 0. -/
  tdcTemp : Int := 0
  /-- Correction of the last calibration, 0.01 % of the LSB: 0. -/
  tdcCorr : Int := 0
  /-- The session that runs: none. -/
  session : Option Sess := none
  /-- Sessions requested, in order (R260, R261): none. -/
  waiting : List Sess := []
  /-- Port calibration that runs: none. -/
  calib : Option PortCal := none
  /-- Cable runs that wait or run, in acceptance order: none. -/
  cables : List CableRun := []
  /-- Sessions ended that the access engine has yet to take: slot, LAST_RANGE code (0 without verdict), CAUSE: none. -/
  ended : List (Nat × Nat × Nat) := []
  /-- SESSIONS, wrapping: 0. -/
  sessions : Nat := 0
  /-- PASSES, wrapping: 0. -/
  passes : Nat := 0
  /-- SUSPICIONS, wrapping: 0. -/
  suspicions : Nat := 0
  /-- CABLE_RUNS, wrapping: 0. -/
  cableRuns : Nat := 0
  /-- EARLIEST of ports 0–3, wrapping: 0. -/
  earliest : Vector Nat 4 := Vector.replicate 4 0
  /-- Last session of each slot since power-up: none. -/
  last : Vector (Option SessRec) 16 := Vector.replicate 16 none
  /-- Last trace of ports P18–P23 since power-up: its stamp and samples. -/
  traces : Vector (Option (Nat × List Int)) 6 := Vector.replicate 6 none
  deriving DecidableEq, Repr, Inhabited


/-- Bytes 0–23 of GENESIS, written at factory lock (R291, R292). Its STAMP and flags at factory lock are the model's. -/
def genesisHead : Bytes := zeros 4 ++ [0x01, 0x07, 0, 0] ++ zeros 8 ++ leBytes 8 Config.fixerSerial.toNat

/-- H₀ (R293). -/
def genesisHash : Bytes := sha256 ([0x46, 0x58, 0x43, 0x30] ++ leBytes 8 Config.fixerSerial.toNat ++ genesisHead)

/-- Steps of a card's authentication (R289). -/
inductive CardStep where
  | idle | waiting | atr | pps | ifs | selectAid | selectEf | readCert | auth | ready
  deriving DecidableEq, Repr, Inhabited

/-- An exchange with a card by its transmission protocol (R288; ISO/IEC 7816-3). -/
structure CardLink where
  /-- Bytes of the command that are not sent yet, or, under T = 1, not acknowledged. -/
  tx : Bytes := []
  /-- Bytes received since the F die last sent. -/
  rx : Bytes := []
  /-- Response collected so far. -/
  got : Bytes := []
  /-- The T = 0 header in force. -/
  head : Bytes := []
  /-- Response bytes that the T = 0 header asks for and that have not come. -/
  want : Nat := 0
  /-- N(S) of the next T = 1 information block. -/
  ns : Bool := false
  /-- N(S) that the card's next information block carries. -/
  nr : Bool := false
  /-- An information block has not been acknowledged. -/
  open_ : Bool := false
  /-- IFSC of the card. -/
  ifsc : Nat := 32
  /-- The card declares CRC rather than LRC. -/
  crc : Bool := false
  /-- Blocks in a row that were wrong. -/
  tries : Nat := 0
  deriving DecidableEq, Repr, Inhabited

/-- A card interface of the F die (R288–R290). -/
structure Card where
  /-- A card is present. -/
  present : Bool := false
  /-- What FIXER.CARD_STATUS shows. -/
  info : CardInfo := {}
  /-- Step of the authentication. -/
  step : CardStep := .idle
  /-- Class of the activation tried: 2 B, 1 A. -/
  cls : Nat := 0
  /-- Bytes last sent to the card. -/
  sent : Bytes := []
  /-- Certificate read from the card (R289). -/
  cert : Bytes := []
  /-- Nonce of INTERNAL AUTHENTICATE. -/
  nonce : Bytes := []
  /-- Requests forwarded or waiting: lane sequence number and APDU; the first is with the card. -/
  reqs : List (Nat × Bytes) := []
  /-- The exchange with the card, where its protocol runs (R288). -/
  link : CardLink := {}
  /-- Lane sequence number of a warm reset that runs. -/
  reset : Option Nat := none
  /-- Distance has been driven in this minute while it was inserted (R292). -/
  driven : Bool := false
  deriving DecidableEq, Repr, Inhabited

/-- The motion-sensor link (R280–R282). -/
structure Motion where
  /-- SENSOR_ID and K_P of the paired sensor (F store): none. -/
  paired : Option (Nat × Bytes) := none
  /-- The last check passed. -/
  passed : Bool := false
  /-- A check has failed since the last passing one. -/
  failed : Bool := false
  /-- Baseline: COUNT and pulses accepted at its start bit. -/
  base : Option (Nat × Nat) := none
  /-- A CHECK that waits for COUNT: NONCE, tries made, stamp sent. -/
  check : Option (Bytes × Nat × Nat) := none
  /-- A pairing that its CHECK has to confirm (R282). -/
  pairing : Option (Nat × Bytes) := none
  /-- Stamp of the next CHECK. -/
  next : Nat := 0
  /-- Frame last sent on MS_DATA. -/
  sent : Bytes := []
  deriving DecidableEq, Repr, Inhabited

/-- The minute in progress (R292). -/
structure Minute where
  /-- Total metres at its start. -/
  from_ : Nat := 0
  /-- V_MAX so far, 0xFF for none. -/
  vmax : Nat := 0xFF
  /-- Slot activity codes so far. -/
  act : List Nat := [0, 0]
  /-- Flags of byte 5. -/
  flags : Nat := 0
  /-- GLITCHES, saturating. -/
  glitches : Nat := 0
  deriving DecidableEq, Repr, Inhabited

/-- A pending GAP (R296). -/
structure GapAcc where
  /-- Minutes not recorded, 0xFFFF if unknown. -/
  minutes : Nat := 0
  /-- Records not kept. -/
  records : Nat := 0
  /-- Metres in the gap. -/
  metres : Nat := 0
  deriving DecidableEq, Repr, Inhabited

/-- A class 0x09 set the F die holds (R300). -/
structure FixSet where
  /-- Items by settings row. -/
  items : List (Nat × Int) := []
  /-- Sensor to pair: SENSOR_ID, K_P and SENSOR_BLOB. -/
  pair : Option (Nat × Bytes × Bytes) := none
  /-- CONFIG_GEN the exposure gives. -/
  gen : Nat := 0
  /-- INSTANT of the exposure. -/
  instant : Nat := 0
  /-- Ticket of the exposure. -/
  ticket : Nat := 0
  /-- Armed by EXPOSE_COMMIT. -/
  armed : Bool := false
  deriving DecidableEq, Repr, Inhabited

/-- A counter of the F store: a high record and a 256-bit unary bitmap (R271, R277). -/
structure Unary where
  /-- The high record. -/
  high : Nat := 0
  /-- Bits set in the bitmap, the lowest first. -/
  set : Nat := 0
  deriving DecidableEq, Repr, Inhabited

/-- high × 256 + set bits (R277). -/
def Unary.value (u : Unary) : Nat := u.high * 256 + u.set

/-- A change of k (R276). -/
structure KChange where
  /-- Stamp of the sync edge. -/
  edge : Nat := 0
  /-- The old k. -/
  k : Nat := 0
  /-- P under the old k. -/
  pulses : Nat := 0
  /-- M0 under the old k. -/
  m0 : Nat := 0
  deriving DecidableEq, Repr, Inhabited

/-- The metrology island (10_fixer_metrology.md). -/
structure Fixer where
  /-- The F die runs: its reset is released and it has started: no. -/
  running : Bool := false
  /-- Retained SRAM of PD1 FIX holds what the last loss of supply left (R297): no. -/
  retained : Bool := false
  /-- Fixer clock (R283): 0. -/
  clock : Nat := 0
  /-- Its accumulator remainder in units of 10⁻¹¹ LSB (R283, R285, R491): 0. -/
  rem : Nat := 0
  /-- UNSET (R287): set until a workshop proposal. -/
  unset : Bool := true
  /-- Backward slew still to take, in 10⁻² LSB (R285): 0. -/
  slew : Nat := 0
  /-- Temperature correction of XM in 10⁻⁹ (R491): 0. -/
  trim : Int := 0
  /-- Temperature last measured, 0.1 °C (R491). -/
  temp : Int := 250
  /-- Stamp of the next temperature correction (R491). -/
  trimAt : Nat := 0
  /-- The change of k last made, for pulses stamped before it that are accepted after it (R276): none. -/
  kChange : Option KChange := none
  /-- P, pulses since the last change of k (R276): 0. -/
  pulses : Nat := 0
  /-- M0, mm (R276): 0. -/
  m0 : Nat := 0
  /-- Pulses accepted since F-die start (R281). -/
  total : Nat := 0
  /-- The accepted rising edges of the present second and the last two before it, newest first: stamp, and the k of the
  period that ends there (R278). -/
  edges : List (Nat × Nat) := []
  /-- Speed of the last second, 0.01 km/h; none while not yet valid (R278). -/
  speed : Option Nat := none
  /-- Speed ring, newest first, at most 86,400 samples; older ones read 0xFD (R279). -/
  ring : Bytes := []
  /-- Stamp of the next speed sample. -/
  nextSec : Nat := 0
  /-- Stamp of the next whole minute. -/
  nextMin : Nat := 0
  /-- The minute in progress. -/
  minute : Minute := {}
  /-- Driver token slot and TOKEN_ID last recorded (R274). -/
  driver : Nat × Nat := (0xFF, 0)
  /-- SEQ the next record takes (R291): 1, GENESIS being made at factory lock. -/
  next : Nat := 1
  /-- H of the last chained record (R293): H₀ of GENESIS. -/
  chain : Bytes := genesisHash
  /-- Chained records since the last signature (R292). -/
  since : Nat := 1
  /-- The buffer: SEQ, the 32 bytes, and H for a chained record (R295): GENESIS. -/
  buffer : List (Nat × Bytes × Bytes) := [(0, genesisHead ++ genesisHash.take 8, genesisHash)]
  /-- TAIL_SEQ last confirmed (R295): none. -/
  tail : Nat := 0xFFFFFFFF
  /-- H of the last chained record at or below the tail. -/
  tailH : Bytes := genesisHash
  /-- Pending GAP (R296): none. -/
  gap : Option GapAcc := none
  /-- Seal counter (R298), in the F store: 0. -/
  seals : Unary := {}
  /-- FIXER_EVENTs not confirmed yet, oldest first (R507): none. -/
  events : List EvRec := []
  /-- EVENTS_DROPPED (R507): 0. -/
  dropped : Nat := 0
  /-- Class 0x09 settings by row, those that differ from their defaults (R306): none. -/
  values : List (Nat × Int) := []
  /-- FIXER.K has been set by an exposure (R301): no. -/
  kSet : Bool := false
  /-- Set prepared or armed (R300): none. -/
  set : Option FixSet := none
  /-- APPLIED_GEN (R150): 0. -/
  applied : Nat := 0
  /-- Stamp of that application. -/
  appliedAt : Nat := 0
  /-- Clocks latched at the sync edges of the EPOCH_SAMPLEs to come, by their lane sequence numbers (R284): none. -/
  latches : List (Nat × Nat) := []
  /-- Usable samples: clock and O, newest first (R284): none. -/
  samples : List (Nat × Int) := []
  /-- O of the last usable sample (R284): none. -/
  offset : Option Int := none
  /-- An adjustment was accepted since the last sample (R284). -/
  adjusted : Bool := false
  /-- Drift, ms per day; none while not judged (R301). -/
  drift : Option Int := none
  /-- Stamp of the last CLOCK_DRIFT record (R284). -/
  lastDrift : Option Nat := none
  /-- Non-workshop proposals counted against A: stamp and |DELTA| (R285). -/
  spent : List (Nat × Nat) := []
  /-- Card interfaces. -/
  cards : Vector Card 2 := Vector.replicate 2 {}
  /-- Motion-sensor link. -/
  motion : Motion := {}
  /-- The F die runs on VFB (R272): no. -/
  onVfb : Bool := false
  /-- VFB, mV, as last measured. -/
  vfb : Nat := 0
  /-- The F die's lid contact is open (R299). -/
  lidOpen : Bool := false
  /-- The lid was open at the last sample (R299): no. -/
  lidSeen : Bool := false
  /-- Stamp of the last lid closing. -/
  lidClosed : Option Nat := none
  /-- The F-die mesh is broken (R299): no. -/
  mesh : Bool := false
  /-- The break of the mesh has been sensed and latched (R299): no. -/
  meshSeen : Bool := false
  /-- Checkpoint slot: clock and sub-unit distance, mm (R272, R277). -/
  checkpoint : Nat × Nat := (0, 0)
  /-- Distance counter, units of 100 m (R277), in the F store: 0. -/
  distance : Unary := {}
  /-- The chain-head ring of the F store, newest slot first, at most 512: TAIL_SEQ, H and the clock (R271, R295): empty. -/
  heads : List (Nat × Bytes × Nat) := []
  /-- Lane messages of an unlisted type, counted (R20). -/
  unknown : Nat := 0
  deriving DecidableEq, Repr, Inhabited

/-- A copy of a frame in an egress queue (R326, R333). -/
structure Copy where
  /-- Egress port. -/
  port : Nat := 0
  /-- Queue 0–7. -/
  queue : Nat := 0
  /-- Stamp from which it is held out; none for no hold (R333). -/
  hold : Option Nat := none
  /-- A cipher-loop job has taken it into context 3 (R323). -/
  taken : Bool := false
  deriving DecidableEq, Repr, Inhabited

/-- The pool a frame's cells came from (R328). -/
inductive Pool where
  | access | reserve | shared
  deriving DecidableEq, Repr, Inhabited

/-- Transforms of the table copy a frame was classified under (R320, R324). -/
structure Transform where
  /-- The 40-byte entry that decided the frame; empty when none matched. -/
  entry : Bytes := []
  /-- Encapsulation profile: DEST_MAC, VID, STREAM_ID. -/
  encap : Nat × Nat × Nat := (0, 0, 0)
  /-- Loop profile: OP, KEY_SLOT, TAG_BYTES. -/
  loop_ : Nat × Nat × Nat := (0, 0, 0)
  deriving DecidableEq, Repr, Inhabited

/-- A frame held in the buffer (R314–R316). -/
structure SwFrame where
  /-- Ingress stamp. -/
  stamp : Nat := 0
  /-- TAG of the ingress order key. -/
  tag : Nat := 0
  /-- KIND (R315). -/
  kind : Nat := 0
  /-- Ingress port. -/
  port : Nat := 0
  /-- Table generation of its classification. -/
  gen : Nat := 0
  /-- Built by the access engine: 1 release frame, 2 body frame; 0 not. -/
  built : Nat := 0
  /-- FRAME in its medium form. -/
  bytes : Bytes := []
  /-- Transforms. -/
  tr : Transform := {}
  /-- Pool of its cells. -/
  pool : Pool := .shared
  /-- Cells it holds (R316). -/
  cells : Nat := 1
  /-- Stamp at which a copy not started ends AGED (R333). -/
  age : Nat := 0
  /-- Copies that have not ended, each port's in order of queueing. -/
  copies : List Copy := []
  deriving DecidableEq, Repr, Inhabited

/-- State of a port (R313); BLOCKED is computed. -/
inductive PortState where
  | disabled | down | up
  deriving DecidableEq, Repr, Inhabited

/-- A port (R307–R313, R326–R333, R341). -/
structure Port where
  /-- STATE: DOWN, or DISABLED while its settings disable it. -/
  state : PortState := .down
  /-- Cause code of the last port-down (R342): domain. -/
  cause : Nat := 6
  /-- A cable run holds the port (R263). -/
  cable : Bool := false
  /-- CAN bus-off (R309). -/
  busOff : Bool := false
  /-- TEC. -/
  tec : Nat := 0
  /-- REC. -/
  recErr : Nat := 0
  /-- End of a partner's PAUSE (R331): none. -/
  pauseUntil : Option Nat := none
  /-- Held (R330): no. -/
  held : Bool := false
  /-- Stamp of the last PAUSE sent in this hold (R331). -/
  pauseSent : Nat := 0
  /-- UP_SINCE. -/
  upSince : Nat := 0
  /-- The sixteen counters of R341. -/
  counters : Vector Nat 16 := Vector.replicate 16 0
  /-- HELD_OUT and AGED ends not yet reported: count and first stamp of each (R333). -/
  ended : Nat × Nat := (0, 0)
  /-- AGED ends not yet reported. -/
  agedEnds : Nat × Nat := (0, 0)
  /-- Stamp of the last event 0x0A04 (R333): none. -/
  lastEnd : Option Nat := none
  /-- Bytes of the frames last sent, in medium form; what leaves at the balls. -/
  sent : List Bytes := []
  /-- Sequence number of the next NTSCF frame (R320). -/
  ntscf : Nat := 0
  /-- LIN schedule object that runs (R311). -/
  sched : Bytes := []
  /-- LIN: next slot of the schedule (R310). -/
  slot : Nat := 0
  /-- LIN: stamp of the next slot boundary. -/
  slotAt : Nat := 0
  /-- LIN: slot whose response is awaited. -/
  awaiting : Option Nat := none
  /-- LIN publish buffers: FRAME_ID, data, not yet sent (R327). -/
  publish : List (Nat × Bytes × Bool) := []
  deriving DecidableEq, Repr, Inhabited

/-- A cipher-loop profile's counters (R323). -/
structure Loop where
  /-- FRESH of the next appended frame. -/
  fresh : Nat := 0
  /-- First FRESH value beyond the reservation written. -/
  reserved : Nat := 0
  /-- A reservation is being written. -/
  reserving : Bool := false
  /-- Last value accepted; none before the first. -/
  accepted : Option Nat := none
  /-- Acceptances since the last value was written to the store. -/
  since : Nat := 0
  deriving DecidableEq, Repr, Inhabited

/-- The retiring table copy (R324). -/
structure Retiring where
  /-- Its generation. -/
  gen : Nat := 0
  /-- Its retire stamp. -/
  stamp : Nat := 0
  /-- Its drain bound. -/
  bound : Nat := 0
  /-- Its entries, as objects of the configuration, and its profile settings. -/
  conf : Conf := {}
  deriving DecidableEq, Repr, Inhabited

/-- The frame switch (11_frame_switch.md). -/
structure Switch where
  /-- TABLE_GEN (R324): 0. -/
  gen : Nat := 0
  /-- Retiring copy (R324): none. -/
  retiring : Option Retiring := none
  /-- What was in force before the last exposure that changed the switch, with its instant (R325, R339): none. -/
  before : Option Retiring := none
  /-- Frames held, oldest first: none. -/
  frames : List SwFrame := []
  /-- Ports P00–P27 (R307). -/
  ports : Vector Port 28 := Vector.replicate 28 {}
  /-- Loop profiles 0–7 (R323). -/
  loops : Vector Loop 8 := Vector.replicate 8 {}
  /-- Cells neither free nor held by a frame (R338): 0. -/
  lost : Nat := 0
  /-- Suspect cells of the last pass (R338): 0. -/
  suspect : Nat := 0
  /-- SHARED_FREE_MIN (R341). -/
  freeMin : Nat := 16384
  /-- CAPTURE_SKIPPED, wrapping (R341): 0. -/
  skipped : Nat := 0
  /-- LEAKS, saturating (R341): 0. -/
  leaks : Nat := 0
  /-- LAST_AUDIT (R341): 0. -/
  lastAudit : Nat := 0
  /-- P27: frames delivered, SEQ (R335): 0. -/
  p27Seq : Nat := 0
  /-- P27: RX slot next in turn (R337): 0. -/
  p27Next : Nat := 0
  /-- Stamp at which the TX slots of P27 are examined next (R337): 0. -/
  scanAt : Nat := 0
  deriving DecidableEq, Repr, Inhabited


/-- One version of a slot's key with its attribute block (R348, R349). -/
structure KeyVer where
  /-- The key. -/
  key : Bytes := []
  /-- LENGTH: 0 AES-128, 1 AES-192, 2 AES-256. -/
  length : Nat := 0
  /-- USAGE. -/
  usage : Nat := 0
  /-- FLAGS [0] ERASE_WORKSHOP. -/
  eraseWorkshop : Bool := false
  /-- KEY_GEN taken by its install. -/
  gen : Nat := 0
  deriving DecidableEq, Repr, Inhabited

/-- A pending write of a key slot (R356). -/
structure Shadow where
  /-- The version that lands. -/
  ver : KeyVer := {}
  /-- Path of R350 as event 0x0B01 codes it. -/
  path : Nat := 0
  /-- Its slot record is written. -/
  stored : Bool := false
  deriving DecidableEq, Repr, Inhabited

/-- A key slot (R348). -/
structure KeySlot where
  /-- The version in force; none while EMPTY. -/
  ver : Option KeyVer := none
  /-- The pending write: none. -/
  shadow : Option Shadow := none
  /-- Last KEY_GEN taken by an install of the slot: 0. -/
  lastGen : Nat := 0
  /-- NONCE_NEXT: 0. -/
  nonceNext : Nat := 0
  /-- First nonce value beyond the reservation written (R360): 0. -/
  reserved : Nat := 0
  /-- A reservation is being written (R360): no. -/
  reserving : Bool := false
  /-- EXHAUSTED: no. -/
  exhausted : Bool := false
  /-- Event 0x0B04 has been written for this version (R359): no. -/
  warned : Bool := false
  /-- Stamp at which the version in force landed (R369): 0. -/
  landed : Nat := 0
  deriving DecidableEq, Repr, Inhabited

/-- A job in a context (R354). -/
structure CJob where
  /-- Its host ticket; none for an internal consumer. -/
  ticket : Option Nat := none
  /-- Its slot. -/
  slot : Nat := 0
  /-- The version bound (R356). -/
  ver : KeyVer := {}
  /-- IV, nonce or first counter block, in the layout of the request. -/
  iv : Bytes := []
  /-- It waits for a word of the cipher wire (R376). -/
  ivWait : Bool := false
  /-- Ephemeral key of the context (R354). -/
  ephemeral : Bytes := []
  deriving DecidableEq, Repr, Inhabited

/-- The cipher engine (12_cipher_engine.md). -/
structure Cipher where
  /-- Key slots 0–63 (R347): EMPTY until the start restores them (R351). -/
  slots : Vector KeySlot 64 := Vector.replicate 64 {}
  /-- Job contexts 0–7 (R354): none. -/
  ctx : Vector (Option CJob) 8 := Vector.replicate 8 none
  /-- Latched off (R363): no. -/
  off : Bool := false
  /-- Stamps of the check mismatches of the last 60 s (R363): none. -/
  recent : List Nat := []
  /-- MISMATCHES, saturating (R369): 0. -/
  mismatches : Nat := 0
  /-- JOBS, wrapping (R369): 0. -/
  jobs : Nat := 0
  /-- REVOKED, saturating (R369): 0. -/
  revoked : Nat := 0
  deriving DecidableEq, Repr, Inhabited


/-- A word request on a private wire (R376). -/
inductive WireReq where
  /-- Key wire: a key for CIPHER.KEY_GENERATE of this ticket. -/
  | key (ticket : Nat)
  /-- Cipher wire: the IV of the job in this context. -/
  | iv (ctx : Nat)
  /-- Cipher wire: the overwrite of an erased slot (R353). -/
  | overwrite
  deriving DecidableEq, Repr, Inhabited

/-- A request of an internal consumer of the queue (R378). -/
structure QueueReq where
  /-- Order of the consumer: 1 Rangefinder, 2 access engine, 3 Safelight. -/
  consumer : Nat := 1
  /-- Bytes asked for. -/
  len : Nat := 0
  /-- Bytes gathered. -/
  got : Bytes := []
  /-- Stamp of the request. -/
  since : Nat := 0
  deriving DecidableEq, Repr, Inhabited

/-- A raw-sample run (R382). -/
structure RawRun where
  /-- Its ticket. -/
  ticket : Nat := 0
  /-- SOURCE. -/
  source : Nat := 0
  /-- COUNT. -/
  count : Nat := 0
  /-- Stamp of the first sample. -/
  start : Nat := 0
  deriving DecidableEq, Repr, Inhabited

/-- The two continuous tests of one noise source (R374). -/
structure Monitor where
  /-- The last raw bit. -/
  last : Bool := false
  /-- Length of the run of identical bits that ends with it, 0 before the first bit. -/
  run : Nat := 0
  /-- First bit of the present window. -/
  first : Bool := false
  /-- Bits of the present window, 0–1,023. -/
  seen : Nat := 0
  /-- How often its first bit has occurred in it. -/
  hits : Nat := 0
  deriving DecidableEq, Repr, Inhabited

/-- What Grain is doing (R385 STATE). -/
inductive GrainState where
  | off | startup | ready | raw | latched
  deriving DecidableEq, Repr, Inhabited

/-- The random number generator (13_grain_rng.md). -/
structure Grain where
  /-- STATE (R385): off. -/
  state : GrainState := .off
  /-- What the start-up test follows: none for a switch-on, 0 a health failure, 1 a raw-sample run (R386): none. -/
  resume : Option Nat := none
  /-- The conditioner, 128 bits (R373): 0. -/
  lfsr : Nat := 0
  /-- Seed words of the countermeasure generator, at most two (R376): none. -/
  seeds : List Bytes := []
  /-- Mask reserve held unused, in PD0 AON (R377): none. -/
  reserve : Option Bytes := none
  /-- Mask of the key store (R351): zero. -/
  mask : Bytes := []
  /-- The key store waits for the next reserve word to re-mask (R377): no. -/
  remask : Bool := false
  /-- The queue, at most 4,096 bytes (R378): empty. -/
  queue : Bytes := []
  /-- Word requests that wait on the private wires, in request order (R379): none. -/
  wires : List WireReq := []
  /-- Requests of internal consumers that wait (R378): none. -/
  reqs : List QueueReq := []
  /-- Stamps of health failures of the last 24 h, in PD0 AON (R381): none. -/
  fails : List Nat := []
  /-- LAST_FAIL (R385): 0. -/
  lastFail : Nat := 0
  /-- FAILURES, saturating (R385): 0. -/
  failures : Nat := 0
  /-- STARTUPS, wrapping (R385): 0. -/
  startups : Nat := 0
  /-- BYTES_OUT, wrapping (R385): 0. -/
  bytesOut : Nat := 0
  /-- Raw-sample run in progress (R382): none. -/
  run : Option RawRun := none
  /-- Stamp from which the start-up test counts, and the conditioner's words once it has passed (R373, R375): 0. -/
  since : Nat := 0
  /-- Conditioned words since then (R373): 0. -/
  made : Nat := 0
  /-- Stamp of the generator's last seeding or reseeding (R376): 0. -/
  seededAt : Nat := 0
  /-- The continuous tests of the four sources (R374): not begun. -/
  monitors : Vector Monitor 4 := Vector.replicate 4 {}
  deriving DecidableEq, Repr, Inhabited


/-- A 64-byte record of the parameter store (R389). -/
structure Rec where
  /-- KEY (R391). -/
  key : Nat := 0
  /-- SEQ (R392). -/
  seq : Nat := 0
  /-- FLAGS [0] SET, with SET_NO of the set it belongs to. -/
  set : Option Nat := none
  /-- FLAGS [1] TOMBSTONE. -/
  tombstone : Bool := false
  /-- FLAGS [2] ERASE_PENDING. -/
  erasePending : Bool := false
  /-- FLAGS [3] COPY. -/
  copy : Bool := false
  /-- DATA in use, LENGTH bytes. -/
  data : Bytes := []
  deriving DecidableEq, Repr, Inhabited

/-- What a slot reads as (R390); an ERASED slot is one beyond the slots listed. -/
inductive Slot where
  /-- VALID; `corrected` tells that a bit was corrected on reading. -/
  | valid (r : Rec) (corrected : Bool)
  /-- DEAD: all zero. -/
  | dead
  /-- TORN: any other content. -/
  | torn
  deriving DecidableEq, Repr, Inhabited

/-- A sector of the main log or the ring pair (R388, R394). -/
structure Sector where
  /-- SECTOR_SEQ of its head. -/
  seq : Nat := 0
  /-- ERASE_COUNT of its head. -/
  erases : Nat := 0
  /-- Stamp of its erase. -/
  stamp : Nat := 0
  /-- Its head is valid; an interrupted erase leaves it without one. -/
  headed : Bool := true
  /-- Slots 1 onward that have been written, at most 255. -/
  slots : List Slot := []
  deriving DecidableEq, Repr, Inhabited

/-- A counter across cells (R396). -/
structure Counter where
  /-- KEY of its high records. -/
  key : Nat := 0
  /-- GEN. -/
  gen : Nat := 0
  /-- HIGH. -/
  high : Nat := 0
  /-- U, set units of its bitmap, 0–128. -/
  units : Nat := 0
  /-- BITMAP, 0–254. -/
  bitmap : Nat := 0
  deriving DecidableEq, Repr, Inhabited

/-- What the storage controller does when an operation finishes, besides the operation itself. -/
inductive After where
  /-- Nothing more. -/
  | nothing
  /-- The record of key slot `n` is stored (R356). -/
  | keySlot (n gen : Nat)
  /-- The erased records of a CIPHER.KEY_ERASE are written (R353). -/
  | keyErased (ticket : Nat)
  /-- A reservation of counter `key` is granted (R190, R360, R323). -/
  | reserved (key : Nat)
  /-- SET_PENDING is written for the pending exposure (R146). -/
  | pendingSet
  /-- CONFIG_COMMIT is written (R147). -/
  | committed
  /-- The last shadow record of a charter write is stored (R406). -/
  | charterShadow
  /-- The charter page is erased (R406). -/
  | charterErased
  /-- The charter page is programmed (R406). -/
  | charterDone
  /-- The lock bits are programmed for this ticket (R406). -/
  | charterLocked (ticket : Nat)
  /-- The HOST partition has been erased for this ticket (R419). -/
  | hostCleared (ticket : Nat)
  /-- An image partition has been erased for this ticket (R450). -/
  | imageErased (ticket : Nat) (image : Nat)
  deriving DecidableEq, Repr, Inhabited

/-- A flash or vault operation (R398, R413). -/
inductive StoreAct where
  /-- Record program: a record under its key and SEQ, appended in its area. -/
  | record (r : Rec)
  /-- Unit program of the counter with this key (R396). -/
  | unit (key : Nat)
  /-- Erase of the main-log sector being compacted (R394). -/
  | logErase (sector : Nat)
  /-- Swap of the ring pair (R395). -/
  | ringErase
  /-- Erase of a counter-area sector (R396). -/
  | counterErase (sector : Nat)
  /-- Erase of the charter page (R406). -/
  | charterErase
  /-- Program of the charter page (R406). -/
  | charterProgram
  /-- Program of both charter lock bits (R406). -/
  | lockBits
  /-- Program of the page buffer of a partition (R410). -/
  | page (part : Nat)
  /-- Erase of the oldest block of a ring partition, or of a whole partition (R410). -/
  | blockErase (part : Nat)
  /-- Relocation of a block of a partition, counted from factory lock (R414, R415). -/
  | relocate (part block : Nat)
  deriving DecidableEq, Repr, Inhabited

/-- A queued or running storage operation. -/
structure StoreOp where
  /-- The operation. -/
  act : StoreAct := .unit 0
  /-- What follows when it finishes. -/
  then_ : After := .nothing
  deriving DecidableEq, Repr, Inhabited

/-- A configuration set in the store (R401). -/
structure ConfSet where
  /-- SET_NO. -/
  no : Nat := 0
  /-- Session that was checked. -/
  session : Nat := 0
  /-- Its items. -/
  items : List Item := []
  /-- 0 prepared, 1 pending (SET_PENDING written), 2 committed, 3 void or abandoned. -/
  phase : Nat := 0
  deriving DecidableEq, Repr, Inhabited

/-- The parameter store and the storage controller (14_storage.md). -/
structure Store where
  /-- Main-log sectors 0–27 (R388): erased, with heads of SECTOR_SEQ 0–27; the first holds the slot record of the
  provisioning KEK (R347, R351). -/
  log : Vector Sector 28 := Vector.ofFn (fun i => {
    seq := i.val, slots := if i.val = 0 then [.valid { key := 0x40, data := factorySlot } false] else [] })
  /-- Main-log sector being appended (R394). -/
  at_ : Nat := 0
  /-- Ring sectors 28–29 (R388). -/
  ring : Vector Sector 2 := Vector.replicate 2 {}
  /-- Active sector of the ring pair, 0 or 1 (R395). -/
  ringActive : Nat := 0
  /-- Counters across cells in use (R397): none beyond 0. -/
  counters : List Counter := []
  /-- Active counter-area sector, 0 or 1 (R396). -/
  ctrActive : Nat := 0
  /-- Retired bitmaps, not reused until their sector is erased (R396). -/
  retired : List Nat := []
  /-- Erase counts of the two counter sectors. -/
  ctrErases : Vector Nat 2 := Vector.replicate 2 0
  /-- Charter page, 4,096 bytes (R388, R406): the factory charter (R242). -/
  charter : Bytes := factoryCharter
  /-- Charter lock bits (R406): unprogrammed. -/
  lockA : Bool := false
  /-- Second charter lock bit (R406): unprogrammed. -/
  lockB : Bool := false
  /-- Charter parts collected in the Steward buffer (R419): none. -/
  parts : List (Nat × Bytes) := []
  /-- Page content of a charter write in progress and its ticket (R406): none. -/
  charterNew : Option (Nat × Bytes) := none
  /-- Operations waiting, flash operations first in first out (R398). -/
  queue : List StoreOp := []
  /-- The operation in progress (R399): none. -/
  running : Option StoreOp := none
  /-- VHOLD as last converted for the supply check, mV (R398). -/
  vhold : Nat := 0
  /-- The supply check holds an operation (R398): no. -/
  holding : Bool := false
  /-- Next SET_NO (R401): 1. -/
  nextSet : Nat := 1
  /-- Configuration sets not yet dead (R401): none. -/
  sets : List ConfSet := []
  /-- A compaction is running: the sector (R394): none. -/
  compacting : Option Nat := none
  /-- Stamps of the CIPHER.JOB reservations of the last 24 h (R400): none. -/
  jobUnits : List Nat := []
  /-- Stamp of factory lock (R400): 0. -/
  lockStamp : Nat := 0
  /-- Latched mesh break (R446): none. -/
  meshBroken : Bool := false
  /-- Stamp of the last parameter-store scan (R415): 0, so that both scans start at once. -/
  paramAt : Nat := 0
  /-- The operation that a loss of power cut, until the recovery has seen it (R404): none. -/
  cut : Option StoreAct := none
  /-- A recovery is due at the next switch-on of PD9 STORE (R404). -/
  recoverDue : Bool := true
  deriving DecidableEq, Repr, Inhabited

/-- A programmed page of the vault (R408, R409). -/
structure Page where
  /-- KIND: partial. -/
  partial_ : Bool := false
  /-- FIRST_NO. -/
  firstNo : Nat := 0
  /-- STAMP. -/
  stamp : Nat := 0
  /-- WRITE_SEQ. -/
  writeSeq : Nat := 0
  /-- The records of the page. -/
  recs : List Bytes := []
  /-- LOGICAL_PAGE. -/
  logical : Nat := 0
  /-- ERASE_COUNT. -/
  eraseCount : Nat := 0
  /-- Physical block it stands on, counted in the data pool (R407): 0. -/
  block : Nat := 0
  /-- Bits that a scan found wrong in each of the four codewords (R408, R415). -/
  errors : Vector Nat 4 := ⟨#[0, 0, 0, 0], rfl⟩
  deriving DecidableEq, Repr, Inhabited

/-- A partition of the vault (R410). -/
structure Part where
  /-- Programmed pages that are retained, oldest first. -/
  pages : List Page := []
  /-- The page buffer: records not yet programmed. -/
  buffer : List Bytes := []
  /-- Stamp at which the oldest buffered record entered. -/
  since : Nat := 0
  /-- Number the next record takes. -/
  nextNo : Nat := 0
  /-- Wear credit in units of one epoch unit's gain: one block is 2³⁰ × 1,262,304,000 units (R412). -/
  credit : Nat := 0
  /-- Stamp up to which the credit has been counted (R412). -/
  creditAt : Nat := 0
  /-- Blocks of the partition, lowered when it gives up blocks (R414). -/
  blocks : Nat := 0
  /-- Pages ever programmed since the partition was erased (the place of the head in its blocks). -/
  programmed : Nat := 0
  /-- Some block has been erased for reuse (R419 wrapped). -/
  wrapped : Bool := false
  /-- A page or an append waits for wear credit (R412). -/
  starved : Bool := false
  /-- Block map: the physical blocks in use, oldest first (R407): none. -/
  map : List Nat := []
  /-- Its erased blocks, in the order of their use (R407, R410): none. -/
  idle : List Nat := []
  /-- First of its blocks that has never been used, counted in the data pool (R407). -/
  fresh : Nat := 0
  /-- End of its blocks as shipped, counted in the data pool (R407). -/
  last : Nat := 0
  deriving DecidableEq, Repr, Inhabited

/-- A HOST append whose page is not programmed yet (R419). -/
structure HostWait where
  /-- Its ticket. -/
  ticket : Nat := 0
  /-- Its record number. -/
  no : Nat := 0
  deriving DecidableEq, Repr, Inhabited

/-- The record vault (14_storage.md). -/
structure Vault where
  /-- FIXER, LOG, IMAGE_A, IMAGE_B, CAPTURE, HOST (R409, R410). -/
  parts : Vector Part 6 :=
    ⟨#[{ blocks := 4096, fresh := 0, last := 4096 }, { blocks := 2048, fresh := 4096, last := 6144 },
       { blocks := 1024, fresh := 6144, last := 7168 }, { blocks := 1024, fresh := 7168, last := 8192 },
       { blocks := 4096, fresh := 8192, last := 12288 }, { blocks := 4096, fresh := 12288, last := 16384 }], rfl⟩
  /-- Vault-wide program count (R409 WRITE_SEQ): 0. -/
  writeSeq : Nat := 0
  /-- First spare block that has never been used, counted in the data pool; the spares follow the 16,384 user blocks
  (R407). -/
  spareNext : Nat := 16384
  /-- Blocks that came back as spares, in the order of their use (R414): none. -/
  spareBack : List Nat := []
  /-- Erase counts by physical block; an unlisted block has none (R407): none. -/
  wear : List (Nat × Nat) := []
  /-- Remap journal since the last checkpoint of the block map: source and target (R407, R414): none. -/
  journal : List (Nat × Nat) := []
  /-- Checkpoints of the block map written, one every 256 remaps (R407): 0. -/
  checkpoints : Nat := 0
  /-- Grown bad blocks (R419): 0. -/
  grownBad : Nat := 0
  /-- Physical blocks retired as grown bad (R408, R414): none. -/
  bad : List Nat := []
  /-- RELOCATIONS, wrapping (R419): 0. -/
  relocations : Nat := 0
  /-- LAST_SCAN (R419): 0. -/
  lastScan : Nat := 0
  /-- Event 0x0D06 has been written (R414). -/
  sparesLow : Bool := false
  /-- Event 0x0D07 has been written (R410). -/
  fixerFull : Bool := false
  /-- RECORD_APPEND records refused, counted (R411): 0. -/
  refused : Nat := 0
  /-- HOST appends waiting for their page (R419): none. -/
  hostWaits : List HostWait := []
  /-- The V die answers (R467): yes. -/
  alive : Bool := true
  deriving DecidableEq, Repr, Inhabited

/-- A guard region (R426). -/
structure Region where
  /-- BASE. -/
  base : Nat := 0
  /-- LIMIT. -/
  limit : Nat := 0
  /-- PERM: [0] read, [1] write, [2] execute, [3] enabled, [4] LOCK. -/
  perm : Nat := 0
  deriving DecidableEq, Repr, Inhabited

/-- What the Test strip keeps of a bank (R430–R432, R437). -/
structure Bank where
  /-- FAILED. -/
  failed : Bool := false
  /-- Free spare strips. -/
  spares : Nat := 2
  /-- Strips mapped onto spares. -/
  mapped : List Nat := []
  /-- CORRECTED, saturating. -/
  corrected : Nat := 0
  /-- Words corrected since the last event 0x0E02 (R422). -/
  sinceEvent : Nat := 0
  /-- Stamp of the last event 0x0E02. -/
  lastEvent : Option Nat := none
  deriving DecidableEq, Repr, Inhabited

/-- A guard log entry (R437). -/
structure GuardEntry where
  /-- STAMP. -/
  stamp : Nat := 0
  /-- ADDRESS. -/
  address : Nat := 0
  /-- MASTER. -/
  master : Nat := 0
  /-- KIND. -/
  kind : Nat := 0
  /-- ACCESS. -/
  access : Nat := 0
  deriving DecidableEq, Repr, Inhabited

/-- A DMA ring (R434). -/
structure DmaRing where
  /-- Entries held, oldest first: their SEQ and their 32 bytes. -/
  entries : List (Nat × Bytes) := []
  /-- SEQ of the next entry, wrapping. -/
  seq : Nat := 0
  /-- OVERRUN. -/
  overrun : Nat := 0
  /-- Stamp of the last event 0x0E05. -/
  lastEvent : Option Nat := none
  deriving DecidableEq, Repr, Inhabited

/-- A MEM.STRIP_RUN in progress (R437). -/
structure StripRun where
  /-- Its ticket. -/
  ticket : Nat := 0
  /-- BANK. -/
  bank : Nat := 0
  /-- Next strip of the run. -/
  strip : Nat := 0
  /-- TESTED. -/
  tested : Nat := 0
  /-- A confirmed fault found no spare strip. -/
  failed : Bool := false
  /-- REPAIRED. -/
  repaired : Nat := 0
  /-- YIELDS. -/
  yields : Nat := 0
  deriving DecidableEq, Repr, Inhabited

/-- On-chip memory, guards, Test strip and DMA rings (15_onchip_memory.md). -/
structure Mem where
  /-- Guard regions of masters 0–7, sixteen each (R426): disabled. -/
  guards : Vector (Vector Region 16) 8 := Vector.replicate 8 (Vector.replicate 16 {})
  /-- Guard log, newest first, at most 64 (R428): empty. -/
  log : List GuardEntry := []
  /-- VIOLATIONS since reset, saturating (R437): 0. -/
  violations : Nat := 0
  /-- Banks B00–B23 (R422). -/
  banks : Vector Bank 24 := Vector.replicate 24 {}
  /-- Repair map held in the parameter store: bank and strip (R432). -/
  repairs : List (Nat × Nat) := []
  /-- WALK_BANK (R437): 0. -/
  walkBank : Nat := 0
  /-- WALK_STRIP (R437): 0. -/
  walkStrip : Nat := 0
  /-- Stamp from which MEM.STRIP_INTERVAL runs to the next borrow (R431): 0. -/
  stripAt : Nat := 0
  /-- The borrowed strip (R430): none. -/
  borrowed : Option (Nat × Nat) := none
  /-- PASSES, wrapping (R437): 0. -/
  passes : Nat := 0
  /-- YIELDS, saturating (R437): 0. -/
  yields : Nat := 0
  /-- LAST_PASS (R437): 0. -/
  lastPass : Nat := 0
  /-- MEM.STRIP_RUN in progress (R437): none. -/
  run : Option StripRun := none
  /-- DMA rings 0–7 (R434): empty. -/
  dma : Vector DmaRing 8 := Vector.replicate 8 {}
  deriving DecidableEq, Repr, Inhabited


/-- A Safelight sensor (R443–R445). -/
structure Sensor where
  /-- VALUE of the last result. -/
  value : Int := 0
  /-- STAMP of the last result. -/
  stamp : Nat := 0
  /-- MIN since reset. -/
  min : Int := 0
  /-- MAX since reset. -/
  max : Int := 0
  /-- STATE: 0 INSIDE, 1 LOW, 2 HIGH, 3 NOT_CONVERTED. -/
  state : Nat := 3
  /-- Results since reset, capped at 2 (R445). -/
  count : Nat := 0
  /-- Where the previous result lay: 0 inside by the margin, 1 below LOW, 2 above HIGH, 3 between. -/
  prior : Nat := 3
  /-- Stamp of a router trigger that waits to be converted (R105, R444). -/
  trig : Option Nat := none
  deriving DecidableEq, Repr, Inhabited

/-- A Steward image in its vault partition (R449–R451). -/
structure Image where
  /-- STATE (R450). -/
  state : Nat := 0
  /-- TRIAL_BOOTS. -/
  boots : Nat := 0
  /-- RELEASE of the state record. -/
  release : Nat := 0
  /-- ROLLBACK of the state record. -/
  rollback : Nat := 0
  /-- WRITE_SEQ of the newest state page (R453). -/
  writeSeq : Nat := 0
  /-- Bytes accepted so far (R451 NEXT_OFFSET is their count). -/
  bytes : Bytes := []
  /-- How many of them are in programmed pages (R451). -/
  programmed : Nat := 0
  /-- The payload loads and its hash passes (R453); false for an image damaged in the vault. -/
  loads : Bool := true
  deriving DecidableEq, Repr, Inhabited

/-- The Safelight (16_safelight.md). -/
structure Safe where
  /-- Sensors 0–15 (R443): NOT_CONVERTED. -/
  sensors : Vector Sensor 16 := Vector.replicate 16 {}
  /-- Lid open (R446): no. -/
  lidOpen : Bool := false
  /-- Stamp of the last lid closing (R446). -/
  lidClosed : Option Nat := none
  /-- Mesh comparator reads broken (R446): no. -/
  meshOpen : Bool := false
  /-- TAMPER_ACTION taken since reset (R457): no. -/
  tamper : Bool := false
  /-- Log sort buffer with arrival stamps, at most 2,048 (R447): empty. -/
  sort : List (Nat × EvRec) := []
  /-- Highest order key moved to the page buffer (R447): 0. -/
  moved : Nat := 0
  /-- Stamp of the last STOWED check (R442): 0. -/
  stowAt : Nat := 0
  /-- Records lost because the sort buffer was full, not yet reported (R448): 0. -/
  lostNow : Nat := 0
  /-- Stamp of the first of them (R448). -/
  lostFirst : Nat := 0
  /-- LOST since reset, saturating (R457): 0. -/
  lost : Nat := 0
  /-- RESTARTS since reset, saturating (R457): 0. -/
  restarts : Nat := 0
  /-- IMAGE_A and IMAGE_B (R450): IMAGE_A holds SF 4.2 CONFIRMED. -/
  images : Vector Image 2 := ⟨#[{ state := 4, release := 0x04020000 + Config.stewardBuild.toNat }, {}], rfl⟩
  /-- Image that runs (R453): IMAGE_A. -/
  runs : Nat := 0
  /-- A trial runs: end of its window (R453): none. -/
  trialEnd : Option Nat := none
  /-- An update reset or a trial rejection is due: its RESET_CAUSE (R452, R453): none. -/
  resetDue : Option Nat := none
  /-- Stamp of the last release of the Steward from reset (R453). -/
  released : Nat := 0
  /-- PA and LF drivers are off by a fixed action (R443): no. -/
  overTemp : Bool := false
  deriving DecidableEq, Repr, Inhabited

/-- Where the M die stands between two starts (R460–R465). -/
inductive BootPhase where
  /-- PD0 AON is unpowered. -/
  | dark
  /-- PD0 AON is out of its power-on reset; the cold start is due. -/
  | cold
  /-- The M die is in reset after a supply fault; the warm start waits for VBAT. -/
  | waitVbat
  /-- The M die is in reset; the warm start begins at once. -/
  | warm
  /-- The start has finished. -/
  | run
  /-- No Steward image loads: the start has stopped (R462). -/
  | noImage
  deriving DecidableEq, Repr, Inhabited

/-- Reset and start (17_startup_fault_replay.md). -/
structure Boot where
  /-- Where the M die stands: a cold start is due. -/
  phase : BootPhase := .cold
  /-- Cause of the reset whose start is due (R460): 0x00, power-up. -/
  cause : Nat := 0
  /-- VBAT as last measured, mV. -/
  vbat : Nat := 0
  /-- Replay counts of event 0x0114 (R478): none. -/
  replayed : List Nat := []
  /-- Journal replay runs, so that keys made now are REPLAYED (R93, R473): no. -/
  replay : Bool := false
  /-- Events raised before a cold start has loaded the epoch, with whose stamp they are written: source, code, DATA, NODE
  (R462): none. -/
  held : List (Nat × Nat × Bytes × Nat) := []
  deriving DecidableEq, Repr, Inhabited


/-- Order-key sequences of the event sources (R95). -/
structure EvUnit where
  /-- SEQUENCE of each SOURCE 0x000–0x104 (R95, R96): 0. -/
  seqs : Vector Nat 261 := Vector.replicate 261 0
  deriving DecidableEq, Repr, Inhabited

/-- The state of the block. -/
structure State where
  /-- Commands that wait, first in first out: none. -/
  pending : List Instr := []
  /-- The model's own counter of free values used; not the spec's. -/
  free : Nat := 0
  /-- Host link (02_host_interface.md). -/
  host : HostLink := {}
  /-- Order-key sequences (03_time_base.md). -/
  ev : EvUnit := {}
  /-- Contact sheet (17_startup_fault_replay.md). -/
  sheet : Sheet := {}
  /-- Steward working state (02_host_interface.md). -/
  stew : Steward := {}
  /-- Configuration in force (05_exposure.md). -/
  conf : Conf := {}
  /-- Exposure engine (05_exposure.md). -/
  expo : Expo := {}
  /-- Time base (03_time_base.md). -/
  time : TimeBase := {}
  /-- Modes and domains (04_modes_power_wake.md). -/
  power : Power := {}
  /-- Wake scheduler (04_modes_power_wake.md). -/
  eave : Eave := {}
  /-- Parameter store (14_storage.md). -/
  store : Store := {}
  /-- Record vault (14_storage.md). -/
  vault : Vault := {}
  /-- Safelight (16_safelight.md). -/
  safe : Safe := {}
  /-- Inter-die lane (01_architecture.md, 10_fixer_metrology.md). -/
  lane : Lane := {}
  /-- On-chip memory (15_onchip_memory.md). -/
  mem : Mem := {}
  /-- Access and immobiliser engine (06_access_immobiliser.md). -/
  access : Access := {}
  /-- LF field array (07_lf_field_array.md). -/
  lf : Lf := {}
  /-- Sub-GHz transceiver (08_subghz_radio.md). -/
  uhf : Uhf := {}
  /-- Rangefinder (09_rangefinder.md). -/
  range : Range := {}
  /-- Frame switch (11_frame_switch.md). -/
  sw : Switch := {}
  /-- Cipher engine (12_cipher_engine.md). -/
  ciph : Cipher := {}
  /-- Random number generator (13_grain_rng.md). -/
  grain : Grain := {}
  /-- Metrology island (10_fixer_metrology.md). -/
  fix : Fixer := {}
  /-- Reset and start (17_startup_fault_replay.md). -/
  boot : Boot := {}
  deriving DecidableEq, Repr, Inhabited

/-- Faults: the model stops. None is raised where the spec gives an effect. -/
inductive Fault where
  /-- Raised by the tick of `step` alone: the epoch would pass 0xFFFF_FFFF_FFFF_FFFF, which R82 says never happens.
  Safe: the model stops where the spec gives no behaviour. -/
  | epochEnd
  deriving DecidableEq, Repr

/-- Refusals: no meaning for a command. -/
inductive Refusal where
  /-- Raised by `exec` for a command whose meaning is not written yet. Safe: the model stops. -/
  | notModelled (mnemonic : String)
  deriving DecidableEq, Repr

/-- The block right after power-on reset of PD0 AON, before any start sequence has run (R42, R460–R462). -/
def State.reset : State := {}

end Sys2Proof.Machine
end

