-- ==== Sys2Proof/Machine/Opcodes.lean ====
section
/-! DEFINITION. The command set: status codes (R77, R78 and each class's table), one row per opcode with its modes, node
rule, replay class, deadline, needed domains and reserved fields (R52, R75, R79, R107, R131, R154, R198, R222, R245,
R267, R303, R340, R368, R384, R418, R436, R456), and the request checks of R52's payload row. -/

namespace Sys2Proof.Machine

namespace St
/-- OK (R77). -/
abbrev ok : Nat := 0x0000
/-- PENDING (R77). -/
abbrev pending : Nat := 0x0001
/-- DEFERRED (R77). -/
abbrev deferred : Nat := 0x0040
/-- BAD_NODE (R77). -/
abbrev badNode : Nat := 0x0080
/-- BAD_ARG (R77). -/
abbrev badArg : Nat := 0x0081
/-- NO_TICKET (R77). -/
abbrev noTicket : Nat := 0x0082
/-- DENIED_MODE (R77). -/
abbrev deniedMode : Nat := 0x0083
/-- TIMEOUT (R77). -/
abbrev timeout : Nat := 0x00C0
/-- REPLAY_SUPPRESSED (R77). -/
abbrev replaySuppressed : Nat := 0x00C1
/-- ABORTED (R77). -/
abbrev aborted : Nat := 0x00C2
/-- INTERNAL (R77). -/
abbrev internal : Nat := 0x00C3
/-- NODE_CYCLE (R78). -/
abbrev nodeCycle : Nat := 0x0180
/-- NODE_MISSING (R78). -/
abbrev nodeMissing : Nat := 0x0181
/-- NODE_IN_USE (R78). -/
abbrev nodeInUse : Nat := 0x0182
/-- NODE_LIMIT (R78). -/
abbrev nodeLimit : Nat := 0x0183
/-- SHUTTER_LATE (R108). -/
abbrev shutterLate : Nat := 0x0240
/-- TIME_BACKWARD (R108). -/
abbrev timeBackward : Nat := 0x0280
/-- SHUTTER_HELD (R108). -/
abbrev shutterHeld : Nat := 0x0281
/-- ROUTE_HELD (R108). -/
abbrev routeHeld : Nat := 0x0282
/-- ROUTE_INPUT (R108). -/
abbrev routeInput : Nat := 0x0283
/-- EXPOSE_LATE (R155). -/
abbrev exposeLate : Nat := 0x0340
/-- SESSION_BUSY (R155). -/
abbrev sessionBusy : Nat := 0x0380
/-- SESSION_CLOSED (R155). -/
abbrev sessionClosed : Nat := 0x0381
/-- STAGE_FULL (R155). -/
abbrev stageFull : Nat := 0x0382
/-- SETTING_FIXED (R155). -/
abbrev settingFixed : Nat := 0x0383
/-- NOT_CHECKED (R155). -/
abbrev notChecked : Nat := 0x0384
/-- EXPOSE_STALE (R155). -/
abbrev exposeStale : Nat := 0x0385
/-- EXPOSE_BUSY (R155). -/
abbrev exposeBusy : Nat := 0x0386
/-- EXPOSE_CANCELLED (R155). -/
abbrev exposeCancelled : Nat := 0x0387
/-- EXPOSE_DECIDED (R155). -/
abbrev exposeDecided : Nat := 0x0388
/-- FIXER_REFUSED (R155). -/
abbrev fixerRefused : Nat := 0x0389
/-- FIXER_ABSENT (R155). -/
abbrev fixerAbsent : Nat := 0x038A
/-- MODE_LOST (R155). -/
abbrev modeLost : Nat := 0x038B
/-- CHECK_FAILED (R155). -/
abbrev checkFailed : Nat := 0x038C
/-- ROLLED_BACK (R155). -/
abbrev rolledBack : Nat := 0x038D
/-- MODE_REFUSED (R132). -/
abbrev modeRefused : Nat := 0x0480
/-- MODE_NO_STRAP (R132). -/
abbrev modeNoStrap : Nat := 0x0481
/-- MODE_NO_CARD (R132). -/
abbrev modeNoCard : Nat := 0x0482
/-- MODE_BUSY (R132). -/
abbrev modeBusy : Nat := 0x0483
/-- NO_TOKEN (R199). -/
abbrev noToken : Nat := 0x0540
/-- KEY_UNWRAP_FAIL (R199). -/
abbrev keyUnwrapFail : Nat := 0x0580
/-- ACCESS_BUSY (R199). -/
abbrev accessBusy : Nat := 0x0581
/-- ZONE_MAP_INVALID (R199). -/
abbrev zoneMapInvalid : Nat := 0x0582
/-- RELEASE_CONFIG (R199). -/
abbrev releaseConfig : Nat := 0x0583
/-- ACCESS_CHANNEL (R199). -/
abbrev accessChannel : Nat := 0x0584
/-- LEARN_PARTIAL (R199). -/
abbrev learnPartial : Nat := 0x05C0
/-- BODY_NOT_SENT (R199). -/
abbrev bodyNotSent : Nat := 0x05C1
/-- LF_HEADROOM (R223). -/
abbrev lfHeadroom : Nat := 0x0640
/-- LF_CHANNEL_FAULT (R223). -/
abbrev lfChannelFault : Nat := 0x0680
/-- LF_SUPPLY (R223). -/
abbrev lfSupply : Nat := 0x0681
/-- LF_HOT (R223). -/
abbrev lfHot : Nat := 0x0682
/-- LF_STEP_INVALID (R223). -/
abbrev lfStepInvalid : Nat := 0x0683
/-- LF_CONFIG (R223). -/
abbrev lfConfig : Nat := 0x0684
/-- LF_ABORTED (R223). -/
abbrev lfAborted : Nat := 0x06C0
/-- UHF_CLAMPED (R246). -/
abbrev uhfClamped : Nat := 0x0740
/-- UHF_RX_TRUNCATED (R246). -/
abbrev uhfRxTruncated : Nat := 0x0741
/-- TX_LATE (R246). -/
abbrev txLate : Nat := 0x0780
/-- UHF_RX_LATE (R246). -/
abbrev uhfRxLate : Nat := 0x0781
/-- UHF_CHANNEL (R246). -/
abbrev uhfChannel : Nat := 0x0782
/-- UHF_DUTY (R246). -/
abbrev uhfDuty : Nat := 0x0783
/-- UHF_CHARTER (R246). -/
abbrev uhfCharter : Nat := 0x0784
/-- UHF_LOCK_FAIL (R246). -/
abbrev uhfLockFail : Nat := 0x0785
/-- UHF_TX_CUT (R246). -/
abbrev uhfTxCut : Nat := 0x07C0
/-- CABLE_NOISY (R268). -/
abbrev cableNoisy : Nat := 0x0840
/-- RANGE_PORT_DISABLED (R268). -/
abbrev rangePortDisabled : Nat := 0x0880
/-- RANGE_NO_TOKEN (R268). -/
abbrev rangeNoToken : Nat := 0x0881
/-- RANGE_CAL_SPREAD (R268). -/
abbrev rangeCalSpread : Nat := 0x0882
/-- CABLE_PORT_UP (R268). -/
abbrev cablePortUp : Nat := 0x0883
/-- CABLE_HOST_PORT (R268). -/
abbrev cableHostPort : Nat := 0x0884
/-- RANGE_NO_RECORD (R268). -/
abbrev rangeNoRecord : Nat := 0x0885
/-- RANGE_CONFIG (R268). -/
abbrev rangeConfig : Nat := 0x0886
/-- RANGE_TDC_FAIL (R268). -/
abbrev rangeTdcFail : Nat := 0x0887
/-- FIXER_PARTIAL (R304). -/
abbrev fixerPartial : Nat := 0x0940
/-- FIXER_LANE_DOWN (R304). -/
abbrev fixerLaneDown : Nat := 0x0980
/-- FIXER_RANGE (R304). -/
abbrev fixerRange : Nat := 0x0981
/-- FIXER_TIME_LIMIT (R304). -/
abbrev fixerTimeLimit : Nat := 0x0982
/-- FIXER_NO_WORKSHOP (R304). -/
abbrev fixerNoWorkshop : Nat := 0x0983
/-- FIXER_SETTING (R304). -/
abbrev fixerSetting : Nat := 0x0984
/-- FIXER_SET_PENDING (R304). -/
abbrev fixerSetPending : Nat := 0x0985
/-- FIXER_CARD_ABSENT (R304). -/
abbrev fixerCardAbsent : Nat := 0x0986
/-- FIXER_CARD_DENIED (R304). -/
abbrev fixerCardDenied : Nat := 0x0987
/-- FIXER_BUSY (R304). -/
abbrev fixerBusy : Nat := 0x0988
/-- FIXER_CARD_REMOVED (R304). -/
abbrev fixerCardRemoved : Nat := 0x09C0
/-- FIXER_CARD_ERROR (R304). -/
abbrev fixerCardError : Nat := 0x09C1
/-- SWITCH_TABLE_INVALID (R341). -/
abbrev switchTableInvalid : Nat := 0x0A80
/-- SWITCH_RESERVE (R341). -/
abbrev switchReserve : Nat := 0x0A81
/-- SWITCH_PORT_CONFIG (R341). -/
abbrev switchPortConfig : Nat := 0x0A82
/-- SWITCH_SCHEDULE_INVALID (R341). -/
abbrev switchScheduleInvalid : Nat := 0x0A83
/-- CIPHER_TAG_MISMATCH (R369). -/
abbrev cipherTagMismatch : Nat := 0x0B40
/-- KEY_EMPTY (R369). -/
abbrev keyEmpty : Nat := 0x0B80
/-- KEY_USAGE (R369). -/
abbrev keyUsage : Nat := 0x0B81
/-- KEY_BOUND (R369). -/
abbrev keyBound : Nat := 0x0B82
/-- KEY_SLOT_HELD (R369). -/
abbrev keySlotHeld : Nat := 0x0B83
/-- NONCE_EXHAUSTED (R369). -/
abbrev nonceExhausted : Nat := 0x0B84
/-- CIPHER_UNWRAP_FAIL (R369). -/
abbrev cipherUnwrapFail : Nat := 0x0B87
/-- ENGINE_OFF (R369). -/
abbrev engineOff : Nat := 0x0B88
/-- KEY_REVOKED (R369). -/
abbrev keyRevoked : Nat := 0x0BC0
/-- CIPHER_FAULT (R369). -/
abbrev cipherFault : Nat := 0x0BC1
/-- GRAIN_OFF (R385). -/
abbrev grainOff : Nat := 0x0C80
/-- GRAIN_TEST_MODE (R385). -/
abbrev grainTestMode : Nat := 0x0C81
/-- GRAIN_IN_USE (R385). -/
abbrev grainInUse : Nat := 0x0C82
/-- ENTROPY_FAIL (R385). -/
abbrev entropyFail : Nat := 0x0CC0
/-- STORE_DATA_LOST (R419). -/
abbrev storeDataLost : Nat := 0x0D40
/-- STORE_FULL (R419). -/
abbrev storeFull : Nat := 0x0D80
/-- STORE_WEAR (R419). -/
abbrev storeWear : Nat := 0x0D81
/-- STORE_RANGE (R419). -/
abbrev storeRange : Nat := 0x0D82
/-- CHARTER_LOCKED (R419). -/
abbrev charterLocked : Nat := 0x0D83
/-- CHARTER_INVALID (R419). -/
abbrev charterInvalid : Nat := 0x0D84
/-- STORE_ROLLED_BACK (R419). -/
abbrev storeRolledBack : Nat := 0x0DC0
/-- MEM_REPAIRED (R437). -/
abbrev memRepaired : Nat := 0x0E40
/-- MEM_BANK_NOT_ON (R437). -/
abbrev memBankNotOn : Nat := 0x0E80
/-- MEM_STRIP_BUSY (R437). -/
abbrev memStripBusy : Nat := 0x0E81
/-- MEM_DMA_CONFIG (R437). -/
abbrev memDmaConfig : Nat := 0x0E82
/-- MEM_BANK_FAILED (R437). -/
abbrev memBankFailed : Nat := 0x0EC0
/-- UPDATE_BUSY (R457). -/
abbrev updateBusy : Nat := 0x0F80
/-- UPDATE_SLOT (R457). -/
abbrev updateSlot : Nat := 0x0F81
/-- UPDATE_SEQUENCE (R457). -/
abbrev updateSequence : Nat := 0x0F82
/-- UPDATE_IMAGE_INVALID (R457). -/
abbrev updateImageInvalid : Nat := 0x0F83
/-- UPDATE_SIGNATURE (R457). -/
abbrev updateSignature : Nat := 0x0F84
/-- UPDATE_ROLLBACK (R457). -/
abbrev updateRollback : Nat := 0x0F85
/-- UPDATE_NOT_READY (R457). -/
abbrev updateNotReady : Nat := 0x0F86
/-- UPDATE_MODE (R457). -/
abbrev updateMode : Nat := 0x0F87
/-- UPDATE_NO_TRIAL (R457). -/
abbrev updateNoTrial : Nat := 0x0F88
/-- SAFE_THRESHOLD (R457). -/
abbrev safeThreshold : Nat := 0x0F89
end St

/-- Severity of a status code, bits [7:6] (R76). -/
def severity (st : Nat) : Nat := st / 64 % 4

/-- Mode code (R111). -/
def Mode.code : Mode → Nat
  | .stowed => 0 | .parked => 1 | .watch => 2 | .approach => 3 | .cab => 4 | .drive => 5 | .workshop => 6
  | .holdover => 7

/-- Mode of a code (R111). -/
def Mode.ofCode : Nat → Mode
  | 0 => .stowed | 1 => .parked | 2 => .watch | 3 => .approach | 4 => .cab | 5 => .drive | 6 => .workshop
  | _ => .holdover

/-- Ticket state code (R53). -/
def TicketState.code : TicketState → Nat
  | .free => 0 | .accepted => 1 | .running => 2 | .completed => 3 | .replaying => 4

/-- STATE of a ticket entry: REPLAYING until the outcome of a re-run is there (R53, R471). -/
def TicketEntry.stateCode (e : TicketEntry) : Nat := if e.again then 4 else e.state.code

/-- Which NODE values an opcode takes (R71). -/
inductive NodeRule where
  /-- NODE must be 0x0000. -/
  | zero
  /-- Any node of the tree. -/
  | any
  /-- Tiles with IDs in this range, and courses that reach only such tiles. -/
  | tiles (lo hi : Nat)
  /-- Tiles with IDs in this range, and no course. -/
  | tile (lo hi : Nat)
  deriving DecidableEq, Repr

/-- One row of an opcode table. -/
structure OpRow where
  /-- Opcode (R11). -/
  op : Nat
  /-- NODE column. -/
  node : NodeRule := .zero
  /-- Modes column, bit n for mode code n. -/
  modes : Nat := 0xFF
  /-- Replay class column. -/
  cls : ReplayClass := .a
  /-- STAGE must be set; otherwise it must be clear. -/
  stage : Bool := false
  /-- Admissible DEADLINE range, µs, for an opcode that takes one. -/
  deadline : Option (Nat × Nat) := none
  /-- Domains the command needs (R28). -/
  needs : List Nat := []
  /-- Reserved bits of the request's fixed part: byte offset and mask (R8). -/
  res : List (Nat × Nat) := []
  deriving Repr

/-- Whole reserved bytes from `off`, `n` of them. -/
def resBytes (off n : Nat) : List (Nat × Nat) := (upFrom off n).map (fun o => (o, 0xFF))

/-- Every mode. -/
abbrev mAll : Nat := 0xFF
/-- Every mode but HOLDOVER. -/
abbrev mNoHold : Nat := 0x7F
/-- Every mode but STOWED and HOLDOVER. -/
abbrev mNoStowHold : Nat := 0x7E
/-- WORKSHOP only. -/
abbrev mShop : Nat := 0x40
/-- CAB, DRIVE and WORKSHOP. -/
abbrev mCab : Nat := 0x70
/-- APPROACH, CAB, DRIVE and WORKSHOP. -/
abbrev mNear : Nat := 0x78

/-- Opcode rows of classes 0x01 to 0x06 (R79, R107, R154, R131, R198, R222). -/
def opRowsA : List OpRow :=
  [{ op := 0x0101 }, { op := 0x0102 }, { op := 0x0110, node := .any }, { op := 0x0111, node := .any },
   { op := 0x0112 }, { op := 0x0120, stage := true }, { op := 0x0121, stage := true, res := resBytes 2 2 },
   { op := 0x0201 }, { op := 0x0202, modes := mNoHold, cls := .b }, { op := 0x0203, modes := mNoHold, cls := .b },
   { op := 0x0210, node := .tiles 0x60 0x6F, cls := .b, res := (16, 0xFC) :: resBytes 17 7 },
   { op := 0x0211, node := .tiles 0x60 0x6F }, { op := 0x0212, node := .tiles 0x60 0x6F },
   { op := 0x0213, node := .tile 0x60 0x6F, stage := true, res := (16, 0xFC) :: resBytes 17 7 },
   { op := 0x0220, node := .tiles 0x80 0x87, res := (4, 0xFE) :: resBytes 5 3 },
   { op := 0x0301, modes := mNoHold, res := resBytes 1 3 }, { op := 0x0302, res := resBytes 1 3 },
   { op := 0x0303, modes := mNoHold, stage := true, res := resBytes 2 2 },
   { op := 0x0304, modes := mNoHold, needs := [9], res := resBytes 1 3 },
   { op := 0x0305, modes := mNoHold, cls := .c, needs := [9], res := (1, 0xFE) :: resBytes 2 6 },
   { op := 0x0306, cls := .b, res := resBytes 1 3 }, { op := 0x0307 }, { op := 0x0308, res := resBytes 5 3 },
   { op := 0x0401 }, { op := 0x0402, cls := .b, res := resBytes 1 3 }, { op := 0x0403 }, { op := 0x0404 },
   { op := 0x0501 }, { op := 0x0502, node := .tiles 0x50 0x5F },
   { op := 0x0503, node := .tiles 0x50 0x5F, modes := mNear, cls := .b, needs := [4, 5, 7],
     res := (0, 0xFE) :: resBytes 1 3 },
   { op := 0x0504, modes := mCab, cls := .b, needs := [4, 8] },
   { op := 0x0505, modes := mShop, cls := .b, needs := [4, 5, 7, 9], res := resBytes 2 2 },
   { op := 0x0506, modes := mShop, cls := .b, needs := [4, 9], res := resBytes 5 3 },
   { op := 0x0507, modes := mNoHold, stage := true }, { op := 0x0508, res := resBytes 1 3 },
   { op := 0x0601, node := .tiles 0x10 0x2F },
   { op := 0x0602, node := .tiles 0x10 0x2F, modes := mCab, cls := .b, deadline := some (1000, 60000000),
     needs := [7], res := (0, 0xFE) :: resBytes 1 3 },
   { op := 0x0603, modes := mShop, cls := .b, deadline := some (1000, 60000000), needs := [7], res := resBytes 2 2 },
   { op := 0x0604, node := .tiles 0x10 0x2F, modes := mNoHold }]

/-- Opcode rows of classes 0x07 to 0x0A (R245, R267, R303, R340). -/
def opRowsB : List OpRow :=
  [{ op := 0x0701 },
   { op := 0x0702, modes := mCab, cls := .b, deadline := some (100, 1000000), needs := [5], res := [(15, 0xFE)] },
   { op := 0x0703, modes := 0x7E, cls := .b, deadline := some (100, 1000000), needs := [5], res := resBytes 17 3 },
   { op := 0x0704, modes := 0x7E, needs := [5] }, { op := 0x0705 }, { op := 0x0706 },
   { op := 0x0801 }, { op := 0x0802, node := .tiles 0x88 0x8B },
   { op := 0x0803, node := .tile 0x88 0x8B, modes := mShop, cls := .b, needs := [4, 6],
     res := (1, 0xFE) :: resBytes 2 2 },
   { op := 0x0804, res := resBytes 1 3 },
   { op := 0x0810, node := .tiles 0x42 0x47, modes := mCab, cls := .b, deadline := some (1000, 60000000),
     needs := [6, 8], res := (0, 0xFC) :: resBytes 1 3 },
   { op := 0x0811, res := resBytes 1 1 ++ resBytes 6 2 },
   { op := 0x0901 }, { op := 0x0902, needs := [9], res := resBytes 6 2 }, { op := 0x0903 }, { op := 0x0904 },
   { op := 0x0905, modes := mNoHold, cls := .b }, { op := 0x0906, node := .tiles 0xD0 0xD1 },
   { op := 0x0907, node := .tile 0xD0 0xD1, modes := mNoHold, cls := .b, deadline := some (100000, 10000000),
     res := resBytes 2 2 },
   { op := 0x0908, node := .tile 0xD0 0xD1, modes := mNoHold, cls := .b },
   { op := 0x0909, modes := mShop, stage := true, res := resBytes 4 4 },
   { op := 0x0A01 }, { op := 0x0A02, node := .tiles 0x30 0x4B }, { op := 0x0A03, node := .tiles 0x30 0x4B },
   { op := 0x0A04, modes := mNoHold, stage := true, res := resBytes 3 1 },
   { op := 0x0A05, res := resBytes 4 4 },
   { op := 0x0A06, node := .tile 0x3C 0x41, modes := mNoHold, stage := true },
   { op := 0x0A07, node := .tile 0x3C 0x41, res := resBytes 1 3 },
   { op := 0x0A08, modes := mNoStowHold, needs := [8] }]

/-- Opcode rows of classes 0x0B to 0x0F (R368, R384, R418, R436, R456). -/
def opRowsC : List OpRow :=
  [{ op := 0x0B01 }, { op := 0x0B02, node := .tiles 0x90 0xCF },
   { op := 0x0B03, node := .tile 0x90 0xCF, modes := mNoStowHold, cls := .c, needs := [4, 9],
     res := resBytes 2 2 ++ resBytes 14 2 },
   { op := 0x0B04, node := .tile 0x90 0xCF, modes := mNoStowHold, cls := .c, needs := [4, 9] },
   { op := 0x0B05, node := .tiles 0x90 0xCF, modes := mNoStowHold, cls := .c, needs := [4, 9] },
   { op := 0x0B10, node := .tile 0x90 0xCF, modes := mNoStowHold, needs := [4],
     res := [(2, 0xFE), (3, 0xFF)] },
   { op := 0x0C01 },
   { op := 0x0C02, modes := mNoStowHold, deadline := some (1000, 1000000), needs := [4], res := resBytes 2 2 },
   { op := 0x0C03, modes := mShop, cls := .b, needs := [4], res := resBytes 1 1 },
   { op := 0x0D01 }, { op := 0x0D02, modes := mNoHold, needs := [9], res := resBytes 10 2 },
   { op := 0x0D03, modes := mNoStowHold, cls := .c, needs := [9], res := (4, 0xFE) :: resBytes 5 3 },
   { op := 0x0D04, modes := mNoHold, needs := [9], res := resBytes 10 2 },
   { op := 0x0D05, modes := mShop, cls := .c, needs := [9] },
   { op := 0x0D06, modes := mShop, cls := .c, needs := [9], res := (1, 0xFE) :: resBytes 2 2 },
   { op := 0x0D07, modes := mShop, cls := .c, needs := [9] },
   { op := 0x0E01 }, { op := 0x0E02 }, { op := 0x0E03, modes := mShop, res := resBytes 1 3 },
   { op := 0x0E04, modes := mNoHold, res := resBytes 2 2 },
   { op := 0x0F01 }, { op := 0x0F02, node := .tiles 0x70 0x7F },
   { op := 0x0F03, modes := mNoHold, needs := [2, 9] },
   { op := 0x0F04, modes := mNoStowHold, cls := .b, needs := [2, 9], res := resBytes 1 3 },
   { op := 0x0F05, modes := mNoStowHold, cls := .b, needs := [2, 9], res := resBytes 1 1 },
   { op := 0x0F06, modes := mNoStowHold, needs := [2, 4, 9], res := resBytes 1 3 },
   { op := 0x0F07 }, { op := 0x0F08, modes := mNoHold, needs := [2, 9] }]

/-- Every opcode of SF 4.2. -/
def opRows : List OpRow := opRowsA ++ opRowsB ++ opRowsC

/-- The row of an opcode; none when class or code is not defined for SF 4.2 (R52). -/
def opRow (op : Nat) : Option OpRow := opRows.find? (fun r => r.op == op)

/-- Reserved bits of the attribute block at an offset (R349). -/
def resAttr (off : Nat) : List (Nat × Nat) := (off + 1, 0x80) :: (off + 2, 0xFE) :: resBytes (off + 3) 5

/-- Reserved bits of the repeated entries and the staged objects of a request (R8): the items of EXPOSE.SET_STAGE (R155),
the entries of ACCESS.LEARN_SET (R199), the zone map (R177), the LIN schedule (R311) and attribute blocks (R349). Those of a
forwarding-table entry are judged by CHECK (R319). -/
def resEntries (op : Nat) (p : Bytes) : List (Nat × Nat) :=
  match op with
  | 0x0303 => (List.range (min (u16At p 0) 62)).flatMap (fun i => resBytes (8 + 16 * i) 4)
  | 0x0505 => (List.range (min (u8At p 0) 16)).flatMap (fun i => resBytes (8 + 32 * i) 4)
  | 0x0507 =>
    let n := min (u8At p 1) 24
    resBytes 6 2 ++ resBytes 28 4 ++
      (List.range (min (u8At p 2) 12)).map (fun z => (35 + 12 * n + (4 + 2 * n) * z, 0xFF))
  | 0x0A06 => resBytes 1 3 ++ (List.range (min (u8At p 0) 64)).map (fun i => (5 + 4 * i, 0xFC))
  | 0x0B03 => if u8At p 0 = 0 then resAttr 4 else []
  | 0x0B04 => resAttr 0
  | _ => []

/-- A reserved bit of the request is set (R8). -/
def reservedSet (r : OpRow) (p : Bytes) : Bool :=
  (r.res ++ resEntries r.op p).any (fun m => (u8At p m.1) &&& m.2 != 0)

/-- No element of the list occurs twice. -/
def distinct (l : List Nat) : Bool := match l with
  | [] => true
  | x :: xs => !xs.contains x && distinct xs

/-- The attribute block of a request breaks no rule of R349; DERIVE is for token slots only. -/
def attrOk (a : Bytes) : Bool :=
  decide (u8At a 0 ≤ 2) && u8At a 1 != 0 && decide (u8At a 1 < 128) &&
    (!(u8At a 1).testBit 4 || u8At a 1 == 16) && !(u8At a 1).testBit 5 && decide (u8At a 2 ≤ 1) && allZero (slice a 3 5)

/-- The fields of a CIPHER.JOB request (R369). -/
def jobOk (p : Bytes) : Bool :=
  let op := u8At p 0
  let tag := u8At p 1
  let dl := u16At p 6
  decide (1 ≤ op) && decide (op ≤ 10) &&
    (if op = 5 ∨ op = 6 then decide (12 ≤ tag) && decide (tag ≤ 16)
     else if op = 7 ∨ op = 8 then decide (4 ≤ tag) && decide (tag ≤ 16) && tag % 2 == 0
     else if 9 ≤ op then decide (4 ≤ tag) && decide (tag ≤ 16) else tag == 0) &&
    ((decide (5 ≤ op) && decide (op ≤ 8)) || u16At p 4 == 0) &&
    (if op ≤ 2 then decide (16 ≤ dl) && decide (dl ≤ 960) && dl % 16 == 0 else if op ≤ 4 then decide (1 ≤ dl) else true) &&
    (if (op = 1 ∧ u8At p 2 % 2 = 0) ∨ op = 2 ∨ op = 4 then true
     else if op = 6 ∨ op = 8 then allZero (slice p 20 4) else allZero (slice p 8 16)) &&
    (if op = 6 ∨ op = 8 ∨ op = 10 then allZero (slice p (24 + tag) (16 - tag)) else allZero (slice p 24 16))

/-- Modulation fields that UHF.TX and UHF.RX share lie in the ranges of R234 and R235. -/
def radioOk (p : Bytes) : Bool :=
  decide (1200 ≤ u32At p 4) && decide (u32At p 4 ≤ 100000) && decide (600 ≤ u32At p 8) && decide (u32At p 8 ≤ 50000)
    && decide (u32At p 4 ≤ 4 * u32At p 8) && decide (u8At p 12 ≤ 2) && decide (u8At p 13 ≤ 2)

/-- SYNC_BITS of FORMAT 1 and 2 (R235). -/
def syncOk (n : Nat) : Bool := n == 16 || n == 32

/-- The payload is valid for the opcode as far as the request alone decides (R52, last check), apart from its reserved
bits; values judged against state are judged when the command runs. -/
def payloadOk (op : Nat) (p : Bytes) : Bool :=
  let n := p.length
  match op with
  | 0x0112 => n == 4 && decide (u16At p 0 ≤ u16At p 2)
  | 0x0120 => true
  | 0x0121 => n == 4
  | 0x0202 => n == 8
  | 0x0203 => n == 8 && decide (-1000000 ≤ sext 32 (u32At p 0)) && decide (sext 32 (u32At p 0) ≤ 1000000)
      && decide (u32At p 4 ≤ 2592000)
  | 0x0210 | 0x0213 => n == 24 && (u64At p 8 == 0 || (decide (64 ≤ u64At p 8) && decide (u64At p 8 ≤ 2 ^ 48)))
  | 0x0220 => n == 8
  | 0x0301 => n == 4 && (decide (u8At p 0 ≤ 3) || u8At p 0 == 0xFF)
  | 0x0302 | 0x0304 | 0x0306 => n == 4 && decide (u8At p 0 ≤ 3)
  | 0x0303 => decide (1 ≤ u16At p 0) && decide (u16At p 0 ≤ 62) && n == 4 + 16 * u16At p 0
  | 0x0305 => n == 16 && decide (u8At p 0 ≤ 3)
  | 0x0308 => n == 8 && (decide (u8At p 4 ≤ 3) || u8At p 4 == 0xFF)
  | 0x0402 => n == 4 && [0, 1, 6].contains (u8At p 0)
  | 0x0503 => n == 4
  | 0x0505 => decide (1 ≤ u8At p 0) && decide (u8At p 0 ≤ 16) && n == 4 + 32 * u8At p 0
      && decide (u8At p 1 ≤ 63) && !(decide (16 ≤ u8At p 1) && decide (u8At p 1 ≤ 31))
      && (List.range (u8At p 0)).all (fun i => u32At p (4 + 32 * i) != 0
        && u32At p (4 + 32 * i) != 0xFFFFFFFF)
      && distinct ((List.range (u8At p 0)).map (fun i => u32At p (4 + 32 * i)))
  | 0x0506 => n == 32 && decide (u8At p 4 ≤ 63)
  | 0x0507 => decide (n ≤ 1008)
  | 0x0508 => n == 4 && (decide (u8At p 0 ≤ 3) || u8At p 0 == 0xFF)
  | 0x0602 => n == 4
  | 0x0603 => n == 20
  | 0x0702 => decide (24 ≤ n) && n == 24 + u16At p 18 && radioOk p && decide (1 ≤ u16At p 18)
      && decide (u16At p 18 ≤ (if u8At p 13 = 2 then 255 else 240))
      && decide (-40 ≤ sext 8 (u8At p 14)) && decide (sext 8 (u8At p 14) ≤ 56)
      && (if u8At p 13 = 0 then u8At p 16 == 0 && u8At p 17 == 0 && u32At p 20 == 0
          else decide (2 ≤ u8At p 16) && decide (u8At p 16 ≤ 32) && syncOk (u8At p 17))
  | 0x0703 => n == 28 && radioOk p && decide (1 ≤ u8At p 15) && decide (u8At p 15 ≤ 16) && decide (100 ≤ u32At p 24)
      && decide (u32At p 24 ≤ 10000000) && (u8At p 13 == 2) == (u8At p 14 != 0)
      && (if u8At p 13 = 0 then u8At p 16 == 0 && u32At p 20 == 0 else syncOk (u8At p 16))
  | 0x0704 => n == 4 && (u32At p 0 == 0 || (decide (300000000 ≤ u32At p 0) && decide (u32At p 0 ≤ 960000000)))
  | 0x0803 => n == 8 && (if u8At p 1 % 2 = 1 then u32At p 4 == 0
      else decide (100 ≤ u32At p 4) && decide (u32At p 4 ≤ 10000))
  | 0x0804 => n == 4 && decide (u8At p 0 ≤ 15)
  | 0x0810 => n == 4
  | 0x0811 => n == 8 && decide (18 ≤ u8At p 0) && decide (u8At p 0 ≤ 23) && decide (u16At p 2 ≤ 2199)
      && decide (1 ≤ u16At p 4) && decide (u16At p 4 ≤ 2200) && decide (u16At p 2 + u16At p 4 ≤ 2200)
  | 0x0902 => n == 8 && decide (1 ≤ u16At p 4) && decide (u16At p 4 ≤ 1024)
  | 0x0903 => n == 8 && decide (1 ≤ u32At p 4) && decide (u32At p 4 ≤ 86400)
      && decide (u32At p 0 + u32At p 4 ≤ 86400)
  | 0x0905 => n == 8 && u64At p 0 != 0
  | 0x0907 => decide (4 ≤ u16At p 0) && decide (u16At p 0 ≤ 261) && n == 4 + u16At p 0
  | 0x0909 => n == 72
  | 0x0A04 => decide (1 ≤ u8At p 2) && decide (u8At p 2 ≤ 24) && decide (u16At p 0 ≤ 4095)
      && decide (u16At p 0 + u8At p 2 ≤ 4096) && n == 4 + 40 * u8At p 2
  | 0x0A05 => n == 8 && (decide (u8At p 0 ≤ 3) || decide (0xFE ≤ u8At p 0)) && decide (1 ≤ u8At p 1)
      && decide (u8At p 1 ≤ 24) && decide (u16At p 2 + u8At p 1 ≤ 4096)
  | 0x0A06 => true
  | 0x0A07 => n == 4 && (decide (u8At p 0 ≤ 3) || u8At p 0 == 0xFF)
  | 0x0B03 => decide (16 ≤ n) && n == 16 + u16At p 12 && decide (u8At p 0 ≤ 1) && decide (u8At p 1 ≤ 63)
      && (if u8At p 0 = 0 then attrOk (slice p 4 8) && u16At p 12 == 24 + 8 * u8At p 4
          else [32, 40, 48].contains (u16At p 12) && allZero (slice p 4 8))
  | 0x0B04 => n == 8 && attrOk p
  | 0x0B10 => decide (40 ≤ n) && n == 40 + u16At p 4 + u16At p 6 && decide (u16At p 4 + u16At p 6 ≤ 968) && jobOk p
  | 0x0C02 => n == 4 && decide (1 ≤ u16At p 0) && decide (u16At p 0 ≤ 1024)
  | 0x0C03 => n == 4 && decide (u8At p 0 ≤ 3) && decide (1 ≤ u16At p 2) && decide (u16At p 2 ≤ 64)
  | 0x0D02 => n == 12 && decide (1 ≤ u16At p 8) && decide (u16At p 8 ≤ 64)
  | 0x0D03 => n == 8 + u16At p 2 && decide (1 ≤ u16At p 2) && decide (u16At p 2 ≤ 1000)
  | 0x0D04 => n == 12 && decide (1 ≤ u16At p 8) && decide (u16At p 8 ≤ 256)
  | 0x0D06 => n == 516 && decide (u8At p 0 ≤ 7)
  | 0x0D07 => n == 4
  | 0x0E03 => n == 4 && decide (u8At p 0 ≤ 23)
  | 0x0E04 => n == 8 && decide (u8At p 0 ≤ 7) && decide (1 ≤ u8At p 1) && decide (u8At p 1 ≤ 30)
  | 0x0F03 => n == 12 && decide (1 ≤ u16At p 8) && decide (u16At p 8 ≤ 1024)
  | 0x0F04 | 0x0F06 => n == 4 && decide (u8At p 0 ≤ 1)
  | 0x0F05 => n == 8 + u16At p 2 && decide (u8At p 0 ≤ 1) && decide (1 ≤ u16At p 2) && decide (u16At p 2 ≤ 992)
  | _ => n == 0

end Sys2Proof.Machine
end

