-- ==== Sys2Proof/Machine/Settings.lean ====
section
/-! DEFINITION. The settings tables of every chapter (R80, R110, R157, R134, R201, R225, R248, R270, R306, R343, R371,
R387, R421, R439, R459), SETTING_IDs (R139, R503), and how a VALUE is read and checked (R140). -/

namespace Sys2Proof.Machine

/-- The Stageable cell of a settings row. -/
inductive Stageable where
  | yes | workshop | no
  deriving DecidableEq, Repr

/-- A row of a settings table: class, row, index range, admissible values, default, Stageable. -/
structure SetRow where
  /-- Opcode class of the chapter. -/
  cls : Nat
  /-- Row in the table, counted from 0. -/
  row : Nat
  /-- First index. -/
  lo : Nat
  /-- Last index. -/
  hi : Nat
  /-- The range admits negative values, so VALUE is sign-extended. -/
  neg : Bool
  /-- The value lies in the Range cell (given the index). -/
  ok : Nat → Int → Bool
  /-- The Default cell (given the index). -/
  dflt : Nat → Int
  /-- The Stageable cell. -/
  stage : Stageable

/-- The value lies between two bounds, both included (R4). -/
def within (lo hi : Int) : Nat → Int → Bool := fun _ v => decide (lo ≤ v) && decide (v ≤ hi)

/-- Zero, or between two bounds. -/
def zeroOr (lo hi : Int) : Nat → Int → Bool := fun i v => v == 0 || within lo hi i v

/-- An unindexed row. -/
def row1 (cls row : Nat) (lo hi d : Int) (st : Stageable := .yes) : SetRow :=
  { cls, row, lo := 0, hi := 0, neg := decide (lo < 0), ok := within lo hi, dflt := fun _ => d, stage := st }

/-- An indexed row with one range and one default. -/
def rowN (cls row : Nat) (i0 i1 : Nat) (lo hi d : Int) (st : Stageable := .yes) : SetRow :=
  { cls, row, lo := i0, hi := i1, neg := decide (lo < 0), ok := within lo hi, dflt := fun _ => d, stage := st }

/-- A MAC address VALUE: bytes 0–5 in transmission order, bytes 6 and 7 zero (R140). -/
def macOk (_ : Nat) (v : Int) : Bool := decide (0 ≤ v) && decide (v < 2 ^ 48)

/-- A unicast MAC address, or all zeros for none (R80). -/
def unicastOk (i : Nat) (v : Int) : Bool := macOk i v && v % 2 == 0

/-- 64 to 2⁴⁸ (R110). -/
def periodMax : Int := 2 ^ 48

/-- Capture input codes (R101). -/
def captureCodes : List Nat := upFrom 0 8 ++ [0x10] ++ upFrom 0x40 32 ++ [0x60, 0x61]
/-- Router source codes (R105). -/
def routeSources : List Nat := upFrom 0 0x22
/-- Router destination codes (R105). -/
def routeDests : List Nat := upFrom 0 0x19 ++ upFrom 0x21 16 ++ upFrom 0x31 8
/-- DMA source codes (R434). -/
def dmaSources : List Nat := upFrom 0 9 ++ upFrom 0x11 16

/-- The value is one of the listed codes. -/
def codeOk (l : List Nat) : Nat → Int → Bool := fun _ v => decide (0 ≤ v) && l.contains v.toNat

/-- Range of sensor `n` (R443). -/
def sensorRange : Nat → Int × Int
  | 0 => (-550, 1750) | 1 => (-550, 1750) | 2 => (-550, 1750) | 3 => (0, 45000) | 4 => (0, 45000) | 5 => (0, 45000)
  | 6 => (0, 1200) | 7 => (0, 4000) | 8 => (-500, 500) | 9 => (-10000, 10000) | 10 => (-10000, 10000)
  | 11 => (0, 2000) | 12 => (0, 20000) | 13 => (0, 65535) | _ => (0, 1)

/-- Default LOW and HIGH of sensor `n` (R443). -/
def sensorDefault : Nat → Int × Int
  | 0 => (-450, 1350) | 1 => (-450, 1400) | 2 => (-450, 1250) | 3 => (6500, 38000) | 4 => (8300, 31500)
  | 5 => (8500, 40000) | 6 => (760, 840) | 7 => (2550, 3600) | 8 => (-80, 80) | 9 => (-200, 200) | 10 => (-500, 500)
  | 11 => (0, 300) | 12 => (110, 20000) | 13 => (0, 1) | _ => (0, 1)

/-- Default period of sensor `n`, ms (R443). -/
def sensorPeriod : Nat → Int
  | 2 => 1000 | 6 => 10 | 7 => 1000 | 9 => 64000 | 10 => 10 | 12 => 86400000 | 13 => 1000 | _ => 100

/-- Factory wake latency of depth `d`, µs (R127). -/
def factoryLatency : Nat → Nat
  | 1 => 1 | 2 => 20 | 3 => 1200 | 4 => 3000 | _ => 0

/-- Host settings (R80). -/
def hostRows : List SetRow :=
  [{ cls := 1, row := 0, lo := 0, hi := 0, neg := false, ok := zeroOr 18 21, dflt := fun _ => 0, stage := .workshop },
   { cls := 1, row := 1, lo := 0, hi := 0, neg := false, ok := unicastOk, dflt := fun _ => 0, stage := .workshop },
   row1 1 2 0 63 63 .workshop, row1 1 3 10 1000 100, row1 1 4 0 1 1, row1 1 5 0 0xFFFF 0xFFFF, row1 1 6 1 511 1,
   row1 1 7 0 100 0, row1 1 8 1 1000 10]

/-- Time-base settings (R110). -/
def timeRows : List SetRow :=
  [row1 2 0 0 255 37, row1 2 1 (-2048) 2047 0 .no, rowN 2 2 0 11 64 periodMax 1048576,
   { cls := 2, row := 3, lo := 0, hi := 11, neg := false, ok := zeroOr 64 periodMax, dflt := fun _ => 0, stage := .yes },
   { cls := 2, row := 4, lo := 0, hi := 7, neg := false, ok := codeOk captureCodes, dflt := fun _ => 0, stage := .yes },
   rowN 2 5 0 7 0 255 0, rowN 2 6 0 7 0 1 0,
   { cls := 2, row := 7, lo := 0, hi := 31, neg := false, ok := codeOk routeSources, dflt := fun _ => 0, stage := .yes },
   { cls := 2, row := 8, lo := 0, hi := 31, neg := false, ok := codeOk routeDests, dflt := fun _ => 0, stage := .yes }]

/-- Exposure and mode settings (R157, R134, R503). -/
def powerRows : List SetRow :=
  [row1 3 0 1 86400 3600, row1 4 0 0 120 30, row1 4 1 1 4 4, row1 4 2 10 1000 50, row1 4 3 1 100 10,
   row1 4 4 0 0x1F 1, row1 4 5 0 0xFFF 0, row1 4 6 100 60000 2000,
   { cls := 4, row := 7, lo := 1, hi := 4, neg := false, ok := fun i v => within 0 (factoryLatency i) i v,
     dflt := fun i => factoryLatency i, stage := .no }]

/-- Access settings (R201). -/
def accessRows : List SetRow :=
  [row1 5 0 0 720 72, row1 5 1 100 1000 200, row1 5 2 1 50 10, row1 5 3 5 600 60, row1 5 4 0 5000 1500,
   row1 5 5 0 1 1, row1 5 6 30 3000 300 .workshop, row1 5 7 0 1 1 .workshop, row1 5 8 1 20 5, row1 5 9 1 60 5,
   row1 5 10 1 600 10, row1 5 11 0 600 0, row1 5 12 1 1440 30, row1 5 13 (-110) (-40) (-85),
   row1 5 14 300000 960000 433920 .workshop, row1 5 15 0 31 0, row1 5 16 5 120 30, row1 5 17 0 11 1 .workshop,
   row1 5 18 0 0x1FFFFFFF 0x0C7F2200 .workshop, row1 5 19 0 63 33 .workshop, row1 5 20 0 11 0 .workshop,
   row1 5 21 0 0x1FFFFFFF 0x0C7F2100 .workshop, row1 5 22 0 63 32 .workshop, row1 5 23 20 1000 100]

/-- LF settings (R225). -/
def lfRows : List SetRow :=
  [row1 6 0 119000 135000 125000 .workshop, rowN 6 1 0 31 0 1 0 .workshop, rowN 6 2 0 31 100 1200 800 .workshop,
   rowN 6 3 0 31 0 255 0 .workshop, rowN 6 4 0 31 500 8000 2500, rowN 6 5 0 31 2 40 25,
   row1 6 6 1200 4800 3600 .workshop, row1 6 7 100 1000 500, row1 6 8 0 168 24]

/-- Radio settings (R248). -/
def uhfRows : List SetRow :=
  [row1 7 0 10 3600 60, row1 7 1 2 20 10, row1 7 2 0 2 0 .workshop, row1 7 3 0 1000 100, row1 7 4 0 1 0,
   row1 7 5 (-50000) 50000 0 .workshop]

/-- Rangefinder settings (R270). -/
def rangeRows : List SetRow :=
  [{ cls := 8, row := 0, lo := 0, hi := 0, neg := false, ok := codeOk [5, 9], dflt := fun _ => 9, stage := .workshop },
   row1 8 1 0 3 0 .workshop, row1 8 2 0 31 6 .workshop,
   { cls := 8, row := 3, lo := 0, hi := 3, neg := false, ok := within 0 1, dflt := fun i => if i = 0 then 1 else 0,
     stage := .workshop },
   rowN 8 4 0 3 0 20000 0 .workshop, rowN 8 5 18 23 550 950 660, rowN 8 6 18 23 0 1600 0, row1 8 7 30 500 100]

/-- Fixer settings (R306). -/
def fixerRows : List SetRow :=
  [row1 9 0 4000 25000 8000 .workshop, row1 9 1 10 500 50 .workshop, row1 9 2 120 250 200 .workshop,
   row1 9 3 10 300 10 .workshop, row1 9 4 0 16 2 .workshop, row1 9 5 1000 5000 5000 .workshop]

/-- Switch settings (R343). -/
def switchRows : List SetRow :=
  [rowN 10 0 0 11 0 3 2 .workshop, rowN 10 1 0 11 125000 1000000 250000 .workshop,
   rowN 10 2 0 11 1000000 10000000 2000000 .workshop, rowN 10 3 0 11 500 900 875 .workshop,
   rowN 10 4 0 11 500 900 750 .workshop, rowN 10 5 0 11 0 1 0 .workshop, rowN 10 6 12 17 0 1 0 .workshop,
   rowN 10 7 12 17 2400 20000 19200 .workshop, rowN 10 8 18 23 0 1 0 .workshop, rowN 10 9 18 23 0 1 0 .workshop,
   rowN 10 10 18 23 0 1 1, rowN 10 11 18 23 1 4094 1, rowN 10 12 12 27 32 4096 1024, rowN 10 13 0 27 0 2 0,
   rowN 10 14 0 27 0 1 0, row1 10 15 128 2048 512, row1 10 16 10 2000 200, row1 10 17 0 100 2,
   row1 10 18 0 2048 512, row1 10 19 0 3600 60,
   { cls := 10, row := 20, lo := 0, hi := 15, neg := false, ok := macOk, dflt := fun _ => 0, stage := .yes },
   rowN 10 21 0 15 0 4094 0, rowN 10 22 0 15 0 0xFFFFFFFFFFFFFFFF 0, rowN 10 23 0 7 0 1 0 .workshop,
   { cls := 10, row := 24, lo := 0, hi := 7, neg := false, ok := within 0 63, dflt := fun i => 40 + i,
     stage := .workshop },
   rowN 10 25 0 7 4 8 8 .workshop]

/-- Cipher, Grain, storage and memory settings (R371, R387, R421, R439). -/
def coreRows : List SetRow :=
  [row1 11 0 1024 268435456 16777216, row1 11 1 1 16 4 .workshop, row1 12 0 0 2048 256,
   row1 13 0 100 10000 220 .workshop, row1 13 1 1 600 10, row1 13 2 10 10000 1000, row1 13 3 10 10000 1000,
   row1 13 4 7 180 30, row1 13 5 16 512 128, row1 14 0 0 1 1 .workshop, row1 14 1 100 100000 1000,
   { cls := 14, row := 2, lo := 0, hi := 7, neg := false, ok := codeOk dmaSources, dflt := fun _ => 0, stage := .yes },
   rowN 14 3 0 7 16 1024 64]

/-- Safelight settings (R459). -/
def safeRows : List SetRow :=
  [{ cls := 15, row := 0, lo := 0, hi := 13, neg := false, ok := zeroOr 10 86400000, dflt := sensorPeriod,
     stage := .yes },
   { cls := 15, row := 1, lo := 0, hi := 13, neg := true,
     ok := fun i v => within (sensorRange i).1 (sensorRange i).2 i v, dflt := fun i => (sensorDefault i).1,
     stage := .yes },
   { cls := 15, row := 2, lo := 0, hi := 13, neg := true,
     ok := fun i v => within (sensorRange i).1 (sensorRange i).2 i v, dflt := fun i => (sensorDefault i).2,
     stage := .yes },
   row1 15 3 0 1 0 .workshop, row1 15 4 60 86400 3600, row1 15 5 0 10000 2000, row1 15 6 0 1 0,
   { cls := 15, row := 7, lo := 0, hi := 0, neg := false, ok := codeOk (upFrom 1 15 ++ upFrom 32 31),
     dflt := fun _ => 34, stage := .workshop },
   row1 15 8 60 86400 600, row1 15 9 0 1 1]

/-- The rows of one class (R139). -/
def classRows : Nat → List SetRow
  | 1 => hostRows | 2 => timeRows | 3 => powerRows | 4 => powerRows | 5 => accessRows | 6 => lfRows | 7 => uhfRows
  | 8 => rangeRows | 9 => fixerRows | 10 => switchRows | 11 => coreRows | 12 => coreRows | 13 => coreRows
  | 14 => coreRows | 15 => safeRows | _ => []

/-- The settings row of a class and row number (R139). -/
def rowOf (cls row : Nat) : Option SetRow := (classRows cls).find? (fun r => r.cls == cls && r.row == row)

/-- SETTING_ID (R139). -/
def settingId (cls row idx : Nat) : Nat := cls * 0x1000000 + row * 0x10000 + idx

/-- The row that a SETTING_ID names, with its index inside the row's range (R139, R140, R503). -/
def rowOfId (id : Nat) : Option SetRow :=
  match rowOf (id / 0x1000000) (id / 0x10000 % 0x100) with
  | some r => if r.lo ≤ id % 0x10000 ∧ id % 0x10000 ≤ r.hi then some r else none
  | none => none

/-- The integer an 8-byte VALUE holds for a row (R140). -/
def readValue (r : SetRow) (b : Bytes) : Int := if r.neg then sext 64 (leNat b) else (leNat b : Int)

/-- The 8-byte VALUE of an integer (R140). -/
def valueBytes (v : Int) : Bytes := leBytes 8 (unsext 64 v)

/-- A setting in force: the value exposed last, or its default (R14). -/
def Conf.get (c : Conf) (cls row : Nat) (idx : Nat := 0) : Int :=
  match assoc c.values (settingId cls row idx) with
  | some v => v
  | none => match rowOf cls row with
    | some r => r.dflt idx
    | none => 0

/-- A setting in force as a natural number. -/
def Conf.nat (c : Conf) (cls row : Nat) (idx : Nat := 0) : Nat := (c.get cls row idx).toNat

/-- Setting `id` takes `v`; a value equal to the default is not listed. -/
def Conf.put (c : Conf) (id : Nat) (v : Int) : Conf :=
  match rowOfId id with
  | some r =>
    if r.dflt (id % 0x10000) = v then { c with values := assocDel c.values id }
    else { c with values := assocSet c.values id v }
  | none => c

/-- Object reference of a staged object (R139). -/
def objectId (cls row idx : Nat) : Nat := settingId cls row idx

/-- A staged object in force other than a course. -/
def Conf.object (c : Conf) (id : Nat) : Option Bytes := assoc c.objects id

end Sys2Proof.Machine
end

