-- ==== Sys2Proof/Machine/Ops.lean ====
section
/-! DEFINITION. The operations that every family shares: changing one part of the state, the passing of time on the
epoch (R84–R87), stamps and order keys (R92–R96), events and their two destinations (R58–R61, R447), power domains and
modes (R112–R119, R124), and a ticket's completion (R51–R55, R472). -/

namespace Sys2Proof.Machine

/-! ### One part of the state changed -/

/-- The host link changed. -/
def State.modHost (s : State) (f : HostLink → HostLink) : State := { s with host := f s.host }
/-- The order-key sequences changed. -/
def State.modEv (s : State) (f : EvUnit → EvUnit) : State := { s with ev := f s.ev }
/-- The contact sheet changed. -/
def State.modSheet (s : State) (f : Sheet → Sheet) : State := { s with sheet := f s.sheet }
/-- The Steward's memory changed. -/
def State.modStew (s : State) (f : Steward → Steward) : State := { s with stew := f s.stew }
/-- The configuration in force changed. -/
def State.modConf (s : State) (f : Conf → Conf) : State := { s with conf := f s.conf }
/-- The exposure engine changed. -/
def State.modExpo (s : State) (f : Expo → Expo) : State := { s with expo := f s.expo }
/-- The time base changed. -/
def State.modTime (s : State) (f : TimeBase → TimeBase) : State := { s with time := f s.time }
/-- Modes and domains changed. -/
def State.modPower (s : State) (f : Power → Power) : State := { s with power := f s.power }
/-- Eave changed. -/
def State.modEave (s : State) (f : Eave → Eave) : State := { s with eave := f s.eave }
/-- The parameter store changed. -/
def State.modStore (s : State) (f : Store → Store) : State := { s with store := f s.store }
/-- The vault changed. -/
def State.modVault (s : State) (f : Vault → Vault) : State := { s with vault := f s.vault }
/-- The Safelight changed. -/
def State.modSafe (s : State) (f : Safe → Safe) : State := { s with safe := f s.safe }

/-- On-chip memory changed. -/
def State.modMem (s : State) (f : Mem → Mem) : State := { s with mem := f s.mem }
/-- The M die's side of the lane changed. -/
def State.modLane (s : State) (f : Lane → Lane) : State := { s with lane := f s.lane }

/-- The access engine changed. -/
def State.modAccess (s : State) (f : Access → Access) : State := { s with access := f s.access }
/-- The LF field array changed. -/
def State.modLf (s : State) (f : Lf → Lf) : State := { s with lf := f s.lf }
/-- The transceiver changed. -/
def State.modUhf (s : State) (f : Uhf → Uhf) : State := { s with uhf := f s.uhf }
/-- The Rangefinder changed. -/
def State.modRange (s : State) (f : Range → Range) : State := { s with range := f s.range }
/-- The frame switch changed. -/
def State.modSw (s : State) (f : Switch → Switch) : State := { s with sw := f s.sw }
/-- The cipher engine changed. -/
def State.modCiph (s : State) (f : Cipher → Cipher) : State := { s with ciph := f s.ciph }
/-- Grain changed. -/
def State.modGrain (s : State) (f : Grain → Grain) : State := { s with grain := f s.grain }
/-- The F die changed. -/
def State.modFix (s : State) (f : Fixer → Fixer) : State := { s with fix := f s.fix }
/-- Reset and start changed. -/
def State.modBoot (s : State) (f : Boot → Boot) : State := { s with boot := f s.boot }

/-- The next free value's index, and the state that has used it. -/
def State.useFree (s : State) : State := { s with free := s.free + 1 }

/-! ### Settings in force -/

/-- A setting in force (R14). -/
def State.get (s : State) (cls row : Nat) (idx : Nat := 0) : Int := s.conf.get cls row idx
/-- A setting in force, as a natural number. -/
def State.nat (s : State) (cls row : Nat) (idx : Nat := 0) : Nat := s.conf.nat cls row idx

/-! ### Time -/

/-- The epoch (R82). -/
def State.now (s : State) : Nat := s.time.epoch

/-- slew_adj of a slew of `r` ppb: the nearest integer to 4,194,304 × r / 10⁹ (R89). -/
def slewAdj (r : Int) : Int := (4194304 * r * 2 + 1000000000) / 2000000000

/-- LSB that one clock period adds in units of 1/3,000,000 LSB, at the sleep depth (R84): a 768 MHz tick at L0 and L1,
an XF cycle at L2. -/
def periodStep (depth : Nat) (ppb : Int) : Int :=
  if depth ≤ 1 then 3000000 + 1194304 + slewAdj ppb else 27 * 3000000 + 2886080 + 20 * slewAdj ppb

/-- 2⁻⁸ LSB that one XS edge adds (R85); a slew changes the step by the same fraction (R89). -/
def xsStep (trim ppb : Int) : Int := (32768 * 256 + trim) * (1000000000 + ppb) / 1000000000

/-- The last epoch value; the epoch never wraps (R82). -/
def lastEpoch : Nat := 2 ^ 64 - 1

/-- `k` clock periods of the epoch at the present depth (R84, R85). -/
def advance (k : Nat) (s : State) : State :=
  if s.eave.depth ≤ 2 ∧ s.time.fine then
    let t := (s.time.rem : Int) + k * periodStep s.eave.depth s.time.slewPpb
    s.modTime (fun b => { b with epoch := min lastEpoch (b.epoch + (t / 3000000).toNat), rem := (t % 3000000).toNat })
  else
    let t := (s.time.xsRem : Int) + k * xsStep s.time.xsTrim s.time.slewPpb
    s.modTime (fun b => { b with epoch := min lastEpoch (b.epoch + (t / 256).toNat), xsRem := (t % 256).toNat })

/-- Clock periods until the epoch first reaches `stamp` (R84, R85, R98). -/
def periodsTo (stamp : Nat) (s : State) : Nat :=
  let d : Int := (stamp : Int) - s.now
  if d ≤ 0 then 0
  else if s.eave.depth ≤ 2 ∧ s.time.fine then
    let st := periodStep s.eave.depth s.time.slewPpb
    ((d * 3000000 - s.time.rem + st - 1) / st).toNat
  else
    let st := xsStep s.time.xsTrim s.time.slewPpb
    ((d * 256 - s.time.xsRem + st - 1) / st).toNat

/-- The state at the first clock period whose epoch is at or above `stamp`; the same state where it is already. -/
def reach (stamp : Nat) (s : State) : State := advance (periodsTo stamp s) s

/-- A sequence of the array is not over: a command sequence until its end is reported, an access sequence until its quench
ends (R220). -/
def LfSeq.live (now : Nat) (q : LfSeq) : Bool := q.who != 0 || decide (now < q.end_)

/-- The sequences that run or are to follow. -/
def liveSeqs (s : State) : List LfSeq := s.lf.seqs.filter (LfSeq.live s.now)

/-- The array drives a sequence, or one that belongs to the same cycle is still to follow (R220). -/
def lfBusy (s : State) : Bool := s.lf.seqs.any (LfSeq.live s.now)

/-- The sequence that runs now. -/
def lfRunning (s : State) : Option LfSeq := (liveSeqs s).find? (fun q => decide (q.start ≤ s.now))

/-- The firmware has not set its shutter again: the cycle that runs, or the sequence that drives, overruns the compare, which
then fires late once it is over (R100, R169, R220). -/
def firmHeld (n : Nat) (s : State) : Bool :=
  n == 15 && s.access.cyc.isSome || (n == 13 || n == 15) && lfBusy s

/-- Armed compares other than that of shutter `n`; a fire whose firmware part is still to come lets no time pass. -/
def otherCompares (n : Nat) (s : State) : List Nat :=
  (List.range 16).filterMap (fun i =>
    let h := tget s.time.shutters i
    if i = n ∨ firmHeld i s = true then none else if h.owed then some 0 else if h.state ≠ .idle then some h.active else none)

/-- The epoch may pass on to `stamp`: it is there already, or no armed shutter fires before it (R98) and it is an epoch value
at all (R82). -/
def clearUntil (stamp : Nat) (s : State) : Bool :=
  decide (stamp ≤ s.now) || (decide (stamp ≤ lastEpoch) && (otherCompares 16 s).all (fun c => decide (stamp ≤ c)))

/-- `k` runs at the stamp a timer of the block falls due: time passes until then, unless an armed shutter fires first
(R26, R98). -/
def atDue (due : Nat) (s : State) (k : State → State) : State :=
  if clearUntil due s then k (reach due s) else s

/-- The epoch is coarse: the PD0 value at L3 and L4 and until the re-alignment (R84, R87). -/
def State.coarse (s : State) : Bool := !(s.time.fine && decide (s.eave.depth ≤ 2))

/-- QUALITY of a key whose stamp is coarse or fine: 0 FINE, 1 COARSE_ASLEEP, and 2 REPLAYED in journal replay (R93, R473). -/
def State.qualityOf (s : State) (coarse : Bool) : Nat := if s.boot.replay then 2 else b1 coarse

/-- QUALITY of a stamp issued now (R84, R87, R93). -/
def State.quality (s : State) : Nat := s.qualityOf s.coarse

/-! ### Events -/

/-- The record as its 32 bytes (R58, R92). -/
def EvRec.bytes (r : EvRec) : Bytes :=
  leBytes 8 r.stamp ++ leBytes 4 r.tag ++ leBytes 2 r.code ++ leBytes 2 r.node ++ leBytes 1 r.ticket ++ zeros 3
    ++ (r.data ++ zeros 12).take 12

/-- The order key as one number (R94). -/
def EvRec.key (r : EvRec) : Nat := r.stamp * 2 ^ 32 + r.tag

/-- Offset of event-ring record `i` (R43). -/
def ringOff (i : Nat) : Nat := 0x8400 + i * 32

/-- Unread records in the ring (R59). -/
def HostLink.unread (h : HostLink) : Nat := (h.evtHead + 512 - h.evtTail) % 512

/-- Some INT_STATUS bits become 1. -/
def HostLink.raise (h : HostLink) (bits : Nat) : HostLink := { h with intStatus := h.intStatus ||| BitVec.ofNat 32 bits }

/-- INT_STATUS bits (R41). -/
abbrev irqRsp : Nat := 1
/-- CMD_FREE. -/
abbrev irqCmdFree : Nat := 2
/-- EVT. -/
abbrev irqEvt : Nat := 4
/-- EVT_OVF. -/
abbrev irqEvtOvf : Nat := 8
/-- RESET_SEEN. -/
abbrev irqReset : Nat := 16
/-- MODE_CHANGE. -/
abbrev irqMode : Nat := 32
/-- FRONT_ERR. -/
abbrev irqFrontErr : Nat := 64

/-- Record `k` places behind EVT_HEAD, the newest being 0 (R43, R59). -/
def HostLink.ringBack (h : HostLink) (k : Nat) : Nat := ringOff ((h.evtHead + 511 - k) % 512)

/-- How many of the newest records a record with this order key goes before: those raised at the same instant with a higher
order key; a loss record stays before every later event (R59, R60, R94). -/
def HostLink.overtaken (h : HostLink) (now key : Nat) : Nat :=
  ((List.range h.unread).takeWhile (fun k =>
    let b := Memory.readBytes h.window (h.ringBack k) 14
    h.ringSince.reverse[k]? == some now && u16At b 12 != 0x0101 && decide (key < u64At b 0 * 2 ^ 32 + u32At b 8))).length

/-- The `k` newest records move on by one place, newest first. -/
def HostLink.ringShift (h : HostLink) : Nat → List Host.Cell
  | 0 => h.window
  | k + 1 => Memory.writeBytes (h.ringShift k) (ringOff ((h.evtHead + 512 - k) % 512)) (Memory.readBytes h.window (h.ringBack k) 32)

/-- The Steward writes one record and advances EVT_HEAD (R59), and sets EVT when the unread count reaches `count` (R61). The
record goes at EVT_HEAD; among records of one instant the order is that of their keys (log entry 17). -/
def HostLink.ringWrite (h : HostLink) (now count : Nat) (r : EvRec) : HostLink :=
  let k := if r.code = 0x0101 then 0 else h.overtaken now r.key
  let h1 := { h with
    window := Memory.writeBytes (h.ringShift k) (ringOff ((h.evtHead + 512 - k) % 512)) r.bytes
    evtHead := (h.evtHead + 1) % 512
    ringSince := h.ringSince ++ [now] }
  if h.unread + 1 = count then h1.raise irqEvt else h1

/-- A record meant for the ring: written while it holds fewer than 511 unread records, otherwise counted in EVT_LOST with
EVT_OVF (R59, R60). -/
def HostLink.ringPut (h : HostLink) (now count : Nat) (r : EvRec) : HostLink :=
  if h.unread < 511 ∧ h.evtLost = 0 then h.ringWrite now count r
  else
    { h with evtLost := satAdd 0xFFFFFFFF h.evtLost 1,
             firstLost := if h.evtLost = 0 then r.stamp else h.firstLost }.raise irqEvtOvf

/-- A record arrives in the Safelight's sort buffer, or is counted as lost while that is full (R447, R448). -/
def Safe.log (f : Safe) (now : Nat) (r : EvRec) : Safe :=
  if f.sort.length < 2048 then { f with sort := f.sort ++ [(now, r)] }
  else { f with lostNow := f.lostNow + 1, lostFirst := if f.lostNow = 0 then r.stamp else f.lostFirst,
                lost := satAdd 0xFFFFFFFF f.lost 1 }

/-- The loss record of the log, when one is owed (R448). -/
def lossRecord (f : Safe) (stamp tag : Nat) : EvRec :=
  { stamp, tag, code := 0x0F04, data := leBytes 4 f.lostNow ++ leBytes 8 f.lostFirst }

/-- TAG of an order key (R92). -/
def tagOf (quality source seq : Nat) : Nat := quality * 2 ^ 28 + source * 2 ^ 16 + seq

/-- The port of the T1 host path, while HOST.T1_PORT names one (R63). -/
def State.t1Port (s : State) : Option Nat :=
  let p := s.nat 1 0
  if 18 ≤ p ∧ p ≤ 21 then some p else none

/-- T1_PATH_UP: the path is on and its port is up, BLOCKED by its partner's PAUSE or not, and the Steward runs (R41, R63,
R67; log entry 185). -/
def State.t1Up (s : State) : Bool :=
  match s.t1Port with
  | some p => (tget s.sw.ports p).state == .up && s.stew.running
  | none => false

/-- The host link takes an event record: it goes into the ring when its class bit is set in HOST.EVT_CLASS_MASK (R59), or
waits while the Steward does not run yet (R42). -/
def HostLink.take (h : HostLink) (running inRing : Bool) (now count : Nat) (r : EvRec) : HostLink :=
  if running then (if inRing then h.ringPut now count r else h) else { h with early := h.early ++ [r] }

/-- A finished event record goes to the log and to the ring (R59, R447); while HOST.T1_EVENTS is 1 and the T1 path is up, it
also joins the next event batch (R66). -/
def putEvent (r : EvRec) (s : State) : State :=
  let inRing := (s.nat 1 5).testBit (r.code / 256)
  let toT1 := s.nat 1 4 == 1 && s.t1Up
  let s1 := s.modSafe (fun f => f.log s.now r)
  let s2 := s1.modHost (fun h => h.take s.stew.running inRing s.now (s.nat 1 6) r)
  if toT1 then s2.modHost (fun h => { h with t1Events := h.t1Events ++ [r] }) else s2

/-- An event of source `src` with its own quality and stamp: the source's SEQUENCE is used and rises (R95). -/
def emitAs (quality stamp src code : Nat) (node tk : Nat) (data : Bytes) (s : State) : State :=
  let q := tget s.ev.seqs src
  putEvent { stamp, tag := tagOf quality src q, code, node, ticket := tk, data := (data ++ zeros 12).take 12 }
    (s.modEv (fun e => { e with seqs := tmod e.seqs src (fun n => wrapAdd 16 n 1) }))

/-- An event stamped now (R26). -/
def emit (src code : Nat) (data : Bytes := []) (node : Nat := 0) (tk : Nat := 0xFF) (s : State) : State :=
  emitAs s.quality s.now src code node tk data s

/-- An event that can come before a cold start has loaded the epoch: it waits for the load, whose stamp it carries (R462). -/
def report (src code : Nat) (data : Bytes) (node : Nat) (s : State) : State :=
  if s.boot.phase = .cold then s.modBoot (fun b => { b with held := b.held ++ [(src, code, data, node)] })
  else emit src code data node 0xFF s

/-- NODE of an event about a token slot (R58, R69); none where it names no slot. -/
def slotNode (n : Nat) : Nat := if n < 16 then 0x50 + n else 0

/-- FRONT_ERR is set when an error bit of FRONT_STATUS became 1, and not by one that was 1 before (R41). -/
def HostLink.flag (h g : HostLink) : HostLink :=
  if (!h.collide && g.collide) || (!h.wrIgnored && g.wrIgnored) || (!h.spiErr && g.spiErr) || (!h.badFrame && g.badFrame) then
    g.raise irqFrontErr
  else g

/-- An error bit of FRONT_STATUS is set (R41). -/
def frontErr (s : State) (f : HostLink → HostLink) : State := s.modHost (fun h => h.flag (f h))

/-! ### Modes and domains -/

/-- What each mode permits each domain (R112). -/
def permit (m : Mode) (d : Nat) : Permit :=
  if d = 0 then .on else if d = 1 then .own else
  match m with
  | .stowed => if d = 2 ∨ d = 3 ∨ d = 9 then .booked else .no
  | .parked | .watch => if d = 2 then .on else if d = 6 then .no else .booked
  | .approach => if d = 2 ∨ d = 3 ∨ d = 4 ∨ d = 5 then .on else .booked
  | .cab => if d = 6 ∨ d = 7 ∨ d = 9 then .booked else .on
  | .drive | .workshop => if d = 6 ∨ d = 7 then .booked else .on
  | .holdover => if d = 2 ∨ d = 3 ∨ d = 9 then .on else if d = 4 then .booked else .no

/-- The deepest sleep depth of PD3 CORE in a mode (R112). -/
def deepest : Mode → Nat
  | .stowed | .parked | .watch => 4
  | .approach => 2
  | _ => 1

/-- A domain is permitted for a command taken now: by the current mode, and during a transition by both modes
(R28, R117). -/
def State.allows (s : State) (d : Nat) : Bool :=
  permit s.power.mode d != .no &&
    (match s.power.moving with
     | some t => permit t.target d != .no
     | none => true)

/-- Domain `d` is powered; PD0 and PD1 are in every mode (R112, R113). -/
def State.powered (s : State) (d : Nat) : Bool := (tget s.power.domains d).state == .on

/-- Domain `d` is on and permitted, so that new work may begin on it (R28, R117, R118). -/
def State.usable (s : State) (d : Nat) : Bool := s.powered d && s.allows d

/-- Domain `d` is on or switching. -/
def State.lit (s : State) (d : Nat) : Bool := (tget s.power.domains d).state != .off

/-- A mode is the current one, or the one that the transition in progress leads to: a trigger of that mode waits for it
(R119). -/
def State.heads (s : State) (m : Mode) : Bool := s.power.mode == m || s.power.moving.any (fun t => t.target == m)

/-- The domains a domain needs besides PD0 (R124); PD9 needs PD2 or PD3, one of which is on whenever it is requested. -/
def domainNeeds : Nat → List Nat
  | 4 => [3] | 5 => [3] | 6 => [3, 4] | 7 => [3] | 8 => [3] | _ => []

/-- On-time of a domain, µs (R124). -/
def onTimeUs : Nat → Nat
  | 2 => 150 | 4 => 40 | 5 => 60 | 6 => 80 | 7 => 50 | 8 => 250 | 9 => 120 | _ => 0

/-- The listed domains and those they need, lowest number first (R28, R124). -/
def withNeeds (ds : List Nat) : List Nat :=
  (List.range 10).filter (fun d => ds.contains d || ds.any (fun e => (domainNeeds e).contains d))

/-- A domain that is off starts to switch on (R124). -/
def Power.request (p : Power) (d : Nat) : Power :=
  { p with domains := tmod p.domains d (fun x => if x.state = .off then { x with state := .switching } else x) }

/-- The listed domains, and those they need, are requested (R28). -/
def requestAll (ds : List Nat) (s : State) : State :=
  s.modPower (fun p => (withNeeds ds).foldl Power.request p)

/-- A domain reaches its working state (R124). -/
def Power.switchOn (p : Power) (now d : Nat) : Power :=
  { p with domains := tmod p.domains d (fun x =>
      if x.state = .on then x else { x with state := .on, onCount := wrapAdd 32 x.onCount 1, since := now }) }

/-- A domain is switched off. -/
def Power.switchOff (p : Power) (now d : Nat) : Power :=
  { p with domains := tmod p.domains d (fun x =>
      if x.state = .on then { x with state := .off, onTime := x.onTime + (now - x.since) } else { x with state := .off }) }

/-- READY: PD3 CORE is on, at any depth from L0 to L3, and the Steward has started (R39, R113). -/
def State.isReady (s : State) : Bool := s.host.ready && decide (s.eave.depth ≤ 3)

/-! ### Tickets -/

/-- Cuts bytes into pieces of at most `k` (R51). -/
def chunks (k : Nat) : Nat → Bytes → List Bytes
  | 0, _ => []
  | n + 1, b => if b.length ≤ k then [b] else b.take k :: chunks k n (b.drop k)

/-- Fragments of a payload that may be split at any multiple of 4 bytes (R51). -/
def fragments (b : Bytes) : List Bytes := chunks 1000 (b.length + 1) b

/-- Groups whole entries into fragments of at most 1,000 bytes (R51). -/
def groupEntries : Bytes → List Bytes → List Bytes
  | acc, [] => [acc]
  | acc, e :: es => if acc.length + e.length ≤ 1000 then groupEntries (acc ++ e) es else acc :: groupEntries e es

/-- The ticket's entry in the contact sheet changed. -/
def State.modTicket (s : State) (tk : Nat) (f : TicketEntry → TicketEntry) : State :=
  s.modSheet (fun h => { h with tickets := tmod h.tickets tk f })

/-- The ticket's working state changed. -/
def State.modWork (s : State) (tk : Nat) (f : Work → Work) : State :=
  s.modStew (fun w => { w with works := tmod w.works tk (Option.map f) })

/-- The ticket's entry. -/
def State.ticket (s : State) (tk : Nat) : TicketEntry := tget s.sheet.tickets tk
/-- The ticket's working state. -/
def State.work (s : State) (tk : Nat) : Option Work := tget s.stew.works tk

/-- The completion entry: the status, and the payload in KEEP when it is 64 bytes or less; then STATE 3 (R472). -/
def TicketEntry.finish (e : TicketEntry) (status : Nat) (data : Bytes) : TicketEntry :=
  { e with status, keepLen := data.length % 65536, keep := data.take 64, keepValid := decide (data.length ≤ 64),
           state := .completed, again := false }

/-- An operation has finished: the completion entry is written, the response is cut into fragments and joins the
responses that wait to be posted, in completion order (R47, R53, R472). -/
def finishWith (tk status : Nat) (data : Bytes) (frags : List Bytes) (flags : Nat) (s : State) : State :=
  ((s.modTicket tk (fun e => e.finish status data)).modWork tk (fun w =>
      { w with status, stamp := s.now, frags, flags := w.flags ||| flags, posted := 0, released := [] })).modStew
    (fun w => { w with postQ := w.postQ ++ [.ticket tk] })

/-- A command completes with a plain response. -/
def complete (tk status : Nat) (data : Bytes) (s : State) : State :=
  finishWith tk status data (fragments data) 0 s

/-- The worst status: the highest severity, the earliest among equals (R74). -/
def worst : Nat → List Nat → Nat
  | w, [] => w
  | w, x :: xs => worst (if severity w < severity x then x else w) xs

/-- The result recorded for a tile. -/
def resultOf (rs : List TileRes) (n : Nat) : TileRes := (rs.find? (fun r => r.node == n)).getD { node := n }

/-- The entries of the walk that lie below the entry at depth `d` (R73). -/
def below (d : Nat) : List WalkItem → List WalkItem
  | [] => []
  | w :: ws => if d < w.depth then w :: below d ws else []

/-- Status of a course: the worst of the tile entries below it, in walk order (R73, R74). -/
def courseStatus (rs : List TileRes) (ws : List WalkItem) : Nat :=
  match (ws.filter (fun w => w.kind != 1)).map (fun w => (resultOf rs w.node).status) with
  | [] => St.ok
  | x :: xs => worst x xs

/-- The member entries of a fan-out, in walk order (R73). -/
def entries (rs : List TileRes) : List WalkItem → List Bytes
  | [] => []
  | w :: ws =>
    let r := resultOf rs w.node
    let st := if w.kind = 1 then courseStatus rs (below w.depth ws) else r.status
    let d := if w.kind = 0 then r.data else []
    (leBytes 2 w.node ++ leBytes 2 st ++ leBytes 2 d.length ++ leBytes 1 w.kind ++ leBytes 1 w.depth ++ pad4 d)
      :: entries rs ws

/-- A command that acted on tiles completes: with the tile's own payload for a tile, with the member-entry list for a
course (R71–R74). -/
def completeTiles (tk : Nat) (walk : List WalkItem) (rs : List TileRes) (s : State) : State :=
  match walk with
  | w :: ws =>
    if w.kind = 1 then
      let es := entries rs (w :: ws)
      finishWith tk (courseStatus rs ws) es.flatten (groupEntries [] es) 4 s
    else complete tk (resultOf rs w.node).status (resultOf rs w.node).data s
  | [] => complete tk St.ok [] s

/-- The operation has started on its target: STATE 2 (R472). -/
def start (tk : Nat) (s : State) : State := s.modTicket tk (fun e => { e with state := .running })

/-- Tiles a command acts on: those of its walk, none for a staging command (R52, R57). -/
def Work.tiles (w : Work) : List Nat := if w.req.stage then [] else (w.walk.filter (fun x => x.kind == 0)).map (·.node)

/-- Another command holds or awaits one of the command's tiles and was accepted before it (R57). Jobs, loads and erases of
class 0x0B that have started do not hold their slot (R356). -/
def State.tileBusy (s : State) (tk : Nat) (w : Work) : Bool :=
  (List.range 128).any (fun t =>
    t != tk && (match s.work t with
      | some v => decide (v.order < w.order) &&
          ((s.ticket t).state == .accepted ||
            ((s.ticket t).state == .running && v.req.opcode / 256 != 0x0B)) &&
          v.tiles.any (fun n => w.tiles.contains n)
      | none => false))

/-- The accepted command of this ticket, when it has this opcode and may start now: the Steward runs, its domains are on
and not about to be withdrawn, and no earlier command holds its tiles (R28, R57, R118). -/
def startable (tk op : Nat) (s : State) : Option Work :=
  match s.work tk with
  | some w =>
    if s.stew.running = true ∧ (s.ticket tk).state = .accepted ∧ w.req.opcode = op ∧ w.needs.all s.usable = true ∧
        (op = 0x0110 ∨ s.tileBusy tk w = false) then some w
    else none
  | none => none

/-- The shape of every command's meaning: `f` runs the request of the ticket's command when it may start; otherwise
nothing happens and the command goes on waiting. -/
def command (tk op : Nat) (f : Work → State → State) (s : State) : State :=
  match startable tk op s with
  | some w => f w s
  | none => s

/-- A sequential fan-out whose tiles answer at once: every tile of the walk in order, each from the state its
predecessor left (R72). -/
def walkTiles (f : Nat → Req → State → State × Nat × Bytes) (r : Req) : List Nat → State → State × List TileRes
  | [], s => (s, [])
  | n :: ns, s =>
    let a := f n r s
    let rest := walkTiles f r ns a.1
    (rest.1, { node := n, status := a.2.1, data := a.2.2 } :: rest.2)

/-- A command that acts on tiles at once and completes. -/
def fanOut (tk op : Nat) (f : Nat → Req → State → State × Nat × Bytes) : State → State :=
  command tk op (fun w s =>
    let a := walkTiles f w.req ((w.walk.filter (fun x => x.kind == 0)).map (·.node)) s
    completeTiles tk w.walk a.2 a.1)

/-- The answer of every meaning: a next state. -/
abbrev Out := Host.Outcome State Fault Refusal

end Sys2Proof.Machine
end

