-- ==== Sys2Proof/Machine/Nodes.lean ====
section
/-! DEFINITION. The node tree (R68–R70), which nodes an opcode accepts (R71) and the walk of a fan-out (R72). -/

namespace Sys2Proof.Machine

/-- Factory tiles (R69). -/
def isTile (n : Nat) : Bool :=
  (decide (0x10 ≤ n) && decide (n ≤ 0x4B)) || (decide (0x50 ≤ n) && decide (n ≤ 0x8B)) ||
    (decide (0x90 ≤ n) && decide (n ≤ 0xD1))

/-- Members of a factory course, in order (R69). -/
def factoryCourse (n : Nat) : Option (List Nat) :=
  match n with
  | 0x01 => some [0x02, 0x06, 0x07, 0x08, 0x09, 0x0A, 0x0B, 0x0C, 0x0D]
  | 0x02 => some (upFrom 0x10 32)
  | 0x03 => some (upFrom 0x30 12)
  | 0x04 => some (upFrom 0x3C 6)
  | 0x05 => some (upFrom 0x42 6)
  | 0x06 => some ([0x03, 0x04, 0x05] ++ upFrom 0x48 4)
  | 0x07 => some (upFrom 0x50 16)
  | 0x08 => some (upFrom 0x60 16)
  | 0x09 => some (upFrom 0x70 16)
  | 0x0A => some (upFrom 0x80 8)
  | 0x0B => some (upFrom 0x88 4)
  | 0x0C => some (upFrom 0x90 64)
  | 0x0D => some (upFrom 0xD0 2)
  | _ => none

/-- Members of a course of the tree with these integrator courses; none for a tile or no node (R68–R70). -/
def members (cs : List (Nat × List Nat)) (n : Nat) : Option (List Nat) :=
  match factoryCourse n with
  | some m => some m
  | none => if 0x100 ≤ n ∧ n ≤ 0x7FF then assoc cs n else none

/-- The node exists (R68). -/
def nodeExists (cs : List (Nat × List Nat)) (n : Nat) : Bool := isTile n || (members cs n).isSome

/-- Type code (R69). -/
def typeCode (n : Nat) : Nat :=
  if ¬ isTile n then 0
  else if n ≤ 0x2F then 1 else if n ≤ 0x4B then 2 else if n ≤ 0x5F then 3 else if n ≤ 0x6F then 4
  else if n ≤ 0x7F then 5 else if n ≤ 0x87 then 6 else if n ≤ 0x8B then 7 else if n ≤ 0xCF then 8 else 9

/-- Power domain of a tile by its type (R27, R69). -/
def tileDomain (n : Nat) : Nat :=
  match typeCode n with
  | 1 => 7 | 2 => 8 | 3 => 3 | 4 => 3 | 5 => 2 | 6 => 3 | 7 => 6 | 8 => 4 | 9 => 1 | _ => 3

/-- Depth-first expansion of a node in member order, to at most `fuel` levels (R72). -/
def expand (cs : List (Nat × List Nat)) : Nat → Nat → Nat → List WalkItem
  | 0, _, _ => []
  | fuel + 1, depth, n =>
    match members cs n with
    | some ms => { node := n, kind := 1, depth } :: ms.flatMap (expand cs fuel (depth + 1))
    | none => [{ node := n, kind := 0, depth }]

/-- Later occurrences of a tile become repeats (R72). -/
def markRepeats : List Nat → List WalkItem → List WalkItem
  | _, [] => []
  | seen, w :: ws =>
    if w.kind = 0 then
      if seen.contains w.node then { w with kind := 2 } :: markRepeats seen ws
      else w :: markRepeats (w.node :: seen) ws
    else w :: markRepeats seen ws

/-- The walk of a command on a node (R72): courses nest at most 16 levels below it (R68). -/
def walkOf (cs : List (Nat × List Nat)) (n : Nat) : List WalkItem := markRepeats [] (expand cs 18 0 n)

/-- Tiles reached from a node, each once. -/
def tilesOf (cs : List (Nat × List Nat)) (n : Nat) : List Nat :=
  ((walkOf cs n).filter (fun w => w.kind == 0)).map (·.node)

/-- NODE is valid for the opcode (R52, R71). -/
def nodeOk (cs : List (Nat × List Nat)) (r : NodeRule) (n : Nat) : Bool :=
  match r with
  | .zero => n == 0
  | .any => nodeExists cs n
  | .tile lo hi => isTile n && decide (lo ≤ n) && decide (n ≤ hi)
  | .tiles lo hi => nodeExists cs n && (tilesOf cs n).all (fun t => decide (lo ≤ t) && decide (t ≤ hi))

/-- Every ID of the 16-bit space below 0x0800 that names a node, ascending. -/
def allNodes (cs : List (Nat × List Nat)) : List Nat := (List.range 0x800).filter (nodeExists cs)

/-- Number of courses that list a node (R79). -/
def parentCount (cs : List (Nat × List Nat)) (n : Nat) : Nat :=
  ((List.range 0x800).filter (fun c => match members cs c with
    | some ms => ms.contains n
    | none => false)).length

end Sys2Proof.Machine
end

