-- ==== Sys2Proof/Machine/Host.lean ====
section
/-! DEFINITION. The SPI slave, the front registers and the DP window (R35–R45, R429), doorbells and release of response
mailboxes (R46, R47), the event ring's host side (R59–R61), and the taking of a command mailbox (R52–R54, R472). -/

namespace Sys2Proof.Machine

/-! ### Front registers -/

/-- Tickets in state FREE (R41 FREE_TICKETS). -/
def State.freeTickets (s : State) : Nat :=
  ((List.range 128).filter (fun t => (s.ticket t).state == .free)).length

/-- MODE_WORD (R41). -/
def modeWord (p : Power) : Nat :=
  p.mode.code + 16 * p.previous.code + b1 p.moving.isSome 7 + p.changes % 65536 * 65536

/-- ID_STEWARD: the release of the image that runs (R41, R449). -/
def State.idSteward (s : State) : Nat := (tget s.safe.images s.safe.runs).release

/-- ID_PART (R41). -/
def State.idPart (s : State) : Nat :=
  0x7240 * 65536 + 0xE * 4096 + Config.dieRevision.toNat * 16 + s.host.fixRev.toNat

/-- FRONT_STATUS (R41). -/
def State.frontStatus (s : State) (laneUp : Bool) : Nat :=
  b1 s.host.collide + b1 s.host.wrIgnored 1 + b1 s.host.spiErr 2 + b1 s.host.badFrame 3 + s.host.badFrameMb % 16 * 16
    + b1 s.t1Up 8 + b1 laneUp 9

/-- The value of the front register at an offset (R41); offsets not listed read zero. -/
def frontRead (s : State) (off : Nat) : Nat :=
  match off with
  | 0x00 => s.idPart
  | 0x04 => s.idSteward
  | 0x08 => s.host.idFixer.toNat
  | 0x0C => Config.serial.toNat % 2 ^ 32
  | 0x10 => Config.serial.toNat / 2 ^ 32
  | 0x20 => s.host.cmdOwner.toNat
  | 0x24 => s.host.cmdOwner.toNat
  | 0x28 => s.host.rspReady.toNat
  | 0x2C => s.host.evtHead
  | 0x30 => s.host.evtTail
  | 0x34 => s.host.evtLost
  | 0x40 => s.host.intStatus.toNat
  | 0x44 => s.host.intEnable.toNat
  | 0x48 => s.frontStatus s.lane.up
  | 0x50 => s.now / 2 ^ 32
  | 0x54 => s.now % 2 ^ 32
  | 0x58 => modeWord s.power
  | 0x5C => s.freeTickets
  | _ => 0

/-- HOST_IRQ_N is asserted (R62). -/
def HostLink.irq (h : HostLink) : Bool := h.intStatus &&& h.intEnable != 0

/-- CMD_DOORBELL: each mailbox whose bit is newly set is handed to the Steward, lowest index first (R41, R46). -/
def HostLink.ring (h : HostLink) (v : BitVec 32) : HostLink :=
  let fresh := (List.range 16).filter (fun i => v.getLsbD i && !h.cmdOwner.getLsbD i)
  { h with doorbell := h.doorbell ++ fresh, cmdOwner := h.cmdOwner ||| v.setWidth 16 }

/-- A wake of PD3 CORE begins, unless one is running or PD3 CORE is at L0 (R121, R126). -/
def beginWake (excused : Bool) (s : State) : State :=
  if s.eave.depth ≠ 0 ∧ s.eave.waking = none ∧ s.stew.running = true then
    s.modEave (fun e => { e with waking := some { depth := e.depth, since := s.now, excused } })
  else s

/-- The listed domains, as far as they are permitted, are to come on for work of the device's own, and PD3 CORE to wake for
them (R28, R124, R126). -/
def power (ds : List Nat) (s : State) : State := beginWake true (requestAll (ds.filter s.allows) s)

/-- The host has released one fragment of a ticket; with its last fragment released the ticket becomes FREE and its pool
units are freed (R47, R53, R472). -/
def releaseFragment (tk frag : Nat) (s : State) : State :=
  match s.work tk with
  | some w =>
    let w2 := { w with released := if w.released.contains frag then w.released else frag :: w.released }
    if (s.ticket tk).state = .completed ∧ w2.posted = w2.frags.length ∧ w2.released.length = w2.frags.length then
      (s.modTicket tk (fun _ => {})).modStew (fun st => { st with works := tmod st.works tk (fun _ => none) })
    else s.modWork tk (fun _ => w2)
  | none => s

/-- Response mailbox `n` returns to the Steward (R47). -/
def releaseMailbox (n : Nat) (s : State) : State :=
  if s.host.rspReady.getLsbD n then
    let s1 := s.modHost (fun h => { h with rspReady := h.rspReady &&& ~~~(BitVec.twoPow 16 n) })
    let s2 := s1.modStew (fun w => { w with rmb := tmod w.rmb n (fun _ => none) })
    match tget s.stew.rmb n with
    | some (.frag t f) => releaseFragment t f s2
    | _ => s2
  else s

/-- RSP_READY: write-one-to-clear; clearing a bit that is 0 has no effect (R41, R47). -/
def releaseAll (v : BitVec 32) (s : State) : State :=
  ((List.range 16).filter (fun n => v.getLsbD n)).foldl (fun st n => releaseMailbox n st) s

/-- The loss record goes to the head of the ring and into the log, and EVT_LOST returns to zero (R60). -/
def writeLoss (s : State) : State :=
  if s.host.evtLost = 0 then s
  else
    let q := tget s.ev.seqs 1
    let r : EvRec := { stamp := s.now, tag := tagOf s.quality 1 q, code := 0x0101, ticket := 0xFF,
                       data := leBytes 4 s.host.evtLost ++ leBytes 8 s.host.firstLost }
    let s1 := s.modEv (fun e => { e with seqs := tmod e.seqs 1 (fun n => wrapAdd 16 n 1) })
    let s2 := s1.modHost (fun h => { h with evtLost := 0, firstLost := 0 }.ringWrite s.now (s.nat 1 6) r)
    s2.modSafe (fun f => f.log s.now r)

/-- EVT_TAIL: an index from its present value up to EVT_HEAD frees the records before it and lets a loss record in; any
other value is ignored and sets SPI_ERR (R59, R60). -/
def moveTail (v : BitVec 32) (s : State) : State :=
  let k := (v.toNat % 512 + 512 - s.host.evtTail) % 512
  if k ≤ s.host.unread then
    let s1 := s.modHost (fun h => { h with evtTail := v.toNat % 512, ringSince := h.ringSince.drop k })
    if s1.host.unread < 511 then writeLoss s1 else s1
  else frontErr s (fun h => { h with spiErr := true })

/-- A 32-bit write to the front register at an offset (R9, R41): read-only and unlisted offsets ignore it. -/
def frontWrite (off : Nat) (v : BitVec 32) (s : State) : State :=
  match off with
  | 0x20 => beginWake false (s.modHost (fun h => h.ring v))
  | 0x28 => releaseAll v s
  | 0x30 => moveTail v s
  | 0x40 => s.modHost (fun h => { h with intStatus := h.intStatus &&& ~~~v })
  | 0x44 => s.modHost (fun h => { h with intEnable := v &&& 0x7F })
  | 0x48 => s.modHost (fun h => { h with
      collide := h.collide && !v.getLsbD 0, wrIgnored := h.wrIgnored && !v.getLsbD 1,
      spiErr := h.spiErr && !v.getLsbD 2, badFrame := h.badFrame && !v.getLsbD 3 })
  | _ => s

/-! ### SPI transactions -/

/-- The status byte of READ_STATUS (R39). -/
def statusByte (s : State) : Byte :=
  BitVec.ofNat 8 (b1 s.isReady 7 + b1 s.host.irq 6 + b1 (s.host.intStatus.getLsbD 4) 5)

/-- A HOST_CS_N falling edge while PD3 CORE is off requests a wake, after which HOST.HOLD runs from READY (R39, R40). -/
def csFall (s : State) : State :=
  if s.isReady then s
  else (beginWake false s).modHost (fun h => { h with holdOnReady := true })

/-- HOST.HOLD restarts when an SPI transaction ends with READY at 1; PD3 CORE stays at L1 or shallower from then on, so a
deeper depth is left (R40, R126). -/
def spiEnd (s : State) : State :=
  if s.isReady then
    let s1 := s.modHost (fun h => { h with holdUntil := some (s.now + lsbOfMs (s.nat 1 8)) })
    if 2 ≤ s.eave.depth then beginWake false s1 else s1
  else s

/-- SPI_ERR (R36–R38). -/
def spiError (s : State) : State := frontErr s (fun h => { h with spiErr := true })

/-- Start and end of the region an address lies in: the DP window or the front registers (R37). -/
def regionEnd (a : Nat) : Option Nat :=
  if a < 0x10000 then some 0x10000 else if 0x10000 ≤ a ∧ a < 0x10100 then some 0x10100 else none

/-- One byte of the address space as the host reads it (R37, R41, R43). -/
def hostByte (s : State) (a : Nat) : Byte :=
  if a < 0xE400 then Memory.read s.host.window a
  else if 0x10000 ≤ a ∧ a < 0x10100 then BitVec.ofNat 8 (frontRead s ((a - 0x10000) / 4 * 4) / 2 ^ (8 * (a % 4)))
  else 0

/-- READ and QUAD_READ (R37, R38): bytes from the address on, zero beyond the end of the region. -/
def spiRead (addr n : Nat) (s : State) : State :=
  if s.isReady then
    spiEnd (if addr % 4 ≠ 0 then (spiError s).modHost (fun h => { h with spiOut := [] })
      else match regionEnd addr with
      | none => (spiError s).modHost (fun h => { h with spiOut := zeros n })
      | some e =>
        let out := (upFrom addr n).map (fun a => if a < e then hostByte s a else 0)
        let s1 := s.modHost (fun h => { h with spiOut := out })
        if addr + n ≤ e then s1 else spiError s1)
  else (csFall s).modHost (fun h => { h with spiOut := [] })

/-- What the host may write in the DP window (R45): none means the write is flagged, some false that it is ignored. -/
def mayWrite (h : HostLink) (a : Nat) : Option Bool :=
  if a < 0x400 then none
  else if a < 0x4400 then (if h.cmdOwner.getLsbD ((a - 0x400) / 0x400) then none else some true)
  else if a < 0x8400 then (if h.rspReady.getLsbD ((a - 0x4400) / 0x400) then some true else none)
  else if a < 0xC400 then none
  else if a < 0xE400 then some true
  else some false

/-- A word write of the host meets Steward-port writes of the same cycle, lane by lane (R429). -/
def collideWord (other : List (Nat × Byte)) (a : Nat) (w : Bytes) (h : HostLink) : HostLink :=
  let lanes := other.filter (fun o => decide (a ≤ o.1) && decide (o.1 < a + 4))
  let win := lanes.foldl (fun m o => Memory.write m o.1 o.2) (Memory.writeBytes h.window a w)
  if lanes.any (fun o => w.getD (o.1 - a) 0 != o.2) then h.flag { h with window := win, collide := true }
  else { h with window := win }

/-- One whole word from the host (R38, R41, R45, R429). -/
def hostWord (other : List (Nat × Byte)) (a : Nat) (w : Bytes) (s : State) : State :=
  if a < 0x10000 then
    match mayWrite s.host a with
    | none => frontErr s (fun h => { h with wrIgnored := true })
    | some false => s
    | some true =>
      if 0xC400 ≤ a then s.modHost (collideWord other a w)
      else s.modHost (fun h => { h with window := Memory.writeBytes h.window a w })
  else frontWrite (a - 0x10000) (BitVec.ofNat 32 (leNat w)) s

/-- The words of a write, in order, up to the end of the region; a last part of a word is discarded (R38). -/
def hostWords (other : List (Nat × Byte)) (e : Nat) : Nat → Nat → Bytes → State → State
  | 0, _, _, s => s
  | fuel + 1, a, d, s =>
    if d.length < 4 ∨ e ≤ a then s
    else hostWords other e fuel (a + 4) (d.drop 4) (hostWord other a (d.take 4) s)

/-- WRITE and QUAD_WRITE (R37, R38). -/
def spiWrite (addr : Nat) (d : Bytes) (other : List (Nat × Byte)) (s : State) : State :=
  if s.isReady then
    spiEnd (if addr % 4 ≠ 0 then spiError s
      else match regionEnd addr with
      | none => spiError s
      | some e =>
        let s1 := hostWords other e (d.length / 4 + 1) addr d s
        if addr + d.length ≤ e then s1 else spiError s1)
  else csFall s

/-- READ_STATUS (R39): answered in every power state. -/
def execReadStatus (s : State) : Out :=
  .next (spiEnd ((csFall s).modHost (fun h => { h with spiOut := [statusByte s] })))

/-- READ (R36–R38). -/
def execRead (addr : BitVec 24) (n : Nat) (s : State) : Out := .next (spiRead addr.toNat n s)
/-- QUAD_READ (R36–R38). -/
def execQuadRead (addr : BitVec 24) (n : Nat) (s : State) : Out := .next (spiRead addr.toNat n s)
/-- WRITE (R36–R38, R429). -/
def execWrite (addr : BitVec 24) (data : Bytes) (other : List (Nat × Byte)) (s : State) : Out :=
  .next (spiWrite addr.toNat data other s)
/-- QUAD_WRITE (R36–R38, R429). -/
def execQuadWrite (addr : BitVec 24) (data : Bytes) (other : List (Nat × Byte)) (s : State) : Out :=
  .next (spiWrite addr.toNat data other s)

/-- The SPI instructions (R36): the instruction byte and the command it stands for, given the address, how many bytes the
host clocks out of the device, what it clocks in, and the Steward-port writes that meet it (R429). -/
def spiTable : List (Byte × (BitVec 24 → Nat → Bytes → List (Nat × Byte) → Instr)) :=
  [(0x05, fun _ _ _ _ => .readStatus), (0x0B, fun a n _ _ => .read a n), (0x02, fun a _ d o => .write a d o),
   (0xEB, fun a n _ _ => .quadRead a n), (0x38, fun a _ d o => .quadWrite a d o)]

/-- The instruction bytes of R36. -/
def spiInstructions : List Byte := spiTable.map (·.1)

/-- The command that an SPI transaction with this instruction byte is (R35, R36). -/
def spiCommand (op : Byte) (a : BitVec 24) (n : Nat) (d : Bytes) (other : List (Nat × Byte)) : Instr :=
  match assoc spiTable op with
  | some f => f a n d other
  | none => .invalidInstruction op

/-- An instruction outside the table ends the transaction without effect and sets SPI_ERR (R36). -/
def execInvalidInstruction (op : Byte) (s : State) : Out :=
  .next (if s.isReady then spiEnd (if spiInstructions.contains op then s else spiError s) else csFall s)

/-- HOST_CS_N falls while PD3 CORE is off (R39, R123). -/
def execHostCsNWake (s : State) : Out := .next (csFall s)

/-- A single-word write transaction to a front register: it has its effect while READY is 1 (R39, R41). -/
def registerWrite (off : Nat) (v : BitVec 32) (s : State) : State :=
  if s.isReady then spiEnd (frontWrite off v s) else csFall s

/-- CMD_DOORBELL (R41, R46). -/
def execCmdDoorbell (v : BitVec 32) (s : State) : Out := .next (registerWrite 0x20 v s)
/-- RSP_READY (R41, R47). -/
def execRspReady (v : BitVec 32) (s : State) : Out := .next (registerWrite 0x28 v s)
/-- EVT_TAIL (R59, R60). -/
def execEvtTail (v : BitVec 32) (s : State) : Out := .next (registerWrite 0x30 v s)
/-- INT_STATUS (R41, R62). -/
def execIntStatus (v : BitVec 32) (s : State) : Out := .next (registerWrite 0x40 v s)
/-- FRONT_STATUS (R41). -/
def execFrontStatus (v : BitVec 32) (s : State) : Out := .next (registerWrite 0x48 v s)
/-- A front register without behaviour of its own, or a read-only one (R9, R41). -/
def execFrontRegisterWrite (off : Byte) (v : BitVec 32) (s : State) : Out := .next (registerWrite off.toNat v s)

/-! ### Timers of the host link -/

/-- HOST.HOLD runs out (R40). -/
def execHostHoldExpire (s : State) : Out :=
  .next (match s.host.holdUntil with
    | some d => atDue d s (fun t => t.modHost (fun h => { h with holdUntil := none }))
    | none => s)

/-- The oldest unread record has been in the ring for HOST.EVT_IRQ_DELAY (R61). -/
def execEvtIrqDelayExpire (s : State) : Out :=
  .next (match s.host.ringSince with
    | t0 :: _ =>
      if s.nat 1 7 = 0 then s
      else atDue (t0 + lsbOfMs (s.nat 1 7)) s (fun t => t.modHost (fun h => h.raise irqEvt))
    | [] => s)

/-- HEARTBEAT rises every 1 ms while the Steward runs at L0 or L1 (R44). -/
def execHeartbeat (s : State) : Out :=
  .next (if s.stew.running = true ∧ s.eave.depth ≤ 1 then
      atDue s.host.beatAt s (fun t => t.modHost (fun h => { h with
        window := Memory.writeBytes h.window 4 (leBytes 4 (wrapAdd 32 (leNat (Memory.readBytes h.window 4 4)) 1))
        heartbeatSeen := true
        beatAt := t.now + lsbOfMs 1 }))
    else s)

/-! ### Taking a command -/

/-- A command header and payload as written in a mailbox or carried by a host frame (R48). -/
structure Frame where
  /-- All bytes up to 15 + LENGTH. -/
  bytes : Bytes
  deriving DecidableEq, Repr

/-- OPCODE. -/
def Frame.opcode (f : Frame) : Nat := u16At f.bytes 0
/-- The byte that holds TICKET and its reserved bit. -/
def Frame.ticketByte (f : Frame) : Nat := u8At f.bytes 2
/-- TICKET[6:0]. -/
def Frame.ticket (f : Frame) : Nat := f.ticketByte % 128
/-- FLAGS. -/
def Frame.flags (f : Frame) : Nat := u8At f.bytes 3
/-- NODE. -/
def Frame.node (f : Frame) : Nat := u16At f.bytes 4
/-- SESSION with its reserved bits. -/
def Frame.session (f : Frame) : Nat := u8At f.bytes 6
/-- LENGTH. -/
def Frame.length (f : Frame) : Nat := u16At f.bytes 8
/-- CRC. -/
def Frame.crc (f : Frame) : Nat := u16At f.bytes 10
/-- DEADLINE. -/
def Frame.deadline (f : Frame) : Nat := u32At f.bytes 12
/-- PAYLOAD. -/
def Frame.payload (f : Frame) : Bytes := slice f.bytes 16 f.length

/-- The request a frame spells. -/
def Frame.req (f : Frame) : Req :=
  { opcode := f.opcode, stage := f.flags % 2 == 1, node := f.node, session := f.session % 4, deadline := f.deadline,
    payload := f.payload }

/-- Bytes that a CRC-16 field at offset 10 covers, with the field counted as zero (R50). -/
def crcBody (b : Bytes) : Bytes := b.take 10 ++ zeros 2 ++ b.drop 12

/-- The frame passes R52's first check: LENGTH and CRC. -/
def Frame.sound (f : Frame) : Bool :=
  decide (f.length ≤ 1008) && crc16 (crcBody (f.bytes.take (16 + f.length))) == f.crc

/-- R52's third check: a reserved bit or field, STAGE where the opcode does not stage or missing where it must, or a
DEADLINE on an opcode without one. -/
def Frame.malformed (f : Frame) : Bool :=
  decide (128 ≤ f.ticketByte) || decide (2 ≤ f.flags) || decide (4 ≤ f.session) || u8At f.bytes 7 != 0 ||
    (f.flags % 2 == 0 && f.session % 4 != 0) ||
    (match opRow f.opcode with
     | some r => reservedSet r f.payload || (f.flags % 2 == 1) != r.stage || (r.deadline.isNone && f.deadline != 0)
     | none => false)

/-- DEADLINE lies in the opcode's range, or selects its default (R48). -/
def deadlineOk (r : OpRow) (d : Nat) : Bool :=
  match r.deadline with
  | some b => d == 0 || (decide (b.1 ≤ d) && decide (d ≤ b.2))
  | none => true

/-- The mode and domain check of R52: the opcode's modes, and for a command that does not stage every domain it needs
(R28, R117, R131). NODE.PROBE powers no domain (R79). -/
def modeAllows (r : OpRow) (s : State) : Bool :=
  r.modes.testBit s.power.mode.code && (r.stage || (withNeeds r.needs).all s.allows)

/-- A CIPHER.KEY_LOAD with FORMAT 0 or KEK slot 0 is permitted in WORKSHOP only (R350, R368). -/
def formAllows (f : Frame) (s : State) : Bool :=
  f.opcode != 0x0B03 || s.power.mode == .workshop || (u8At f.payload 0 != 0 && u8At f.payload 1 != 0)

/-- The checks of R52 after the ticket check, in order: the status of the first that fails. -/
def judge (f : Frame) (s : State) : Option Nat :=
  if f.malformed then some St.badArg else
  match opRow f.opcode with
  | none => some St.badArg
  | some r =>
    if !nodeOk s.conf.courses r.node f.node then some St.badNode
    else if !(modeAllows r s && formAllows f s) then some St.deniedMode
    else if !(deadlineOk r f.deadline && payloadOk f.opcode f.payload) then some St.badArg
    else none

/-- Pool units a request takes (R472). -/
def unitsOf (len : Nat) : Nat := (16 + len + 63) / 64

/-- The lowest run of `k` free contiguous units of REQUEST_POOL (R472, first fit). -/
def poolFit (h : Sheet) (k : Nat) : Option Nat :=
  (List.range (317 - k)).find? (fun u => (List.range 128).all (fun t =>
    let e := tget h.tickets t
    e.reqUnits == 0 || decide (e.reqUnit + e.reqUnits ≤ u) || decide (u + k ≤ e.reqUnit)))

/-- The acceptance entry of a command (R54, R472). -/
def acceptEntry (s : State) (f : Frame) (t1 : Bool) (cls : ReplayClass) : TicketEntry :=
  let k := unitsOf f.length
  let fit := if cls = .a then poolFit s.sheet k else none
  { state := .accepted, t1, opcode := f.opcode, cls, acceptStamp := s.now,
    requestKept := fit.isSome, reqUnit := fit.getD 0xFFFF, reqUnits := if fit.isSome then k else 0,
    request := if fit.isSome then some f.req else none }

/-- The Steward's working state of a command just accepted (R57, R72). -/
def acceptWork (s : State) (f : Frame) (t1 : Bool) : Work :=
  { req := f.req, order := s.stew.nextOrder, accept := s.now, t1,
    walk := (match opRow f.opcode with
      | some r => (match r.node with
        | .zero => []
        | _ => if f.opcode = 0x0111 then [{ node := f.node, kind := 0 }] else walkOf s.conf.courses f.node)
      | none => []),
    needs := (match opRow f.opcode with
      | some r => withNeeds r.needs
      | none => []) }

/-- A command whose ticket is FREE is accepted: its entry is journalled, and it is completed at once where a check fails;
otherwise the domains it needs are requested and it waits to start (R28, R52, R54). -/
def accept (f : Frame) (t1 : Bool) (s : State) : State :=
  let cls := match opRow f.opcode with
    | some r => r.cls
    | none => .a
  let s1 := (s.modTicket f.ticket (fun _ => acceptEntry s f t1 cls)).modStew (fun w => { w with
    works := tmod w.works f.ticket (fun _ => some (acceptWork s f t1)), nextOrder := w.nextOrder + 1 })
  match judge f s with
  | some st => complete f.ticket st [] s1
  | none => if f.flags % 2 = 1 then s1 else requestAll (acceptWork s f t1).needs s1

/-- A second use of a ticket in flight: a NO_TICKET response with DUPLICATE, on the path it came by (R52). -/
def duplicate (f : Frame) (t1 : Bool) (s : State) : State :=
  s.modStew (fun w => { w with postQ := w.postQ ++
    [.dup { opcode := f.opcode, ticket := f.ticket, node := f.node, stamp := s.now, t1 }] })

/-- The command frame in mailbox `n` (R43, R48). -/
def mailboxFrame (s : State) (n : Nat) : Frame :=
  let head := Memory.readBytes s.host.window (0x400 + n * 0x400) 16
  let len := u16At head 8
  ⟨Memory.readBytes s.host.window (0x400 + n * 0x400) (16 + (if len ≤ 1008 then len else 0))⟩

/-- Mailbox `n` returns to the host, with CMD_FREE (R46). -/
def returnMailbox (n : Nat) (s : State) : State :=
  s.modHost (fun h => { h with cmdOwner := h.cmdOwner &&& ~~~(BitVec.twoPow 16 n), doorbell := h.doorbell.drop 1 }.raise
    irqCmdFree)

/-- The Steward takes the mailbox that was doorbelled first (R46, R52–R54). -/
def takeMailbox (n : Nat) (s : State) : State :=
  let f := mailboxFrame s n
  returnMailbox n
    (if !f.sound then frontErr s (fun h => { h with badFrame := true, badFrameMb := n })
     else if (s.ticket f.ticket).state ≠ .free then duplicate f false s
     else accept f false s)

/-- MAILBOX_TAKE (R46, R52): at L0, while the Steward runs. -/
def execMailboxTake (s : State) : Out :=
  .next (match s.host.doorbell with
    | n :: _ => if s.stew.running = true ∧ s.eave.depth = 0 then takeMailbox n s else s
    | [] => s)

end Sys2Proof.Machine
end

