-- ==== Sys2Proof/Machine/Grain.lean ====
section
/-! DEFINITION. Grain (13_grain_rng.md): the conditioner, the queue and its consumers, GRAIN.STATUS and GRAIN.READ. What a
word, a failure or a run does to other engines stands in GrainEvents. -/

namespace Sys2Proof.Machine

/-- One raw bit shifted into the conditioner, XORed into the feedback of x¹²⁸ + x⁷ + x² + x + 1 (R373). -/
def lfsrStep (s : Nat) (b : Bool) : Nat :=
  ((s * 2) % 2 ^ 128) ^^^ (if s.testBit 127 != b then 0x87 else 0)

/-- The conditioner after 512 raw bits, bit 0 of the first sample of source 0 first (R373). -/
def lfsrRun (s : Nat) (raw : BitVec 512) : Nat := (List.range 512).foldl (fun x i => lfsrStep x (raw.getLsbD i)) s

/-! ### The continuous tests (R374) -/

/-- Cutoff of the repetition count test. -/
abbrev rctCutoff : Nat := 41
/-- Cutoff of the adaptive proportion test. -/
abbrev aptCutoff : Nat := 793
/-- Window of the adaptive proportion test. -/
abbrev aptWindow : Nat := 1024

/-- One raw bit runs through both tests of its source. -/
def Monitor.step (m : Monitor) (b : Bool) : Monitor :=
  { last := b
    run := if m.run ≠ 0 ∧ m.last = b then m.run + 1 else 1
    first := if m.seen = 0 then b else m.first
    seen := (m.seen + 1) % aptWindow
    hits := if m.seen = 0 then 1 else if b = m.first then m.hits + 1 else m.hits }

/-- The test that has failed, with the run length or count reached. -/
def Monitor.failed (m : Monitor) : Option (Nat × Nat) :=
  if rctCutoff ≤ m.run then some (0, m.run) else if aptCutoff ≤ m.hits then some (1, m.hits) else none

/-- The raw bits of a word run through the tests, in the order of R373, up to the first failure: its source, test and
count. -/
def runMonitors (raw : BitVec 512) : List Nat → Vector Monitor 4 → Vector Monitor 4 × Option (Nat × Nat × Nat)
  | [], ms => (ms, none)
  | i :: is, ms =>
    let m := (tget ms (i % 4)).step (raw.getLsbD i)
    match m.failed with
    | some f => (tmod ms (i % 4) (fun _ => m), some (i % 4, f))
    | none => runMonitors raw is (tmod ms (i % 4) (fun _ => m))

/-- What the bits of one word do to the tests of the sources. -/
def Grain.test (g : Grain) (raw : BitVec 512) : Vector Monitor 4 × Option (Nat × Nat × Nat) :=
  runMonitors raw (List.range 512) g.monitors

/-! ### Words -/

/-- Stamp at which the next conditioned word is complete: one each 62.5 µs (R373). -/
def Grain.wordDue (g : Grain) : Nat := g.since + ((g.made + 1) * 625 * 2 ^ 30 + 9999999) / 10000000

/-- 2²⁰ cycles of the system clock in epoch units, between two reseeds (R376). -/
abbrev reseedLsb : Nat := (2 ^ 50 + 383999999) / 384000000

/-- The generator is seeded and a reseed is due at a stamp (R376). -/
def Grain.reseedDue (g : Grain) (now : Nat) : Bool := g.seeds.length == 2 && decide (g.seededAt + reseedLsb ≤ now)

/-- A conditioned word as 16 bytes, most significant first. -/
def lfsrWord (s : Nat) : Bytes := beBytes 16 s

/-- The queue may deliver: the start-up test has passed (R375, R378). -/
def Grain.ready (g : Grain) : Bool := g.state == .ready

/-- The countermeasure stream is seeded (R376). -/
def Grain.seeded (g : Grain) : Bool := g.state == .ready && g.seeds.length == 2

/-- Queue requests of internal consumers take the free bytes, in the order of R378. -/
def serveReqs : Bytes → List QueueReq → Bytes × List QueueReq
  | q, [] => (q, [])
  | q, r :: rs =>
    let k := min q.length (r.len - r.got.length)
    let rest := serveReqs (q.drop k) rs
    (rest.1, { r with got := r.got ++ q.take k } :: rest.2)

/-- Requests in the order of consumers, and in request order within each (R378). -/
def sortReqs (l : List QueueReq) : List QueueReq := l.mergeSort (fun a b => decide (a.consumer ≤ b.consumer))

/-- The internal consumers are served; the requests that are complete leave the waiting list. -/
def Grain.serve (g : Grain) : Grain × List QueueReq :=
  let a := serveReqs g.queue (sortReqs g.reqs)
  let done := a.2.filter (fun r => r.got.length == r.len)
  ({ g with queue := a.1, reqs := a.2.filter (fun r => r.got.length != r.len),
            bytesOut := wrapAdd 32 g.bytesOut (done.map (·.len)).sum }, done)

/-- What an internal consumer's request finds (R378, R380–R382). -/
inductive Ask where
  /-- The bytes, at once. -/
  | got (b : Bytes)
  /-- It fails at once. -/
  | failed
  /-- It waits. -/
  | waits
  deriving DecidableEq, Repr

/-- An internal consumer asks for `len` bytes (R378). -/
def askQueue (consumer len : Nat) (s : State) : State × Ask :=
  let g := s.grain
  if g.state = .latched ∨ g.state = .raw ∨ g.state = .off then (s, .failed)
  else if g.state = .ready ∧ g.reqs = [] ∧ len ≤ g.queue.length then
    (s.modGrain (fun g => { g with queue := g.queue.drop len, bytesOut := wrapAdd 32 g.bytesOut len }),
      .got (g.queue.take len))
  else
    (s.modGrain (fun g => (Grain.serve { g with reqs := g.reqs ++ [{ consumer, len, since := s.now }] }).1), .waits)

/-- GRAIN.READ tickets that wait, in order of acceptance. -/
def State.grainReads (s : State) : List (Nat × Work) :=
  ((List.range 128).filterMap (fun t => match s.work t with
    | some w => if w.req.opcode = 0x0C02 ∧ ((s.ticket t).state = .accepted ∨ (s.ticket t).state = .running) then some (t, w)
      else none
    | none => none)).mergeSort (fun a b => decide (a.2.order ≤ b.2.order))

/-- Response of GRAIN.READ: LENGTH is 0 unless OK (R385). -/
def grainReply (b : Bytes) : Bytes := leBytes 2 b.length ++ zeros 2 ++ pad4 b

/-- A GRAIN.READ ends without delivering; the bytes it held are zeroed (R378). -/
def endRead (st tk : Nat) (s : State) : State :=
  complete tk st (grainReply []) (s.modWork tk (fun w => { w with buf := [] }))

/-- The GRAIN.READs that run take the bytes above GRAIN.HOST_RESERVE: the one accepted first until it completes, then the
next (R378). -/
def serveReads : List (Nat × Work) → State → State
  | [], s => s
  | (t, w) :: rest, s =>
    if (s.ticket t).state ≠ .running then s
    else
      let free := s.grain.queue.length - s.nat 12 0
      let k := min free (u16At w.req.payload 0 - w.buf.length)
      let b := w.buf ++ s.grain.queue.take k
      let s1 := s.modGrain (fun g => { g with queue := g.queue.drop k })
      if b.length = u16At w.req.payload 0 then
        serveReads rest (complete t St.ok (grainReply b)
          (s1.modGrain (fun g => { g with bytesOut := wrapAdd 32 g.bytesOut b.length })))
      else s1.modWork t (fun w => { w with buf := b })

/-- Host reads are served from the queue while no internal request waits (R378). -/
def serveHost (s : State) : State :=
  if s.grain.state = .ready ∧ s.grain.reqs = [] then serveReads s.grainReads s else s

/-- GRAIN.READ (R378, R384, R385). -/
def execGrainRead (tk : Fin 128) (s : State) : Out :=
  .next (command tk.val 0x0C02 (fun _ s =>
    if s.grain.state = .latched then endRead St.grainOff tk.val s
    else if s.grain.state = .raw then endRead St.grainTestMode tk.val s
    else serveHost (start tk.val s)) s)

/-- The deadline of a GRAIN.READ, µs (R384). -/
def readDeadline (d : Nat) : Nat := if d = 0 then 100000 else d

/-- GRAIN_READ_DEADLINE: TIMEOUT, and the bytes it held are zeroed (R378, R383). -/
def execGrainReadDeadline (tk : Fin 128) (s : State) : Out :=
  .next (match s.work tk.val with
    | some w =>
      if w.req.opcode = 0x0C02 ∧ ((s.ticket tk.val).state = .accepted ∨ (s.ticket tk.val).state = .running) then
        atDue (w.accept + lsbOfUs (readDeadline w.req.deadline)) s (endRead St.timeout tk.val)
      else s
    | none => s)

/-- Code of STATE (R385). -/
def GrainState.code : GrainState → Nat
  | .off => 0 | .startup => 1 | .ready => 2 | .raw => 3 | .latched => 4

/-- Health failures of the last 24 h (R381). -/
def recentFails (now : Nat) (l : List Nat) : List Nat := l.filter (fun t => decide (now < t + lsbOfS 86400))

/-- Response of GRAIN.STATUS (R385). -/
def grainStatusData (s : State) : Bytes :=
  let g := s.grain
  leBytes 1 g.state.code ++ leBytes 1 (b1 g.seeded + b1 g.reserve.isSome 1)
    ++ leBytes 1 (recentFails s.now g.fails).length ++ zeros 1 ++ leBytes 2 g.queue.length
    ++ leBytes 2 s.grainReads.length ++ leBytes 8 g.lastFail ++ leBytes 4 g.failures ++ leBytes 4 g.startups
    ++ leBytes 4 g.bytesOut ++ zeros 4

/-- GRAIN.STATUS (R385). -/
def execGrainStatus (tk : Fin 128) (s : State) : Out :=
  .next (command tk.val 0x0C01 (fun _ s => complete tk.val St.ok (grainStatusData s) s) s)

end Sys2Proof.Machine
end

