-- ==== Sys2Proof/Machine/Modes.lean ====
section
/-! DEFINITION. Triggers and the start of a mode transition (R115–R120): which mode a trigger leads to, which trigger goes
first, and what happens at the moment of a trigger. -/

namespace Sys2Proof.Machine

/-- The mode that TARGET of a POWER.MODE_REQUEST names, when R115 holds a transition to it. -/
def requestTarget (m : Mode) (t : Nat) : Option Mode :=
  match m, Mode.ofCode t with
  | .stowed, .parked => some .parked
  | .stowed, .workshop => some .workshop
  | .parked, .stowed => some .stowed
  | .parked, .workshop => some .workshop
  | .watch, .stowed => some .stowed
  | .watch, .parked => some .parked
  | .watch, .workshop => some .workshop
  | .cab, .workshop => some .workshop
  | .workshop, .stowed => some .stowed
  | .workshop, .parked => some .parked
  | _, _ => none

/-- The mode entered from HOLDOVER (R120). -/
def exitMode (stored : Option Mode) (ign : Bool) : Mode :=
  match stored with
  | none => .stowed
  | some .stowed => .stowed
  | some .parked => .parked
  | _ => if ign then .approach else .watch

/-- Where a trigger leads from the present mode; none where it does not apply (R115). -/
def trigTarget (c : Nat) (s : State) : Option Mode :=
  match c, s.power.mode with
  | 0, m => match s.power.modeTicket with
    | some tk => match s.work tk with
      | some w => requestTarget m (u8At w.req.payload 0)
      | none => none
    | none => none
  | 1, .parked => some .approach
  | 1, .watch => some .approach
  | 2, .parked => some .approach
  | 2, .watch => some .approach
  | 3, .cab => some (if s.nat 4 0 = 0 then .parked else .watch)
  | 4, .approach => some .cab
  | 5, .cab => some .drive
  | 6, .drive => some .cab
  | 7, .watch => some .parked
  | 8, .approach => some (if s.power.fromParked then .parked else .watch)
  | 9, .workshop => some (if s.power.ign then .approach else .watch)
  | 10, .holdover => none
  | 10, _ => some .holdover
  | 11, .holdover => none
  | 11, _ => some .holdover
  | 12, .holdover => some (exitMode s.sheet.lastMode s.power.ign)
  | 13, .drive => some .cab
  | _, _ => none

/-- Priority of a trigger, lower first (R119). -/
def trigRank : Nat → Nat
  | 10 => 1 | 11 => 1 | 14 => 1 | 9 => 2 | 6 => 3 | 13 => 3 | 7 => 5 | 0 => 6 | 12 => 0 | _ => 4

/-- Domains permitted in the old mode and not in the new one (R118). -/
def withdrawn (old new : Mode) : List Nat := (List.range 10).filter (fun d => permit old d != .no && permit new d == .no)

/-- Tickets in flight, in order of acceptance. -/
def State.flight (s : State) : List (Nat × Work) :=
  ((List.range 128).filterMap (fun t => (s.work t).map (fun w => (t, w)))).mergeSort (fun a b => decide (a.2.order ≤ b.2.order))

/-- Commands in a state that need one of the domains, in order of acceptance. -/
def needing (st : TicketState) (ds : List Nat) (s : State) : List Nat :=
  (s.flight.filter (fun p => (s.ticket p.1).state == st && p.2.needs.any (fun d => ds.contains d))).map (·.1)

/-- A command that has not started completes with a status, and its place among the cable runs is given up (R118, R267). -/
def refuseWaiting (tk st : Nat) (s : State) : State :=
  complete tk st [] (s.modRange (fun r => { r with cables := r.cables.filter (fun c => c.ticket != tk) }))

/-- Commands not yet started that need a withdrawn domain complete with DENIED_MODE (R118). -/
def denyWaiting (ds : List Nat) (s : State) : State :=
  (needing .accepted ds s).foldl (fun t tk => refuseWaiting tk St.deniedMode t) s

/-- Commands that wait for a domain which the transition in progress withdraws are refused. The transition itself leaves them
until the cycle of its trigger is over, in which a higher trigger may take its place (R118, R119). -/
def denyWithdrawn (s : State) : State :=
  match s.power.moving with
  | some t => denyWaiting (withdrawn s.power.mode t.target) s
  | none => s

/-- A transition to `m` begins (R116): MODE_WORD [7] is set and the domains of the new mode are switched. -/
def beginTransition (c : Nat) (m : Mode) (s : State) : State :=
  beginWake false
    (requestAll ((List.range 10).filter (fun d => d ≠ 0 ∧ d ≠ 1 ∧ d ≠ 3 ∧ permit m d = .on))
      (s.modPower (fun p => { p with moving := some { target := m, trigger := c, since := s.now } })))

/-- A trigger waits for the transition in progress (R119). -/
def Power.await (p : Power) (c : Nat) : Power :=
  { p with waiting := if p.waiting.contains c then p.waiting else p.waiting ++ [c] }

/-- A trigger arises: it starts its transition, waits for the one in progress, or does not apply. One of higher priority than
that whose transition began in this cycle acts first, and the other waits for it (R115, R119). -/
def trigger (c : Nat) (s : State) : State :=
  match s.power.moving with
  | some t =>
    match (if t.since = s.now ∧ trigRank c < trigRank t.trigger then trigTarget c s else none) with
    | some m => beginTransition c m (s.modPower (fun p => p.await t.trigger))
    | none => s.modPower (fun p => p.await c)
  | none => match trigTarget c s with
    | some m => beginTransition c m s
    | none => s

/-- The waiting triggers in priority order, the earlier of equals first (R119). -/
def Power.inOrder (p : Power) : List Nat := p.waiting.mergeSort (fun a b => decide (trigRank a ≤ trigRank b))

/-- The workshop card is in a Fixer slot, as the last RESPONSE reported it over a lane that is up (R132, R289). -/
def State.shopCard (s : State) : Bool := s.lane.up && s.lane.cards.any (fun c => c.state == 2 && c.role == 2)

/-- The checks of POWER.MODE_REQUEST after MODE_BUSY and the current-mode test (R132): the status of the first that
fails. -/
def requestRefusal (t : Nat) (s : State) : Option Nat :=
  match requestTarget s.power.mode t with
  | none => some St.modeRefused
  | some m =>
    if m = .workshop ∧ s.power.strap = false then some St.modeNoStrap
    else if m = .workshop ∧ s.shopCard = false then some St.modeNoCard
    else none

/-- Response of POWER.MODE_REQUEST (R132). -/
def modeResult (result from_ stamp : Nat) : Bytes := leBytes 1 result ++ leBytes 1 from_ ++ zeros 6 ++ leBytes 8 stamp

/-- A request that the checks of POWER.MODE_REQUEST from the current-mode test on let start a transition (R132). -/
def requestStands (t : Nat) (s : State) : Bool := s.power.mode.code != t && (requestRefusal t s).isNone

/-- A request judged from the current-mode test on (R132, R504): it completes, or its transition starts. What the spec gives no
payload, a refusal, has an empty one (log entry 189). -/
def judgeRequest (tk : Nat) (s : State) : State :=
  match s.work tk with
  | some w =>
    let t := u8At w.req.payload 0
    let m := s.power.mode
    let s1 := s.modPower (fun p => { p with modeTicket := none })
    if m.code = t then complete tk St.ok (modeResult 1 t s.now) s1
    else match requestRefusal t s with
      | some st => complete tk st [] s1
      | none => trigger 0 ((s.modWork tk (fun w => { w with aux := [m.code] })).modPower
          (fun p => { p with modeTicket := some tk }))
  | none => s

/-- The POWER.MODE_REQUEST that waits for its transition, when the trigger is 0. -/
def waitingRequest (c : Nat) (s : State) : Option (Nat × Work) :=
  if c = 0 then s.power.modeTicket.bind (fun tk => (s.work tk).map (fun w => (tk, w))) else none

/-- A waiting trigger applies in the mode that holds; trigger 0 when its request passes its checks (R119, R504). -/
def trigApplies (c : Nat) (s : State) : Bool :=
  match waitingRequest c s with
  | some r => requestStands (u8At r.2.req.payload 0) s
  | none => (trigTarget c s).isSome

/-- A trigger that has waited acts; trigger 0 by judging its request again (R119, R504). -/
def actTrigger (c : Nat) (s : State) : State :=
  match waitingRequest c s with
  | some r => judgeRequest r.1 s
  | none => trigger c s

/-- Once a transition has completed, the waiting triggers are evaluated against the new mode: those that no longer apply
are dropped, a request with its status, and the first of the others starts its transition (R119, R504). -/
def nextTrigger (s : State) : State :=
  let l := s.power.inOrder.filter (fun c => trigApplies c s)
  let s1 := s.modPower (fun p => { p with waiting := l.drop 1 })
  let s2 := if s.power.waiting.contains 0 ∧ trigApplies 0 s = false then actTrigger 0 s1 else s1
  match l with
  | c :: _ => actTrigger c s2
  | [] => s2

end Sys2Proof.Machine
end

