-- ==== Sys2Proof/Machine/Page.lean ====
section
/-! DEFINITION. The pages and blocks of the V die: the header, the four BCH codewords and the spare area of a page (R408, R409);
the block map, spares and remap journal (R407, R414). -/

namespace Sys2Proof.Machine

/-! ### The code over GF(2¹⁴) -/

/-- Product of two field elements, from the top bit of the second down: 14 steps of double, reduce and add. The field
polynomial, degree 14, is `Config.bchField` (log entry 208). -/
def fieldMul (a b : Nat) : Nat → Nat
  | 0 => 0
  | k + 1 =>
    let d := 2 * fieldMul a (b / 2) k
    (if d.testBit 14 then d ^^^ Config.bchField else d) ^^^ (if b.testBit 0 then a else 0)

/-- Powers of a field element: `k` times the square of the one before. -/
def squares (a : Nat) : Nat → List Nat
  | 0 => []
  | k + 1 => a :: squares (fieldMul a a 14) k

/-- α to a power. -/
def alphaPow : Nat → Nat
  | 0 => 1
  | k + 1 => fieldMul (alphaPow k) 2 14

/-- A polynomial over the field, lowest coefficient first, times x + r. -/
def timesRoot (r : Nat) (p : List Nat) : List Nat :=
  List.zipWith (· ^^^ ·) (0 :: p) (p.map (fun c => fieldMul c r 14) ++ [0])

/-- Minimal polynomial of α^n: the product over its conjugates α^n, α^2n, …, α^(2¹³n). -/
def minimal (n : Nat) : List Nat := (squares (alphaPow n) 14).foldl (fun p r => timesRoot r p) [1]

/-- A product of binary polynomials, lowest coefficient first. -/
def binaryMul (p : List Nat) : List Nat → List Nat
  | [] => []
  | c :: q =>
    let rest := 0 :: binaryMul p q
    (List.range (max p.length rest.length)).map (fun i => (c * p.getD i 0 + rest.getD i 0) % 2)

/-- Generator of the code that corrects 24 bits: the minimal polynomials of α, α³, …, α⁴⁷, of degree 336 (R408). -/
def bchGenerator : List Nat := ((List.range 24).map (fun i => minimal (2 * i + 1))).foldl binaryMul [1]

/-- The 42 parity bytes of a codeword: its data times x³³⁶ modulo the generator, bit 7 of byte 0 first (R408; log
entry 208). -/
def bchParity (d : Bytes) : Bytes :=
  beBytes 42 (crcMsb 336 ((bchGenerator.take 336).mapIdx (fun i c => c * 2 ^ i)).sum 0 d)

/-- Bits that a codeword corrects (R408). -/
def bchLimit : Nat := 24

/-! ### The page -/

/-- The 48-byte page header (R409). -/
def Page.header (g : Page) (part : Nat) : Bytes :=
  let h := leBytes 1 part ++ leBytes 1 (if g.partial_ then 1 else 0) ++ leBytes 2 g.recs.length ++ leBytes 4 g.logical ++
    leBytes 8 g.writeSeq ++ leBytes 8 g.firstNo ++ leBytes 8 g.stamp ++ leBytes 4 g.eraseCount ++ zeros 8
  h ++ leBytes 4 (crc32 h)

/-- The 4,096 data bytes: the records, padded with 0xFF (R409, R410). -/
def Page.data (g : Page) : Bytes :=
  let d := g.recs.flatten.take 4096
  d ++ List.replicate (4096 - d.length) 0xFF

/-- What the four codewords cover: 1,024 data bytes each, the last one the header also (R408). -/
def Page.codewords (g : Page) (part : Nat) : List Bytes :=
  (List.range 4).map (fun i => (g.data.drop (1024 * i)).take 1024 ++ (if i = 3 then g.header part else []))

/-- The 256 spare bytes of a page on a good block: header, parity, bad-block marker, 0xFF (R408; log entry 208). -/
def Page.spare (g : Page) (part : Nat) : Bytes :=
  g.header part ++ ((g.codewords part).map bchParity).flatten ++ [(0xFF : Byte)] ++ List.replicate 39 0xFF

/-- A codeword of the page holds more wrong bits than it corrects: the page is lost (R408, R416). -/
def Page.lost (g : Page) : Bool := g.errors.toList.any (fun e => decide (bchLimit < e))

/-- Bad-block marker of a physical block: 0xFF on a good one, 0x00 on a bad one (R408; log entry 208). -/
def Vault.marker (v : Vault) (block : Nat) : Byte := if v.bad.contains block then 0x00 else 0xFF

/-! ### The block map -/

/-- End of the data pool: 17,408 good blocks at shipment (R407). -/
def poolEnd : Nat := 17408

/-- Spare blocks (R407, R414). -/
def Vault.spares (v : Vault) : Nat := (poolEnd - v.spareNext) + v.spareBack.length

/-- Erases of a physical block (R407, R409). -/
def Vault.wearOf (v : Vault) (b : Nat) : Nat := ((v.wear.find? (fun x => x.1 == b)).map (·.2)).getD 0

/-- A physical block is erased once more (R407). -/
def Vault.erase (v : Vault) (b : Nat) : Vault := { v with wear := (b, v.wearOf b + 1) :: v.wear.filter (fun x => x.1 != b) }

/-- The next page needs a block erased for reuse: every block of the partition is in use and the last one is full
(R410, R412). -/
def Part.needsErase (p : Part) : Bool := p.programmed % 64 == 0 && p.idle.isEmpty && decide (p.last ≤ p.fresh)

/-- Physical block that the next page is programmed on: the one being filled; else an erased one; else the oldest one of a
ring (R407, R410). -/
def Part.target (p : Part) : Nat :=
  if p.programmed % 64 ≠ 0 then p.map.getLast?.getD 0
  else if p.needsErase then p.map.head?.getD 0
  else p.idle.head?.getD p.fresh

/-- The place of the next page is taken; a ring without an erased block gives its oldest one and the records on it
(R410). -/
def Part.take (p : Part) : Part :=
  if p.programmed % 64 ≠ 0 then { p with programmed := p.programmed + 1 }
  else if p.needsErase then
    { p with
      map := p.map.drop 1 ++ [p.target], pages := p.pages.filter (fun g => g.block != p.target)
      programmed := p.programmed + 1, wrapped := true }
  else
    { p with
      map := p.map ++ [p.target], idle := p.idle.drop 1, fresh := if p.idle.isEmpty then p.fresh + 1 else p.fresh
      programmed := p.programmed + 1 }

/-- The block belongs to the partition: in use, erased, or the next never used. -/
def Part.holds (p : Part) (b : Nat) : Bool := p.map.contains b || p.idle.contains b || (b == p.fresh && decide (p.fresh < p.last))

/-- Pages programmed on a block; the pages of an image are counted and not listed (R410). -/
def Part.pagesOn (p : Part) (b : Nat) : Nat :=
  if p.pages = [] then
    if !p.map.contains b then 0 else if p.map.getLast? = some b then (p.programmed - 1) % 64 + 1 else 64
  else (p.pages.filter (fun g => g.block == b)).length

/-- Block that a partition can give up, other than the one named and the one being filled: one that holds no record, else the
oldest (R414). -/
def Part.spare (p : Part) (avoid : Nat) : Option Nat :=
  (p.idle ++ (if p.fresh < p.last then [p.fresh] else []) ++ p.map.dropLast).find? (fun b => b != avoid)

/-- The partition without a block, and without the records on it (R414). -/
def Part.without (p : Part) (b : Nat) : Part :=
  { p with
    blocks := p.blocks - 1, map := p.map.filter (fun x => x != b), idle := p.idle.filter (fun x => x != b)
    fresh := if p.fresh = b then p.fresh + 1 else p.fresh, pages := p.pages.filter (fun g => g.block != b)
    wrapped := p.wrapped || p.map.contains b }

/-- With no spare left a ring gives up a block, which is erased and becomes the spare: CAPTURE first, then HOST, then LOG
(R414). -/
def Vault.giveUp (v : Vault) (avoid : Nat) : Vault :=
  match [4, 5, 1].find? (fun i => ((tget v.parts i).spare avoid).isSome) with
  | none => v
  | some i => match (tget v.parts i).spare avoid with
    | none => v
    | some b =>
      let u := if (tget v.parts i).map.contains b then v.erase b else v
      { u with parts := tmod u.parts i (fun p => p.without b), spareBack := u.spareBack ++ [b] }

/-- The next spare, and the vault without it (R407, R414). -/
def Vault.takeSpare (v : Vault) (avoid : Nat) : Option (Nat × Vault) :=
  let u := if v.spares = 0 then v.giveUp avoid else v
  if u.spareNext < poolEnd then some (u.spareNext, { u with spareNext := u.spareNext + 1 })
  else match u.spareBack with
    | b :: rest => some (b, { u with spareBack := rest })
    | [] => none

/-- One block of the partition replaced by another: its pages are programmed in turn on the new one; STAMP, WRITE_SEQ and
ERASE_COUNT change, the wrong bits are gone, and a lost page stays lost (R414–R416). -/
def Part.replace (p : Part) (b x now wseq count : Nat) : Part :=
  let js := (List.range p.pages.length).filter (fun j => (p.pages[j]?.map (·.block)) == some b)
  let new (y : Nat) : Nat := if y = b then x else y
  let unused := b == p.fresh && decide (p.fresh < p.last)
  { p with
    map := p.map.map new, idle := (if unused then [x] else []) ++ p.idle.map new
    fresh := if unused then p.fresh + 1 else p.fresh
    pages := p.pages.mapIdx (fun j g => if g.block = b then
      { g with
        stamp := now, writeSeq := wseq + js.idxOf j, eraseCount := count, block := x
        errors := if g.lost then g.errors else Vector.replicate 4 0 } else g) }

/-- A block of a partition is remapped onto a spare, with an entry in the remap journal; the block map is checkpointed every
256 remaps (R407, R414). -/
def Vault.relocate (v : Vault) (part b now : Nat) : Vault :=
  match v.takeSpare b with
  | none => v
  | some (x, u) =>
    let n := (tget v.parts part).pagesOn b
    { u with
      parts := tmod u.parts part (fun q => q.replace b x now v.writeSeq (u.wearOf x))
      relocations := if n = 0 then v.relocations else wrapAdd 32 v.relocations 1
      journal := if v.journal.length = 255 then [] else v.journal ++ [(b, x)]
      checkpoints := if v.journal.length = 255 then v.checkpoints + 1 else v.checkpoints
      writeSeq := v.writeSeq + n }

/-- A refresh: the block is relocated, and the source is erased and comes back as a spare (R414, R415). -/
def Vault.refresh (v : Vault) (part b now : Nat) : Vault :=
  if (tget v.parts part).map.contains b = true ∧ (v.takeSpare b).isSome = true then
    let u := (v.relocate part b now).erase b
    { u with spareBack := u.spareBack ++ [b] }
  else v

/-- An interrupted relocation without a journal entry: the target is erased and returned as a spare (R414). -/
def Vault.undo (v : Vault) (b : Nat) : Vault :=
  match v.takeSpare b with
  | none => v
  | some (x, u) => { u.erase x with spareBack := u.spareBack ++ [x] }

/-- A block is retired as grown bad: what stands on it goes to a spare; a spare that fails is a spare less (R414). -/
def Vault.retire (v : Vault) (part b now : Nat) : Vault :=
  let u := if (tget v.parts part).holds b then v.relocate part b now else ((v.takeSpare b).map (·.2)).getD v
  { u with grownBad := satAdd 0xFFFF u.grownBad 1, bad := b :: u.bad.filter (· != b) }

end Sys2Proof.Machine

namespace Sys2Proof

/-- A codeword of the page was beyond correction (R408, R416). -/
def ScanHit.lost (h : ScanHit) : Bool := h.errors.toList.any (fun e => decide (24 < e))

/-- Most bits corrected in a codeword of the page (R408, R420). -/
def ScanHit.bits (h : ScanHit) : Nat := (h.errors.toList.filter (fun e => decide (e ≤ 24))).foldl max 0

end Sys2Proof
end

