-- ==== Sys2Proof/Machine/Store.lean ====
section
/-! DEFINITION. The storage controller: records, versions and areas of the parameter store (R388–R393), compaction and the
ring pair (R394, R395), counters across cells (R396, R397), the supply check (R398, R399), vault pages and wear credit
(R407–R414). -/

namespace Sys2Proof.Machine

/-! ### Records and versions -/

/-- Keys of the ring pair (R391). -/
def ringKey (k : Nat) : Bool :=
  k == 0x10 || k == 0x11 || k == 0x20 || (decide (0x30 ≤ k) && decide (k ≤ 0x3F)) ||
    (decide (0xA0 ≤ k) && decide (k ≤ 0xA7))

/-- Sectors in log order, each with its number (R394). -/
def inOrder (l : List Sector) : List (Nat × Sector) :=
  (l.mapIdx (fun i x => (i, x))).mergeSort (fun a b => decide (a.2.seq ≤ b.2.seq))

/-- Every slot of a list of sectors, in log order: SECTOR_SEQ, then slot (R394). -/
def slotsOf (l : List Sector) : List Slot := ((inOrder l).map (fun x => x.2.slots)).flatten

/-- A valid record as read: where it stands (sector × 256 + slot) and whether a bit was corrected (R403). -/
structure Placed where
  /-- The record. -/
  r : Rec := {}
  /-- Physical slot. -/
  place : Nat := 0
  /-- It needed a correction. -/
  corrected : Bool := false
  deriving DecidableEq, Repr, Inhabited

/-- Valid records of a list of sectors, in log order (R390, R394). -/
def placedIn (l : List Sector) : List Placed :=
  ((inOrder l).map (fun x => (x.2.slots.mapIdx (fun i y => match y with
    | .valid r c => some ({ r, place := x.1 * 256 + i + 1, corrected := c } : Placed)
    | _ => none)).filterMap id)).flatten

/-- Valid records of the area a key is kept in. -/
def Store.placed (t : Store) (k : Nat) : List Placed := placedIn (if ringKey k then t.ring.toList else t.log.toList)

/-- Valid records of the area a key is kept in. -/
def Store.records (t : Store) (k : Nat) : List Rec := (t.placed k).map (·.r)

/-- A SET record counts as a version only once its set is committed (R401). -/
def Store.counts (t : Store) (r : Rec) : Bool :=
  match r.set with
  | none => true
  | some n => t.sets.all (fun c => c.no != n) || t.sets.any (fun c => c.no == n && c.phase == 2)

/-- Versions of a key, in log order (R392, R401). -/
def Store.placedVersions (t : Store) (k : Nat) : List Placed := (t.placed k).filter (fun p => p.r.key == k && t.counts p.r)

/-- Versions of a key, in log order (R392, R401). -/
def Store.versions (t : Store) (k : Nat) : List Rec := (t.placedVersions k).map (·.r)

/-- `a` is used rather than `b`: higher SEQ; with equal SEQ the one that needed no correction; then the higher slot
(R392, R403). -/
def Placed.over_ (a b : Placed) : Bool :=
  if a.r.seq ≠ b.r.seq then decide (b.r.seq < a.r.seq)
  else if a.corrected ≠ b.corrected then b.corrected
  else decide (b.place < a.place)

/-- The version that is used (R392, R403). -/
def newestOf : List Placed → Option Placed
  | [] => none
  | r :: rs => match newestOf rs with
    | some x => if r.over_ x then some r else some x
    | none => some r

/-- The newest version of a key; absent when it is a TOMBSTONE (R392). -/
def Store.newest (t : Store) (k : Nat) : Option Rec :=
  match newestOf (t.placedVersions k) with
  | some p => if p.r.tombstone then none else some p.r
  | none => none

/-- Records of a key that are still in the operation queue. -/
def Store.queued (t : Store) (k : Nat) : List Nat :=
  (t.running.toList ++ t.queue).filterMap (fun o => match o.act with
    | .record r => if r.key = k then some r.seq else none
    | _ => none)

/-- SEQ that the next write of a key takes: one above the highest (R392). -/
def Store.nextSeq (t : Store) (k : Nat) : Nat :=
  (((t.records k).filter (fun r => r.key == k)).map (·.seq) ++ t.queued k).foldl (fun m q => max m (q + 1)) 0

/-- A key whose SEQ has reached its end is never written again (R392). -/
def Store.worn (t : Store) (k : Nat) : Bool := decide (0xFFFFFF < t.nextSeq k)

/-! ### Operations and their energy -/

/-- Energy of an operation, µJ (R398). -/
def energy : StoreAct → Nat
  | .record _ => 10
  | .unit _ => 5
  | .logErase _ | .ringErase | .counterErase _ => 6000
  | .charterErase => 3000
  | .charterProgram => 640
  | .lockBits => 50
  | .page _ => 200
  | .relocate _ _ => 200
  | .blockErase _ => 1500

/-- Usable energy E of R398 at a VHOLD in mV, µJ. -/
def usable (cap mv : Nat) : Nat := cap * (mv * mv - 64000000) / 4000000

/-- Order in which waiting operations are chosen: flash operations in turn, vault operations by R413. -/
def rank : StoreAct → Nat
  | .page 0 => 2
  | .page 1 => 4
  | .relocate _ _ => 5
  | .page 4 => 6
  | .page 5 => 7
  | .blockErase _ => 7
  | .page _ => 8
  | _ => 0

/-- Index of the operation chosen next: the lowest rank, the earliest among equals (R413). -/
def pickOp : List StoreOp → Option StoreOp
  | [] => none
  | o :: os => match pickOp os with
    | some p => if rank p.act < rank o.act then some p else some o
    | none => some o

/-- The list without the first occurrence of an operation. -/
def dropOp (o : StoreOp) : List StoreOp → List StoreOp
  | [] => []
  | p :: ps => if p = o then ps else p :: dropOp o ps

/-- The next waiting operation starts when its medium is powered and the supply check passes with the 10 mJ reserve;
otherwise the wait begins and event 0x0D08 is written (R398, R413). -/
def pump (s : State) : State :=
  if s.store.running.isSome ∨ s.powered 9 = false then s
  else match pickOp s.store.queue with
  | none => s
  | some o =>
    let e := usable (s.nat 13 0) s.store.vhold
    if energy o.act + 10000 ≤ e then
      let s1 := s.modStore (fun t => { t with queue := dropOp o t.queue, running := some o, holding := false })
      if s.store.holding then emit 5 0x0D08 (leBytes 2 0 ++ leBytes 2 (e / 100)) 0 0xFF s1 else s1
    else if s.store.holding then s
    else emit 5 0x0D08 (leBytes 2 1 ++ leBytes 2 (e / 100)) 0 0xFF (s.modStore (fun t => { t with holding := true }))

/-- Operations join the queue; PD9 STORE is requested for them (R28, R398). -/
def enqueue (os : List StoreOp) (s : State) : State :=
  pump (requestAll [9] (s.modStore (fun t => { t with queue := t.queue ++ os })))

/-- A record of a key with its next SEQ. -/
def Store.recordFor (t : Store) (k : Nat) (d : Bytes) (tomb : Bool := false) : Rec :=
  { key := k, seq := t.nextSeq k, tombstone := tomb, data := d }

/-- A record of a key is written (R392); a key whose SEQ has reached its end is never written again. -/
def putRecord (k : Nat) (d : Bytes) (a : After := .nothing) (s : State) : State :=
  if s.store.worn k then s
  else enqueue [{ act := .record (s.store.recordFor k d), then_ := a }] s

/-- A key is deleted by a TOMBSTONE (R389, R392). -/
def putTombstone (k : Nat) (s : State) : State :=
  enqueue [{ act := .record (s.store.recordFor k [] true) }] s

/-! ### The media -/

/-- A sector with no slot written. -/
def Sector.erased (x : Sector) : Bool := x.slots.isEmpty && x.headed

/-- Erased main-log sectors other than the one being appended (R394). -/
def Store.erasedSectors (t : Store) : List Nat :=
  (List.range 28).filter (fun i => i != t.at_ && (tget t.log i).erased)

/-- The erased sector with the lowest SECTOR_SEQ after the present one. -/
def Store.nextSector (t : Store) : Option Nat :=
  (t.erasedSectors.foldl (fun b i => match b with
    | none => some i
    | some j => if (tget t.log i).seq < (tget t.log j).seq then some i else some j) none)

/-- The written sector with the lowest SECTOR_SEQ (R394). -/
def Store.oldestSector (t : Store) : Option Nat :=
  ((List.range 28).filter (fun i => i != t.at_ && !(tget t.log i).erased)).foldl (fun b i => match b with
    | none => some i
    | some j => if (tget t.log i).seq < (tget t.log j).seq then some i else some j) none

/-- A record is live: newest version of its key and not a TOMBSTONE, or of a set prepared or pending (R394). -/
def Store.live (t : Store) (r : Rec) : Bool :=
  (match r.set with
   | some n => t.sets.any (fun c => c.no == n && decide (c.phase ≤ 1))
   | none => false) || t.newest r.key == some r

/-- Live records of a sector, in slot order (R394). -/
def Store.liveIn (t : Store) (i : Nat) : List Rec :=
  (tget t.log i).slots.filterMap (fun x => match x with
    | .valid r _ => if t.live r then some r else none
    | _ => none)

/-- Records in later sectors of live sets whose SET_OPEN lies in the sector: the whole set is copied (R394). -/
def Store.setTail (t : Store) (i : Nat) : List Rec :=
  let opened := (t.liveIn i).filterMap (fun r => if r.key = 0x0006 then r.set else none)
  ((slotsOf (t.log.toList.filter (fun x => (tget t.log i).seq < x.seq))).filterMap (fun x => match x with
    | .valid r _ => if (match r.set with | some n => opened.contains n | none => false) then some r else none
    | _ => none))

/-- Operations of the compaction of a sector: COMPACT_BEGIN, the copies, the erase (R394). -/
def Store.compaction (t : Store) (i : Nat) : List StoreOp :=
  { act := .record (t.recordFor 0x0004 (leBytes 1 i ++ leBytes 4 (tget t.log i).seq)) }
    :: (t.liveIn i ++ t.setTail i).map (fun r => { act := .record { r with copy := true } }) ++ [{ act := .logErase i }]

/-- A record appended at the end of the main log; a full sector gives way to the next erased one, and a compaction begins
when the two-sector reserve would be touched (R394). -/
def Store.appendLog (t : Store) (r : Rec) : Store :=
  let t1 := if (tget t.log t.at_).slots.length < 255 then t
    else match t.nextSector with
      | some i => { t with at_ := i }
      | none => t
  let t2 := { t1 with log := tmod t1.log t1.at_ (fun x => { x with slots := x.slots ++ [.valid r false] }) }
  if t2.erasedSectors.length < 2 ∧ t2.compacting = none then
    match t2.oldestSector with
    | some i => { t2 with compacting := some i, queue := t2.compaction i ++ t2.queue }
    | none => t2
  else t2

/-- A record appended in the active ring sector; the swap is queued when 32 or fewer erased slots remain (R395). -/
def Store.appendRing (t : Store) (r : Rec) : Store :=
  let t1 := { t with ring := tmod t.ring t.ringActive (fun x => { x with slots := x.slots ++ [.valid r false] }) }
  if 255 - (tget t1.ring t1.ringActive).slots.length ≤ 32 ∧ !(t1.queue.any (fun o => o.act == .ringErase)) then
    { t1 with queue := { act := .ringErase } :: t1.queue }
  else t1

/-- The ring swap: the other sector is erased, takes the newest record of every ring key, in the order written, and becomes
active (R395). -/
def Store.swapRing (t : Store) (now : Nat) : Store :=
  let o := 1 - t.ringActive
  let keep := ((t.placed 0x10).filter (fun p => newestOf (t.placedVersions p.r.key) == some p)).map
    (fun p => Slot.valid { p.r with copy := true } false)
  { t with ring := tmod t.ring o (fun x => { x with erases := x.erases + 1, stamp := now, headed := true,
                                                    seq := (tget t.ring t.ringActive).seq + 1, slots := keep })
           ringActive := o }

/-- The erase of a main-log sector, whose head takes the next SECTOR_SEQ (R394). -/
def Store.eraseLog (t : Store) (now i : Nat) : Store :=
  let top := (List.range 28).foldl (fun m j => max m (tget t.log j).seq) 0
  { t with log := tmod t.log i (fun x => { seq := top + 1, erases := x.erases + 1, stamp := now }), compacting := none }

/-! ### Counters across cells -/

/-- The counter of a key (R396). -/
def Store.counter (t : Store) (k : Nat) : Counter := (t.counters.find? (fun c => c.key == k)).getD { key := k }

/-- Its value: HIGH × 128 + U (R396). -/
def Store.counterValue (t : Store) (k : Nat) : Nat := (t.counter k).high * 128 + (t.counter k).units

/-- The counter of a key replaced. -/
def Store.setCounter (t : Store) (c : Counter) : Store :=
  { t with counters := if t.counters.any (fun d => d.key == c.key)
      then t.counters.map (fun d => if d.key == c.key then c else d) else t.counters ++ [c] }

/-- Bitmaps of a counter-area sector (R388). -/
def sectorBitmaps (i : Nat) : List Nat := if i = 0 then upFrom 0 128 else upFrom 128 127

/-- Keys of counters across cells (R391, R397). -/
def counterKey (k : Nat) : Bool := decide (0x1000 ≤ k) && decide (k ≤ 0x10FF)

/-- Bitmaps that high records not yet written name. -/
def Store.claimed (t : Store) : List Nat :=
  (t.running.toList ++ t.queue).filterMap (fun o => match o.act with
    | .record r => if counterKey r.key then some (u8At r.data 8) else none
    | _ => none)

/-- A free bitmap of the active counter sector: neither live nor retired, and not claimed (R396). -/
def Store.freeBitmap (t : Store) : Option Nat :=
  (sectorBitmaps t.ctrActive).find? (fun b =>
    !t.retired.contains b && !t.claimed.contains b && !t.counters.any (fun c => c.bitmap == b))

/-- Data of a high record (R396). -/
def highData (c : Counter) (retired : Nat) : Bytes :=
  leBytes 4 c.gen ++ leBytes 4 c.high ++ leBytes 1 c.bitmap ++ leBytes 1 retired

/-- What a written high record says of its counter: GEN, HIGH and BITMAP; the set units go along while GEN and HIGH stay,
as in a move to another sector, and are none otherwise; RETIRED is out of use until its sector is erased (R396). -/
def Store.takeHigh (t : Store) (r : Rec) : Store :=
  let c := t.counter r.key
  let same := c.gen == u32At r.data 0 && c.high == u32At r.data 4
  let t1 := t.setCounter { key := r.key, gen := u32At r.data 0, high := u32At r.data 4, bitmap := u8At r.data 8,
                           units := if same then c.units else 0 }
  if u8At r.data 9 = 0xFF then t1 else { t1 with retired := u8At r.data 9 :: t1.retired.filter (· != u8At r.data 9) }

/-- Record of the erase of a counter sector (R391, R396). -/
def Store.eraseMark (t : Store) (i done : Nat) : Rec :=
  { t.recordFor 0x0008 (leBytes 1 (30 + i) ++ leBytes 1 done) with seq := t.nextSeq 0x0008 + done }

/-- The counter-area swap: the spare becomes active, every live bitmap moves into it with a new high record, and the old
sector is erased between two COUNTER_ERASE records (R396). -/
def Store.swapCounters (t : Store) : Store :=
  let old := t.ctrActive
  let fresh := sectorBitmaps (1 - old)
  let recs := t.counters.mapIdx (fun i c =>
    ({ act := .record (t.recordFor c.key (highData { c with bitmap := fresh.getD i 0 } c.bitmap)) } : StoreOp))
  { t with ctrActive := 1 - old
           queue := recs ++ [{ act := .record (t.eraseMark old 0) }, { act := .counterErase old },
             { act := .record (t.eraseMark old 1) }] ++ t.queue }

/-- The high record of a rollover: HIGH + 1, a free bitmap, RETIRED naming the full one, ERASE_PENDING (R396). -/
def Store.rollRecord (t : Store) (k : Nat) : Rec :=
  let c := t.counter k
  { t.recordFor k (highData { c with high := c.high + 1, bitmap := t.freeBitmap.getD 0 } c.bitmap) with erasePending := true }

/-- The rollover of a full bitmap: its record goes before what waits; a swap that it needs goes before the record
(R396). -/
def Store.rollOver (t : Store) (k : Nat) : Store :=
  if t.freeBitmap.isSome then { t with queue := { act := .record (t.rollRecord k) } :: t.queue }
  else
    let t0 : Store := { t with queue := [] }
    let t1 := t0.swapCounters
    { t1 with queue := t1.queue ++ [{ act := .record (t1.rollRecord k) }] ++ t.queue }

/-- One unit programmed; with unit 127 the counter rolls over (R396). -/
def Store.bump (t : Store) (k : Nat) : Store :=
  let c := t.counter k
  let t1 := t.setCounter { c with units := min 128 (c.units + 1) }
  if c.units + 1 = 128 then t1.rollOver k else t1

/-- A counter starts at 0 under a new GEN, retiring the old one; units of the old generation are no longer written
(R396). -/
def Store.newCounter (t : Store) (k gen : Nat) : Store :=
  let old := if t.counters.any (fun c => c.key == k) then (t.counter k).bitmap else 0xFF
  let t1 : Store := { t with
    queue := t.queue.filter (fun o => o.act != .unit k)
    running := t.running.map (fun o => if o.act = .unit k then { o with then_ := .nothing } else o) }
  let t2 := if t1.freeBitmap.isNone then t1.swapCounters else t1
  { t2 with queue := t2.queue ++ [{ act := .record (t2.recordFor k (highData { gen, bitmap := t2.freeBitmap.getD 0 } old)) }] }

/-- The counter exists, or its first high record is on its way. -/
def Store.hasCounter (t : Store) (k : Nat) : Bool := t.counters.any (fun c => c.key == k) || !(t.queued k).isEmpty

/-- A unit of a counter is to be programmed. -/
def bumpCounter (k : Nat) (a : After := .nothing) (s : State) : State :=
  enqueue [{ act := .unit k, then_ := a }] (if s.store.hasCounter k then s else s.modStore (fun t => t.newCounter k 0))

/-! ### The vault -/

/-- Records per page: 128 of 32 bytes for FIXER and LOG; CAPTURE and HOST fill 4,096 bytes (R410). -/
def pageFull (part : Nat) (buf : List Bytes) : Bool :=
  if part = 0 ∨ part = 1 then decide (128 ≤ buf.length)
  else decide (4096 ≤ (buf.map List.length).sum)

/-- Units in which wear credit is counted: one block (R412). -/
def creditBlock : Nat := 1262304000 * 2 ^ 30

/-- Wear credit brought up to a stamp: BLOCKS × 60,000 / 1,262,304,000 blocks per second, up to 4 × BLOCKS (R412). -/
def Part.gain (p : Part) (now : Nat) : Part :=
  { p with credit := min (4 * p.blocks * creditBlock) (p.credit + (now - p.creditAt) * p.blocks * 60000), creditAt := max p.creditAt now }

/-- The partition is a ring (R410). -/
def isRing (part : Nat) : Bool := part == 1 || part == 4 || part == 5

/-- Pages a partition holds. -/
def Part.capacity (p : Part) : Nat := p.blocks * 64

/-- Records of the buffer that the next page takes: 128 of 32 bytes, or the longest run of at most 4,096 bytes; a record
never spans a page (R410). -/
def pageTake (part : Nat) (buf : List Bytes) : Nat :=
  if part = 0 ∨ part = 1 then min 128 buf.length else fill 0 buf
where
  /-- How many records fit beside `n` bytes already taken. -/
  fill (n : Nat) : List Bytes → Nat
    | [] => 0
    | b :: bs => if n + b.length ≤ 4096 then 1 + fill (n + b.length) bs else 0

/-- The place of the next page is taken; a block reused for it is erased and spends one block of credit (R410, R412). -/
def Vault.openPage (v : Vault) (part : Nat) : Vault :=
  let p := tget v.parts part
  let u := if p.needsErase then v.erase p.target else v
  { u with parts := tmod u.parts part (fun q =>
      { q.take with credit := if q.needsErase then q.credit - creditBlock else q.credit }) }

/-- The page buffer is programmed as the next page (R409, R410). A FIXER page is programmed with 128 records only (R411). -/
def Vault.program (v : Vault) (part now : Nat) : Vault :=
  let p := tget v.parts part
  if p.buffer.isEmpty ∨ part = 0 ∧ p.buffer.length < 128 then { v with writeSeq := v.writeSeq + 1 }
  else
    let u := v.openPage part
    let k := pageTake part p.buffer
    let page : Page :=
      { partial_ := !pageFull part p.buffer, firstNo := p.nextNo - p.buffer.length, stamp := now, writeSeq := v.writeSeq
        recs := p.buffer.take k, logical := p.programmed % p.capacity, eraseCount := u.wearOf p.target, block := p.target }
    { u with
      parts := tmod u.parts part (fun q =>
        { q with
          pages := q.pages ++ [page], buffer := q.buffer.drop k
          since := if (q.buffer.drop k).isEmpty then q.since else now })
      writeSeq := v.writeSeq + 1 }

/-- A page of the partition may be programmed now: FIXER has room, a ring has credit for the block it would erase. -/
def Part.mayProgram (p : Part) (part : Nat) : Bool :=
  !p.needsErase || (isRing part && decide (creditBlock ≤ p.credit))

/-- Records of the page buffer that the page being programmed does not take (R410). -/
def freshRecords (part : Nat) (s : State) : List Bytes :=
  let b := (tget s.vault.parts part).buffer
  if s.store.running.map (·.act) = some (.page part) then b.drop (pageTake part b) else b

/-- The page buffer of a partition is sent to the vault when it holds records that no page takes yet; without credit it
waits (R410, R412). -/
def flushPart (part : Nat) (s : State) : State :=
  let s1 := s.modVault (fun v => { v with parts := tmod v.parts part (fun p => p.gain s.now) })
  let p := tget s1.vault.parts part
  if (freshRecords part s).isEmpty ∨ s1.store.queue.any (fun o => o.act == .page part) then s1
  else if p.mayProgram part then
    enqueue [{ act := .page part }] (s1.modVault (fun v => { v with parts := tmod v.parts part (fun q => { q with starved := false }) }))
  else s1.modVault (fun v => { v with parts := tmod v.parts part (fun q => { q with starved := true }) })

/-- A record enters the page buffer of a partition and takes the next number; a full page is programmed (R410). -/
def appendRecord (part : Nat) (b : Bytes) (s : State) : State :=
  let s1 := s.modVault (fun v => { v with parts := tmod v.parts part (fun p =>
    { p with buffer := p.buffer ++ [b], nextNo := p.nextNo + 1, since := if p.buffer.isEmpty then s.now else p.since }) })
  if pageFull part (freshRecords part s1) then flushPart part s1 else s1

/-- Number of the oldest retained record of a partition, programmed or not. -/
def Part.oldest (p : Part) : Nat := match p.pages with
  | g :: _ => g.firstNo
  | [] => p.nextNo - p.buffer.length

/-- Number after the newest programmed record. -/
def Part.endNo (p : Part) : Nat := p.nextNo - p.buffer.length

/-- Programmed records with their numbers, from `first` on, at most `n`; those of a lost page read as 0xFF (R416). -/
def Part.readFrom (p : Part) (first n : Nat) : List (Nat × Bytes × Bool) :=
  ((p.pages.map (fun g => g.recs.mapIdx (fun i r =>
      (g.firstNo + i, if g.lost then List.replicate r.length (0xFF : Byte) else r, g.lost)))).flatten.filter
    (fun x => decide (first ≤ x.1))).take n

/-! ### What an operation does -/

/-- An erase of a whole partition (R410): HOST by command, an image before it is written. Record numbers go on; every block in
use is erased once more. -/
def Vault.clear (v : Vault) (part : Nat) : Vault :=
  let u := (tget v.parts part).map.foldl Vault.erase v
  { u with parts := tmod u.parts part (fun p =>
      { p with pages := [], programmed := 0, wrapped := false, idle := p.idle ++ p.map, map := [] }) }

/-- The charter page is erased or programmed: with a lock bit programmed the hardware refuses it (R406). -/
def Store.putCharter (t : Store) (b : Bytes) : Store := if t.lockA || t.lockB then t else { t with charter := b }

/-- The effect of a finished operation on the two media. -/
def applyAct (a : StoreAct) (s : State) : State :=
  match a with
  | .record r => s.modStore (fun t =>
      if ringKey r.key then t.appendRing r
      else if counterKey r.key then (t.appendLog r).takeHigh r
      else t.appendLog r)
  | .unit k => s.modStore (fun t => t.bump k)
  | .logErase i => s.modStore (fun t => t.eraseLog s.now i)
  | .ringErase => s.modStore (fun t => t.swapRing s.now)
  | .counterErase i => s.modStore (fun t => { t with
      ctrErases := tmod t.ctrErases i (· + 1), retired := t.retired.filter (fun b => !(sectorBitmaps i).contains b) })
  | .charterErase => s.modStore (fun t => t.putCharter (List.replicate 4096 0xFF))
  | .charterProgram => s.modStore (fun t => match t.charterNew with
      | some c => t.putCharter c.2
      | none => t)
  | .lockBits => s.modStore (fun t => { t with lockA := true, lockB := true })
  | .page p =>
    if p = 2 ∨ p = 3 then
      (s.modSafe (fun f => { f with images := tmod f.images (p - 2) (fun i => { i with
        programmed := min i.bytes.length (i.programmed + 4096) }) })).modVault (fun v =>
          { v.openPage p with writeSeq := v.writeSeq + 1 })
    else s.modVault (fun v => v.program p s.now)
  | .blockErase p => s.modVault (fun v => v.clear p)
  | .relocate p b => s.modVault (fun v => v.refresh p b s.now)

end Sys2Proof.Machine
end

