-- ==== Sys2Proof/Machine/Cipher.lean ====
section
/-! DEFINITION. The cipher engine and its key slots (12_cipher_engine.md): binding, shadows and landings, erasure, nonce
counters, jobs, and class 0x0B commands. -/

namespace Sys2Proof.Machine

/-! ### Slots -/

/-- A key slot. -/
def State.kslot (s : State) (n : Nat) : KeySlot := tget s.ciph.slots n
/-- A key slot changed. -/
def State.modSlot (s : State) (n : Nat) (f : KeySlot → KeySlot) : State :=
  s.modCiph (fun c => { c with slots := tmod c.slots n f })
/-- A job context changed. -/
def State.modCtx (s : State) (c : Nat) (f : Option CJob → Option CJob) : State :=
  s.modCiph (fun e => { e with ctx := tmod e.ctx c f })

/-- The slot that ACCESS.RELEASE_KEY_SLOT names (R201). -/
def State.releaseSlot (s : State) : Nat := s.nat 5 22

/-- A slot is bound: a setting in force names it (R352). -/
def slotBound (s : State) (n : Nat) : Bool :=
  s.nat 5 22 == n || s.nat 5 19 == n || s.nat 1 2 == n || (List.range 8).any (fun m => s.nat 10 24 m == n)

/-- Blocks run: PD4 SEC is on, the engine is not latched off and the countermeasure stream is seeded (R361, R365). -/
def State.cipherUp (s : State) : Bool := s.powered 4 && !s.ciph.off && s.grain.seeded

/-- The cipher engine can work now, or will never (R363, R365, R381): work that needs it waits otherwise (R28). -/
def unwrapReady (s : State) : Bool := s.cipherUp || s.ciph.off || s.grain.state == .latched

/-- The key in force of a slot, when it grants usage bit `u` (R349). -/
def usableKey (s : State) (n u : Nat) : Option Bytes :=
  match (s.kslot n).ver with
  | some v => if v.usage.testBit u then some v.key else none
  | none => none

/-- A job under key slot `n` need not wait: the engine works and no write of the slot is pending, or the engine will not work
(R356, R363, R365). -/
def keyReady (s : State) (n : Nat) : Bool := unwrapReady s && (!s.cipherUp || (s.kslot n).shadow.isNone)

/-- KCV of a key: the leftmost 3 bytes of the CMAC of the empty message (R369). -/
def kcvOf (k : Bytes) : Bytes := (cmac k []).take 3

/-- Contexts that hold a job bound to the slot (R354, R356). -/
def boundCtx (s : State) (n : Nat) : List Nat :=
  (List.range 8).filter (fun c => match tget s.ciph.ctx c with
    | some j => j.slot == n
    | none => false)

/-- A CIPHER.JOB that has started and waits: for a landing or a reservation (1), or for a context (2) (R355, R356, R360). -/
def jobWait (s : State) (tk : Nat) : Nat :=
  match s.work tk with
  | some w => if w.req.opcode = 0x0B10 ∧ (s.ticket tk).state = .running then w.aux.headD 0 else 0
  | none => 0

/-- CIPHER.JOB tickets that wait on a slot, in order of acceptance. -/
def slotWaiters (s : State) (n : Nat) : List Nat :=
  (s.flight.filter (fun p => p.2.req.node == 0x90 + n && jobWait s p.1 != 0)).map (·.1)

/-- The attribute block of a version (R349). -/
def KeyVer.attr (v : KeyVer) : Bytes := leBytes 1 v.length ++ leBytes 1 v.usage ++ leBytes 1 (b1 v.eraseWorkshop) ++ zeros 5

/-- A version from a key and an attribute block (R349). -/
def verOf (key attr : Bytes) : KeyVer :=
  { key, length := u8At attr 0, usage := u8At attr 1, eraseWorkshop := u8At attr 2 % 2 == 1 }

/-- Content of a slot record (R351, R391). -/
def slotRecord (v : KeyVer) : Bytes := leBytes 4 v.gen ++ v.attr ++ keyWrap deviceKey v.key

/-- Content of an erased record: KEY_GEN and no key (R348, R353). -/
def erasedRecord (gen : Nat) : Bytes := leBytes 4 gen ++ zeros 8

/-- An install accepted for a slot takes the next KEY_GEN and goes to the shadow, and its slot record is written (R348,
R351, R356). -/
def installKey (n path : Nat) (v : KeyVer) (s : State) : State × KeyVer :=
  let g := (s.kslot n).lastGen + 1
  let v := { v with gen := g }
  (putRecord (0x40 + n) (slotRecord v) (.keySlot n g)
    (s.modSlot n (fun k => { k with shadow := some { ver := v, path }, lastGen := g })), v)

/-- Counter key of a slot's nonce reservations (R397). -/
def nonceKey (n : Nat) : Nat := 0x1010 + n

/-- A slot's shadow may land: its record is written and no job is bound to the old version (R356). -/
def mayLand (s : State) (n : Nat) : Bool :=
  match (s.kslot n).shadow with
  | some h => h.stored && (boundCtx s n).isEmpty
  | none => false

/-- The landing of a shadow: key and attributes come into force, NONCE_NEXT becomes 0, EXHAUSTED clears, the reservation of
values 0–1,023 is written and event 0x0B01 follows (R356, R360). -/
def landShadow (n : Nat) (s : State) : State :=
  match (s.kslot n).shadow with
  | none => s
  | some h =>
    let rel := decide (n = s.releaseSlot)
    let s1 := s.modSlot n (fun k => { k with
      ver := some h.ver, shadow := none, nonceNext := 0, reserved := if rel then k.reserved else 0
      reserving := !rel, exhausted := false, warned := false, landed := s.now })
    let s2 := if rel then s1
      else enqueue [{ act := .unit (nonceKey n), then_ := .reserved (nonceKey n) }] (s1.modStore (fun t => t.newCounter (nonceKey n) h.ver.gen))
    emit 7 0x0B01 (leBytes 1 n ++ leBytes 1 h.path ++ zeros 2 ++ leBytes 4 h.ver.gen ++ kcvOf h.ver.key) (0x90 + n) 0xFF s2

/-! ### Nonce counters -/

/-- NONCE_NEXT and EXHAUSTED after counter value `c` is consumed (R359). -/
def KeySlot.consume (k : KeySlot) (c : Nat) : KeySlot :=
  if c = 0xFFFFFFFF then { k with exhausted := true } else { k with nonceNext := c + 1 }

/-- Counter value `c` of a slot is consumed, with the events of R359. -/
def consumeNonce (n c : Nat) (s : State) : State :=
  let s1 := s.modSlot n (fun k => k.consume c)
  let gen := ((s.kslot n).ver.map (·.gen)).getD 0
  let s2 := if c = 0xFFFFFFFF then emit 7 0x0B03 (leBytes 1 n ++ zeros 3 ++ leBytes 4 gen) (0x90 + n) 0xFF s1 else s1
  let left := 0xFFFFFFFF - c
  if left < s.nat 11 0 ∧ (s.kslot n).warned = false then
    emit 7 0x0B04 (leBytes 1 n ++ zeros 3 ++ leBytes 4 left) (0x90 + n) 0xFF (s2.modSlot n (fun k => { k with warned := true }))
  else s2

/-- Reservation units written for host jobs in the last 24 h (R400). -/
def recentUnits (s : State) : List Nat := s.store.jobUnits.filter (fun t => decide (s.now < t + lsbOfS 86400))

/-- A new reservation is written when 256 values of the current one remain, and not again while one is being written
(R360). -/
def reserveNonces (n : Nat) (s : State) : State :=
  let k := s.kslot n
  if k.reserved ≤ k.nonceNext + 256 ∧ k.reserving = false ∧ (recentUnits s).length < 86400 then
    bumpCounter (nonceKey n) (.reserved (nonceKey n))
      ((s.modSlot n (fun k => { k with reserving := true })).modStore (fun t => { t with jobUnits := recentUnits s ++ [s.now] }))
  else s

/-- A reservation of slot `n` is written (R360). -/
def nonceGranted (n : Nat) (s : State) : State :=
  s.modSlot n (fun k => { k with reserved := s.store.counterValue (nonceKey n) * 1024, reserving := false })

/-! ### Jobs -/

/-- Usage bit that an OP needs (R349). -/
def opUsage (op : Nat) : Nat := if op = 9 then 2 else if op = 10 then 3 else if op % 2 = 1 then 0 else 1

/-- OP encrypts under a nonce counter value (R358). -/
def opNonce (op : Nat) : Bool := op == 3 || op == 5 || op == 7

/-- The checks of a CIPHER.JOB when it takes its context (R349, R352, R359, R363, R367); a latched Grain ends its request of
random bits at once (R365, R381). -/
def jobRefusal (n : Nat) (p : Bytes) (s : State) : Option Nat :=
  if s.ciph.off then some St.engineOff
  else match (s.kslot n).ver with
    | none => some St.keyEmpty
    | some v =>
      if !v.usage.testBit 6 || !v.usage.testBit (opUsage (u8At p 0)) then some St.keyUsage
      else if slotBound s n then some St.keyBound
      else if opNonce (u8At p 0) && (s.kslot n).exhausted then some St.nonceExhausted
      else if s.grain.state = .latched then some St.entropyFail
      else none

/-- Contexts 5–7 that are free. -/
def freeCtx (s : State) : List Nat := [5, 6, 7].filter (fun c => (tget s.ciph.ctx c).isNone)

/-- An earlier job waits for a context (R355). -/
def queuedBefore (tk : Nat) (w : Work) (s : State) : Bool :=
  s.flight.any (fun p => p.1 != tk && jobWait s p.1 == 2 && decide (p.2.order < w.order))

/-- The 12-byte nonce of a host job (R358). -/
def hostNonce (gen c : Nat) : Bytes := beBytes 4 (Config.serial.toNat % 2 ^ 32) ++ beBytes 4 gen ++ beBytes 4 c

/-- The job waits: state 2, with what it waits for. -/
def jobPark (tk why : Nat) (s : State) : State := (start tk s).modWork tk (fun w => { w with aux := [why] })

/-- A CIPHER.JOB takes its context and binds the version in force, waits, or is refused (R355–R360). -/
def takeContext (tk : Nat) (w : Work) (s : State) : State :=
  let n := w.req.node - 0x90
  let p := w.req.payload
  let op := u8At p 0
  if !s.ciph.off ∧ (s.kslot n).shadow.isSome then jobPark tk 1 s
  else match jobRefusal n p s with
    | some st => complete tk st [] s
    | none =>
      let k := s.kslot n
      match freeCtx s with
      | [] => jobPark tk 2 s
      | c :: _ =>
        if queuedBefore tk w s then jobPark tk 2 s
        else if opNonce op ∧ k.reserved ≤ k.nonceNext then jobPark tk 1 (reserveNonces n s)
        else
          let ver := k.ver.getD {}
          let rand := op = 1 ∧ u8At p 2 % 2 = 1
          let iv := if opNonce op then hostNonce ver.gen k.nonceNext ++ zeros 4 else slice p 8 16
          let s1 := ((start tk s).modWork tk (fun w => { w with aux := [0, c] })).modCtx c
            (fun _ => some { ticket := some tk, slot := n, ver, iv, ivWait := decide rand })
          let s2 := if opNonce op then reserveNonces n (consumeNonce n k.nonceNext s1) else s1
          if rand then s2.modGrain (fun g => { g with wires := g.wires ++ [.iv c] }) else s2

/-- CIPHER.JOB (R355, R356, R369). -/
def execCipherJob (tk : Fin 128) (s : State) : Out :=
  .next (if jobWait s tk.val ≠ 0 then
      match s.work tk.val with
      | some w => takeContext tk.val w s
      | none => s
    else command tk.val 0x0B10 (takeContext tk.val) s)

/-- Output, generated tag and verification of an operation (R345, R364, R369). -/
def jobCompute (op : Nat) (key iv aad d tag : Bytes) (tagLen : Nat) : Bytes × Bytes × Bool :=
  let n := iv.take 12
  match op with
  | 1 => (cbcEnc key iv (blocks d), [], true)
  | 2 => (cbcDec key iv (blocks d), [], true)
  | 3 => (ctr key iv d, [], true)
  | 4 => (ctr key iv d, [], true)
  | 5 =>
    let c := gcmCrypt key n d
    (c, (gcmTag key n aad c).take tagLen, true)
  | 6 => (gcmCrypt key n d, [], (gcmTag key n aad d).take tagLen == tag.take tagLen)
  | 7 => (ccmCrypt key n d, ccmTag key n aad d tagLen, true)
  | 8 =>
    let m := ccmCrypt key n d
    (m, [], (ccmTag key n aad m tagLen).take tagLen == tag.take tagLen)
  | 9 => ([], (cmac key d).take tagLen, true)
  | _ => ([], [], (cmac key d).take tagLen == tag.take tagLen)

/-- Response of CIPHER.JOB (R369). -/
def jobReply (result ctx gen : Nat) (iv tag out : Bytes) : Bytes :=
  leBytes 1 result ++ leBytes 1 ctx ++ leBytes 2 out.length ++ leBytes 4 gen ++ padTo 16 iv ++ padTo 16 tag ++ pad4 out

/-- The job in a context finishes: its whole result is delivered, or a mismatch with zeroed output (R364). -/
def finishJob (c : Nat) (j : CJob) (tk : Nat) (w : Work) (s : State) : State :=
  let p := w.req.payload
  let op := u8At p 0
  let a := jobCompute op j.ver.key j.iv (slice p 40 (u16At p 4)) (slice p (40 + u16At p 4) (u16At p 6)) (slice p 24 16)
    (u8At p 1)
  let iv := if op = 9 ∨ op = 10 then [] else j.iv
  let verify := op = 6 ∨ op = 8 ∨ op = 10
  let s1 := (s.modCtx c (fun _ => none)).modCiph (fun e => { e with jobs := wrapAdd 32 e.jobs 1 })
  if a.2.2 then complete tk St.ok (jobReply (if verify then 1 else 0) c j.ver.gen iv a.2.1 a.1) s1
  else complete tk St.cipherTagMismatch (jobReply 2 c j.ver.gen iv [] (zeros a.1.length)) s1

/-- CIPHER_JOB_COMPLETE: every block of the context's job has been released (R355, R362). -/
def execCipherJobComplete (ctx : Fin 8) (s : State) : Out :=
  .next (match tget s.ciph.ctx ctx.val with
    | some j => match j.ticket with
      | some tk => match s.work tk with
        | some w =>
          if s.cipherUp = true ∧ j.ivWait = false ∧ j.slot < 64 then finishJob ctx.val j tk w s else s
        | none => s
      | none => s
    | none => s)

/-- The job in a context ends without output (R357, R362, R365). -/
def endJob (st c : Nat) (s : State) : State :=
  match tget s.ciph.ctx c with
  | some j =>
    let s1 := (s.modCtx c (fun _ => none)).modGrain (fun g => { g with wires := g.wires.filter (· != .iv c) })
    match j.ticket with
    | some tk => complete tk st [] s1
    | none => s1
  | none => s

/-! ### Erasure -/

/-- An erase of slot `n` (R353, R357): the store entry and the shadow go, bound jobs complete KEY_REVOKED, waiting jobs
KEY_EMPTY, and the erased record is written. The answer holds both counts. -/
def eraseSlot (n cause : Nat) (a : After) (s : State) : State × Nat × Nat :=
  let jobs := boundCtx s n
  let waiting := slotWaiters s n
  let k := s.kslot n
  let s1 := s.modSlot n (fun k => { k with ver := none, shadow := none, exhausted := false, nonceNext := 0, reserved := 0,
                                           reserving := false, landed := 0 })
  let s2 := jobs.foldl (fun st c => endJob St.keyRevoked c st) s1
  let s3 := waiting.foldl (fun st t => complete t St.keyEmpty [] st) s2
  let s4 := (s3.modCiph (fun c => { c with revoked := satAdd 0xFFFFFFFF c.revoked jobs.length })).modGrain
    (fun g => if g.state = .latched then g else { g with wires := g.wires ++ [.overwrite] })
  let s5 := emit 7 0x0B02 (leBytes 1 n ++ leBytes 1 cause ++ leBytes 2 jobs.length) (0x90 + n) 0xFF s4
  (putRecord (0x40 + n) (erasedRecord k.lastGen) a s5, jobs.length, waiting.length)

/-- Slots that only the device writes or erases (R347, R368). -/
def slotHeld (n : Nat) : Bool := n == 0 || (decide (16 ≤ n) && decide (n ≤ 31))

/-- KEY_BOUND for a key command (R352). -/
def keyBoundFor (n : Nat) (s : State) : Bool :=
  n == s.releaseSlot || (slotBound s n && s.power.mode != .workshop)

/-- CIPHER.KEY_ERASE of one slot (R353, R368, R369). -/
def eraseTile (tk node : Nat) (s : State) : State × TileRes × Bool :=
  let n := node - 0x90
  let shop := s.power.mode == .workshop
  if slotHeld n || (((s.kslot n).ver.map (·.eraseWorkshop)).getD false && !shop) then
    (s, { node, status := St.keySlotHeld }, false)
  else if keyBoundFor n s then (s, { node, status := St.keyBound }, false)
  else if s.store.worn (0x40 + n) then (s, { node, status := St.storeWear }, false)
  else
    let a := eraseSlot n 0 (.keyErased tk) s
    (a.1, { node, status := St.ok, data := leBytes 2 a.2.1 ++ leBytes 2 a.2.2 ++ zeros 4 }, true)

/-- The slots of a walk are erased in order; the answer holds their results and how many records are to be written. -/
def eraseTiles (tk : Nat) : List Nat → State → State × List TileRes × Nat
  | [], s => (s, [], 0)
  | n :: ns, s =>
    let a := eraseTile tk n s
    let r := eraseTiles tk ns a.1
    (r.1, a.2.1 :: r.2.1, r.2.2 + (if a.2.2 then 1 else 0))

/-- CIPHER.KEY_ERASE (R353, R368): it completes when its erased records are written. -/
def execCipherKeyErase (tk : Fin 128) (s : State) : Out :=
  .next (command tk.val 0x0B05 (fun w s =>
    let tiles := (w.walk.filter (fun x => x.kind == 0)).map (·.node)
    let a := eraseTiles tk.val tiles s
    if a.2.2 = 0 then completeTiles tk.val w.walk a.2.1 a.1
    else
      let k := ((a.2.1.filter (fun r => r.status == St.ok)).getLast?.map (·.node)).getD 0x90 - 0x50
      ((start tk.val a.1).modWork tk.val (fun w => { w with results := a.2.1, aux := [a.2.2] })).modTicket tk.val
        (fun e => { e with writeRef := k + s.store.nextSeq k * 0x10000 })) s)

/-- One erased record of a CIPHER.KEY_ERASE is written. -/
def keyErased (tk : Nat) (s : State) : State :=
  match s.work tk with
  | some w =>
    if w.req.opcode = 0x0B05 ∧ (s.ticket tk).state = .running then
      let k := w.aux.headD 1 - 1
      let s1 := s.modWork tk (fun w => { w with aux := [k] })
      if k = 0 then completeTiles tk w.walk w.results s1 else s1
    else s
  | none => s

/-! ### Installs -/

/-- Response of CIPHER.KEY_LOAD and CIPHER.KEY_GENERATE (R369). -/
def installReply (result stored gen : Nat) (kcv : Bytes) : Bytes :=
  leBytes 1 result ++ leBytes 1 stored ++ zeros 2 ++ leBytes 4 gen ++ padTo 3 kcv ++ zeros 5

/-- The install of a ticket begins: its slot record is being written, and the contact sheet notes KEY and SEQ (R405,
R471); a slot whose SEQ has reached its end takes none (R392). -/
def beginInstall (tk n path : Nat) (v : KeyVer) (s : State) : State :=
  let q := s.store.nextSeq (0x40 + n)
  let a := installKey n path v s
  if s.store.worn (0x40 + n) then complete tk St.storeWear [] s
  else ((start tk a.1).modWork tk (fun w => { w with aux := [a.2.gen], buf := kcvOf v.key })).modTicket tk
    (fun e => { e with writeRef := 0x40 + n + q * 0x10000 })

/-- The key and attributes that a CIPHER.KEY_LOAD unwraps (R350): the integrity check, then the attribute block. -/
def unwrapLoad (p kek : Bytes) : Except Nat KeyVer :=
  match keyUnwrap kek (slice p 16 (u16At p 12)) with
  | none => .error St.cipherUnwrapFail
  | some k =>
    if u8At p 0 = 0 then .ok (verOf k (slice p 4 8))
    else
      let a := k.drop (k.length - 8)
      let key := k.take (k.length - 8)
      if attrOk a && key.length == 16 + 8 * u8At a 0 then .ok (verOf key a) else .error St.badArg

/-- CIPHER.KEY_LOAD (R350, R352, R356, R367, R368). -/
def execCipherKeyLoad (tk : Fin 128) (s : State) : Out :=
  .next (command tk.val 0x0B03 (fun w s =>
    let n := w.req.node - 0x90
    let p := w.req.payload
    let k := u8At p 1
    if slotHeld n then complete tk.val St.keySlotHeld [] s
    else if keyBoundFor n s then complete tk.val St.keyBound [] s
    else if s.ciph.off then complete tk.val St.engineOff [] s
    else if (s.kslot k).shadow.isSome then s
    else match (s.kslot k).ver with
      | none => complete tk.val St.keyEmpty [] s
      | some v =>
        if s.grain.state = .latched then complete tk.val St.entropyFail [] s
        else if !s.cipherUp || (freeCtx s).isEmpty then s
        else if !v.usage.testBit 4 then complete tk.val St.cipherUnwrapFail [] s
        else match unwrapLoad p v.key with
          | .error st => complete tk.val st [] s
          | .ok ver => beginInstall tk.val n (u8At p 0) ver s) s)

/-- CIPHER.KEY_GENERATE (R350, R352, R376): its key comes on the key wire. -/
def execCipherKeyGenerate (tk : Fin 128) (s : State) : Out :=
  .next (command tk.val 0x0B04 (fun w s =>
    let n := w.req.node - 0x90
    if slotHeld n then complete tk.val St.keySlotHeld [] s
    else if keyBoundFor n s then complete tk.val St.keyBound [] s
    else if s.ciph.off then complete tk.val St.engineOff [] s
    else if s.grain.state = .latched then complete tk.val St.entropyFail [] s
    else match freeCtx s with
      | [] => s
      | c :: _ =>
        ((start tk.val s).modCtx c (fun _ => some { ticket := some tk.val, slot := 64, ivWait := true })).modGrain
          (fun g => { g with wires := g.wires ++ [.key tk.val] })) s)

/-- Key bytes of a length code (R349). -/
def keyBytes (length : Nat) : Nat := 16 + 8 * length

/-- A conditioned word reaches CIPHER.KEY_GENERATE on the key wire; a longer key takes a second word (R376). -/
def keyWord (tk : Nat) (word : Bytes) (s : State) : State :=
  match s.work tk with
  | some w =>
    let attr := w.req.payload
    let got := w.buf ++ word
    if got.length < keyBytes (u8At attr 0) then
      (s.modWork tk (fun w => { w with buf := got })).modGrain (fun g => { g with wires := .key tk :: g.wires })
    else
      let s1 := (List.range 8).foldl (fun st c => match tget st.ciph.ctx c with
        | some j => if j.ticket = some tk then st.modCtx c (fun _ => none) else st
        | none => st) s
      beginInstall tk (w.req.node - 0x90) 2 (verOf (got.take (keyBytes (u8At attr 0))) attr) s1
  | none => s

/-- The CIPHER.KEY_LOAD or CIPHER.KEY_GENERATE that waits for this install. -/
def installTicket (n gen : Nat) (s : State) : Option Nat :=
  (List.range 128).find? (fun t => match s.work t with
    | some w => (w.req.opcode == 0x0B03 || w.req.opcode == 0x0B04) && w.req.node == 0x90 + n && w.aux == [gen] &&
        (s.ticket t).state == .running
    | none => false)

/-- The install's command completes with RESULT (R369). -/
def finishInstall (n gen result : Nat) (s : State) : State :=
  match installTicket n gen s with
  | some t => match s.work t with
    | some w => complete t St.ok (installReply result 0 gen w.buf) s
    | none => s
  | none => s

/-- The slot record of an install is written: with jobs bound, or the shadow gone, its command completes held (R356,
R367, R369). -/
def slotStored (n gen : Nat) (s : State) : State :=
  match (s.kslot n).shadow with
  | some h =>
    if h.ver.gen = gen then
      let s1 := s.modSlot n (fun k => { k with shadow := k.shadow.map (fun h => { h with stored := true }) })
      if (boundCtx s n).isEmpty then s1 else finishInstall n gen 1 s1
    else finishInstall n gen 1 s
  | none => finishInstall n gen 1 s

/-! ### Commands that read -/

/-- Mismatches of the last 60 s (R363). -/
def recentMismatches (s : State) : List Nat := s.ciph.recent.filter (fun t => decide (s.now < t + lsbOfS 60))

/-- Response of CIPHER.STATUS (R369). -/
def cipherStatusData (s : State) : Bytes :=
  leBytes 1 (b1 s.ciph.off + b1 s.grain.seeded 1)
    ++ leBytes 1 (maskOf ((List.range 8).filter (fun c => (tget s.ciph.ctx c).isSome)))
    ++ leBytes 1 ((List.range 64).filter (fun n => (s.kslot n).ver.isSome)).length
    ++ leBytes 1 (min 255 (recentMismatches s).length) ++ leBytes 4 s.ciph.mismatches ++ leBytes 4 s.ciph.jobs
    ++ leBytes 4 s.ciph.revoked

/-- CIPHER.STATUS (R369). -/
def execCipherStatus (tk : Fin 128) (s : State) : Out :=
  .next (command tk.val 0x0B01 (fun _ s => complete tk.val St.ok (cipherStatusData s) s) s)

/-- Tile payload of CIPHER.KEY_READ (R369). -/
def keyReadData (n : Nat) (s : State) : Bytes :=
  let k := s.kslot n
  let st := match k.ver, k.shadow with
    | none, none => 0
    | some _, none => 1
    | some _, some _ => 2
    | none, some _ => 3
  let v := k.ver.getD {}
  leBytes 1 st ++ leBytes 1 (if k.ver.isSome then v.length else 0xFF) ++ leBytes 1 v.usage
    ++ leBytes 1 (b1 (n == 0) + b1 (decide (16 ≤ n) && decide (n ≤ 31)) 1 + b1 (slotBound s n) 2 + b1 k.exhausted 3
        + b1 v.eraseWorkshop 4)
    ++ leBytes 4 v.gen ++ leBytes 4 k.nonceNext ++ leBytes 1 (boundCtx s n).length ++ leBytes 1 (slotWaiters s n).length
    ++ zeros 2 ++ (if k.ver.isSome then kcvOf v.key else zeros 3) ++ zeros 5
    ++ leBytes 8 (if k.ver.isSome then k.landed else 0)

/-- CIPHER.KEY_READ (R369). -/
def execCipherKeyRead (tk : Fin 128) (s : State) : Out :=
  .next (fanOut tk.val 0x0B02 (fun node _ s => (s, St.ok, keyReadData (node - 0x90) s)) s)

end Sys2Proof.Machine
end

