-- ==== Sys2Proof/Machine/Switch.lean ====
section
/-! DEFINITION. The frame switch: classification (R317–R319), the forms of a copy (R315, R320), cells and admission
(R316, R328–R330), queues and the ends of copies (R326, R333), ports (R313) and the table's generations (R324). -/

namespace Sys2Proof.Machine

/-! ### Ports and counters -/

/-- A port. -/
def State.port (s : State) (n : Nat) : Port := tget s.sw.ports n
/-- A port changed. -/
def State.modPort (s : State) (n : Nat) (f : Port → Port) : State := s.modSw (fun w => { w with ports := tmod w.ports n f })

/-- Counter `i` of a port rises by `k`, wrapping (R341). -/
def countBy (n i k : Nat) (s : State) : State :=
  s.modPort n (fun p => { p with counters := tmod p.counters i (fun c => wrapAdd 32 c k) })
/-- Counter `i` of a port rises by 1. -/
def count (n i : Nat) (s : State) : State := countBy n i 1 s

/-- CAN ports (R307). -/
def isCan (n : Nat) : Bool := decide (n < 12)
/-- LIN ports (R307). -/
def isLin (n : Nat) : Bool := decide (12 ≤ n) && decide (n < 18)
/-- T1 ports (R307). -/
def isT1 (n : Nat) : Bool := decide (18 ≤ n) && decide (n < 24)

/-- Settings disable the port (R313). -/
def disabledBy (c : Conf) (n : Nat) : Bool :=
  if isCan n then c.nat 10 0 n == 0 else if isLin n then c.nat 10 6 n == 0 else if isT1 n then c.nat 10 8 n == 0 else false
/-- The settings in force disable the port. -/
def portDisabled (s : State) (n : Nat) : Bool := disabledBy s.conf n

/-- Owner byte of P27's RX slot `i` (R335). -/
def rxOwner (s : State) (i : Nat) : Nat := (Memory.read s.host.window (0xC400 + 0x1000 + i * 0x800)).toNat

/-- A port that is up cannot send at present (R313). -/
def portBlocked (s : State) (n : Nat) : Bool :=
  let p := s.port n
  if isCan n then p.busOff
  else if isT1 n then p.pauseUntil.isSome
  else if n = 27 then rxOwner s s.sw.p27Next != 0
  else if n = 25 then (tget s.vault.parts 4).starved
  else false

/-- STATE of a port (R313). -/
def portCode (s : State) (n : Nat) : Nat :=
  match (s.port n).state with
  | .up => if portBlocked s n then 3 else 2
  | _ => if portDisabled s n then 0 else 1

/-! ### Cells -/

/-- Cells a frame takes (R316). -/
def cellsOf (len : Nat) : Nat := 1 + (len - 96 + 127) / 128

/-- R_n (R329). -/
def reserveOf (mode nominal data : Nat) : Nat :=
  if mode = 0 then 0
  else if mode = 3 then (nominal * 1024 + data * 47 + 47 * 10240 - 1) / (47 * 10240)
  else (nominal + 469) / 470

/-- R_n of a CAN port under the settings in force (R329). -/
def State.reserve (s : State) (n : Nat) : Nat :=
  if isCan n then reserveOf (s.nat 10 0 n) (s.nat 10 1 n) (s.nat 10 2 n) else 0

/-- ΣR_n. -/
def State.reserveTotal (s : State) : Nat := ((List.range 12).map s.reserve).sum

/-- Cells of a pool that frames hold; of one port where the pool is its reserve. -/
def heldIn (s : State) (f : SwFrame → Bool) : Nat := ((s.sw.frames.filter f).map (·.cells)).sum

/-- Free shared cells F (R330). -/
def State.sharedFree (s : State) : Nat :=
  16384 - 32 - s.reserveTotal - heldIn s (fun f => f.pool == .shared) - s.sw.lost
/-- Free cells of a CAN reserve. -/
def State.reserveFree (s : State) (n : Nat) : Nat := s.reserve n - heldIn s (fun f => f.pool == .reserve && f.port == n)
/-- Free cells of the access reserve. -/
def State.accessFree (s : State) : Nat := 32 - heldIn s (fun f => f.pool == .access)
/-- Usage of an ingress port (R328). -/
def State.usage (s : State) (n : Nat) : Nat := heldIn s (fun f => f.port == n)

/-- Pool a frame of `k` cells from port `n` draws on under the settings of its lookup; none where it is not stored (R325,
R330). -/
def admission (s : State) (c : Conf) (n k : Nat) (built : Bool) : Option Pool :=
  let f := s.sharedFree
  let g := c.nat 10 15
  if built then (if k ≤ s.accessFree then some .access else if k ≤ f then some .shared else none)
  else if isCan n then
    (if g < f ∧ k ≤ f then some .shared else if k ≤ s.reserveFree n then some .reserve else none)
  else if isT1 n ∧ c.nat 10 10 n = 0 then
    (if g < f ∧ s.usage n < c.nat 10 12 n ∧ k ≤ f then some .shared else none)
  else if k ≤ f then some .shared else none

/-- Ports that can be held: those that are up and whose source can wait (R330). -/
def mayHold (s : State) (n : Nat) : Bool :=
  (s.port n).state == .up && (isLin n || (isT1 n && s.nat 10 10 n == 1) || n == 24 || n == 26 || n == 27)

/-- A PAUSE frame from T1 port `n` (R331). -/
def sendPause (n time : Nat) (s : State) : State :=
  count n 12 (s.modPort n (fun p => { p with
    pauseSent := s.now
    sent := [[0x01, 0x80, 0xC2, 0x00, 0x00, 0x01] ++ beBytes 6 (Config.portMac n) ++ [0x88, 0x08, 0x00, 0x01]
      ++ beBytes 2 time ++ zeros 42] }))

/-- The capture port alone has copies of a frame (R334). -/
def SwFrame.captured (f : SwFrame) : Bool := f.copies.all (fun c => c.port == 25)
/-- Usage of an ingress port as far as it may cause back-pressure: copies to P25 never do (R330, R334). -/
def State.pressure (s : State) (n : Nat) : Nat := heldIn s (fun f => f.port == n && !f.captured)
/-- Free shared cells as far as their want may cause back-pressure (R330, R334). -/
def State.slack (s : State) : Nat := s.sharedFree + heldIn s (fun f => f.pool == .shared && f.captured)

/-- The hold of a port follows its usage and the free shared cells, but for what only the capture port holds (R330, R331,
R334). -/
def updateHold (n : Nat) (s : State) : State :=
  let x := s.nat 10 12 n
  if (s.port n).held = true then
    if s.pressure n + 64 ≤ x ∧ s.nat 10 15 + 64 < s.slack then
      let s1 := s.modPort n (fun p => { p with held := false })
      if isT1 n then sendPause n 0 s1 else s1
    else s
  else if mayHold s n = true ∧ (x ≤ s.pressure n ∨ s.slack ≤ s.nat 10 15) then
    let s1 := s.modPort n (fun p => { p with held := true })
    if isT1 n then sendPause n 0xFFFF s1 else s1
  else s

/-- Holds and releases of every port (R330). -/
def updateHolds (s : State) : State := ((List.range 28).filter (fun n => n ≥ 12)).foldl (fun st n => updateHold n st) s

/-! ### Classification -/

/-- Ethernet fields: tagged, tag word, EtherType (R317). -/
def ethTag (b : Bytes) : Bool × Nat × Nat :=
  if beNat (slice b 12 2) = 0x8100 then (true, beNat (slice b 14 2), beNat (slice b 16 2))
  else (false, 0, beNat (slice b 12 2))

/-- The 12-byte classification key (R317); an untagged frame takes the VLAN ID of its port (R312). -/
def classKey (kind port : Nat) (b : Bytes) (pvid : Nat) : Bytes :=
  leBytes 1 (port + 32 * kind) ++
    (if kind ≤ 2 then slice b 0 4 ++ slice b 4 1 ++ slice b 5 2 ++ slice b 8 4
     else if kind = 3 then slice b 0 1 ++ zeros 10
     else
       let t := ethTag b
       let word := if t.1 then t.2.1 else pvid
       slice b 0 6 ++ leBytes 1 word ++ leBytes 1 (bitsOf word 8 4 + 16 * bitsOf word 13 3 + b1 t.1 7)
         ++ leBytes 2 t.2.2 ++ zeros 1)

/-- The entry's KEY and MASK match (R318). -/
def entryMatches (key e : Bytes) : Bool :=
  u8At e 29 % 2 == 1 && (List.range 12).all (fun i =>
    (key.getD i 0 ^^^ e.getD i 0) &&& e.getD (12 + i) 0 == 0)

/-- Entries of a table, by index (R319). -/
def tableEntries (c : Conf) : List (Nat × Bytes) :=
  c.objects.filterMap (fun o => if o.1 / 0x10000 = 0x0AF0 then some (o.1 % 0x10000, o.2) else none)

/-- The lowest-indexed entry that matches decides the frame (R318). -/
def lookup (c : Conf) (key : Bytes) : Option Bytes :=
  ((tableEntries c).filter (fun e => entryMatches key e.2)).foldl (fun b e => match b with
    | none => some e
    | some x => if e.1 < x.1 then some e else some x) none |>.map (·.2)

/-- The transforms of an entry under a table copy (R320, R324). -/
def transformOf (c : Conf) (e : Bytes) : Transform :=
  let p := u8At e 36 % 16
  let m := u8At e 37 % 8
  { entry := e, encap := (c.nat 10 20 p, c.nat 10 21 p, c.nat 10 22 p), loop_ := (c.nat 10 23 m, c.nat 10 24 m, c.nat 10 25 m) }

/-- ACTION bits of the entry. -/
def Transform.rewrite (t : Transform) : Bool := (u8At t.entry 29).testBit 1
/-- ENCAP. -/
def Transform.doEncap (t : Transform) : Bool := (u8At t.entry 29).testBit 2
/-- DECAP. -/
def Transform.doDecap (t : Transform) : Bool := (u8At t.entry 29).testBit 3
/-- NEW_ID. -/
def Transform.newId (t : Transform) : Nat := u32At t.entry 32

/-! ### Forms -/

/-- Data lengths of CAN FD. -/
def fdLength (n : Nat) : Bool := decide (n ≤ 8) || [12, 16, 20, 24, 32, 48, 64].contains n

/-- A frame in the medium form of its KIND (R315). -/
def formOk (kind : Nat) (b : Bytes) : Bool :=
  let dl := u16At b 12
  if kind ≤ 2 then
    b.length == 16 + dl && decide (u32At b 0 < 2 ^ 31) && decide (u8At b 4 < 32) && u8At b 7 == 0 && u16At b 14 == 0 &&
      (if kind = 0 then decide (dl ≤ 8) && u8At b 4 % 4 == 0 && u16At b 5 == 0 && u32At b 8 == 0
       else if kind = 1 then fdLength dl && u8At b 4 % 4 == 1 && !(u32At b 0).testBit 30 && u16At b 5 == 0 && u32At b 8 == 0
       else decide (1 ≤ dl) && decide (dl ≤ 2048) && (u8At b 4).testBit 1)
  else if kind = 3 then
    b.length == 4 + u8At b 2 && decide (1 ≤ u8At b 2) && decide (u8At b 2 ≤ 8) && decide (u8At b 0 ≤ 63) &&
      decide (u8At b 1 ≤ 1) && u8At b 3 == 0
  else kind == 4 && decide (60 ≤ b.length) && decide (b.length ≤ 1518)

/-- The port's MODE carries a CAN frame of this KIND (R309). -/
def modeCarries (mode kind : Nat) : Bool := decide (kind < mode) && decide (mode ≤ 3)

/-- The IEEE 1722 NTSCF frame with one ACF CAN message (R320). -/
def ntscf (mac : Nat) (t : Transform) (seq : Nat) (b : Bytes) : Bytes :=
  let dl := u16At b 12
  let pad := (4 - dl % 4) % 4
  let id := u32At b 0
  let acf := (16 + dl + pad) / 4
  let fmt := u8At b 4
  let flags := pad * 64 + b1 (id.testBit 30) 4 + b1 (id.testBit 29) 3 + b1 (fmt.testBit 2) 2 + b1 (fmt.testBit 0) 1
    + b1 (fmt.testBit 3)
  let msg := beBytes 2 (0x0200 + acf) ++ leBytes 1 flags ++ zeros 1 ++ zeros 8 ++ beBytes 4 (id % 2 ^ 29)
    ++ b.drop 16 ++ zeros pad
  let head := leBytes 1 0x82 ++ beBytes 2 (0x8000 + msg.length) ++ leBytes 1 seq ++ beBytes 8 t.encap.2.2
  let tag := if t.encap.2.1 = 0 then [] else beBytes 2 0x8100 ++ beBytes 2 t.encap.2.1
  padTo 60 (leBytes 6 t.encap.1 ++ beBytes 6 mac ++ tag ++ beBytes 2 0x22F0 ++ head ++ msg)

/-- The ACF messages of an NTSCF payload: a CAN frame with its KIND, or a message of another type (R320). -/
def acfFrames : Nat → Bytes → List (Option (Nat × Bytes))
  | 0, _ => []
  | fuel + 1, b =>
    let h := beNat (slice b 0 2)
    let len := h % 512 * 4
    if b.length < 4 ∨ len < 4 ∨ b.length < len then []
    else
      let ty := h / 512
      let f := u8At b 2
      let off := if ty = 1 then 16 else 8
      let item := if (ty = 1 ∨ ty = 2) ∧ off ≤ len then
          let dl := len - off - f / 64
          let id := beNat (slice b (off - 4) 4) % 2 ^ 29 + b1 (f.testBit 3) 29 + b1 (f.testBit 4) 30
          let fd := f.testBit 1
          some ((if fd then 1 else 0), leBytes 4 id ++ leBytes 1 (b1 fd + b1 (f.testBit 2) 2 + b1 (f.testBit 0) 3)
            ++ zeros 7 ++ leBytes 2 dl ++ zeros 2 ++ slice b off dl)
        else none
      item :: acfFrames fuel (b.drop len)

/-- The NTSCF payload of an Ethernet frame, when it is one (R320). -/
def ntscfBody (b : Bytes) : Option Bytes :=
  let off := if (ethTag b).1 then 18 else 14
  if (ethTag b).2.2 = 0x22F0 ∧ u8At b off = 0x82 then
    some (slice b (off + 12) (beNat (slice b (off + 1) 2) % 2048))
  else none

/-- The entry of a LIN schedule that publishes a FRAME_ID: its LENGTH (R311). -/
def publishLen (sched : Bytes) (fid : Nat) : Option Nat :=
  ((List.range (u8At sched 0)).find? (fun i => u8At sched (4 + 4 * i) == fid && u8At sched (5 + 4 * i) % 2 == 1)).map
    (fun i => u8At sched (6 + 4 * i))

/-- The frame record of R315. -/
def frameRecord (f : SwFrame) (b : Bytes) (cut : Bool) : Bytes :=
  leBytes 8 f.stamp ++ leBytes 4 f.tag ++ leBytes 1 f.kind ++ leBytes 1 f.port ++ leBytes 2 b.length ++ leBytes 4 f.gen
    ++ leBytes 1 (b1 (f.built != 0) + b1 cut 1) ++ zeros 3 ++ b

/-- The frames a copy puts on its egress medium, with their KINDs, and the messages skipped (R320). None where the copy
cannot be formed. -/
def formCopy (s : State) (f : SwFrame) (n : Nat) : Option (List (Nat × Bytes) × Nat) :=
  let t := f.tr
  if 24 ≤ n then some ([(f.kind, f.bytes)], 0)
  else if f.kind ≤ 2 then
    let b := if t.rewrite then leBytes 4 t.newId ++ f.bytes.drop 4 else f.bytes
    if isCan n then (if modeCarries (s.nat 10 0 n) f.kind then some ([(f.kind, b)], 0) else none)
    else if isT1 n then
      (if f.kind ≤ 1 ∧ t.doEncap then some ([(4, ntscf (Config.portMac n) t (s.port n).ntscf b)], 0) else none)
    else (if publishLen (s.port n).sched (t.newId % 64) = some (u16At f.bytes 12) then some ([(3, f.bytes.drop 16)], 0)
          else none)
  else if f.kind = 3 then
    (if isCan n ∧ t.rewrite ∧ modeCarries (s.nat 10 0 n) 0 then
      some ([(0, leBytes 4 t.newId ++ zeros 8 ++ leBytes 2 (u8At f.bytes 2) ++ zeros 2 ++ f.bytes.drop 4)], 0)
     else none)
  else if isT1 n then some ([(4, f.bytes)], 0)
  else if isCan n ∧ t.doDecap then
    match ntscfBody f.bytes with
    | some body =>
      let ms := acfFrames (body.length + 1) body
      let ok := ms.filterMap id |>.filter (fun m => modeCarries (s.nat 10 0 n) m.1 && formOk m.1 m.2)
      some (ok, ms.length - ok.length)
    | none => none
  else none

/-! ### Protected identifiers -/

/-- A CAN frame carries the identifier protected on port `n`: 0 release, 1 body (R321). -/
def protectedId (s : State) (n id : Nat) : Option Nat :=
  if !id.testBit 29 then none
  else if n = s.nat 5 20 ∧ id % 2 ^ 29 = s.nat 5 21 then some 0
  else if n = s.nat 5 17 ∧ id % 2 ^ 29 = s.nat 5 18 then some 1
  else none

/-- The protection that stops a frame's copy to port `n`, on the identifier received or formed, with that ID word (R321). -/
def blockedId (s : State) (f : SwFrame) (n : Nat) : Option (Nat × Nat) :=
  if f.built ≠ 0 ∨ ¬ isCan n then none
  else
    let ids := (if f.kind ≤ 2 then [u32At f.bytes 0] else []) ++ (match formCopy s f n with
      | some a => (a.1.filter (fun p => p.1 ≤ 2)).map (fun p => u32At p.2 0)
      | none => [])
    ids.findSome? (fun id => (protectedId s n id).map (fun k => (k, id)))

/-- An event with an order key already issued (R342). -/
def emitKeyed (stamp tag code node : Nat) (data : Bytes) (s : State) : State :=
  putEvent { stamp, tag, code, node, data := (data ++ zeros 12).take 12 } s

/-! ### Copies and their ends -/

/-- A frame without copies left frees its cells (R333). -/
def prune (l : List SwFrame) : List SwFrame := l.filter (fun f => !f.copies.isEmpty)

/-- Copies of port `n` that satisfy a test end. -/
def endCopies (n : Nat) (p : SwFrame → Copy → Bool) (s : State) : State :=
  updateHolds (s.modSw (fun w => { w with
    frames := prune (w.frames.map (fun f => { f with copies := f.copies.filter (fun c => !(c.port == n && p f c)) })) }))

/-- How many copies of port `n` satisfy a test. -/
def copiesOf (s : State) (n : Nat) (p : SwFrame → Copy → Bool) : Nat :=
  (s.sw.frames.map (fun f => (f.copies.filter (fun c => c.port == n && p f c)).length)).sum

/-- HELD_OUT and AGED ends are reported at most once per port per 100 ms, the earlier ones first (R333). -/
def reportEnds (n : Nat) (s : State) : State :=
  let p := s.port n
  let due := match p.lastEnd with
    | some t => decide (t + lsbOfMs 100 ≤ s.now)
    | none => true
  if !due then s
  else
    let ev (kind : Nat) (e : Nat × Nat) (st : State) : State :=
      if e.1 = 0 then st
      else emit 0x7C 0x0A04 (leBytes 1 n ++ leBytes 1 kind ++ leBytes 2 (min 0xFFFF e.1) ++ leBytes 8 e.2) (0x30 + n) 0xFF st
    if p.ended.1 ≠ 0 ∧ (p.agedEnds.1 = 0 ∨ p.ended.2 ≤ p.agedEnds.2) then
      (ev 2 p.ended s).modPort n (fun p => { p with ended := (0, 0), lastEnd := some s.now })
    else (ev 1 p.agedEnds s).modPort n (fun p => { p with agedEnds := (0, 0), lastEnd := some s.now })

/-- Ends that waited are reported once the 100 ms are over (R333). -/
def reportWaiting (s : State) : State :=
  ((List.range 28).filter (fun n => (s.port n).ended.1 != 0 || (s.port n).agedEnds.1 != 0)).foldl (fun t n => reportEnds n t) s

/-- Copies of port `n` past their hold end HELD_OUT (R333). -/
def endHeldOut (n : Nat) (s : State) : State :=
  let late (_ : SwFrame) (c : Copy) : Bool := !c.taken && (match c.hold with
    | some h => decide (h ≤ s.now)
    | none => false)
  let k := copiesOf s n late
  if k = 0 then s
  else reportEnds n (countBy n 10 k ((endCopies n late s).modPort n (fun p => { p with
    ended := (p.ended.1 + k, if p.ended.1 = 0 then s.now else p.ended.2) })))

/-- Copies of port `n` past MAX_RESIDENCY end AGED (R333). -/
def endAged (n : Nat) (s : State) : State :=
  let late (f : SwFrame) (c : Copy) : Bool := !c.taken && decide (f.age ≤ s.now)
  let k := copiesOf s n late
  if k = 0 then s
  else reportEnds n (countBy n 9 k ((endCopies n late s).modPort n (fun p => { p with
    agedEnds := (p.agedEnds.1 + k, if p.agedEnds.1 = 0 then s.now else p.agedEnds.2) })))

/-- A port goes DOWN or DISABLED: every copy queued for it ends FLUSHED, with event 0x0A01 (R313). -/
def takeDown (n cause : Nat) (s : State) : State :=
  let st : PortState := if portDisabled s n then .disabled else .down
  if (s.port n).state ≠ .up then s.modPort n (fun p => { p with state := st, cause })
  else
    let k := copiesOf s n (fun _ _ => true)
    let s1 := s.modPort n (fun p => { p with
      state := st, cause, busOff := false, tec := 0, recErr := 0, pauseUntil := none, held := false, awaiting := none
      publish := [] })
    let s2 := countBy n 8 k (endCopies n (fun _ _ => true) s1)
    emit 0x7C 0x0A01 (leBytes 1 n ++ leBytes 1 (if portDisabled s n then 0 else 1) ++ leBytes 1 cause ++ zeros 1
      ++ leBytes 4 k) (0x30 + n) 0xFF s2

/-- A port comes UP, with event 0x0A01 (R313); its hold follows the buffer from then on (R330). -/
def bringUp (n cause : Nat) (s : State) : State :=
  updateHold n <| emit 0x7C 0x0A01 (leBytes 1 n ++ leBytes 1 2 ++ leBytes 1 cause) (0x30 + n) 0xFF
    (s.modPort n (fun p => { p with state := .up, upSince := s.now, slot := 0, slotAt := s.now
                                    sched := (s.conf.object (objectId 10 0xF1 n)).getD [] }))

/-- PD8 NET has switched off: every port goes down, and the cipher loop's job ends with its copy (R308, R339). -/
def netOff (s : State) : State :=
  (List.range 28).foldl (fun st n => takeDown n 6 st) (s.modCtx 3 (fun _ => none))

/-- PD8 NET is on: the internal ports pass frames (R313). -/
def netOn (s : State) : State := [24, 25, 26, 27].foldl (fun st n => if (st.port n).state = .up then st else bringUp n 6 st) s

/-! ### Ingress -/

/-- Capture cells in use (R334). -/
def captureHeld (s : State) : Nat := heldIn s (fun f => f.copies.any (fun c => c.port == 25))

/-- One copy of a frame is placed in its egress queue, or ends where it cannot be made (R313, R320, R321, R334). `cap` is the
limit of the capture cells. -/
def placeCopy (cap : Nat) (f : SwFrame) (c : Copy) (a : State × List Copy) : State × List Copy :=
  let s := a.1
  let n := c.port
  match blockedId s f n with
  | some k =>
    (emitKeyed f.stamp f.tag 0x0A05 (0x30 + f.port) (leBytes 1 f.port ++ leBytes 1 k.1 ++ zeros 2 ++ leBytes 4 k.2)
      (count f.port 11 s), a.2)
  | none =>
    if n = 25 ∧ cap ≤ captureHeld s then (s.modSw (fun w => { w with skipped := wrapAdd 32 w.skipped 1 }), a.2)
    else if (formCopy s f n).isNone then (count n 6 s, a.2)
    else if (s.port n).state ≠ .up then (count n 8 s, a.2)
    else (s, a.2 ++ [c])

/-- A frame's copies are queued and the frame is held while one is left; the hold is for a frame with copies to more than
one port other than P25 (R326, R333). -/
def storeFrame (c : Conf) (f : SwFrame) (ports : List (Nat × Nat)) (hold : Nat) (s : State) : State :=
  let multi := decide (1 < (ports.filter (fun p =>
    p.1 ≠ 25 && (blockedId s f p.1).isNone && (formCopy s f p.1).isSome)).length)
  let until_ := if multi ∧ hold ≠ 0 then some (s.now + lsbOfMs hold) else none
  let a := ports.foldl (fun a p => placeCopy (c.nat 10 18) f { port := p.1, queue := p.2, hold := if p.1 = 25 then none else until_ } a)
    (s, ([] : List Copy))
  let s1 := if a.2.isEmpty then a.1 else a.1.modSw (fun w => { w with frames := w.frames ++ [{ f with copies := a.2 }] })
  updateHolds (s1.modSw (fun w => { w with freeMin := min w.freeMin s1.sharedFree }))

/-- The settings, table copy and generation of a lookup that began at a stamp (R318, R324, R325, R339). -/
def tableAt (s : State) (stamp : Nat) : Conf × Nat :=
  match s.sw.before with
  | some r => if stamp < r.stamp then (r.conf, r.gen) else (s.conf, s.sw.gen)
  | none => (s.conf, s.sw.gen)

/-- Egress ports with their queues for a classified frame (R318, R319, R334). -/
def egressOf (c : Conf) (n : Nat) (e : Option Bytes) : List (Nat × Nat) :=
  let base := match e with
    | some e => (setBits 28 (u32At e 24)).map (fun p => (p, u8At e 28 % 8))
    | none => if c.nat 10 13 n = 1 then [(24, 0)] else if c.nat 10 13 n = 2 then [(25, 0)] else []
  if c.nat 10 14 n = 1 ∧ !(base.any (fun p => p.1 == 25)) then base ++ [(25, 0)] else base

/-- A frame enters at port `n`: order key, lookup, admission and copies (R314, R318, R330, R332). -/
def ingress (n : Nat) (x : RxFrame) (s : State) : State :=
  let q := tget s.ev.seqs (0x60 + n)
  let tag := tagOf s.quality (0x60 + n) q
  let s1 := s.modEv (fun e => { e with seqs := tmod e.seqs (0x60 + n) (fun n => wrapAdd 16 n 1) })
  let s2 := countBy n 1 x.bytes.length (count n 0 s1)
  let tab := tableAt s2 x.lookup
  let c := tab.1
  let key := classKey x.kind n x.bytes (c.nat 10 11 n)
  let e := lookup c key
  let ports := egressOf c n e
  let s3 := if e.isNone ∧ c.nat 10 13 n = 0 then count n 4 s2 else s2
  if ports.isEmpty then s3
  else
    let k := cellsOf x.bytes.length
    match admission s3 c n k false with
    | none => emitKeyed x.stamp tag 0x0A03 (0x30 + n) (leBytes 1 n ++ leBytes 1 x.kind ++ leBytes 1 (if isCan n then 0 else 1) ++ zeros 1
        ++ slice key 1 8) (count n 5 s3)
    | some pool =>
      let f : SwFrame := { stamp := x.stamp, tag, kind := x.kind, port := n, gen := tab.2, bytes := x.bytes
                           tr := (e.map (transformOf c)).getD {}, pool, cells := k
                           age := x.stamp + lsbOfMs (c.nat 10 16) }
      storeFrame c f ports (c.nat 10 17) s3

/-- A frame received on a port in the CAN wake mask restarts POWER.NET_IDLE (R122). -/
def netActivity (n : Nat) (s : State) : State :=
  if (s.nat 4 5).testBit n ∧ s.power.canWakeUntil.isSome then
    s.modPower (fun p => { p with canWakeUntil := some (s.now + lsbOfMs (s.nat 4 6)) })
  else s

/-- A frame built by the access engine: it bypasses the table and takes queue 7 of its port, with a capture copy when
SWITCH.PORT_24.CAPTURE is 1 (R322, R328). -/
def sendFrame (built port id : Nat) (data : Bytes) (s : State) : State :=
  let q := tget s.ev.seqs 0x78
  let b := leBytes 4 (id + 2 ^ 29) ++ leBytes 1 1 ++ zeros 7 ++ leBytes 2 data.length ++ zeros 2 ++ data
  match admission s s.conf 24 1 true with
  | none => s
  | some pool =>
    let f : SwFrame := { stamp := s.now, tag := tagOf s.quality 0x78 q, kind := 1, port := 24, gen := s.sw.gen, built
                         bytes := b, pool, cells := 1, age := s.now + lsbOfMs (s.nat 10 16) }
    storeFrame s.conf f ((port, 7) :: (if s.nat 10 14 24 = 1 then [(25, 0)] else [])) 0
      (countBy 24 1 b.length (count 24 0 (s.modEv (fun e => { e with seqs := tmod e.seqs 0x78 (fun n => wrapAdd 16 n 1) }))))

/-- A frame of the access engine goes out, or waits for PD8 NET, which comes on for it (R28). -/
def accessFrame (built port id : Nat) (data : Bytes) (s : State) : State :=
  if s.powered 8 then sendFrame built port id data s
  else power [8] (s.modAccess (fun a => { a with outbox := a.outbox ++ [{ built, port, id, data, at_ := s.now }] }))

/-- A waiting frame can be queued: its port is up, or it has waited as long as a frame may (R28, R329). -/
def BuiltFrame.goes (s : State) (f : BuiltFrame) : Bool :=
  (tget s.sw.ports f.port).state == .up || decide (f.at_ + lsbOfMs (s.nat 10 16) ≤ s.now)

/-- Frames that waited for PD8 NET are queued (R28). -/
def flushOutbox (s : State) : State :=
  if s.access.outbox = [] ∨ s.powered 8 = false then s
  else (s.access.outbox.filter (BuiltFrame.goes s)).foldl (fun t f => sendFrame f.built f.port f.id f.data t)
    (s.modAccess (fun a => { a with outbox := a.outbox.filter (fun f => !f.goes s) }))

/-! ### Egress -/

/-- The frame whose copy port `n` sends next: the head of its highest non-empty queue (R326). -/
def headCopy (s : State) (n : Nat) : Option (SwFrame × Copy) :=
  (s.sw.frames.filterMap (fun f => (f.copies.find? (fun c => c.port == n)).map (fun c => (f, c)))).foldl (fun b x =>
    match b with
    | none => some x
    | some y => if y.2.queue < x.2.queue then some x else some y) none

/-- The copy of a frame on port `n` is gone. -/
def dropHead (n : Nat) (f : SwFrame) (s : State) : State :=
  endCopies n (fun g _ => g.stamp == f.stamp && g.tag == f.tag) s

/-- The port may start a transmission (R309, R313, R326). -/
def maySend (s : State) (n : Nat) : Bool :=
  (s.port n).state == .up && !portBlocked s n && !(isCan n && s.nat 10 5 n == 1)

/-- A capture record: the frame record, cut to 2,048 bytes and padded to a multiple of 8 (R334). -/
def captureRecord (f : SwFrame) : Bytes :=
  let r := frameRecord f f.bytes false
  if r.length ≤ 2048 then r ++ zeros ((8 - r.length % 8) % 8)
  else
    let c := (frameRecord f f.bytes true).take 2048
    c.take 14 ++ leBytes 2 2024 ++ c.drop 16

/-- A frame record is delivered in the RX slot next in turn (R335–R337). -/
def deliverP27 (f : SwFrame) (s : State) : State :=
  let i := s.sw.p27Next
  let other := rxOwner s (1 - i)
  let base := 0xC400 + 0x1000 + i * 0x800
  let cut := decide (2008 < f.bytes.length)
  let seq := wrapAdd 64 s.sw.p27Seq 1
  let img := leBytes 1 1 ++ zeros 7 ++ leBytes 8 seq ++ frameRecord f (f.bytes.take 2008) cut
  let s1 := (s.modHost (fun h => { h with window := Memory.writeBytes h.window base img })).modSw
    (fun w => { w with p27Seq := seq, p27Next := 1 - i })
  if other = 0 then emit 0x7C 0x0A07 (leBytes 1 i ++ zeros 3 ++ leBytes 4 seq) 0x4B 0xFF s1 else s1

/-- A value is written in a LIN publish buffer; one it replaces unsent is counted in MEDIUM_B (R327). -/
def writePublish (n fid : Nat) (d : Bytes) (s : State) : State :=
  let old := (s.port n).publish.any (fun p => p.1 == fid && p.2.2)
  (if old then count n 15 s else s).modPort n (fun p => { p with publish := assocSet p.publish fid (d, true) })

/-- What a copy does when it is sent (R320, R327, R333–R336). -/
def sendCopy (n : Nat) (f : SwFrame) (s : State) : State :=
  match formCopy s f n with
  | none => count n 6 s
  | some (ms, skipped) =>
    let s1 := countBy n 6 skipped s
    let s2 := countBy n 3 (ms.map (fun m => m.2.length)).sum (countBy n 2 ms.length s1)
    if isLin n then writePublish n (f.tr.newId % 64) ((ms.map (·.2)).headD []) s2
    else if n = 25 then appendRecord 4 (captureRecord f) s2
    else if n = 27 then deliverP27 f s2
    else
      netActivity n (s2.modPort n (fun p => { p with
        sent := ms.map (·.2)
        ntscf := if f.tr.doEncap && isT1 n && f.kind ≤ 1 then wrapAdd 8 p.ntscf 1 else p.ntscf
        tec := if isCan n then p.tec - 1 else p.tec }))

/-! ### Generations and exposures -/

/-- The table's part of a configuration: entries and profile settings (R324). -/
def tablePart (c : Conf) : Conf :=
  { gen := c.gen, values := c.values.filter (fun v => v.1 / 0x1000000 == 10),
    objects := c.objects.filter (fun o => o.1 / 0x10000 == 0x0AF0) }

/-- An item is a table entry or a profile setting (R324). -/
def isTableItem (id : Nat) : Bool :=
  id / 0x10000 == 0x0AF0 || (id / 0x1000000 == 10 && decide (20 ≤ id / 0x10000 % 0x100) && decide (id / 0x10000 % 0x100 ≤ 25))

/-- Frames of a generation that are held. -/
def framesOfGen (s : State) (g : Nat) : Nat := (s.sw.frames.filter (fun f => f.gen == g)).length

/-- The other copy becomes active at the instant, and the previous one retires (R324). -/
def flipTable (old : Conf) (stamp : Nat) (s : State) : State :=
  let g := s.sw.gen
  emit 0x7C 0x0A02 (zeros 4 ++ leBytes 4 (wrapAdd 32 g 1) ++ leBytes 4 (framesOfGen s g)) 0 0xFF
    (s.modSw (fun w => { w with
      gen := wrapAdd 32 g 1
      retiring := some { gen := g, stamp, bound := stamp + lsbOfMs (old.nat 10 16 + 20), conf := tablePart old } }))

/-- Ports that an exposed setting restarts (R325). -/
def restartPort (id : Nat) : Option Nat :=
  if id / 0x1000000 = 10 ∧ id / 0x10000 % 0x100 ≤ 9 then some (id % 0x10000) else none

/-- An item is a setting or a table entry that decides what a lookup does (R318, R325). -/
def isLookupItem (id : Nat) : Bool := id / 0x1000000 == 10 && id / 0x10000 != 0x0AF1

/-- What an exposure does to the switch, once the configuration in force is the new one; lookups that began before the
instant keep what was in force (R324, R325). -/
def switchExposed (old : Conf) (ids : List Nat) (stamp : Nat) (s : State) : State :=
  let s0 := if ids.any isLookupItem then
      s.modSw (fun w => { w with before := some { gen := s.sw.gen, stamp, conf := tablePart old } })
    else s
  let s1 := if ids.any isTableItem then flipTable old stamp s0 else s0
  ((List.range 28).filter (fun n => ids.any (fun i => restartPort i == some n))).foldl (fun st n =>
    if (st.port n).state ≠ .up ∧ disabledBy old n ≠ portDisabled st n then
      emit 0x7C 0x0A01 (leBytes 1 n ++ leBytes 1 (b1 (!portDisabled st n))) (0x30 + n) 0xFF (takeDown n 0 st)
    else takeDown n 0 st) s1

end Sys2Proof.Machine
end

