-- ==== Sys2Proof/Machine/Field.lean ====
section
/-! DEFINITION. What the LF field array drives and when (07_lf_field_array.md): carrier, amplitude and phase targets, the
downlink keying, burst shapes, the bridge of a channel, and the edges of the capture inputs 0x40 + n. -/

namespace Sys2Proof.Machine

/-! ### Carrier and targets (R202, R203) -/

/-- D of R202. -/
def carrierDiv (s : State) : Nat := (2 * 768000000 + s.nat 6 0) / (2 * s.nat 6 0)

/-- 768 MHz ticks in epoch units (R82, R84). -/
def lsbOfTicks (n : Nat) : Nat := n * 4194304 / 3000000

/-- Target peak current of a channel at an AMP, mA (R203). -/
def lfTarget (s : State) (n amp : Nat) : Nat := s.nat 6 2 n * amp / 255

/-- Target phase: PLL ticks from the carrier reference to the rising zero crossing of the current, p × D / 256 to the nearest
tick, the later of two equally near (R203). Code 128 lies half a period after code 0: currents in antiphase (R211). -/
def phaseTicks (div p : Nat) : Nat := (2 * p * div + 256) / 512

/-- One channel's drive with its target as the settings stand at the start (R203, R213). -/
def lfDrive (s : State) (ch amp phase : Nat) : LfDrive := { ch, amp, phase, target := lfTarget s ch amp }

/-! ### Keying and shapes (R163, R207, R208) -/

/-- Manchester half-bits of a byte, most significant bit first: a 1 is carrier on, then off (R163). -/
def halfBits (b : Byte) : List Bool := [7, 6, 5, 4, 3, 2, 1, 0].flatMap (fun i => [b.toNat.testBit i, !b.toNat.testBit i])

/-- Length of the lead of a telegram, µs: what its bytes at 2 ms each leave of it (R163). -/
def LfPart.lead (p : LfPart) : Nat := p.us - 2000 * p.data.length

/-- On-time of a part as losses count it, ASK half-bits half (R215). -/
def LfPart.onUs (p : LfPart) : Nat :=
  match p.shape with
  | .ask => (p.us + p.lead) / 2
  | _ => p.us

/-- Stretches of carrier in half-bits from number `i` on, `from_` being the half-bit at which the carrier last came on: each
with its first half-bit and the one after its last. -/
def keyed : List Bool → Nat → Option Nat → List (Nat × Nat)
  | [], i, some f => [(f, i)]
  | [], _, none => []
  | true :: bs, i, f => keyed bs (i + 1) (some (f.getD i))
  | false :: bs, i, some f => (f, i) :: keyed bs (i + 1) none
  | false :: bs, i, none => keyed bs (i + 1) none

/-- Nominal on-edges and off-edges of a part, µs from the start of the sequence: half-bits of 125 µs after the lead, or the
one burst (R163, R207, R208). -/
def LfPart.bursts (p : LfPart) : List (Nat × Nat) :=
  match p.shape with
  | .ask => (keyed (List.replicate (p.lead / 125) true ++ p.data.flatMap halfBits) 0 none).map
      (fun b => (p.at_ + 125 * b.1, p.at_ + 125 * b.2))
  | _ => [(p.at_, p.at_ + p.us)]

/-- The first zero crossing of the carrier reference at or after a nominal instant, given in µs from the start of the sequence
(R208). -/
def LfSeq.instant (q : LfSeq) (us : Nat) : Nat := q.start + lsbOfTicks (q.div * ((768 * us + q.div - 1) / q.div))

/-- Channels that a sequence drives, each once. -/
def LfSeq.chans (q : LfSeq) : List Nat := (q.parts.flatMap (fun p => p.drives.map (·.ch))).eraseDups

/-- On-edges and off-edges of a channel in a sequence, as epoch stamps (R207–R209). -/
def LfSeq.bursts (q : LfSeq) (n : Nat) : List (Nat × Nat) :=
  (q.parts.filter (fun p => p.drives.any (fun d => d.ch == n))).flatMap (fun p =>
    p.bursts.map (fun b => (q.instant b.1, q.instant b.2)))

/-- Nominal length of a sequence, µs: the end of its last part. -/
def partsUs (l : List LfPart) : Nat := (l.map (fun p => p.at_ + p.us)).foldl max 0

/-- A sequence of some parts from a stamp on, with the carrier as it is set, ending with its quench (R207, R208, R213). The
quench takes at most 16 µs. -/
def lfSeqFrom (who set start : Nat) (parts : List LfPart) (s : State) : LfSeq :=
  let q : LfSeq := { who, set, parts, start, div := carrierDiv s }
  { q with end_ := q.instant (partsUs parts) + Config.quenchTime s.free % (lsbOfUs 16 + 1) }

/-- The first zero crossing of the carrier reference from now on (R208). -/
def carrierNow (s : State) : Nat := s.now + lsbOfTicks (Config.carrierWait s.free % carrierDiv s)

/-! ### A channel at present (R204, R207, R210) -/

/-- The channel drives a burst at present. -/
def fieldHigh (s : State) (n : Nat) : Bool :=
  s.lf.seqs.any (fun q => (q.bursts n).any (fun b => decide (b.1 ≤ s.now) && decide (s.now < b.2)))

/-- How the bridge of a channel stands. -/
inductive Bridge where
  /-- PD7 LF is off: the levels are those of the package (R204). -/
  | off
  /-- Both low-side switches on (R204). -/
  | hold
  /-- It drives the antenna current towards its target (R203). -/
  | drive
  /-- It drives in antiphase until the current has fallen below 10 % of target (R207). -/
  | quench
  deriving DecidableEq, Repr

/-- The bridge of a channel (R203, R204, R207): the quench of a burst lasts as long as that which ends its sequence. -/
def bridge (s : State) (n : Nat) : Bridge :=
  if s.powered 7 = false then .off
  else if fieldHigh s n then .drive
  else if s.lf.seqs.any (fun q => (q.bursts n).any (fun b =>
      decide (b.2 ≤ s.now) && decide (s.now < b.2 + (q.end_ - q.instant (partsUs q.parts))))) then .quench
  else .hold

/-- What the engine of a channel that drives regulates to: target peak in mA, and target phase in PLL ticks after the carrier
reference (R203). -/
def fieldTarget (s : State) (n : Nat) : Option (Nat × Nat) :=
  (lfRunning s).bind (fun q =>
    (q.parts.find? (fun p => p.bursts.any (fun b => decide (q.instant b.1 ≤ s.now) && decide (s.now < q.instant b.2)))).bind
      (fun p => (p.drives.find? (fun d => d.ch == n)).map (fun d => (d.target, phaseTicks q.div d.phase))))

/-- Edges of the capture inputs of the channels listed, after one stamp and up to another, in order: stamp, input, rising
(R210). -/
def fieldEdgeList (seqs : List LfSeq) (chans : List Nat) (after upto : Nat) : List (Nat × Nat × Bool) :=
  ((seqs.flatMap (fun q => chans.flatMap (fun n => (q.bursts n).flatMap (fun b =>
    [(b.1, 0x40 + n, true), (b.2, 0x40 + n, false)])))).filter (fun e => decide (after < e.1) && decide (e.1 ≤ upto))).mergeSort
      (fun a b => decide (a.1 ≤ b.1))

/-! ### The pulses of the Rangefinder (R254, R255) -/

/-- Stamp of edge `j` on capture input 0x61 in a session: a pulse at the RMARKER of POLL, then one at every challenge, each with
its rising and its falling edge. The width of a pulse is not stated and free. -/
def Sess.edgeAt (x : Sess) (j : Nat) : Nat :=
  x.since + lsbOfUs (if j < 2 then 200 else 2200 + 150 * (j / 2 - 1)) + (if j % 2 = 0 then 0 else 1 + Config.pulseWidth % lsbOfUs 100)

/-- Edges that a session gives in all, as far as it has come: none before its secrets are computed, those of POLL until RESPONSE has
been accepted, then those of the 32 challenges. -/
def Sess.edgeCount (x : Sess) : Nat := if x.ks = none then 0 else if x.response = some (true, true) then 66 else 2

end Sys2Proof.Machine
end

