-- ==== Sys2Proof/Machine/Stage.lean ====
section
/-! DEFINITION. Staging sessions: what a staging write does, whichever command makes it (R136–R139), and how the merged
configuration of a session is read (R141, R155). -/

namespace Sys2Proof.Machine

/-- Bytes an item counts towards the session's limit (R137). -/
def Item.size (i : Item) : Nat :=
  match i.val with
  | .value _ => 16
  | .object b => b.length
  | .deletion => 4

/-- Bytes staged in a session (R137). -/
def Session.bytes (x : Session) : Nat := (x.items.map Item.size).sum

/-- An item staged: it replaces an earlier one of the same setting or object (R137). -/
def putItem : List Item → Item → List Item
  | [], i => [i]
  | x :: xs, i => if x.id = i.id then i :: xs else x :: putItem xs i

/-- A prepared set of a session that is not pending is abandoned: its records are dead (R401). -/
def abandonSet (sess : Nat) (s : State) : State :=
  s.modStore (fun t => { t with
    sets := t.sets.map (fun c => if c.session = sess ∧ c.phase = 0 then { c with phase := 3 } else c) })

/-- The status with which a staging write is refused for its session's state, if it is (R138). -/
def stageRefusal (sess : Nat) (s : State) : Option Nat :=
  match (tget s.expo.sessions sess).state with
  | .closed => some St.sessionClosed
  | .exposing => some St.sessionBusy
  | _ => none

/-- Items written into a session that is OPEN or CHECKED: it becomes OPEN (R136), or the write is refused with STAGE_FULL
and stages nothing (R137). -/
def stageItems (sess : Nat) (is : List Item) (s : State) : State × Nat :=
  match stageRefusal sess s with
  | some st => (s, st)
  | none =>
    let items := is.foldl putItem (tget s.expo.sessions sess).items
    if 8192 < items.length ∨ 196608 < (items.map Item.size).sum then (s, St.stageFull)
    else
      (abandonSet sess (s.modExpo (fun e => { e with
        sessions := tmod e.sessions sess (fun x => { x with state := .opened, items, deferral := none }) })), St.ok)

/-- A staging command whose object its request lays out: staged under its object reference, with an empty response. -/
def stageObject (tk : Nat) (w : Work) (cls row idx : Nat) (b : Bytes) (s : State) : State :=
  let a := stageItems w.req.session [{ id := objectId cls row idx, val := .object b }] s
  complete tk a.2 [] a.1

/-- The staged item of a session under an ID. -/
def stagedItem (sess id : Nat) (s : State) : Option Item :=
  (tget s.expo.sessions sess).items.find? (fun i => i.id == id)

/-- A setting as the merged configuration of some items would hold it (R141). -/
def mergedGet (c : Conf) (items : List Item) (cls row : Nat) (idx : Nat := 0) : Int :=
  match items.find? (fun i => i.id == settingId cls row idx) with
  | some { val := .value v, .. } => v
  | _ => c.get cls row idx

/-- An object as the merged configuration of some items would hold it (R141). -/
def mergedObject (c : Conf) (items : List Item) (id : Nat) : Option Bytes :=
  match items.find? (fun i => i.id == id) with
  | some { val := .object b, .. } => some b
  | some { val := .deletion, .. } => none
  | _ => c.object id

/-- The courses that a set of items would leave in force (R70). -/
def mergedCourses (c : Conf) (items : List Item) : List (Nat × List Nat) :=
  items.foldl (fun cs i =>
    if i.id / 0x10000 = 0x01F0 then
      match i.val with
      | .object b => assocSet cs (i.id % 0x10000) ((List.range (u16At b 2)).map (fun k => u16At b (4 + 2 * k)))
      | .deletion => assocDel cs (i.id % 0x10000)
      | .value _ => cs
    else cs) c.courses

end Sys2Proof.Machine
end

