-- ==== Sys2Proof/Machine/Time.lean ====
section
/-! DEFINITION. Epoch, shutters, capture pairs and event router (03_time_base.md): class 0x02 commands and the time base's
own events. -/

namespace Sys2Proof.Machine

/-! ### Router, captures and shutters -/

/-- A shutter changed. -/
def State.modShut (s : State) (n : Nat) (f : Shutter → Shutter) : State :=
  s.modTime (fun t => { t with shutters := tmod t.shutters n f })
/-- A shutter. -/
def State.shut (s : State) (n : Nat) : Shutter := tget s.time.shutters n
/-- A capture pair changed. -/
def State.modCap (s : State) (n : Nat) (f : Capture → Capture) : State :=
  s.modTime (fun t => { t with captures := tmod t.captures n f })
/-- A capture pair. -/
def State.cap (s : State) (n : Nat) : Capture := tget s.time.captures n

/-- DATA of a DMA entry by its source code (R434). -/
def dmaData (s : State) (src : Nat) : Bytes :=
  if 1 ≤ src ∧ src ≤ 8 then
    let c := s.cap (src - 1)
    leBytes 8 ((c.fall.map (·.1)).getD 0) ++ leBytes 4 c.width ++ leBytes 4 c.capSeq
  else
    let x := tget s.safe.sensors (src - 0x11)
    leBytes 4 (unsext 32 x.value) ++ leBytes 8 x.stamp ++ zeros 4

/-- A trigger of DMA channel `n`: an entry joins its ring, or OVERRUN rises when the ring is full, with event 0x0E05 at
most once per second (R434). -/
def dmaTrigger (n stamp : Nat) (coarse : Bool) (s : State) : State :=
  let src := s.nat 14 2 n
  if src = 0 then s
  else
    let r := tget s.mem.dma n
    if r.entries.length < s.nat 14 3 n then
      let e := leBytes 8 stamp ++ leBytes 1 src ++ leBytes 1 (b1 coarse) ++ zeros 2 ++ leBytes 4 r.seq ++ dmaData s src
      s.modMem (fun m => { m with dma := tmod m.dma n (fun x =>
        { x with entries := x.entries ++ [(x.seq, e)], seq := wrapAdd 32 x.seq 1 }) })
    else
      let due := match r.lastEvent with
        | some t => decide (t + oneSec ≤ s.now)
        | none => true
      let s1 := s.modMem (fun m => { m with dma := tmod m.dma n (fun x =>
        { x with overrun := wrapAdd 32 x.overrun 1, lastEvent := if due then some s.now else x.lastEvent }) })
      if due then emit 6 0x0E05 (leBytes 1 n ++ zeros 3 ++ leBytes 4 (wrapAdd 32 r.overrun 1)) 0 0xFF s1 else s1

/-- An edge recorded by capture pair `n` (R102–R104), without its event and its routes. -/
def recordEdge (n : Nat) (rising : Bool) (stamp : Nat) (coarse : Bool) (s : State) : State :=
  s.modCap n (fun c =>
    if rising then
      { c with rise := some (stamp, coarse), open_ := true, riseAck := false, capSeq := wrapAdd 32 c.capSeq 1
               overrun := if c.rise.isSome && !c.riseAck then satAdd 0xFFFF c.overrun 1 else c.overrun }
    else
      let w := stamp - ((c.rise.map (·.1)).getD stamp)
      { c with fall := some (stamp, coarse), fallAck := false, capSeq := wrapAdd 32 c.capSeq 1
               overrun := if c.fall.isSome && !c.fallAck then satAdd 0xFFFF c.overrun 1 else c.overrun
               open_ := false
               widthValid := c.open_
               width := if c.open_ then min 0xFFFFFFFF w else c.width
               pulses := if c.open_ then wrapAdd 32 c.pulses 1 else c.pulses })

/-- The recorded edge with its event 0x0205 when TIME.CAP_n.EVENT is 1 (R103, R109). -/
def captureEdge (n : Nat) (rising : Bool) (stamp : Nat) (coarse : Bool) (s : State) : State :=
  let s1 := recordEdge n rising stamp coarse s
  if s.nat 2 6 n = 1 then
    emitAs (s.qualityOf coarse) stamp (0x050 + n) 0x0205 (0x80 + n) 0xFF
      (leBytes 1 (b1 rising + b1 coarse 1) ++ zeros 3 ++ leBytes 4 (s1.cap n).capSeq ++
        (if rising then zeros 4 else leBytes 4 (s1.cap n).width)) s1
  else s1

/-- DATA of event 0x0201 (R109). -/
def fireData (count : Nat) (late coarse : Bool) (missed : Nat) : Bytes :=
  leBytes 4 count ++ leBytes 1 (b1 late + b1 coarse 1) ++ zeros 1 ++ leBytes 2 (min missed 0xFFFF)

/-- Grid points A + iP, i ≥ 1, at or below the fire stamp (R100). -/
def missedPoints (a p f : Nat) : Nat := if p = 0 then 0 else (f - a) / p

/-- Missed grid points of a fire, which MISSED_COUNT and the event count: none where the fire takes a preload, nor where
`further` marks the LATE fire of a preload just taken (R99, R100). -/
def Shutter.missedNow (h : Shutter) (f : Nat) (further : Bool) : Nat :=
  if h.preValid || further then 0 else missedPoints h.active h.period f

/-- What a fire at stamp `f` does to the shutter's registers (R98–R100; log entries 190 and 191). -/
def Shutter.fired (h : Shutter) (f : Nat) (late coarse further : Bool) : Shutter :=
  let k := if h.preValid then 0 else missedPoints h.active h.period f
  let isLate := late || decide (0 < k)
  let base := { h with
    lastFire := f, lastLate := isLate, lastCoarse := coarse, fireCount := wrapAdd 32 h.fireCount 1, lastCompare := some h.active
    lateCount := if isLate then satAdd 0xFFFF h.lateCount 1 else h.lateCount
    missedCount := satAdd 0xFFFF h.missedCount (h.missedNow f further) }
  if h.preValid then
    { base with active := h.preCompare, period := h.prePeriod, preValid := false
                state := if h.prePeriod = 0 then .oneShot else .periodic }
  else if h.period = 0 then { base with state := .idle }
  else { base with active := h.active + (k + 1) * h.period }

/-- An event of router source `src` enters the router with its stamp (R105). -/
def raiseRoute (src stamp : Nat) (coarse : Bool) (s : State) : State :=
  s.modTime (fun t => { t with routing := t.routing ++ [(src, stamp, coarse)] })

/-- A fire of shutter `n` at stamp `f`: its registers, event 0x0201 when EVENT is set, and its router line (R98, R109). -/
def fireOnce (n f : Nat) (late coarse further : Bool) (s : State) : State :=
  let h := s.shut n
  let h2 := h.fired f late coarse further
  let s1 := raiseRoute (1 + n) f coarse (s.modShut n (fun _ => h2))
  if h.event then
    emitAs (s.qualityOf coarse) f (0x040 + n) 0x0201 (0x60 + n) 0xFF
      (fireData h2.fireCount h2.lastLate coarse (h.missedNow f further)) s1
  else s1

/-- Compare and period of a channel, with its state (R99). -/
def Shutter.load (h : Shutter) (compare period : Nat) : Shutter :=
  { h with active := compare, period, state := if period = 0 then .oneShot else .periodic, lastCompare := none,
           owed := false }

/-- Routes that a source feeds, in route order, as their destination codes (R105). -/
def routesFrom (s : State) (src : Nat) : List Nat :=
  ((List.range 32).filter (fun r => s.nat 2 7 r == src)).map (fun r => s.nat 2 8 r)

/-- A routed event reaches its destination: shutters 0–11, router captures, conversion starts, DMA lines (R100, R105). A fire
or an edge that it causes enters the router in turn. -/
def arrive (d stamp : Nat) (coarse : Bool) (s : State) : State :=
  if 1 ≤ d ∧ d ≤ 12 then
    let n := d - 1
    if (s.shut n).state = .idle then
      let s1 := s.modShut n (fun h => h.load (stamp + s.nat 2 2 n) (s.nat 2 3 n))
      if stamp + s.nat 2 2 n ≤ s.now then fireOnce n s.now true s.coarse false s1 else s1
    else s.modShut n (fun h => { h with dropped := satAdd 0xFFFF h.dropped 1 })
  else if 0x11 ≤ d ∧ d ≤ 0x18 then
    if s.nat 2 4 (d - 0x11) = 0x10 then raiseRoute d stamp coarse (captureEdge (d - 0x11) true stamp coarse s) else s
  else if 0x21 ≤ d ∧ d ≤ 0x30 then
    s.modSafe (fun f => { f with sensors := tmod f.sensors (d - 0x21) (fun x => { x with trig := some stamp }) })
  else if 0x31 ≤ d ∧ d ≤ 0x38 then dmaTrigger (d - 0x31) stamp coarse s
  else s

/-- The events of one cycle pass the router: each route in its number's order carries those of its source (R105). -/
def routeWave (evs : List (Nat × Nat × Bool)) (s : State) : State :=
  (List.range 32).foldl (fun st r => (evs.filter (fun e => e.1 != 0 && e.1 == s.nat 2 7 r)).foldl
    (fun u e => arrive (s.nat 2 8 r) e.2.1 e.2.2 u) st) s

/-- The router carries the events that wait, and those that these cause, through `k` passes; what is left then waits for the
next clock period (R105). -/
def runRoutes : Nat → State → State
  | 0, s => s
  | k + 1, s => match s.time.routing with
    | [] => s
    | evs => runRoutes k (routeWave evs (s.modTime (fun t => { t with routing := [] })))

/-- How many passes one command makes through the router. -/
def routeDepth : Nat := 32

/-- One 384 MHz system cycle of the epoch (R5): two PLL ticks; one clock period where the PLL does not run. -/
def nextCycle (s : State) : State := advance (if s.eave.depth ≤ 1 ∧ s.time.fine = true then 2 else 1) s

/-- A fire of shutter `n`, and the further LATE fire in the next cycle when it took a preload at or below its stamp
(R98–R100). -/
def fire (n f : Nat) (late : Bool) (s : State) : State :=
  let s1 := fireOnce n f late s.coarse false s
  if (s.shut n).preValid = true ∧ (s1.shut n).active ≤ f then
    let s2 := nextCycle s1
    fireOnce n s2.now true s2.coarse true s2
  else s1

/-- A fire with what its router line brings about. -/
def fireRouted (n f : Nat) (late : Bool) (s : State) : State := runRoutes routeDepth (fire n f late s)

/-- Shutter `n` is armed and its compare is reached now. -/
def Shutter.due (h : Shutter) (now : Nat) : Bool := h.state != .idle && decide (h.active ≤ now)

/-- A fire that falls in this cycle comes before a write, a DISARM or an exposure load of the same cycle (R100). -/
def fireDue (n : Nat) (s : State) : State := if (s.shut n).due s.now then fireRouted n s.now false s else s

/-- The epoch reaches the compare of shutter `n`, unless another armed compare lies before it: the state at that stamp
(R98). -/
def reachCompare (n : Nat) (s : State) : Option State :=
  let h := s.shut n
  if h.state = .idle then none
  else if h.active ≤ s.now ∨ (h.active ≤ lastEpoch ∧ (otherCompares n s).all (fun c => decide (h.active ≤ c)) = true) then
    some (reach h.active s)
  else none

/-- More than the last increment of the epoch has passed since the compare: it was held (R98, R100). -/
def overdue (compare : Nat) (s : State) : Bool :=
  decide (compare + (if s.coarse then 32802 else if s.eave.depth ≤ 1 then 2 else 28) ≤ s.now)

/-- The fire of a firmware shutter: the one already made in this cycle, or that of its compare (R97, R98, R100). -/
def firmStart (n : Nat) (s : State) : Option State :=
  if firmHeld n s then none
  else if (s.shut n).owed then some (s.modShut n (fun h => { h with owed := false }))
  else (reachCompare n s).map (fun t => fire n t.now (overdue (s.shut n).active t) t)

/-- That fire with what its router line brings about. -/
def firmFire (n : Nat) (s : State) : Option State := (firmStart n s).map (runRoutes routeDepth)

/-- A firmware shutter is armed; a compare at or below the present count fires at once with LATE (R97, R99, R100). -/
def armFirm (n compare period : Nat) (s : State) : State :=
  let s1 := s.modShut n (fun h => h.load compare period)
  if compare ≤ s.now ∧ firmHeld n s = false then (fireRouted n s.now true s1).modShut n (fun h => { h with owed := true })
  else s1

/-- SHUTTER_FIRE of a shutter 0–11 (R98–R100). -/
def execShutterFire (n : Fin 12) (s : State) : Out :=
  .next (match reachCompare n.val s with
    | some t => fireRouted n.val t.now false t
    | none => s)

/-- Clock periods that `k` system cycles of a capture filter take: two PLL ticks each at L0 and L1, a tenth of an XF cycle at
L2, and none that the PD0 counter sees (R5, R102, R104; log entry 28). -/
def filterPeriods (k : Nat) (s : State) : Nat :=
  if s.time.fine = false ∨ 3 ≤ s.eave.depth then 0 else if s.eave.depth ≤ 1 then 2 * k else (k + 9) / 10

/-- An edge of a pair whose first transition came at `stamp` (R102–R105). -/
def routedEdge (n : Nat) (rising : Bool) (stamp : Nat) (coarse : Bool) (s : State) : State :=
  runRoutes routeDepth (raiseRoute (if rising then 0x11 + n else 0x19 + n) stamp coarse (captureEdge n rising stamp coarse s))

/-- An edge of a signal of the device itself, by its input code: every pair that selects it records it (R101). -/
def signalEdge (code : Nat) (rising : Bool) (s : State) : State :=
  ((List.range 8).filter (fun n => s.nat 2 4 n == code)).foldl (fun t n => routedEdge n rising s.now s.coarse t) s

/-- LF channels whose capture input some pair selects (R101). -/
def capturedChans (s : State) : List Nat :=
  (List.range 32).filter (fun n => (List.range 8).any (fun c => s.nat 2 4 c == 0x40 + n))

/-- The capture inputs of the LF channels have their edges up to now: each pair that selects one records it with its own stamp
(R101, R210). Sequences that are over are forgotten. -/
def fieldEdges (s : State) : State :=
  if s.lf.seqs = [] then s
  else ((fieldEdgeList s.lf.seqs (capturedChans s) s.lf.edged s.now).foldl (fun t e =>
      ((List.range 8).filter (fun n => t.nat 2 4 n == e.2.1)).foldl (fun u n => routedEdge n e.2.2 e.1 u.coarse u) t) s).modLf
    (fun l => { l with edged := s.now, seqs := liveSeqs s })

/-- Capture input 0x61 has its edges up to now (R101, R254, R255). -/
def rangeEdges (s : State) : State :=
  match s.range.session with
  | none => s
  | some x =>
    let js := (List.range x.edgeCount).filter (fun j => decide (x.edges ≤ j) && decide (x.edgeAt j ≤ s.now))
    (js.foldl (fun t j => ((List.range 8).filter (fun n => t.nat 2 4 n == 0x61)).foldl
      (fun u n => routedEdge n (j % 2 == 0) (x.edgeAt j) u.coarse u) t) s).modRange
        (fun r => { r with session := r.session.map (fun y => { y with edges := x.edges + js.length }) })

/-- Every signal of the device that time alone changes has its edges up to now (R101). -/
def ownEdges (s : State) : State := rangeEdges (fieldEdges s)

/-- CAPTURE_EDGE: the ball that the pair selects changes once the epoch reaches `stamp` and holds its new level for
TIME.CAP_n.FILTER cycles; the edge carries the epoch of its first transition (R101–R104). The codes from 0x07 on are signals
that the device makes or that another command brings, which give their edges themselves. -/
def execCaptureEdge (n : Fin 8) (rising : Bool) (stamp : Nat) (s : State) : Out :=
  .next (if s.nat 2 4 n.val = 0 ∨ 7 ≤ s.nat 2 4 n.val then s
    else atDue stamp s (fun t =>
      let u := advance (filterPeriods (t.nat 2 5 n.val) t) t
      if clearUntil u.now t then routedEdge n.val rising t.now t.coarse u else t))

/-! ### Class 0x02 commands -/

/-- Whole seconds left until a stamp, rounded up (log entry 188). -/
def secondsLeft (till now : Nat) : Nat := (till - now + oneSec - 1) / oneSec

/-- Response of TIME.READ (R108). -/
def timeReadData (s : State) : Bytes :=
  leBytes 8 s.now ++ leBytes 1 s.quality
    ++ leBytes 1 (b1 s.time.unset + b1 s.time.slewEnd.isSome 1 + b1 s.time.trimSeen 2 + b1 s.time.usedFloor 3)
    ++ leBytes 2 (s.nat 2 0) ++ leBytes 2 (unsext 16 s.time.xsTrim) ++ zeros 2
    ++ leBytes 4 (unsext 32 (if s.time.slewEnd.isSome then s.time.slewPpb else 0))
    ++ leBytes 4 (match s.time.slewEnd with
      | some e => secondsLeft e s.now
      | none => 0)

/-- TIME.READ (R108). -/
def execTimeRead (tk : Fin 128) (s : State) : Out :=
  .next (command tk.val 0x0201 (fun _ s => complete tk.val St.ok (timeReadData s) s) s)

/-- The time a domain has been powered does not take in a step of the epoch (R132). -/
def keepOnTimes (by_ : Nat) (s : State) : State :=
  s.modPower (fun p => { p with domains := p.domains.map (fun d => { d with since := d.since + by_ }) })

/-- The epoch stepped to a stamp above it; every shutter whose compare it passes fires at the step cycle with LATE, in shutter
order, and what the firmware does at its own follows in that cycle (R89, R97, R100). -/
def stepEpoch (target tk : Nat) (s : State) : State :=
  let s1 := s.modTime (fun t => { t with
    epoch := target, unset := false, fineAt := t.fineAt + (target - s.now), trimFrom := t.trimFrom.map (· + (target - s.now)) })
  let s2 := emit 0 0x0202 (leBytes 8 s.now) 0 tk (keepOnTimes (target - s.now) s1)
  runRoutes routeDepth ((List.range 16).foldl (fun st n => if (s.shut n).due target && !firmHeld n s then
      (fire n st.now true st).modShut n (fun h => { h with owed := decide (12 ≤ n) })
    else st) s2)

/-- TIME.SET (R108): at or below the epoch TIME_BACKWARD; more than 86,400 s ahead while UNSET is clear, DENIED_MODE
outside WORKSHOP. Both refusals answer an empty payload (log entry 189). -/
def execTimeSet (tk : Fin 128) (s : State) : Out :=
  .next (command tk.val 0x0202 (fun w s =>
    let target := u64At w.req.payload 0
    if target ≤ s.now then complete tk.val St.timeBackward [] s
    else if s.time.unset = false ∧ lsbOfS 86400 < target - s.now ∧ s.power.mode ≠ .workshop then
      complete tk.val St.deniedMode [] s
    else complete tk.val St.ok (leBytes 8 s.now ++ leBytes 8 target) (stepEpoch target tk.val s)) s)

/-- TIME.SLEW (R89, R108): DURATION 0 ends any slew; a new slew replaces the one running. -/
def execTimeSlew (tk : Fin 128) (s : State) : Out :=
  .next (command tk.val 0x0203 (fun w s =>
    let r := sext 32 (u32At w.req.payload 0)
    let d := u32At w.req.payload 4
    let s1 := s.modTime (fun t => if d = 0 then { t with slewPpb := 0, slewEnd := none }
      else { t with slewPpb := r, slewEnd := some (s.now + lsbOfS d) })
    complete tk.val St.ok [] (emit 0 0x0204 (slice w.req.payload 0 8) 0 tk.val s1)) s)

/-- SLEW_END: the duration has run out and slew_adj returns to 0 (R108). -/
def execSlewEnd (s : State) : Out :=
  .next (match s.time.slewEnd with
    | some e => atDue e s (fun t => t.modTime (fun b => { b with slewPpb := 0, slewEnd := none }))
    | none => s)

/-- The write of TIME.SHUTTER_ARM to one shutter (R99, R100, R108): after a fire of the same cycle, and then into the preload.
EVENT acts at once (log entry 192); a refusal answers an empty payload (log entry 189). -/
def armShutter (node : Nat) (r : Req) (s0 : State) : State × Nat × Bytes :=
  let n := node - 0x60
  let s := if n < 12 then fireDue n s0 else s0
  let compare := u64At r.payload 0
  let period := u64At r.payload 8
  let ev := u8At r.payload 16 % 2 == 1
  let keep := u8At r.payload 16 / 2 % 2 == 1
  let h := s.shut n
  let c := s.now
  let answer (k : Nat) := leBytes 8 c ++ leBytes 1 k ++ zeros 7
  if 12 ≤ n then (s, St.shutterHeld, [])
  else if keep then
    if h.state ≠ .periodic ∨ period = 0 then (s, St.badArg, [])
    else match h.lastCompare with
      | none => (s.modShut n (fun h => { h with period, event := ev }), St.ok, answer 2)
      | some l =>
        if c < l + period then
          (s.modShut n (fun h => { h with active := l + period, period, event := ev }), St.ok, answer 2)
        else
          (fireRouted n c true (s.modShut n (fun h => { h with active := c, period, event := ev })), St.shutterLate, answer 2)
  else if (s0.shut n).state = .idle then
    let s1 := s.modShut n (fun h => { h.load compare period with event := ev })
    if compare ≤ c then (fireRouted n c true s1, St.shutterLate, answer 0) else (s1, St.ok, answer 0)
  else
    (s.modShut n (fun h => { h with preValid := true, preCompare := compare, prePeriod := period, event := ev }),
      St.ok, answer 1)

/-- TIME.SHUTTER_ARM (R99, R100, R108). -/
def execTimeShutterArm (tk : Fin 128) (s : State) : Out := .next (fanOut tk.val 0x0210 armShutter s)

/-- TIME.SHUTTER_DISARM of one shutter (R100, R108): after a fire of the same cycle IDLE, PRELOAD_VALID clear, counts kept. -/
def disarmShutter (node : Nat) (_ : Req) (s : State) : State × Nat × Bytes :=
  if 12 ≤ node - 0x60 then (s, St.shutterHeld, [])
  else ((fireDue (node - 0x60) s).modShut (node - 0x60) (fun h => { h with state := .idle, preValid := false }), St.ok, [])

/-- TIME.SHUTTER_DISARM (R108). -/
def execTimeShutterDisarm (tk : Fin 128) (s : State) : Out := .next (fanOut tk.val 0x0211 disarmShutter s)

/-- Tile payload of TIME.SHUTTER_READ (R108). -/
def shutterData (n : Nat) (h : Shutter) : Bytes :=
  leBytes 1 (match h.state with
      | .idle => 0
      | .oneShot => 1
      | .periodic => 2)
    ++ leBytes 1 (b1 h.preValid + b1 h.event 1 + b1 h.lastLate 2 + b1 h.lastCoarse 3 + b1 (decide (12 ≤ n)) 4)
    ++ zeros 2 ++ leBytes 4 h.fireCount ++ leBytes 8 h.active ++ leBytes 8 h.period ++ leBytes 8 h.preCompare
    ++ leBytes 8 h.prePeriod ++ leBytes 8 h.lastFire ++ leBytes 2 h.lateCount ++ leBytes 2 h.missedCount
    ++ leBytes 2 h.dropped ++ zeros 2

/-- TIME.SHUTTER_READ (R108). -/
def execTimeShutterRead (tk : Fin 128) (s : State) : Out :=
  .next (fanOut tk.val 0x0212 (fun n _ s => (s, St.ok, shutterData (n - 0x60) (s.shut (n - 0x60)))) s)

/-- TIME.SHUTTER_STAGE (R97, R108, R137). -/
def execTimeShutterStage (tk : Fin 128) (s : State) : Out :=
  .next (command tk.val 0x0213 (fun w s =>
    let n := w.req.node - 0x60
    if 12 ≤ n then complete tk.val St.shutterHeld [] s
    else if u8At w.req.payload 16 / 2 % 2 = 1 then complete tk.val St.badArg [] s
    else stageObject tk.val w 2 0xF0 n w.req.payload s) s)

/-- Tile payload of TIME.CAPTURE_READ (R108). -/
def captureData (input : Nat) (c : Capture) : Bytes :=
  leBytes 1 input
    ++ leBytes 1 (b1 c.rise.isSome + b1 c.fall.isSome 1 + b1 c.widthValid 2 + b1 ((c.rise.map (·.2)).getD false) 3
        + b1 ((c.fall.map (·.2)).getD false) 4)
    ++ leBytes 2 c.overrun ++ leBytes 4 c.capSeq ++ leBytes 8 ((c.rise.map (·.1)).getD 0)
    ++ leBytes 8 ((c.fall.map (·.1)).getD 0) ++ leBytes 4 c.width ++ leBytes 4 c.pulses

/-- TIME.CAPTURE_READ of one pair: the state before the acknowledgement, then the acknowledgement (R103, R108). -/
def readCapture (node : Nat) (r : Req) (s : State) : State × Nat × Bytes :=
  let n := node - 0x80
  let c := s.cap n
  let ack := u8At r.payload 4 % 2 == 1 && u32At r.payload 0 == c.capSeq
  (if ack then s.modCap n (fun c => { c with overrun := 0, riseAck := true, fallAck := true }) else s,
    St.ok, captureData (s.nat 2 4 n) c)

/-- TIME.CAPTURE_READ (R103, R108). -/
def execTimeCaptureRead (tk : Fin 128) (s : State) : Out := .next (fanOut tk.val 0x0220 readCapture (ownEdges s))

/-! ### The time base's own events -/

/-- TIME.XS_TRIM that makes `ticks` 768 MHz ticks over 2,097,152 XS edges agree with the edges, to the nearest unit and
within the setting's range (R85, R110). -/
def trimOf (ticks : Nat) : Int :=
  max (-2048) (min 2047 (((ticks : Int) * 2 ^ 17 * 2 + 768000000) / (2 * 768000000) - 8388608))

/-- XS_TRIM_MEASURE: XS and XF have both run for 64 s without a break (R85). -/
def execXsTrimMeasure (ticks : Nat) (s : State) : Out :=
  .next (match s.time.trimFrom with
    | some f => atDue (f + lsbOfS 64) s (fun t =>
        t.modTime (fun b => { b with xsTrim := trimOf ticks, trimSeen := true, trimFrom := some t.now }))
    | none => s)

/-- A new floor of epoch + 7,200 s is written (R90). -/
def writeFloor (s : State) : State :=
  putRecord 0x0010 (leBytes 8 (s.now + lsbOfS 7200)) .nothing
    (s.modTime (fun t => { t with floor := some (s.now + lsbOfS 7200) }))

/-- EPOCH_FLOOR_WRITE: the epoch comes within 3,600 s of the floor in force, in every mode but STOWED (R90). -/
def execEpochFloorWrite (s : State) : Out :=
  .next (if s.power.mode = .stowed ∨ s.boot.phase ≠ .run then s
    else match s.time.floor with
      | some f => atDue (f - lsbOfS 3600) s writeFloor
      | none => writeFloor s)

end Sys2Proof.Machine
end

