-- ==== Sys2Proof/Machine/Lf.lean ====
section
/-! DEFINITION. The LF field array Thatch (07_lf_field_array.md): current and loss limits, faults, command sequences,
diagnoses, VLF, and class 0x06 commands. -/

namespace Sys2Proof.Machine

/-! ### Channels, currents and losses -/

/-- A channel. -/
def State.lfc (s : State) (n : Nat) : LfChan := tget s.lf.chans n
/-- A channel changed. -/
def State.modLfc (s : State) (n : Nat) (f : LfChan → LfChan) : State := s.modLf (fun l => { l with chans := tmod l.chans n f })

/-- The channel may drive: enabled and without a latched fault (R217). -/
def lfUsable (s : State) (n : Nat) : Bool := s.nat 6 1 n == 1 && !(s.lfc n).latched

/-- Channels driven at once with their target currents in units of 1/255 mA meet R205: four drive engines, the total and
2,400 mA per group. -/
def lfCurrentsOk (stepMax : Nat) (l : List (Nat × Nat)) : Bool :=
  decide (l.length ≤ 4) && decide ((l.map (·.2)).sum ≤ stepMax * 255) &&
    (List.range 4).all (fun g => decide (((l.filter (fun p => p.1 / 8 == g)).map (·.2)).sum ≤ 2400 * 255))

/-- Loss of currents (mA) over a time (µs), in units of 10 fJ: I²/2 × 0.34 Ω × t (R215). -/
def lfLoss (l : List Nat) (us : Nat) : Nat := (l.map (fun i => i * i)).sum * us * 17

/-- Recorded loss of the last 10 s (R215). -/
def lfRecent (s : State) : Nat :=
  ((s.lf.losses.filter (fun e => decide (s.now < e.1 + lsbOfS 10))).map (·.2)).sum

/-- LF.LOSS_BUDGET × 10 s, in the same units. -/
def lfBudget (s : State) : Nat := s.nat 6 7 * 10 ^ 12

/-- Why a sequence may not start: 0 supply, 1 loss budget, 2 die temperature (R215, R216, R224). -/
def lfRefusal (access : Bool) (est : Nat) (s : State) : Option Nat :=
  if !s.lf.enabled then some 0
  else if s.lf.tempHold then some 2
  else if (if access then lfBudget s else lfBudget s / 2) < est + lfRecent s then some 1
  else none

/-- A refused sequence with event 0x0603; a refusal by the loss budget begins its hold with event 0x0605 (R215, R224). -/
def lfRefuse (reason who : Nat) (s : State) : State :=
  let s1 := emit 0x30 0x0603 (leBytes 1 reason ++ leBytes 1 who) 0 0xFF s
  if reason = 1 ∧ s.lf.budgetHold = false then
    emit 0x30 0x0605 (leBytes 1 1) 0 0xFF (s1.modLf (fun l => { l with budgetHold := true }))
  else s1

/-- A sequence that starts ends a hold by the loss budget (R215). -/
def lfUnhold (s : State) : State :=
  if s.lf.budgetHold then emit 0x30 0x0605 (zeros 2) 0 0xFF (s.modLf (fun l => { l with budgetHold := false })) else s

/-- The M-die temperature passes the limits of R215, 0.1 °C. -/
def lfTemperature (t : Int) (s : State) : State :=
  if 1300 < t ∧ s.lf.tempHold = false then
    emit 0x30 0x0605 (leBytes 1 1 ++ leBytes 1 1) 0 0xFF (s.modLf (fun l => { l with tempHold := true }))
  else if t < 1250 ∧ s.lf.tempHold = true then
    emit 0x30 0x0605 (zeros 1 ++ leBytes 1 1) 0 0xFF (s.modLf (fun l => { l with tempHold := false }))
  else s

/-- A fault latches, with event 0x0601 (R217, R224). -/
def latchFault (n verdict peak : Nat) (phase : Int) (s : State) : State :=
  if (s.lfc n).latched then s
  else emit (0x10 + n) 0x0601 (leBytes 1 n ++ leBytes 1 verdict ++ zeros 2 ++ leBytes 2 peak ++ leBytes 2 (unsext 16 phase)) (0x10 + n) 0xFF
    (s.modLfc n (fun c => { c with verdict, latched := true, latchedAt := s.now, faults := satAdd 0xFFFF c.faults 1 }))

/-- DETUNED_LIVE with event 0x0608 at most once per hour per channel (R217). -/
def detuneCheck (m : LfChMeas) (s : State) : State :=
  let d := decide (m.diff < -300) || decide (300 < m.diff)
  let c := s.lfc m.ch
  let due := match c.lastDetune with
    | some t => decide (t + lsbOfS 3600 ≤ s.now)
    | none => true
  let s1 := s.modLfc m.ch (fun c => { c with detuned := d, lastDetune := if d && due then some s.now else c.lastDetune })
  if d && due then emit (0x10 + m.ch) 0x0608 (leBytes 1 m.ch ++ zeros 1 ++ leBytes 2 (unsext 16 m.diff)) (0x10 + m.ch) 0xFF s1 else s1

/-- What a burst's measurement leaves on its channel, OPEN included; `limited` marks the channel that scaled the others (R214,
R217, R223). -/
def channelMeasured (limited : Bool) (m : LfChMeas) (s : State) : State :=
  let s1 := s.modLfc m.ch (fun c => { c with
    lastPeak := m.peak, lastPhase := m.phase, headroom := m.short || limited, bursts := wrapAdd 16 c.bursts 1 })
  let s2 := detuneCheck m s1
  if m.noCurrent then latchFault m.ch 1 m.peak m.phase s2 else s2

/-- The measurement of a channel in a sequence. -/
def measOf (m : LfMeas) (n : Nat) : LfChMeas :=
  (m.chans.find? (fun c => c.ch == n)).getD { ch := n, peak := 0, phase := 0, noCurrent := true, diff := 0 }

/-- The loss of a sequence that ended, or ends, at a stamp is recorded (R215). -/
def recordLoss (at_ loss : Nat) (s : State) : State :=
  s.modLf (fun l => { l with
    losses := l.losses.filter (fun e => decide (s.now < e.1 + lsbOfS 10)) ++ [(at_, loss)] })

/-- On-time of a part in its first `us` µs, ASK half-bits half (R215). -/
def LfPart.onFor (p : LfPart) (us : Nat) : Nat :=
  match p.shape with
  | .ask => min us p.lead + (us - p.lead) / 2
  | _ => us

/-- Loss of parts as the array estimates it from the targets (R215). -/
def partsEstimate (l : List LfPart) : Nat := (l.map (fun p => lfLoss (p.drives.map (·.target)) (p.onFor p.us))).sum

/-- Loss of the first `us` µs of parts from the currents measured, at each drive's AMP (R215). -/
def partsLoss (m : LfMeas) (us : Nat) (l : List LfPart) : Nat :=
  (l.map (fun p => lfLoss (p.drives.map (fun d => (measOf m d.ch).peak * d.amp / 255)) (p.onFor (min p.us (us - p.at_))))).sum

/-- Measurements of the channels that a sequence drives. -/
def measIn (q : LfSeq) (m : LfMeas) : LfMeas := { m with chans := m.chans.filter (fun c => q.chans.contains c.ch) }

/-- A sequence's measurements: channels, headroom scaling with event 0x0606, and the recorded loss of its first `us` µs
(R214, R215, R217). -/
def lfMeasured (m : LfMeas) (q : LfSeq) (us : Nat) (s : State) : State :=
  let s1 := m.chans.foldl (fun st c => channelMeasured (m.scale != 255 && c.ch == m.limit) c st) s
  recordLoss (max s.now q.end_) (partsLoss m us q.parts)
    (if m.scale = 255 then s1 else emit 0x30 0x0606 (leBytes 1 m.scale ++ leBytes 1 m.limit) 0 0xFF s1)

/-- A sequence begins, with a free value each for the phase of the carrier reference and for its quench (R207, R208). -/
def beginSeq (q : LfSeq) (s : State) : State :=
  (s.modLf (fun f => { f with seqs := f.seqs ++ [q], edged := min f.edged (q.start - 1) })).useFree

/-- Starts of the access sequences that are booked: on shutters 13 and 15, and the next LEARN (R195, R220). -/
def lfBooked (s : State) : List Nat :=
  [13, 15].filterMap (fun n =>
    let h := tget s.time.shutters n
    if h.state = .idle then none else some h.active) ++
  (match s.access.learning with
    | some l => if l.since = 0 then [] else [(l.lastSent.map (· + lsbOfMs 500)).getD l.since]
    | none => [])

/-- No access sequence is booked to start before a command sequence of `us` µs and a quench of 16 µs would end plus 0.5 ms
(R218, R220). -/
def lfGap (us : Nat) (s : State) : Bool := (lfBooked s).all (fun c => decide (s.now + lsbOfUs (us + 516) ≤ c))

/-! ### Command sequences -/

/-- Automatic diagnosis runs at present (R219). -/
def autoDiag (s : State) : Bool := (s.power.mode == .cab || s.power.mode == .drive) && s.nat 6 8 != 0

/-- A job's ticket is still in flight; an automatic diagnosis has none and ends with the mode (R219). -/
def jobLive (s : State) (j : LfJob) : Bool :=
  match j.ticket with
  | some t => (s.ticket t).state == .accepted || (s.ticket t).state == .running
  | none => autoDiag s

/-- Jobs in acceptance order whose tickets are still in flight. -/
def lfJobs (s : State) : List LfJob := s.lf.jobs.filter (jobLive s)

/-- The job whose sequence `q` is: the first one, if it has begun and the sequence is of its kind. -/
def jobOf (s : State) (q : LfSeq) : Option LfJob :=
  (lfJobs s).head?.filter (fun j => j.begun && (j.ticket.isSome == (q.who == 1)))

/-- The first job changed, or removed. -/
def modJob (f : LfJob → Option LfJob) (s : State) : State :=
  s.modLf (fun l => { l with jobs := match lfJobs s with
    | j :: js => (f j).toList ++ js
    | [] => [] })

/-- Channels and AMP of an LF.BURST request (R223). -/
def burstChans (p : Bytes) : List (Nat × Nat × Nat) :=
  (List.range (u8At p 1)).map (fun i => (u8At p (8 + i), u8At p (12 + i), u8At p (16 + i)))

/-- The BAD_ARG rules of LF.BURST (R223), R205 with the settings in force. -/
def burstOk (p : Bytes) (s : State) : Bool :=
  let n := u8At p 1
  let l := burstChans p
  (u8At p 0 == 1 || u8At p 0 == 2) && decide (1 ≤ n) && decide (n ≤ 4) &&
    (if u8At p 0 = 1 then u32At p 4 == 500 else decide (500 ≤ u32At p 4) && decide (u32At p 4 ≤ 50000)) &&
    l.all (fun e => decide (e.1 ≤ 31) && decide (1 ≤ e.2.1)) && distinct (l.map (·.1)) &&
    ((List.range 4).filter (fun i => decide (n ≤ i))).all (fun i => u8At p (8 + i) == 0xFF && u8At p (12 + i) == 0) &&
    (n != 1 || u8At p 16 == 0) &&
    lfCurrentsOk (s.nat 6 6) (l.map (fun e => (e.1, s.nat 6 2 e.1 * e.2.1)))

/-- Default deadlines, µs (R222). -/
def lfDeadline (op d : Nat) : Nat := if d ≠ 0 then d else if op = 0x0602 then 5000000 else 1000000

/-- A command joins the jobs that wait for a gap, before those accepted later (R220). -/
def lfEnqueue (tk : Nat) (w : Work) (j : LfJob) (s : State) : State :=
  if (lfJobs s).any (fun x => x.ticket == some tk) then s
  else
    let ahead (x : LfJob) : Bool := x.begun || x.ticket.isNone || decide (x.order < w.order)
    s.modLf (fun l => { l with
      jobs := (lfJobs s).takeWhile ahead ++ [{ j with
        ticket := some tk, latest := w.accept + lsbOfUs (lfDeadline w.req.opcode w.req.deadline), order := w.order }] ++
          (lfJobs s).dropWhile ahead })

/-- An LF command accepted before a job has still to join the jobs (R220). -/
def lfBefore (s : State) (j : LfJob) : Bool :=
  j.ticket.isSome && s.flight.any (fun p => (p.2.req.opcode == 0x0602 || p.2.req.opcode == 0x0603) &&
    (s.ticket p.1).state == .accepted && decide (p.2.order < j.order) && (lfJobs s).all (fun x => x.ticket != some p.1))

/-- Response of an LF.BURST that drove nothing: START and END are 0, SCALE is unscaled (R223). -/
def burstNone : Bytes := zeros 28 ++ leBytes 1 255 ++ zeros 3

/-- LF.BURST (R222, R223). -/
def execLfBurst (tk : Fin 128) (s : State) : Out :=
  .next (command tk.val 0x0603 (fun w s =>
    if !burstOk w.req.payload s then complete tk.val St.badArg [] s
    else if (burstChans w.req.payload).any (fun e => !lfUsable s e.1) then complete tk.val St.lfChannelFault burstNone s
    else lfEnqueue tk.val w {} s) s)

/-- Tiles of a walk, each once. -/
def Work.walkTileNodes (w : Work) : List Nat := (w.walk.filter (fun x => x.kind == 0)).map (·.node)

/-- LF.DIAG (R218, R222). -/
def execLfDiag (tk : Fin 128) (s : State) : Out :=
  .next (command tk.val 0x0602 (fun w s =>
    lfEnqueue tk.val w { diag := true, tiles := w.walkTileNodes, static := u8At w.req.payload 0 % 2 == 1 } s) s)

/-- A diagnosis completes; tiles without a result take a status (R73, R218). -/
def endDiag (tk st : Nat) (s : State) : State :=
  match s.work tk with
  | some w =>
    let rest := (w.walkTileNodes.filter (fun n => !(w.results.any (fun r => r.node == n)))).map
      (fun n => ({ node := n, status := st } : TileRes))
    completeTiles tk w.walk (w.results ++ rest) s
  | none => s

/-- LF_COMMAND_DEADLINE: no gap before the deadline: TIMEOUT, nothing driven (R220). -/
def execLfCommandDeadline (tk : Fin 128) (s : State) : Out :=
  .next (match (lfJobs s).find? (fun j => j.ticket == some tk.val && !j.begun) with
    | some j => atDue j.latest s (fun t =>
        let t1 := t.modLf (fun l => { l with jobs := (lfJobs t).filter (fun x => x.ticket != some tk.val) })
        if j.diag then endDiag tk.val St.timeout t1 else complete tk.val St.timeout burstNone t1)
    | none => s)

/-- Length of the sequence a job starts next, µs (R218, R223). -/
def jobLength (s : State) (j : LfJob) : Nat :=
  if j.diag then (if j.seg = 0 then 500 else 2000)
  else match j.ticket with
    | some t => ((s.work t).map (fun w => u32At w.req.payload 4)).getD 500
    | none => 500

/-- The request of an LF.BURST; none for a diagnosis. -/
def jobPayload (s : State) (j : LfJob) : Option Bytes :=
  if j.diag then none else j.ticket.bind (fun t => (s.work t).map (fun w => w.req.payload))

/-- Channels of an LF.BURST; none for a diagnosis. -/
def jobBurst (s : State) (j : LfJob) : List (Nat × Nat × Nat) := ((jobPayload s j).map burstChans).getD []

/-- What that sequence drives: nothing in the static test, 100 mA at resonance in a sweep point, or the entries of the
LF.BURST at the targets that the settings in force give (R203, R213, R218). -/
def jobParts (s : State) (j : LfJob) : List LfPart :=
  if j.diag then
    [{ shape := .cw, us := jobLength s j
       drives := if j.seg = 0 then [] else (j.tiles.take 1).map (fun t => ({ ch := t - 0x10, target := 100 } : LfDrive)) }]
  else
    [{ shape := if (jobPayload s j).any (fun p => u8At p 0 == 1) then .step else .cw, us := jobLength s j
       drives := (jobBurst s j).map (fun e => lfDrive s e.1 e.2.1 e.2.2) }]

/-- The BAD_ARG rules of a job hold with the settings now in force: an exposure since may have changed the targets (R205,
R213). -/
def jobFits (s : State) (j : LfJob) : Bool :=
  ((jobPayload s j).map (fun p => burstOk p s)).getD true

/-- The present tile of a diagnosis has its result; the next tile follows, or the command completes (R72). -/
def tileDone (j : LfJob) (r : TileRes) (s : State) : State :=
  match j.ticket with
  | some t =>
    let s1 := s.modWork t (fun w => { w with results := w.results ++ [r] })
    if j.tiles.length ≤ 1 then endDiag t St.ok (modJob (fun _ => none) s1)
    else modJob (fun j => some { j with tiles := j.tiles.drop 1, seg := 0, found := 0, points := [] }) s1
  | none => modJob (fun _ => none) s

/-- A command sequence is refused: LF.BURST completes, the present tile of a diagnosis takes the status (R215, R216). -/
def refuseJob (reason : Nat) (j : LfJob) (s : State) : State :=
  let st := if reason = 0 then St.lfSupply else St.lfHot
  let s1 := lfRefuse reason (if j.ticket.isSome then 1 else 2) s
  if j.diag then tileDone j { node := j.tiles.headD 0, status := st } s1
  else match j.ticket with
    | some t => complete t st burstNone (modJob (fun _ => none) s1)
    | none => modJob (fun _ => none) s1

/-- PD7 LF is permitted to start a new sequence now. -/
def lfOpen (s : State) : Bool := s.usable 7

/-- The sequence of a job, with the limits of the channel that a diagnosis is on (R213). -/
def jobSeq (s : State) (j : LfJob) : LfSeq :=
  let n := j.tiles.headD 0x10 - 0x10
  { lfSeqFrom (if j.ticket.isSome then 1 else 2) 0xFF (carrierNow s) (jobParts s j) s with
    limits := if j.diag then (s.nat 6 4 n, s.nat 6 5 n) else (0, 0) }

/-- A job's sequence starts. -/
def startJob (j : LfJob) (s : State) : State :=
  let s1 := modJob (fun j => some { j with begun := true }) (lfUnhold s)
  let s2 := match j.ticket with
    | some t => if j.begun then s1 else start t s1
    | none => s1
  beginSeq (jobSeq s j) s2

/-- LF_COMMAND_SEQUENCE_START: the first waiting job finds a gap and starts, or is refused, as an LF.BURST is for a channel
that has latched a fault while it waited (R215–R217, R220), or for currents that exceed R205 at their present targets. -/
def execLfCommandSequenceStart (s : State) : Out :=
  .next (match lfJobs s with
    | j :: _ =>
      if lfOpen s = false ∨ lfBusy s = true ∨ lfBefore s j = true ∨ lfGap (jobLength s j) s = false ∨
          (j.begun = false ∧ j.ticket.isSome = true ∧ j.latest < s.now) then s
      else if (jobBurst s j).any (fun e => !lfUsable s e.1) = true then
        complete (j.ticket.getD 128) St.lfChannelFault burstNone (modJob (fun _ => none) s)
      else if jobFits s j = false then complete (j.ticket.getD 128) St.badArg [] (modJob (fun _ => none) s)
      else match lfRefusal false (partsEstimate (jobParts s j)) s with
        | some r => refuseJob r j s
        | none => startJob j s
    | [] => s)

/-! ### Ends of command sequences -/

/-- Signed phase in units of 360/256° from 0.1°. -/
def phaseCode (p : Int) : Int := p * 256 / 3600

/-- Response of LF.BURST (R223). -/
def burstReply (q : LfSeq) (end_ : Nat) (p : Bytes) (m : LfMeas) : Bytes :=
  let l := burstChans p
  leBytes 8 q.start ++ leBytes 8 end_ ++ padTo 8 (l.flatMap (fun e => leBytes 2 (measOf m e.1).peak))
    ++ padTo 4 (l.flatMap (fun e => leBytes 1 (unsext 8 (phaseCode (measOf m e.1).phase)))) ++ leBytes 1 m.scale ++ zeros 3

/-- Verdict of a diagnosis (R217): the lowest code other than 0 that applies, by the settings its last segment started with
(R213). -/
def diagVerdict (q : LfSeq) (static : Bool) (found : Nat) (points : List (Nat × Int)) : Nat :=
  let fit := Config.lfFit points
  let d := q.div
  let off := (fit.1 * d : Int) - 768000000
  if !static && points.all (fun p => p.1 < 10) then 1
  else if found ≠ 0 then found
  else if static then 0
  else if (q.limits.1 * d : Int) < off ∨ off < -(q.limits.1 * d : Int) then 6
  else if fit.2.1 < 50 then 7
  else if 300 < fit.2.1 then 8
  else if q.limits.2 * 10 < fit.2.2 then 9
  else 0

/-- The sweep point nearest the carrier, 0–16 (R218). -/
def nearestPoint (d : Nat) : Nat := min 16 ((768000000 + 500 * d - 119000 * d) / (1000 * d))

/-- Tile payload of LF.DIAG (R223). -/
def diagData (s : State) (div verdict : Nat) (static : Bool) (fit : Nat × Nat × Nat) (points : List (Nat × Int)) : Bytes :=
  let p := points.getD (nearestPoint div) (0, 0)
  leBytes 1 verdict ++ leBytes 1 (b1 static) ++ zeros 2 ++ leBytes 4 fit.1 ++ leBytes 2 fit.2.1 ++ leBytes 2 fit.2.2
    ++ leBytes 2 (unsext 16 p.2) ++ leBytes 2 p.1 ++ leBytes 8 s.now

/-- The largest current of a sweep, with its phase: what event 0x0601 gives of a fault that the sweep finds; the static test
drives no current (R218, R224). -/
def sweepPeak (l : List (Nat × Int)) : Nat × Int := l.foldl (fun b p => if b.1 < p.1 then p else b) (0, 0)

/-- A channel's diagnosis has its last segment: the verdict is judged, latches or clears, and is reported (R217–R219). -/
def judgeDiag (q : LfSeq) (j : LfJob) (s : State) : State :=
  let n := j.tiles.headD 0x10 - 0x10
  let v := diagVerdict q j.static j.found j.points
  let fit := if j.static then (0, 0, 0) else Config.lfFit j.points
  let fault := decide (1 ≤ v) && decide (v ≤ 5)
  let s1 := if fault then latchFault n v (sweepPeak j.points).1 (sweepPeak j.points).2 s
    else if !j.static && (s.lfc n).latched then
      emit (0x10 + n) 0x0602 (leBytes 1 n ++ leBytes 1 1) (0x10 + n) (j.ticket.getD 0xFF) (s.modLfc n (fun c => { c with latched := false }))
    else s
  let s2 := if j.static then (if fault then s1.modLfc n (fun c => { c with verdict := v }) else s1)
    else s1.modLfc n (fun c => { c with verdict := v, f0 := fit.1, q := fit.2.1, esr := fit.2.2, lastDiag := s.now })
  let s3 := emit (0x10 + n) 0x0607 (leBytes 1 n ++ leBytes 1 v ++ zeros 2 ++ leBytes 4 fit.1 ++ leBytes 2 fit.2.1
    ++ leBytes 2 fit.2.2) (0x10 + n) (j.ticket.getD 0xFF) s2
  tileDone j { node := 0x10 + n, status := St.ok, data := diagData s q.div v j.static fit j.points } s3

/-- A diagnosis loses PD7 LF with the transition in progress: the tile begun takes ABORTED, and those not started DENIED_MODE
(R72, R118, R221). -/
def abortDiag (j : LfJob) (s : State) : State :=
  match j.ticket with
  | some t => endDiag t St.deniedMode (modJob (fun _ => none) (s.modWork t (fun w => { w with
      results := w.results ++ [{ node := j.tiles.headD 0, status := St.aborted }] })))
  | none => modJob (fun _ => none) s

/-- A segment of a diagnosis has ended (R218). -/
def segmentEnd (q : LfSeq) (j : LfJob) (m : LfMeas) (s : State) : State :=
  let n := j.tiles.headD 0x10 - 0x10
  let j2 := if j.seg = 0 then { j with found := m.static, seg := 1 }
    else { j with points := j.points ++ [((measOf m n).peak, (measOf m n).phase)], seg := j.seg + 1 }
  if (j.static && j.seg == 0) || decide (17 ≤ j.seg) then judgeDiag q j2 s
  else if s.allows 7 then modJob (fun _ => some j2) s
  else abortDiag j2 s

/-- A command sequence of a job has ended: a segment of a diagnosis, which is no burst and leaves only its loss, or an
LF.BURST (R215, R218, R223). -/
def jobEnd (q : LfSeq) (j : LfJob) (m : LfMeas) (s : State) : State :=
  if j.diag then segmentEnd q j m (if j.seg = 0 then s else recordLoss s.now (partsLoss m (partsUs q.parts) q.parts) s)
  else match j.ticket with
    | some tk => match s.work tk with
      | some w =>
        complete tk (if m.scale = 255 ∧ m.chans.all (fun c => !c.short) = true then St.ok else St.lfHeadroom)
          (burstReply q s.now w.req.payload m)
          (modJob (fun _ => none) (lfMeasured m q (partsUs q.parts) s))
      | none => s
    | none => s

/-- The command sequence in progress; it stands first and alone (R220). -/
def commandSeq (s : State) : Option LfSeq := (liveSeqs s).find? (fun q => q.who != 0)

/-- A sequence leaves the array, once the capture inputs have had its edges. -/
def dropSeq (q : LfSeq) (s : State) : State :=
  (fieldEdges s).modLf (fun l => { l with seqs := l.seqs.filter (· != q) })

/-- LF_SEQUENCE_END: a command sequence ends its quench (R220, R223). -/
def execLfSequenceEnd (meas : LfMeas) (s : State) : Out :=
  .next (match commandSeq s with
    | some q => atDue q.end_ s (fun t =>
        let t1 := dropSeq q t
        match jobOf t q with
        | some j => jobEnd q j (measIn q meas) t1
        | none => t1)
    | none => s)

/-- Microseconds that a sequence has driven so far. -/
def LfSeq.ran (q : LfSeq) (now : Nat) : Nat := usOfLsb (now - q.start)

/-- Channels that drive at present have their capture inputs fall now: what drove is cut (R210, R216, R221). -/
def fieldFall (chans : List Nat) (s : State) : State :=
  (chans.filter (fieldHigh s)).foldl (fun t n => signalEdge (0x40 + n) false t) s

/-- A sequence that runs is cut: its edges end now, it leaves the array, and of the loss recorded for it the part that was driven
stays (R210, R215). -/
def cutSeq (q : LfSeq) (m : LfMeas) (s : State) : State :=
  let s1 := (fieldFall q.chans (fieldEdges s)).modLf (fun l => { l with
    seqs := l.seqs.filter (· != q), losses := l.losses.filter (fun e => e.1 != q.end_) })
  recordLoss s.now (partsLoss m (q.ran s.now) q.parts) s1

/-- A command sequence in progress is cut: LF.BURST completes with its end stamp, LF.DIAG with the cut tile NOT_RUN and no
later tile (R216, R223). -/
def cutJob (st : Nat) (q : LfSeq) (m : LfMeas) (s : State) : State :=
  match jobOf s q with
  | some j =>
    if j.diag then
      match j.ticket with
      | some t =>
        let r : TileRes := { node := j.tiles.headD 0, status := st, data := diagData s q.div 0xFF j.static (0, 0, 0) [] }
        endDiag t st (modJob (fun _ => none) (s.modWork t (fun w => { w with results := w.results ++ [r] })))
      | none => modJob (fun _ => none) s
    else match j.ticket with
      | some t => match s.work t with
        | some w => complete t st (burstReply q s.now w.req.payload m)
            (modJob (fun _ => none) (m.chans.foldl (fun u c => channelMeasured (m.scale != 255 && c.ch == m.limit) c u) s))
        | none => s
      | none => s
  | none => s

/-- The drivers are disabled: a running sequence quenches and ends, and what was to follow it in its cycle is refused (R216). The
answer tells whether it was an access sequence. -/
def vlfOff (v : Nat) (m : LfMeas) (s : State) : State × Bool :=
  let s1 := emit 0x30 0x0604 (zeros 2 ++ leBytes 2 (v / 10)) 0 0xFF (s.modLf (fun l => { l with enabled := false }))
  match liveSeqs s with
  | q :: _ =>
    let cut := cutSeq q (measIn q m) s1
    let s2 := emit 0x30 0x0603 (leBytes 1 (if q.start ≤ s.now then 4 else 0) ++ leBytes 1 q.who) 0 0xFF
      (cut.modLf (fun l => { l with seqs := [], losses := l.losses.filter (fun e => decide (e.1 ≤ s.now)) }))
    if q.who = 0 then (s2, true) else (cutJob St.lfAborted q (measIn q m) s2, false)
  | [] => (s1, false)

/-- VLF_ENABLE: VLF has stayed within 8.3–31.5 V for 10 ms (R216). -/
def execVlfEnable (v : Nat) (s : State) : Out :=
  .next (if s.lf.enabled = false ∧ 8300 ≤ v ∧ v ≤ 31500 then
      emit 0x30 0x0604 (leBytes 1 1 ++ zeros 1 ++ leBytes 2 (v / 10)) 0 0xFF (s.modLf (fun l => { l with enabled := true }))
    else s)

/-- A part without a channel that has tripped: a telegram goes on with the others, a step that names it drives nothing (R221). -/
def LfPart.without (n : Nat) (p : LfPart) : LfPart :=
  { p with drives := if p.step = 0 then p.drives.filter (fun d => d.ch != n)
             else if p.drives.any (fun d => d.ch == n) then [] else p.drives }

/-- Steps of a sequence that name a channel and are not over yet, with the poll set of its CHALLENGE (R221). -/
def LfSeq.stepsLeft (q : LfSeq) (n now : Nat) : List (Nat × Nat) :=
  (q.parts.filter (fun p => p.step != 0 && p.drives.any (fun d => d.ch == n) && decide (now < q.instant (p.at_ + p.us)))).map
    (fun p => (q.set, p.step))

/-- Channels that stop when one trips in a sequence: itself, and in a step all of them (R221). -/
def LfSeq.stopped (q : LfSeq) (n now : Nat) : List Nat :=
  n :: (q.parts.filter (fun p => p.step != 0 && p.drives.any (fun d => d.ch == n) && decide (q.instant p.at_ ≤ now) &&
    decide (now < q.instant (p.at_ + p.us)))).flatMap (fun p => (p.drives.map (·.ch)).filter (· != n))

/-- A channel trips in an access sequence: its input falls, what is left of the sequences goes on without it, and the steps that
name it are NOT_DRIVEN in this cycle (R210, R221). -/
def tripAccess (n : Nat) (q : LfSeq) (s : State) : State :=
  let out := (liveSeqs s).flatMap (fun x => x.stepsLeft n s.now)
  ((fieldFall (q.stopped n s.now) (fieldEdges s)).modLf (fun l => { l with
    seqs := l.seqs.map (fun x => { x with parts := x.parts.map (fun p =>
      if x.instant (p.at_ + p.us) ≤ s.now then p else p.without n) }) })).modAccess
    (fun a => { a with cyc := a.cyc.map (fun c => { c with out := c.out ++ out }) })

/-- LF_OVERCURRENT: at a peak from the lowest trip level on the channel stops and latches OVERCURRENT; an LF.BURST that it leaves
short ends (R206, R221). -/
def execLfOvercurrent (ch : Fin 32) (trip : LfTrip) (meas : LfMeas) (s : State) : Out :=
  .next (match lfRunning s with
    | some q =>
      if q.chans.contains ch.val ∧ 1600 ≤ trip.peak then
        let s1 := latchFault ch.val 5 trip.peak (sext 16 trip.phase) s
        if q.who = 0 then tripAccess ch.val q s1
        else if q.who = 1 ∧ ((jobOf s q).map (fun j => !j.diag)) = some true then
          cutJob St.lfHeadroom q (measIn q meas) (emit 0x30 0x0603 (leBytes 1 5 ++ leBytes 1 1) 0 0xFF (cutSeq q (measIn q meas) s1))
        else s1
      else s
    | none => s)

/-- Channels whose automatic diagnosis is due (R219). -/
def autoDue (s : State) : List Nat :=
  (List.range 32).filter (fun n => s.nat 6 1 n == 1 &&
    ((s.lfc n).lastDiag == 0 || decide ((s.lfc n).lastDiag + lsbOfS (3600 * s.nat 6 8) < s.now)))

/-- LF_AUTO_DIAG (R219). -/
def execLfAutoDiag (s : State) : Out :=
  .next (if autoDiag s = true ∧ (lfJobs s).all (fun j => j.ticket.isSome) = true then
      match autoDue s with
      | n :: _ => requestAll [7] (s.modLf (fun l => { l with jobs := lfJobs s ++ [{ diag := true, tiles := [0x10 + n] }] }))
      | [] => s
    else s)

/-! ### Commands -/

/-- Tile payload of LF.CHANNEL_READ (R223). -/
def channelData (n : Nat) (s : State) : Bytes :=
  let c := s.lfc n
  let driving := ((lfRunning s).map (fun q => q.chans.contains n)).getD false
  leBytes 1 (if s.nat 6 1 n = 0 then 0 else if c.latched then 2 else if driving then 3 else 1) ++ leBytes 1 c.verdict
    ++ leBytes 1 (b1 c.headroom + b1 c.detuned 1 + b1 (s.lf.budgetHold || s.lf.tempHold) 2 + b1 s.lf.enabled 3)
    ++ leBytes 1 (n / 8) ++ leBytes 2 (s.nat 6 2 n) ++ leBytes 2 c.lastPeak ++ leBytes 2 (unsext 16 c.lastPhase) ++ zeros 2
    ++ leBytes 4 c.f0 ++ leBytes 2 c.q ++ leBytes 2 c.esr ++ leBytes 8 c.lastDiag ++ leBytes 2 c.bursts ++ leBytes 2 c.faults

/-- LF.CHANNEL_READ (R223). -/
def execLfChannelRead (tk : Fin 128) (s : State) : Out :=
  .next (fanOut tk.val 0x0601 (fun n _ s => (s, St.ok, channelData (n - 0x10) s)) s)

/-- LF.CLEAR_FAULT of one channel (R221, R223). -/
def clearFault (node : Nat) (_ : Req) (s : State) : State × Nat × Bytes :=
  let n := node - 0x10
  if (s.lfc n).latched then
    (emit (0x10 + n) 0x0602 (leBytes 1 n) (0x10 + n) 0xFF (s.modLfc n (fun c => { c with latched := false, verdict := 0xFF })), St.ok, [])
  else (s, St.ok, [])

/-- LF.CLEAR_FAULT (R223). -/
def execLfClearFault (tk : Fin 128) (s : State) : Out := .next (fanOut tk.val 0x0604 clearFault s)

/-- PD7 LF has switched off: the array drives nothing and its command sequences end ABORTED: an LF.BURST with its end stamp, a
diagnosis with its present tile, the tiles not started DENIED_MODE (R72, R118, R221). -/
def lfOff (s : State) : State :=
  let s1 := (liveSeqs s).foldl (fun st q => cutSeq q {} st) s
  let s2 := match (lfJobs s).head? with
    | some j =>
      if j.begun = false then s1
      else if j.diag then (if j.seg ≠ 0 ∨ (commandSeq s).isSome = true then abortDiag j s1
        else match j.ticket with
          | some t => endDiag t St.deniedMode (modJob (fun _ => none) s1)
          | none => modJob (fun _ => none) s1)
      else match commandSeq s with
        | some q => cutJob St.aborted q {} s1
        | none => s1
    | none => s1
  s2.modLf (fun l => { l with seqs := [], jobs := (lfJobs s2).filter (fun j => !j.begun && j.ticket.isSome) })

end Sys2Proof.Machine
end

