-- ==== Sys2Proof/Machine/Uhf.lean ====
section
/-! DEFINITION. The sub-GHz transceiver (08_subghz_radio.md): the charter, the duty ledger, calibration and lock, host
transmissions and receive windows, the coexistence wires, and class 0x07 commands. -/

namespace Sys2Proof.Machine

/-! ### The charter (R239–R242) -/

/-- Entry `b` of a charter page (R239). -/
def bandAt (page : Bytes) (b : Nat) : Bytes := slice page (64 + 64 * b) 64
/-- F_START (R240). -/
def bandStart (e : Bytes) : Nat := u32At e 0
/-- Channel spacing, Hz (R240). -/
def bandStep (e : Bytes) : Nat := u16At e 4 * 100
/-- COUNT (R240). -/
def bandCount (e : Bytes) : Nat := u16At e 6
/-- Centre of the last channel (R240). -/
def bandLast (e : Bytes) : Nat := bandStart e + (bandCount e - 1) * bandStep e
/-- MAX_POWER, 0.25 dBm (R240). -/
def bandPower (e : Bytes) : Int := sext 16 (u16At e 40)
/-- MAX_TX_MS (R240). -/
def bandMaxTx (e : Bytes) : Nat := u16At e 42
/-- DUTY_MS (R240). -/
def bandDuty (e : Bytes) : Nat := u32At e 44
/-- MIN_OFF_MS (R240). -/
def bandOff (e : Bytes) : Nat := u16At e 48
/-- FLAGS (R240). -/
def bandFlags (e : Bytes) : Nat := u8At e 50

/-- The fields of a used band entry are in range (R240, R241). -/
def bandOk (e : Bytes) : Bool :=
  decide (10 ≤ u16At e 4) && decide (u16At e 4 ≤ 10000) && decide (1 ≤ bandCount e) && decide (bandCount e ≤ 256)
    && decide (-40 ≤ bandPower e) && decide (bandPower e ≤ 56) && decide (1 ≤ bandMaxTx e) && decide (bandMaxTx e ≤ 60000)
    && decide (bandDuty e ≤ 3600000) && decide (bandOff e ≤ 10000) && decide (bandFlags e ≤ 3) && allZero (e.drop 51)
    && decide (300000000 ≤ bandStart e) && decide (bandLast e ≤ 960000000)

/-- Two bands overlap from channel 0 to channel COUNT − 1 (R241). -/
def bandsMeet (x y : Bytes) : Bool := decide (bandStart x ≤ bandLast y) && decide (bandStart y ≤ bandLast x)

/-- No entry of the list meets a later one. -/
def bandsApart : List Bytes → Bool
  | [] => true
  | x :: xs => xs.all (fun y => !bandsMeet x y) && bandsApart xs

/-- The used entries of a page. -/
def usedBands (page : Bytes) : List Bytes := (List.range (u8At page 2)).map (bandAt page)

/-- CRC of a page with its CRC field counted as zero (R239). -/
def charterCrc (page : Bytes) : Nat := crc32 (page.take 12 ++ zeros 4 ++ page.drop 16)

/-- The page is a valid charter (R241). -/
def charterOk (page : Bytes) : Bool :=
  page.length == 4096 && charterCrc page == u32At page 12 && u16At page 0 == 1 && decide (1 ≤ u8At page 2)
    && decide (u8At page 2 ≤ 16) && u8At page 3 == 0 && allZero (slice page 10 2) && allZero (slice page 16 48)
    && (usedBands page).all bandOk && bandsApart (usedBands page) && allZero (page.drop (64 + 64 * u8At page 2))

/-- The channel of a band that a frequency equals, when its MASK bit is set (R241). -/
def bandAdmits (e : Bytes) (f : Nat) : Bool :=
  let i := (f - bandStart e) / bandStep e
  decide (bandStart e ≤ f) && f == bandStart e + i * bandStep e && decide (i < bandCount e) &&
    (leNat (slice e 8 32)).testBit i

/-- Index of the band whose mask holds a frequency (R241). -/
def bandOf (page : Bytes) (f : Nat) : Option Nat :=
  (List.range (u8At page 2)).find? (fun b => bandAdmits (bandAt page b) f)

/-- The charter is valid as the radio read it. -/
def State.charterValid (s : State) : Bool := charterOk s.uhf.charter

/-- A charter lock bit reads programmed (R404, R406). -/
def State.charterLocked (s : State) : Bool := s.store.lockA || s.store.lockB

/-- A frequency is in the channel mask of a valid charter (R241). -/
def State.inMask (s : State) (f : Nat) : Bool := s.charterValid && (bandOf s.uhf.charter f).isSome

/-- The radio reads the page: at every power-up and after every write to it (R241). -/
def loadCharter (s : State) : State :=
  let s1 := s.modUhf (fun u => { u with charter := s.store.charter })
  emit 0x00A 0x0706 (leBytes 1 (if s1.charterValid then 0 else 1) ++ zeros 3 ++ slice s1.uhf.charter 4 4) 0 0xFF s1

/-! ### The duty ledger (R243, R244) -/

/-- The whole epoch minute of a stamp (R244). -/
def minuteOf (t : Nat) : Nat := t / (60 * oneSec)

/-- The ledger brought to the present minute: buckets age out after 60 minutes (R244). -/
def Uhf.roll (u : Uhf) (now : Nat) : Uhf :=
  let k := minuteOf now - u.minute
  { u with ledger := u.ledger.map (fun l => (List.replicate (min k 60) 0 ++ l).take 60), minute := max u.minute (minuteOf now) }

/-- Charged airtime of a band in the last 60 buckets, µs. -/
def Uhf.used (u : Uhf) (b : Nat) : Nat := (tget u.ledger b).sum

/-- A list whose entry `i` is changed, extended with zeros up to it. -/
def setAt (f : Nat → Nat) : Nat → List Nat → List Nat
  | 0, [] => [f 0]
  | 0, x :: xs => f x :: xs
  | i + 1, [] => 0 :: setAt f i []
  | i + 1, x :: xs => x :: setAt f i xs

/-- A reservation enters the newest bucket (R243). -/
def Uhf.charge (u : Uhf) (b us : Nat) : Uhf := { u with ledger := tmod u.ledger b (setAt (· + us) 0) }

/-- A reservation leaves the bucket it was made in, unless that has aged out (R243). -/
def Uhf.release (u : Uhf) (r : UhfReq) : Uhf :=
  let i := u.minute - r.minute
  if i < 60 then { u with ledger := tmod u.ledger r.band (setAt (· - r.airtime) i) } else u

/-- After a loss of PD0 AON every bucket of every band starts full (R244). -/
def Uhf.fill (u : Uhf) (now : Nat) : Uhf :=
  { u with ledger := Vector.ofFn (fun b : Fin 16 => List.replicate 60 (bandDuty (bandAt u.charter b.val) * 1000 / 60)),
           minute := minuteOf now }

/-- Milliseconds of a span of epoch units, rounded up. -/
def msUp (l : Nat) : Nat := (l * 1000 + oneSec - 1) / oneSec

/-- Minutes after which the ledger leaves room for an airtime, the oldest buckets ageing out first; none when an empty
ledger leaves none. -/
def minutesUntil (l : List Nat) (us allowed : Nat) : Option Nat :=
  (List.range 61).find? (fun k => decide (us + (l.take (60 - k)).sum ≤ allowed))

/-- Why a transmission of `us` µs in band `b` meets UHF_DUTY, as its wait (R243); none where it passes. The wait of a
request that would never pass is not stated and free. -/
def dutyWait (b us : Nat) (s : State) : Option Nat :=
  let e := bandAt s.uhf.charter b
  let last := tget s.uhf.lastEnd b
  let off := if last = 0 then 0 else last + lsbOfMs (bandOff e) - s.now
  if bandMaxTx e * 1000 < us then some (Config.freeNat s.free)
  else match minutesUntil (tget s.uhf.ledger b) us (bandDuty e * 1000) with
    | none => some (Config.freeNat s.free)
    | some k =>
      let d := if k = 0 then 0 else (s.uhf.minute + k) * (60 * oneSec) - s.now
      if max d off = 0 then none else some (msUp (max d off))

/-! ### Access windows and the wires (R231, R237, R238) -/

/-- ACCESS.UHF_FREQ in Hz. -/
def accessFreq (s : State) : Nat := s.nat 5 14 * 1000

/-- An access receive window is open now. -/
def accessOpen (s : State) : Bool := s.uhf.access.any (fun w => decide (w.open_ ≤ s.now) && decide (s.now < w.end_))

/-- The front end works for an access window: from its settling on until its end, unless lock has failed twice (R227, R228). -/
def accessTaken (s : State) : Bool := s.uhf.access.any (fun w => w.begun && !w.lost)

/-- The receiver hears telegrams for the access engine at present (R227, R231). -/
def accessHears (s : State) : Bool := accessOpen s && accessTaken s && s.uhf.state == .rx

/-- Milliseconds from the fire of shutter 13 to the first answer slot: P poll telegrams and 2 ms (R168). -/
def answerLead (s : State) : Nat := 32 * u8At ((s.conf.object (objectId 5 0xF0 0)).getD []) 4 + 2

/-- Microseconds from the fire of shutter 15 to RESPONSE slot 0: T_c + 1 ms (R169). -/
def responseLead (s : State) : Nat := 58500 + 750 * (u8At ((s.conf.object (objectId 5 0xF0 0)).getD []) 1 + 1) + 1000

/-- Starts of the access windows that are booked but not open; those outside the channel mask do not open (R160–R162, R168, R169,
R241). -/
def bookedWindows (s : State) : List Nat :=
  let of (n us : Nat) : List Nat :=
    if (tget s.time.shutters n).state = .idle then [] else [(tget s.time.shutters n).active + lsbOfUs us]
  let own : List Nat := match s.uhf.access with
    | some w => if s.now < w.open_ then [w.open_] else []
    | none => []
  if s.inMask (accessFreq s) then own ++ s.uhf.sniffAt.toList ++ of 13 (answerLead s * 1000) ++ of 15 (responseLead s) else own

/-- A transmission of `us` µs of charged airtime that starts at a stamp ends at least 150 µs before the next booked access window
opens (R231). -/
def fitsAt (at_ us : Nat) (s : State) : Bool :=
  (bookedWindows s).all (fun w => decide (w ≤ at_) || decide (at_ + lsbOfUs (us + 150) ≤ w))

/-- A transmission that starts now does, and no access window is open (R231). -/
def txFits (us : Nat) (s : State) : Bool := !accessOpen s && fitsAt s.now us s

/-- RF_REQ is asserted for a booked access window at a stamp: from UHF.COEX_LEAD before it opens (R238). -/
def accessReqAt (at_ : Nat) (s : State) : Bool :=
  s.uhf.access.any (fun w => w.coex && decide (w.open_ ≤ at_ + lsbOfUs (s.nat 7 3)) && decide (at_ < w.end_))

/-- RF_REQ after a request: it stays asserted, with the priority of the next one, for a transmission that waits, and for an access
window that would assert it within 10 µs; otherwise it is released (R238). -/
def uhfWires (s : State) : State :=
  s.modUhf (fun u => match (u.serving.toList ++ u.queue).filter (fun r => r.kind == .tx && r.coex != 0) with
    | r :: _ => { u with req := true, pri := r.priority }
    | [] => if accessReqAt (s.now + lsbOfUs 10) s then { u with req := true, pri := true } else { u with req := false, pri := false })

/-! ### Calibration records (R229, R230) -/

/-- The die temperature that calibration follows, 0.1 °C (R229). -/
def dieTemp (s : State) : Int := (tget s.safe.sensors 0).value

/-- A record covers a frequency (R229). -/
def CalRec.covers (r : CalRec) (f : Nat) : Bool := decide (r.freq ≤ f + 4000000) && decide (f ≤ r.freq + 4000000)

/-- A record is still valid at a stamp, as far as it is known now (R229). -/
def CalRec.freshAt (r : CalRec) (at_ : Nat) (s : State) : Bool :=
  decide (at_ ≤ r.stamp + lsbOfS (s.nat 7 0)) && decide ((dieTemp s - r.temp).natAbs < s.nat 7 1 * 10)

/-- A record is still valid (R229). -/
def CalRec.fresh (r : CalRec) (s : State) : Bool := r.freshAt s.now s

/-- The record that covers a frequency. -/
def calFor (f : Nat) (s : State) : Option CalRec := s.uhf.records.find? (fun r => r.covers f)

/-- A record that covers a frequency will be valid at a stamp. -/
def calValidAt (at_ f : Nat) (s : State) : Bool := s.uhf.records.any (fun r => r.covers f && r.freshAt at_ s)

/-- A valid record covers a frequency. -/
def calValid (f : Nat) (s : State) : Bool := calValidAt s.now f s

/-- Cause of a calibration for a frequency (R247): 0 none since power-on, 1 frequency, 2 period, 3 temperature. -/
def calCauseFor (f : Nat) (s : State) : Nat :=
  match calFor f s with
  | none => if s.uhf.records.isEmpty then 0 else 1
  | some r => if s.now ≤ r.stamp + lsbOfS (s.nat 7 0) then 3 else 2

/-- The carrier that the synthesiser makes of a frequency, in units of 10⁻⁹ Hz: corrected by UHF.FREQ_OFFSET for the crystal's error
(R234). -/
def Uhf.carrier (u : Uhf) : Int := u.freq * (1000000000 + u.offset)

/-- The front end enters CAL (R227). -/
def enterCal (f cause : Nat) (s : State) : State :=
  s.modUhf (fun u => { u with state := .cal, freq := f, calCause := cause, locked := false })

/-- SETTLE for a frequency, with its record restored and the carrier corrected (R227, R229, R234). -/
def settleAt (f : Nat) (s : State) : State :=
  s.modUhf (fun u => { u with
    state := .settle, freq := f, locked := false, loaded := u.records.find? (fun r => r.covers f), offset := s.get 7 5 })

/-- The front end goes to a frequency: to SETTLE with a valid record, otherwise to CAL first (R227, R229). -/
def enterSettle (f : Nat) (s : State) : State :=
  if calValid f s then settleAt f s else enterCal f (calCauseFor f s) s

/-- The front end leaves RX for a frequency: to SETTLE, where the record in use stays in use though it has become invalid; to one
that no such record covers by IDLE, where it calibrates (R227, R229, R230). -/
def leaveRx (f : Nat) (s : State) : State :=
  if s.uhf.loaded.any (fun r => r.covers f) ∧ (calFor f s).isSome = true then settleAt f s
  else enterSettle f (s.modUhf (fun u => { u with state := .idle }))

/-! ### Access windows take the front end (R227, R230, R231) -/

/-- The stamp at which the front end goes to the frequency of a booked window: record restore, lock and receiver on before it
opens, or a calibration in place of the restore (R227, R230). -/
def AccWin.startAt (w : AccWin) (s : State) : Nat := w.open_ - lsbOfUs (if calValidAt w.open_ w.freq s then 73 else 225)

/-- The booked window takes the front end once its start has come and nothing runs that is not cut for it: a calibration or a
transmission (R230, R231). A receiver on its frequency stays as it is. -/
def accessBegin (s : State) : State :=
  match s.uhf.access with
  | some w =>
    let t := s.modUhf (fun u => { u with access := some { w with begun := true }, failed := false })
    if w.begun = true ∨ s.now < w.startAt s then s
    else match s.uhf.state with
      | .rx => if s.uhf.freq = w.freq then t else leaveRx w.freq t
      | .idle | .settle => enterSettle w.freq t
      | _ => s
  | none => s

/-! ### Requests (R231–R233) -/

/-- The request at the head is served while the front end is idle: it starts, and the front end goes to its frequency
(R231). -/
def uhfPick (s : State) : State :=
  if s.uhf.state ≠ .idle ∨ s.uhf.serving.isSome ∨ accessTaken s = true ∨ s.usable 5 = false then s
  else match s.uhf.queue with
  | r :: rest =>
    let lead := lsbOfUs (s.nat 7 3)
    let on := lsbOfUs (if calValid r.freq s then 73 else 225)
    let r1 := if r.kind = .rx then { r with
        coex := if s.nat 7 4 = 1 then s.nat 7 2 else 0, reqAt := s.now + (on - lead) } else r
    let s1 := start r.ticket (s.modUhf (fun u => { u with serving := some r1, queue := rest, failed := false, cut := 0 }))
    if r.kind = .cal then enterCal r.freq 5 s1 else enterSettle r.freq s1
  | [] => s

/-- The front end enters IDLE: a record in use that has become invalid is calibrated before any further request (R230); then a
booked window whose start has come goes first, and the host's requests follow (R231). -/
def uhfIdle (s : State) : State :=
  let s1 := s.modUhf (fun u => { u with state := .idle, locked := false })
  match calFor s1.uhf.freq s1 with
  | some r => if r.fresh s1 then uhfPick (accessBegin s1) else enterCal s1.uhf.freq (calCauseFor s1.uhf.freq s1) s1
  | none => uhfPick (accessBegin s1)

/-- The request served completes and the wires follow (R238). -/
def uhfClose (st : Nat) (d : Bytes) (s : State) : State :=
  match s.uhf.serving with
  | some r => complete r.ticket st d (uhfWires (s.modUhf (fun u => { u with serving := none, window := none })))
  | none => s

/-- The request served completes and the front end goes on (R227). -/
def uhfDone (st : Nat) (d : Bytes) (s : State) : State := uhfIdle (uhfClose st d s)

/-- Response of UHF.TX (R246). -/
def txReply (start end_ air : Nat) (power : Int) (cause band wait : Nat) : Bytes :=
  leBytes 8 start ++ leBytes 8 end_ ++ leBytes 4 air ++ leBytes 1 (unsext 8 power) ++ leBytes 1 cause ++ leBytes 1 band
    ++ zeros 1 ++ leBytes 4 wait ++ zeros 4

/-- Event 0x0703: a transmission is not sent (R247). -/
def notSent (st cause tk : Nat) (s : State) : State := emit 0x00A 0x0703 (leBytes 2 st ++ leBytes 1 cause) 0 tk s

/-- Response of UHF.RX (R246). -/
def rxReply (w : UhfWindow) : Bytes :=
  leBytes 1 w.packets.length ++ zeros 1 ++ leBytes 2 w.dropped ++ leBytes 4 (usOfLsb w.suspended) ++ leBytes 8 w.opened
    ++ w.packets.flatten

/-- A request ends before it emits or opens: its reservation is released (R243). -/
def uhfFail (st cause : Nat) (s : State) : State :=
  match s.uhf.serving with
  | some r =>
    match r.kind with
    | .tx => uhfClose st (txReply 0 0 r.airtime r.power cause r.band 0)
        (notSent st cause r.ticket (s.modUhf (fun u => (u.roll s.now).release r)))
    | .rx => uhfClose st (rxReply (s.uhf.window.getD {})) s
    | .cal => uhfClose st (zeros 8) s
  | none => s

/-- Stamp from which UHF.COEX_LEAD has passed since RF_REQ, where the request uses the wires (R232). -/
def leadEnd (r : UhfReq) (s : State) : Nat := if r.coex = 0 then 0 else r.reqAt + lsbOfUs (s.nat 7 3)

/-- RF_REQ has been asserted for UHF.COEX_LEAD where the request uses the wires (R232). -/
def leadOver (r : UhfReq) (s : State) : Bool := decide (leadEnd r s ≤ s.now)

/-- RF_GNT lets the request start (R232, R237). -/
def gntOk (r : UhfReq) (s : State) : Bool := r.kind != .tx || r.coex == 0 || s.uhf.gnt

/-- The request served starts once every condition of R232 holds: the PA ramp begins, or the receive window opens. -/
def uhfTry (s : State) : State :=
  match s.uhf.serving with
  | some r =>
    if s.uhf.state ≠ .settle ∨ s.uhf.locked = false ∨ accessTaken s = true ∨ leadOver r s = false ∨ gntOk r s = false ∨
        (s.uhf.window = none ∧ r.deadline < s.now) then s
    else match r.kind with
      | .tx => if txFits r.airtime s then signalEdge 0x60 true (s.modUhf (fun u => { u with state := .txRamp, started := s.now })) else s
      | .rx =>
        let us := ((s.work r.ticket).map (fun w => u32At w.req.payload 24)).getD 0
        s.modUhf (fun u => { u with state := .rx, window := some (u.window.getD { opened := s.now, end_ := s.now + lsbOfUs us }) })
      | .cal => s
  | none => s

/-- The earliest stamp from now on at which what time alone brings about lets a locked request start: the end of UHF.COEX_LEAD, or
that of a wait for booked windows (R231, R232). -/
def uhfStartAt (s : State) : Option Nat :=
  s.uhf.serving.bind (fun r =>
    if s.uhf.state ≠ .settle ∨ s.uhf.locked = false ∨ accessTaken s = true ∨ gntOk r s = false ∨ s.uhf.window.isSome = true then none
    else
      let from_ := max s.now (leadEnd r s)
      if r.kind = .tx then
        ((from_ :: (bookedWindows s).filter (fun w => decide (from_ < w))).filter (fun t => fitsAt t r.airtime s)).min?
      else some from_)

/-! ### The front end's own events -/

/-- UHF_CAL_DONE (R227, R229, R247). -/
def execUhfCalDone (ok : Bool) (tune : VcoTune) (dur : Nat) (s : State) : Out :=
  .next (if s.uhf.state ≠ .cal then s
    else
      let f := s.uhf.freq
      let s1 := if ok then s.modUhf (fun u => { u with
          records := ({ freq := f, stamp := s.now, temp := dieTemp s, band := tune.band, codes := tune.codes } :: u.records.filter (fun r => !r.covers f)).take 4
          lastCal := s.now
          calTemp := dieTemp s })
        else s
      let s2 := emit 0x00A 0x0701 (leBytes 1 s.uhf.calCause ++ leBytes 1 (b1 (!ok)) ++ leBytes 2 dur ++ leBytes 4 (f / 1000))
        0 0xFF s1
      if accessTaken s2 then settleAt ((s2.uhf.access.map (·.freq)).getD f) s2
      else match s2.uhf.serving with
        | some r =>
          if r.kind = .cal then
            uhfDone (if ok then St.ok else St.uhfLockFail) (leBytes 4 dur ++ leBytes 1 tune.band ++ zeros 3) s2
          else accessBegin (settleAt r.freq s2)
        | none => uhfPick (accessBegin (s2.modUhf (fun u => { u with state := .idle }))))

/-- Lock is declared in SETTLE: an access window has its receiver on, a request of the host starts as R232 lets it. -/
def lockNow (s : State) : State :=
  if s.uhf.state = .settle ∧ s.uhf.locked = false then
    if accessTaken s then s.modUhf (fun u => { u with state := .rx, locked := true, failed := false })
    else uhfTry (s.modUhf (fun u => { u with locked := true, failed := false }))
  else s

/-- The stamp at which a booked window will take the front end, when nothing is to lock before. -/
def accessNext (s : State) : Option Nat :=
  if s.uhf.state = .settle ∧ s.uhf.locked = false then none
  else (s.uhf.access.filter (fun w => !w.begun)).map (fun w => w.startAt s)

/-- UHF_LOCK: lock is declared (R228); where the front end is not settling, for the booked access window, once its start has
come. -/
def execUhfLock (s : State) : Out :=
  .next (match accessNext s with
    | some b => atDue b s (fun t => lockNow (accessBegin t))
    | none => lockNow s)

/-- Event 0x0704 (R247). -/
def lockEvent (kind : Nat) (state : Nat) (s : State) : State :=
  emit 0x00A 0x0704 (leBytes 1 state ++ leBytes 1 kind ++ zeros 2 ++ leBytes 4 (s.uhf.freq / 1000)) 0 0xFF s

/-- The transmission on air is cut: the ramp-down starts (R228, R238). -/
def cutTx (cause : Nat) (s : State) : State :=
  s.modUhf (fun u => { u with state := .txDown, cut := cause, downAt := s.now + lsbOfUs 16 })

/-- The state of the front end as a code (R226). -/
def UhfState.code : UhfState → Nat
  | .off => 0 | .idle => 1 | .cal => 2 | .settle => 3 | .rx => 4 | .txRamp => 5 | .tx => 6 | .txDown => 7

/-- UHF_LOCK_LOST (R228). -/
def execUhfLockLost (s : State) : Out :=
  .next (match s.uhf.state with
    | .rx => (lockEvent 1 4 s).modUhf (fun u => { u with state := .settle, locked := false })
    | .txRamp => cutTx 5 (lockEvent 1 5 s)
    | .tx => cutTx 5 (lockEvent 1 6 s)
    | _ => s)

/-- What the air carries for a UHF.TX request (R235). -/
def airPacket (p : Bytes) : Bytes :=
  let body := slice p 24 (u16At p 18)
  let framed := leBytes 1 body.length ++ body
  match u8At p 13 with
  | 0 => List.replicate 4 0xAA ++ beBytes 4 0xD3915A2C ++ framed ++ beBytes 2 (crc16 framed)
  | 1 => List.replicate (u8At p 16) 0xAA ++ beBytes (u8At p 17 / 8) (u32At p 20) ++ framed ++ beBytes 2 (crc16 framed)
  | _ => List.replicate (u8At p 16) 0xAA ++ beBytes (u8At p 17 / 8) (u32At p 20) ++ body

/-- Airtime of the packet of a UHF.TX request, µs, rounded up (R235). -/
def airtimeUs (p : Bytes) : Nat := ((airPacket p).length * 8 * 1000000 + u32At p 4 - 1) / u32At p 4

/-- UHF_RAMP_UP_DONE: 16 µs after its start (R227). -/
def execUhfRampUpDone (s : State) : Out :=
  .next (if s.uhf.state = .txRamp then
      atDue (s.uhf.started + lsbOfUs 16) s (fun t => t.modUhf (fun u => { u with
        state := .tx
        sent := match u.serving with
          | some r => ((t.work r.ticket).map (fun w => airPacket w.req.payload)).getD []
          | none => [] }))
    else s)

/-- UHF_TX_END: the last bit is sent (R227). -/
def execUhfTxEnd (s : State) : Out :=
  .next (match s.uhf.serving with
    | some r => if s.uhf.state = .tx then
        atDue (s.uhf.started + lsbOfUs (r.airtime - 16)) s (fun t => t.modUhf (fun u => { u with
          state := .txDown, downAt := t.now + lsbOfUs 16 }))
      else s
    | none => s)

/-- UHF_RAMP_DOWN_DONE: the transmission completes (R227, R246, R247). -/
def execUhfRampDownDone (s : State) : Out :=
  .next (match s.uhf.serving with
    | some r => if s.uhf.state = .txDown then
        atDue s.uhf.downAt s (fun t0 =>
          let t := signalEdge 0x60 false t0
          let cut := t.uhf.cut
          let t1 := t.modUhf (fun u => { u with txCount := wrapAdd 32 u.txCount 1, lastEnd := tmod u.lastEnd r.band (fun _ => t.now) })
          let t2 := emit 0x00A 0x0702 (leBytes 4 (r.freq / 1000) ++ leBytes 4 r.airtime ++ leBytes 1 (unsext 8 r.power)
            ++ leBytes 1 (b1 r.clamped + b1 (cut != 0) 1)) 0 r.ticket t1
          uhfDone (if cut ≠ 0 then St.uhfTxCut else if r.clamped then St.uhfClamped else St.ok)
            (txReply t.uhf.started t.now r.airtime r.power cut r.band 0) t2)
      else s
    | none => s)

/-- Suspended time that an access window on another frequency adds to the host window (R231). -/
def suspendedBy (w : UhfWindow) (a e : Nat) : Nat := min e w.end_ - max a w.opened

/-- The front end goes back from an access window to the host's request that waits, or to IDLE (R227, R231). -/
def accessBack (w : AccWin) (s : State) : State :=
  match s.uhf.serving with
  | some r =>
    match s.uhf.window with
    | some h =>
      if r.freq = w.freq ∧ s.uhf.state = .rx then s
      else (leaveRx r.freq s).modUhf (fun u => { u with
        window := some { h with suspended := h.suspended + (if r.freq = w.freq then 0 else suspendedBy h w.open_ s.now) } })
    | none => leaveRx r.freq s
  | none => uhfIdle s

/-- An access receive window ends (R227, R231). -/
def accessEnd (w : AccWin) (s : State) : State :=
  let s1 := uhfWires (s.modUhf (fun u => { u with access := none }))
  if w.begun = true ∧ w.lost = false then accessBack w s1 else s1

/-- UHF_LOCK_TIMEOUT: one full calibration; after a second failure IDLE and UHF_LOCK_FAIL, and an access window is lost
(R228). -/
def execUhfLockTimeout (s0 : State) : Out :=
  .next (match accessNext s0 with
    | some b => atDue b s0 (fun t => timeout (accessBegin t))
    | none => timeout s0)
where
  /-- Lock has not been declared in time. -/
  timeout (s : State) : State :=
    let s1 := s.modUhf (fun u => { u with lockFails := satAdd 0xFFFF u.lockFails 1 })
    if s.uhf.state ≠ .settle ∨ s.uhf.locked = true then s
    else if s.uhf.failed = false then enterCal s.uhf.freq 4 (s1.modUhf (fun u => { u with failed := true }))
    else
      let s2 := lockEvent 0 3 s1
      match s2.uhf.access with
      | some w =>
        if w.begun = true ∧ w.lost = false then
          accessBack w (s2.modUhf (fun u => { u with access := some { w with lost := true }, failed := false }))
        else uhfIdle (uhfFail St.uhfLockFail 1 s2)
      | none => uhfIdle (uhfFail St.uhfLockFail 1 s2)

/-- The host receive window closes: after WINDOW, or at once when MAX_PACKETS have been delivered (R246). -/
def windowEnd (w : UhfWindow) (s : State) : State :=
  uhfDone (if w.truncated then St.uhfRxTruncated else St.ok) (rxReply w) s

/-- A receive window ends (R227, R231, R246). -/
def rxWindowEnd (s : State) : State :=
    let host : Option (Nat × UhfWindow) := match s.uhf.window, s.uhf.serving with
      | some w, some r =>
        let most := ((s.work r.ticket).map (fun x => u8At x.req.payload 15)).getD 1
        let susp := match s.uhf.access with
          | some x => if x.freq ≠ r.freq ∧ x.open_ < w.end_ ∧ x.open_ ≤ s.now ∧ x.begun = true ∧ x.lost = false then
              { w with suspended := w.suspended + suspendedBy w x.open_ w.end_ } else w
          | none => w
        some (if most ≤ w.packets.length then (s.now, w) else (w.end_, susp))
      | _, _ => none
    match host, s.uhf.access with
    | some (d, w), some x => if d ≤ x.end_ then atDue d s (hostEnd w) else atDue x.end_ s (accessEnd x)
    | some (d, w), none => atDue d s (windowEnd w)
    | none, some x => atDue x.end_ s (accessEnd x)
    | none, none => s
where
  /-- The host window closes; an access window keeps the front end. -/
  hostEnd (w : UhfWindow) (t : State) : State :=
    if accessTaken t then uhfClose (if w.truncated then St.uhfRxTruncated else St.ok) (rxReply w) t else windowEnd w t

/-- Entry of a packet in the response of UHF.RX (R246). -/
def packetEntry (fmt : Nat) (p : UhfPacket) (body : Bytes) : Bytes :=
  leBytes 8 p.stamp ++ leBytes 1 (unsext 8 p.rssi) ++ leBytes 1 (b1 (fmt != 2)) ++ leBytes 2 (unsext 16 p.freqErr)
    ++ leBytes 1 body.length ++ zeros 3 ++ pad4 body

/-- A packet inside a host window (R236, R246). -/
def hostPacket (fmt fixed most : Nat) (p : UhfPacket) (w : UhfWindow) : UhfWindow × Bool :=
  if fmt ≠ 2 ∧ p.crcOk = false then ({ w with dropped := satAdd 0xFFFF w.dropped 1 }, false)
  else if w.packets.length < most then
    let body := if fmt = 2 then padTo fixed (p.body.take fixed) else p.body.take 240
    ({ w with packets := w.packets ++ [packetEntry fmt p body] }, true)
  else ({ w with dropped := satAdd 0xFFFF w.dropped 1, truncated := true }, false)

/-- UHF_PACKET_RECEIVED: delivered to the host's window, lost while that is suspended, or a packet of an access window
(R231, R236). -/
def execUhfPacketReceived (p : UhfPacket) (s : State) : Out :=
  .next (
    let count (u : Uhf) : Uhf := { u with rxPackets := wrapAdd 32 u.rxPackets 1 }
    match s.uhf.window, s.uhf.serving with
    | some w, some r =>
      let q := ((s.work r.ticket).map (fun x => x.req.payload)).getD []
      let lost := accessTaken s && s.uhf.freq != r.freq
      if lost then (if accessHears s && p.crcOk then s.modUhf count else s)
      else if s.uhf.state = .rx ∧ s.now < w.end_ then
        let a := hostPacket (u8At q 13) (u8At q 14) (u8At q 15) p w
        s.modUhf (fun u => let u1 := { u with window := some a.1 }; if a.2 then count u1 else u1)
      else s
    | _, _ => if accessHears s && p.crcOk then s.modUhf count else s)

/-- The last condition of R232, in its order, that a request has not met (R246 CAUSE). -/
def unmet (r : UhfReq) (s : State) : Nat :=
  if s.uhf.serving ≠ some r ∧ (s.uhf.serving.any (fun x => x.kind != .cal) ∨
      s.uhf.queue.any (fun x => decide (x.order < r.order) && x.kind != .cal) = true) then 4
  else if gntOk r s = false ∨ leadOver r s = false then 3
  else if accessOpen s || accessTaken s || !txFits r.airtime s then 2
  else 1

/-- The request served or waiting whose deadline comes first, among those that have not begun. -/
def firstDeadline (s : State) : Option UhfReq :=
  let begun := s.uhf.state == .txRamp || s.uhf.state == .tx || s.uhf.state == .txDown || s.uhf.window.isSome
  let l := ((if begun then [] else s.uhf.serving.toList) ++ s.uhf.queue).filter (fun r => r.kind != .cal)
  l.foldl (fun b r => match b with
    | none => some r
    | some x => if r.deadline < x.deadline then some r else some x) none

/-- A request that waits is late: TX_LATE or UHF_RX_LATE (R232). -/
def lateWaiting (r : UhfReq) (s : State) : State :=
  let s1 := s.modUhf (fun u => { u with queue := u.queue.filter (fun x => x.ticket != r.ticket) })
  match r.kind with
  | .tx => uhfWires (complete r.ticket St.txLate (txReply 0 0 r.airtime r.power (unmet r s) r.band 0)
      (notSent St.txLate (unmet r s) r.ticket (s1.modUhf (fun u => (u.roll s.now).release r))))
  | _ => complete r.ticket St.uhfRxLate (rxReply {}) s1

/-- A request's deadline has come: it is late (R232). -/
def deadlineOver (r : UhfReq) (s : State) : State :=
  if s.uhf.serving = some r then
    let s1 := uhfFail (if r.kind = .tx then St.txLate else St.uhfRxLate) (unmet r s) s
    if s.uhf.state = .cal ∨ accessTaken s = true then s1 else uhfIdle s1
  else lateWaiting r s

/-- UHF_TX_DEADLINE (R232, R233): what starts before the deadline for no other reason than that time passes, starts first. -/
def execUhfTxDeadline (s : State) : Out :=
  .next (match firstDeadline s with
    | some r => match uhfStartAt s with
      | some t => if t ≤ r.deadline then atDue t s uhfTry else atDue r.deadline s (deadlineOver r)
      | none => atDue r.deadline s (deadlineOver r)
    | none => s)

/-- COEX_LEAD_EXPIRE (R232). -/
def execCoexLeadExpire (s : State) : Out :=
  .next (match s.uhf.serving with
    | some r => if s.uhf.state = .settle then atDue (leadEnd r s) s uhfTry else s
    | none => s)

/-- RF_GNT_CHANGE (R237, R238). -/
def execRfGntChange (level : Bool) (s : State) : Out :=
  .next (
    let s1 := (if s.uhf.gnt = level then s else signalEdge 0x07 level s).modUhf (fun u => { u with gnt := level })
    if level then uhfTry s1
    else match s1.uhf.serving with
      | some r =>
        if s1.uhf.gnt = s.uhf.gnt ∨ (s1.uhf.state ≠ .txRamp ∧ s1.uhf.state ≠ .tx) then s1
        else if r.coex = 1 then cutTx 6 (emit 0x00A 0x0705 (zeros 1) 0 r.ticket s1)
        else if r.coex = 2 then emit 0x00A 0x0705 (leBytes 1 1) 0 r.ticket s1
        else s1
      | none => s1)

/-! ### PD5 UHF switches (R118, R227) -/

/-- PD5 UHF is on: the front end is in IDLE (R227). -/
def uhfOn (s : State) : State := if s.uhf.state = .off then uhfIdle s else s

/-- PD5 UHF is withdrawn: the PA is off without a ramp, and what runs ends with a status; its airtime stays charged once
it has emitted (R227, R233). -/
def uhfOff (st : Nat) (s : State) : State :=
  let emitted := s.uhf.state == .txRamp || s.uhf.state == .tx || s.uhf.state == .txDown
  let s0 := if emitted then signalEdge 0x60 false s else s
  let s1 := s0.modUhf (fun u => { u with state := .off, locked := false, access := none, serving := none, window := none,
                                         queue := [], req := false, pri := false, loaded := none })
  let s2 := match s.uhf.serving with
    | some r =>
      match r.kind with
      | .tx =>
        if emitted then
          complete r.ticket st (txReply s.uhf.started s.now r.airtime r.power 0 r.band 0)
            (emit 0x00A 0x0702 (leBytes 4 (r.freq / 1000) ++ leBytes 4 r.airtime ++ leBytes 1 (unsext 8 r.power)
                ++ leBytes 1 (b1 r.clamped + 2)) 0 r.ticket (s1.modUhf (fun u => { u with
              txCount := wrapAdd 32 u.txCount 1, lastEnd := tmod u.lastEnd r.band (fun _ => s.now) })))
        else complete r.ticket st (txReply 0 0 r.airtime r.power 0 r.band 0)
          (notSent st 0 r.ticket (s1.modUhf (fun u => (u.roll s.now).release r)))
      | .rx => complete r.ticket st (rxReply (s.uhf.window.getD {})) s1
      | .cal => complete r.ticket st (zeros 8) s1
    | none => s1
  s.uhf.queue.foldl (fun t r => match r.kind with
    | .tx => if (t.ticket r.ticket).state = .accepted then
        complete r.ticket st (txReply 0 0 r.airtime r.power 0 r.band 0)
          (notSent st 0 r.ticket (t.modUhf (fun u => (u.roll s.now).release r))) else t.modUhf (fun u => (u.roll s.now).release r)
    | _ => if (t.ticket r.ticket).state = .accepted then complete r.ticket st [] t else t) s2

/-- The die temperature has moved: a record in use that it makes invalid is calibrated in IDLE (R229, R230). -/
def uhfTemperature (s : State) : State := if s.uhf.state = .idle then uhfIdle s else s

/-! ### Commands -/

/-- A host command takes its place among those that wait, in acceptance order (R231). -/
def insertReq (r : UhfReq) : List UhfReq → List UhfReq
  | [] => [r]
  | x :: xs => if r.order < x.order then r :: x :: xs else x :: insertReq r xs

/-- The command already waits or is served. -/
def uhfHas (tk : Nat) (s : State) : Bool := (s.uhf.serving.toList ++ s.uhf.queue).any (fun r => r.ticket == tk)

/-- A request joins, and is served when the front end is free. A transmission asserts RF_REQ and sets RF_PRI (R238). -/
def uhfJoin (r : UhfReq) (s : State) : State :=
  uhfPick (s.modUhf (fun u => let v := { u with queue := insertReq r u.queue }
    if r.kind = .tx ∧ r.coex ≠ 0 then { v with req := true, pri := r.priority } else v))

/-- Deadline of a class 0x07 request, µs (R245). -/
def uhfDeadline (d : Nat) : Nat := if d = 0 then 2000 else d

/-- A UHF.TX that a check of R243 refuses. -/
def txRefuse (tk st air : Nat) (power : Int) (band wait : Nat) (s : State) : State :=
  complete tk st (txReply 0 0 air power 0 band wait) (notSent st 0 tk s)

/-- The checks of an accepted UHF.TX, and its place among the requests (R231, R232, R243). -/
def admitTx (tk : Nat) (w : Work) (s0 : State) : State :=
  let p := w.req.payload
  let f := u32At p 0
  let air := airtimeUs p + 32
  let want := sext 8 (u8At p 14)
  let s := s0.modUhf (fun u => u.roll s0.now)
  if s.charterValid = false ∨ (s.charterLocked = false ∧ s.power.mode ≠ .workshop) then
    txRefuse tk St.uhfCharter air want 0xFF 0 s
  else match bandOf s.uhf.charter f with
    | none => txRefuse tk St.uhfChannel air want 0xFF 0 s
    | some b =>
      let e := bandAt s.uhf.charter b
      if (bandFlags e).testBit 0 ∨ ((bandFlags e).testBit 1 ∧ u8At p 12 = 0) then
        txRefuse tk St.uhfChannel air want b 0 s
      else match dutyWait b air s with
        | some wait => txRefuse tk St.uhfDuty air want b wait s.useFree
        | none =>
          uhfJoin { ticket := tk, kind := .tx, freq := f, deadline := w.accept + lsbOfUs (uhfDeadline w.req.deadline),
                    reqAt := w.accept, band := b, airtime := air, minute := s.uhf.minute, power := min want (bandPower e),
                    clamped := decide (bandPower e < want), priority := u8At p 15 % 2 == 1, coex := s.nat 7 2,
                    order := w.order }
            (s.modUhf (fun u => u.charge b air))

/-- The checks of an accepted UHF.RX, and its place (R231, R232, R241). -/
def admitRx (tk : Nat) (w : Work) (s : State) : State :=
  let f := u32At w.req.payload 0
  if s.charterValid = false then complete tk St.uhfCharter (rxReply {}) s
  else if s.inMask f = false then complete tk St.uhfChannel (rxReply {}) s
  else uhfJoin { ticket := tk, kind := .rx, freq := f, deadline := w.accept + lsbOfUs (uhfDeadline w.req.deadline),
                 order := w.order } s

/-- An accepted UHF.CALIBRATE takes its place (R231). -/
def admitCal (tk : Nat) (w : Work) (s : State) : State :=
  let f := u32At w.req.payload 0
  uhfJoin { ticket := tk, kind := .cal, freq := if f = 0 then accessFreq s else f, order := w.order } s

/-- A request of the front end that has been accepted and not been looked at (R231, R243). -/
def uhfNew (s : State) (p : Nat × Work) : Bool :=
  [0x0702, 0x0703, 0x0704].contains p.2.req.opcode && (s.ticket p.1).state == .accepted && !uhfHas p.1 s

/-- One accepted request is checked, whether PD5 UHF is on or not, and takes its place (R231, R243). -/
def uhfAdmit (s : State) (p : Nat × Work) : State :=
  if uhfNew s p = false then s
  else if p.2.req.opcode = 0x0702 then admitTx p.1 p.2 s
  else if p.2.req.opcode = 0x0703 then admitRx p.1 p.2 s
  else admitCal p.1 p.2 s

/-- An accepted request of class 0x07 is admitted, after those accepted before it (R231). -/
def uhfCommand (tk op : Nat) (s : State) : State :=
  match s.work tk with
  | some w =>
    if s.stew.running = true ∧ w.req.opcode = op then (s.flight.filter (fun p => decide (p.2.order ≤ w.order))).foldl uhfAdmit s
    else s
  | none => s

/-- UHF.TX (R232, R243, R246). -/
def execUhfTx (tk : Fin 128) (s : State) : Out := .next (uhfCommand tk.val 0x0702 s)

/-- UHF.RX (R232, R241, R246). -/
def execUhfRx (tk : Fin 128) (s : State) : Out := .next (uhfCommand tk.val 0x0703 s)

/-- UHF.CALIBRATE (R246). -/
def execUhfCalibrate (tk : Fin 128) (s : State) : Out := .next (uhfCommand tk.val 0x0704 s)

/-- RF_REQ is asserted for an access window or for the host's receive window now (R238). -/
def windowReq (s : State) : Bool :=
  accessReqAt s.now s || s.uhf.serving.any (fun r => r.kind == .rx && r.coex != 0 && decide (r.reqAt ≤ s.now))

/-- Response of UHF.STATUS (R246). -/
def uhfStatusData (s : State) : Bytes :=
  let u := s.uhf
  leBytes 1 u.state.code
    ++ leBytes 1 (b1 s.charterValid + b1 s.charterLocked 1 + b1 (calValid u.freq s) 2 + b1 u.gnt 3 + b1 (u.req || windowReq s) 4
        + b1 (u.pri || accessReqAt s.now s) 5)
    ++ zeros 2 ++ leBytes 4 u.freq ++ leBytes 8 u.lastCal ++ leBytes 2 (unsext 16 u.calTemp) ++ leBytes 2 u.lockFails
    ++ leBytes 4 u.txCount ++ leBytes 4 u.rxPackets ++ slice u.charter 4 4

/-- UHF.STATUS (R246). -/
def execUhfStatus (tk : Fin 128) (s : State) : Out :=
  .next (command tk.val 0x0701 (fun _ s => complete tk.val St.ok (uhfStatusData s) s) s)

/-- UHF.CHARTER_READ (R246). -/
def execUhfCharterRead (tk : Fin 128) (s : State) : Out :=
  .next (command tk.val 0x0705 (fun _ s =>
    complete tk.val St.ok (leBytes 1 (if s.charterValid then b1 s.charterLocked else 2) ++ zeros 3
      ++ leBytes 4 (charterCrc s.uhf.charter) ++ s.uhf.charter) s) s)

/-- UHF.DUTY_READ (R246). -/
def execUhfDutyRead (tk : Fin 128) (s : State) : Out :=
  .next (command tk.val 0x0706 (fun _ s =>
    let s1 := s.modUhf (fun u => u.roll s.now)
    complete tk.val St.ok ((List.range 16).flatMap (fun b =>
      leBytes 4 (s1.uhf.used b) ++ leBytes 4 (bandDuty (bandAt s1.uhf.charter b) * 1000) ++ leBytes 8 (tget s1.uhf.lastEnd b))) s1) s)

/-! ### Access receive windows -/

/-- An access receive window is booked for ACCESS.UHF_FREQ from one stamp to another, where the charter admits it; one booked
before it goes on in it. The front end takes it up in its lead (R227, R230). Outside the mask it does not open, with event 0x0706
kind 2 once per power-up (R231, R241). -/
def bookAccess (a e : Nat) (s : State) : State :=
  let f := accessFreq s
  if s.inMask f then
    accessBegin (s.modUhf (fun u => { u with access := some {
      freq := f
      open_ := a
      end_ := e
      coex := s.nat 7 2 != 0 && s.nat 7 4 == 1
      begun := u.access.any (fun w => w.begun && w.freq == f)
      lost := false } }))
  else if s.uhf.maskWarned ∨ s.charterValid = false then s
  else emit 0x00A 0x0706 (leBytes 1 2 ++ zeros 3 ++ slice s.uhf.charter 4 4) 0 0xFF (s.modUhf (fun u => { u with maskWarned := true }))

/-- What time alone lets the front end do: a booked window takes it, or a request that waited starts (R231, R232). -/
def uhfTurn (s : State) : State := if s.uhf.state = .off then s else uhfTry (accessBegin s)

end Sys2Proof.Machine
end

