-- ==== Sys2Proof/Machine/Range.lean ====
section
/-! DEFINITION. The Rangefinder (09_rangefinder.md): TDC calibration, sessions and their verdicts, port calibration, cable
mode, and class 0x08 commands. The end of a session meets the access engine in AccessCmd. -/

namespace Sys2Proof.Machine

/-! ### What may run (R252, R260) -/

/-- The TDC calibrates before the next activity: at switch-on, or after a move of 10 °C (R252). -/
def tdcOwed (s : State) : Bool := s.range.tdcDue || (s.range.tdcOk && decide (100 ≤ (dieTemp s - s.range.tdcTemp).natAbs))

/-- Enabled antenna ports (R250). -/
def rangePorts (s : State) : List Nat := (List.range 4).filter (fun n => s.nat 8 3 n == 1)

/-- Order of acceptance of a ticket's command. -/
def orderOf (s : State) (tk : Nat) : Nat := ((s.work tk).map (·.order)).getD 0

/-- The port calibration that runs goes before the cable runs that wait (R260). -/
def calibFirst (s : State) : Bool :=
  match s.range.calib, s.range.cables with
  | some c, x :: _ => decide (orderOf s c.ticket < orderOf s x.ticket)
  | some _, [] => true
  | none, _ => false

/-! ### Sessions (R253–R259) -/

/-- K_S (R253). -/
def sessionKey (k : Bytes) (x : Sess) : Bytes :=
  cmac k ([0x52, 0x47] ++ x.challenge ++ beBytes 8 x.cycle ++ beBytes 4 (Config.serial.toNat % 2 ^ 32) ++ leBytes 1 x.slot)

/-- RESP_A ‖ RESP_B as one 64-bit number (R253). -/
def responsePair (ks : Bytes) : Nat := beNat ((aesEnc ks ([0x52, 0x31] ++ zeros 14)).take 8)

/-- The bit that round `i` expects: from RESP_B when the challenge bit is 1, from RESP_A when it is 0 (R255). -/
def expectedBit (x : Sess) (i : Nat) : Bool :=
  let p := responsePair (x.ks.getD [])
  if x.c.testBit (31 - i) then p.testBit (31 - i) else p.testBit (63 - i)

/-- The STS generator of IEEE 802.15.4z under a key: AES-128 of V, whose last 32 bits count up from block to block; a segment of
64 × 512 chips takes 4,096 bits (R249, R253; log entry 205). -/
def stsBits (k v : Bytes) : Bytes :=
  (List.range 32).flatMap (fun i => aesEnc k (v.take 12 ++ beBytes 4 ((beNat (v.drop 12) + i) % 2 ^ 32)))

/-- The STS of POLL (R253). -/
def Sess.pollSts (x : Sess) : Bytes := stsBits (x.ks.getD []) (x.challenge ++ zeros 8)

/-- The STS of RESPONSE (R253). -/
def Sess.responseSts (x : Sess) : Bytes := stsBits (x.ks.getD []) (x.challenge ++ zeros 4 ++ beBytes 4 1)

/-- Received symbols correlate with the STS of RESPONSE: its own do; how many errors the correlator bears is not stated and free
(R254, R257). -/
def Sess.hears (x : Sess) (sts : Bytes) : Bool := sts == x.responseSts || Config.stsCorrelates x.responseSts sts

/-- The session that runs leaves the Rangefinder, its record stands, and the access engine has its outcome (R258, R259,
R268). -/
def closeSession (x : Sess) (rec_ : SessRec) (code cause : Nat) (s : State) : State :=
  (rangeEdges s).modRange (fun r => { r with
    session := none
    sessions := wrapAdd 32 r.sessions 1
    passes := if code = 1 then wrapAdd 32 r.passes 1 else r.passes
    suspicions := if code = 2 then wrapAdd 32 r.suspicions 1 else r.suspicions
    last := tmod r.last x.slot (fun _ => some rec_)
    ended := if x.calib then r.ended else r.ended ++ [(x.slot, code, cause)] })

/-- Round-trip limit of a bound in cm, ps (R257). -/
def limitPs (b : Nat) : Nat := (2 * b * 10000000000 * 2 + 299792458) / (2 * 299792458)

/-- A session ends without verdict, with event 0x0802 (R259). -/
def noVerdict (x : Sess) (cause : Nat) (s : State) : State :=
  emit 0x00B 0x0802 (leBytes 1 x.slot ++ leBytes 1 cause) (slotNode x.slot) 0xFF
    (closeSession x { cause, bound := x.bound, stamp := x.asked, limit := limitPs x.bound,
                      rounds := (List.replicate 32 (leBytes 4 0x7FFFFFFF ++ leBytes 1 0xFF ++ zeros 3)).flatten } 0 cause s)

/-- A calibration session has ended: it counts, with its value when it passed (R262). -/
def calibCount (value : Option Int) (s : State) : State :=
  s.modRange (fun r => { r with calib := r.calib.map (fun c => { c with ran := c.ran + 1, values := c.values ++ value.toList }) })

/-- C has been drawn: the session's key is computed in the cipher engine, or the session ends with cause 2 (R253, R254,
R259). -/
def sessDrawn (b : Bytes) (s : State) : State :=
  match s.range.session with
  | some x =>
    match (if s.powered 4 && !s.ciph.off then usableKey s (16 + x.slot) 5 else none) with
    | some k => s.modRange (fun r => { r with session := some { x with c := beNat b, ks := some (sessionKey k x) } })
    | none => (if x.calib then calibCount none else id) (noVerdict x 2 s)
  | none => s

/-- A session starts with the values in force; with the TDC not calibrated it ends at once with cause 4 (R252, R254,
R257). -/
def startSession (x : Sess) (s : State) : State :=
  let x1 := if x.calib then { x with since := s.now, delays := (List.range 4).map (fun n => if n = x.txPort then 0 else s.nat 8 4 n) }
    else { x with since := s.now, bound := s.nat 5 6, txPort := s.nat 8 1, ports := rangePorts s, delays := (List.range 4).map (fun n => s.nat 8 4 n) }
  let s1 := s.modRange (fun r => { r with session := some x1 })
  if s.range.tdcOk = false then (if x.calib then calibCount none else id) (noVerdict x1 4 s1)
  else
    let a := askQueue 1 4 s1
    match a.2 with
    | .got b => sessDrawn b a.1
    | .failed => (if x.calib then calibCount none else id) (noVerdict x1 1 a.1)
    | .waits => a.1

/-- A calibration session on the port under calibration (R262); its challenge is not stated and free. -/
def calibSession (c : PortCal) (s : State) : Sess :=
  { slot := c.slot, challenge := padTo 8 ((Config.freeBytes s.free).take 8), cycle := s.now, asked := s.now, bound := 3000, calib := true,
    txPort := c.port, ports := [c.port] }

/-! ### Port calibration (R262) -/

/-- Nearest-rank percentile of a sorted list. -/
def percentile (p : Nat) (l : List Int) : Int := l.getD ((p * l.length + 99) / 100 - 1) 0

/-- A quotient rounded to the nearest integer, upwards between two. -/
def divNear (a : Int) (b : Nat) : Int := (2 * a + b) / (2 * b)

/-- Response of RANGE.PORT_CALIBRATE (R268). -/
def calibReply (delay : Int) (spread passed : Nat) (s : State) : Bytes :=
  leBytes 4 (unsext 32 delay) ++ leBytes 4 spread ++ leBytes 1 passed ++ zeros 3 ++ leBytes 4 (unsext 32 s.range.tdcCorr)

/-- The port calibration that runs completes. -/
def calibEnd (st : Nat) (delay : Int) (spread passed : Nat) (s : State) : State :=
  match s.range.calib with
  | some c => complete c.ticket st (calibReply delay spread passed s) (s.modRange (fun r => { r with calib := none }))
  | none => s

/-- All 64 sessions have run (R262). -/
def calibJudge (c : PortCal) (s : State) : State :=
  let v := c.values.mergeSort (fun a b => decide (a ≤ b))
  let n := v.length
  if n < 48 then calibEnd St.rangeNoToken 0 0 n s
  else
    let twice := v.getD ((n - 1) / 2) 0 + v.getD (n / 2) 0
    let spread := (percentile 90 v - percentile 10 v).toNat
    if 2000 < spread then calibEnd St.rangeCalSpread 0 ((spread + 2) / 4) n s
    else calibEnd St.ok (divNear (twice * 299792458 - 16 * (c.distance : Int) * 1000000000) (16 * 299792458))
      ((spread + 2) / 4) n s

/-! ### The next activity (R260, R261) -/

/-- Access sessions come first, then the sessions of a port calibration; cable segments follow on their own. -/
def rangeNextN : Nat → State → State
  | 0, s => s
  | fuel + 1, s =>
    if s.range.session.isSome ∨ s.powered 6 = false ∨ tdcOwed s = true then s
    else match s.range.waiting with
      | x :: xs => rangeNextN fuel (startSession x (s.modRange (fun r => { r with waiting := xs })))
      | [] => match s.range.calib with
        | some c =>
          if c.tdcDone = false ∨ calibFirst s = false then s
          else if 64 ≤ c.ran then rangeNextN fuel (calibJudge c s)
          else rangeNextN fuel (startSession (calibSession c s) s.useFree)
        | none => s

/-- Whatever may run next starts. -/
def rangeNext (s : State) : State := rangeNextN 160 s

/-- The access engine requests a session (R253, R260). -/
def requestSession (x : Sess) (s : State) : State :=
  rangeNext (requestAll [6] (s.modRange (fun r => { r with waiting := r.waiting ++ [{ x with asked := s.now }] })))

/-! ### What a session receives -/

/-- RANGING_RESPONSE (R254). -/
def execRangingResponse (r : RangingRx) (s : State) : Out :=
  .next (match s.range.session with
    | some x =>
      if x.ks.isSome ∧ x.response.isNone then
        s.modRange (fun g => { g with session := some { x with response := some (r.stamped, r.stamped && x.hears r.sts) } })
      else s
    | none => s)

/-- TDC LSB of a number of ticks: 125 for three, one tick counting as 41 or 42 with a remainder of modulus 3 carried from tick to
tick, `rem` the remainder at the first of them (R252). -/
def tdcLsb (rem ticks : Nat) : Nat := (125 * ticks + rem) / 3

/-- TDC LSB from the challenge to a first path (R252, R255). -/
def hitRaw (rem : Nat) (h : PathHit) : Nat := tdcLsb rem h.ticks + h.fine

/-- The earliest corrected reply of a round on the session's ports, within 400 ns of the challenge (R250, R255). -/
def earliestHit (x : Sess) (r : FastRound) : Option PathHit :=
  let t (h : PathHit) : Int := (hitRaw r.rem h * 125 : Int) - 4 * ((x.delays.getD h.port 0 : Nat) : Int)
  ((r.hits.filter (fun h => x.ports.contains h.port && decide (hitRaw r.rem h ≤ 12800))).foldl (fun b h => match b with
    | none => some h
    | some y => if t h < t y then some h else some y) none)

/-- FAST_EXCHANGE_ROUND (R254, R255). -/
def execFastExchangeRound (r : FastRound) (s : State) : Out :=
  .next (match s.range.session with
    | some x =>
      if x.response = some (true, true) ∧ x.rounds.length < 32 ∧ x.report.isNone then
        let round : Round := match earliestHit x r with
          | some h => { raw := some (hitRaw r.rem h : Int), port := h.port, bad := h.bit != expectedBit x x.rounds.length }
          | none => {}
        s.modRange (fun g => { g with
          session := some { x with rounds := x.rounds ++ [round] }
          earliest := if round.raw.isSome then tmod g.earliest round.port (fun n => wrapAdd 32 n 1) else g.earliest })
      else s
    | none => s)

/-- RANGING_REPORT (R254, R256). -/
def execRangingReport (rep : Option Bytes) (s : State) : Out :=
  .next (match s.range.session with
    | some x =>
      if x.response = some (true, true) ∧ x.report.isNone then
        s.modRange (fun g => { g with session := some { x with report := some rep } })
      else s
    | none => s)

/-! ### The verdict (R257) -/

/-- The REPORT is received and its MAC verifies under K_S (R256, R257). -/
def reportOk (x : Sess) (p : Bytes) : Bool :=
  p.length == 20 && u8At p 0 == 0x21 && u8At p 1 == x.slot &&
    (cmac (x.ks.getD []) ([0x52, 0x50] ++ p.take 12)).take 8 == p.drop 12

/-- t[i] in quarters of a picosecond (R257). -/
def roundTime (x : Sess) (turn : Nat) (r : Round) : Option Int :=
  r.raw.map (fun w => (w - turn) * 125 - 4 * ((x.delays.getD x.txPort 0 + x.delays.getD r.port 0 : Nat) : Int))

/-- Rounds 0–31; a round that never came has no reply. -/
def allRounds (x : Sess) : List Round := (List.range 32).map (fun i => x.rounds.getD i {})

/-- The verdict of a session (R257, R258). -/
def verdictOf (x : Sess) : Nat :=
  if ((x.response.map (·.1)).getD false) = false then 1
  else if ((x.response.map (·.2)).getD false) = false then 2
  else match x.report with
    | some (some p) =>
      if reportOk x p = false then 3
      else
        let turn := u8At p 2
        if 160 < turn then 4
        else
          let ts := (allRounds x).map (roundTime x turn)
          let l : Int := 4 * (limitPs x.bound : Int)
          if ts.any (fun t => match t with | none => true | some v => decide (l < v)) then 5
          else if ts.any (fun t => match t with | none => false | some v => decide (v < -2000)) then 6
          else if 2 < ((allRounds x).filter (·.bad)).length then 7
          else 0
    | _ => 3

/-- The reply with the 16th smallest t[i], with its port (R257); none with fewer than 16 replies. -/
def medianRound (x : Sess) (turn : Nat) : Option (Int × Nat) :=
  (((allRounds x).filterMap (fun r => (roundTime x turn r).map (fun t => (t, r.port)))).mergeSort
    (fun a b => decide (a.1 ≤ b.1)))[15]?

/-- Distance of a t[i] in mm: whole centimetres of t × 0.0149896 cm/ps (R257). -/
def distanceMm (t : Int) : Int := 10 * divNear (t * 149896) 40000000

/-- Entry of a round in RANGE.SESSION_READ (R268). -/
def roundEntry (x : Sess) (turn : Nat) (r : Round) : Bytes :=
  match roundTime x turn r with
  | some t =>
    leBytes 4 (unsext 32 (divNear t 4)) ++ leBytes 1 r.port
      ++ leBytes 1 (1 + b1 r.bad 1 + b1 (decide (4 * (limitPs x.bound : Int) < t)) 2 + b1 (decide (t < -2000)) 3) ++ zeros 2
  | none => leBytes 4 0x7FFFFFFF ++ leBytes 1 0xFF ++ leBytes 1 4 ++ zeros 2

/-- A verdict is reached at the round stage (R257). -/
def atRounds (v : Nat) : Bool := v == 0 || decide (5 ≤ v)

/-- The session's record (R268). With fewer than 16 replies the distance of a judged session is not stated and free. -/
def sessionRecord (x : Sess) (v : Nat) (s : State) : SessRec :=
  let p := match x.report with
    | some (some b) => b
    | _ => []
  let turn := if v = 4 ∨ atRounds v then u8At p 2 else 0
  let l : Int := 4 * (limitPs x.bound : Int)
  { verdict := v, turnaround := turn, bound := x.bound, stamp := x.asked, limit := limitPs x.bound
    errors := if atRounds v then ((allRounds x).filter (·.bad)).length else 0
    late := if atRounds v then ((allRounds x).filter (fun r => match roundTime x turn r with
      | none => true
      | some t => decide (l < t))).length else 0
    distance := if atRounds v then (match medianRound x turn with
      | some m => distanceMm m.1
      | none => Config.freeInt s.free) else 0
    rounds := (allRounds x).flatMap (roundEntry x turn) }

/-- The session ends with its verdict, event 0x0801 (R257, R258, R269). The port of the median round is free where there is
none. -/
def giveVerdict (x : Sess) (s : State) : State :=
  let v := verdictOf x
  let r := sessionRecord x v s
  let m := medianRound x r.turnaround
  let port := if atRounds v then ((m.map (·.2)).getD (Config.freeNat s.free)) else 0
  let s1 := closeSession x r (if v = 0 then 1 else 2) 0 s.useFree
  let low := match x.report with
    | some (some p) => if reportOk x p then some ((u8At p 3).testBit 0) else none
    | _ => none
  let s2 := match low with
    | some b => s1.modAccess (fun a => { a with slots := tmod a.slots x.slot (fun t => { t with lowBat := b }) })
    | none => s1
  let s3 := emit 0x00B 0x0801 (leBytes 1 x.slot ++ leBytes 1 v ++ leBytes 1 r.errors ++ leBytes 1 r.late
    ++ leBytes 4 (unsext 32 r.distance) ++ leBytes 1 port ++ leBytes 1 (b1 x.calib)) (slotNode x.slot) 0xFF s2
  if x.calib then calibCount (if v = 0 then m.map (·.1) else none) s3 else s3

/-- Microseconds from a session's start to its verdict (R254). -/
def verdictDue (x : Sess) : Nat := if x.response = some (true, true) then 7400 else 1450

/-- The verdict of the session that runs falls due; then the next activity starts. -/
def rangingVerdict (s : State) : State :=
  match s.range.session with
  | some x => if x.ks.isSome then atDue (x.since + lsbOfUs (verdictDue x)) s (fun t => rangeNext (giveVerdict x t)) else s
  | none => s

/-- C did not come within 200 µs (R254, R259). -/
def sessStarved (s : State) : State :=
  match s.range.session with
  | some x =>
    if x.ks.isSome then s
    else atDue (x.since + lsbOfUs 200) s (fun t =>
      rangeNext ((if x.calib then calibCount none else id)
        (noVerdict x 1 (t.modGrain (fun g => { g with reqs := g.reqs.filter (fun q => q.consumer != 1) })))))
  | none => s

/-! ### Cable mode (R263–R266) -/

/-- Port of a T1 tile. -/
def cablePort (node : Nat) : Nat := node - 0x30

/-- The first row of R263 that applies to a port: a status, or none when the run starts. -/
def cableRefusal (force : Bool) (n : Nat) (s : State) : Option Nat :=
  if (s.port n).state = .up then
    if n = s.nat 1 0 then some St.cableHostPort
    else if force = false then some St.cablePortUp
    else if s.power.mode ≠ .workshop then some St.deniedMode
    else none
  else none

/-- The first cable run changed. -/
def modCable (f : CableRun → CableRun) (s : State) : State :=
  s.modRange (fun r => { r with cables := match r.cables with
    | c :: cs => f c :: cs
    | [] => [] })

/-- The first cable run completes with its results; tiles without one take a status (R73). -/
def cableEnd (st : Nat) (s : State) : State :=
  match s.range.cables with
  | c :: cs =>
    let s0 := s.modRange (fun r => { r with cables := cs })
    let s1 := match c.tiles with
      | n :: _ => if c.held then s0.modPort (cablePort n) (fun p => { p with cable := false }) else s0
      | [] => s0
    match s1.work c.ticket with
    | some w =>
      let rest := (c.tiles.filter (fun n => !(w.results.any (fun r => r.node == n)))).map
        (fun n => ({ node := n, status := st } : TileRes))
      completeTiles c.ticket w.walk (w.results ++ rest) s1
    | none => s1
  | [] => s

/-- The present tile has its result. -/
def cableTile (r : TileRes) (s : State) : State :=
  match s.range.cables with
  | c :: _ => modCable (fun c => { c with tiles := c.tiles.drop 1, samples := [], retaken := 0, held := false })
      (s.modWork c.ticket (fun w => { w with results := w.results ++ [r] }))
  | [] => s

/-- Tiles that no run can start on take their status; a run without tiles left completes (R72, R263). -/
def cableSettle : Nat → State → State
  | 0, s => s
  | fuel + 1, s =>
    match s.range.cables with
    | c :: _ =>
      if c.held then s
      else match c.tiles with
        | [] => cableSettle fuel (cableEnd St.ok s)
        | n :: _ => match cableRefusal c.force (cablePort n) s with
          | some st => cableSettle fuel (cableTile { node := n, status := st } s)
          | none => s
    | [] => s

/-- Enough steps for every tile of every run. -/
def cableFuel (s : State) : Nat := ((s.range.cables.map (fun c => c.tiles.length + 1)).sum) + 1

/-- First sample after the point where the trace's level is taken: at or after ZERO + 88 LSB (R265). -/
def firstSample (z0 : Nat) : Nat := (z0 + 88 + 10) / 11

/-- Sum of the 8 samples from index `k`. -/
def sum8 (x : List Int) (k : Nat) : Int := ((x.drop k).take 8).sum

/-- The 8 samples from `k` stay within half the threshold of their mean (R265). -/
def steady (thr : Nat) (x : List Int) (k : Nat) : Bool :=
  decide (k + 8 ≤ x.length) && ((x.drop k).take 8).all (fun v => decide ((8 * v - sum8 x k).natAbs * 2000 ≤ 8 * thr * 16384))

/-- A level eight times over has moved by the threshold from another (R265). -/
def moved (thr : Nat) (a b : Int) : Bool := decide (8 * thr * 16384 ≤ (a - b).natAbs * 1000)

/-- The halfway crossing in sixteenths and its sample: twice eight times the halfway level is `mid`; the first sample from
`k` on that has reached it, seen from below or from above (R265). -/
def crossAt (up : Bool) (mid : Int) (x : List Int) : Nat → Nat → Option Nat
  | 0, _ => none
  | fuel + 1, k =>
    if x.length ≤ k then none
    else
      let v := 16 * x.getD k 0
      if (up && decide (mid ≤ v)) || (!up && decide (v ≤ mid)) then some k else crossAt up mid x fuel (k + 1)

/-- An event of a trace. -/
structure CableEvent where
  /-- KIND. -/
  kind : Nat
  /-- RHO, Q1.14. -/
  rho : Int
  /-- Instant as a fraction of LSB: numerator. -/
  num : Int
  /-- Its denominator, above 0. -/
  den : Nat
  /-- SAMPLE. -/
  sample : Nat
  deriving DecidableEq, Repr, Inhabited

/-- Distance of an instant in mm (R265). -/
def cableMm (vf z0 : Nat) (e : CableEvent) : Int :=
  divNear ((e.num - z0 * e.den) * vf * 299792458) (64 * 1000000000 * e.den)

/-- The events of a trace from sample `k` on, with the level eight times over held before it, `from_` the last sample of
that level (R265). -/
def cableScan (thr vf z0 : Nat) (x : List Int) : Nat → Nat → Nat → Int → List CableEvent → List CableEvent
  | 0, _, _, _, acc => acc
  | fuel + 1, k, from_, level, acc =>
    if x.length < k + 8 ∨ 8 ≤ acc.length then acc
    else
      let new := sum8 x k
      if moved thr (8 * x.getD k 0) level = true ∧ steady thr x k = true ∧ moved thr new level = true then
        let up := decide (level < new)
        let mid := level + new
        let j := (crossAt up mid x (x.length + 1) from_).getD k
        let p := x.getD (j - 1) 0
        let d := x.getD j 0 - p
        let e : CableEvent := {
          kind := if 8 * 6 * 16384 ≤ new * 10 then 1 else if new * 10 ≤ -(8 * 6 * 16384) then 2 else if up then 3 else 4
          rho := divNear (new - level) 8
          num := if d = 0 then 11 * (j : Int) else (176 * ((j : Int) - 1) * d + 11 * (mid - 16 * p)) * d.sign
          den := if d = 0 then 1 else 16 * d.natAbs
          sample := if 16 * x.getD j 0 = mid then j else j - 1 }
        if 60000 < cableMm vf z0 e then acc
        else if e.kind ≤ 2 then acc ++ [e]
        else cableScan thr vf z0 x fuel (k + 8) (k + 7) new (acc ++ [e])
      else cableScan thr vf z0 x fuel (k + 1) from_ level acc

/-- All events of a trace (R265). -/
def cableEvents (thr vf z0 : Nat) (x : List Int) : List CableEvent :=
  let k0 := firstSample z0
  cableScan thr vf z0 x (x.length + 1) (k0 + 9) (k0 + 8) (sum8 x (k0 + 1)) []

/-- Tile payload of RANGE.CABLE (R266, R268). -/
def cableData (s : State) (c : CableRun) (n : Nat) (events : List CableEvent) (result : Nat) : Bytes :=
  let z0 := if c.reference then 0 else s.nat 8 6 n
  let found := match events.find? (fun e => e.kind == 1) with
    | some e => (divNear e.num e.den).toNat
    | none => 0
  leBytes 8 s.now ++ leBytes 2 (s.nat 8 5 n) ++ leBytes 2 (if c.reference then found else z0) ++ leBytes 1 result
    ++ leBytes 1 events.length ++ leBytes 2 (c.retaken * 1000 / 140800)
    ++ events.flatMap (fun e => leBytes 1 e.kind ++ zeros 1 ++ leBytes 2 (unsext 16 e.rho)
        ++ leBytes 4 (unsext 32 (cableMm (s.nat 8 5 n) z0 e)) ++ leBytes 2 e.sample ++ zeros 2)

/-- A run on a port has its last segment (R264–R266, R269). -/
def cableDone (c : CableRun) (node : Nat) (s : State) : State :=
  let n := cablePort node
  let z0 := if c.reference then 0 else s.nat 8 6 n
  let ev := cableEvents (s.nat 8 7) (s.nat 8 5 n) z0 c.samples
  let result := if c.reference ∧ ev.all (fun e => e.kind != 1) = true then 2 else if ev.isEmpty then 0 else 1
  let s1 := (s.modRange (fun r => { r with
    cableRuns := wrapAdd 32 r.cableRuns 1, traces := tmod r.traces (n - 18) (fun _ => some (s.now, c.samples)) })).modPort n
      (fun p => { p with cable := false })
  let s2 := emit 0x00B 0x0804 (leBytes 1 n ++ leBytes 1 result ++ leBytes 1 ev.length
    ++ leBytes 1 ((ev.map (·.kind)).headD 0) ++ leBytes 4 (unsext 32 ((ev.map (cableMm (s.nat 8 5 n) z0)).headD 0))) node c.ticket s1
  cableTile { node, status := if 14080 < c.retaken then St.cableNoisy else St.ok, data := cableData s c n ev result } s2

/-- A cable segment may run now: no session, no access session, TDC calibrated (R260). -/
def cableTurn (s : State) : Bool :=
  s.powered 6 && s.range.session.isNone && s.range.waiting.isEmpty && !tdcOwed s && !calibFirst s

/-- CABLE_SEGMENT: at most 31 points of the present port (R260, R263, R264). -/
def execCableSegment (c : CableRx) (s : State) : Out :=
  .next (
    let s0 := cableSettle (cableFuel s) s
    match s0.range.cables with
    | x :: _ =>
      if cableTurn s0 = false ∨ (x.begun = false ∧ x.latest < s0.now) then s0
      else if s0.range.tdcOk = false then cableSettle (cableFuel s0) (cableEnd St.rangeTdcFail s0)
      else match x.tiles with
        | node :: _ =>
          let n := cablePort node
          let s1 := if x.begun then s0 else start x.ticket s0
          let s2 := if x.held then s1 else
            (if (s1.port n).state = .up then takeDown n 5 s1 else s1).modPort n (fun p => { p with cable := true })
          let pts := (c.samples.take 31).take (2200 - x.samples.length)
          let y := { x with begun := true, held := true, samples := x.samples ++ pts, retaken := x.retaken + c.retaken }
          let s3 := modCable (fun _ => y) s2
          if y.samples.length = 2200 then
            let s4 := cableDone y node s3
            rangeNext (cableSettle (cableFuel s4) s4)
          else rangeNext s3
        | [] => s0
    | [] => s0)

/-- RANGE.CABLE (R263, R267, R268). -/
def execRangeCable (tk : Fin 128) (s : State) : Out :=
  .next (command tk.val 0x0810 (fun w s =>
    if s.range.cables.any (fun c => c.ticket == tk.val) then s
    else
      let d := if w.req.deadline = 0 then 5000000 else w.req.deadline
      let f := u8At w.req.payload 0
      let s1 := s.modRange (fun r => { r with cables := r.cables ++ [{
        ticket := tk.val, force := f.testBit 0, reference := f.testBit 1, latest := w.accept + lsbOfUs d, tiles := w.walkTileNodes }] })
      cableSettle (cableFuel s1) s1) s)

/-- RANGE_CABLE_DEADLINE: no first segment by the deadline: TIMEOUT (R267). -/
def execRangeCableDeadline (tk : Fin 128) (s : State) : Out :=
  .next (match s.range.cables.find? (fun c => c.ticket == tk.val && !c.begun) with
    | some c => atDue c.latest s (fun t =>
        let rest := t.range.cables.filter (fun x => x.ticket != tk.val)
        let t1 := cableEnd St.timeout (t.modRange (fun r => { r with cables := c :: rest }))
        cableSettle (cableFuel t1) t1)
    | none => s)

/-! ### TDC calibration (R252) -/

/-- A calibration is due now: owed, or 1 s after a failure. -/
def tdcTurn (s : State) : Option Nat :=
  if s.powered 6 = false ∨ s.range.session.isSome then none
  else if tdcOwed s ∨ (s.range.calib.any (fun c => !c.tdcDone)) = true then some s.now
  else if s.range.tdcOk = false then some (s.range.lastTdc + oneSec)
  else none

/-- A port calibration has its TDC calibration (R262). -/
def calibTdc (ok : Bool) (s : State) : State :=
  match s.range.calib with
  | some c =>
    if c.tdcDone then s
    else if ok = false then calibEnd St.rangeTdcFail 0 0 0 s
    else if c.tdcOnly then calibEnd St.ok 0 0 0 s
    else s.modRange (fun r => { r with calib := some { c with tdcDone := true } })
  | none => s

/-- TDC_CALIBRATION: it passes when the line spans a full tick and the correction is at most 25 % (R252, R269). -/
def execTdcCalibration (spans : Bool) (corr : Int) (s : State) : Out :=
  .next (match tdcTurn s with
    | some d => atDue d s (fun t =>
        let ok := spans && decide (corr.natAbs ≤ 2500)
        let t1 := t.modRange (fun r => { r with
          tdcOk := ok, tdcDue := false, lastTdc := t.now, tdcTemp := dieTemp t, tdcCorr := corr })
        let t2 := emit 0x00B 0x0803 (leBytes 1 (b1 (!ok)) ++ zeros 1 ++ leBytes 2 (unsext 16 (dieTemp t))
          ++ leBytes 4 (unsext 32 corr)) 0 ((t.range.calib.map (·.ticket)).getD 0xFF) t1
        rangeNext (calibTdc ok t2))
    | none => s)

/-- PD6 RANGE is on: its calibration is owed (R252). -/
def rangeOn (s : State) : State := s.modRange (fun r => { r with tdcDue := true })

/-- PD6 RANGE is withdrawn, the M die resets, or HOLDOVER begins: the sessions that run or wait end without verdict, cause 3 (R259,
R261). -/
def endSessions (s : State) : State :=
  let s1 := match s.range.session with
    | some x => noVerdict x 3 s
    | none => s
  s1.range.waiting.foldl (fun t x => noVerdict x 3 t) (s1.modRange (fun r => { r with waiting := [] }))

/-- PD6 RANGE is withdrawn: its sessions end, and what else runs ends with a status (R259, R261). -/
def rangeOff (st : Nat) (s : State) : State :=
  let s2 := endSessions s
  let s3 := calibEnd st 0 0 ((s2.range.calib.map (fun c => c.values.length)).getD 0) s2
  (s3.range.cables.filter (·.begun)).foldl (fun t c =>
    cableEnd st (t.modRange (fun r => { r with cables := c :: r.cables.filter (fun x => x.ticket != c.ticket) }))) s3

/-! ### Commands -/

/-- STATE of RANGE.STATUS (R268). -/
def rangeState (s : State) : Nat :=
  if s.powered 6 = false then 0
  else match s.range.session with
    | some x => if x.calib then 3 else 2
    | none => if s.range.calib.isSome then 3 else if s.range.cables.any (·.begun) then 4 else 1

/-- Response of RANGE.STATUS (R268). -/
def rangeStatusData (s : State) : Bytes :=
  let r := s.range
  leBytes 1 (rangeState s) ++ leBytes 1 (s.nat 8 0) ++ leBytes 1 (s.nat 8 1)
    ++ leBytes 1 (b1 r.tdcOk + maskOf ((rangePorts s).map (· + 4))) ++ leBytes 8 r.lastTdc ++ leBytes 2 (unsext 16 r.tdcTemp)
    ++ zeros 2 ++ leBytes 4 r.sessions ++ leBytes 4 r.passes ++ leBytes 4 r.suspicions ++ leBytes 4 r.cableRuns

/-- RANGE.STATUS (R268). -/
def execRangeStatus (tk : Fin 128) (s : State) : Out :=
  .next (command tk.val 0x0801 (fun _ s => complete tk.val St.ok (rangeStatusData s) s) s)

/-- Tile payload of RANGE.PORT_READ (R268). -/
def rangePortData (n : Nat) (s : State) : Bytes :=
  leBytes 1 (s.nat 8 3 n) ++ leBytes 1 (b1 (s.nat 8 1 == n)) ++ zeros 2 ++ leBytes 4 (s.nat 8 4 n)
    ++ leBytes 4 (tget s.range.earliest n) ++ zeros 4

/-- RANGE.PORT_READ (R268). -/
def execRangePortRead (tk : Fin 128) (s : State) : Out :=
  .next (fanOut tk.val 0x0802 (fun n _ s => (s, St.ok, rangePortData (n - 0x88) s)) s)

/-- RANGE.PORT_CALIBRATE (R260, R262, R268). -/
def execRangePortCalibrate (tk : Fin 128) (s : State) : Out :=
  .next (command tk.val 0x0803 (fun w s =>
    let n := w.req.node - 0x88
    let slot := u8At w.req.payload 0
    if s.range.calib.any (fun c => c.ticket == tk.val) then s
    else if 16 ≤ slot ∨ (tget s.access.slots slot).state ≠ 1 then complete tk.val St.badArg [] s
    else if s.nat 8 3 n = 0 then complete tk.val St.rangePortDisabled (calibReply 0 0 0 s) s
    else if s.range.calib.isSome then s
    else rangeNext (start tk.val (s.modRange (fun r => { r with calib := some {
      ticket := tk.val, port := n, slot, tdcOnly := (u8At w.req.payload 1).testBit 0, distance := u32At w.req.payload 4 } })))) s)

/-- Response of RANGE.SESSION_READ (R268). -/
def sessionData (slot : Nat) (r : SessRec) : Bytes :=
  leBytes 1 slot ++ leBytes 1 r.verdict ++ leBytes 1 r.cause ++ leBytes 1 r.errors ++ leBytes 1 r.turnaround ++ leBytes 1 r.late
    ++ leBytes 2 r.bound ++ leBytes 8 r.stamp ++ leBytes 4 (unsext 32 r.distance) ++ leBytes 4 r.limit ++ r.rounds

/-- RANGE.SESSION_READ (R268). -/
def execRangeSessionRead (tk : Fin 128) (s : State) : Out :=
  .next (command tk.val 0x0804 (fun w s =>
    let slot := u8At w.req.payload 0
    match tget s.range.last slot with
    | some r => complete tk.val St.ok (sessionData slot r) s
    | none => complete tk.val St.rangeNoRecord [] s) s)

/-- RANGE.CABLE_TRACE_READ (R268). -/
def execRangeCableTraceRead (tk : Fin 128) (s : State) : Out :=
  .next (command tk.val 0x0811 (fun w s =>
    let p := w.req.payload
    match tget s.range.traces (u8At p 0 - 18) with
    | some t => complete tk.val St.ok
        (leBytes 8 t.1 ++ ((t.2.drop (u16At p 2)).take (u16At p 4)).flatMap (fun v => leBytes 2 (unsext 16 v))) s
    | none => complete tk.val St.rangeNoRecord [] s) s)

end Sys2Proof.Machine
end

