-- ==== Sys2Proof/Machine/Lane.lean ====
section
/-! DEFINITION. The inter-die lane: how a request is sent (R20, R273, R274), what the F die sends back (R295) and the driver
identity (R184, R197, R302). -/

namespace Sys2Proof.Machine

/-- A message of the F die reaches the M die while that is out of reset and PD3 CORE is at L2 or shallower; otherwise it is
lost on the lane (R113, R295). -/
def toMaster (m : LaneMsg) (s : State) : State :=
  if s.stew.running = true ∧ s.eave.depth ≤ 2 then s.modLane (fun l => { l with toM := l.toM ++ [m] }) else s

/-- HEAD_SEQ, the last record made (R291, R295). -/
def Fixer.head (f : Fixer) : Nat := f.next - 1

/-- The F die answers a request, with what every RESPONSE carries (R151, R274, R289, R295). -/
def answer (seq status : Nat) (data : Bytes) (s : State) : State :=
  toMaster (.response {
    seq, status, data
    applied := s.fix.applied, appliedAt := s.fix.appliedAt
    cards := s.fix.cards.toList.map (·.info)
    head := s.fix.head
    release := 0x01000000 + Config.fixerBuild.toNat }) s

/-- Requests the F die holds outstanding, a warm reset that runs among them (R274). -/
def held (s : State) : Nat :=
  s.lane.toF.length + (s.fix.cards.toList.map (fun c => c.reqs.length + (if c.reset.isSome then 1 else 0))).sum

/-- A request arrives at the F die: held, answered FIXER_BUSY when eight are outstanding, lost while the F die does not run
(R24, R274). -/
def deliver (seq : Nat) (r : LaneReq) (s : State) : State :=
  if s.fix.running = false then s
  else if 8 ≤ held s then answer seq St.fixerBusy [] s
  else s.modLane (fun l => { l with toF := l.toF ++ [(seq, r)] })

/-- A request goes out on the lane under the next lane sequence number. -/
def laneSend (r : LaneReq) (u : LaneUser) (s : State) : State :=
  deliver s.lane.seq r (s.modLane (fun l => { l with
    seq := wrapAdd 32 l.seq 1
    out := l.out ++ [{ seq := l.seq, req := r, user := u, sent := s.now }] }))

/-- TOKEN_IDENTITY: sent at once while the lane is up, otherwise owed, the latest one only (R197, R302). -/
def sendToken (slot token : Nat) (s : State) : State :=
  if s.lane.up then laneSend (.tokenIdentity slot token) .none s
  else s.modLane (fun l => { l with owedToken := some (slot, token) })

end Sys2Proof.Machine
end

