-- ==== Sys2Proof/Machine/Access.lean ====
section
/-! DEFINITION. The access engine (06_access_immobiliser.md): zone map, slots, magnitudes and zone verdicts, invalid
responses, body and release frames, start and driver. What arrives from outside stands in AccessCmd. -/

namespace Sys2Proof.Machine

/-! ### The zone map (R177) -/

/-- The zone map in force; empty for none. -/
def zoneMap (s : State) : Bytes := (s.conf.object (objectId 5 0xF0 0)).getD []
/-- STEPS, N. -/
def mapSteps (m : Bytes) : Nat := u8At m 1
/-- ZONES, Z. -/
def mapZones (m : Bytes) : Nat := u8At m 2
/-- MARGIN, G. -/
def mapMargin (m : Bytes) : Nat := u8At m 3
/-- POLL_SETS, P. -/
def mapPolls (m : Bytes) : Nat := u8At m 4
/-- An antenna set: its channels. -/
def antSet (b : Bytes) : List Nat := (b.map (·.toNat)).filter (· ≤ 31)
/-- POLL_SET k. -/
def pollSet (m : Bytes) (k : Nat) : List Nat := antSet (slice m (8 + 4 * k) 4)
/-- CAB_SET. -/
def cabSet (m : Bytes) : List Nat := antSet (slice m 24 4)
/-- Channels, AMP and PHASE of step `i`, counted from 1. -/
def stepChans (m : Bytes) (i : Nat) : List (Nat × Nat × Nat) :=
  let o := 32 + 12 * (i - 1)
  ((List.range 4).map (fun k => (u8At m (o + k), u8At m (o + 4 + k), u8At m (o + 8 + k)))).filter (fun p => decide (p.1 ≤ 31))
/-- Offset of ZONE[z]. -/
def zoneOff (m : Bytes) (z : Nat) : Nat := 32 + 12 * mapSteps m + (4 + 2 * mapSteps m) * z
/-- Poll sets that poll the zones bound to a door: those that share a channel with a step whose lower bound in such a zone is
above 0; all of them where there is none (R121; log entry 200). -/
def doorSets (m : Bytes) (d : Nat) : List Nat :=
  let zones := (List.range (mapZones m)).filter (fun z => (u8At m (zoneOff m z + 2)).testBit d)
  let steps := (upFrom 1 (mapSteps m)).filter (fun i => zones.any (fun z => u8At m (zoneOff m z + 4 + 2 * (i - 1)) != 0))
  let sets := (List.range (mapPolls m)).filter (fun k => (pollSet m k).any (fun n => steps.any (fun i =>
    (stepChans m i).any (fun c => c.1 == n))))
  if sets.isEmpty then List.range (mapPolls m) else sets
/-- Place of the zone with an ID in the map. -/
def zoneIndex (m : Bytes) (id : Nat) : Option Nat := (List.range (mapZones m)).find? (fun z => u8At m (zoneOff m z) == id)
/-- FLAGS of the zone with an ID. -/
def zoneFlags (m : Bytes) (id : Nat) : Nat := ((zoneIndex m id).map (fun z => u8At m (zoneOff m z + 1))).getD 0
/-- DOORS of the zone with an ID. -/
def zoneDoors (m : Bytes) (id : Nat) : Nat := ((zoneIndex m id).map (fun z => u8At m (zoneOff m z + 2))).getD 0

/-! ### Slots and records -/

/-- A token slot. -/
def State.tok (s : State) (n : Nat) : TokSlot := tget s.access.slots n
/-- A token slot changed. -/
def State.modTok (s : State) (n : Nat) (f : TokSlot → TokSlot) : State := s.modAccess (fun a => { a with slots := tmod a.slots n f })
/-- Slots LEARNED. -/
def learned (s : State) : List Nat := (List.range 16).filter (fun n => (s.tok n).state == 1)

/-- Record of a token slot; its layout is the model's (R391). -/
def tokRecord (t : TokSlot) : Bytes := leBytes 4 t.token ++ leBytes 1 t.state ++ leBytes 4 t.s ++ leBytes 4 t.gen
/-- The record of slot `n` is written (R173). -/
def storeTok (n : Nat) (s : State) : State := putRecord (0x30 + n) (tokRecord (s.tok n)) .nothing s
/-- The access state as one record: SUSPECT, LEARN_GEN, PAIR_ID, and whether event 0x050B has been written; its layout is the
model's (R190, R391). -/
def accessRecord (a : Access) : Bytes :=
  leBytes 1 (b1 a.suspect) ++ leBytes 4 a.learnGen ++ leBytes 4 a.pairId ++ leBytes 1 (b1 a.relWarned)
/-- The access state's record is written. -/
def storeAccess (s : State) : State := putRecord 0x20 (accessRecord s.access) .nothing s

/-- Event 0x050A (R200). -/
def slotEvent (n st cause : Nat) (s : State) : State := emit 9 0x050A (leBytes 1 n ++ leBytes 1 st ++ leBytes 1 cause) (slotNode n) 0xFF s

/-- SETTLED of a slot clears, with event 0x050A where it was set (R181). -/
def unsettle (n : Nat) (s : State) : State :=
  if (s.tok n).settled then slotEvent n (s.tok n).state 4 (s.modTok n (fun t => { t with settled := false, missed := 0 }))
  else s.modTok n (fun t => { t with missed := 0 })

/-- The key of a token slot for checks, while the cipher engine works (R347). -/
def tokKey (s : State) (n : Nat) : Option Bytes := if s.cipherUp then usableKey s (16 + n) 3 else none

/-- VEHICLE_ID, most significant byte first (R164). -/
def vehicleId : Bytes := beBytes 4 (Config.serial.toNat % 2 ^ 32)

/-- The listed domains are usable and PD3 CORE is at L0 or L1, so that an activity of the access engine may begin (R28, R202). -/
def ready (ds : List Nat) (s : State) : Bool := ds.all s.usable && decide (s.eave.depth ≤ 1)

/-! ### Invalid responses and SUSPECT (R183) -/

/-- SUSPECT is set or clears, with its record and event 0x0504. -/
def setSuspect (v : Bool) (s : State) : State :=
  emit 9 0x0504 (leBytes 1 (b1 v)) 0 0xFF
    (storeAccess (s.modAccess (fun a => { a with suspect := v, suspectSince := if v then s.now else 0 })))

/-- An invalid response of a kind that names a slot, 0xFF for none, with the TOKEN_ID received (R183, R200). -/
def invalidResponse (slot kind token : Nat) (s : State) : State :=
  let l := s.access.invalid.filter (fun t => decide (s.now < t + lsbOfS 60)) ++ [s.now]
  let s1 := (s.modTok slot (fun t => { t with invalid := satAdd 0xFFFF t.invalid 1 })).modAccess (fun a => { a with
    invalid := l, lastInvalid := s.now })
  let s2 := emit 9 0x0502 (leBytes 1 slot ++ leBytes 1 kind ++ zeros 2 ++ leBytes 4 token ++ leBytes 2 l.length) (slotNode slot) 0xFF s1
  if 10 ≤ l.length ∧ s.access.suspect = false then setSuspect true s2 else s2

/-- SUSPECT_HOLD_EXPIRE (R183). -/
def execSuspectHoldExpire (s : State) : Out :=
  .next (if s.access.suspect then atDue (s.access.lastInvalid + lsbOfS (60 * s.nat 5 12)) s (setSuspect false) else s)

/-! ### Magnitudes, baseline and zones (R174–R176) -/

/-- 10^(j/20) × 10³⁰ for j from 0 to 19, rounded down. -/
def dbRoots : List Nat :=
  [1000000000000000000000000000000, 1122018454301963435591038946477, 1258925411794167210423954106395,
   1412537544622754302155607863930, 1584893192461113485202101373391, 1778279410038922801225421195192,
   1995262314968879601352455396739, 2238721138568339611954950852465, 2511886431509580111085032067799,
   2818382931264453819101923699155, 3162277660168379331998893544432, 3548133892335754584332187022644,
   3981071705534972507702523050877, 4466835921509631185562505243193, 5011872336272722850015541868849,
   5623413251903490803949510397764, 6309573444801932494343601366223, 7079457843841379108022149421893,
   7943282347242815020659182828363, 8912509381337455299531086810782]

/-- 10^(k/20) × 10³⁰: the power of `k` half decibels. -/
def dbPower (k : Nat) : Nat := 10 ^ (k / 20) * dbRoots.getD (k % 20) 0

/-- M_s of three axis values (R174): the largest number of half decibels whose power is at most the sum, within 0–254. -/
def magnitude (x y z : Nat) : Nat :=
  let p := (([x, y, z].filter (· ≠ 0)).map dbPower).sum
  ((List.range 255).filter (fun m => decide (dbPower m ≤ p))).foldl max 0

/-- M_s of step `i` in a MEAS field (R166, R174). -/
def stepMagnitude (meas : Bytes) (i : Nat) : Nat := magnitude (u8At meas (3 * i)) (u8At meas (3 * i + 1)) (u8At meas (3 * i + 2))

/-- Eight silent-step values stand (R175). -/
def baselineReady (s : State) : Bool := decide (8 ≤ s.access.silent.length)

/-- The baseline B under a zone map: the median of the eight values, or its BASELINE_DEFAULT (R175). -/
def baseline (m : Bytes) (s : State) : Nat :=
  if baselineReady s then
    let l := s.access.silent.mergeSort (fun a b => decide (a ≤ b))
    (l.getD 3 0 + l.getD 4 0) / 2
  else u8At m 5

/-- A silent-step value joins the last eight; the eighth establishes the baseline (R175). -/
def addSilent (m : Nat) (s : State) : State :=
  let s1 := s.modAccess (fun a => { a with silent := (m :: a.silent).take 8 })
  if baselineReady s = false ∧ baselineReady s1 = true then emit 9 0x050D (leBytes 2 (baseline [] s1)) 0 0xFF s1 else s1

/-- C_s (R174). -/
def corrected (b m : Nat) : Nat := if b + 12 ≤ m then m else 0

/-- The test of one zone: 0 IN, 1 NEAR, 2 OUT; `out` lists steps exempt by R221 (R176). -/
def zoneTest (m : Bytes) (g b : Nat) (out : List Nat) (meas : Bytes) (z : Nat) : Nat :=
  let steps := (upFrom 1 (mapSteps m)).filter (fun i =>
    !(out.contains i) && !(u8At m (zoneOff m z + 4 + 2 * (i - 1)) == 0 && u8At m (zoneOff m z + 5 + 2 * (i - 1)) == 0xFF))
  let lo (i : Nat) := u8At m (zoneOff m z + 4 + 2 * (i - 1))
  let hi (i : Nat) := u8At m (zoneOff m z + 5 + 2 * (i - 1))
  let c (i : Nat) := corrected b (stepMagnitude meas i)
  if steps.all (fun i => decide (lo i + g ≤ c i) && decide (c i + g ≤ hi i)) then 0
  else if steps.all (fun i => decide (lo i ≤ c i + g) && decide (c i ≤ hi i + g)) then 1
  else 2

/-- The zone verdict of a MEAS field (R176): a ZONE_ID, 0xFE AMBIGUOUS or 0xFF OUTSIDE. Measurements of another number of
steps than the map's give OUTSIDE. -/
def zoneVerdict (m : Bytes) (g b : Nat) (out : List Nat) (meas : Bytes) : Nat :=
  if m.isEmpty ∨ meas.length ≠ 3 * (mapSteps m + 1) then 0xFF
  else match (List.range (mapZones m)).find? (fun z => zoneTest m g b out meas z != 2) with
    | some z => if zoneTest m g b out meas z = 0 then u8At m (zoneOff m z) else 0xFE
    | none => 0xFF

/-! ### Shutters 13–15 (R97, R160, R161, R169) -/

/-- A firmware shutter disarmed. -/
def disarm (n : Nat) (s : State) : State := s.modShut n (fun h => { h with state := .idle, preValid := false, owed := false })
/-- After a fire the next one follows at the present period. -/
def repace (n period : Nat) (s : State) : State :=
  s.modShut n (fun h => if h.period = period then h
    else { h with period, active := (h.lastCompare.getD s.now) + period * ((s.now - h.lastCompare.getD s.now) / period + 1) })

/-- The standing time, whole minutes (R115, R160). -/
def standingMin (s : State) : Nat := (s.now - s.power.standingFrom) / lsbOfS 60

/-- Poll period in epoch units: by standing time in PARKED, 500 ms in WATCH (R160). -/
def pollPeriod (s : State) : Nat :=
  if s.power.mode = .watch then lsbOfMs 500
  else lsbOfS (2 * 2 ^ min 5 (standingMin s / 720))

/-- Polling in PARKED has stopped or never starts (R159, R160). -/
def pollStopped (s : State) : Bool := decide (s.nat 5 0 * 60 ≤ standingMin s)

/-- The first point of the poll grid after now (R160, R161). -/
def nextGrid (s : State) : Nat :=
  let p := pollPeriod s
  s.access.grid + ((s.now - s.access.grid) / p + 1) * p

/-! ### Reservations (R190, R193) -/

/-- A reservation of 1,024 release values is requested when 256 remain (R190). -/
def reserveRelease (s : State) : State :=
  let a := s.access
  if a.relReserved ≤ a.relNext + 256 ∧ a.relReserving = false ∧ a.relReserved < 2 ^ 32 then
    bumpCounter 0x1000 (.reserved 0x1000) (s.modAccess (fun a => { a with relReserving := true }))
  else s

/-- A reservation of 1,024 body values is requested when 256 remain (R193). -/
def reserveBody (s : State) : State :=
  let a := s.access
  if a.bodyReserved ≤ a.bodyNext + 256 ∧ a.bodyReserving = false then
    bumpCounter 0x1001 (.reserved 0x1001) (s.modAccess (fun a => { a with bodyReserving := true }))
  else s

/-! ### Body frames (R193) -/

/-- The payload of a body frame. -/
def bodyPayload (key : Bytes) (id action zone slot seq : Nat) : Bytes :=
  let head := leBytes 1 action ++ leBytes 1 zone ++ leBytes 1 slot ++ zeros 1 ++ leBytes 4 seq
  head ++ (cmac key (leBytes 4 id ++ head)).take 8

/-- A body frame is built and queued at ACCESS.BODY_PORT; without a reserved SEQ or a key none is sent. The answer tells
its SEQ. -/
def bodyFrame (action zone slot : Nat) (s : State) : State × Option Nat :=
  let a := s.access
  match (if s.cipherUp && keyReady s (s.nat 5 19) then usableKey s (s.nat 5 19) 2 else none) with
  | some k =>
    if a.bodyNext < a.bodyReserved then
      let s1 := s.modAccess (fun a => { a with bodyNext := a.bodyNext + 1 })
      let s2 := accessFrame 2 (s.nat 5 17) (s.nat 5 18) (bodyPayload k (s.nat 5 18) action zone slot a.bodyNext) s1
      (reserveBody (emit 9 0x0505 (leBytes 1 action ++ leBytes 1 zone ++ leBytes 1 slot ++ zeros 1 ++ leBytes 4 a.bodyNext)
        (slotNode slot) 0xFF s2), some a.bodyNext)
    else (reserveBody s, none)
  | none => (s, none)

/-- An unlock verdict (R180): the frame, except when APPROACH was entered from HOLDOVER or WORKSHOP, and trigger 4. -/
def unlockVerdict (zone slot : Nat) (s : State) : State :=
  let s1 := if s.access.fromHold then s else (bodyFrame 1 zone slot s).1
  trigger 4 (s1.modAccess (fun a => { a with unlocks := [] }))

/-- DRIVE is being left for CAB, so that CABIN follows (R116, R159). -/
def leavesDrive (s : State) : Bool := s.power.mode == .drive && s.power.moving.any (fun m => m.target == .cab)

/-- A lock verdict (R185): the frame, and trigger 3 in CAB before release; while DRIVE is being left for CAB it waits for CAB
(R119, R130). -/
def lockVerdict (slot : Nat) (s : State) : State × Option Nat :=
  let a := bodyFrame 2 0xFF slot s
  (if (s.access.state = .cabin ∧ s.power.mode = .cab) ∨ leavesDrive s = true then trigger 3 a.1 else a.1, a.2)

/-- A passing UNLOCK-zone verdict meets a handle assertion (R180). -/
def handleMet (s : State) (doors v : Nat) : Bool :=
  let w := lsbOfMs (s.nat 5 4)
  s.nat 5 4 == 0 || (setBits 4 doors).any (fun d => match tget s.access.doorAt d with
    | some t => decide (t ≤ v + w) && decide (v ≤ t + w)
    | none => false)

/-- The unlock verdicts that stand are tried against the handles (R180). -/
def tryUnlock (s : State) : State :=
  if s.access.state = .acquire ∧ s.access.fromHold = false then
    match s.access.unlocks.find? (fun u => handleMet s u.2.2.1 u.2.2.2) with
    | some u => unlockVerdict u.2.1 u.1 s
    | none => s
  else s

/-! ### Release (R186–R191) -/

/-- The payload of a release frame (R187, R188). -/
def releasePayload (key : Bytes) (pair counter stamp st slot : Nat) : Bytes :=
  let iv := beBytes 4 pair ++ zeros 4 ++ beBytes 4 counter
  let aad := leBytes 4 counter
  let c := gcmCrypt key iv (leBytes 8 stamp ++ leBytes 1 st ++ leBytes 1 slot ++ zeros 2)
  aad ++ c ++ gcmTag key iv aad c

/-- A release frame still waits in the egress queue; its COUNTER (R189). -/
def waitingRelease (s : State) : Option (SwFrame × Nat) :=
  (s.sw.frames.find? (fun f => f.built == 1 && f.copies.any (fun c => c.port == s.nat 5 20))).map (fun f => (f, u32At f.bytes 16))

/-- The frame that still waits is withdrawn, with event 0x0508 (R189). -/
def withdrawRelease (s : State) : State :=
  match waitingRelease s with
  | some (f, c) =>
    emit 9 0x0508 (zeros 4 ++ leBytes 4 c) 0 0xFF
      ((dropHead (s.nat 5 20) f s).modAccess (fun a => { a with dropped := wrapAdd 32 a.dropped 1 }))
  | none => s

/-- A frame is not sent, with event 0x0508: 1 it is withheld, and counted, 2 its cipher job has failed (R189, R190, R199). -/
def releaseWithheld (kind c : Nat) (s : State) : State :=
  emit 9 0x0508 (leBytes 1 kind ++ zeros 3 ++ leBytes 4 c) 0 0xFF
    (s.modAccess (fun a => { a with dropped := if kind = 1 then wrapAdd 32 a.dropped 1 else a.dropped }))

/-- COUNTER is consumed, with the warning of R190. -/
def useRelease (s : State) : State :=
  let a := s.access
  let left := 2 ^ 32 - (a.relNext + 1)
  let s1 := s.modAccess (fun a => if a.relNext = 0xFFFFFFFF then { a with relUsedUp := true } else { a with relNext := a.relNext + 1 })
  let s2 := if left < 2 ^ 24 ∧ a.relWarned = false then
      emit 9 0x050B (leBytes 4 left) 0 0xFF (storeAccess (s1.modAccess (fun a => { a with relWarned := true }))) else s1
  reserveRelease s2

/-- What ends the release at a fire, as the end reason of R200. -/
def releaseStop (s : State) : Option Nat :=
  if s.access.relUsedUp then some 1
  else match (s.kslot s.releaseSlot).ver with
    | none => some 2
    | some _ => if (s.kslot s.releaseSlot).exhausted then some 3 else none

/-- One release frame for a fire at `stamp` (R187–R190). -/
def releaseFrame (live : Bool) (stamp : Nat) (s : State) : State :=
  let a := s.access
  if a.relReserved ≤ a.relNext then reserveRelease (releaseWithheld 1 a.relNext s)
  else
    let s1 := withdrawRelease s
    match (if s.cipherUp = true ∧ (s.kslot s.releaseSlot).nonceNext ≤ a.relNext then usableKey s s.releaseSlot 0 else none) with
    | some k =>
      let st := b1 live + b1 a.absent 1 + b1 a.suspect 2
      let s2 := consumeNonce s.releaseSlot a.relNext (useRelease s1)
      accessFrame 1 (s.nat 5 20) (s.nat 5 21) (releasePayload k a.pairId a.relNext stamp st a.relSlot) s2
    | none => useRelease (releaseWithheld 2 a.relNext s1)

/-- Release ends (R159, R191): with WAKE_IGN de-asserted an END frame first; then CABIN, in DRIVE with trigger 6 or 13 and
once its transition has completed (R159). -/
def endRelease (reason : Nat) (s : State) : State :=
  let s1 := if reason = 0 ∧ (releaseStop s).isNone = true then releaseFrame false s.now s else s
  let s2 := emit 9 0x0507 (leBytes 1 1 ++ leBytes 1 reason ++ zeros 2 ++ leBytes 4 s1.access.relNext) 0 0xFF
    ((disarm 14 s1).modAccess (fun a => { a with
      state := if s.heads .drive then a.state else .cabin, authorised := false, firstSent := false }))
  if s.heads .drive then trigger (if reason = 0 then 6 else 13) s2 else s2

/-- Release is active: in RELEASE, and not ended while DRIVE is left (R159). -/
def releasing (s : State) : Bool := s.access.state == .release && s.access.authorised

/-- Shutter 14 has fired at `stamp` (R189). -/
def releaseFire (stamp : Nat) (s : State) : State :=
  match releaseStop s with
  | some r => endRelease r s
  | none =>
    let s1 := releaseFrame true stamp s
    match releaseStop s1 with
    | some r => endRelease r s1
    | none => s1

/-- RELEASE_FRAME: shutter 14 fires (R189). -/
def execReleaseFrame (s : State) : Out :=
  .next (if s.access.state = .release then
      match firmFire 14 s with
      | some t => releaseFire t.now (repace 14 (lsbOfMs (t.nat 5 23)) t)
      | none => s
    else s)

/-- Start is authorised (R186, R189): shutter 14 is armed, and its first fire builds the first frame. -/
def authorise (slot used : Nat) (s : State) : State :=
  let s1 := emit 9 0x0506 (zeros 1 ++ leBytes 1 slot ++ leBytes 1 used) (slotNode slot) 0xFF
    (s.modAccess (fun a => { a with start := none, authorised := true, relSlot := slot, absent := false, firstSent := false
                                    state := .release }))
  let s2 := emit 9 0x0507 (zeros 4 ++ leBytes 4 s1.access.relNext) 0 0xFF s1
  let s3 := (armFirm 14 s2.now (lsbOfMs (s2.nat 5 23)) s2).modShut 14 (fun h => { h with owed := false })
  releaseFire s3.now s3

/-- A release frame has left the port (R189): LAST_RELEASE, and trigger 5 after the first one in CAB. -/
def releaseSent (s : State) : State :=
  let first := !s.access.firstSent
  let s1 := s.modAccess (fun a => { a with lastRelease := s.now, firstSent := true })
  if first ∧ s.access.state = .release ∧ s.power.mode = .cab then trigger 5 s1 else s1

/-- Response of ACCESS.LOCK (R199). -/
def lockReply (seq stamp : Nat) : Bytes := leBytes 4 seq ++ zeros 4 ++ leBytes 8 stamp

/-- A body frame with a SEQ has left the port: the ACCESS.LOCK that waits for it completes (R199). -/
def bodySent (seq : Nat) (s : State) : State :=
  match s.access.lock with
  | some (tk, q, _) => if q = seq then complete tk St.ok (lockReply q s.now) (s.modAccess (fun a => { a with lock := none })) else s
  | none => s

/-! ### Driver (R184) -/

/-- The driver changes, with event 0x0509 and TOKEN_IDENTITY. -/
def setDriver (d : Option Nat) (cabs : List Nat) (s : State) : State :=
  if s.access.driver = d then s
  else
    let slot := d.getD 0xFF
    sendToken slot ((d.map (fun n => (s.tok n).token)).getD 0)
      (emit 9 0x0509 (leBytes 1 slot ++ zeros 1 ++ leBytes 2 (maskOf cabs)) (slotNode slot) 0xFF (s.modAccess (fun a => { a with driver := d })))

/-- CAB_ABSENT_EXPIRE (R184). -/
def execCabAbsentExpire (s : State) : Out :=
  .next (if s.access.driver.isSome = true ∧ (s.access.state = .cabin ∨ s.access.state = .release) then
      atDue (s.access.cabSeen + lsbOfS (s.nat 5 10)) s (setDriver none [])
    else s)

/-- WALKAWAY_EXPIRE: one lock verdict for each absence (R185). -/
def execWalkawayExpire (s : State) : Out :=
  .next (if s.access.state = .cabin ∧ s.nat 5 11 ≠ 0 ∧ s.power.ign = false ∧ s.access.walked = false then
      atDue (s.access.heldSeen + lsbOfS (s.nat 5 11)) s (fun t =>
        (lockVerdict 0xFF (t.modAccess (fun a => { a with walked := true }))).1)
    else s)

/-- APPROACH_MAX_EXPIRE (R159). -/
def execApproachMaxExpire (s : State) : Out :=
  .next (if s.access.state = .acquire then
      atDue (s.access.approachAt + lsbOfS (s.nat 5 3)) s (fun t =>
        trigger 8 (((List.range 16).filter (fun n => (t.tok n).answered)).foldl (fun st n =>
          slotEvent n (st.tok n).state 3 (st.modTok n (fun x => { x with settled := true, missed := 0 }))) t))
    else s)

/-- PARK_POLL_STOP: polling stops in PARKED; a poll cycle in progress completes (R159). -/
def execParkPollStop (s : State) : Out :=
  .next (if s.access.state = .poll ∧ s.power.mode = .parked ∧ pollStopped s = true then
      disarm 13 (s.modAccess (fun a => { a with state := .dormant }))
    else s)

end Sys2Proof.Machine
end

