-- ==== Sys2Proof/Machine/AccessPoll.lean ====
section
/-! DEFINITION. The access engine's polls and buttons (06_access_immobiliser.md): LF telegrams and sequences, poll cycles,
ANSWER and BUTTON telegrams, sniff windows. -/

namespace Sys2Proof.Machine

/-! ### LF telegrams and sequences (R163, R164, R215, R221) -/

/-- Preamble to CRC of an LF telegram (R163). -/
def telegram (ty : Byte) (body : Bytes) : Bytes := [0xAA, 0xB3, 0x8D, ty] ++ body ++ leBytes 1 (crc8 (ty :: body))

/-- Channels of a set that may drive (R217, R221). -/
def usableOf (s : State) (l : List Nat) : List Nat := l.filter (lfUsable s)

/-- A telegram with the measurement steps that follow it, as the access engine asks the array for it (R164, R209). -/
structure Tele where
  /-- Its poll set; 0xFF for CAB_SET or none. -/
  set : Nat := 0xFF
  /-- Nominal start, µs from the start of the cycle. -/
  at_ : Nat := 0
  /-- Length without the steps, µs. -/
  us : Nat := 0
  /-- Its antenna set. -/
  chans : List Nat := []
  /-- Preamble to CRC. -/
  data : Bytes := []
  /-- The steps that follow it: number, and channels with AMP and PHASE. -/
  steps : List (Nat × List (Nat × Nat × Nat)) := []
  deriving DecidableEq, Repr, Inhabited

/-- A measurement step drives its channels when all of them may drive (R209, R221); the steps and their gaps follow the CRC at
0.75 ms each, the silent one first (R164, R208). -/
def stepPart (s : State) (us : Nat) (x : Nat × List (Nat × Nat × Nat)) : LfPart :=
  { shape := .step, at_ := us + 750 * x.1, us := 500, step := x.1
    drives := if x.2.all (fun c => lfUsable s c.1) then x.2.map (fun c => lfDrive s c.1 c.2.1 c.2.2) else [] }

/-- What a telegram drives: its usable channels at AMP 255 and LF.CH_n.TLG_PHASE, then its steps (R209, R221). -/
def Tele.parts (s : State) (t : Tele) : List LfPart :=
  { us := t.us, data := t.data, drives := (usableOf s t.chans).map (fun n => lfDrive s n 255 (s.nat 6 3 n)) }
    :: t.steps.map (stepPart s t.us)

/-- Steps of a telegram that name a channel which may not drive: NOT_DRIVEN (R221). -/
def Tele.out (s : State) (t : Tele) : List (Nat × Nat) :=
  (t.steps.filter (fun x => x.2.any (fun c => !lfUsable s c.1))).map (fun x => (t.set, x.1))

/-- One access sequence is to start at a stamp and leaves its measurements, or is refused for a reason: 3 where its whole set is
disabled or faulted (R208, R215, R216, R220, R221). -/
def accessSeq (t : Tele) (start : Nat) (m : LfMeas) (s : State) : State × Option Nat :=
  let parts := t.parts s
  match (if (usableOf s t.chans).isEmpty then some 3 else lfRefusal true (partsEstimate parts) s) with
  | some r => (lfRefuse r 0 s, some r)
  | none =>
    let q := lfSeqFrom 0 t.set start parts s
    let s1 := lfMeasured (measIn q m) q (partsUs parts) (lfUnhold s)
    (beginSeq q (s1.modAccess (fun a => { a with
      lfSent := a.lfSent ++ [(usableOf s t.chans, t.data)]
      cyc := a.cyc.map (fun c => { c with out := c.out ++ t.out s1 }) })), none)

/-- The sequences of a cycle in order, from the zero crossing `base` on, each with its measurement; `past` lets the cycle go on
past a set that may not drive. The first other refusal ends it (R168, R169, R208, R221). -/
def accessRun (past : Bool) (base : Nat) : List Tele → List LfMeas → State → State × Option Nat
  | [], _, s => (s, none)
  | t :: ts, ms, s =>
    let r := accessSeq t (({ start := base, div := carrierDiv s } : LfSeq).instant t.at_) (ms.headD {}) s
    match r.2 with
    | none => accessRun past base ts (ms.drop 1) r.1
    | some k => if past = true ∧ k = 3 then accessRun past base ts ms r.1 else (r.1, some k)

/-- Event 0x050C (R170, R200). -/
def skipEvent (kind st : Nat) (s : State) : State := emit 9 0x050C (leBytes 1 kind ++ zeros 3 ++ leBytes 2 st) 0 0xFF s

/-- Status that event 0x050C gives for a refused sequence (R215, R216, R221). -/
def refusalStatus (r : Nat) : Nat := if r = 0 then St.lfSupply else if r = 3 then St.lfChannelFault else St.lfHot

/-- `k` runs once the access receive window has opened, while the receiver hears (R231). -/
def inWindow (s : State) (k : State → State) : State :=
  match s.uhf.access with
  | some w => atDue w.open_ s (fun t => if accessHears t then k t else t)
  | none => s

/-! ### Poll cycles (R168, R181, R182) -/

/-- A poll that admitted a slot went unanswered: the third in a row clears SETTLED (R181). -/
def missPoll (n : Nat) (s : State) : State :=
  if 3 ≤ (s.tok n).missed + 1 then unsettle n s else s.modTok n (fun t => { t with missed := t.missed + 1 })

/-- The poll cycle in progress ends, with event 0x0501 (R181, R200). -/
def closePoll (s : State) : State :=
  match s.access.poll with
  | some c =>
    let s1 := (((setBits 16 c.mask).filter (fun n => !(c.answered.contains n))).foldl (fun t n => missPoll n t) s).modAccess
      (fun a => { a with poll := none })
    emit 9 0x0501 (leBytes 2 c.seq ++ leBytes 2 c.mask ++ leBytes 2 (maskOf c.answered) ++ leBytes 2 (maskOf c.collided)) 0 0xFF s1
  | none => s

/-- Poll sets of the telegrams of a poll cycle: of the zones bound to door `ask` below 4, set 0 alone for the in-cab poll of
WAKE_IGN (4), which goes out on CAB_SET, and otherwise every one (R121, R168). -/
def pollSets (m : Bytes) (ask : Nat) : List Nat :=
  if m.isEmpty then [] else if ask < 4 then doorSets m ask else if ask = 4 then [0] else List.range (mapPolls m)

/-- POLL telegrams of a cycle (R164, R168). -/
def pollTeles (s : State) (ask mask : Nat) : List Tele :=
  let m := zoneMap s
  let sets := pollSets m ask
  (List.range sets.length).map (fun k =>
    { set := sets.getD k 0, at_ := 32000 * k, us := 32000
      chans := if ask = 4 then cabSet m else pollSet m (sets.getD k 0)
      data := telegram 0x01 (vehicleId ++ beBytes 2 s.access.pollSeq ++ beBytes 2 mask ++ leBytes 1 (sets.length - 1 - k)) })

/-- Slots that a poll cycle admits (R159, R168). -/
def pollMask (s : State) (ask : Nat) : Nat := maskOf ((learned s).filter (fun n => decide (ask < 4) || !(s.tok n).settled))

/-- A poll cycle runs: after an assertion of WAKE_DOOR bit 0–3 with SETTLED slots admitted, in the cab after WAKE_IGN (4), or on
the grid (R159, R168). A refused sequence skips it (R215). -/
def runPoll (ask : Nat) (meas : List LfMeas) (s : State) : State :=
  let mask := pollMask s ask
  let tel := pollTeles s ask mask
  let r := accessRun true (carrierNow s) tel meas (s.modAccess (fun a => { a with lfSent := [] }))
  match r.2 with
  | some why => skipEvent 2 (refusalStatus why) r.1
  | none =>
    let first := s.now + lsbOfMs (32 * tel.length + 2)
    let last := first + lsbOfMs (4 * ((setBits 16 mask).foldl max 0 + 1))
    let s1 := (List.range 16).foldl (fun t n => t.modTok n (fun x => { x with answered := false, heard := 0 })) r.1
    bookAccess first last (s1.modAccess (fun a => { a with
      pollSeq := wrapAdd 16 a.pollSeq 1, cycles := wrapAdd 32 a.cycles 1
      poll := some { seq := a.pollSeq, mask, door := decide (ask < 4), sets := tel.map (·.set), first, end_ := last } }))

/-- POLL_CYCLE: shutter 13 fires, or an accepted pin assertion asks for a poll at once (R121, R159, R160, R168). What finds PD7 LF
off or the array driving waits for it (R28, R220). -/
def execPollCycle (meas : List LfMeas) (s : State) : Out :=
  .next (if s.stew.running = false ∨ (s.access.state ≠ .poll ∧ s.access.state ≠ .dormant) then s
    else match s.access.polls with
    | ask :: rest =>
      if lfBusy s then s
      else if ready [7] s = false then power [7] s
      else runPoll ask meas (closePoll (s.modAccess (fun a => { a with polls := rest })))
    | [] =>
      if s.access.state = .poll then
        match firmFire 13 s with
        | some t =>
          if t.power.mode = .parked ∧ pollStopped t = true then
            disarm 13 (t.modAccess (fun a => { a with state := .dormant }))
          else
            let u := repace 13 (pollPeriod t) (closePoll t)
            if ready [7] u then runPoll 5 meas u else power [7] (u.modAccess (fun a => { a with polls := [5] }))
        | none => s
      else s)

/-- POLL_ADDRESSED telegrams to a slot, on all poll sets (R164, R168). -/
def addressedTeles (n seq : Nat) (s : State) : List Tele :=
  let m := zoneMap s
  let p := mapPolls m
  (List.range p).map (fun k =>
    { set := k, at_ := 36000 * k, us := 36000, chans := pollSet m k
      data := telegram 0x02 (vehicleId ++ beBytes 4 (s.tok n).token ++ beBytes 2 seq ++ leBytes 1 (p - 1 - k)) })

/-- A collided slot is re-addressed in the same cycle, once what is to come of it is over, with an answer slot of its own 2 ms
after the last telegram; where its sequences are refused the slot stays unanswered (R168, R182). -/
def readdress (n : Nat) (c : PollCyc) (meas : List LfMeas) (s : State) : State :=
  let tel := addressedTeles n c.seq s
  let r := accessRun true (c.end_ + (carrierNow s - s.now)) tel meas s
  match r.2 with
  | some _ => r.1.modAccess (fun a => { a with poll := some { c with collided := c.collided ++ [n] } })
  | none =>
    let own := c.end_ + lsbOfMs (36 * tel.length + 2)
    let e := own + lsbOfMs 4
    (r.1.modUhf (fun u => { u with access := u.access.map (fun w => { w with end_ := max w.end_ e }) })).modAccess (fun a => { a with
      poll := some { c with end_ := e, collided := c.collided ++ [n], again := c.again ++ [(n, own)] } })

/-- A collision in answer slot `n`: one invalid response; the first of a cycle re-addresses the slot, the second leaves it
unanswered (R182, R183). -/
def collision (n kind token : Nat) (c : PollCyc) (meas : List LfMeas) (s : State) : State :=
  let s1 := invalidResponse n kind token s
  if c.collided.contains n then s1.modAccess (fun a => { a with poll := some { c with twice := c.twice ++ [n] } })
  else readdress n c meas s1

/-- Poll sets that the HEARD field of an ANSWER names: bit k is the k-th telegram of the cycle (R166, R169). -/
def heardSets (c : PollCyc) (flags : Nat) : Nat := maskOf ((setBits 4 flags).filterMap (fun k => c.sets[k]?))

/-- A valid ANSWER (R159, R166, R181). -/
def validAnswer (n : Nat) (t : AnswerTel) (c : PollCyc) (s : State) : State :=
  let fresh := !(s.tok n).settled || c.door
  let s1 := (s.modTok n (fun x => { x with
    answered := true, heard := heardSets c t.flags, lowBat := t.flags.testBit 4, seen := s.now, missed := 0 })).modAccess
      (fun a => { a with poll := some { c with answered := c.answered ++ [n] } })
  let s2 := if c.door then unsettle n s1 else s1
  if fresh then trigger 1 s2 else s2

/-- What arrives in the answer slot of an admitted slot (R182, R183). -/
def answerSlot (n : Nat) (rssi : Int) (tel : Option AnswerTel) (meas : List LfMeas) (c : PollCyc) (s : State) : State :=
  match tel with
  | none => if s.get 5 13 < rssi then collision n 4 0 c meas s else s
  | some t =>
    if t.token ≠ (s.tok n).token then
      collision n (if t.slot < 16 ∧ (s.tok t.slot).state ≠ 1 then 6 else 4) t.token c meas s
    else if t.slot ≠ n then invalidResponse n 0 t.token s
    else if t.seq ≠ c.seq then invalidResponse n 1 t.token s
    else validAnswer n t c s

/-- Opening of the answer slot in which a slot is heard next: its place in the cycle, or, re-addressed, its own; none for one that
is not admitted, has answered or stays unanswered (R168, R182). -/
def PollCyc.opens (c : PollCyc) (n : Nat) : Option Nat :=
  if !c.mask.testBit n || c.answered.contains n || c.twice.contains n then none
  else if c.collided.contains n then (c.again.find? (fun a => a.1 == n)).map (·.2)
  else some (c.first + lsbOfMs (4 * n))

/-- ANSWER: what the receiver took in the answer slot of slot `slot`, with the measurements of the telegrams that re-address it
(R168, R182). -/
def execAnswer (slot : Fin 16) (rssi : Int) (rx : AnswerRx) (s : State) : Out :=
  .next (match s.access.poll with
    | some c => match c.opens slot.val with
      | some at_ =>
        if (s.tok slot.val).state ≠ 1 then s
        else atDue at_ s (fun t => if accessHears t ∧ t.now < at_ + lsbOfMs 4 then answerSlot slot.val rssi rx.tel rx.meas c t else t)
      | none => s
    | none => s)

/-! ### Tokens that sign (R167, R171) -/

/-- A MAC under the key of a token slot: none when the CMAC job fails (R167, R170). -/
def tokenMac (n : Nat) (msg mac : Bytes) (s : State) : Option Bool :=
  (tokKey s n).map (fun k => (cmac k msg).take 8 == mac)

/-- S < COUNTER ≤ S + 2²⁰, and never 0xFFFF_FFFF (R171, R172). -/
def counterOk (last c : Nat) : Bool := decide (last < c) && decide (c ≤ last + 2 ^ 20) && c != 0xFFFFFFFF

/-- How R171 judges a telegram: valid, an invalid response of a kind, no judgement when the CMAC job fails, or not yet. -/
inductive TokVerdict where
  /-- Valid. -/
  | valid
  /-- Refused, with the kind of R200. -/
  | invalid (kind : Nat)
  /-- The CMAC job failed. -/
  | skipped
  /-- The CMAC job waits for the cipher engine. -/
  | waits
  deriving DecidableEq, Repr

/-- The conditions of R171, in its order. -/
def judgeToken (slot token counter : Nat) (msg mac : Bytes) (s : State) : TokVerdict :=
  if 16 ≤ slot then .invalid 0
  else if (s.tok slot).state ≠ 1 then .invalid 6
  else if (s.tok slot).token ≠ token then .invalid 0
  else if unwrapReady s = false then .waits
  else match tokenMac slot msg mac s with
    | none => .skipped
    | some false => .invalid 2
    | some true => if counterOk (s.tok slot).s counter then .valid else .invalid 3

/-! ### BUTTON and sniff windows (R162, R180, R181, R185) -/

/-- CMAC input of BUTTON (R167). -/
def buttonMsg (t : ButtonTel) : Bytes :=
  vehicleId ++ beBytes 4 t.token ++ leBytes 1 t.slot ++ leBytes 1 t.button ++ beBytes 4 t.counter

/-- The receiver hears a BUTTON outside sniff windows: while PD5 UHF is on in ACQUIRE, CABIN and RELEASE (R180, R185). -/
def hearsButton (s : State) : Bool :=
  match s.access.state with
  | .acquire | .cabin | .release =>
    s.inMask (accessFreq s) && s.uhf.state != .txRamp && s.uhf.state != .tx && s.uhf.state != .txDown && s.uhf.state != .off
  | _ => false

/-- The telegram held a sniff window open: the window ends with it (R162). -/
def endSniff (s : State) : State :=
  if s.access.poll.isSome ∨ s.access.cyc.isSome then s
  else s.modUhf (fun u => { u with access := u.access.map (fun w => { w with end_ := min w.end_ s.now }) })

/-- A valid BUTTON (R159, R180, R181, R185). -/
def validButton (t : ButtonTel) (s : State) : State :=
  let n := t.slot
  let s1 := unsettle n (s.modTok n (fun x => { x with s := t.counter, seen := s.now }))
  match s.access.state with
  | .poll | .dormant => trigger 2 ((List.range 16).foldl (fun u m => u.modTok m (fun x => { x with answered := m == n, heard := 0 })) s1)
  | .acquire =>
    if t.button = 1 ∧ s.nat 5 5 = 1 ∧ s.access.fromHold = false then unlockVerdict 0xFF n s1
    else if t.button = 2 then (bodyFrame 2 0xFF n s1).1
    else s1
  | .cabin | .release => if t.button = 2 then (lockVerdict n s1).1 else s1
  | _ => s1

/-- The check of a telegram waits for the cipher engine, for which PD4 SEC comes on (R28). -/
def awaitCheck (c : TokCheck) (s : State) : State := power [4] (s.modAccess (fun a => { a with checks := a.checks ++ [c] }))

/-- A BUTTON is judged and takes effect (R171, R180, R185). -/
def checkButton (tel : ButtonTel) (s : State) : State :=
  match judgeToken tel.slot tel.token tel.counter (buttonMsg tel) tel.mac s with
  | .valid => validButton tel s
  | .invalid k => invalidResponse (if tel.slot < 16 then tel.slot else 0xFF) k tel.token s
  | .skipped => s
  | .waits => awaitCheck (.button tel) s

/-- BUTTON (R171, R180, R185): in a sniff window once that is open. -/
def execButton (tel : ButtonTel) (s : State) : Out :=
  .next (if s.access.state = .poll ∨ s.access.state = .dormant then inWindow s (fun t => checkButton tel (endSniff t))
    else if hearsButton s then checkButton tel (endSniff s) else s)

/-- The receive window of a sniff is booked; one that detects the wake preamble stays open for up to 600 ms (R162). -/
def openSniff (preamble : Bool) (w : Nat) (s : State) : State :=
  let s1 := s.modUhf (fun u => { u with sniffAt := some (w + lsbOfMs 500 * ((s.now - w) / lsbOfMs 500 + 1)) })
  let a := max w s.now
  let e := a + (if preamble then lsbOfMs 600 else lsbOfUs 500)
  match s1.uhf.access with
  | some x =>
    if s1.access.poll.isSome then
      (if preamble then s1.modUhf (fun u => { u with access := some { x with open_ := min x.open_ a, end_ := max x.end_ e } }) else s1)
    else bookAccess a (max x.end_ e) s1
  | none => bookAccess a e s1

/-- SNIFF_WINDOW: the receive window booked every 500 ms in POLL and DORMANT, for which PD5 UHF is on at L2 or shallower (R114,
R162). -/
def execSniffWindow (preamble : Bool) (s : State) : Out :=
  .next (match s.uhf.sniffAt with
    | some w =>
      if s.access.state ≠ .poll ∧ s.access.state ≠ .dormant then s
      else atDue (w - lsbOfUs (if calValidAt w (accessFreq s) s then 73 else 225)) s (fun t => if t.usable 5 = true ∧ t.eave.depth ≤ 2 then openSniff preamble w t else power [5] t)
    | none => s)

/-- UHF_RX_WINDOW_END, with which a poll cycle is over once its last answer slot has passed (R168, R227). -/
def execUhfRxWindowEnd (s : State) : Out :=
  .next (
    let t := rxWindowEnd s
    match t.access.poll with
    | some c => if c.end_ ≤ t.now ∧ accessOpen t = false then closePoll t else t
    | none => t)

end Sys2Proof.Machine
end

