-- ==== Sys2Proof/Machine/AccessCycle.lean ====
section
/-! DEFINITION. Acquire, cab, start and LOCATE cycles of the access engine (06_access_immobiliser.md): CHALLENGE,
RESPONSE, zone verdicts, ranging and what a cycle concludes. -/

namespace Sys2Proof.Machine

/-! ### The cycle's shape (R164, R169) -/

/-- T_c of a zone map, µs (R169). -/
def cycleUs (m : Bytes) : Nat := 58500 + 750 * (mapSteps m + 1)

/-- T_r of a zone map, µs (R169). -/
def responseUs (m : Bytes) : Nat := (31 + 3 * (mapSteps m + 1)) * 160 + 1000

/-- Lowest poll set in the HEARD field of a slot's last ANSWER; set 0 for a slot that has not answered (R169). -/
def lowestHeard (s : State) (n : Nat) : Nat := ((List.range 4).find? (fun k => (s.tok n).heard.testBit k)).getD 0

/-- Slots that an acquire cycle admits (R169): those that answered since APPROACH entry; when APPROACH was entered from
HOLDOVER or WORKSHOP without a poll, every LEARNED slot. -/
def acquireSlots (s : State) : List Nat :=
  if s.access.fromHold then learned s else (learned s).filter (fun n => (s.tok n).answered)

/-- CHALLENGE telegrams of a cycle: the poll set of each, 0xFF for CAB_SET, with its slots (R169). -/
def cycleGroups (s : State) (kind : CycKind) : List (Nat × List Nat) :=
  match kind with
  | .acquire =>
    ((List.range 4).map (fun k => (k, (acquireSlots s).filter (fun n => lowestHeard s n == k)))).filter (fun g => !g.2.isEmpty)
  | .locate => [(0xFF, (learned s).filter (fun n => ((s.access.locate.map (·.2.1)).getD []).contains n))]
  | _ => [(0xFF, learned s)]

/-- Channels of a group's antenna set. -/
def groupSet (m : Bytes) (k : Nat) : List Nat := if k = 0xFF then cabSet m else pollSet m k

/-- The tokens must arm ranging after answering (R164, R179). -/
def rangeFlag (s : State) (m : Bytes) (kind : CycKind) (force : Bool) : Bool :=
  s.access.suspect || (kind == .start && s.nat 5 7 == 1) || force ||
    (List.range (mapZones m)).any (fun z => (u8At m (zoneOff m z + 1)).testBit 2)

/-- The CHALLENGE telegram of a group (R164). -/
def challengeTel (slots : List Nat) (flags : Nat) (ch : Bytes) (stamp steps : Nat) : Bytes :=
  telegram 0x03 (vehicleId ++ beBytes 2 (maskOf slots) ++ leBytes 1 flags ++ ch ++ beBytes 8 stamp ++ leBytes 1 steps)

/-- The CHALLENGE sequences of a cycle, each with its steps (R164, R169). -/
def challengeTeles (m : Bytes) (groups : List (Nat × List Nat)) (flags : Nat) (ch : Bytes) (stamp : Nat) : List Tele :=
  (List.range groups.length).map (fun k =>
    let g := groups.getD k (0xFF, [])
    { set := g.1, at_ := k * cycleUs m, us := 58500, chans := groupSet m g.1
      data := challengeTel g.2 flags ch stamp (mapSteps m)
      steps := (upFrom 1 (mapSteps m)).map (fun i => (i, stepChans m i)) })

/-! ### Conclusions -/

/-- A ticket still runs. -/
def ticketRuns (s : State) (tk : Nat) : Bool := (s.ticket tk).state == .running

/-- The verdict of a response passes: a zone, with a ranging pass where one was required (R179). -/
def Resp.passes (r : Resp) : Bool := r.done && decide (r.zone < 12) && (!r.needs || r.ranged == 1)

/-- What ACCESS.LOCATE answers for one tile (R199). -/
def locateTile (c : AccCyc) (n : Nat) : TileRes :=
  match c.resps.find? (fun r => r.slot == n - 0x50) with
  | some r =>
    { node := n, status := St.ok
      data := leBytes 1 r.zone ++ leBytes 1 r.ranged ++ zeros 2 ++ leBytes 4 r.counter ++ leBytes 8 c.stamp }
  | none => { node := n, status := St.noToken, data := [0xFF] ++ zeros 7 ++ leBytes 8 c.stamp }

/-- ACCESS.LOCATE completes with what the cycle found (R198, R199). -/
def locateEnd (tk : Nat) (c : AccCyc) (s : State) : State :=
  match s.work tk with
  | some w =>
    if ticketRuns s tk then completeTiles tk w.walk (w.walkTileNodes.map (locateTile c)) s
    else s
  | none => s

/-- A start cycle is used up without success: the request goes on, or ends with its refusal (R186). -/
def startMissed (s : State) : State :=
  match s.access.start with
  | some used =>
    if s.nat 5 8 ≤ used + 1 then
      emit 9 0x0506 (leBytes 1 1 ++ leBytes 1 0xFF ++ leBytes 1 (used + 1)) 0 0xFF (s.modAccess (fun a => { a with start := none }))
    else s.modAccess (fun a => { a with start := some (used + 1) })
  | none => s

/-- A cycle is skipped without verdict, with event 0x050C (R170). -/
def skipCycle (c : AccCyc) (kind st : Nat) (s : State) : State :=
  let s1 := skipEvent kind st (s.modAccess (fun a => { a with cyc := none }))
  match c.kind with
  | .start => startMissed s1
  | .locate => match c.locate with
    | some tk => locateEnd tk { c with resps := [] } s1
    | none => s1
  | _ => s1

/-- The array has ended the access sequence that ran: the cycle it belongs to is skipped (R216). -/
def skipAccess (st : Nat) (s : State) : State :=
  match s.access.cyc with
  | some c => skipCycle c 2 st s
  | none => skipEvent 2 st (s.modAccess (fun x => { x with poll := none }))

/-- A cab or start cycle names the driver (R184, R186, R187). -/
def cabResult (c : AccCyc) (s : State) : State :=
  let cabs := ((c.resps.filter (fun r => r.passes && (zoneFlags c.map r.zone).testBit 1)).map (·.slot)).mergeSort
  match cabs with
  | d :: _ =>
    let s1 := setDriver (some d) cabs (s.modAccess (fun a => { a with absent := false, cabSeen := s.now }))
    if c.kind = .start then
      match s1.access.start with
      | some used => if s1.power.ign = true ∧ s1.access.state = .cabin then authorise d (used + 1) s1 else startMissed s1
      | none => s1
    else s1
  | [] =>
    let s1 := s.modAccess (fun a => { a with absent := true })
    if c.kind = .start then startMissed s1 else s1

/-- A cycle without a valid RESPONSE counts towards ACCESS.LOST_CYCLES (R159). -/
def acquireResult (c : AccCyc) (s : State) : State :=
  if c.resps.isEmpty then
    let s1 := s.modAccess (fun a => { a with lostCycles := a.lostCycles + 1 })
    if s.nat 5 2 ≤ s.access.lostCycles + 1 then trigger 8 s1 else s1
  else
    let s1 := s.modAccess (fun a => { a with lostCycles := 0 })
    match c.resps.find? (fun r => r.passes && (zoneFlags c.map r.zone).testBit 1) with
    | some r => if s.access.fromHold then unlockVerdict r.zone r.slot s1 else s1
    | none => s1

/-- Every verdict of the cycle has been formed: it ends (R169, R184–R186). -/
def finishCycle (c : AccCyc) (s : State) : State :=
  let held := c.resps.any (fun r => r.passes && zoneFlags c.map r.zone % 4 != 0)
  let s1 := s.modAccess (fun a => { a with
    cyc := none, heldSeen := if held then s.now else a.heldSeen, walked := a.walked && !held })
  match c.kind with
  | .acquire => acquireResult c s1
  | .locate => match c.locate with
    | some tk => locateEnd tk c s1
    | none => s1
  | _ => cabResult c s1

/-- The response of a slot in the open cycle changed. -/
def modResp (n : Nat) (f : Resp → Resp) (s : State) : State :=
  s.modAccess (fun a => { a with cyc := a.cyc.map (fun c => { c with resps := c.resps.map (fun r => if r.slot = n then f r else r) }) })

/-- One token's verdict is concluded, with event 0x0503; a passing UNLOCK-zone verdict meets the handles (R176, R180). -/
def concludeResp (wide : Bool) (n : Nat) (s : State) : State :=
  match s.access.cyc with
  | some c => match c.resps.find? (fun r => r.slot == n) with
    | some r =>
      let s1 := modResp n (fun r => { r with done := true }) (s.modTok n (fun t => { t with zone := r.zone, range := r.ranged }))
      let s2 := emit 9 0x0503 (leBytes 1 n ++ leBytes 1 r.zone ++ leBytes 1 r.ranged ++ leBytes 1 (b1 wide + b1 (c.kind == .start) 1)
        ++ leBytes 4 r.counter) (slotNode n) 0xFF s1
      if c.kind = .acquire ∧ ({ r with done := true } : Resp).passes = true ∧ (zoneFlags c.map r.zone).testBit 0 then
        tryUnlock (s2.modAccess (fun a => { a with unlocks := a.unlocks ++ [(n, r.zone, zoneDoors c.map r.zone, s.now)] }))
      else s2
    | none => s
  | none => s

/-- The cycle ends once every verdict is concluded. -/
def settleCycle (s : State) : State :=
  match s.access.cyc with
  | some c => if c.judged && c.resps.all (·.done) then finishCycle c s else s
  | none => s

/-- The end of a ranging session as the open cycle takes it: a pass, a relay suspicion, or no verdict (R179, R183,
R259). -/
def takeRanging (e : Nat × Nat × Nat) (s : State) : State :=
  match s.access.cyc with
  | some c =>
    if c.judged && c.resps.any (fun r => r.slot == e.1 && r.needs && !r.done) then
      let s1 := modResp e.1 (fun r => { r with ranged := e.2.1 }) s
      let s2 := if e.2.1 = 2 then
          invalidResponse e.1 5 (s.tok e.1).token (s1.modTok e.1 (fun t => { t with relay := satAdd 0xFFFF t.relay 1 }))
        else if e.2.2 = 1 then skipEvent 0 St.entropyFail s1
        else if e.2.2 = 2 then skipEvent 1 (if s.ciph.off then St.engineOff else St.keyRevoked) s1
        else s1
      settleCycle (concludeResp (!baselineReady s) e.1 s2)
    else s
  | none => s

/-- The access engine takes the sessions that have ended. -/
def drainRanging (s : State) : State :=
  s.range.ended.foldl (fun t e => takeRanging e t) (s.modRange (fun r => { r with ended := [] }))

/-! ### CHALLENGE (R169, R170) -/

/-- The challenge is drawn: the CHALLENGE telegrams and their steps run, or the cycle is skipped (R169, R215, R221). -/
def sendChallenge (ch : Bytes) (s : State) : State :=
  match s.access.cyc with
  | some c =>
    let m := c.map
    let groups := cycleGroups s c.kind
    let slots := (groups.flatMap (·.2)).mergeSort
    let open_ := s.now + lsbOfUs (groups.length * cycleUs m + 1000)
    let close := open_ + lsbOfUs (slots.length * responseUs m)
    let c1 := { c with challenge := some ch, mask := maskOf slots, groups, due := close + lsbOfUs 550 }
    let r := accessRun false (carrierNow s) (challengeTeles m groups (b1 (rangeFlag s m c.kind c.force)) ch c.stamp) c.lfMeas
      (s.modAccess (fun a => { a with cyc := some c1, lfSent := [] }))
    match r.2 with
    | some why => skipCycle c1 2 (refusalStatus why) r.1
    | none => if slots.isEmpty then r.1 else bookAccess open_ close r.1
  | none => s

/-- A cycle of a kind begins with the stamp of its fire of shutter 15 (R169, R170); PD6 RANGE comes on for the ranging that may
follow (R28, R179). -/
def beginCycle (kind : CycKind) (stamp : Nat) (meas : List LfMeas) (s : State) : State :=
  let m := zoneMap s
  let c : AccCyc := { kind, stamp, map := m, lfMeas := meas
                      locate := if kind = .locate then s.access.locate.map (·.1) else none
                      force := kind == .locate && ((s.access.locate.map (·.2.2)).getD false) }
  let s1 := s.modAccess (fun a => { a with cyc := some c, cycles := wrapAdd 32 a.cycles 1 })
  let a := askQueue 2 8 (if rangeFlag s m kind c.force then power [6] s1 else s1)
  let t := match a.2 with
    | .got b => sendChallenge b a.1
    | .failed => skipCycle c 0 St.entropyFail a.1
    | .waits => a.1
  if kind = .locate then t.modAccess (fun a => { a with locate := none }) else t

/-- A fire of shutter 15 that the engine makes at once for a cycle outside its grid, with its router line (R98, R169, R186,
R199). -/
def fireNow (s : State) : State :=
  runRoutes routeDepth (raiseRoute 16 s.now s.coarse (s.modShut 15 (fun h => { h with
    lastFire := s.now, lastLate := false, lastCoarse := s.coarse, fireCount := wrapAdd 32 h.fireCount 1 })))

/-- A cycle outside the grid of shutter 15: at once, or once the array has ended its sequence and PD7 LF is on (R28, R199,
R220). -/
def cycleNow (kind : CycKind) (meas : List LfMeas) (s : State) : State :=
  if lfBusy s then s
  else if ready [7] s then beginCycle kind s.now meas (fireNow s)
  else power [7] s

/-- A cycle of the engine's state that its fire of shutter 15 began (R169). -/
def gridCycle (stamp : Nat) (meas : List LfMeas) (s : State) : State :=
  beginCycle (if s.access.state = .acquire then .acquire else .cab) stamp meas (s.modAccess (fun a => { a with cycleDue := none }))

/-- ACCESS_CYCLE: a LOCATE or start cycle at once, otherwise the cycle of shutter 15, which waits for PD7 LF where that is off
(R28, R169, R186, R199). -/
def execAccessCycle (meas : List LfMeas) (s : State) : Out :=
  .next (
    let st := s.access.state
    let period := if st = .acquire then lsbOfMs (s.nat 5 1) else lsbOfS (s.nat 5 9)
    if s.stew.running = false ∨ s.access.cyc.isSome ∨ (st ≠ .acquire ∧ st ≠ .cabin ∧ st ≠ .release) then s
    else if s.access.locate.isSome then cycleNow .locate meas s
    else if s.access.start.isSome ∧ st = .cabin then cycleNow .start meas s
    else match s.access.cycleDue with
      | some f => if lfBusy s then s else if ready [7] s then gridCycle f meas s else power [7] s
      | none => match firmFire 15 s with
        | some t =>
          let u := repace 15 period t
          if ready [7] u then gridCycle u.now meas u else power [7] (u.modAccess (fun a => { a with cycleDue := some u.now }))
        | none => s)

/-! ### RESPONSE (R171–R175) -/

/-- CMAC input of RESPONSE (R167). -/
def responseMsg (ch : Bytes) (stamp : Nat) (t : ResponseTel) : Bytes :=
  ch ++ beBytes 4 t.counter ++ beBytes 8 stamp ++ vehicleId ++ beBytes 4 t.token ++ leBytes 1 t.slot ++ t.meas

/-- A LEARNED slot reports EXHAUSTED: it becomes RELEARN (R172). -/
def exhausted (n : Nat) (s : State) : State := slotEvent n 2 2 (storeTok n (s.modTok n (fun t => { t with state := 2 })))

/-- A valid RESPONSE joins the open cycle (R171, R175). -/
def validResponse (t : ResponseTel) (c : AccCyc) (s : State) : State :=
  let n := t.slot
  let s1 := s.modTok n (fun x => { x with s := t.counter, seen := s.now, lowBat := t.flags.testBit 4, answered := true })
  let s2 := if 3 ≤ t.meas.length then addSilent (stepMagnitude t.meas 0) s1 else s1
  if c.mask.testBit n ∧ c.resps.all (fun r => r.slot != n) = true then
    s2.modAccess (fun a => { a with cyc := some { c with resps := c.resps ++ [{ slot := n, counter := t.counter, meas := t.meas }] } })
  else s2

/-- A RESPONSE is judged and takes effect in the open cycle (R170–R172). -/
def checkResponse (tel : ResponseTel) (c : AccCyc) (ch : Bytes) (s : State) : State :=
  if tel.flags % 2 = 1 then
    if 16 ≤ tel.slot then invalidResponse 0xFF 0 tel.token s
    else if (s.tok tel.slot).state ≠ 1 then invalidResponse tel.slot 6 tel.token s
    else if (s.tok tel.slot).token ≠ tel.token then invalidResponse tel.slot 0 tel.token s
    else exhausted tel.slot s
  else match judgeToken tel.slot tel.token tel.counter (responseMsg ch c.stamp tel) tel.mac s with
    | .valid => validResponse tel c s
    | .invalid k => invalidResponse (if tel.slot < 16 then tel.slot else 0xFF) k tel.token s
    | .skipped => skipCycle c 1 (if s.ciph.off then St.engineOff else St.keyEmpty) s
    | .waits => awaitCheck (.response tel) s

/-- RESPONSE_TELEGRAM (R171, R172). -/
def execResponseTelegram (tel : ResponseTel) (s : State) : Out :=
  .next (match s.access.cyc with
    | some c => match c.challenge with
      | some ch => if c.judged then s else inWindow s (checkResponse tel c ch)
      | none => s
    | none => s)

/-! ### Verdicts (R176, R179) -/

/-- Steps that were NOT_DRIVEN for a slot: those of the CHALLENGE that admitted it (R221). -/
def notDriven (c : AccCyc) (n : Nat) : List Nat :=
  let set := ((c.groups.find? (fun g => g.2.contains n)).map (·.1)).getD 0xFF
  (c.out.filter (fun x => x.1 == set)).map (·.2)

/-- A zone verdict requires a Rangefinder pass (R179). -/
def needsRanging (s : State) (c : AccCyc) (zone : Nat) : Bool :=
  decide (zone < 12) && ((zoneFlags c.map zone).testBit 2 || s.access.suspect || (c.kind == .start && s.nat 5 7 == 1) || c.force)

/-- One response gets its zone verdict: concluded at once, or its session is requested (R176, R179). -/
def judgeResp (c : AccCyc) (wide : Bool) (g b : Nat) (s : State) (r : Resp) : State :=
  let z := zoneVerdict c.map g b (notDriven c r.slot) r.meas
  let needs := needsRanging s c z
  let s1 := modResp r.slot (fun r => { r with zone := z, needs }) s
  if needs then
    requestSession { slot := r.slot, challenge := c.challenge.getD [], cycle := c.stamp, bound := s.nat 5 6 } s1
  else concludeResp wide r.slot s1

/-- CYCLE_VERDICT: 0.55 ms after the last response slot the verdicts are formed, in slot order (R169, R175, R176). -/
def execCycleVerdict (s : State) : Out :=
  .next (match s.access.cyc with
    | some c =>
      if c.judged || c.challenge.isNone then s
      else atDue c.due s (fun t =>
        let wide := !baselineReady t
        let g := mapMargin c.map + (if wide then 12 else 0)
        let t1 := t.modAccess (fun a => { a with cyc := some { c with judged := true } })
        let t2 := (c.resps.mergeSort (fun a b => decide (a.slot ≤ b.slot))).foldl
          (judgeResp c wide g (baseline c.map t)) t1
        drainRanging (settleCycle t2))
    | none => s)

/-- RANGING_VERDICT (R257): the session that runs ends, and the open cycle takes its outcome (R179). -/
def execRangingVerdict (s : State) : Out := .next (drainRanging (rangingVerdict s))

end Sys2Proof.Machine
end

