-- ==== Sys2Proof/Machine/SwitchIo.lean ====
section
/-! DEFINITION. The frame switch's own events (frames, ports, PAUSE, LIN, cipher loop, audit) and class 0x0A commands
(11_frame_switch.md). What a sent copy of the access engine means stands in AccessCmd. -/

namespace Sys2Proof.Machine

/-! ### Frames and ports -/

/-- A port's controller accepts frames of this KIND and size (R309, R312). -/
def rxFits (s : State) (n : Nat) (f : RxFrame) : Bool :=
  if isCan n then decide (f.kind ≤ 2) && modeCarries (s.nat 10 0 n) f.kind else isT1 n && f.kind == 4

/-- Time field of a PAUSE frame on a T1 port (R331). -/
def pauseTime (n : Nat) (f : RxFrame) : Option Nat :=
  if isT1 n = true ∧ slice f.bytes 0 6 = [0x01, 0x80, 0xC2, 0x00, 0x00, 0x01] ∧ beNat (slice f.bytes 12 4) = 0x88080001 then
    some (beNat (slice f.bytes 16 2))
  else none

/-- Epoch units of a PAUSE time on a T1 port: 512 bit times per unit (R331). -/
def pauseLsb (n time : Nat) : Nat := (time * 512 * (if n < 22 then 10 else 1) * 2 ^ 30 + 999999999) / 1000000000

/-- A partner's PAUSE: counted, and a later one replaces the time of an earlier one (R331). -/
def pauseIn (n time : Nat) (s : State) : State :=
  count n 13 (s.modPort n (fun p => { p with pauseUntil := if time = 0 then none else some (s.now + pauseLsb n time) }))

/-- The receive error counter of a CAN port after a frame (R309). -/
def recAfter (n : Nat) (ok : Bool) (s : State) : State :=
  if isCan n then s.modPort n (fun p => { p with
    recErr := if ok then (if 127 < p.recErr then 127 else p.recErr - 1) else satAdd 255 p.recErr 1 }) else s

/-- FRAME_RECEIVED (R314, R318, R330): on a CAN or T1 port that is up; a PAUSE is never classified (R331). A controller in bus-off
takes no part in its bus (R309). -/
def execFrameReceived (port : Fin 28) (f : RxFrame) (s : State) : Out :=
  let n := port.val
  .next (if (isCan n || isT1 n) = false ∨ (s.port n).state ≠ .up then s
    else if (s.port n).busOff = true then s
    else atDue f.lookup s (fun t =>
      if f.ok = true ∧ rxFits t n f = true ∧ formOk f.kind f.bytes = true then
        match pauseTime n f with
        | some p => pauseIn n p t
        | none => netActivity n (ingress n f (recAfter n true t))
      else
        let t1 := count n 7 (recAfter n false t)
        if isT1 n ∧ (f.bytes.length < 60 ∨ 1518 < f.bytes.length) then count n 14 t1 else t1))

/-- HELD_OUT: a multicast copy not started at its hold (R333). -/
def execHeldOut (port : Fin 28) (s : State) : Out :=
  .next (match ((s.sw.frames.map (fun f => f.copies.filterMap (fun c =>
      if c.port = port.val ∧ c.taken = false then c.hold else none))).flatten).min? with
    | some h => atDue h s (endHeldOut port.val)
    | none => s)

/-- AGED: a copy not started at its ingress stamp + SWITCH.MAX_RESIDENCY (R333). -/
def execAged (port : Fin 28) (s : State) : Out :=
  .next (match (s.sw.frames.filterMap (fun f =>
      if f.copies.any (fun c => c.port == port.val && !c.taken) then some f.age else none)).min? with
    | some a => atDue a s (endAged port.val)
    | none => s)

/-- PORT_DOWN: the T1 link is lost (R313, R341 MEDIUM_B). -/
def execPortDown (port : Fin 28) (s : State) : Out :=
  .next (if isT1 port.val ∧ (s.port port.val).state = .up then takeDown port.val 1 (count port.val 15 s) else s)

/-- The port's bus or link may come up: PD8 NET is on, no setting disables it and no cable run holds it (R313). -/
def mayComeUp (s : State) (n : Nat) : Bool :=
  s.powered 8 && !portDisabled s n && !(s.port n).cable && (s.port n).state != .up

/-- PORT_UP: after 11 recessive bits, link training, or the LIN commander's start (R312, R313, R325). -/
def execPortUp (port : Fin 28) (s : State) : Out :=
  .next (if mayComeUp s port.val then
      flushOutbox (bringUp port.val (if isT1 port.val then 2 else (s.port port.val).cause) s)
    else s)

/-- A CAN controller enters bus-off: the port becomes BLOCKED while recovery runs (R309, R313). -/
def busOff (n : Nat) (s : State) : State :=
  emit 0x7C 0x0A01 (leBytes 1 n ++ leBytes 1 3 ++ leBytes 1 3) (0x30 + n) 0xFF
    (count n 14 (s.modPort n (fun p => { p with busOff := true, tec := 255 })))

/-- An error while a CAN controller transmits: its transmit error counter rises by 8, and above 255 the controller enters bus-off
(R309; log entry 207). -/
def txError (n : Nat) (s : State) : State :=
  if 255 < (s.port n).tec + 8 then busOff n s else s.modPort n (fun p => { p with tec := p.tec + 8 })

/-- CAN_BUS_OFF: the error that takes the transmit error counter above 255 (R309, R313). -/
def execCanBusOff (port : Fin 28) (s : State) : Out :=
  let n := port.val
  .next (if isCan n = true ∧ (s.port n).state = .up ∧ (s.port n).busOff = false ∧ 255 < (s.port n).tec + 8 then busOff n s
    else s)

/-- CAN_BUS_OFF_RECOVERED (R309). -/
def execCanBusOffRecovered (port : Fin 28) (s : State) : Out :=
  let n := port.val
  .next (if (s.port n).busOff = true then
      emit 0x7C 0x0A01 (leBytes 1 n ++ leBytes 1 2 ++ leBytes 1 4) (0x30 + n) 0xFF
        (s.modPort n (fun p => { p with busOff := false, tec := 0, recErr := 0 }))
    else s)

/-- CAN_ATTEMPT_LOST: arbitration is lost, or the attempt ends in an error frame; copies whose limit has passed end now
(R326, R333). -/
def execCanAttemptLost (port : Fin 28) (error : Bool) (s : State) : Out :=
  let n := port.val
  .next (if isCan n = true ∧ maySend s n = true ∧ (headCopy s n).isSome = true then
      endAged n (endHeldOut n (if error then txError n s else count n 15 s))
    else s)

/-- PAUSE_RECEIVED (R331): a later PAUSE replaces the time of an earlier one. -/
def execPauseReceived (port : Fin 28) (time : BitVec 16) (s : State) : Out :=
  let n := port.val
  .next (if isT1 n ∧ (s.port n).state = .up then
      pauseIn n time.toNat s
    else s)

/-- PAUSE_EXPIRE (R331). -/
def execPauseExpire (port : Fin 28) (s : State) : Out :=
  .next (match (s.port port.val).pauseUntil with
    | some e => atDue e s (fun t => t.modPort port.val (fun p => { p with pauseUntil := none }))
    | none => s)

/-- PAUSE_REPEAT: every 100 ms on 100BASE-T1 and every 10 ms on 1000BASE-T1 while the hold lasts (R331). -/
def execPauseRepeat (port : Fin 28) (s : State) : Out :=
  let n := port.val
  .next (if isT1 n = true ∧ (s.port n).held = true ∧ (s.port n).state = .up then
      atDue ((s.port n).pauseSent + lsbOfMs (if n < 22 then 100 else 10)) s (sendPause n 0xFFFF)
    else s)

/-- GENERATION_RETIRE: the last copy of the retiring generation has ended, or its drain bound is reached (R324). -/
def execGenerationRetire (s : State) : Out :=
  let retire (r : Retiring) (t : State) : State :=
    emit 0x7C 0x0A02 (leBytes 1 1 ++ zeros 3 ++ leBytes 4 r.gen) 0 0xFF (t.modSw (fun w => { w with retiring := none }))
  .next (match s.sw.retiring with
    | some r => if framesOfGen s r.gen = 0 then retire r s else atDue r.bound s (retire r)
    | none => s)

/-! ### P27 -/

/-- The verdict on a TX record of P27: STATUS, and the frame when it is taken (R315, R335). -/
def txVerdict (rec : Bytes) : Nat × Option (Nat × Bytes) :=
  let len := u16At rec 14
  let kind := u8At rec 12
  let b := slice rec 24 len
  if 2008 < len then (2, none)
  else if allZero (rec.take 12) && u8At rec 13 == 27 && u32At rec 16 == 0 && allZero (slice rec 20 4) && formOk kind b then
    (0, some (kind, b))
  else (1, none)

/-- TX slot `i` is taken when the host has handed it over: STATUS is written and OWNER returns to 0 (R337). -/
def scanSlot (i : Nat) (s : State) : State :=
  let base := 0xC400 + i * 0x800
  if Memory.read s.host.window base ≠ 1 ∨ (s.port 27).held = true then s
  else
    let v := txVerdict (Memory.readBytes s.host.window (base + 16) 2032)
    let s1 := s.modHost (fun h => { h with
      window := Memory.write (Memory.write h.window (base + 1) (BitVec.ofNat 8 v.1)) base 0 })
    match v.2 with
    | some (k, b) => ingress 27 { kind := k, bytes := b, stamp := s.now, lookup := s.now, ok := true } s1
    | none => count 27 7 s1

/-- P27_TX_SCAN: every 50 µs at L0 or L1 with PD8 NET on, slot 0 first (R337). -/
def execP27TxScan (s : State) : Out :=
  .next (if s.eave.depth ≤ 1 ∧ s.powered 8 = true ∧ (s.port 27).state = .up then
      atDue s.sw.scanAt s (fun t => scanSlot 1 (scanSlot 0 (t.modSw (fun w => { w with scanAt := t.now + lsbOfUs 50 }))))
    else s)

/-! ### LIN -/

/-- A protected identifier: FRAME_ID with its two parity bits (R310, ISO 17987-3). -/
def linPid (fid : Nat) : Nat :=
  let b (i : Nat) : Bool := fid.testBit i
  fid % 64 + b1 (b 0 ^^ b 1 ^^ b 2 ^^ b 4) 6 + b1 (!(b 1 ^^ b 3 ^^ b 4 ^^ b 5)) 7

/-- The header that the commander sends: sync byte and protected identifier (R310). -/
def linHeader (fid : Nat) : Bytes := leBytes 1 0x55 ++ leBytes 1 (linPid fid)

/-- A sum of 8 bits to which every carry is added again. -/
def carrySum (b : Bytes) : Nat := b.foldl (fun c x => if c + x.toNat < 256 then c + x.toNat else c + x.toNat - 255) 0

/-- Checksum of a response: classic over its data, enhanced over the protected identifier too (R310, R311). -/
def linChecksum (enhanced : Bool) (fid : Nat) (d : Bytes) : Bytes :=
  leBytes 1 (255 - carrySum ((if enhanced then leBytes 1 (linPid fid) else []) ++ d))

/-- One slot of a port's schedule: the header, the value published or the response awaited (R310, R327). -/
def runSlot (n : Nat) (s : State) : State :=
  let p := s.port n
  let missed := if p.awaiting.isSome then count n 7 s else s
  let staged := (s.conf.object (objectId 10 0xF1 n)).getD []
  let sched := staged
  let i := if staged = p.sched then p.slot else 0
  if u8At sched 0 = 0 then missed.modPort n (fun p => { p with sched, slot := 0, awaiting := none })
  else
    let fid := u8At sched (4 + 4 * i)
    let ms := u8At sched (7 + 4 * i)
    let s1 := missed.modPort n (fun p => { p with
      sched, slot := (i + 1) % u8At sched 0, slotAt := s.now + lsbOfMs ms, awaiting := none })
    if u8At sched (5 + 4 * i) % 2 = 1 then
      match assoc p.publish fid with
      | some (d, _) => s1.modPort n (fun p => { p with
          sent := [linHeader fid ++ d ++ linChecksum ((u8At sched (5 + 4 * i)).testBit 1) fid d], publish := assocSet p.publish fid (d, false) })
      | none => s1
    else if p.held then count n 14 s1
    else s1.modPort n (fun p => { p with sent := [linHeader fid], awaiting := some i })

/-- LIN_SLOT (R310, R327). -/
def execLinSlot (port : Fin 28) (s : State) : Out :=
  .next (if isLin port.val = true ∧ (s.port port.val).state = .up then
      atDue (s.port port.val).slotAt s (runSlot port.val)
    else s)

/-- Stamp at which the break field of the present slot began (R314, R327). -/
def slotStart (p : Port) (i : Nat) : Nat := p.slotAt - lsbOfMs (u8At p.sched (7 + 4 * i))

/-- Stamp at which a LIN frame's key is complete: its FRAME_ID, at the end of the 34 bit times of a header (R311, R317,
R318). -/
def linLookup (n : Nat) (start : Nat) (s : State) : Nat := min s.now (start + 34 * 2 ^ 30 / s.nat 10 7 n)

/-- LIN_RESPONSE_RECEIVED: the bytes that follow the header of a responder slot, data and checksum; a frame is stamped at the
start of its break field; a response that is missing or corrupt is counted (R310, R314, R327). -/
def execLinResponseReceived (port : Fin 28) (resp : Option Bytes) (s : State) : Out :=
  let n := port.val
  .next (match (s.port n).awaiting with
    | none => s
    | some i =>
      let sched := (s.port n).sched
      let s1 := s.modPort n (fun p => { p with awaiting := none })
      match resp with
      | some b =>
        let d := b.take (u8At sched (6 + 4 * i))
        if b = d ++ linChecksum ((u8At sched (5 + 4 * i)).testBit 1) (u8At sched (4 + 4 * i)) d ∧
            d.length = u8At sched (6 + 4 * i) ∧ (s.port n).state = .up then
          let at_ := slotStart (s.port n) i
          ingress n { kind := 3, stamp := at_, lookup := linLookup n at_ s, ok := true,
                      bytes := leBytes 1 (u8At sched (4 + 4 * i)) ++ leBytes 1 (u8At sched (5 + 4 * i) / 2 % 2)
                        ++ leBytes 1 d.length ++ zeros 1 ++ d } s1
        else count n 7 s1
      | none => count n 7 s1)

/-! ### Cipher loop -/

/-- Outcome of a cipher-loop job: the new data, or the cause of its failure (R323, R342). -/
inductive LoopOut where
  | ok (data : Bytes)
  | failed (cause : Nat)
  deriving DecidableEq, Repr

/-- The data field of the result fits its frame's format. -/
def loopFits (kind : Nat) (len : Nat) : Bool :=
  if kind = 0 then decide (len ≤ 8) else if kind = 1 then fdLength len else decide (1 ≤ len) && decide (len ≤ 2048)

/-- The cipher-loop job of a frame under its profile (R323). -/
def loopJob (s : State) (f : SwFrame) : LoopOut :=
  let op := f.tr.loop_.1
  let slot := f.tr.loop_.2.1
  let t := f.tr.loop_.2.2
  let st := tget s.sw.loops (u8At f.tr.entry 37 % 8)
  let id := f.bytes.take 4
  let d := f.bytes.drop 16
  if 2 < f.kind then .failed 4
  else if op = 0 then
    if 2 ^ 32 ≤ st.fresh ∨ st.reserved ≤ st.fresh then .failed 3
    else match usableKey s slot 2 with
      | some k =>
        let fr := leBytes 4 st.fresh
        let r := d ++ fr ++ (cmac k (id ++ fr ++ d)).take t
        if loopFits f.kind r.length then .ok r else .failed 4
      | none => .failed 2
  else if d.length < t + 4 then .failed 4
  else match usableKey s slot 3 with
    | some k =>
      let m := d.take (d.length - t - 4)
      let fr := slice d (d.length - t - 4) 4
      if (cmac k (id ++ fr ++ m)).take t ≠ d.drop (d.length - t) then .failed 0
      else match st.accepted with
        | some a => if leNat fr ≤ a then .failed 1 else if loopFits f.kind m.length then .ok m else .failed 4
        | none => if loopFits f.kind m.length then .ok m else .failed 4
    | none => .failed 2

/-- Key of a profile's FRESH reservations and of its last value accepted (R391, R397). -/
def loopKey (m : Nat) : Nat := 0x1050 + m

/-- FRESH is consumed, and a new reservation is written when 256 values remain (R190, R323). -/
def useFresh (m : Nat) (s : State) : State :=
  let s1 := s.modSw (fun w => { w with loops := tmod w.loops m (fun l => { l with fresh := l.fresh + 1 }) })
  let l := tget s1.sw.loops m
  if l.reserved - l.fresh ≤ 256 ∧ l.reserving = false ∧ l.reserved < 2 ^ 32 then
    bumpCounter (loopKey m) (.reserved (loopKey m))
      (s1.modSw (fun w => { w with loops := tmod w.loops m (fun l => { l with reserving := true }) }))
  else s1

/-- A value is accepted; every 1,024 acceptances it is written to the parameter store (R323). -/
def acceptFresh (m v : Nat) (s : State) : State :=
  let l := tget s.sw.loops m
  let s1 := s.modSw (fun w => { w with loops := tmod w.loops m (fun l => { l with
    accepted := some v, since := if l.since + 1 = 1024 then 0 else l.since + 1 }) })
  if l.since + 1 = 1024 then putRecord (0xA0 + m) (leBytes 4 v) .nothing s1 else s1

/-- The frame that a cipher-loop job has taken (R323). -/
def loopFrame (s : State) : Option SwFrame := s.sw.frames.find? (fun f => f.copies.any (fun c => c.port == 26 && c.taken))

/-- The job's result re-enters on P26 as a new frame, or its copy ends FORMAT_DROP (R323). -/
def finishLoop (f : SwFrame) (s : State) : State :=
  let m := u8At f.tr.entry 37 % 8
  let r := if s.cipherUp && (tget s.ciph.ctx 3).isSome then loopJob s f else .failed 2
  let s1 := dropHead 26 f (s.modCtx 3 (fun _ => none))
  match r with
  | .ok d =>
    let s2 := if f.tr.loop_.1 = 0 then useFresh m s1
      else acceptFresh m (leNat (slice (f.bytes.drop 16) (f.bytes.length - 16 - f.tr.loop_.2.2 - 4) 4)) s1
    let s3 := countBy 26 3 f.bytes.length (count 26 2 (s2.modCiph (fun e => { e with jobs := wrapAdd 32 e.jobs 1 })))
    ingress 26 { kind := f.kind, bytes := f.bytes.take 12 ++ leBytes 2 d.length ++ zeros 2 ++ d, stamp := s.now,
                 lookup := s.now, ok := true } s3
  | .failed c =>
    emit 0x7C 0x0A08 (leBytes 1 m ++ leBytes 1 c ++ zeros 2 ++ leBytes 4 (u32At f.bytes 0)) 0x4A 0xFF
      (count 26 6 (if c ≤ 1 then s1.modCiph (fun e => { e with jobs := wrapAdd 32 e.jobs 1 }) else s1))

/-- CIPHER_LOOP_RESULT (R323): it waits while P26 is held (R330); blocks run only while Grain feeds the engine (R365); a latched engine fails the job. -/
def execCipherLoopResult (s : State) : Out :=
  .next (match loopFrame s with
    | some f => if (s.port 26).held = true then s
      else if s.cipherUp = true ∨ s.ciph.off = true ∨ s.grain.state = .latched ∨ tget s.ciph.ctx 3 = none then
        finishLoop f s
      else s
    | none => s)

/-! ### Audit -/

/-- Cells that are free (R341). -/
def cellsFree (s : State) : Nat := 16384 - (s.sw.frames.map (·.cells)).sum - s.sw.lost

/-- One pass of the leaked-cell audit: cells suspect in two consecutive passes are returned (R338). The answer holds how
many. -/
def auditPass (s : State) : State × Nat :=
  let w := s.sw
  let back := min w.suspect w.lost
  let s1 := s.modSw (fun w => { w with
    lost := w.lost - back, suspect := w.lost - back, leaks := satAdd 0xFFFFFFFF w.leaks back, lastAudit := s.now })
  (if back = 0 then s1 else emit 0x7C 0x0A06 (leBytes 2 back ++ leBytes 2 (cellsFree s1)) 0 0xFF s1, back)

/-- AUDIT_PASS: every SWITCH.AUDIT_PERIOD (R338). -/
def execAuditPass (s : State) : Out :=
  .next (if s.nat 10 19 = 0 ∨ s.powered 8 = false then s
    else atDue (s.sw.lastAudit + lsbOfS (s.nat 10 19)) s (fun t => (auditPass t).1))

/-- SWITCH.AUDIT (R338, R341). -/
def execSwitchAudit (tk : Fin 128) (s : State) : Out :=
  .next (command tk.val 0x0A08 (fun _ s =>
    let a := auditPass s
    let held := (a.1.sw.frames.map (·.cells)).sum
    complete tk.val St.ok (leBytes 2 (cellsFree a.1) ++ leBytes 2 held ++ leBytes 2 a.1.sw.suspect
      ++ leBytes 2 a.2 ++ leBytes 8 s.now) a.1) s)

/-! ### Commands -/

/-- Response of SWITCH.STATUS (R341). -/
def switchStatusData (s : State) : Bytes :=
  let r := s.sw.retiring
  leBytes 4 s.sw.gen ++ leBytes 4 ((r.map (·.gen)).getD 0xFFFFFFFF) ++ leBytes 8 ((r.map (·.bound)).getD 0)
    ++ leBytes 4 ((r.map (fun r => framesOfGen s r.gen)).getD 0) ++ leBytes 2 s.sharedFree
    ++ leBytes 2 (min s.sw.freeMin s.sharedFree)
    ++ leBytes 2 s.reserveTotal ++ leBytes 2 ((List.range 12).map s.reserveFree).sum ++ leBytes 1 s.accessFree
    ++ leBytes 1 (b1 ((List.range 28).any (fun n => (s.port n).held)) 1) ++ leBytes 2 (captureHeld s)
    ++ leBytes 4 s.sw.skipped ++ leBytes 4 s.sw.leaks ++ leBytes 8 s.sw.lastAudit

/-- SWITCH.STATUS (R341). -/
def execSwitchStatus (tk : Fin 128) (s : State) : Out :=
  .next (command tk.val 0x0A01 (fun _ s => complete tk.val St.ok (switchStatusData s) s) s)

/-- Kind code of a port (R341). -/
def portKind (n : Nat) : Nat := if isCan n then 0 else if isLin n then 1 else if n < 22 then 2 else if n < 24 then 3 else 4

/-- Tile payload of SWITCH.PORT_READ (R341). -/
def portData (n : Nat) (s : State) : Bytes :=
  let p := s.port n
  leBytes 1 n ++ leBytes 1 (portKind n) ++ leBytes 1 (portCode s n)
    ++ leBytes 1 (b1 p.held + b1 p.pauseUntil.isSome 1 + b1 p.cable 2 + b1 (isCan n && s.nat 10 5 n == 1) 3
        + b1 (isCan n && (decide (128 ≤ p.tec) || decide (128 ≤ p.recErr))) 4 + b1 p.busOff 5)
    ++ leBytes 2 (s.usage n) ++ leBytes 2 (s.reserve n) ++ leBytes 2 (s.reserveFree n) ++ zeros 2
    ++ (if isT1 n then beBytes 6 (Config.portMac n) else zeros 6) ++ zeros 2 ++ leBytes 8 p.upSince
    ++ leBytes 1 p.tec ++ leBytes 1 p.recErr ++ zeros 2

/-- Port of a port tile (R307). -/
def portOf (node : Nat) : Nat := node - 0x30

/-- SWITCH.PORT_READ (R341). -/
def execSwitchPortRead (tk : Fin 128) (s : State) : Out :=
  .next (fanOut tk.val 0x0A02 (fun n _ s => (s, St.ok, portData (portOf n) s)) s)

/-- SWITCH.COUNTERS_READ (R341). -/
def execSwitchCountersRead (tk : Fin 128) (s : State) : Out :=
  .next (fanOut tk.val 0x0A03 (fun n _ s =>
    (s, St.ok, (s.port (portOf n)).counters.toList.flatMap (leBytes 4))) s)

/-- An entry as it is staged: one with VALID 0 stages an empty entry (R341). -/
def stagedEntry (e : Bytes) : Bytes := if u8At e 29 % 2 = 1 then e else zeros 40

/-- SWITCH.TABLE_STAGE (R319, R341). -/
def execSwitchTableStage (tk : Fin 128) (s : State) : Out :=
  .next (command tk.val 0x0A04 (fun w s =>
    let p := w.req.payload
    let a := stageItems w.req.session ((List.range (u8At p 2)).map (fun i =>
      ({ id := objectId 10 0xF0 (u16At p 0 + i), val := .object (stagedEntry (slice p (4 + 40 * i) 40)) } : Item))) s
    complete tk.val a.2 [] a.1) s)

/-- A staging session is CLOSED, so it exposes nothing (R138). -/
def sessionClosed (n : Nat) (s : State) : Bool := (tget s.expo.sessions n).state == .closed

/-- SWITCH.TABLE_READ (R341). -/
def execSwitchTableRead (tk : Fin 128) (s : State) : Out :=
  .next (command tk.val 0x0A05 (fun w s =>
    let p := w.req.payload
    let src := u8At p 0
    let first := u16At p 2
    let n := u8At p 1
    let entries (f : Nat → Option Bytes) := (List.range n).flatMap (fun i => (f (objectId 10 0xF0 (first + i))).getD (zeros 40))
    let reply (gen k : Nat) (b : Bytes) := leBytes 4 gen ++ leBytes 1 k ++ zeros 3 ++ b
    if src = 0xFF then complete tk.val St.ok (reply s.sw.gen n (entries s.conf.object)) s
    else if src = 0xFE then
      match s.sw.retiring with
      | some r => complete tk.val St.ok (reply r.gen n (entries r.conf.object)) s
      | none => complete tk.val St.ok (reply 0 0 []) s
    else if sessionClosed src s then complete tk.val St.sessionClosed [] s
    else complete tk.val St.ok (reply 0 n (entries (mergedObject s.conf (tget s.expo.sessions src).items))) s) s)

/-- SWITCH.LIN_SCHEDULE_STAGE (R311, R341). -/
def execSwitchLinScheduleStage (tk : Fin 128) (s : State) : Out :=
  .next (command tk.val 0x0A06 (fun w s => stageObject tk.val w 10 0xF1 (portOf w.req.node) w.req.payload s) s)

/-- SWITCH.LIN_SCHEDULE_READ (R341). -/
def execSwitchLinScheduleRead (tk : Fin 128) (s : State) : Out :=
  .next (command tk.val 0x0A07 (fun w s =>
    let src := u8At w.req.payload 0
    let id := objectId 10 0xF1 (portOf w.req.node)
    if src = 0xFF then complete tk.val St.ok ((s.conf.object id).getD (zeros 4)) s
    else if sessionClosed src s then complete tk.val St.sessionClosed [] s
    else complete tk.val St.ok ((mergedObject s.conf (tget s.expo.sessions src).items id).getD (zeros 4)) s) s)

end Sys2Proof.Machine
end

