-- ==== Sys2Proof/Machine/AccessCmd.lean ====
section
/-! DEFINITION. The access engine's commands (06_access_immobiliser.md): learning and pairing, LOCATE, LOCK, the reads; its
frames leaving the switch; and what modes, pins, Grain, key landings and exposures do to it. -/

namespace Sys2Proof.Machine

/-! ### Learning (R164, R195, R199) -/

/-- RESULT of entry `i` of ACCESS.LEARN_SET, with the COUNTER it learned (R199). -/
def learnResult (s : State) (l : Learning) (i : Nat) : Nat × Nat :=
  if i < l.at_ then (0, (s.tok i).s) else if i = l.at_ then (if l.badMac then 2 else 1, 0) else (3, 0)

/-- Response of ACCESS.LEARN_SET (R199). -/
def learnReply (s : State) (l : Learning) : Bytes :=
  leBytes 1 (min l.at_ l.entries.length) ++ zeros 3 ++ (List.range l.entries.length).flatMap (fun i =>
    leBytes 1 i ++ leBytes 1 (learnResult s l i).1 ++ zeros 2 ++ leBytes 4 (learnResult s l i).2)

/-- Learning ends: the engine returns to CABIN, and cab cycles resume (R158, R159). -/
def learnOver (s : State) : State :=
  let s1 := s.modAccess (fun a => { a with learning := none, state := if a.state = .learn then .cabin else a.state })
  if s.access.state = .learn then armFirm 15 (s.now + lsbOfS (s.nat 5 9)) (lsbOfS (s.nat 5 9)) s1 else s1

/-- ACCESS.LEARN_SET completes. -/
def learnEnd (st : Nat) (s : State) : State :=
  match s.access.learning with
  | some l => if ticketRuns s l.ticket then complete l.ticket st (learnReply s l) (learnOver s) else learnOver s
  | none => s

/-- The key of the present entry is installed, or every entry is done (R195). -/
def learnEntry (s : State) : State :=
  match s.access.learning with
  | some l => match l.entries[l.at_]? with
    | some e =>
      (installKey (16 + l.at_) 3 { key := e.2, usage := 0x2C }
        (s.modAccess (fun a => { a with learning := some { l with since := 0, nonce := none, lastSent := none, badMac := false } }))).1
    | none => learnEnd St.ok s
  | none => s

/-- Token slot `n` loses its token (R195). -/
def forgetTok (n : Nat) (s : State) : State :=
  let had := (s.tok n).state != 0
  let s1 := storeTok n (s.modTok n (fun _ => {}))
  if had then slotEvent n 0 1 s1 else s1

/-- A ranging session under an erased token key ends, cause 2 (R261). -/
def dropSession (s : State) : State :=
  match s.range.session with
  | some x => drainRanging (rangeNext ((if x.calib then calibCount none else id) (noVerdict x 2 s)))
  | none => s

/-- The whole old token set is erased (R195). -/
def forgetAll (s : State) : State :=
  let s1 := dropSession ((List.range 16).foldl (fun t n => (eraseSlot (16 + n) 1 .nothing t).1) s)
  let s2 := (List.range 16).foldl (fun t n => forgetTok n t) s1
  let s3 := s2.modAccess (fun a => { a with learnGen := wrapAdd 32 a.learnGen 1 })
  if s.access.suspect then setSuspect false s3 else storeAccess s3

/-- Learning, release or a LOCATE runs (R198, R199). -/
def accessBusy (s : State) : Bool :=
  s.access.learning.isSome || s.access.state == .release || s.access.locate.isSome ||
    ((s.access.cyc.map (fun c => c.kind == .locate)).getD false)

/-- An AES-128 key wrapped under a key slot with UNWRAP (R350). -/
def unwrap16 (s : State) (kek : Nat) (w : Bytes) : Option Bytes :=
  if s.cipherUp then (usableKey s kek 4).bind (fun k => (keyUnwrap k w).filter (fun x => x.length == 16)) else none

/-- The wrapped keys of ACCESS.LEARN_SET, all of them or none (R195). -/
def unwrapSet (s : State) (p : Bytes) : Option (List (Nat × Bytes)) :=
  (List.range (u8At p 0)).mapM (fun i => (unwrap16 s (u8At p 1) (slice p (12 + 32 * i) 24)).map (fun k => (u32At p (4 + 32 * i), k)))

/-- ACCESS.LEARN_SET (R195, R199). -/
def execAccessLearnSet (tk : Fin 128) (s : State) : Out :=
  .next (command tk.val 0x0505 (fun w s =>
    if accessBusy s then complete tk.val St.accessBusy [] s
    else if !unwrapReady s then s
    else match unwrapSet s w.req.payload with
      | none => complete tk.val St.keyUnwrapFail [] s
      | some entries =>
        learnEntry ((forgetAll (disarm 15 (start tk.val s))).modAccess (fun a => { a with
          cyc := none, start := none, state := .learn, learning := some { ticket := tk.val, entries } }))) s)

/-- LEARN is sent on ACCESS.LEARN_CHANNEL for the present entry, or its exchange is skipped (R164, R170, R195, R221). -/
def sendLearn (l : Learning) (e : Nat × Bytes) (nonce : Bytes) (s : State) : State :=
  let ch := s.nat 5 15
  let tel : Tele := { us := 48000, chans := [ch], data := telegram 0x04 (vehicleId ++ beBytes 4 e.1 ++ leBytes 1 l.at_ ++ nonce) }
  let r := accessSeq tel (carrierNow s) l.lfMeas (s.modAccess (fun a => { a with lfSent := [] }))
  match r.2 with
  | some why => skipEvent 2 (refusalStatus why) r.1
  | none => bookAccess (s.now + lsbOfMs 48) (s.now + lsbOfMs 500)
      (r.1.modAccess (fun a => { a with learning := some { l with nonce := some nonce } }))

/-- LEARN_RETRY: every 500 ms while an entry is being learned (R170, R195). -/
def execLearnRetry (meas : LfMeas) (s : State) : Out :=
  .next (match s.access.learning with
    | some l => match l.entries[l.at_]? with
      | some e =>
        if s.access.state ≠ .learn ∨ l.since = 0 ∨ lfBusy s = true then s
        else atDue ((l.lastSent.map (· + lsbOfMs 500)).getD l.since) s (fun t =>
          if ready [7] t = false then power [7] t
          else
            let l1 := { l with lastSent := some t.now, lfMeas := meas }
            let a := askQueue 2 8 (t.modAccess (fun a => { a with learning := some l1 }))
            match a.2 with
            | .got b => sendLearn l1 e b a.1
            | .failed => skipEvent 0 St.entropyFail a.1
            | .waits => a.1)
      | none => s
    | none => s)

/-- CMAC input of LEARN_ACK (R167). -/
def learnMsg (nonce : Bytes) (t : LearnAckTel) : Bytes :=
  nonce ++ vehicleId ++ beBytes 4 t.token ++ leBytes 1 t.slot ++ beBytes 4 t.counter

/-- A LEARN_ACK to the present entry's nonce is judged; a valid one makes the slot LEARNED (R170, R195). -/
def checkLearnAck (tel : LearnAckTel) (l : Learning) (e : Nat × Bytes) (nonce : Bytes) (s : State) : State :=
  if unwrapReady s = false then awaitCheck (.learnAck tel) s
  else match tokenMac l.at_ (learnMsg nonce tel) tel.mac s with
    | none => skipEvent 1 (if s.ciph.off then St.engineOff else St.keyEmpty) s
    | some false => s.modAccess (fun a => { a with learning := some { l with badMac := true } })
    | some true =>
      if tel.counter = 0xFFFFFFFF then s
      else
        let s1 := storeTok l.at_ (s.modTok l.at_ (fun _ => {
          state := 1, token := e.1, s := tel.counter, seen := s.now, gen := s.access.learnGen }))
        learnEntry ((slotEvent l.at_ 1 0 s1).modAccess (fun a => { a with learning := some { l with at_ := l.at_ + 1 } }))

/-- A LEARN_ACK that answers the present entry, with what it is judged by (R195). -/
def learnAnswer (tel : LearnAckTel) (s : State) : Option (Learning × (Nat × Bytes) × Bytes) :=
  s.access.learning.bind (fun l => (l.entries[l.at_]?).bind (fun e => l.nonce.bind (fun nonce =>
    if s.access.state ≠ .learn ∨ tel.slot ≠ l.at_ ∨ tel.token ≠ e.1 then none else some (l, e, nonce))))

/-- LEARN_ACK (R195). -/
def execLearnAck (tel : LearnAckTel) (s : State) : Out :=
  .next (match learnAnswer tel s with
    | some (l, e, nonce) => inWindow s (checkLearnAck tel l e nonce)
    | none => s)

/-- LEARN_TIMEOUT: the entry's key slot is erased, and the command completes LEARN_PARTIAL (R195). -/
def execLearnTimeout (s : State) : Out :=
  .next (match s.access.learning with
    | some l =>
      if s.access.state ≠ .learn ∨ l.since = 0 then s
      else atDue (l.since + lsbOfS (s.nat 5 16)) s (fun t =>
        learnEnd St.learnPartial (eraseSlot (16 + l.at_) 1 .nothing t).1)
    | none => s)

/-! ### Pairing (R196) -/

/-- ACCESS.RELEASE_PAIR (R196, R199). -/
def execAccessReleasePair (tk : Fin 128) (s : State) : Out :=
  .next (command tk.val 0x0506 (fun w s =>
    let p := w.req.payload
    if accessBusy s then complete tk.val St.accessBusy [] s
    else if !unwrapReady s then s
    else match unwrap16 s (u8At p 4) (slice p 8 24) with
      | none => complete tk.val St.keyUnwrapFail [] s
      | some k =>
        let s1 := (eraseSlot s.releaseSlot 2 .nothing (start tk.val s)).1
        (installKey s.releaseSlot 4 { key := k, usage := 1 } s1).1) s)

/-- The ACCESS.RELEASE_PAIR that runs. -/
def pairing (s : State) : Option (Nat × Work) :=
  (s.flight.filter (fun p => p.2.req.opcode == 0x0506 && ticketRuns s p.1)).head?

/-- The new release key is in force: PAIR_ID is set and a new release counter starts at 0 (R196). -/
def pairLanded (s : State) : State :=
  match pairing s with
  | some (tk, w) =>
    let id := u32At w.req.payload 0
    let s1 := (s.modStore (fun t => t.newCounter 0x1000 id)).modAccess (fun a => { a with
      pairId := id, relNext := 0, relReserved := 0, relReserving := false, relUsedUp := false, relWarned := false })
    complete tk St.ok (leBytes 4 id ++ zeros 4) (reserveRelease (storeAccess s1))
  | none => s

/-- A key slot's shadow has landed by path 3 or 4 (R195, R196, R350). -/
def accessLanded (n path : Nat) (s : State) : State :=
  if path = 3 then
    match s.access.learning with
    | some l => if n = 16 + l.at_ then s.modAccess (fun a => { a with learning := some { l with since := s.now } }) else s
    | none => s
  else if path = 4 then pairLanded s
  else s

/-! ### LOCATE, LOCK and the reads (R198, R199) -/

/-- ACCESS.LOCATE: its cycle runs at once, or after the cycle that is running (R199). -/
def execAccessLocate (tk : Fin 128) (s : State) : Out :=
  .next (command tk.val 0x0503 (fun w s =>
    if s.access.learning.isSome || s.access.locate.isSome || ((s.access.cyc.map (fun c => c.kind == .locate)).getD false) then
      completeTiles tk.val w.walk (w.walkTileNodes.map (fun n => ({ node := n, status := St.accessBusy } : TileRes))) s
    else (start tk.val s).modAccess (fun a => { a with
      locate := some (tk.val, w.walkTileNodes.map (· - 0x50), u8At w.req.payload 0 % 2 == 1) })) s)

/-- ACCESS.LOCK (R185, R199). -/
def execAccessLock (tk : Fin 128) (s : State) : Out :=
  .next (command tk.val 0x0504 (fun _ s =>
    if s.access.lock.isSome then s
    else
      let a := lockVerdict 0xFF (start tk.val s)
      match a.2 with
      | some q => a.1.modAccess (fun x => { x with lock := some (tk.val, q, s.now) })
      | none => complete tk.val St.bodyNotSent (zeros 16) a.1) s)

/-- LOCK_FRAME_TIMEOUT: the frame has not been transmitted within 100 ms (R199). -/
def execLockFrameTimeout (s : State) : Out :=
  .next (match s.access.lock with
    | some (tk, q, v) => atDue (v + lsbOfMs 100) s (fun t =>
        let t1 := t.modAccess (fun a => { a with lock := none })
        if ticketRuns t tk then complete tk St.bodyNotSent (lockReply q 0) t1 else t1)
    | none => s)

/-- Code of an engine state (R158). -/
def Engine.code : Engine → Nat
  | .off => 0 | .dormant => 1 | .poll => 2 | .acquire => 3 | .cabin => 4 | .release => 5 | .learn => 6

/-- Response of ACCESS.STATUS (R199). -/
def accessStatusData (s : State) : Bytes :=
  let a := s.access
  leBytes 1 a.state.code
    ++ leBytes 1 (b1 a.suspect + b1 (baselineReady s) 1 + b1 a.authorised 2 + b1 (releasing s) 3 + b1 a.relUsedUp 4
      + b1 (a.state == .dormant) 5)
    ++ leBytes 1 (learned s).length ++ leBytes 1 (a.driver.getD 0xFF)
    ++ leBytes 2 (a.invalid.filter (fun t => decide (s.now < t + lsbOfS 60))).length ++ leBytes 2 (baseline (zoneMap s) s)
    ++ leBytes 4 a.learnGen ++ leBytes 4 a.relNext ++ leBytes 4 a.relReserved ++ leBytes 4 a.pairId
    ++ leBytes 8 a.suspectSince ++ leBytes 8 a.lastRelease ++ leBytes 4 a.dropped ++ leBytes 4 a.cycles

/-- ACCESS.STATUS (R199). -/
def execAccessStatus (tk : Fin 128) (s : State) : Out :=
  .next (command tk.val 0x0501 (fun _ s => complete tk.val St.ok (accessStatusData s) s) s)

/-- Tile payload of ACCESS.SLOT_READ (R199). -/
def slotReadData (n : Nat) (s : State) : Bytes :=
  let t := s.tok n
  leBytes 1 t.state ++ leBytes 1 (b1 t.settled + b1 t.lowBat 1 + b1 (s.access.driver == some n) 2) ++ leBytes 1 t.zone
    ++ leBytes 1 t.range ++ leBytes 4 t.token ++ leBytes 4 t.s ++ leBytes 1 (16 + n) ++ zeros 3 ++ leBytes 8 t.seen
    ++ leBytes 2 t.invalid ++ leBytes 2 t.relay ++ leBytes 4 t.gen

/-- ACCESS.SLOT_READ (R199). -/
def execAccessSlotRead (tk : Fin 128) (s : State) : Out :=
  .next (fanOut tk.val 0x0502 (fun n _ s => (s, St.ok, slotReadData (n - 0x50) s)) s)

/-- ACCESS.ZONEMAP_STAGE (R177, R199). -/
def execAccessZonemapStage (tk : Fin 128) (s : State) : Out :=
  .next (command tk.val 0x0507 (fun w s => stageObject tk.val w 5 0xF0 0 w.req.payload s) s)

/-- ACCESS.ZONEMAP_READ (R199): the map in force, or the merged one of a session. -/
def execAccessZonemapRead (tk : Fin 128) (s : State) : Out :=
  .next (command tk.val 0x0508 (fun w s =>
    let src := u8At w.req.payload 0
    let id := objectId 5 0xF0 0
    if src = 0xFF then complete tk.val St.ok (zoneMap s) s
    else if sessionClosed src s then complete tk.val St.sessionClosed [] s
    else complete tk.val St.ok ((mergedObject s.conf (tget s.expo.sessions src).items id).getD []) s) s)

/-! ### Frames that leave (R189, R199, R333) -/

/-- The head copy of a port is sent (R326, R333): on P26 it becomes the cipher-loop job in context 3 (R323), once no write of
its key slot is pending (R356); a frame built by the access engine reports to it. -/
def copySent (n : Nat) (s : State) : State :=
  if maySend s n = false ∨ (s.port n).pauseUntil.any (fun t => decide (s.now < t)) = true then s
  else match headCopy s n with
    | some (f, c) =>
      if n = 26 then
        if c.taken ∨ (tget s.ciph.ctx 3).isSome = true ∨ (loopFrame s).isSome = true ∨
            (s.kslot f.tr.loop_.2.1).shadow.isSome = true then s
        else
          (s.modSw (fun w => { w with frames := w.frames.map (fun g =>
            if g.stamp = f.stamp ∧ g.tag = f.tag then
              { g with copies := g.copies.map (fun d => if d.port = 26 then { d with taken := true } else d) } else g) })).modCtx 3
            (fun _ => some { slot := f.tr.loop_.2.1, ver := ((s.kslot f.tr.loop_.2.1).ver).getD {} })
      else
        let s1 := dropHead n f (sendCopy n f s)
        if f.built = 1 then releaseSent s1
        else if f.built = 2 then bodySent (u32At f.bytes 20) s1
        else s1
    | none => s

/-- COPY_SENT (R333). -/
def execCopySent (port : Fin 28) (s : State) : Out := .next (copySent port.val s)

/-- RELEASE_FRAME_TRANSMITTED: the CAN controller reports the end of a release frame (R189). -/
def execReleaseFrameTransmitted (s : State) : Out :=
  .next (match headCopy s (s.nat 5 20) with
    | some (f, _) => if f.built = 1 then copySent (s.nat 5 20) s else s
    | none => s)

/-! ### Grain -/

/-- The queue has delivered what the engine waits for (R170, R378). -/
def accessGot (b : Bytes) (s : State) : State :=
  match s.access.cyc with
  | some c => if c.challenge.isNone then sendChallenge b s else s
  | none => match s.access.learning with
    | some l => match l.entries[l.at_]? with
      | some e => sendLearn l e b s
      | none => s
    | none => s

/-- The queue cannot deliver it (R170, R380). -/
def accessNoBytes (s : State) : State :=
  match s.access.cyc with
  | some c => if c.challenge.isNone then skipCycle c 0 St.entropyFail s else s
  | none => if s.access.learning.isSome then skipEvent 0 St.entropyFail s else s

/-- The engine has waited 1 ms for the queue (R378). -/
def accessStarved (s : State) : State :=
  match s.grain.reqs.find? (fun q => q.consumer == 2) with
  | some q => atDue (q.since + lsbOfMs 1) s (fun t =>
      accessNoBytes (t.modGrain (fun g => { g with reqs := g.reqs.filter (fun r => r.consumer != 2) })))
  | none => s

/-! ### Telegrams that waited for the cipher engine (R28) -/

/-- One telegram is judged now, where what it answers still stands. -/
def runCheck (s : State) (c : TokCheck) : State :=
  match c with
  | .button tel => checkButton tel s
  | .response tel => match s.access.cyc with
    | some y => match y.challenge with
      | some ch => if y.judged then s else checkResponse tel y ch s
      | none => s
    | none => s
  | .learnAck tel => match learnAnswer tel s with
    | some (l, e, nonce) => checkLearnAck tel l e nonce s
    | none => s

/-- Telegrams that wait for the cipher engine are judged once it works (R28). -/
def runChecks (s : State) : State :=
  if s.access.checks = [] ∨ unwrapReady s = false then s
  else s.access.checks.foldl runCheck (s.modAccess (fun a => { a with checks := [] }))

/-! ### Modes, pins and exposures (R159–R161, R173, R180, R186) -/

/-- The commands of the engine end with the mode that permits them: an ACCESS.LOCATE and an ACCESS.LEARN_SET complete ABORTED,
the key of the entry being learned erased (R118, R195, R198). -/
def endLocate (s : State) : State :=
  let tk := match s.access.locate with
    | some l => some l.1
    | none => (s.access.cyc.filter (fun c => c.kind == .locate)).bind (·.locate)
  let s1 := s.modAccess (fun a => { a with locate := none, cyc := a.cyc.filter (fun c => c.kind != .locate) })
  match tk with
  | some t => match s.work t with
    | some w => if ticketRuns s t then
        completeTiles t w.walk (w.walkTileNodes.map (fun n => ({ node := n, status := St.aborted } : TileRes))) s1 else s1
    | none => s1
  | none => s1
/-- Learning ends with WORKSHOP. -/
def endLearning (s : State) : State :=
  match s.access.learning with
  | some l => learnEnd St.aborted (if l.at_ < l.entries.length then (eraseSlot (16 + l.at_) 1 .nothing s).1 else s)
  | none => s

/-- The engine leaves what it was doing, without a verdict (R159). -/
def abandonAll (s : State) : State :=
  disarm 13 (disarm 14 (disarm 15 (s.modAccess (fun a => { a with
    cyc := none, locate := none, start := none, polls := [], cycleDue := none, checks := [], outbox := [], poll := none
    learning := none, authorised := false }))))

/-- Entry to PARKED or WATCH: polls on their grid, or DORMANT (R159–R161). In WATCH the grid lies on whole half seconds
of the epoch. -/
def enterPoll (keepGrid : Bool) (s : State) : State :=
  let s1 := disarm 15 (disarm 14 (s.modAccess (fun a => { a with
    cyc := none, cycleDue := none, start := none, learning := none, authorised := false
    grid := if keepGrid then a.grid else if s.power.mode = .watch then 0 else s.now })))
  let s2 := s1.modUhf (fun u => { u with sniffAt := some (s.now + lsbOfMs 500) })
  if s.power.mode = .parked ∧ pollStopped s = true then
    disarm 13 (s2.modAccess (fun a => { a with state := .dormant }))
  else armFirm 13 (nextGrid s2) (pollPeriod s2) (s2.modAccess (fun a => { a with state := .poll }))

/-- S of every LEARNED slot goes to the parameter store (R173). -/
def storeSlots (s : State) : State := (learned s).foldl (fun t n => storeTok n t) s

/-- The mode has changed from `old` by a trigger (R158, R159, R161, R173, R181, R186). -/
def accessMode (old : Mode) (trig : Nat) (s : State) : State :=
  let m := s.power.mode
  let sL := if m = .workshop then s else endLearning s
  let s0 := closePoll (if m = .approach ∨ m = .cab ∨ m = .drive ∨ m = .workshop then sL else endLocate sL)
  let s1 := if old = .approach ∨ old = .cab ∨ old = .drive then storeSlots s0 else s0
  match s.power.mode with
  | .stowed | .holdover =>
    let s2 := if releasing s1 then endRelease 4 s1 else s1
    (abandonAll s2).modAccess (fun a => { a with state := .off }) |>.modUhf (fun u => { u with sniffAt := none })
  | .parked => enterPoll (trig == 8) (if releasing s1 then endRelease 4 s1 else s1)
  | .watch => enterPoll false (if releasing s1 then endRelease 4 s1 else s1)
  | .approach =>
    let s2 := if releasing s1 then endRelease 4 s1 else s1
    armFirm 15 s.now (lsbOfMs (s.nat 5 1)) (disarm 13 (s2.modAccess (fun a => { a with
      state := .acquire, approachAt := s.now, fromHold := old == .holdover || old == .workshop, unlocks := [], lostCycles := 0
      polls := [], cycleDue := none, cyc := a.cyc.filter (fun c => c.kind == .locate), start := none
      slots := if old = .holdover ∨ old = .workshop then a.slots.map (fun x => { x with answered := false }) else a.slots })))
      |>.modUhf (fun u => { u with sniffAt := none })
  | .cab =>
    let s2 := (List.range 16).foldl (fun t n => unsettle n t) s1
    armFirm 15 s.now (lsbOfS (s.nat 5 9)) (disarm 13 (s2.modAccess (fun a => { a with
      state := if releasing s then .release else .cabin
      start := if s.power.ign ∧ releasing s = false then some 0 else none, cycleDue := none
      cyc := a.cyc.filter (fun c => c.kind != .acquire), cabSeen := s.now, heldSeen := s.now, walked := false })))
  | .drive => s1
  | .workshop =>
    let s2 := disarm 13 (s1.modAccess (fun a => { a with
      state := if a.state = .release then .release else .cabin, polls := [], cycleDue := none
      cabSeen := if old = .cab then a.cabSeen else s.now, heldSeen := if old = .cab then a.heldSeen else s.now
      walked := a.walked && old == .cab }))
    (if old = .cab then s2 else armFirm 15 s.now (lsbOfS (s.nat 5 9)) s2) |>.modUhf (fun u => { u with sniffAt := none })

/-- A start cycle that runs is abandoned (R186). -/
def abandonStart (s : State) : State :=
  s.modAccess (fun a => { a with start := none, cyc := match a.cyc with
    | some c => if c.kind = .start then none else some c
    | none => none })

/-- A poll is to run at once, unless it waits already (R121, R159). -/
def askPoll (ask : Nat) (s : State) : State :=
  s.modAccess (fun a => { a with polls := if a.polls.contains ask then a.polls else a.polls ++ [ask] })

/-- An accepted level change of WAKE_IGN (R121, R159, R186, R191). -/
def accessIgn (level : Bool) (s : State) : State :=
  match s.access.state with
  | .cabin => if level then s.modAccess (fun a => { a with start := some (a.start.getD 0) }) else abandonStart s
  | .release => if level = true ∨ s.access.authorised = false then s else endRelease 0 s
  | .poll | .dormant => if level then askPoll 4 s else s
  | _ => s

/-- An accepted assertion of WAKE_DOOR bit `d` (R121, R159, R180). -/
def accessDoor (d : Nat) (s : State) : State :=
  let s1 := s.modAccess (fun a => { a with doorAt := tmod a.doorAt d (fun _ => some s.now) })
  match s.access.state with
  | .acquire => tryUnlock s1
  | .poll | .dormant => askPoll d s1
  | _ => s1

/-- An exposure has changed access settings: polling stops when the standing time has passed ACCESS.PARK_POLL_STOP
(R161). -/
def accessExposed (s : State) : State :=
  if s.access.state = .poll ∧ s.power.mode = .parked ∧ pollStopped s = true then
    disarm 13 (s.modAccess (fun a => { a with state := .dormant }))
  else s

end Sys2Proof.Machine
end

