-- ==== Sys2Proof/Machine/ExpoCheck.lean ====
section
/-! DEFINITION. EXPOSE.CHECK: the merged configuration of a session and the consistency rules of every owning chapter, in
class order (R141, R70, R106, R178, R194, R212, R270, R311, R319, R329, R344, R400, R402, R435, R452, R506). -/

namespace Sys2Proof.Machine

/-! ### The merged configuration -/

/-- The set's items applied to a configuration; items of class 0x09 belong to the F die (R141, R150). -/
def Conf.applyItems (c : Conf) (items : List Item) : Conf :=
  items.foldl (fun d i =>
    if i.id / 0x1000000 = 9 ∨ i.id / 0x10000 = 0x01F0 then d
    else match i.val with
      | .value v => d.put i.id v
      | .object b => { d with objects := assocSet d.objects i.id b }
      | .deletion => { d with objects := assocDel d.objects i.id })
    { c with courses := mergedCourses c items }

/-- A failure of CHECK: ITEM and STATUS (R141, R155). -/
abbrev Failure := Nat × Nat

/-- One failure where a condition holds. -/
def failIf (b : Bool) (item st : Nat) : List Failure := if b then [(item, st)] else []

/-! ### Class 0x01: the tree (R68, R70) -/

/-- Courses reached from the members of a course, among those that `keep` admits, within `fuel` levels. -/
def reached (cs : List (Nat × List Nat)) (keep : Nat → Bool) : Nat → List Nat → List Nat → List Nat
  | 0, seen, _ => seen
  | fuel + 1, seen, front =>
    let next := ((front.flatMap (fun c => (assoc cs c).getD [])).filter
      (fun m => (assoc cs m).isSome && keep m && !seen.contains m)).eraseDups
    if next = [] then seen else reached cs keep fuel (seen ++ next) next

/-- The course is the lowest-numbered one of a cycle. -/
def lowestOnCycle (cs : List (Nat × List Nat)) (c : Nat) : Bool :=
  (reached cs (fun m => decide (c ≤ m)) (cs.length + 1) [] [c]).contains c

/-- The course reaches itself. -/
def onCycle (cs : List (Nat × List Nat)) (c : Nat) : Bool := (reached cs (fun _ => true) (cs.length + 1) [] [c]).contains c

/-- Courses nest more than `n` levels below the course. -/
def nestsBeyond (cs : List (Nat × List Nat)) : Nat → Nat → Bool
  | 0, c => ((members cs c).getD []).any (fun m => (members cs m).isSome)
  | n + 1, c => ((members cs c).getD []).any (fun m => (members cs m).isSome && nestsBeyond cs n m)

/-- Failures of the tree that would result (R70). -/
def checkTree (cs : List (Nat × List Nat)) (deleted : List Nat) : List Failure :=
  cs.flatMap (fun c =>
    let ref := objectId 1 0xF0 c.1
    failIf (lowestOnCycle cs c.1) ref St.nodeCycle ++
      failIf (c.2.any (fun m => !nodeExists cs m)) ref St.nodeMissing ++
      failIf (!onCycle cs c.1 && nestsBeyond cs 16 c.1) ref St.nodeLimit) ++
  deleted.flatMap (fun d => failIf (cs.any (fun c => c.2.contains d)) (objectId 1 0xF0 d) St.nodeInUse) ++
  failIf (decide (2048 < (allNodes cs).length)) 0 St.nodeLimit

/-! ### Class 0x02: routes (R106) -/

/-- Failures of the routes. -/
def checkRoutes (c : Conf) : List Failure :=
  (List.range 32).flatMap (fun n =>
    let d := c.nat 2 8 n
    failIf (decide (0x0D ≤ d) && decide (d ≤ 0x10)) (settingId 2 8 n) St.routeHeld ++
      failIf (decide (0x11 ≤ d) && decide (d ≤ 0x18) && c.nat 2 4 (d - 0x11) != 0x10) (settingId 2 8 n) St.routeInput)

/-! ### Class 0x05: zone map and release (R177, R178, R194) -/

/-- Object reference of the zone map. -/
abbrev zoneMapId : Nat := objectId 5 0xF0 0

/-- An antenna set: at least one channel, none twice, none after 0xFF (R177, R178). -/
def antOk (b : Bytes) : Bool :=
  let l := b.map (·.toNat)
  let used := l.takeWhile (· != 0xFF)
  !used.isEmpty && used.all (· ≤ 31) && decide used.Nodup && (l.drop used.length).all (· == 0xFF)

/-- A step of the map: its channels, AMP 0 where there is none (R177). -/
def stepOk (m : Bytes) (i : Nat) : Bool :=
  antOk (slice m (32 + 12 * (i - 1)) 4) &&
    (List.range 4).all (fun k => u8At m (32 + 12 * (i - 1) + k) != 0xFF || u8At m (36 + 12 * (i - 1) + k) == 0)

/-- A zone of the map (R177). -/
def zoneOk (m : Bytes) (z : Nat) : Bool :=
  let o := zoneOff m z
  decide (u8At m o ≤ 11) && decide (u8At m (o + 1) ≤ 7) && decide (u8At m (o + 2) ≤ 15) && u8At m (o + 3) == 0 &&
    (List.range (mapSteps m)).all (fun i => decide (u8At m (o + 4 + 2 * i) ≤ u8At m (o + 5 + 2 * i)))

/-- The map keeps R177 and R178. -/
def mapOk (m : Bytes) : Bool :=
  u8At m 0 == 1 && decide (1 ≤ mapSteps m) && decide (mapSteps m ≤ 24) && decide (1 ≤ mapZones m) && decide (mapZones m ≤ 12)
    && decide (mapMargin m ≤ 40) && decide (1 ≤ mapPolls m) && decide (mapPolls m ≤ 4) && decide (u8At m 5 ≤ 100)
    && u16At m 6 == 0 && u32At m 28 == 0 && m.length == 32 + 12 * mapSteps m + mapZones m * (4 + 2 * mapSteps m)
    && (List.range 4).all (fun k => if k < mapPolls m then antOk (slice m (8 + 4 * k) 4)
        else (slice m (8 + 4 * k) 4).all (· == 0xFF))
    && antOk (slice m 24 4) && (upFrom 1 (mapSteps m)).all (stepOk m)
    && (List.range (mapZones m)).all (zoneOk m)
    && decide ((List.range (mapZones m)).map (fun z => u8At m (zoneOff m z))).Nodup
    && (List.range (mapZones m)).any (fun z => (u8At m (zoneOff m z + 1)).testBit 1)

/-- The controller of a CAN port is in CAN FD or CAN XL operation (R194, R309). -/
def fdMode (c : Conf) (p : Nat) : Bool := c.nat 10 0 p == 2 || c.nat 10 0 p == 3

/-- Failures of class 0x05; the charter page is that of the store. -/
def checkAccess (c : Conf) (page : Bytes) : List Failure :=
  let keys := [settingId 5 19 0, settingId 5 22 0, settingId 1 2 0]
  let val (k : Nat) : Nat := c.nat (k / 0x1000000) (k / 0x10000 % 0x100)
  (match c.object zoneMapId with
    | some m => failIf (!mapOk m) zoneMapId St.zoneMapInvalid
    | none => []) ++
  keys.flatMap (fun k => failIf (keys.any (fun j => j != k && val j == val k)) k St.releaseConfig) ++
  keys.flatMap (fun k => failIf (decide (16 ≤ val k) && decide (val k ≤ 31)) k St.releaseConfig) ++
  [settingId 5 17 0, settingId 5 20 0].flatMap (fun k => failIf (!fdMode c (val k)) k St.releaseConfig) ++
  failIf (!(charterOk page && (bandOf page (c.nat 5 14 * 1000)).isSome)) (settingId 5 14 0) St.accessChannel

/-! ### Class 0x06: steps and antenna sets (R205, R212) -/

/-- A step keeps R212. -/
def stepDrives (c : Conf) (m : Bytes) (i : Nat) : Bool :=
  let l := stepChans m i
  l.all (fun p => c.nat 6 1 p.1 == 1 && decide (1 ≤ p.2.1)) &&
    (l.length != 1 || u8At m (40 + 12 * (i - 1)) == 0) &&
    lfCurrentsOk (c.nat 6 6) (l.map (fun p => (p.1, c.nat 6 2 p.1 * p.2.1)))

/-- An antenna set keeps R212. -/
def setDrives (c : Conf) (l : List Nat) : Bool :=
  l.all (fun n => c.nat 6 1 n == 1) && lfCurrentsOk (c.nat 6 6) (l.map (fun n => (n, c.nat 6 2 n * 255)))

/-- Failures of class 0x06, one for each failing step or antenna set. -/
def checkLf (c : Conf) : List Failure :=
  match c.object zoneMapId with
  | none => []
  | some m =>
    (upFrom 1 (mapSteps m)).flatMap (fun i => failIf (!stepDrives c m i) zoneMapId St.lfStepInvalid) ++
    ((List.range (mapPolls m)).map (pollSet m) ++ [cabSet m]).flatMap (fun l => failIf (!setDrives c l) zoneMapId St.lfStepInvalid) ++
    failIf (c.nat 6 1 (c.nat 5 15) == 0) (settingId 5 15 0) St.lfConfig

/-! ### Class 0x0A: table, schedules, reserves and ports (R311, R319, R329, R344) -/

/-- A table entry keeps R319. -/
def entryOk (e : Bytes) : Bool :=
  let egress := u32At e 24
  let action := u8At e 29
  let kind := u8At e 0 / 32
  decide (egress < 2 ^ 28) && decide (u8At e 28 ≤ 7) && decide (action ≤ 15) && u16At e 30 == 0 && u16At e 38 == 0 &&
    decide (u8At e 36 ≤ 15) && decide (u8At e 37 ≤ 7) &&
    !(decide (5 ≤ kind) && u8At e 12 / 32 != 0) &&
    !(u8At e 28 == 7 && egress % 2 ^ 12 != 0) && !(action.testBit 2 && action.testBit 3)

/-- A schedule object keeps R311 at a baud rate. -/
def scheduleOk (b : Bytes) (baud : Nat) : Bool :=
  let k := u8At b 0
  decide (k ≤ 64) && b.length == 4 + 4 * k && allZero (slice b 1 3) &&
    (List.range k).all (fun i =>
      let id := u8At b (4 + 4 * i)
      let len := u8At b (6 + 4 * i)
      let ms := u8At b (7 + 4 * i)
      decide (id ≤ 63) && decide (u8At b (5 + 4 * i) ≤ 3) && decide (1 ≤ len) && decide (len ≤ 8) &&
        ((id != 60 && id != 61) || len == 8) && decide (1 ≤ ms) &&
        decide (14 * (34 + 10 * (len + 1)) * 100 ≤ ms * baud))

/-- Failures of class 0x0A. -/
def checkSwitch (c : Conf) : List Failure :=
  ((c.objects.filter (fun o => o.1 / 0x10000 == 0x0AF0)).flatMap (fun o => failIf (!entryOk o.2) o.1 St.switchTableInvalid)) ++
  ((c.objects.filter (fun o => o.1 / 0x10000 == 0x0AF1)).flatMap (fun o =>
    failIf (!scheduleOk o.2 (c.nat 10 7 (o.1 % 0x10000))) o.1 St.switchScheduleInvalid)) ++
  failIf (decide (8192 < ((List.range 12).map (fun n => reserveOf (c.nat 10 0 n) (c.nat 10 1 n) (c.nat 10 2 n))).sum)) 0
    St.switchReserve ++
  (List.range 12).flatMap (fun n =>
    let data := c.nat 10 2 n
    failIf ((c.nat 10 0 n == 2 && (decide (8000000 < data) || decide (data < c.nat 10 1 n))) ||
      (c.nat 10 0 n == 3 && decide (data < c.nat 10 1 n))) (settingId 10 2 n) St.switchPortConfig) ++
  (List.range 12).flatMap (fun n =>
    failIf ((c.nat 5 17 == n || c.nat 5 20 == n) && c.nat 10 5 n == 1) (settingId 10 5 n) St.switchPortConfig) ++
  failIf (c.nat 1 0 != 0 && c.nat 10 8 (c.nat 1 0) == 0) (settingId 1 0 0) St.switchPortConfig ++
  (List.range 8).flatMap (fun m =>
    failIf (decide (16 ≤ c.nat 10 24 m) && decide (c.nat 10 24 m ≤ 31)) (settingId 10 24 m) St.switchPortConfig)

/-! ### Class 0x0D: wear and room of the parameter store (R391, R400–R402) -/

/-- An object cut into 56-byte chunks, the last padded (R391). -/
def chunks56 (b : Bytes) : List Bytes := (chunks 56 (b.length + 1) b).map (padTo 56)

/-- Records of a staged object of a kind: keys and data, or the keys to delete (R391). -/
def itemRecords (i : Item) : List (Nat × Bytes) :=
  let n := i.id % 0x10000
  match i.val with
  | .value v => [(0x4000 + i.id / 0x1000000 % 16 * 0x400 + i.id / 0x10000 % 0x100 * 0x20 + n % 0x20,
      leBytes 4 i.id ++ valueBytes v)]
  | .object b =>
    let chunked (k : Nat) (x : Bytes) : List (Nat × Bytes) := (chunks56 x).mapIdx (fun j c => (k + j, c))
    if i.id / 0x10000 = 0x01F0 then chunked (0x8000 + (n - 0x100) * 16) (b.drop 2)
    else if i.id / 0x10000 = 0x02F0 then [(0xF200 + n, b)]
    else if i.id = zoneMapId then chunked 0xF000 b
    else if i.id / 0x10000 = 0x0AF0 then [(0x3000 + n, b)]
    else if i.id / 0x10000 = 0x0AF1 then chunked (0xF100 + (n - 12) * 8) b
    else []
  | .deletion => []

/-- Keys that the deletion of a course gives a TOMBSTONE: its chunks that are present (R391). -/
def deletionKeys (t : Store) (i : Item) : List Nat :=
  match i.val with
  | .deletion => (upFrom (0x8000 + (i.id % 0x10000 - 0x100) * 16) 16).filter (fun k => (t.newest k).isSome)
  | _ => []

/-- A setting as EXPOSE.SETTING_READ gives it in force: measured values and those the F die holds are read where they are
(R110, R128, R142, R151). -/
def settingNow (s : State) (id : Nat) : Int :=
  if id = settingId 2 1 0 then s.time.xsTrim
  else if id / 0x10000 = 0x0407 then ((tget s.eave.rows (id % 0x10000 - 1)).entry : Int)
  else if id / 0x1000000 = 9 then (assoc s.fix.values (id / 0x10000 % 0x100)).getD (s.conf.get 9 (id / 0x10000 % 0x100))
  else s.conf.get (id / 0x1000000) (id / 0x10000 % 0x100) (id % 0x10000)

/-- The item equals what is in force, so that no record of it is written (R401). -/
def inForce (s : State) (i : Item) : Bool :=
  match i.val with
  | .value v => settingNow s i.id == v
  | .object b =>
    if i.id / 0x10000 = 0x01F0 then
      assoc s.conf.courses (i.id % 0x10000) == some ((List.range (u16At b 2)).map (fun k => u16At b (4 + 2 * k)))
    else if i.id / 0x10000 = 0x02F0 then false
    else s.conf.object i.id == some b
  | .deletion => (assoc s.conf.courses (i.id % 0x10000)).isNone

/-- Items whose records a prepared set holds (R391, R401). -/
def storedItems (s : State) (items : List Item) : List Item :=
  items.filter (fun i => i.id / 0x1000000 != 9 && !inForce s i)

/-- Records of a set: key, data and whether it is a TOMBSTONE (R401). -/
def setRecords (s : State) (items : List Item) : List (Nat × Bytes × Bool) :=
  (storedItems s items).flatMap (fun i =>
    (itemRecords i).map (fun r => (r.1, r.2, false)) ++ (deletionKeys s.store i).map (fun k => (k, [], true)))

/-- Keys of the configuration (R391). -/
def confKey (k : Nat) : Bool := decide (0x3000 ≤ k) && decide (k ≤ 0xF20B)

/-- Configuration keys that are present. -/
def liveConf (t : Store) : List Nat :=
  (((slotsOf t.log.toList).filterMap (fun x => match x with
    | .valid r _ => if confKey r.key then some r.key else none
    | _ => none)).eraseDups).filter (fun k => (t.newest k).isSome)

/-- Erased main-log slots outside the two-sector reserve (R394, R402). -/
def freeSlots (t : Store) : Nat := (255 - (tget t.log t.at_).slots.length) + 255 * (t.erasedSectors.length - 2)

/-- Erase count of the most-worn main-log sector (R400). -/
def worstErases (t : Store) : Nat := (t.log.toList.map (·.erases)).foldl max 0

/-- Failures of class 0x0D (R392, R400, R402). -/
def checkStore (s : State) (items : List Item) : List Failure :=
  let recs := setRecords s items
  let days := (s.now - s.store.lockStamp) / lsbOfS 86400
  let live := ((liveConf s.store ++ (recs.filter (fun r => !r.2.2)).map (·.1)).eraseDups).filter
    (fun k => !recs.any (fun r => r.1 == k && r.2.2))
  failIf (decide (5000 * 14610 + 100000 * days < worstErases s.store * 14610)) 0 St.storeWear ++
  failIf (recs.any (fun r => s.store.worn r.1)) 0 St.storeWear ++
  failIf (decide (6000 < live.length)) 0 St.storeFull ++
  failIf (decide (freeSlots s.store - 255 < recs.length)) 0 St.storeFull

/-! ### Classes 0x08, 0x0E and 0x0F (R270, R435, R452, R506) -/

/-- Failures of class 0x0E (R435). -/
def checkMem (c : Conf) : List Failure :=
  failIf (decide (8192 < (((List.range 8).filter (fun n => c.nat 14 2 n != 0)).map (c.nat 14 3)).sum)) 0 St.memDmaConfig ++
  (List.range 32).flatMap (fun r =>
    let d := c.nat 2 8 r
    failIf (decide (0x31 ≤ d) && decide (d ≤ 0x38) && c.nat 14 2 (d - 0x31) == 0) (settingId 2 8 r) St.memDmaConfig)

/-- Modes in which a change of UPDATE.BOOT passes (R452). -/
def bootMode (m : Mode) : Bool := m == .stowed || m == .parked || m == .watch || m == .workshop

/-- The image that UPDATE.BOOT names may be selected: VERIFIED or CONFIRMED with its ROLLBACK at or above c (R452). -/
def bootReady (s : State) (n : Nat) : Bool :=
  let i := tget s.safe.images n
  (i.state == 2 || i.state == 4) && decide (s.store.counterValue 0x1060 ≤ i.rollback)

/-- Failures of class 0x0F (R452, R506). -/
def checkSafe (s : State) (c : Conf) : List Failure :=
  (List.range 14).flatMap (fun n => failIf (decide (c.get 15 2 n < c.get 15 1 n)) (settingId 15 2 n) St.safeThreshold) ++
  (if c.nat 15 6 = s.nat 15 6 then []
   else failIf (!bootReady s (c.nat 15 6)) (settingId 15 6 0) St.updateNotReady ++
     failIf (!bootMode s.power.mode) (settingId 15 6 0) St.updateMode)

/-- Every failure of a merged configuration, in class order (R141). -/
def checkAll (s : State) (items : List Item) : List Failure :=
  let c := s.conf.applyItems items
  checkTree c.courses ((items.filter (fun i => i.val == .deletion)).map (fun i => i.id % 0x10000)) ++ checkRoutes c ++
    checkAccess c s.store.charter ++ checkLf c ++
    failIf (c.nat 8 3 (c.nat 8 1) == 0) (settingId 8 1 0) St.rangeConfig ++
    checkSwitch c ++ checkStore s items ++ checkMem c ++ checkSafe s c

end Sys2Proof.Machine
end

