-- ==== Sys2Proof/Machine/HostIo.lean ====
section
/-! DEFINITION. Responses on their way to the host, through mailboxes (R47, R49–R51) and over the T1 host path (R63–R67,
R475), and the class 0x01 commands (R79, R502). -/

namespace Sys2Proof.Machine

/-! ### Response fragments -/

/-- A response header with its payload and CRC (R49, R50). -/
def responseBytes (opcode tk flags node status frag stamp : Nat) (d : Bytes) : Bytes :=
  let a := leBytes 2 opcode ++ leBytes 1 tk ++ leBytes 1 flags ++ leBytes 2 node ++ leBytes 2 status ++ leBytes 2 d.length
  let z := leBytes 1 frag ++ zeros 3 ++ leBytes 8 stamp ++ d
  a ++ leBytes 2 (crc16 (a ++ zeros 2 ++ z)) ++ z

/-- Fragment `f` of a ticket's response (R49, R51). -/
def fragBytes (tk f : Nat) (w : Work) : Bytes :=
  responseBytes w.req.opcode tk (w.flags + b1 (f + 1 == w.frags.length)) w.req.node w.status f w.stamp (w.frags.getD f [])

/-- A NO_TICKET refusal (R52), with PATH_MOVED where one of the T1 path goes to a mailbox (R67). -/
def dupBytes (moved : Bool) (d : DupRsp) : Bytes :=
  responseBytes d.opcode d.ticket (9 + b1 moved 4) d.node St.noTicket 0 d.stamp []

/-- The next fragment to go out: the first not yet posted or released. -/
def Work.nextFrag (w : Work) : Option Nat :=
  (List.range w.frags.length).find? (fun f => decide (w.posted ≤ f) && !w.released.contains f)

/-- The response goes to the mailboxes: an SPI ticket, or a T1 one whose path is off or has moved (R47, R67). -/
def viaMailbox (s : State) (w : Work) : Bool := !w.t1 || w.flags.testBit 4 || s.t1Port.isNone

/-- The lowest-numbered response mailbox whose RSP_READY bit is 0 (R47). -/
def freeMailbox (s : State) : Option Nat := (List.range 16).find? (fun n => !s.host.rspReady.getLsbD n)

/-- A response mailbox is filled and handed to the host (R47). -/
def fillMailbox (n : Nat) (b : Bytes) (h : Held) (s : State) : State :=
  (s.modStew (fun w => { w with rmb := tmod w.rmb n (fun _ => some h) })).modHost (fun l => { l with
    window := Memory.writeBytes l.window (0x4400 + n * 0x400) b
    rspReady := l.rspReady ||| BitVec.twoPow 16 n }.raise irqRsp)

/-- Fragments up to `f` have gone out; the item leaves the queue with its last one. -/
def afterFrag (tk f : Nat) (s : State) : State :=
  let s1 := s.modWork tk (fun w => { w with posted := f + 1 })
  if (match s1.work tk with | some w => w.nextFrag.isSome | none => false) then s1
  else (s1.modWork tk (fun w => { w with posted := w.frags.length })).modStew
    (fun w => { w with postQ := w.postQ.filter (fun i => i != .ticket tk) })

/-! ### Frames of the T1 path -/

/-- EtherType of host frames, as it is sent (R63). -/
def t1EtherType : Bytes := [0x88, 0xB5]

/-- A host frame of the device under a COUNTER, without its FCS: from the port's own address to HOST.T1_PEER_MAC, whose VALUE
holds the address in transmission order (R63, R140). -/
def t1Frame (port peer : Nat) (key : Bytes) (counter kind : Nat) (body : Bytes) : Bytes :=
  let b := leBytes 1 1 ++ leBytes 1 kind ++ leBytes 2 body.length ++ leBytes 8 counter ++ body
  leBytes 6 peer ++ beBytes 6 (Config.portMac port) ++ t1EtherType ++ b ++ (cmac key b).take 8

/-- A frame comes from HOST.T1_PEER_MAC to the port's own address with the EtherType of host frames next, hence without a
VLAN tag (R63). -/
def t1Addressed (port : Nat) (frame : Bytes) (s : State) : Bool :=
  frame.take 6 == beBytes 6 (Config.portMac port) && slice frame 6 6 == leBytes 6 (s.nat 1 1)
    && slice frame 12 2 == t1EtherType

/-- A unit of a counter is on its way. -/
def unitWaits (k : Nat) (s : State) : Bool := (s.store.running.toList ++ s.store.queue).any (fun o => o.act == .unit k)

/-- The key of the path for a usage, while the engine runs (R63, R349). -/
def t1Key (s : State) (u : Nat) : Option Bytes := if s.cipherUp then usableKey s (s.nat 1 2) u else none

/-- One frame goes out under the next COUNTER; the answer tells whether it did. Without the cipher engine, for which PD4 SEC
comes on, or without a value in the reservation the frame waits, and a new reservation is written when 256 values remain (R28,
R64, R65, R190). -/
def t1SendOne (kind : Nat) (body : Bytes) (s : State) : State × Bool :=
  let c := s.sheet.t1TxCount + 1
  let mark := s.store.counterValue 0x1061 * 1024
  let s1 := if mark ≤ c + 256 ∧ unitWaits 0x1061 s = false then bumpCounter 0x1061 .nothing s else s
  if keyReady s (s.nat 1 2) = false then (power [4] s, false)
  else match t1Key s 2 with
  | some k =>
    if s.t1Up = true ∧ c < mark then
      ((s1.modSheet (fun h => { h with t1TxCount := c })).modHost (fun h => { h with
        t1Tx := h.t1Tx ++ [t1Frame (s.t1Port.getD 0) (s.nat 1 1) k c kind body] }), true)
    else (s1, false)
  | none => (s, false)

/-- The event batches that wait go out, 1 to 16 records each, while HOST.T1_EVENTS is 1; the batch of the start is the first
frame of all, whatever it holds (R65, R66). -/
def t1Batches : Nat → State → State
  | 0, s => s
  | n + 1, s =>
    if s.host.t1Events = [] ∨ (s.host.t1StartSent = true ∧ s.nat 1 4 ≠ 1) then s
    else
      let a := t1SendOne 3 ((s.host.t1Events.take 16).map EvRec.bytes).flatten s
      if a.2 then t1Batches n (a.1.modHost (fun h => { h with t1Events := h.t1Events.drop 16, t1StartSent := true })) else a.1

/-- A frame of another kind goes out once the batch of the start has (R65). -/
def t1Send (kind : Nat) (body : Bytes) (s : State) : State × Bool :=
  let s1 := t1Batches (s.host.t1Events.length / 16 + 1) (s.modHost (fun h => { h with t1Tx := [] }))
  if s1.host.t1StartSent then t1SendOne kind body s1 else (s1, false)

/-- A refusal goes to a mailbox: one of the SPI path, or of the T1 path while that is off (R52, R67, log entry 186). -/
def dupMailbox (s : State) (d : DupRsp) : Bool := !d.t1 || s.t1Port.isNone

/-- An item of the queue can be posted now. -/
def postable (s : State) : PostItem → Bool
  | .ticket tk => match s.work tk with
    | some w => if viaMailbox s w then (freeMailbox s).isSome else s.t1Up
    | none => true
  | .dup d => if dupMailbox s d then (freeMailbox s).isSome else s.t1Up

/-- One fragment of a ticket goes out (R47, R66, R67). -/
def postTicket (tk : Nat) (s : State) : State :=
  match s.work tk with
  | none => s.modStew (fun w => { w with postQ := w.postQ.filter (fun i => i != .ticket tk) })
  | some w0 =>
    let w := if w0.t1 = true ∧ viaMailbox s w0 = true then { w0 with flags := w0.flags ||| 16 } else w0
    let s0 := s.modWork tk (fun _ => w)
    match w.nextFrag with
    | none => afterFrag tk w.frags.length s0
    | some f =>
      if viaMailbox s w then
        match freeMailbox s with
        | some n => afterFrag tk f (fillMailbox n (fragBytes tk f w) (.frag tk f) s0)
        | none => s
      else
        let a := t1Send 2 (fragBytes tk f w) s0
        if a.2 then afterFrag tk f (a.1.modWork tk (fun w => { w with sentAt := s.now })) else a.1

/-- RESPONSE_POST: the first item that can go out does, one fragment at a time; with none, waiting event batches go out on
the T1 path (R47, R66). -/
def execResponsePost (s : State) : Out :=
  .next (if s.stew.running = false then s
    else match s.stew.postQ.find? (postable s) with
      | some (.ticket tk) => postTicket tk s
      | some (.dup d) =>
        let out (t : State) := t.modStew (fun w => { w with postQ := dropFirst (.dup d) w.postQ })
        if dupMailbox s d then
          match freeMailbox s with
          | some n => out (fillMailbox n (dupBytes d.t1 d) .refusal s)
          | none => s
        else
          let a := t1Send 2 (dupBytes false d) s
          if a.2 then out (a.1.modHost (fun h => { h with t1Dups := h.t1Dups ++ [(d, s.now)] })) else a.1
      | none => t1Batches (s.host.t1Events.length / 16 + 1) (s.modHost (fun h => { h with t1Tx := [] })))
where
  /-- The list without the first occurrence of an item. -/
  dropFirst (x : PostItem) : List PostItem → List PostItem
    | [] => []
    | y :: ys => if y = x then ys else y :: dropFirst x ys

/-! ### Host frames -/

/-- A host frame is discarded: counted and logged (R64). -/
def t1Refuse (s : State) : State := emit 1 0x0102 [] 0 0xFF (s.modHost (fun h => { h with t1Refused := h.t1Refused + 1 }))

/-- Fragments up to `f` of a ticket are released on the T1 path, and so is a NO_TICKET refusal that names it, whose only
fragment is 0 (R66). -/
def t1Release (tk f : Nat) (s : State) : State :=
  let s1 := s.modHost (fun h => { h with t1Dups := h.t1Dups.filter (fun p => p.1.ticket != tk) })
  match s1.work tk with
  | some w =>
    if w.t1 then (List.range (min (f + 1) w.posted)).foldl (fun t i => releaseFragment tk i t) s1 else s1
  | none => s1

/-- An accepted host frame takes effect (R54, R66). -/
def t1Apply (kind : Nat) (body : Bytes) (s : State) : State :=
  if kind = 4 then t1Release (u8At body 0 % 128) (u8At body 1) s
  else
    let f : Frame := ⟨body⟩
    if (s.ticket f.ticket).state ≠ .free then duplicate f true s else accept f true s

/-- Frames whose COUNTER the stored host counter has reached take effect, in order; for the next one units are programmed
(R65). -/
def t1Drain : Nat → State → State
  | 0, s => s
  | n + 1, s =>
    match s.host.t1Hold with
    | [] => s
    | (c, kind, body) :: rest =>
      let v := s.store.counterValue 0x1062
      if c / 1024 ≤ v then
        t1Drain n (t1Apply kind body ((s.modHost (fun h => { h with t1Hold := rest })).modSheet (fun h => { h with t1Rx := c })))
      else if unitWaits 0x1062 s then s
      else (List.range (c / 1024 - v)).foldl (fun t _ => bumpCounter 0x1062 (.reserved 0x1062) t) s

/-- Frames that wait are looked at again (R65). -/
def t1Reached (s : State) : State := t1Drain (s.host.t1Hold.length + 1) s

/-- The last COUNTER taken from the host, waiting frames included (R64). -/
def t1Last (s : State) : Nat := (s.host.t1Hold.getLast?.map (·.1)).getD s.sheet.t1Rx

/-- A frame on the port of the path: addressed by the host, authenticated, its COUNTER checked, then taken (R63–R65). The
padding of a short Ethernet frame may follow TAG. The check waits for the cipher engine, for which PD4 SEC comes on (R28). -/
def t1Take (port : Nat) (frame : Bytes) (release : Bool) (s : State) : State :=
  let b := frame.drop 14
  let kind := u8At b 1
  let len := u16At b 2
  let c := u64At b 4
  if s.t1Port ≠ some port ∨ s.t1Up = false ∨ s.nat 1 1 = 0 ∨ t1Addressed port frame s = false ∨
      (kind == 4) ≠ release then s
  else if keyReady s (s.nat 1 2) = false then
    power [4] (s.modHost (fun h => { h with t1Wait := h.t1Wait ++ [(port, frame, release)] }))
  else
    let good := match t1Key s 3 with
      | some k => u8At b 0 == 1 && decide (20 + len ≤ b.length) &&
          (cmac k (b.take (12 + len))).take 8 == slice b (12 + len) 8
      | none => false
    let body := slice b 12 len
    let fits := if kind = 1 then decide (16 ≤ len) && (Frame.mk body).sound else kind == 4 && len == 4
    if good = true ∧ t1Last s < c ∧ c ≤ t1Last s + 2 ^ 20 ∧ fits = true then
      t1Reached (s.modHost (fun h => { h with t1Hold := h.t1Hold ++ [(c, kind, body)] }))
    else t1Refuse s

/-- Host frames that waited for the cipher engine are taken (R28). -/
def t1Resume (s : State) : State :=
  if s.host.t1Wait = [] ∨ keyReady s (s.nat 1 2) = false then s
  else s.host.t1Wait.foldl (fun t x => t1Take x.1 x.2.1 x.2.2 t) (s.modHost (fun h => { h with t1Wait := [] }))

/-- T1_COMMAND_FRAME (R63–R66): every kind but a release, with the Ethernet header before it. -/
def execT1CommandFrame (port : Fin 28) (header body : Bytes) (s : State) : Out := .next (t1Take port.val (header ++ body) false s)

/-- T1_RELEASE_FRAME (R63–R66). -/
def execT1ReleaseFrame (port : Fin 28) (header body : Bytes) (s : State) : Out := .next (t1Take port.val (header ++ body) true s)

/-- Tickets with fragments sent on the T1 path and not released, earliest first (R66). -/
def t1Unreleased (s : State) : List (Nat × Work) :=
  (s.flight.filter (fun p => p.2.t1 && !viaMailbox s p.2 && decide (0 < p.2.posted) &&
    (List.range p.2.posted).any (fun f => !p.2.released.contains f))).mergeSort (fun a b => decide (a.2.sentAt ≤ b.2.sentAt))

/-- The NO_TICKET refusal that went out before every response goes out again (R66). -/
def t1RetryDup (d : DupRsp) (at_ : Nat) (s : State) : State :=
  atDue (at_ + lsbOfMs (s.nat 1 3)) s (fun t =>
    let t1 := (t1SendOne 2 (dupBytes false d) (t.modHost (fun h => { h with t1Tx := [] }))).1
    t1.modHost (fun h => { h with t1Dups := h.t1Dups.drop 1 ++ [(d, t.now)] }))

/-- T1_RETRY: what was sent longest ago and is not released goes out again, the fragments of a ticket or a refusal, once the
cipher engine works (R28, R66). -/
def execT1Retry (s : State) : Out :=
  .next (match s.host.t1Dups, t1Unreleased s with
    | [], [] => s
    | (d, t) :: _, [] => if s.t1Up = false then s else if keyReady s (s.nat 1 2) = false then power [4] s else t1RetryDup d t s
    | ds, (tk, w) :: _ =>
      if s.t1Up = false then s
      else if keyReady s (s.nat 1 2) = false then power [4] s
      else if (match ds with | (_, t) :: _ => decide (t < w.sentAt) | [] => false) then
        (match ds with | (d, t) :: _ => t1RetryDup d t s | [] => s)
      else atDue (w.sentAt + lsbOfMs (s.nat 1 3)) s (fun t =>
        let t1 := ((List.range w.posted).filter (fun f => !w.released.contains f)).foldl
          (fun u f => (t1SendOne 2 (fragBytes tk f w) u).1) (t.modHost (fun h => { h with t1Tx := [] }))
        t1.modWork tk (fun w => { w with sentAt := t.now })))

/-- NO_TICKET refusals of the T1 path that are not released wait for a mailbox once the path is off (R67, log entry 186). -/
def moveDups (s : State) : State :=
  (s.modStew (fun w => { w with postQ := w.postQ ++ s.host.t1Dups.map (fun p => .dup p.1) })).modHost
    (fun h => { h with t1Dups := [] })

/-- T1 responses not yet released move to the mailboxes (R67, R475). -/
def movePaths (unsent : Bool) (s : State) : State :=
  s.flight.foldl (fun t p =>
    if p.2.t1 = true ∧ (s.ticket p.1).state = .completed ∧ p.2.flags.testBit 4 = false ∧
        (unsent = false ∨ (p.2.posted = 0 ∧ p.2.flags.testBit 1 = true)) then
      let t1 := t.modWork p.1 (fun w => { w with flags := w.flags ||| 16, posted := 0 })
      if t1.stew.postQ.contains (.ticket p.1) then t1
      else t1.modStew (fun w => { w with postQ := w.postQ ++ [.ticket p.1] })
    else t) s

/-- T1_REPLAY_TIMEOUT (R475). -/
def execT1ReplayTimeout (s : State) : Out :=
  .next (match s.host.trigger12At with
    | none => s
    | some t => atDue (t + 5 * oneSec) s (fun u => movePaths true (u.modHost (fun h => { h with trigger12At := none }))))

/-! ### Class 0x01 -/

/-- DEVICE.IDENTIFY (R79). -/
def execDeviceIdentify (tk : Fin 128) (s : State) : Out :=
  .next (command tk.val 0x0101 (fun _ s => complete tk.val St.ok
    (leBytes 4 s.idPart ++ leBytes 4 s.idSteward ++ leBytes 4 s.host.idFixer.toNat ++ leBytes 8 Config.serial.toNat ++
      leBytes 2 (allNodes s.conf.courses).length ++ leBytes 2 2048 ++ leBytes 1 16 ++ leBytes 1 4 ++ leBytes 2 512 ++
      zeros 4) s) s)

/-- One entry of DEVICE.TICKET_QUERY; the querying ticket appears as RUNNING (R79). -/
def queryEntry (me t : Nat) (e : TicketEntry) : Bytes :=
  let st := if t = me then 2 else e.stateCode
  leBytes 1 st ++ leBytes 1 (b1 (e.t1 && st != 0)) ++ leBytes 2 (if st = 0 then 0 else e.opcode) ++
    leBytes 2 (if st = 0 then 0 else if st = 3 then e.status else St.pending)

/-- DEVICE.TICKET_QUERY (R79). -/
def execDeviceTicketQuery (tk : Fin 128) (s : State) : Out :=
  .next (command tk.val 0x0102 (fun _ s => complete tk.val St.ok
    ((List.range 128).flatMap (fun t => queryEntry tk.val t (s.ticket t))) s) s)

/-- The fault a tile's subsystem last reported: an LF channel latched OPEN or SHORTED, a CAN port in bus-off, or a
sensor in alarm; no other type of tile reports one (R79, log entry 187). -/
def tileFault (s : State) (n : Nat) : Bool :=
  match typeCode n with
  | 1 => (tget s.lf.chans (n - 0x10)).latched
  | 2 => (tget s.sw.ports (n - 0x30)).busOff
  | 5 => [1, 2].contains (tget s.safe.sensors (n - 0x70)).state
  | _ => false

/-- The probe of a tile (R79). -/
def probeTile (me n : Nat) (s : State) : Bytes :=
  let busy := (List.range 128).any (fun t => t != me &&
    ((s.ticket t).state == .running || (s.ticket t).state == .accepted) &&
    (match s.work t with | some w => w.tiles.contains n | none => false))
  leBytes 1 (tileDomain n) ++ leBytes 1 (b1 (s.powered (tileDomain n)) + b1 (tileFault s n) 1 + b1 busy 2) ++ zeros 2

/-- NODE.PROBE (R57, R79). -/
def execNodeProbe (tk : Fin 128) (s : State) : Out :=
  .next (command tk.val 0x0110 (fun w s => completeTiles tk.val w.walk
    (((w.walk.filter (fun x => x.kind == 0)).map (·.node)).map (fun n => { node := n, status := St.ok, data := probeTile tk.val n s })) s) s)

/-- NODE.READ (R79). -/
def execNodeRead (tk : Fin 128) (s : State) : Out :=
  .next (command tk.val 0x0111 (fun w s =>
    let n := w.req.node
    let ms := (members s.conf.courses n).getD []
    complete tk.val St.ok (leBytes 2 n ++ leBytes 1 (b1 !(isTile n)) ++ leBytes 1 (typeCode n) ++
      leBytes 1 (b1 (decide (0x100 ≤ n))) ++ zeros 1 ++ leBytes 2 ms.length ++ leBytes 2 (parentCount s.conf.courses n) ++
      zeros 2 ++ ms.flatMap (leBytes 2)) s) s)

/-- NODE.LIST (R79). -/
def execNodeList (tk : Fin 128) (s : State) : Out :=
  .next (command tk.val 0x0112 (fun w s =>
    let ns := (allNodes s.conf.courses).filter (fun n =>
      decide (u16At w.req.payload 0 ≤ n) && decide (n ≤ u16At w.req.payload 2))
    complete tk.val St.ok (leBytes 2 ns.length ++ zeros 2 ++
      ns.flatMap (fun n => leBytes 2 n ++ leBytes 1 (b1 !(isTile n)) ++ leBytes 1 (typeCode n))) s) s)

/-- The first failing check of NODE.COURSE_STAGE (R502). -/
def courseRefusal (p : Bytes) : Option Nat :=
  let k := u16At p 2
  let ms := (List.range k).map (fun i => u16At p (4 + 2 * i))
  if k < 1 ∨ 256 < k ∨ p.length ≠ 4 + 2 * k then some St.badArg
  else if u16At p 0 < 0x100 ∨ 0x7FF < u16At p 0 then some St.badNode
  else if ms.any (fun m => decide (m < 2) || decide (0x7FF < m) || (decide (m < 0x100) && !nodeExists [] m)) then some St.badNode
  else if ms.Nodup then none else some St.badArg

/-- NODE.COURSE_STAGE (R70, R502). -/
def execNodeCourseStage (tk : Fin 128) (s : State) : Out :=
  .next (command tk.val 0x0120 (fun w s =>
    match courseRefusal w.req.payload with
    | some st => complete tk.val st [] s
    | none => stageObject tk.val w 1 0xF0 (u16At w.req.payload 0) w.req.payload s) s)

/-- NODE.COURSE_DELETE_STAGE (R70, R79). -/
def execNodeCourseDeleteStage (tk : Fin 128) (s : State) : Out :=
  .next (command tk.val 0x0121 (fun w s =>
    let c := u16At w.req.payload 0
    if c < 0x100 ∨ 0x7FF < c then complete tk.val St.badNode [] s
    else
      let a := stageItems w.req.session [{ id := objectId 1 0xF0 c, val := .deletion }] s
      complete tk.val a.2 [] a.1) s)

end Sys2Proof.Machine
end

