-- ==== Sys2Proof/Machine/Expo.lean ====
section
/-! DEFINITION. The exposure engine (05_exposure.md): sessions, CHECK and EXPOSE, the decision point, the instant, the
two-phase commit with the F die as the M die runs it, and the class 0x03 commands. -/

namespace Sys2Proof.Machine

/-! ### Sessions -/

/-- A session changed. -/
def State.modSess (s : State) (n : Nat) (f : Session → Session) : State :=
  s.modExpo (fun e => { e with sessions := tmod e.sessions n f })
/-- A session. -/
def State.sess (s : State) (n : Nat) : Session := tget s.expo.sessions n

/-- The pending exposure changed. -/
def State.modPend (s : State) (f : Pending → Pending) : State := s.modExpo (fun e => { e with pending := e.pending.map f })

/-- EXPOSE.OPEN (R136, R155). -/
def execExposeOpen (tk : Fin 128) (s : State) : Out :=
  .next (command tk.val 0x0301 (fun w s =>
    let b := u8At w.req.payload 0
    let pick := if b = 0xFF then (List.range 4).find? (fun n => (s.sess n).state == .closed)
      else if (s.sess b).state = .closed then some b else none
    match pick with
    | some n => complete tk.val St.ok (leBytes 1 n ++ zeros 3) (s.modSess n (fun _ => { state := .opened }))
    | none => complete tk.val St.sessionBusy [] s) s)

/-- EXPOSE.DISCARD (R136, R155, R401). -/
def execExposeDiscard (tk : Fin 128) (s : State) : Out :=
  .next (command tk.val 0x0302 (fun w s =>
    let n := u8At w.req.payload 0
    if (s.sess n).state = .exposing then complete tk.val St.sessionBusy [] s
    else complete tk.val St.ok [] (abandonSet n (s.modSess n (fun _ => {})))) s)

/-- The outcome of one item of EXPOSE.SET_STAGE (R140): its status, or the item. -/
def stageOne (m : Mode) (b : Bytes) : Except Nat Item :=
  let id := u32At b 0
  match rowOfId id with
  | none => .error St.badArg
  | some r =>
    let v := readValue r (slice b 8 8)
    if u32At b 4 ≠ 0 then .error St.badArg
    else if r.stage = .no then .error St.settingFixed
    else if r.ok (id % 0x10000) v = false then .error St.badArg
    else if r.stage = .workshop ∧ m ≠ .workshop then .error St.deniedMode
    else .ok { id, val := .value v }

/-- The items of a request, or the index and status of the first that fails (R140). -/
def stageAll (m : Mode) (p : Bytes) : Nat → Nat → Except (Nat × Nat) (List Item)
  | 0, _ => .ok []
  | k + 1, i => match stageOne m (slice p (4 + 16 * i) 16) with
    | .error st => .error (i, st)
    | .ok x => (stageAll m p k (i + 1)).map (fun xs => x :: xs)

/-- EXPOSE.SET_STAGE (R137, R138, R140, R155). -/
def execExposeSetStage (tk : Fin 128) (s : State) : Out :=
  .next (command tk.val 0x0303 (fun w s =>
    let n := w.req.session
    let reply (i : Nat) (t : State) : Bytes := leBytes 2 i ++ leBytes 2 (t.sess n).items.length
    match stageRefusal n s with
    | some st => complete tk.val st (reply 0xFFFF s) s
    | none => match stageAll s.power.mode w.req.payload (u16At w.req.payload 0) 0 with
      | .error e => complete tk.val e.2 (reply e.1 s) s
      | .ok is =>
        let a := stageItems n is s
        complete tk.val a.2 (reply 0xFFFF a.1) a.1) s)

/-- EXPOSE.STATUS (R155). -/
def exposeStatusData (s : State) : Bytes :=
  let busy := (List.range 4).find? (fun n => (s.sess n).state == .exposing)
  let phase := match s.expo.pending with
    | none => 0
    | some p => if p.decided then 4 else if p.fix = .prepared ∨ p.fix = .committing ∨ p.fix = .armed then 3
      else if p.loaded then 2 else 1
  leBytes 4 s.conf.gen ++ leBytes 1 (busy.getD 0xFF) ++ leBytes 1 phase ++ zeros 2 ++
    leBytes 8 ((s.expo.pending.map (·.instant)).getD 0) ++
    (List.range 4).flatMap (fun n =>
      let x := s.sess n
      leBytes 1 (match x.state with | .closed => 0 | .opened => 1 | .checked => 2 | .exposing => 3) ++ zeros 1 ++
        leBytes 2 x.items.length ++ leBytes 4 x.bytes ++ leBytes 4 x.baseGen ++ zeros 4)

/-- EXPOSE.STATUS (R155). -/
def execExposeStatus (tk : Fin 128) (s : State) : Out :=
  .next (command tk.val 0x0307 (fun _ s => complete tk.val St.ok (exposeStatusData s) s) s)

/-- EXPOSE.SETTING_READ (R155). -/
def execExposeSettingRead (tk : Fin 128) (s : State) : Out :=
  .next (command tk.val 0x0308 (fun w s =>
    let id := u32At w.req.payload 0
    let src := u8At w.req.payload 4
    let reply (v : Int) (f : Nat) := valueBytes v ++ leBytes 1 f ++ zeros 3 ++ leBytes 4 s.conf.gen
    if (rowOfId id).isNone then complete tk.val St.badArg [] s
    else if src = 0xFF then complete tk.val St.ok (reply (settingNow s id) 0) s
    else if (s.sess src).state = .closed then complete tk.val St.sessionClosed [] s
    else match stagedItem src id s with
      | some { val := .value v, .. } => complete tk.val St.ok (reply v 1) s
      | _ => complete tk.val St.ok (reply (settingNow s id) 0) s) s)

/-! ### CHECK (R141, R401) -/

/-- A record of a set: its SEQ is one above the newest version in force (R401). -/
def Store.setRecord (t : Store) (no k : Nat) (d : Bytes) (tomb : Bool) : Rec :=
  { key := k, seq := (t.versions k).foldl (fun m r => max m (r.seq + 1)) 0, set := some no, tombstone := tomb, data := d }

/-- A record as its 64 bytes, without the check bits (R389). -/
def Rec.bytes (r : Rec) : Bytes :=
  let flags := b1 r.set.isSome + b1 r.tombstone 1 + b1 r.erasePending 2 + b1 r.copy 3 + r.set.getD 0 % 16 * 16
  let head := leBytes 2 r.key ++ leBytes 3 r.seq ++ leBytes 1 r.data.length ++ leBytes 1 flags
  let d := padTo 56 r.data
  head ++ leBytes 1 (crc8 (head ++ d)) ++ d

/-- The session's items are written as a prepared set: SET_OPEN, its records, SET_CLOSE (R401). -/
def prepareSet (sess : Nat) (s : State) : State :=
  let no := s.store.nextSet
  let items := (s.sess sess).items
  let recs := (setRecords s items).map (fun r => s.store.setRecord no r.1 r.2.1 r.2.2)
  let mark (k : Nat) (d : Bytes) : StoreOp := { act := .record { s.store.recordFor k d with set := some no } }
  let head := leBytes 4 no ++ leBytes 1 sess ++ leBytes 2 recs.length
  enqueue (mark 0x0006 head :: recs.map (fun r => { act := .record r }) ++
      [mark 0x0007 (head ++ leBytes 4 (crc32 (recs.flatMap Rec.bytes)))])
    (s.modStore (fun t => { t with nextSet := no + 1, sets := t.sets ++ [{ no, session := sess, items }] }))

/-- The prepared set of a session that is not pending. -/
def preparedSet (sess : Nat) (s : State) : Option ConfSet := s.store.sets.find? (fun c => c.session == sess && c.phase == 0)

/-- EXPOSE.CHECK (R141, R155, R401). -/
def execExposeCheck (tk : Fin 128) (s : State) : Out :=
  .next (command tk.val 0x0304 (fun w s =>
    let n := u8At w.req.payload 0
    match stageRefusal n s with
    | some st => complete tk.val st [] s
    | none =>
      let fails := checkAll s (s.sess n).items
      let listed := fails.take 16
      let data := leBytes 2 (min 0xFFFF fails.length) ++ leBytes 1 listed.length ++ zeros 1 ++ leBytes 4 s.conf.gen ++
        listed.flatMap (fun f => leBytes 4 f.1 ++ leBytes 2 f.2 ++ zeros 2)
      let s1 := abandonSet n (s.modSess n (fun x => { x with
        baseGen := s.conf.gen, deferral := none, state := if fails = [] then .checked else .opened }))
      if fails = [] then complete tk.val St.ok data (prepareSet n s1)
      else complete tk.val St.checkFailed data s1) s)

/-! ### EXPOSE (R143–R145) -/

/-- Class 0x09 items of a set. -/
def fixItems (items : List Item) : List Item := items.filter (fun i => decide (i.id / 0x1000000 = 9))

/-- The mode row of R143 holds, with the mode rule of R452 for a staged UPDATE.BOOT that differs. -/
def modeHolds (s : State) (items : List Item) : Bool :=
  (s.power.mode == .workshop || items.all (fun i => match rowOfId i.id with
    | some r => r.stage != .workshop
    | none => true))

/-- The mode rule of the decision point for UPDATE.BOOT (R452). -/
def bootHolds (s : State) (items : List Item) : Bool :=
  bootMode s.power.mode || items.all (fun i => i.id != settingId 15 6 0 || i.val == .value (s.get 15 6))

/-- Response of EXPOSE.EXPOSE (R155). -/
def exposeReply (result reasons fix instant apply : Nat) (s : State) : Bytes :=
  leBytes 1 result ++ leBytes 1 reasons ++ leBytes 2 fix ++ leBytes 4 s.conf.gen ++ leBytes 8 instant ++ leBytes 8 apply

/-- Lead of the write-back, µs (R144). -/
def writeLead (items : List Item) : Nat := 100 + 20 * items.length

/-- Lead of the switch generation, in epoch units, where it applies (R144, R324). -/
def switchLead (items : List Item) (s : State) : Option Nat :=
  match s.sw.retiring with
  | some r => if items.any (fun i => isTableItem i.id) then some (r.bound + lsbOfUs 1100 - s.now) else none
  | none => none

/-- Components that apply besides the base: reason bit and lead in epoch units (R144). -/
def leads (items : List Item) (s : State) : List (Nat × Nat) :=
  [(1, lsbOfUs (writeLead items))] ++ ((switchLead items s).map (fun l => (2, l))).toList ++
    (if fixItems items = [] then [] else [(3, lsbOfMs 20)])

/-- REASONS at T (R144). -/
def reasonsOf (ls : List (Nat × Nat)) : Nat :=
  let m := maskOf ((ls.filter (fun l => decide (lsbOfUs 200 < l.2))).map (·.1))
  if m = 0 then 1 else m

/-- EARLIEST at T (R144). -/
def earliestOf (ls : List (Nat × Nat)) (now : Nat) : Nat := now + ls.foldl (fun m l => max m l.2) (lsbOfUs 200)

/-- Components that a DEFERRED answer may still rest on (R145). -/
def leadsAfter (x : Session) (instant gen : Nat) (ls : List (Nat × Nat)) : List (Nat × Nat) :=
  match x.deferral with
  | some d => if gen = d.2 ∧ d.1 ≤ instant then ls.filter (fun l => l.1 != 2) else ls
  | none => ls

/-- SET_PENDING of the exposure (R391, R401). -/
def pendingRecord (no base instant tk : Nat) : Bytes := leBytes 4 no ++ leBytes 4 base ++ leBytes 8 instant ++ leBytes 1 tk

/-- An exposure is accepted for an instant (R143, R146, R150, R401). -/
def acceptExpose (tk n instant reasons : Nat) (s : State) : State :=
  let items := (s.sess n).items
  let s0 := if (preparedSet n s).isSome then s else prepareSet n s
  let no := ((preparedSet n s0).map (·.no)).getD 0
  let gen := wrapAdd 32 s.conf.gen 1
  let fx := fixItems items
  let p : Pending := { session := n, ticket := tk, instant, reasons, gen, setNo := no, sentAt := s.now,
                       fix := if fx = [] then .unused else .preparing }
  let s1 := (start tk s0).modTicket tk (fun e => { e with writeRef := no })
  let s2 := (s1.modSess n (fun x => { x with state := .exposing, deferral := none })).modExpo (fun e => { e with pending := some p })
  let s3 := putRecord 0x0002 (pendingRecord no s.conf.gen instant tk) .pendingSet s2
  if fx = [] then s3
  else
    let vals := fx.filterMap (fun i => match i.val with | .value v => some (i.id / 0x10000 % 0x100, v) | _ => none)
    let pair := fx.findSome? (fun i => match i.val with | .object b => some b | _ => none)
    laneSend (.exposePrepare vals pair gen instant tk) .exposure s3

/-- EXPOSE.EXPOSE: the first row of R143 that applies. -/
def execExposeExpose (tk : Fin 128) (s : State) : Out :=
  .next (command tk.val 0x0305 (fun w s =>
    let n := u8At w.req.payload 0
    let later := (u8At w.req.payload 1).testBit 0
    let instant := u64At w.req.payload 8
    let x := s.sess n
    let ls := leads x.items s
    let reasons := reasonsOf ls
    let earliest := earliestOf (leadsAfter x instant s.conf.gen ls) s.now
    let refuse (st : Nat) (t : State) : State := complete tk.val st (exposeReply 3 reasons 0 0 0 s) t
    if x.state ≠ .checked then refuse St.notChecked s
    else if (List.range 4).any (fun m => (s.sess m).state == .exposing) then refuse St.exposeBusy s
    else if s.conf.gen ≠ x.baseGen then refuse St.exposeStale (s.modSess n (fun x => { x with state := .opened }))
    else if modeHolds s x.items = false then refuse St.modeLost s
    else if fixItems x.items ≠ [] ∧ s.lane.up = false then refuse St.fixerAbsent s
    else if s.now + lsbOfS (s.nat 3 0) < instant then refuse St.badArg s
    else if instant ≠ 0 ∧ instant < earliest ∧ later = false then
      complete tk.val St.deferred (exposeReply 3 reasons 0 earliest 0 s)
        (s.modSess n (fun x => { x with deferral := some (earliest, s.conf.gen) }))
    else acceptExpose tk.val n (if instant < earliest then earliest else instant) reasons s) s)

/-! ### An exposure that ends without being applied (R146, R149, R152) -/

/-- Nobody waits for a lane answer on behalf of the exposure any more. -/
def dropUser (s : State) : State :=
  s.modLane (fun l => { l with
    out := l.out.map (fun o => if o.user = .exposure then { o with user := .none } else o)
    again := l.again.filter (fun a => a.2 != .exposure) })

/-- EXPOSE_ROLLBACK is sent and held as owed until it is acknowledged (R146, R152). -/
def sendRollback (gen : Nat) (s : State) : State :=
  let s1 := s.modSheet (fun h => { h with owed := .rollback, owedGen := gen })
  if s.lane.up then laneSend (.exposeRollback gen) .owed s1 else s1

/-- The pending set is void: SET_VOID with its cause (R391, R401). -/
def voidSet (no cause : Nat) (s : State) : State :=
  putRecord 0x0003 (leBytes 4 no ++ leBytes 1 cause) .nothing
    (s.modStore (fun t => { t with sets := t.sets.map (fun c => if c.no = no then { c with phase := 3 } else c) }))

/-- The pending exposure ends unapplied with a status: event 0x0302, RESULT 3, and the session as the case says
(R149, R152, R156). -/
def endPending (st fixStatus : Nat) (after : SessState) (s : State) : State :=
  match s.expo.pending with
  | none => s
  | some p =>
    let s1 := if p.fix = .unused then s else sendRollback p.gen (dropUser s)
    let s2 := voidSet p.setNo (if st = St.exposeCancelled then 1 else 0) s1
    let s3 := (s2.modSess p.session (fun x => { x with state := after })).modExpo (fun e => { e with pending := none })
    complete p.ticket st (exposeReply 3 p.reasons fixStatus p.instant 0 s)
      (emit 2 0x0302 (leBytes 2 st ++ zeros 2 ++ leBytes 1 p.session) 0 p.ticket s3)

/-- EXPOSE.CANCEL (R149): a session left EXPOSING across a reset waits for replay. -/
def execExposeCancel (tk : Fin 128) (s : State) : Out :=
  .next (command tk.val 0x0306 (fun w s =>
    let n := u8At w.req.payload 0
    match (s.sess n).state with
    | .closed => complete tk.val St.sessionClosed [] s
    | .exposing => match s.expo.pending with
      | none => s
      | some p => if p.decided then complete tk.val St.exposeDecided [] s
        else complete tk.val St.ok [] (endPending St.exposeCancelled 0 .checked s)
    | _ => complete tk.val St.ok [] s) s)

/-! ### The decision point (R146) -/

/-- At the decision point: the mode once more; then the DECIDED marker, and shutter 12 is armed with the instant, its EVENT
clear (log entry 193). -/
def decide_ (s : State) : State :=
  match s.expo.pending with
  | none => s
  | some p =>
    let items := (s.sess p.session).items
    if modeHolds s items = true ∧ bootHolds s items = true then
      armFirm 12 p.instant 0 (((s.modPend (fun p => { p with decided := true })).modTicket p.ticket
        (fun e => { e with decided := true })).modShut 12 (fun h => { h with event := false }))
    else endPending St.modeLost 0 .checked s

/-- DECISION_POINT: 100 µs before the instant, once everything is written and loaded, where no class 0x09 item is staged
(R146). -/
def execDecisionPoint (s : State) : Out :=
  .next (match s.expo.pending with
    | some p =>
      if s.stew.running = true ∧ p.decided = false ∧ p.fix = .unused ∧ p.loaded = true then
        atDue (p.instant - lsbOfUs 100) s decide_
      else s
    | none => s)

/-- The stamp by which the F die must have answered: PREPARED within 5 ms and by 2 ms before the instant, the acknowledgement of
EXPOSE_COMMIT by 1 ms before it (R150, R152). -/
def laneDeadline (p : Pending) : Nat :=
  if p.fix = .preparing then min (p.sentAt + lsbOfMs 5) (p.instant - lsbOfMs 2) else p.instant - lsbOfMs 1

/-- EXPOSE_COMMIT_SEND: 2 ms before the instant, only after PREPARED; the mode row is checked first (R146, R150). Where it would
go out only after the stamp by which it must be acknowledged, the exposure ends (R152). -/
def execExposeCommitSend (s : State) : Out :=
  .next (match s.expo.pending with
    | some p =>
      if s.stew.running = true ∧ p.fix = .prepared ∧ p.loaded = true then
        atDue (p.instant - lsbOfMs 2) s (fun t =>
          if laneDeadline p < t.now then endPending St.fixerAbsent 0 .checked t
          else if modeHolds t (t.sess p.session).items = true then
            laneSend (.exposeCommit p.gen) .exposure (t.modPend (fun p => { p with fix := .committing }))
          else endPending St.modeLost 0 .checked t)
      else s
    | none => s)

/-- FIXER_PREPARE_TIMEOUT: PREPARED or the acknowledgement of EXPOSE_COMMIT has not come in time, an EXPOSE_COMMIT that could not
be sent among them (R152). -/
def execFixerPrepareTimeout (s : State) : Out :=
  .next (match s.expo.pending with
    | some p =>
      if s.stew.running = false ∨ p.fix = .unused ∨ p.fix = .armed then s
      else atDue (laneDeadline p) s (endPending St.fixerAbsent 0 .checked)
    | none => s)

/-! ### The instant (R147, R148) -/

/-- Staged values of a shutter become active whatever its state: after a fire of its own in the same cycle, where a compare at
or below the instant fires in the next cycle; otherwise one fires at the instant (R100). -/
def loadShutter (f : Nat) (s : State) (i : Item) : State :=
  match i.val with
  | .object b =>
    if i.id / 0x10000 = 0x02F0 then
      let n := i.id % 0x10000
      let own := (s.shut n).due s.now
      let s1 := (if own then fire n s.now false s else s).modShut n (fun h => { h.load (u64At b 0) (u64At b 8) with
        preValid := false, event := (u8At b 16).testBit 0 })
      if f < u64At b 0 then s1
      else if own then let s2 := nextCycle s1; fire n s2.now true s2
      else fire n f true s1
    else s
  | _ => s

/-- A capture pair whose INPUT changes (R104), and a DMA ring whose SOURCE or DEPTH changes (R434). -/
def inputsChanged (old : Conf) (s : State) : State :=
  let s1 := (List.range 8).foldl (fun t n => if old.nat 2 4 n = t.nat 2 4 n then t
    else t.modCap n (fun c => { c with widthValid := false, open_ := false })) s
  (List.range 8).foldl (fun t n => if old.nat 14 2 n = t.nat 14 2 n ∧ old.nat 14 3 n = t.nat 14 3 n then t
    else t.modMem (fun m => { m with dma := tmod m.dma n (fun r => { r with entries := [] }) })) s1

/-- A new POWER.WATCH_WINDOW that has already run out in WATCH brings trigger 7 (R134). -/
def windowExposed (old : Conf) (s : State) : State :=
  if s.power.mode = .watch ∧ old.nat 4 0 ≠ s.nat 4 0 ∧ s.power.watchFrom + lsbOfS (60 * s.nat 4 0) ≤ s.now then trigger 7 s
  else s

/-- An exposure that turns the T1 path off moves its responses (R67). -/
def pathExposed (old : Conf) (s : State) : State := if old.nat 1 0 ≠ 0 ∧ s.nat 1 0 = 0 then moveDups (movePaths false s) else s

/-- An exposure that lowers HOST.EVT_IRQ_COUNT to the number of unread records or below makes that number reach it (R61). -/
def irqExposed (old : Conf) (s : State) : State :=
  if s.host.unread < old.nat 1 6 ∧ s.nat 1 6 ≤ s.host.unread then s.modHost (fun h => h.raise irqEvt) else s

/-- A newly selected image that is VERIFIED becomes TRIAL (R452). -/
def bootExposed (old : Conf) (s : State) : State :=
  let n := s.nat 15 6
  if old.nat 15 6 = n ∨ (tget s.safe.images n).state ≠ 2 then s
  else s.modSafe (fun f => { f with images := tmod f.images n (fun i => { i with
    state := 3, boots := 0, writeSeq := s.vault.writeSeq }) })

/-- The set takes effect in one cycle at a stamp, with event 0x0301 (R147, R153, R156). -/
def exposeSet (sess tk : Nat) (items : List Item) (gen stamp : Nat) (late : Bool) (s : State) : State :=
  let old := s.conf
  let ids := items.map (·.id)
  let s1 := s.modConf (fun c => { c.applyItems items with gen })
  let s2 := switchExposed old ids stamp (inputsChanged old s1)
  let s3 := items.foldl (loadShutter stamp) s2
  let s4 := irqExposed old (bootExposed old (pathExposed old (accessExposed (windowExposed old s3))))
  let s5 := runRoutes routeDepth (raiseRoute 0x21 stamp s4.coarse s4)
  emitAs s.quality stamp 2 0x0301 0 tk (leBytes 4 gen ++ leBytes 1 sess ++
    leBytes 1 (b1 (!(fixItems items).isEmpty) + b1 late 1) ++ zeros 2 ++ leBytes 2 items.length) s5

/-- CONFIG_COMMIT (R391, R401). -/
def commitRecord (gen no stamp : Nat) : Bytes := leBytes 4 gen ++ leBytes 4 no ++ leBytes 8 stamp

/-- What happens at the fire of shutter 12, which has been made (R147, R148, R150, R151). -/
def atInstant (p : Pending) (t : State) : State :=
  let f := t.now
  let late := (t.shut 12).lastLate || t.coarse
  let items := (t.sess p.session).items
  let s1 := exposeSet p.session p.ticket items p.gen f late t
  let s2 := s1.modPend (fun p => { p with applied := some (f, late), boot := s1.nat 15 6 != t.nat 15 6 })
  let s3 := if p.fix = .unused then s2
    else
      let u := (s2.modLane (fun l => { l with edges := l.edges ++ [.exposure] })).modSheet
        (fun h => { h with owed := .commit, owedGen := p.gen })
      if u.lane.up then laneSend (.recordRead 2 0 0) .owed u else u
  putRecord 0x0001 (commitRecord p.gen p.setNo f) .committed s3

/-- The fire of shutter 12 applies the pending exposure (R147, R148). -/
def exposureFires (s : State) : State :=
  match s.expo.pending with
  | some p =>
    if p.decided = true ∧ p.applied = none then
      match firmStart 12 s with
      | some t => atInstant p t
      | none => s
    else s
  | none => s

/-- EXPOSURE_INSTANT (R147, R148): the fire of shutter 12. -/
def execExposureInstant (s : State) : Out := .next (exposureFires s)

/-- The commit record is written: the set's records are newest versions, the session is CLOSED and the ticket completes
(R147, R148, R401). -/
def exposeCommitted (s : State) : State :=
  match s.expo.pending with
  | none => s
  | some p => match p.applied with
    | none => s
    | some a =>
      let s1 := s.modStore (fun t => { t with sets := t.sets.filter (fun c => c.no != p.setNo) })
      let s2 := (s1.modSess p.session (fun _ => {})).modExpo (fun e => { e with pending := none })
      let s3 := complete p.ticket (if a.2 then St.exposeLate else St.ok)
        (exposeReply (if a.2 then 1 else 0) p.reasons 0 p.instant a.1 s2) s2
      if p.boot then s3.modSafe (fun f => { f with resetDue := some 6 }) else s3

/-- SET_PENDING is written: every item is in its shadow before the decision point (R146, R401). -/
def pendingWritten (s : State) : State :=
  match s.expo.pending with
  | none => s
  | some p => (s.modPend (fun p => { p with written := true, loaded := true })).modStore (fun t => { t with
      sets := t.sets.map (fun c => if c.no = p.setNo ∧ c.phase = 0 then { c with phase := 1 } else c) })

end Sys2Proof.Machine
end

