-- ==== Sys2Proof/Machine/FixRec.lean ====
section
/-! DEFINITION. The F die's records: distance (R276, R277), the record chain and its signatures (R291–R294), the buffer and
the pending GAP (R295, R296), FIXER_EVENT records (R305, R507) and the seal (R298). -/

namespace Sys2Proof.Machine

/-- A class 0x09 setting as the F die holds it (R306). -/
def Fixer.val (f : Fixer) (row : Nat) : Nat :=
  match assoc f.values row with
  | some v => v.toNat
  | none => match rowOf 9 row with
    | some r => (r.dflt 0).toNat
    | none => 0

/-- k, FIXER.K (R276). -/
def Fixer.k (f : Fixer) : Nat := f.val 0

/-- D, mm (R276). -/
def Fixer.dist (f : Fixer) : Nat := f.m0 + f.pulses * 1000000 / f.k

/-- Total distance, m (R276). -/
def Fixer.metres (f : Fixer) : Nat := f.dist / 1000

/-- Slot holding the workshop session: the lowest with an authenticated workshop card (R289). -/
def Fixer.shopSlot (f : Fixer) : Option Nat :=
  (List.range 2).find? (fun n => (tget f.cards n).info.state == 2 && (tget f.cards n).info.role == 2)

/-- A workshop session is open (R289). -/
def Fixer.shop (f : Fixer) : Bool := f.shopSlot.isSome

/-! ### The chain -/

/-- FLAGS of a record (R291). -/
def Fixer.flags (f : Fixer) : Nat :=
  b1 f.unset 0 + b1 (!f.kSet) 1 + b1 f.motion.paired.isNone 2 + b1 f.onVfb 3 + b1 (decide (0 < f.slew)) 4

/-- Bytes 0–23 of a chained record (R291). -/
def recHead (seq ty flags stamp : Nat) (body : Bytes) : Bytes :=
  leBytes 4 seq ++ leBytes 1 ty ++ leBytes 1 flags ++ zeros 2 ++ leBytes 8 stamp ++ padTo 8 (body.take 8)

/-- A record enters the buffer and is sent at once; the strobe is raised for 2,048 or more buffered records (R273, R295). -/
def bufferRec (seq : Nat) (b h : Bytes) (s : State) : State :=
  let s1 := s.modFix (fun f => { f with next := seq + 1, buffer := f.buffer ++ [(seq, b, h)] })
  let s2 := toMaster (.record seq b) s1
  if 2048 ≤ s2.fix.buffer.length then s2.modLane (fun l => { l with strobe := true }) else s2

/-- A chained record is made with the present clock (R291, R293). -/
def chainRec (ty : Nat) (body : Bytes) (s : State) : State :=
  let f := s.fix
  let head := recHead f.next ty f.flags f.clock body
  let h := sha256 (f.chain ++ head)
  bufferRec f.next (head ++ h.take 8) h (s.modFix (fun g => { g with chain := h, since := g.since + 1 }))

/-- A signature record (R294). -/
def signRec (ty : Nat) (payload : Bytes) (s : State) : State :=
  let n := s.fix.next
  bufferRec n (leBytes 4 n ++ leBytes 1 ty ++ zeros 3 ++ padTo 24 (payload.take 24)) [] s

/-- The signature over the last chained record, in three records; it restarts the count of R292 (R294). -/
def signature (s : State) : State :=
  let n := s.fix.next - 1
  let sig := padTo 64 ((Config.fixerSign s.free ([0x46, 0x58, 0x53, 0x31] ++ beBytes 4 n ++ s.fix.chain)).take 64)
  signRec 0x23 (slice sig 44 20)
    (signRec 0x22 (slice sig 20 24)
      (signRec 0x21 (leBytes 4 n ++ slice sig 0 20) (s.useFree.modFix (fun f => { f with since := 0 }))))

/-- Records after which a signature follows at once: SEAL, GAP, and POWER of kind 3 (R294). -/
def signedType (ty : Nat) (body : Bytes) : Bool := ty == 0x08 || ty == 0x09 || (ty == 0x0B && u8At body 0 == 3)

/-- BODY of ODOMETER (R292). -/
def odometerBody (f : Fixer) : Bytes := leBytes 5 f.metres ++ zeros 1 ++ leBytes 2 f.k

/-- Buffer slots a record needs with the signature it brings. -/
def slotsFor (ty : Nat) (body : Bytes) : Nat := if signedType ty body then 4 else 1

/-- The record fits in the slots left to records other than the GAP (R296). -/
def fits (ty : Nat) (body : Bytes) (f : Fixer) : Bool := decide (f.buffer.length + slotsFor ty body ≤ 3068)

/-- The pending GAP changed (R296). -/
def Fixer.lose (f : Fixer) (g : GapAcc → GapAcc) : Fixer := { f with gap := some (g (f.gap.getD {})) }

/-- A record that is not kept is counted once in the pending GAP (R296). -/
def countLost (s : State) : State := s.modFix (fun f => f.lose (fun g => { g with records := satAdd 0xFFFF g.records 1 }))

/-- A record and what it brings: its own signature, or the ODOMETER record with the periodic signature once 1,439 have been
made since the last one. An ODOMETER record for which the reserve has no room is not made, and counted once (R292, R294, R296). -/
def chainWith (ty : Nat) (body : Bytes) (s : State) : State :=
  let s1 := chainRec ty body s
  if signedType ty body then signature s1
  else if s1.fix.since = 1439 then
    if s1.fix.buffer.length + 4 ≤ 3068 then signature (chainRec 0x03 (odometerBody s1.fix) s1) else countLost s1
  else s1

/-- A record other than ACTIVITY and GAP is made, or counted when the reserve is exhausted (R296). -/
def makeRec (ty : Nat) (body : Bytes) (s : State) : State :=
  if fits ty body s.fix then chainWith ty body s else countLost s

/-! ### Events of the F die -/

/-- A FIXER_EVENT is raised, queued and sent at once; a full queue of 256 loses its oldest (R305, R507). -/
def fixEvent (src code : Nat) (data : Bytes) (s : State) : State :=
  let q := tget s.ev.seqs src
  let r : EvRec := { stamp := s.fix.clock, tag := tagOf 3 src q, code, data := (data ++ zeros 12).take 12 }
  let s1 := s.modEv (fun e => { e with seqs := tmod e.seqs src (fun n => wrapAdd 16 n 1) })
  toMaster (.event r) (s1.modFix (fun f =>
    if f.events.length < 256 then { f with events := f.events ++ [r] }
    else { f with events := f.events.drop 1 ++ [r], dropped := satAdd 0xFFFF f.dropped 1 }))

/-- A record and the event that has it behind it; a record that is not made brings no event (R296, R507). -/
def recEvent (ty : Nat) (body : Bytes) (src code : Nat) (data : Bytes) (s : State) : State :=
  if fits ty body s.fix then fixEvent src code data (makeRec ty body s) else makeRec ty body s

/-- Bits are programmed, and high records written, until the counter stands at `n`; it never decreases (R277). -/
def Unary.raise (u : Unary) (n : Nat) : Unary := if u.value < n then { high := n / 256, set := n % 256 } else u

/-- A seal event (R298, R302). -/
def sealEvent (cause slot : Nat) (s : State) : State :=
  let u := s.fix.seals.raise (satAdd 0xFFFFFFFF s.fix.seals.value 1)
  let n := u.value
  let body := leBytes 4 n ++ leBytes 1 cause ++ leBytes 1 slot ++ zeros 2
  (recEvent 0x08 body 0x100 0x0901 (body.take 6) (s.modFix (fun f => { f with seals := u }))).modLane
    (fun l => { l with strobe := true })

/-! ### Minutes -/

/-- Activity code of a card now (R292). -/
def Card.code (c : Card) : Nat :=
  if c.info.state ≠ 2 then 0 else if c.info.role = 2 then 3 else if c.driven then 2 else 1

/-- The minute's slot activity takes up the codes that hold now (R292). -/
def Fixer.noteCards (f : Fixer) : Fixer :=
  { f with minute := { f.minute with act := List.zipWith max f.minute.act (f.cards.toList.map Card.code) } }

/-- A new minute begins: the activity codes tell of the distance of this minute (R292). -/
def Fixer.newMinute (f : Fixer) : Fixer :=
  let cs := f.cards.map (fun (c : Card) => { c with driven := false })
  { f with cards := cs, minute := { from_ := f.metres, act := cs.toList.map Card.code } }

/-- BODY of the ACTIVITY record of the minute in progress (R292). -/
def activityBody (f : Fixer) : Bytes :=
  let d := f.metres - f.minute.from_
  leBytes 2 (min d 0xFFFF) ++ leBytes 1 f.minute.vmax ++ leBytes 1 (min 0xFF ((6 * d + 50) / 100)) ++
    leBytes 1 (f.minute.act.getD 0 0 + 4 * f.minute.act.getD 1 0) ++ leBytes 1 f.minute.flags ++
    leBytes 1 f.driver.1 ++ leBytes 1 f.minute.glitches

/-- The minute in progress closes with its ACTIVITY record; from 3,008 buffered records on, and while a GAP is pending, its
metres join the GAP (R292, R296). -/
def closeMinute (s : State) : State :=
  let f := s.fix
  let s1 :=
    if f.gap.isSome ∨ 3008 ≤ f.buffer.length then
      s.modFix (fun f => f.lose (fun g => { g with
        minutes := satAdd 0xFFFE g.minutes 1, metres := satAdd 0xFFFFFFFF g.metres (f.metres - f.minute.from_) }))
    else makeRec 0x02 (activityBody f) s
  s1.modFix Fixer.newMinute

/-- BODY of a GAP (R292). -/
def gapBody (g : GapAcc) : Bytes := leBytes 2 g.minutes ++ leBytes 2 g.records ++ leBytes 4 g.metres

/-- The pending GAP record is made, with its signature and event 0x0906 (R296, R305). -/
def makeGap (g : GapAcc) (s : State) : State :=
  fixEvent 0x100 0x0906 (gapBody g) (chainWith 0x09 (gapBody g) (s.modFix (fun f => { f with gap := none })))

/-! ### Buffer and transfer -/

/-- H of the last chained record among some, or the value before them. -/
def lastHash (h0 : Bytes) : List (Nat × Bytes × Bytes) → Bytes
  | [] => h0
  | (_, _, h) :: rs => lastHash (if h.isEmpty then h0 else h) rs

/-- TAIL_SEQ advances: the confirmed records leave the buffer, a chain-head slot is written, and a pending GAP is made
(R295, R296). -/
def advanceTail (tail : Nat) (s : State) : State :=
  if tail = 0xFFFFFFFF ∨ (s.fix.tail ≠ 0xFFFFFFFF ∧ tail ≤ s.fix.tail) then s
  else
    let done := s.fix.buffer.filter (fun r => decide (r.1 ≤ tail))
    let s1 := s.modFix (fun f =>
      let h := lastHash f.tailH done
      { f with buffer := f.buffer.filter (fun r => decide (tail < r.1)), tail, tailH := h, heads := ((tail, h, f.clock) :: f.heads).take 512 })
    match s1.fix.gap with
    | some g => makeGap g s1
    | none => s1

/-- Every buffered record above TAIL_SEQ goes out again in SEQ order (R295). -/
def resendRecords (s : State) : State := s.fix.buffer.foldl (fun t r => toMaster (.record r.1 r.2.1) t) s

/-- Every unconfirmed FIXER_EVENT goes out again (R507). -/
def resendEvents (s : State) : State := s.fix.events.foldl (fun t r => toMaster (.event r) t) s

/-- Distance, with the 100 m units of the F store (R277). -/
def Fixer.countUnits (f : Fixer) : Fixer := { f with distance := f.distance.raise (f.dist / 100000) }

end Sys2Proof.Machine
end

