-- ==== Sys2Proof/Machine/FixClock.lean ====
section
/-! DEFINITION. The Fixer clock and what runs on it: its advance and slew (R283, R285, R491), pulses and distance (R275–R277),
speed and its ring (R278, R279), minutes (R286, R292). -/

namespace Sys2Proof.Machine

/-! ### The clock -/

/-- The clock has come to `stamp`; a backward slew takes 1 in 99 of the way (R285). -/
def Fixer.goTo (f : Fixer) (stamp : Nat) : Fixer :=
  if stamp ≤ f.clock then f
  else { f with clock := stamp, slew := f.slew - (stamp - f.clock) * 100 / 99 }

/-- `n` periods of XM: 2¹⁵ LSB each, corrected for temperature, less 1 % while a backward slew runs (R283, R285, R491). -/
def Fixer.run (f : Fixer) (n : Nat) : Fixer :=
  let taken := min f.slew (n * 32768)
  let t : Int := (f.rem : Int) + (n * 32768 : Nat) * (1000000000 + f.trim) * 100 - (taken * 1000000000 : Nat)
  { f with clock := f.clock + (t / 100000000000).toNat, rem := (t % 100000000000).toNat, slew := f.slew - taken }

/-- The F die runs, and `k` runs at the stamp one of its timers falls due: its clock goes there, unless a second or a minute
closes before. -/
def fixDue (due : Nat) (s : State) (k : State → State) : State :=
  if s.fix.running = true ∧ (due ≤ s.fix.clock ∨ (due ≤ s.fix.nextSec ∧ due ≤ s.fix.nextMin)) then
    k (s.modFix (fun f => f.goTo due))
  else s

/-- First whole second after a stamp (R278). -/
def secAfter (c : Nat) : Nat := (c / oneSec + 1) * oneSec
/-- First whole minute after a stamp (R292). -/
def minAfter (c : Nat) : Nat := (c / (60 * oneSec) + 1) * (60 * oneSec)

/-- Samples join the speed ring, the newest first; it holds 86,400 (R279). -/
def Fixer.ringPut (f : Fixer) (l : Bytes) : Fixer := { f with ring := (l ++ f.ring).take 86400 }

/-- The seconds passed over until the present clock read "no data", and the next second and minute are those after it
(R279, R286). -/
def Fixer.skipTo (f : Fixer) : Fixer :=
  let n := secAfter f.clock
  { f.ringPut (List.replicate (min 86400 ((n - f.nextSec) / oneSec)) 0xFD) with nextSec := n, nextMin := minAfter f.clock }

/-! ### Pulses -/

/-- A card's "distance while inserted", and the minute's activity codes, after a pulse (R292). -/
def Fixer.drove (f : Fixer) : Fixer :=
  { f with cards := f.cards.map (fun (c : Card) => if c.present then { c with driven := true } else c) }.noteCards

/-- A pulse counts for distance: one stamped before the last change of k with the old k (R276). -/
def Fixer.count (f : Fixer) (stamp : Nat) : Fixer :=
  match f.kChange with
  | some c =>
    if stamp < c.edge then { f with
      kChange := some { c with pulses := c.pulses + 1 }
      m0 := c.m0 + (c.pulses + 1) * 1000000 / c.k
      edges := (stamp, c.k) :: f.edges }
    else { f with pulses := f.pulses + 1, edges := (stamp, f.k) :: f.edges }
  | none => { f with pulses := f.pulses + 1, edges := (stamp, f.k) :: f.edges }

/-- An accepted rising edge (R274, R275–R277). -/
def Fixer.pulse (f : Fixer) (stamp : Nat) : Fixer :=
  let g := f.count stamp
  { g with total := g.total + 1 }.countUnits.drove

/-- MS_PULSE_EDGE: a rising edge at `stamp` whose high level lasts `highUs` (R275). -/
def execMsPulseEdge (stamp highUs : Nat) (s : State) : Out :=
  .next (if s.fix.running = false ∨ s.fix.nextSec ≤ stamp ∨ s.fix.nextMin ≤ stamp ∨
      (s.fix.edges.any (fun e => decide (stamp ≤ e.1))) then s
    else if highUs < s.fix.val 1 then
      s.modFix (fun f => let g := f.goTo stamp
        { g with minute := { g.minute with glitches := satAdd 0xFF g.minute.glitches 1 } })
    else
      let src := 0x101 + s.fix.total % 2
      (s.modEv (fun e => { e with seqs := tmod e.seqs src (fun n => wrapAdd 16 n 1) })).modFix
        (fun f => (f.goTo stamp).pulse stamp))

/-! ### Speed -/

/-- Speed in 0.01 km/h over a distance of Σ 1/k driven in `dt` LSB: 3,600 × km / s, 0 below 1 km/h, to the nearest 0.01
(R278); `num / den` is the distance in km. -/
def speedOf (num den dt : Nat) : Nat :=
  let n := 3600 * 2 ^ 30 * num
  let d := den * dt
  if n < d then 0 else (200 * n + d) / (2 * d)

/-- Distance of some periods in km, as a fraction (R276, R278). -/
def kmOf : List (Nat × Nat) → Nat × Nat
  | [] => (0, 1)
  | e :: es => let r := kmOf es
    if e.2 = r.2 then (r.1 + 1, r.2) else if r.1 = 0 then (1, e.2) else (r.1 * e.2 + r.2, r.2 * e.2)

/-- speed(s) of R278 over the window of one second before `sec`; none while not yet valid. -/
def Fixer.speedAt (f : Fixer) (sec : Nat) : Option Nat :=
  if f.total < 3 then none
  else
    let es := f.edges.filter (fun e => decide (e.1 < sec))
    let inE := es.filter (fun e => decide (sec - oneSec ≤ e.1))
    match inE, es with
    | l :: l2 :: ls, _ =>
      let first := ((l2 :: ls).getLastD l2).1
      let km := kmOf ((l :: l2 :: ls).dropLast)
      some (speedOf km.1 km.2 (l.1 - first))
    | _, a :: b :: _ =>
      let gone := a.1 - b.1
      let open_ := sec - a.1
      some (if open_ ≤ gone then speedOf 1 a.2 gone else speedOf 1 f.k open_)
    | _, _ => none

/-- The byte of the speed ring (R278, R279). -/
def Fixer.ringByte (f : Fixer) : Option Nat → Nat
  | none => 0xFF
  | some v => if f.val 2 * 100 < v then 0xFE else min 250 ((v + 50) / 100)

/-- A whole second: the sample is taken, and the minute notes it (R278, R279, R292). -/
def Fixer.second (f : Fixer) : Fixer :=
  let sec := f.nextSec
  let v := f.speedAt sec
  let b := f.ringByte v
  let old := f.edges.filter (fun e => decide (e.1 < sec))
  let g := f.ringPut [BitVec.ofNat 8 b]
  { g with
    speed := v
    nextSec := sec + oneSec
    edges := f.edges.filter (fun e => decide (sec ≤ e.1)) ++ old.take 2
    minute := { f.minute with
      flags := f.minute.flags ||| (if b = 0xFF then 1 else if b = 0xFE then 2 else 0)
      vmax := if b ≤ 250 then (if f.minute.vmax = 0xFF then b else max f.minute.vmax b) else f.minute.vmax } }

/-- SPEED_SAMPLE (R278). -/
def execSpeedSample (s : State) : Out :=
  .next (if s.fix.nextMin < s.fix.nextSec then s else fixDue s.fix.nextSec s (fun t => t.modFix Fixer.second))

/-- ACTIVITY_RECORD: a whole minute closes after the sample of its last second (R292). -/
def execActivityRecord (s : State) : Out :=
  .next (if s.fix.nextSec < s.fix.nextMin then s
    else fixDue s.fix.nextMin s (fun t =>
      let t1 := if t.fix.nextSec = t.fix.nextMin then t.modFix Fixer.second else t
      (closeMinute t1).modFix (fun f => { f with nextMin := f.nextMin + 60 * oneSec })))

/-! ### Adjustment -/

/-- A forward step: the minute in progress closes before it, and the seconds passed over hold no data (R285, R286). -/
def stepClock (d : Nat) (s : State) : State :=
  (closeMinute s).modFix (fun f => ({ f with clock := f.clock + d }).skipTo)

/-- A, LSB (R285). -/
def Fixer.allowance (f : Fixer) : Nat :=
  60 * oneSec - ((f.spent.filter (fun p => decide (f.clock < p.1 + 604800 * oneSec))).map (·.2)).sum

/-- FIXER_SLEW_END: the whole DELTA has been taken (R285). -/
def execFixerSlewEnd (s : State) : Out :=
  .next (if s.fix.slew = 0 then s
    else fixDue (s.fix.clock + (s.fix.slew * 99 + 99) / 100) s (fun t => t.modFix (fun f => { f with slew := 0 })))

/-- XM_TEMP_CORRECTION: the temperature is measured and the parabola about 25 °C is corrected (R491). -/
def execXmTempCorrection (temp : Int) (s : State) : Out :=
  .next (fixDue s.fix.trimAt s (fun t => t.modFix (fun f =>
    { f with temp, trim := 34 * ((temp - 250) * (temp - 250)) / 100, trimAt := f.trimAt + 10 * oneSec })))

end Sys2Proof.Machine
end

