-- ==== Sys2Proof/Machine/FixSensor.lean ====
section
/-! DEFINITION. The motion-sensor link of the F die (R280–R282): CHECK, COUNT and PAIR, and the judgement of a check. -/

namespace Sys2Proof.Machine

/-- The motion-sensor link changed. -/
def State.modMotion (s : State) (g : Motion → Motion) : State := s.modFix (fun f => { f with motion := g f.motion })

/-- A frame with its CRC (R280). -/
def msFrame (b : Bytes) : Bytes := b ++ leBytes 1 (crc8 b)

/-- CHECK goes out with a fresh nonce as the `n`th try, after the bytes `before` (R280–R282). -/
def sendCheck (n : Nat) (before : Bytes) (s : State) : State :=
  let nonce := padTo 8 ((Config.freeBytes s.free).take 8)
  s.useFree.modMotion (fun m => { m with
    check := some (nonce, n, s.fix.clock), sent := before ++ msFrame (0x5A :: nonce) })

/-- A SENSOR record and its event (R292, R305). -/
def sensorRec (kind : Nat) (diff : Int) (id : Nat) (s : State) : State :=
  let body := leBytes 1 kind ++ zeros 1 ++ leBytes 2 (unsext 16 (max (-32768) (min 32767 diff))) ++ leBytes 4 id
  recEvent 0x0A body 0x100 0x0903 body s

/-- A check fails: record and event, and the minute's flag [2]; a pairing it had to confirm is dropped (R281, R282). -/
def checkFails (kind : Nat) (diff : Int) (s : State) : State :=
  let m := s.fix.motion
  let id := match m.pairing with
    | some p => p.1
    | none => ((m.paired.map (·.1)).getD 0)
  let s1 := s.modMotion (fun m => match m.pairing with
    | some _ => { m with check := none, pairing := none }
    | none => { m with check := none, passed := false, failed := true })
  let s2 := if m.pairing.isSome then s1
    else s1.modFix (fun f => { f with minute := { f.minute with flags := f.minute.flags ||| 4 } })
  sensorRec kind diff id s2

/-- SENSOR_CHECK: a period after the one before it was sent; those that VFB or a step of the clock has passed over are not made up
for (R281). -/
def execSensorCheck (s : State) : Out :=
  .next (if s.fix.motion.paired = none ∨ s.fix.onVfb = true ∨ s.fix.motion.check ≠ none then s
    else fixDue s.fix.motion.next s (fun t =>
      sendCheck 1 [] (t.modMotion (fun m => { m with next := t.fix.clock + t.fix.val 3 * oneSec }))))

/-- Pulses accepted before a stamp (R281). -/
def Fixer.pulsesBefore (f : Fixer) (stamp : Nat) : Nat := f.total - (f.edges.filter (fun e => decide (stamp ≤ e.1))).length

/-- A valid COUNT is judged (R281, R282). -/
def judgeCount (nonce : Bytes) (stamp : Nat) (b : Bytes) (s : State) : State :=
  let m := s.fix.motion
  let id := beNat (slice b 1 4)
  let count := beNat (slice b 5 4)
  let key := match m.pairing with
    | some p => some p
    | none => m.paired
  let n := s.fix.pulsesBefore stamp
  match key with
  | none => s
  | some (want, kp) =>
    if id ≠ want ∨ (cmac kp (nonce ++ slice b 1 8)).take 8 ≠ slice b 9 8 then checkFails 3 0 s
    else if m.pairing.isSome then
      sensorRec 0 0 want (s.modMotion (fun m => { m with
        paired := some (want, kp), pairing := none, check := none, base := some (count, n), passed := true, failed := false
        next := if m.paired.isNone then s.fix.clock + s.fix.val 3 * oneSec else m.next }))
    else
      let diff : Int := match m.base with
        | none => 0
        | some (c0, n0) => ((count + 2 ^ 32 - c0 % 2 ^ 32) % 2 ^ 32 : Nat) - (n - n0 : Nat)
      if (s.fix.val 4 : Int) < diff ∨ diff < -(s.fix.val 4 : Int) then checkFails 2 diff s
      else
        let s1 := s.modMotion (fun m => { m with check := none, base := some (count, n), passed := true, failed := false })
        if m.failed then sensorRec 1 0 want s1 else s1

/-- SENSOR_COUNT: a frame arrives within 20 ms of the CHECK; one that is no valid COUNT leaves the CHECK unanswered
(R280, R281). -/
def execSensorCount (c : SensorFrame) (s : State) : Out :=
  .next (match s.fix.motion.check with
    | none => s
    | some (nonce, _, sent) =>
      if s.fix.running = false ∨ c.stamp < sent ∨ sent + lsbOfMs 20 < c.stamp ∨ c.bytes.length ≠ 18 ∨
          u8At c.bytes 0 ≠ 0xA5 ∨ u8At c.bytes 17 ≠ crc8 (c.bytes.take 17) then s
      else fixDue c.stamp s (judgeCount nonce c.stamp c.bytes))

/-- SENSOR_REPLY_TIMEOUT: no COUNT within 20 ms; the third try fails the check (R280–R282). -/
def execSensorReplyTimeout (s : State) : Out :=
  .next (match s.fix.motion.check with
    | none => s
    | some (_, n, sent) =>
      fixDue (sent + lsbOfMs 20) s (fun t =>
        if n < 3 then sendCheck (n + 1) [] t else checkFails (if t.fix.motion.pairing.isSome then 3 else 4) 0 t))

/-- A pairing is applied: PAIR and one CHECK under the new key go out; on VFB, where MS_DATA is idle, the pairing fails
(R272, R282). -/
def startPairing (id : Nat) (kp blob : Bytes) (s : State) : State :=
  let s1 := s.modMotion (fun m => { m with pairing := some (id, kp) })
  if s.fix.onVfb then checkFails 3 0 s1 else sendCheck 1 (msFrame (0x3C :: blob)) s1

end Sys2Proof.Machine
end

