-- ==== Sys2Proof/Machine/FixLink.lean ====
section
/-! DEFINITION. The two transmission protocols of the card interfaces (R288), as ISO/IEC 7816-3 gives them (log entry 206): the
headers and procedure bytes of T = 0, the blocks of T = 1. Both take command APDUs and give response APDUs. -/

namespace Sys2Proof.Machine

/-- What an exchange does with the bytes that have come from the card. -/
inductive LinkOut where
  /-- More bytes are awaited. -/
  | wait (l : CardLink)
  /-- Bytes go out to the card, which then answers. -/
  | send (b : Bytes) (l : CardLink)
  /-- The response APDU is complete. -/
  | done (b : Bytes) (l : CardLink)
  /-- The card has broken its protocol: a card error (R288, R304). -/
  | bad
  deriving DecidableEq, Repr, Inhabited

/-- Exclusive or of some bytes. -/
def xorSum (b : Bytes) : Byte := b.foldl (· ^^^ ·) 0

/-! ### T = 0 -/

/-- A byte count that one byte gives: 0 stands for 256. -/
def count256 (n : Nat) : Nat := if n = 0 then 256 else n

/-- A command APDU as a T = 0 header and what follows it: without data P3 is 0 or counts the bytes awaited, with data it counts them,
and an Le after them is not sent. -/
def t0Start (apdu : Bytes) (l : CardLink) : Bytes × CardLink :=
  let data := if 5 < apdu.length then slice apdu 5 (u8At apdu 4) else []
  let head := padTo 5 (apdu.take 5)
  (head, { l with head, tx := data, rx := [], got := [], want := if apdu.length = 5 then count256 (u8At apdu 4) else 0 })

/-- The bytes of a T = 0 answer in turn: NULL, the procedure bytes that ask for all data or for one byte of it, and SW1 SW2. With
`own`, an exchange of the F die's own, SW1 61 fetches the response and SW1 6C repeats the header with the count it names. -/
def t0Scan (own : Bool) : Nat → Bytes → CardLink → LinkOut
  | 0, _, _ => .bad
  | _ + 1, [], l => .wait l
  | fuel + 1, b :: r, l =>
    let ins := l.head.getD 1 0
    if b = 0x60 then t0Scan own fuel r l
    else if b = ins ∨ b = ins ^^^ 0xFF then
      let k := if b = ins then 256 else 1
      if l.tx ≠ [] then (if r = [] then .send (l.tx.take k) { l with tx := l.tx.drop k, rx := [] } else .bad)
      else
        let n := min k l.want
        if r.length < n then .wait l
        else t0Scan own fuel (r.drop n) { l with got := l.got ++ r.take n, want := l.want - n }
    else if b.toNat / 16 = 6 ∨ b.toNat / 16 = 9 then
      match r with
      | [] => .wait l
      | [sw2] =>
        if own = true ∧ b = 0x61 then
          let h : Bytes := [0x00, 0xC0, 0x00, 0x00, sw2]
          .send h { l with head := h, want := count256 sw2.toNat, rx := [], tx := [] }
        else if own = true ∧ b = 0x6C then
          let h := l.head.take 4 ++ [sw2]
          .send h { l with head := h, want := count256 sw2.toNat, rx := [], tx := [] }
        else .done (l.got ++ [b, sw2]) { l with rx := [], tx := [], got := [] }
      | _ => .bad
    else .bad

/-- The card has answered under T = 0: what has come since the last sending is read from its beginning. -/
def t0Reply (own : Bool) (b : Bytes) (l : CardLink) : LinkOut :=
  match t0Scan own (l.rx.length + b.length + 1) (l.rx ++ b) l with
  | .wait _ => .wait { l with rx := l.rx ++ b }
  | o => o

/-! ### T = 1 -/

/-- Epilogue of a block: LRC, or CRC where the card declares it (R288). -/
def edc (crc : Bool) (b : Bytes) : Bytes := if crc then leBytes 2 (crcT1 b) else [xorSum b]

/-- A block of the F die: NAD 0, PCB, LEN, INF and the epilogue. -/
def t1Block (l : CardLink) (pcb : Nat) (inf : Bytes) : Bytes :=
  let b : Bytes := leBytes 1 0 ++ leBytes 1 pcb ++ leBytes 1 inf.length ++ inf
  b ++ edc l.crc b

/-- The next information block: up to IFSC bytes, with the more-data bit while others follow. -/
def t1Info (l : CardLink) : Bytes :=
  t1Block l (b1 l.ns 6 + b1 (decide (l.ifsc < l.tx.length)) 5) (l.tx.take l.ifsc)

/-- A receive-ready block: what it acknowledges, with an error code. -/
def t1Ready (l : CardLink) (err : Nat) : Bytes := t1Block l (0x80 + b1 l.nr 4 + err) []

/-- The request that sets IFSD to 254 (R288). -/
def t1Ifs (l : CardLink) : Bytes := t1Block l 0xC1 [0xFE]

/-- A command APDU under T = 1. -/
def t1Start (apdu : Bytes) (l : CardLink) : Bytes × CardLink :=
  let m := { l with tx := apdu, rx := [], got := [], open_ := true, tries := 0 }
  (t1Info m, m)

/-- A wrong block: a receive-ready block asks for it again, twice at most. -/
def t1Wrong (err : Nat) (l : CardLink) : LinkOut :=
  if l.tries < 2 then .send (t1Ready l err) { l with rx := [], tries := l.tries + 1 } else .bad

/-- An information block with the number awaited: it acknowledges the command; with the more-data bit the next one is asked for,
otherwise the response is complete. -/
def t1Data (more : Bool) (inf : Bytes) (l : CardLink) : LinkOut :=
  let m := { l with
    rx := [], tries := 0, nr := !l.nr, got := l.got ++ inf, tx := [], open_ := false, ns := if l.open_ then !l.ns else l.ns }
  if more then .send (t1Ready m 0) m else .done m.got { m with got := [] }

/-- A receive-ready block: it acknowledges an information block of a chain, whose next one follows, or asks for the last again. -/
def t1Acked (nr : Bool) (l : CardLink) : LinkOut :=
  if l.open_ = true ∧ nr ≠ l.ns ∧ l.ifsc < l.tx.length then
    let m := { l with rx := [], tries := 0, tx := l.tx.drop l.ifsc, ns := nr }
    .send (t1Info m) m
  else if 2 ≤ l.tries then .bad
  else .send (if l.open_ then t1Info l else t1Ready l 0) { l with rx := [], tries := l.tries + 1 }

/-- A supervisory block: the response to IFSD, a request to change IFSC or to extend the waiting time; the others end the
exchange. -/
def t1Super (pcb : Nat) (inf : Bytes) (l : CardLink) : LinkOut :=
  if pcb = 0xE1 ∧ inf = [0xFE] ∧ l.open_ = false ∧ l.got = [] then .done [] { l with rx := [], tries := 0 }
  else if pcb = 0xC1 ∧ inf.length = 1 ∧ 1 ≤ u8At inf 0 ∧ u8At inf 0 ≤ 254 then
    .send (t1Block l 0xE1 inf) { l with rx := [], ifsc := u8At inf 0 }
  else if pcb = 0xC3 ∧ inf.length = 1 then .send (t1Block l 0xE3 inf) { l with rx := [] }
  else .bad

/-- The card has answered under T = 1. -/
def t1Reply (b : Bytes) (l : CardLink) : LinkOut :=
  let r := l.rx ++ b
  let n := 3 + u8At r 2 + (if l.crc then 2 else 1)
  if r.length < 3 ∨ r.length < n then .wait { l with rx := r }
  else
    let body := r.take (3 + u8At r 2)
    let pcb := u8At r 1
    let inf := body.drop 3
    if r.length ≠ n ∨ u8At r 2 = 255 then t1Wrong 2 l
    else if r.drop body.length ≠ edc l.crc body then t1Wrong 1 l
    else if pcb < 0x80 then
      (if pcb.testBit 6 = l.nr ∧ (l.open_ = true → l.tx.length ≤ l.ifsc) then t1Data (pcb.testBit 5) inf l else t1Wrong 2 l)
    else if pcb < 0xC0 then t1Acked (pcb.testBit 4) l
    else t1Super pcb inf l

end Sys2Proof.Machine
end

