-- ==== Sys2Proof/Machine/FixCard.lean ====
section
/-! DEFINITION. The two card interfaces of the F die (R288–R290, R302): activation, the authentication of a card, the
workshop session, and forwarded APDUs. -/

namespace Sys2Proof.Machine

/-! ### The answer to reset (ISO/IEC 7816-3) -/

/-- What the F die reads out of an ATR. -/
structure Atr where
  /-- TA1. -/
  ta1 : Option Nat := none
  /-- IFSC, the first TA for T = 1. -/
  ifsc : Nat := 32
  /-- The first TC for T = 1 declares CRC. -/
  crc : Bool := false
  /-- TA2 is present: specific mode. -/
  specific : Bool := false
  /-- The T values of the TD bytes, in order. -/
  ts : List Nat := []
  /-- Class indicator of T = 15. -/
  cls : Option Nat := none
  deriving DecidableEq, Repr, Inhabited

/-- Interface bytes of an ATR from group `i` on: which follow (Y), for which T, and the bytes after them. -/
def atrGroups : Nat → Nat → Nat → Nat → Bytes → Atr → Option (Atr × Bytes)
  | 0, _, _, _, _, _ => none
  | fuel + 1, i, y, t, b, a =>
    let k := (setBits 4 y).length
    let ta := u8At b 0
    let td := u8At b (k - 1)
    let hasTa := y.testBit 0
    let a1 : Atr := { a with
      ta1 := if i = 1 ∧ hasTa then some ta else a.ta1
      specific := a.specific || (i == 2 && hasTa)
      ifsc := if 3 ≤ i ∧ t = 1 ∧ hasTa ∧ a.ifsc = 32 then ta else a.ifsc
      crc := a.crc || (decide (3 ≤ i) && t == 1 && y.testBit 2 && (u8At b ((setBits 4 (y % 4)).length)).testBit 0)
      cls := if t = 15 ∧ hasTa ∧ a.cls = none then some (ta % 64) else a.cls }
    if b.length < k then none
    else if y.testBit 3 then atrGroups fuel (i + 1) (td / 16) (td % 16) (b.drop k) { a1 with ts := a1.ts ++ [td % 16] }
    else some (a1, b.drop k)

/-- A valid ATR: TS, interface bytes, historical bytes, and TCK where a protocol other than T = 0 is offered. -/
def parseAtr (b : Bytes) : Option Atr :=
  let t0 := u8At b 1
  match atrGroups 16 1 (t0 / 16) 0 (b.drop 2) {} with
  | none => none
  | some (a, rest) =>
    let tck := a.ts.any (· != 0)
    if (u8At b 0 = 0x3B ∨ u8At b 0 = 0x3F) ∧ rest.length = t0 % 16 + (if tck then 1 else 0) ∧
        (tck = false ∨ xorSum (b.drop 1) = 0) then some a else none

/-- F of FI; none where reserved. -/
def fiOf (n : Nat) : Option Nat :=
  [some 372, some 372, some 558, some 744, some 1116, some 1488, some 1860, none, none, some 512, some 768, some 1024,
    some 1536, some 2048, none, none].getD n none
/-- D of DI; none where reserved. -/
def diOf (n : Nat) : Option Nat := [none, some 1, some 2, some 4, some 8, some 16, some 32, some 64, some 12, some 20].getD n none
/-- fmax of FI, kHz. -/
def fmaxOf (n : Nat) : Nat := [4000, 5000, 6000, 8000, 12000, 16000, 20000, 0, 0, 5000, 7500, 10000, 15000, 20000].getD n 5000

/-- Fi, Di and fmax that an ATR offers, when the pair has a ratio of 16 or more (R288). -/
def Atr.rates (a : Atr) : Option (Nat × Nat × Nat) :=
  let v := a.ta1.getD 0x11
  match fiOf (v / 16), diOf (v % 16) with
  | some f, some d => if 16 * d ≤ f then some (f, d, fmaxOf (v / 16)) else none
  | _, _ => none

/-- The first protocol offered; T = 0 where none is named. -/
def Atr.proto (a : Atr) : Option Nat :=
  match a.ts.filter (· != 15) with
  | [] => some 0
  | t :: _ => if t ≤ 1 then some t else none

/-! ### Cards -/

/-- An interface changed. -/
def State.modCard (s : State) (n : Nat) (g : Card → Card) : State := s.modFix (fun f => { f with cards := tmod f.cards n g })
/-- An interface. -/
def State.card (s : State) (n : Nat) : Card := tget s.fix.cards n

/-- SOURCE of a slot's events (R96). -/
def cardSource (n : Nat) : Nat := 0x103 + n

/-- A CARD record and its event (R292, R305). -/
def cardRec (n kind role : Nat) (hash : Bytes) (s : State) : State :=
  let body := leBytes 1 n ++ leBytes 1 kind ++ leBytes 1 role ++ zeros 1 ++ padTo 4 (hash.take 4)
  recEvent 0x04 body (cardSource n) 0x0902 body s

/-- The strobe is raised (R273). -/
def raiseStrobe (s : State) : State := s.modLane (fun l => { l with strobe := true })

/-- A step of the authentication: the bytes sent to the card. -/
def cardSend (n : Nat) (step : CardStep) (b : Bytes) (s : State) : State := s.modCard n (fun c => { c with step, sent := b })

/-- What a command APDU sends to the card first, and the exchange it opens (R288). -/
def Card.command (c : Card) (b : Bytes) : Bytes × CardLink := if c.info.proto = 1 then t1Start b c.link else t0Start b c.link

/-- What the card's bytes mean to the exchange that runs; forwarded APDUs are the host's own (R288, R290). -/
def Card.heard (c : Card) (b : Bytes) : LinkOut :=
  if c.info.proto = 1 then t1Reply b c.link else t0Reply (c.step != .ready) b c.link

/-- A command APDU goes to the card by its protocol (R288). -/
def apduSend (n : Nat) (b : Bytes) (s : State) : State :=
  let x := (s.card n).command b
  s.modCard n (fun c => { c with link := x.2, sent := x.1 })

/-- A step of the authentication that is a command APDU. -/
def cardAsk (n : Nat) (step : CardStep) (b : Bytes) (s : State) : State := apduSend n b (s.modCard n (fun c => { c with step }))

/-- Activation in a class with a reset; the card owes its ATR (R288, R289). -/
def activate (n cls : Nat) (s : State) : State :=
  (cardSend n .atr [] s).modCard n (fun c => { c with
    cls, link := {}, info := { state := 1, cls, khz := 3750, inserted := c.info.inserted } })

/-- A card whose authentication runs beyond its ATR, or has begun before the present stamp. -/
def Card.busy (c : Card) (now : Nat) : Bool :=
  c.info.state == 1 && c.step != .waiting && !(c.step == .atr && c.info.inserted == now)

/-- The next authentication starts when none runs; cards inserted at once go in slot order (R302). -/
def nextAuth (s : State) : State :=
  if s.fix.cards.toList.any (fun c => c.busy s.fix.clock) then s
  else match (List.range 2).find? (fun n => (s.card n).info.state == 1) with
    | none => s
    | some n =>
      let m := 1 - n
      let s1 := if (s.card m).info.state = 1 then s.modCard m (fun c => { c with step := .waiting }) else s
      if (s1.card n).step = .waiting then activate n (if (s1.card n).reset.isSome then (s1.card n).cls else 2) s1 else s1

/-- Requests with the card or waiting for it end with a status (R289, R290, R303). -/
def endReqs (n st : Nat) (s : State) : State :=
  let c := s.card n
  let s1 := s.modCard n (fun c => { c with reqs := [], reset := none })
  let s2 := c.reqs.foldl (fun t r => answer r.1 (if r.2.isEmpty then St.fixerCardError else st) [] t) s1
  match c.reset with
  | some q => answer q St.fixerCardError [] s2
  | none => s2

/-- The card is deactivated (R288, R289): STATE 3. -/
def deactivate (n : Nat) (s : State) : State :=
  (s.modFix Fixer.noteCards).modCard n (fun c => { c with
    step := .idle, sent := [], info := { state := 3, hash := c.info.hash, inserted := c.info.inserted } })

/-- A step of the authentication fails: the card is deactivated and recorded (R289). -/
def authFails (n : Nat) (s : State) : State :=
  let h := (s.card n).info.hash
  nextAuth (cardRec n 2 0 h (endReqs n St.fixerCardError (deactivate n s)))

/-- No valid ATR, or one that excludes the class tried: class A follows class B, then the card fails (R288, R289). -/
def atrFails (n : Nat) (s : State) : State := if (s.card n).cls = 2 then activate n 1 s else authFails n s

/-- SELECT by AID (R289). -/
def apduAid : Bytes := [0x00, 0xA4, 0x04, 0x00, 0x07, 0xF0, 0x50, 0x52, 0x45, 0x4F, 0x52, 0x49]
/-- SELECT of EF 0xC100 (R289). -/
def apduEf : Bytes := [0x00, 0xA4, 0x02, 0x0C, 0x02, 0xC1, 0x00]
/-- READ BINARY of 164 bytes (R289). -/
def apduCert : Bytes := [0x00, 0xB0, 0x00, 0x00, 0xA4]

/-- Card clock after ATR and PPS, kHz (R288). -/
def cardClock (fmax : Nat) (f : Fixer) : Nat := min 5000 (min fmax (f.val 5))

/-- The transmission parameters are in force: under T = 1 IFSD is set to 254, then the application is selected (R288, R289). -/
def ratesSet (n fi di fmax proto : Nat) (s : State) : State :=
  let s1 := s.modCard n (fun c => { c with info := { c.info with fi, di, proto, khz := cardClock fmax s.fix } })
  if proto = 1 then cardSend n .ifs (t1Ifs (s1.card n).link) s1 else cardAsk n .selectAid apduAid s1

/-- An ATR arrives (R288, R289). -/
def takeAtr (n : Nat) (b : Bytes) (s0 : State) : State :=
  match parseAtr b with
  | none => atrFails n s0
  | some a =>
    let s := s0.modCard n (fun c => { c with link := { ifsc := a.ifsc, crc := a.crc } })
    if (s.card n).cls = 2 ∧ (a.cls.map (fun i => i.testBit 1)).getD true = false then activate n 1 s
    else match a.proto, a.rates with
      | some t, some (fi, di, fmax) =>
        if a.specific ∨ a.ta1.getD 0x11 = 0x11 then ratesSet n fi di fmax t s
        else
          let p : Bytes := [0xFF, BitVec.ofNat 8 (0x10 + t), BitVec.ofNat 8 (a.ta1.getD 0x11)]
          (cardSend n .pps (p ++ [xorSum p]) s).modCard n (fun c => { c with info := { c.info with fi, di, khz := fmax, proto := t } })
      | some t, none => if a.specific then authFails n s else ratesSet n 372 1 (fmaxOf 1) t s
      | none, _ => authFails n s

/-- A PPS response: the echo accepts the parameters; otherwise the card fails (R288, R289). -/
def takePps (n : Nat) (b : Bytes) (s : State) : State :=
  let c := s.card n
  if b = c.sent then ratesSet n c.info.fi c.info.di c.info.khz c.info.proto s else authFails n s

/-- A response APDU ends with SW 0x9000. -/
def swOk (b : Bytes) : Bool := b.drop (b.length - 2) == [0x90, 0x00]

/-- The certificate passes: role, signature by the card root and validity, the latter unless UNSET (R289). -/
def certOk (b : Bytes) (f : Fixer) : Bool :=
  (u8At b 16 == 1 || u8At b 16 == 2) && p256Verify cardRoot (sha256 (b.take 100)) (slice b 100 64) &&
    (f.unset || (decide (u64At b 20 ≤ f.clock) && decide (f.clock ≤ u64At b 28)))

/-- The certificate is read: it is verified and INTERNAL AUTHENTICATE follows with 16 random bytes (R289). -/
def takeCert (n : Nat) (b : Bytes) (s : State) : State :=
  let cert := b.take 164
  let s1 := s.modCard n (fun c => { c with cert, info := { c.info with hash := (sha256 (cert.take 16)).take 4 } })
  if b.length ≠ 166 ∨ swOk b = false then authFails n s
  else if certOk cert s.fix then
    let nonce := padTo 16 ((Config.freeBytes s.free).take 16)
    (cardAsk n .auth ([0x00, 0x88, 0x00, 0x00, 0x10] ++ nonce ++ [0x40]) s1.useFree).modCard n (fun c => { c with nonce })
  else authFails n s1

/-- The first request waiting for a card goes to it; one without an APDU is a warm reset, which re-runs the authentication
(R290, R304). -/
def serveCard (n : Nat) (s : State) : State :=
  match (s.card n).reqs with
  | [] => s.modCard n (fun c => { c with sent := [] })
  | (q, []) :: rest =>
    nextAuth ((s.modFix Fixer.noteCards).modCard n (fun c => { c with
      reqs := rest, step := .waiting, reset := some q
      info := { state := 1, hash := c.info.hash, inserted := c.info.inserted } }))
  | (_, b) :: _ => apduSend n b s

/-- The card passes: it is recorded, and a first workshop card opens the session (R289, R298). -/
def cardPasses (n : Nat) (s : State) : State :=
  let c := s.card n
  let role := u8At c.cert 16
  let had := s.fix.shop
  let s1 := (s.modCard n (fun c => { c with
    step := .ready, sent := [], info := { c.info with state := 2, role, shop := role == 2 } })).modFix Fixer.noteCards
  let s2 := cardRec n 0 role c.info.hash s1
  let s3 := if role = 2 ∧ had = false then sealEvent 1 n s2 else s2
  let s4 := match c.reset with
    | some q => answer q 0 [] (s3.modCard n (fun c => { c with reset := none }))
    | none => s3
  nextAuth (serveCard n s4)

/-- The card's signature over the nonce (R289). -/
def takeAuth (n : Nat) (b : Bytes) (s : State) : State :=
  let c := s.card n
  let msg := [0x46, 0x58, 0x41, 0x31] ++ c.nonce ++ leBytes 8 Config.fixerSerial.toNat
  if b.length = 66 ∧ swOk b = true ∧ p256Verify (slice c.cert 36 64) (sha256 msg) (b.take 64) = true then cardPasses n s
  else authFails n s

/-- The response to a forwarded APDU goes back, and the next one waiting is forwarded (R290). -/
def takeApdu (n : Nat) (b : Bytes) (s : State) : State :=
  match (s.card n).reqs with
  | [] => s
  | r :: rest => serveCard n (answer r.1 0 b (s.modCard n (fun c => { c with reqs := rest })))

/-- A response APDU is complete: the next step of the authentication, or the end of a forwarded APDU (R289, R290). -/
def cardAnswered (n : Nat) (b : Bytes) (s : State) : State :=
  match (s.card n).step with
  | .ifs => cardAsk n .selectAid apduAid s
  | .selectAid => if swOk b then cardAsk n .selectEf apduEf s else authFails n s
  | .selectEf => if swOk b then cardAsk n .readCert apduCert s else authFails n s
  | .readCert => takeCert n b s
  | .auth => takeAuth n b s
  | .ready => takeApdu n b s
  | _ => s

/-- A card error: the card is deactivated, and what it was doing fails (R288, R289, R304). -/
def cardError (n : Nat) (s : State) : State :=
  if (s.card n).step = .ready then nextAuth (deactivate n (endReqs n St.fixerCardError s)) else authFails n s

/-- The card answers under its protocol (R288). -/
def linkReply (n : Nat) (b : Bytes) (s : State) : State :=
  match (s.card n).heard b with
  | .wait l => s.modCard n (fun c => { c with link := l })
  | .send x l => s.modCard n (fun c => { c with link := l, sent := x })
  | .done r l => cardAnswered n r (s.modCard n (fun c => { c with link := l }))
  | .bad => cardError n s

/-- CARD_REPLY: the bytes that a card sends until it waits for the interface again (R288–R290). -/
def execCardReply (slot : Fin 2) (b : Bytes) (s : State) : Out :=
  let n := slot.val
  .next (if s.fix.running = false ∨ s.fix.onVfb = true then s
    else match (s.card n).step with
      | .idle | .waiting => s
      | .atr => takeAtr n b s
      | .pps => takePps n b s
      | .ready => if (s.card n).reqs = [] then s else linkReply n b s
      | _ => linkReply n b s)

/-- CARD_INSERTED: presence has held for 10 ms (R273, R289, R302). -/
def execCardInserted (slot : Fin 2) (s : State) : Out :=
  let n := slot.val
  .next (if s.fix.running = false ∨ s.fix.onVfb = true ∨ (s.card n).present = true then s
    else nextAuth (raiseStrobe (s.modCard n (fun _ =>
      { present := true, step := .waiting, info := { state := 1, inserted := s.fix.clock } }))))

/-- A card leaves: deactivation, record, strobe; what it was doing ends FIXER_CARD_REMOVED (R273, R289, R290). -/
def removeCard (n : Nat) (s : State) : State :=
  let c := s.card n
  let s1 := endReqs n St.fixerCardRemoved (s.modFix Fixer.noteCards)
  let s2 := s1.modCard n (fun _ => {})
  nextAuth (raiseStrobe (cardRec n 1 (if c.info.state = 2 then c.info.role else 0) c.info.hash s2))

/-- CARD_REMOVED (R289). -/
def execCardRemoved (slot : Fin 2) (s : State) : Out :=
  .next (if s.fix.running = true ∧ (s.card slot.val).present = true then removeCard slot.val s else s)

/-- CARD_WAITING_TIME_EXCEEDED: a card error; during the ATR class A is tried, otherwise the card is deactivated (R288,
R304). -/
def execCardWaitingTimeExceeded (slot : Fin 2) (s : State) : Out :=
  let n := slot.val
  .next (if s.fix.running = false ∨ s.fix.onVfb = true then s
    else match (s.card n).step with
      | .idle | .waiting => s
      | .atr => atrFails n s
      | .ready => if (s.card n).reqs = [] then s else cardError n s
      | _ => cardError n s)

/-- An APDU passes the allow-list: short, with one of five INS (R290). -/
def apduOk (b : Bytes) : Bool :=
  let lc := u8At b 4
  let short := b.length == 4 || b.length == 5 || (lc != 0 && (b.length == 5 + lc || b.length == 6 + lc))
  short && [0xA4, 0xB0, 0xB2, 0xC0, 0xCA].contains (u8At b 1)

/-- A request joins those of the card; the first is served at once, unless the F die's own exchanges with the card run (R290). -/
def joinCard (q n : Nat) (b : Bytes) (s : State) : State :=
  let s1 := s.modCard n (fun c => { c with reqs := c.reqs ++ [(q, b)] })
  if (s.card n).reqs.isEmpty && (s.card n).reset.isNone then serveCard n s1 else s1

/-- The slot holds an authenticated card, or one whose authentication a warm reset runs again (R290). -/
def Card.serves (c : Card) : Bool := c.info.state == 2 || c.reset.isSome

/-- A CARD_REQUEST with an APDU (R274, R290). -/
def cardApdu (q n : Nat) (b : Bytes) (s : State) : State :=
  if (s.card n).serves = false then answer q St.fixerCardAbsent [] s
  else if apduOk b then joinCard q n b s
  else answer q St.fixerCardDenied [] s

/-- A CARD_REQUEST for a warm reset (R274, R290, R304). -/
def cardReset (q n : Nat) (s : State) : State :=
  if (s.card n).serves = false then answer q St.fixerCardAbsent [] s
  else if (s.card n).info.role = 2 then answer q St.fixerCardDenied [] s
  else joinCard q n [] s

end Sys2Proof.Machine
end

