-- ==== Sys2Proof/Machine/FixLane.lean ====
section
/-! DEFINITION. The F die on the lane (R20, R274): what it does at a sync edge and for each request of the M die
(R150, R151, R284, R285, R295, R300); its supplies (R272), lid and mesh (R299) and start (R287, R297). -/

namespace Sys2Proof.Machine

/-! ### Read-back (R274, R304) -/

/-- `n` bytes whose values the spec leaves open. -/
def openBytes (n i : Nat) : Bytes := padTo n ((Config.freeBytes i).take n)

/-- Milliseconds of a signed span of epoch units. -/
def msOfInt (o : Int) : Int := o * 1000 / 2 ^ 30

/-- FLAGS of the status block (R304). -/
def Fixer.statusFlags (f : Fixer) : Nat :=
  b1 f.unset 0 + b1 (!f.kSet) 1 + b1 f.motion.paired.isSome 2 + b1 f.motion.passed 3 + b1 f.speed.isSome 4 + b1 f.shop 5 +
    b1 f.gap.isSome 6 + b1 f.onVfb 7

/-- The status block (R304); SPEED before it is valid and OFFSET_MS before the first usable sample are open. -/
def statusBlock (free : Nat) (f : Fixer) : Bytes :=
  leBytes 8 f.clock ++ leBytes 1 f.statusFlags ++ leBytes 1 (b1 (decide (0 < f.slew))) ++
    (match f.speed with | some v => leBytes 2 v | none => openBytes 2 free) ++ leBytes 2 f.k ++ zeros 2 ++
    leBytes 4 f.seals.value ++ leBytes 4 f.head ++ leBytes 4 f.tail ++ leBytes 2 f.buffer.length ++ zeros 2 ++
    leBytes 8 f.metres ++ (match f.offset with | some o => leBytes 4 (unsext 32 (msOfInt o)) | none => openBytes 4 (free + 1)) ++
    leBytes 4 (match f.drift with | some d => unsext 32 d | none => 0x80000000) ++ leBytes 4 (msOfLsb f.allowance) ++
    leBytes 4 ((f.motion.paired.map (·.1)).getD 0) ++ leBytes 4 (0x01000000 + Config.fixerBuild.toNat) ++
    leBytes 1 f.driver.1 ++ zeros 1 ++ leBytes 2 f.dropped

/-- Speed samples, oldest first, with their head (R279, R304). -/
def speedData (age count : Nat) (f : Fixer) : Bytes :=
  leBytes 8 (f.nextSec - (age + 1) * oneSec) ++ leBytes 4 count ++ zeros 4 ++
    ((List.range count).map (fun i => f.ring.getD (age + i) 0xFD)).reverse

/-- The 152-byte Fixer certificate (R304). -/
def fixerCertificate : Bytes :=
  leBytes 8 Config.fixerSerial.toNat ++ beBytes 64 Config.fixerPublicKey.toNat ++ leBytes 8 Config.fixerIssued.toNat ++ zeros 8 ++
    beBytes 64 Config.fixerSignature.toNat

/-- RECORD_READ (R274). -/
def recordRead (q sel first count : Nat) (s : State) : State :=
  let f := s.fix
  match sel with
  | 0 => if f.head < first then answer q St.fixerRange [] s
    else answer q 0 (((f.buffer.filter (fun r => decide (first ≤ r.1) && decide (r.1 < first + count))).map (·.2.1)).flatten) s
  | 1 => answer q 0 (speedData first count f) s
  | 2 => answer q 0 (statusBlock s.free f) s.useFree.useFree
  | _ => answer q 0 fixerCertificate s

/-! ### The clock compared and adjusted (R284, R285) -/

/-- ms per day of a change of offset over an age (R284). -/
def driftOf (d : Int) (age : Nat) : Int := d * 86400000 / age

/-- A usable sample (R284). -/
def takeSample (c : Nat) (o : Int) (s : State) : State :=
  let s1 := s.modFix (fun f => { f with samples := ((c, o) :: f.samples).take 1441, offset := some o })
  match s1.fix.samples.getLast? with
  | none => s1
  | some (c0, o0) =>
    let age := c - c0
    if age < 3600 * oneSec then s1.modFix (fun f => { f with drift := none })
    else
      let r := driftOf (o - o0) age
      let s2 := s1.modFix (fun f => { f with drift := some r })
      let quiet := match s.fix.lastDrift with
        | some t => decide (86400 * oneSec ≤ c - t)
        | none => true
      if 2 * age < (o - o0).natAbs * 86400 ∧ quiet = true then
        let body := leBytes 4 (unsext 32 r) ++ leBytes 4 (unsext 32 (msOfInt o))
        recEvent 0x07 body 0x100 0x0904 body (s2.modFix (fun f =>
          if fits 0x07 body f then { f with lastDrift := some c } else f))
      else s2

/-- EPOCH_SAMPLE acted on: comparison by the clock latched at its own sync edge, tail advance, records and events sent again, then
the answer (R284, R295, R507). A sample whose edge the F die has not seen compares nothing. -/
def epochSample (q epoch : Nat) (unset : Bool) (tail confirm : Nat) (s : State) : State :=
  let s1 := s.modFix (fun f => { f with
    adjusted := false, events := f.events.filter (fun r => decide (confirm < r.key))
    latches := f.latches.filter (fun x => decide (q < x.1)) })
  let s2 := match (if unset || s.fix.adjusted then none else assoc s.fix.latches q) with
    | some c => takeSample c ((c : Int) - epoch) s1
    | none => s1
  answer q 0 [] (resendEvents (resendRecords (advanceTail tail s2)))

/-- Response data of TIME_PROPOSE (R303). -/
def proposeData (result flags allow stamp : Nat) : Bytes :=
  leBytes 1 result ++ leBytes 1 flags ++ zeros 2 ++ leBytes 4 (msOfLsb allow) ++ leBytes 8 stamp

/-- DELTA combined with what is still to slew: a positive remainder is stepped, a negative one slewed (R285). -/
def adjust (delta : Int) (s : State) : State × Nat :=
  let net : Int := delta * 100 - s.fix.slew
  if net < 0 then (s.modFix (fun f => { f with slew := net.natAbs }), 1)
  else if net < 100 then (s.modFix (fun f => { f with slew := 0 }), 0)
  else (stepClock (net / 100).toNat (s.modFix (fun f => { f with slew := 0 })), 0)

/-- An accepted proposal (R285, R292, R305). -/
def acceptProposal (q : Nat) (delta : Int) (work beyond counted : Bool) (s : State) : State :=
  let at_ := s.fix.clock
  let was := s.fix.unset
  let a := adjust delta s
  let s1 := a.1.modFix (fun f => { f with
    unset := f.unset && !work, adjusted := true, samples := [], drift := none
    spent := if counted then f.spent ++ [(at_, delta.natAbs)] else f.spent })
  let fl := b1 work 0 + b1 (a.2 == 1) 1 + b1 beyond 2 + b1 was 3
  let s2 := recEvent 0x06 (leBytes 6 (unsext 48 (delta * 1000000 / 2 ^ 30)) ++ leBytes 1 fl) 0x100 0x0905
    (leBytes 8 (unsext 64 delta) ++ leBytes 1 fl) s1
  let s3 := if beyond then sealEvent 3 0xFF s2 else s2
  answer q 0 (proposeData a.2 (b1 beyond 0 + b1 work 1) s3.fix.allowance at_) s3

/-- A refused proposal: the response gives A, its other fields are open (R285). -/
def refuseProposal (q : Nat) (s : State) : State :=
  answer q St.fixerTimeLimit (openBytes 2 s.free ++ zeros 2 ++ leBytes 4 (msOfLsb s.fix.allowance) ++ openBytes 8 (s.free + 1))
    s.useFree.useFree

/-- TIME_PROPOSE by the first applicable row of R285. -/
def timePropose (q : Nat) (delta : Int) (flag : Bool) (s : State) : State :=
  let work := flag && s.fix.shop
  let beyond := decide (s.fix.allowance < delta.natAbs)
  if delta < -((3600 * oneSec : Nat) : Int) then refuseProposal q s
  else if work then acceptProposal q delta true beyond false s
  else if s.fix.unset = true ∧ 0 < delta then acceptProposal q delta false false false s
  else if beyond then refuseProposal q s
  else acceptProposal q delta false false true s

/-- TOKEN_IDENTITY: a DRIVER_TOKEN record when it differs from the last recorded; one that the reserve has no room for is not
recorded (R274, R292, R296, R302). -/
def tokenIdentity (q slot token : Nat) (s : State) : State :=
  if s.fix.driver = (slot, token) then answer q 0 [] s
  else
    let body := leBytes 1 slot ++ zeros 3 ++ leBytes 4 token
    answer q 0 [] (recEvent 0x05 body 0x100 0x0908 body (s.modFix (fun f =>
      if fits 0x05 body f then { f with driver := (slot, token) } else f)))

/-! ### Settings by exposure (R282, R300) -/

/-- The pairing object unwrapped: SENSOR_ID, K_P, SENSOR_BLOB (R282). -/
def unwrapPair (b : Bytes) : Option (Nat × Bytes × Bytes) :=
  (keyUnwrap transportKey (slice b 8 24)).map (fun k => (u32At b 0, k, slice b 32 40))

/-- EXPOSE_PREPARE (R300). -/
def fixPrepare (q : Nat) (items : List (Nat × Int)) (pair : Option Bytes) (gen instant ticket : Nat) (s : State) : State :=
  let ok := items.all (fun i => match rowOf 9 i.1 with
    | some r => r.ok 0 i.2
    | none => false)
  let pr := pair.map unwrapPair
  if s.fix.set.isSome then answer q St.fixerSetPending [] s
  else if s.fix.shop = false then answer q St.fixerNoWorkshop [] s
  else if ok = false ∨ pr = some none then answer q St.fixerSetting [] s
  else answer q 0 [] (s.modFix (fun f => { f with set := some { items, pair := pr.join, gen, instant, ticket } }))

/-- k changes at an edge: pulses before it count with the old k, later ones with the new (R276, R278). -/
def Fixer.changeK (f : Fixer) (k edge : Nat) : Fixer :=
  let late := (f.edges.filter (fun e => decide (edge ≤ e.1))).length
  { f with
    kChange := some { edge, k := f.k, pulses := f.pulses - late, m0 := f.m0 }
    m0 := f.m0 + (f.pulses - late) * 1000000 / f.k
    pulses := late
    edges := f.edges.map (fun e => if edge ≤ e.1 then (e.1, k) else e) }

/-- The armed set is applied at a stamp: settings, k, pairing, and one seal event (R276, R282, R298, R300). -/
def applySet (x : FixSet) (edge : Nat) (s : State) : State :=
  let s1 := s.modFix (fun f =>
    let k := match assoc x.items 0 with
      | some v => v.toNat
      | none => f.k
    let g := if k = f.k then f else f.changeK k edge
    { g with
      values := x.items.foldl (fun m (i : Nat × Int) => assocSet m i.1 i.2) f.values
      kSet := f.kSet || (assoc x.items 0).isSome
      set := none, applied := x.gen, appliedAt := edge }.countUnits)
  let s2 := sealEvent 2 0xFF s1
  match x.pair with
  | some (id, kp, blob) => startPairing id kp blob s2
  | none => s2

/-- EXPOSE_COMMIT: a prepared set is armed, an armed one applied, one already applied is left (R151, R300). A set that the F die
neither holds nor has applied cannot be armed: the request is refused with a status that the spec does not name and that is free
(log entry 194). -/
def fixCommit (q gen : Nat) (s : State) : State :=
  match s.fix.set with
  | none => if s.fix.applied = gen then answer q 0 [] s else answer q (1 + Config.freeNat s.free % 0xFFFF) [] s.useFree
  | some x =>
    if x.armed then
      let s1 := applySet x s.fix.clock s
      answer q 0 (leBytes 8 s1.fix.appliedAt) s1
    else if s.fix.shop then answer q 0 [] (s.modFix (fun f => { f with set := some { x with armed := true } }))
    else answer q St.fixerNoWorkshop [] s

/-! ### The rows -/

/-- The F die takes the request at the head of the lane when `k` takes it. -/
def serveLane (k : Nat → LaneReq → Option (State → State)) (s : State) : State :=
  match s.lane.toF with
  | [] => s
  | (q, r) :: rest =>
    match k q r with
    | some g => if s.fix.running then g (s.modLane (fun l => { l with toF := rest })) else s
    | none => s

/-- SYNC_EDGE: that of an EPOCH_SAMPLE latches the clock; an exposure's edge applies an armed set (R151, R284). -/
def execSyncEdge (stamp : Nat) (s : State) : Out :=
  .next (match s.lane.edges with
    | [] => s
    | e :: rest =>
      let s1 := s.modLane (fun l => { l with edges := rest })
      if s.fix.running = false then s1
      else fixDue stamp s (fun t =>
        let c := t.fix.clock
        let t1 := t.modLane (fun l => { l with edges := rest })
        match e with
        | .sample q => t1.modFix (fun f => { f with latches := (f.latches ++ [(q, c)]).take 16 })
        | .exposure => match t1.fix.set with
          | some x => if x.armed then applySet x c t1 else t1
          | none => t1))

/-- RECORD_READ (R274). -/
def execRecordRead (s : State) : Out :=
  .next (serveLane (fun q r => match r with | .recordRead sel a n => some (recordRead q sel a n) | _ => none) s)
/-- TIME_PROPOSE (R285). -/
def execTimePropose (s : State) : Out :=
  .next (serveLane (fun q r => match r with | .timePropose d w => some (timePropose q d w) | _ => none) s)
/-- TOKEN_IDENTITY (R274). -/
def execTokenIdentity (s : State) : Out :=
  .next (serveLane (fun q r => match r with | .tokenIdentity n t => some (tokenIdentity q n t) | _ => none) s)
/-- CARD_REQUEST (R290). -/
def execCardRequest (s : State) : Out :=
  .next (serveLane (fun q r => match r with
    | .cardApdu n b => some (cardApdu q n b)
    | .cardReset n => some (cardReset q n)
    | _ => none) s)
/-- EPOCH_SAMPLE, after the sync edge that belongs to it (R20, R284, R295). -/
def execEpochSample (s : State) : Out :=
  .next (serveLane (fun q r => match r with
    | .epochSample e u t c => if s.lane.edges.contains (.sample q) then none else some (epochSample q e u t c)
    | _ => none) s)
/-- EXPOSE_PREPARE (R300). -/
def execExposePrepare (s : State) : Out :=
  .next (serveLane (fun q r => match r with | .exposePrepare i p g t n => some (fixPrepare q i p g t n) | _ => none) s)
/-- EXPOSE_COMMIT (R300). -/
def execExposeCommit (s : State) : Out :=
  .next (serveLane (fun q r => match r with | .exposeCommit g => some (fixCommit q g) | _ => none) s)
/-- EXPOSE_ROLLBACK: a prepared or armed set is discarded; an applied one is left (R151, R476). -/
def execExposeRollback (s : State) : Out :=
  .next (serveLane (fun q r => match r with
    | .exposeRollback _ => some (fun t => answer q 0 [] (t.modFix (fun f => { f with set := none })))
    | _ => none) s)

/-- LANE_UNKNOWN_MESSAGE: a message of another type is discarded and counted (R20). -/
def execLaneUnknownMessage (_ : Byte) (s : State) : Out :=
  .next (if s.fix.running then s.modFix (fun f => { f with unknown := f.unknown + 1 }) else s)

/-! ### Supplies, lid, mesh and start -/

/-- A POWER record and its event (R272, R292, R305). -/
def powerRec (kind mv : Nat) (s : State) : State :=
  let body := leBytes 1 kind ++ zeros 1 ++ leBytes 2 mv ++ zeros 4
  recEvent 0x0B body 0x100 0x0907 body (s.modFix (fun f => { f with vfb := mv }))

/-- F_SUPPLY_TO_VFB: the card interfaces are deactivated, their presence contact losing its supply, and MS_DATA falls idle
(R272, R493). -/
def execFSupplyToVfb (mv : Nat) (s : State) : Out :=
  .next (if s.fix.running = false ∨ s.fix.onVfb = true then s
    else
      let s1 := powerRec 1 mv (s.modFix (fun f => { f with onVfb := true }))
      let s2 := (List.range 2).foldl (fun t n => if (t.card n).present then removeCard n t else t) s1
      if s2.fix.motion.pairing.isSome then checkFails 3 0 s2 else s2.modMotion (fun m => { m with check := none }))

/-- F_SUPPLY_TO_VFIX (R272). -/
def execFSupplyToVfix (mv : Nat) (s : State) : Out :=
  .next (if s.fix.running = true ∧ s.fix.onVfb = true then powerRec 2 mv (s.modFix (fun f => { f with onVfb := false })) else s)

/-- SUPPLY_LOSS_WARNING: the checkpoint slot is written (R272, R277). -/
def execSupplyLossWarning (s : State) : Out :=
  .next (if s.fix.running then s.modFix (fun f => { f with checkpoint := (f.clock, f.dist % 100000) }) else s)

/-- The lid has been closed for 1 s, as far as the F die has seen (R299). -/
def Fixer.lidFar (f : Fixer) : Bool :=
  match f.lidClosed with
  | some t => decide (t + oneSec ≤ f.clock)
  | none => true

/-- The sample of the lid contact: an opening is a seal event once the lid has been closed for 1 s (R299). -/
def senseLid (s : State) : State :=
  let s1 := s.modFix (fun f => if f.lidOpen = f.lidSeen then f
    else { f with lidSeen := f.lidOpen, lidClosed := if f.lidOpen then f.lidClosed else some f.clock })
  if s.fix.lidOpen = true ∧ s.fix.lidSeen = false ∧ s.fix.lidFar = true then sealEvent 4 0xFF s1 else s1

/-- The sample of the mesh: a break latches and counts once (R299). -/
def senseMesh (s : State) : State :=
  if s.fix.mesh = true ∧ s.fix.meshSeen = false then sealEvent 5 0xFF (s.modFix (fun f => { f with meshSeen := true })) else s

/-- The lid and the mesh are sampled while the F die runs (R299). -/
def sense (s : State) : State := if s.fix.running then senseMesh (senseLid s) else s

/-- F_LID_MESH: 0 the lid opens, 1 it closes, 2 the mesh breaks (R299). -/
def execFLidMesh (kind : Nat) (s : State) : Out :=
  .next (match kind with
    | 0 => sense (s.modFix (fun f => { f with lidOpen := true }))
    | 1 => sense (s.modFix (fun f => { f with lidOpen := false }))
    | 2 => sense (s.modFix (fun f => { f with mesh := true }))
    | _ => s)

/-- F_BROWN_OUT: the F die resets; with both supplies gone its retained SRAM is lost (R271, R492). -/
def execFBrownOut (both : Bool) (s : State) : Out :=
  .next ((s.modFix (fun f => { f with running := false, retained := !both && (f.running || f.retained) })).modLane
    (fun l => { l with toF := [], edges := [], strobe := false }))

/-- What every start of the F core begins afresh (R278, R281, R301, R304). -/
def Fixer.restart (f : Fixer) : Fixer :=
  { f with
    running := true, total := 0, edges := [], latches := [], speed := none, dropped := 0
    motion := { f.motion with passed := false, failed := false, base := none, check := none, pairing := none, next := f.clock }
    cards := Vector.replicate 2 {}
    onVfb := false, trimAt := f.clock }

/-- The state a loss of both supplies leaves: what the F store holds, and nothing of the retained SRAM (R277, R279, R287,
R297). Without a chain-head slot the chain begins again with GENESIS. -/
def Fixer.afterLoss (f : Fixer) : Fixer :=
  let c := f.checkpoint.1 + oneSec
  let fresh : Fixer := {}
  let slot := f.heads.headD (0xFFFFFFFF, genesisHash, 0)
  let first := f.heads.isEmpty
  { fresh with
    clock := c
    m0 := f.distance.value * 100000 + f.checkpoint.2, distance := f.distance, checkpoint := f.checkpoint
    nextSec := secAfter c, nextMin := minAfter c
    next := if first then 1 else wrapAdd 32 slot.1 1
    chain := slot.2.1
    since := if first then 1 else 0
    buffer := if first then [(0, genesisHead ++ genesisHash.take 8, genesisHash)] else []
    tail := slot.1, tailH := slot.2.1, heads := f.heads
    seals := f.seals, values := f.values, kSet := f.kSet, applied := f.applied, appliedAt := f.appliedAt
    motion := { paired := f.motion.paired }
    lidOpen := f.lidOpen, mesh := f.mesh, unknown := f.unknown }

/-- F_DIE_START (R297, R299). -/
def execFDieStart (s : State) : Out :=
  .next (if s.fix.running then s
    else if s.fix.retained then sense (s.modFix (fun f => f.restart.skipTo))
    else
      let s1 := (s.modFix (fun f => f.afterLoss.restart.newMinute)).modEv
        (fun e => { e with seqs := (upFrom 0x100 5).foldl (fun v i => tmod v i (fun _ => 0)) e.seqs })
      let g : GapAcc := { minutes := 0xFFFF, records := Config.freeNat s.free % 65536, metres := Config.freeNat (s.free + 1) % 2 ^ 32 }
      sense (powerRec 3 (Config.freeNat (s.free + 2) % 65536) (makeGap g s1.useFree.useFree.useFree)))

end Sys2Proof.Machine
end

