-- ==== Sys2Proof/Machine/GrainEvents.lean ====
section
/-! DEFINITION. What Grain does to the engines it feeds (R375–R382): words, reseeds, health failures, start-up tests and
raw-sample runs; the landing of a shadow key (R356); a check mismatch in the cipher engine (R362, R363); VLF leaving its
window (R216) and the minute of the duty ledger (R244). -/

namespace Sys2Proof.Machine

/-! ### Internal consumers (R378) -/

/-- The Rangefinder's request fails: the session ends without verdict, cause 1 (R259, R378, R380). -/
def sessNoBytes (s : State) : State :=
  match s.range.session with
  | some x => if x.ks.isSome then s else rangeNext ((if x.calib then calibCount none else id) (noVerdict x 1 s))
  | none => s

/-- Every waiting request of an internal consumer fails (R380–R382). -/
def failConsumers (s : State) : State :=
  let rs := s.grain.reqs
  let s1 := s.modGrain (fun g => { g with reqs := [] })
  let s2 := if rs.any (fun r => r.consumer == 1) then sessNoBytes s1 else s1
  let s3 := if rs.any (fun r => r.consumer == 2) then accessNoBytes s2 else s2
  drainRanging s3

/-- A complete request goes to its consumer. -/
def giveConsumer (s : State) (r : QueueReq) : State :=
  if r.consumer = 1 then sessDrawn r.got s else if r.consumer = 2 then accessGot r.got s else s

/-- The queue is served (R378). -/
def serveQueue (s : State) : State :=
  let a := s.grain.serve
  serveHost (drainRanging (a.2.foldl giveConsumer (s.modGrain (fun _ => a.1))))

/-- GRAIN_CONSUMER_WAIT_EXPIRE (R254, R378): 200 µs for the Rangefinder, 1 ms for the access engine. -/
def execGrainConsumerWaitExpire (consumer : Nat) (s : State) : Out :=
  .next (if s.grain.reqs.all (fun r => r.consumer != consumer) then s
    else if consumer = 1 then drainRanging (sessStarved s)
    else if consumer = 2 then drainRanging (accessStarved s)
    else s)

/-! ### Words (R373, R376, R377, R379) -/

/-- A stalled word request of a private wire takes a word (R376). -/
def giveWire (q : WireReq) (word : Bytes) (s : State) : State :=
  match q with
  | .key tk => keyWord tk word s
  | .iv c => s.modCtx c (Option.map (fun j => { j with iv := word, ivWait := false }))
  | .overwrite => s

/-- A conditioned word goes to the first that wants it (R379): seeding, or the reseed that is due, which replaces the older half
of the generator's state (R376). -/
def giveWord (word : Bytes) (s : State) : State :=
  let g := s.grain
  if g.seeds.length < 2 then s.modGrain (fun g => { g with seeds := g.seeds ++ [word], seededAt := s.now })
  else if g.reseedDue s.now then s.modGrain (fun g => { g with seeds := g.seeds.drop 1 ++ [word], seededAt := s.now })
  else match g.wires with
    | q :: rest => giveWire q word (s.modGrain (fun g => { g with wires := rest }))
    | [] =>
      if g.reserve = none then
        s.modGrain (fun g => if g.remask then { g with mask := word, remask := false } else { g with reserve := some word })
      else if g.queue.length + 16 ≤ 4096 then serveQueue (s.modGrain (fun g => { g with queue := g.queue ++ word }))
      else s

/-! ### Health failures and start-up tests (R375, R380, R381) -/

/-- The tickets of GRAIN.READ end with a status (R380, R382). -/
def endReads (st : Nat) (s : State) : State := s.grainReads.foldl (fun t p => endRead st p.1 t) s

/-- A word request ends by the error strobe (R380). -/
def strobe (s : State) (q : WireReq) : State :=
  match q with
  | .key tk => (List.range 8).foldl (fun t c => match tget t.ciph.ctx c with
      | some j => if j.ticket = some tk then endJob St.entropyFail c t else t
      | none => t) s
  | .iv c => endJob St.entropyFail c s
  | .overwrite => s

/-- Contexts whose jobs wait for random bits: all of them while the countermeasure stream is unseeded (R365). -/
def starvedCtx (s : State) : List Nat :=
  (List.range 8).filter (fun c => match tget s.ciph.ctx c with
    | some j => j.ivWait || !s.grain.seeded
    | none => false)

/-- The third failure within 24 h latches Grain off (R381). -/
def latchGrain (n : Nat) (s : State) : State :=
  if 3 ≤ n then emit 8 0x0C02 (leBytes 1 n) 0 0xFF (s.modGrain (fun g => { g with state := .latched, resume := none })) else s

/-- What a health failure does, in the order of R380. -/
def healthFailure (src test count : Nat) (s : State) : State :=
  let starved := starvedCtx s
  let wires := s.grain.wires
  let fails := recentFails s.now s.grain.fails ++ [s.now]
  let phase := b1 (s.grain.state == .startup)
  let s1 := s.modGrain (fun g => { g with
    lfsr := 0, seeds := [], queue := [], wires := [], fails, lastFail := s.now, failures := satAdd 0xFFFFFFFF g.failures 1
    state := .startup, resume := some 0, since := s.now, monitors := Vector.replicate 4 {} })
  let s2 := starved.foldl (fun t c => endJob St.entropyFail c t) (wires.foldl strobe s1)
  let s3 := endReads St.entropyFail (failConsumers s2)
  latchGrain fails.length (emit 8 0x0C01 (leBytes 1 src ++ leBytes 1 test ++ leBytes 1 phase ++ leBytes 1 (min 255 fails.length) ++
    leBytes 2 count) 0 0xFF s3)

/-- A test of a source stops at its cutoff: the run length or count that it has then reached (R374). -/
def testFails (src test count : Nat) : Bool :=
  decide (src < 4) && ((test == 0 && count == rctCutoff) || (test == 1 && count == aptCutoff))

/-- HEALTH_FAILURE: a test of R374 fails on a source, in the phase that the event names, on bits that no GRAIN_WORD carries. -/
def execHealthFailure (src test phase count : Nat) (s : State) : Out :=
  .next (if testFails src test count = true ∧
      ((s.grain.state = .ready ∧ phase = 0) ∨ (s.grain.state = .startup ∧ phase = 1)) then healthFailure src test count s
    else s)

/-- 512 raw bits: they pass the tests of their sources, and the conditioner emits its state as a word; a test that fails on
them is a health failure, and the word is never emitted (R373, R374). -/
def takeWord (raw : BitVec 512) (s : State) : State :=
  let a := s.grain.test raw
  match a.2 with
  | some f => healthFailure f.1 f.2.1 f.2.2 s
  | none =>
    let x := lfsrRun s.grain.lfsr raw
    giveWord (lfsrWord x) (s.modGrain (fun g => { g with lfsr := x, made := g.made + 1, monitors := a.1 }))

/-- GRAIN_WORD: the next conditioned word, 62.5 µs after the one before (R373); nothing comes out before the start-up test
has passed (R375). -/
def execGrainWord (raw : BitVec 512) (s : State) : Out :=
  .next (if s.grain.state = .ready then atDue s.grain.wordDue s (takeWord raw) else s)

/-- GRAIN_RESEED: the first word 2²⁰ cycles after the last seeding or reseeding (R376). -/
def execGrainReseed (raw : BitVec 512) (s : State) : Out :=
  .next (if s.grain.seeded = true ∧ s.grain.reseedDue (max s.now s.grain.wordDue) = true then
      atDue s.grain.wordDue s (takeWord raw)
    else s)

/-- STARTUP_TEST_PASS, 0.5 ms after the test began (R375, R386): event 0x0C04 after a health failure or a raw-sample run; the
continuous tests go on from there with a new window. -/
def execStartupTestPass (s : State) : Out :=
  .next (if s.grain.state = .startup then
      atDue (s.grain.since + lsbOfUs 500) s (fun t =>
        let t1 := t.modGrain (fun g => { g with
          state := .ready, resume := none, startups := wrapAdd 32 g.startups 1, since := t.now, made := 0 })
        match s.grain.resume with
        | some r => emit 8 0x0C04 (leBytes 1 r) 0 0xFF t1
        | none => t1)
    else s)

/-! ### Raw-sample runs (R382, R385) -/

/-- GRAIN.RAW_READ. -/
def execGrainRawRead (tk : Fin 128) (s : State) : Out :=
  .next (command tk.val 0x0C03 (fun w s =>
    if s.access.state = .release ∨ s.access.state = .learn ∨ s.grain.state = .raw then complete tk.val St.grainInUse [] s
    else if s.grain.state = .latched then complete tk.val St.grainOff [] s
    else
      let src := u8At w.req.payload 0
      let n := u16At w.req.payload 2
      let s1 := failConsumers ((start tk.val s).modGrain (fun g => { g with queue := [], state := .raw, resume := none }))
      let s2 := (endReads St.grainTestMode s1).modGrain (fun g => { g with
        seeds := [], run := some { ticket := tk.val, source := src, count := n, start := s.now } })
      emit 8 0x0C03 (leBytes 1 1 ++ leBytes 1 src ++ leBytes 2 n) 0 tk.val s2) s)

/-- The samples as bits, bit 0 of the first byte first (R385). -/
def sampleBits (b : Bytes) : List Bool := b.flatMap (fun x => (List.range 8).map (fun i => x.getLsbD i))

/-- Longest run of identical bits: `n` is the length of the run that reaches here, of bits `p` (R374). -/
def longestRun (p : Bool) (n : Nat) : List Bool → Nat
  | [] => n
  | b :: bs => if b = p then longestRun p (n + 1) bs else max n (longestRun b 1 bs)

/-- Occurrences of a window's first bit in it (R374). -/
def windowCount (w : List Bool) : Nat := w.countP (fun b => b == w.headD false)

/-- Response of GRAIN.RAW_READ (R374, R385). -/
def rawReply (r : RawRun) (b : Bytes) : Bytes :=
  let rct := longestRun ((sampleBits b).headD false) 0 (sampleBits b)
  let apt := ((List.range r.count).map (fun k => windowCount (sampleBits (slice b (128 * k) 128)))).foldl max 0
  leBytes 1 r.source ++ leBytes 1 (b1 (decide (41 ≤ rct)) + b1 (decide (793 ≤ apt)) 1) ++ leBytes 2 rct ++ leBytes 2 apt ++
    zeros 2 ++ leBytes 8 r.start ++ b

/-- GRAIN_RAW_RUN_END: 0.5 ms per 1,024 samples after the start (R382). -/
def execGrainRawRunEnd (samples : Bytes) (s : State) : Out :=
  .next (match s.grain.run with
    | some r =>
      if s.grain.state = .raw ∧ samples.length = 128 * r.count then
        atDue (r.start + lsbOfUs (500 * r.count)) s (fun t =>
          complete r.ticket St.ok (rawReply r samples)
            (emit 8 0x0C03 (zeros 1 ++ leBytes 1 r.source ++ leBytes 2 r.count) 0 r.ticket
              (t.modGrain (fun g => { g with
                state := .startup, resume := some 1, run := none, since := t.now, monitors := Vector.replicate 4 {} }))))
      else s
    | none => s)

/-! ### PD4 SEC switches (R351, R375–R378) -/

/-- PD4 SEC is on: the key store re-masks, and the start-up test begins unless Grain is latched off. -/
def secOn (s : State) : State :=
  s.modGrain (fun g =>
    let h := if g.state = .off then { g with state := .startup, resume := none, since := s.now } else g
    match g.reserve with
    | some w => { h with mask := w, reserve := none }
    | none => { h with remask := true })

/-- PD4 SEC is off: jobs end with a status and zeroed output, the queue and the generator are zeroed, what waits on Grain
fails, and telegrams that wait to be checked are lost (R118, R367, R376, R378, R383). -/
def secOff (st : Nat) (s : State) : State :=
  let s1 := (List.range 8).foldl (fun t c => endJob st c t) s
  let s2 := endReads st (failConsumers s1)
  let s3 := match s2.grain.run with
    | some r => complete r.ticket st [] s2
    | none => s2
  (s3.modAccess (fun a => { a with checks := [] })).modGrain (fun g => { g with
    state := if g.state = .latched then .latched else .off, resume := none, lfsr := 0, seeds := [], queue := [], wires := []
    run := none, remask := false, monitors := Vector.replicate 4 {} })

/-! ### The cipher engine -/

/-- KEY_LANDING (R356): the install's command completes with RESULT 0; learning and release pairing go on (R195, R196). -/
def execKeyLanding (slot : Fin 64) (s : State) : Out :=
  .next (match (s.kslot slot.val).shadow with
    | some h =>
      if mayLand s slot.val then
        accessLanded slot.val h.path (finishInstall slot.val h.ver.gen 0 (landShadow slot.val s))
      else s
    | none => s)

/-- The engine latches off: every running job completes CIPHER_FAULT (R363). -/
def latchCipher (n : Nat) (s : State) : State :=
  let s1 := (List.range 8).foldl (fun t c => match tget t.ciph.ctx c with
    | some j => if j.slot < 64 then endJob St.cipherFault c t else t
    | none => t) (s.modCiph (fun e => { e with off := true }))
  emit 7 0x0B06 (leBytes 1 (min 255 n)) 0 0xFF s1

/-- CHECK_MISMATCH: a block of the job in a context fails its check (R362, R363). -/
def execCheckMismatch (ctx : Fin 8) (kind block : Nat) (s : State) : Out :=
  .next (match tget s.ciph.ctx ctx.val with
    | some j =>
      if s.cipherUp = true ∧ j.ivWait = false ∧ j.slot < 64 then
        let l := recentMismatches s ++ [s.now]
        let s1 := endJob St.cipherFault ctx.val (s.modCiph (fun e => { e with
          recent := l, mismatches := satAdd 0xFFFFFFFF e.mismatches 1 }))
        let s2 := emit 7 0x0B05 (leBytes 1 ctx.val ++ leBytes 1 j.slot ++ leBytes 1 kind ++ zeros 1 ++ leBytes 4 block)
          (0x90 + j.slot) (j.ticket.getD 0xFF) s1
        if s.nat 11 1 ≤ l.length then latchCipher l.length s2 else s2
      else s
    | none => s)

/-! ### VLF and the duty ledger -/

/-- VLF_DISABLE: VLF leaves 8.0–32.0 V; an access sequence ends without verdict and its cycle is skipped (R216). -/
def execVlfDisable (drop : VlfDrop) (s : State) : Out :=
  .next (if s.lf.enabled = true ∧ (drop.mv < 8000 ∨ 32000 < drop.mv) then
      let a := vlfOff drop.mv drop.meas s
      if a.2 then skipAccess St.lfSupply a.1 else a.1
    else s)

/-- DUTY_BUCKET_ROLL: at a whole epoch minute the oldest bucket of every band ages out (R244). -/
def execDutyBucketRoll (s : State) : Out :=
  .next (atDue ((s.uhf.minute + 1) * lsbOfS 60) s (fun t => t.modUhf (fun u => u.roll t.now)))

end Sys2Proof.Machine
end

