-- ==== Sys2Proof/Machine/LaneIo.lean ====
section
/-! DEFINITION. The M die on the inter-die lane: samples and probes (R20, R476), what it does with each message of the F die
(R273, R303, R411, R507), lane loss and recovery (R273, R476), and the class 0x09 commands (R303, R304). -/

namespace Sys2Proof.Machine

/-! ### Samples -/

/-- TAIL_SEQ: the last record in a programmed FIXER page, 0xFFFF_FFFF for none (R411). -/
def tailSeq (s : State) : Nat :=
  let p := tget s.vault.parts 0
  if p.pages = [] then 0xFFFFFFFF else p.endNo - 1

/-- Key of the newest FIXER_EVENT received, 0 for none (R507). -/
def confirmKey (s : State) : Nat := s.lane.seen.foldl max 0

/-- EPOCH_SAMPLE with its sync edge; PD3 CORE stays at L2 or shallower until it is answered (R20, R273, R295, R507). -/
def sendSample (s : State) : State :=
  let s1 := laneSend (.epochSample s.now s.time.unset (tailSeq s) (confirmKey s)) .none
    (s.modLane (fun l => { l with edges := l.edges ++ [.sample l.seq], hold := true }))
  s1.modEave (fun e => { e with sampleAt := s.now + lsbOfS (if s.lane.up then 60 else 1) })

/-- A sample falls due; while PD3 CORE sleeps at L3 or L4 it is woken for it. -/
def sampleDue (s : State) : State :=
  atDue s.eave.sampleAt s (fun t => if t.eave.depth ≤ 2 then sendSample t else beginWake false t)

/-- EPOCH_SAMPLE_TIMER: every 60 s while the lane is up (R20). -/
def execEpochSampleTimer (s : State) : Out :=
  .next (if s.stew.running = true ∧ s.lane.up = true then sampleDue s else s)

/-- LANE_PROBE: every 1 s while the lane is down (R20, R476). -/
def execLaneProbe (s : State) : Out :=
  .next (if s.stew.running = true ∧ s.lane.up = false then sampleDue s else s)

/-- WAKE_STROBE: a booking that needs PD3 CORE at L2 or shallower (R273). -/
def execWakeStrobe (s : State) : Out :=
  .next (if s.lane.strobe ∧ s.stew.running then
      let s1 := s.modLane (fun l => { l with strobe := false })
      if 3 ≤ s.eave.depth then beginWake false s1 else s1
    else s)

/-! ### Records and events of the F die -/

/-- A record arrives (R22, R411). -/
def takeRecord (seq : Nat) (b : Bytes) (s : State) : State :=
  let p := tget s.vault.parts 0
  let modP (f : Part → Part) (t : State) : State := t.modVault (fun v => { v with parts := tmod v.parts 0 f })
  if seq < p.endNo then s
  else if p.capacity ≤ p.pages.length then
    if s.vault.fixerFull then s
    else emit 5 0x0D07 (leBytes 4 (p.endNo - 1)) 0 0xFF (s.modVault (fun v => { v with fixerFull := true }))
  else if seq < p.nextNo then
    appendRecord 0 b (modP (fun q => { q with buffer := q.buffer.take (seq - q.endNo), nextNo := seq }) s)
  else if seq = p.nextNo then appendRecord 0 b s
  else emit 5 0x0D0B (leBytes 4 seq ++ leBytes 4 p.nextNo) 0 0xFF
    (s.modVault (fun v => { v with refused := v.refused + 1 }))

/-- RECORD_APPEND (R411). -/
def execRecordAppend (s : State) : Out :=
  .next (match s.lane.toM with
    | .record seq b :: rest =>
      if s.stew.running then takeRecord seq b (s.modLane (fun l => { l with toM := rest })) else s
    | _ => s)

/-- FIXER_EVENT: kept once, by its order key (R507). -/
def execFixerEvent (s : State) : Out :=
  .next (match s.lane.toM with
    | .event r :: rest =>
      if s.stew.running = false then s
      else
        let s1 := s.modLane (fun l => { l with toM := rest })
        if s.lane.seen.contains r.key then s1
        else putEvent r (s1.modLane (fun l => { l with seen := (r.key :: l.seen).take 256 }))
    | _ => s)

/-! ### Completion of commands -/

/-- Records of FIXER.RECORD_READ that the vault holds: from FIRST up to TAIL_SEQ (R303, R304). -/
def vaultRecords (first count : Nat) (s : State) : List Bytes :=
  ((tget s.vault.parts 0).readFrom first count).filterMap (fun r => if r.1 < first + count then some r.2.1 else none)

/-- SEQ of a Fixer record (R291). -/
def recordSeq (b : Bytes) : Nat := u32At b 0

/-- Response of FIXER.RECORD_READ (R304). -/
def recordReply (head : Nat) (recs : List Bytes) (s : State) : Bytes := leBytes 4 head ++ leBytes 4 (tailSeq s) ++ recs.flatten

/-- FIXER.RECORD_READ while the lane is down (R303). -/
def recordPartial (tk : Nat) (s : State) : State :=
  let p := ((s.work tk).map (·.req.payload)).getD []
  if s.lane.head < u32At p 0 then complete tk St.fixerRange [] s
  else complete tk St.fixerPartial (recordReply s.lane.head (vaultRecords (u32At p 0) (u16At p 4) s) s) s

/-- Tile payload of FIXER.CARD_STATUS (R304). -/
def cardInfoData (c : CardInfo) : Bytes :=
  leBytes 1 c.state ++ leBytes 1 c.role ++ leBytes 1 c.cls ++ leBytes 1 c.proto ++ leBytes 2 c.fi ++ leBytes 1 c.di ++
    leBytes 1 (b1 c.shop) ++ leBytes 4 c.khz ++ padTo 4 (c.hash.take 4) ++ leBytes 8 c.inserted

/-- Tiles of the command that have not answered yet. -/
def Work.remaining (w : Work) : List Nat :=
  w.walkTileNodes.filter (fun n => !w.results.any (fun r => r.node == n))

/-- The next tile of a FIXER.CARD_STATUS is asked for, or the command completes (R72, R303). -/
def cardStatusNext (tk : Nat) (s : State) : State :=
  match s.work tk with
  | none => s
  | some w => match w.remaining with
    | [] => completeTiles tk w.walk w.results s
    | _ :: _ => if s.lane.up then laneSend (.recordRead 2 0 0) (.ticket tk) s
      else completeTiles tk w.walk (w.results ++ w.remaining.map (fun n => { node := n, status := St.fixerLaneDown })) s

/-- A tile of a command has its answer. -/
def tileAnswer (tk st : Nat) (d : Bytes) (s : State) : State :=
  s.modWork tk (fun w => { w with results := w.results ++ [{ node := w.remaining.headD 0, status := st, data := d }] })

/-- A class 0x09 command has the RESPONSE it waits for (R303, R304). -/
def fixerAnswered (tk : Nat) (r : LaneRsp) (s : State) : State :=
  match s.work tk with
  | none => s
  | some w =>
    let p := w.req.payload
    match w.req.opcode with
    | 0x0902 =>
      if r.status ≠ 0 then complete tk r.status [] s
      else
        let far := (chunks 32 (r.data.length + 1) r.data).filter (fun b =>
          !b.isEmpty && (tailSeq s == 0xFFFFFFFF || decide (tailSeq s < recordSeq b)))
        complete tk St.ok (recordReply r.head (vaultRecords (u32At p 0) (u16At p 4) s ++ far) s) s
    | 0x0906 => cardStatusNext tk (tileAnswer tk St.ok (cardInfoData (r.cards.getD (w.remaining.headD 0xD0 - 0xD0) {})) s)
    | 0x0907 =>
      let d := if r.status = 0 then leBytes 2 r.data.length ++ zeros 2 ++ pad4 r.data else []
      completeTiles tk w.walk [{ node := w.req.node, status := r.status, data := d }] s
    | 0x0908 => completeTiles tk w.walk [{ node := w.req.node, status := r.status }] s
    | _ => complete tk r.status r.data s

/-- Commands that list FIXER_BUSY (R303). -/
def listsBusy (op : Nat) : Bool := [0x0902, 0x0903, 0x0905, 0x0907].contains op

/-- A request answered FIXER_BUSY is sent again rather than completed (R303). -/
def sendsAgain (o : LaneOut) (s : State) : Bool :=
  match o.user with
  | .ticket tk => match s.work tk with
    | some w => !listsBusy w.req.opcode
    | none => false
  | _ => match o.req with
    | .epochSample .. => false
    | _ => true

/-! ### The RESPONSE -/

/-- What the pending exposure does with the answer it waits for; one that comes after its time is no answer (R150, R152, R300). -/
def exposureAnswered (q : LaneReq) (r : LaneRsp) (s : State) : State :=
  if s.expo.pending.any (fun p => decide (laneDeadline p < s.now)) then endPending St.fixerAbsent 0 .checked s
  else match q with
  | .exposePrepare .. =>
    if r.status = 0 then s.modPend (fun p => { p with fix := .prepared }) else endPending St.fixerRefused r.status .opened s
  | .exposeCommit _ =>
    if r.status = 0 then decide_ (s.modPend (fun p => { p with fix := .armed })) else endPending St.fixerRefused r.status .opened s
  | _ => s

/-- Debts that an answer settles (R151, R152): APPLIED_GEN shows the commit; the acknowledgement shows the rollback. -/
def settleDebt (q : LaneReq) (r : LaneRsp) (s : State) : State :=
  let s1 := if s.sheet.owed = .commit ∧ r.applied = s.sheet.owedGen then s.modSheet (fun h => { h with owed := .none }) else s
  match q with
  | .exposeRollback _ => if s1.sheet.owed = .rollback then s1.modSheet (fun h => { h with owed := .none }) else s1
  | .exposeCommit g => if 8 ≤ r.data.length then emit 2 0x0303 (leBytes 4 g ++ r.data.take 8) 0 0xFF s1 else s1
  | _ => s1

/-- The lane is up again: the owed commit or a rollback, EPOCH_SAMPLE, the latest TOKEN_IDENTITY, in this order and before
any other request; events 0x0909 and 0x0113 (R273, R476, R478). -/
def laneRecovered (s : State) : State :=
  let tail := tailSeq s
  let commit := decide (s.sheet.owed = .commit)
  let s1 := emit 1 0x0909 (leBytes 1 1 ++ zeros 3 ++ leBytes 4 tail) 0 0xFF (s.modLane (fun l => { l with up := true }))
  let s2 := laneSend (if commit then .exposeCommit s.sheet.owedGen else .exposeRollback s.sheet.owedGen) .owed s1
  let s3 := sendSample s2
  let s4 := match s.lane.owedToken with
    | some t => laneSend (.tokenIdentity t.1 t.2) .none (s3.modLane (fun l => { l with owedToken := none }))
    | none => s3
  emit 1 0x0113 (leBytes 1 (b1 commit) ++ zeros 3 ++ leBytes 4 tail) 0 0xFF s4

/-- The F die's state as the M die learns it from a RESPONSE (R41, R151, R289, R303). -/
def learnResponse (r : LaneRsp) (s : State) : State :=
  (s.modLane (fun l => { l with missed := 0, head := r.head, applied := r.applied, cards := r.cards })).modHost
    (fun h => { h with idFixer := BitVec.ofNat 32 r.release, fixRev := Config.fixerRevision })

/-- The request has its RESPONSE: who waited for it goes on (R150, R303). -/
def userAnswered (o : LaneOut) (r : LaneRsp) (s : State) : State :=
  if r.status = St.fixerBusy ∧ sendsAgain o s = true then s.modLane (fun l => { l with again := l.again ++ [(o.req, o.user)] })
  else match o.user with
    | .ticket tk => fixerAnswered tk r s
    | .exposure => exposureAnswered o.req r s
    | _ => s

/-- Requests that waited for the RESPONSE to another request go out again (R303). -/
def sendAgain (l : List (LaneReq × LaneUser)) (s : State) : State := l.foldl (fun t a => laneSend a.1 a.2 t) s

/-- The workshop card is removed or no longer authenticated (R115, R289). -/
def cardGone (before : Bool) (s : State) : State :=
  let now := s.lane.cards.any (fun c => c.state == 2 && c.role == 2)
  if now = false ∧ (before = true ∨ s.heads .workshop = true) then trigger 9 s else s

/-- A RESPONSE to an outstanding request. -/
def takeResponse (o : LaneOut) (r : LaneRsp) (s : State) : State :=
  let had := s.lane.cards.any (fun c => c.state == 2 && c.role == 2)
  let waiting := s.lane.again
  let s1 := learnResponse r (s.modLane (fun l => { l with
    out := l.out.filter (fun x => x.seq != o.seq), again := []
    hold := l.hold && !(match o.req with | .epochSample .. => r.status != St.fixerBusy | _ => false) }))
  let s2 := if s.lane.up then s1 else laneRecovered s1
  userAnswered o r (sendAgain waiting (settleDebt o.req r (cardGone had s2)))

/-- LANE_RESPONSE (R274); an answer to no outstanding request is discarded. -/
def execLaneResponse (s : State) : Out :=
  .next (match s.lane.toM with
    | .response r :: rest =>
      if s.stew.running = false then s
      else
        let s1 := s.modLane (fun l => { l with toM := rest })
        match s.lane.out.find? (fun o => o.seq == r.seq) with
        | some o => takeResponse o r s1
        | none => s1
    | _ => s)

/-! ### Loss of the lane (R273, R476) -/

/-- A command whose request was outstanding when the lane went down (R303, R476). -/
def laneLost (u : LaneUser) (s : State) : State :=
  match u with
  | .ticket tk => match s.work tk with
    | none => s
    | some w => match w.req.opcode with
      | 0x0902 => recordPartial tk s
      | 0x0905 => complete tk St.replaySuppressed [] s
      | 0x0907 => completeTiles tk w.walk [{ node := w.req.node, status := St.replaySuppressed }] s
      | 0x0908 => completeTiles tk w.walk [{ node := w.req.node, status := St.replaySuppressed }] s
      | 0x0906 => cardStatusNext tk s
      | _ => complete tk St.fixerLaneDown [] s
  | _ => s

/-- The lane is regarded as down: event 0x0909, and every outstanding request is decided (R273, R476). -/
def laneDown (s : State) : State :=
  let users := s.lane.out.map (·.user) ++ s.lane.again.map (·.2)
  let token := s.lane.out.foldl (fun t o => match o.req with
    | .tokenIdentity n k => some (n, k)
    | _ => t) s.lane.owedToken
  let s1 := (s.modLane (fun l => { l with
    up := false, out := [], toF := [], again := [], missed := 0, hold := false, owedToken := token })).modEave
      (fun e => { e with sampleAt := s.now + oneSec })
  let s2 := emit 1 0x0909 (zeros 4 ++ leBytes 4 (tailSeq s)) 0 0xFF s1
  users.foldl (fun t u => laneLost u t) s2

/-- LANE_REQUEST_TIMEOUT: a request is unanswered for 50 ms; the third in a row takes the lane down (R273). -/
def execLaneRequestTimeout (s : State) : Out :=
  .next (match s.lane.out.find? (fun o => !o.late) with
    | none => s
    | some o =>
      if s.stew.running = false then s
      else atDue (o.sent + lsbOfMs 50) s (fun t =>
        if t.lane.up then
          let t1 := t.modLane (fun l => { l with
            missed := l.missed + 1, out := l.out.map (fun x => if x.seq = o.seq then { x with late := true } else x) })
          if 3 ≤ t1.lane.missed then laneDown t1 else t1
        else t.modLane (fun l => { l with hold := false, out := l.out.filter (fun x => x.seq != o.seq) })))

/-! ### Class 0x09 -/

/-- A class 0x09 command that needs the lane: FIXER_LANE_DOWN while it is down, otherwise its request goes out (R24, R303). -/
def laneCommand (tk op : Nat) (q : Work → State → LaneReq) (s : State) : State :=
  command tk op (fun w s =>
    if s.lane.up then laneSend (q w s) (.ticket tk) (start tk s)
    else complete tk St.fixerLaneDown [] s) s

/-- FIXER.STATUS (R303, R304). -/
def execFixerStatus (tk : Fin 128) (s : State) : Out := .next (laneCommand tk.val 0x0901 (fun _ _ => .recordRead 2 0 0) s)

/-- FIXER.RECORD_READ (R303, R304). -/
def execFixerRecordRead (tk : Fin 128) (s : State) : Out :=
  .next (command tk.val 0x0902 (fun w s =>
    if s.lane.up then
      laneSend (.recordRead 0 (u32At w.req.payload 0) (u16At w.req.payload 4)) (.ticket tk.val) (start tk.val s)
    else recordPartial tk.val s) s)

/-- FIXER.SPEED_READ (R303, R304). -/
def execFixerSpeedRead (tk : Fin 128) (s : State) : Out :=
  .next (laneCommand tk.val 0x0903 (fun w _ => .recordRead 1 (u32At w.req.payload 0) (u32At w.req.payload 4)) s)

/-- FIXER.KEY_READ (R303, R304). -/
def execFixerKeyRead (tk : Fin 128) (s : State) : Out := .next (laneCommand tk.val 0x0904 (fun _ _ => .recordRead 3 0 0) s)

/-- FIXER.TIME_PROPOSE: the WORKSHOP flag is that of the mode (R285, R303). -/
def execFixerTimePropose (tk : Fin 128) (s : State) : Out :=
  .next (laneCommand tk.val 0x0905 (fun w s =>
    .timePropose (sext 64 (u64At w.req.payload 0)) (decide (s.power.mode = .workshop))) s)

/-- FIXER.CARD_STATUS (R72, R303). -/
def execFixerCardStatus (tk : Fin 128) (s : State) : Out :=
  .next (command tk.val 0x0906 (fun _ s => cardStatusNext tk.val (start tk.val s)) s)

/-- FIXER.CARD_APDU (R290, R303). -/
def execFixerCardApdu (tk : Fin 128) (s : State) : Out :=
  .next (laneCommand tk.val 0x0907 (fun w _ => .cardApdu (w.req.node - 0xD0) (slice w.req.payload 4 (u16At w.req.payload 0))) s)

/-- FIXER.CARD_RESET (R290, R303). -/
def execFixerCardReset (tk : Fin 128) (s : State) : Out :=
  .next (laneCommand tk.val 0x0908 (fun w _ => .cardReset (w.req.node - 0xD0)) s)

/-- FIXER.PAIR_STAGE (R139, R282, R303). -/
def execFixerPairStage (tk : Fin 128) (s : State) : Out :=
  .next (command tk.val 0x0909 (fun w s => stageObject tk.val w 9 0xF0 0 w.req.payload s) s)

/-- CARD_APDU_DEADLINE: TIMEOUT; a RESPONSE that comes later finds nobody waiting (R303). -/
def execCardApduDeadline (tk : Fin 128) (s : State) : Out :=
  .next (match s.work tk.val with
    | some w =>
      if w.req.opcode = 0x0907 ∧ ((s.ticket tk.val).state = .accepted ∨ (s.ticket tk.val).state = .running) then
        atDue (w.accept + (if w.req.deadline = 0 then lsbOfMs 2000 else lsbOfUs w.req.deadline)) s (fun t =>
          let t1 := t.modLane (fun l => { l with
            out := l.out.map (fun o => if o.user = .ticket tk.val then { o with user := .none } else o)
            again := l.again.filter (fun a => a.2 != .ticket tk.val) })
          completeTiles tk.val w.walk [{ node := w.req.node, status := St.timeout }] t1)
      else s
    | none => s)

end Sys2Proof.Machine
end

