-- ==== Sys2Proof/Machine/Mem.lean ====
section
/-! DEFINITION. On-chip memory (15_onchip_memory.md): the state of each bank (R422–R424), which accesses the guards permit
and what a violation does to its master (R425–R428, without the Steward's reset), the Test strip (R430–R433), and the
commands of class 0x0E (R434–R437). -/

namespace Sys2Proof.Machine

/-! ### Banks -/

/-- Jobs that hold data in B20–B21: CIPHER.JOB, GRAIN.READ, UHF.RX, cable traces, frame records for P24 (R424). -/
def jobData (s : State) : Bool :=
  (List.range 128).any (fun t => (s.ticket t).state == .running && (match s.work t with
    | some w => [0x0B10, 0x0C02, 0x0703, 0x0810].contains w.req.opcode
    | none => false)) || s.range.traces.toList.any (·.isSome) || s.sw.frames.any (fun f => f.copies.any (fun c => c.port == 24))

/-- STATE of a bank: 0 ON, 1 RET, 2 OFF (R423, R424); a bank with a borrowed strip stays ON until the strip ends (R433). -/
def bankState (s : State) (b : Nat) : Nat :=
  let kept := if s.eave.depth ≤ 2 then 0 else 1
  if s.mem.borrowed.any (fun x => x.1 == b) then 0
  else if b = 8 ∨ b = 9 then (if s.powered 2 then 0 else 1)
  else if 12 ≤ b ∧ b ≤ 15 then (if (tget s.expo.sessions (b - 12)).state = .closed then 2 else kept)
  else if b = 20 ∨ b = 21 then (if jobData s = false ∨ s.eave.depth = 4 then 2 else kept)
  else if b = 22 then (if (List.range 8).all (fun n => s.nat 14 2 n == 0) then 2 else kept)
  else kept

/-- Bank of an address, if it lies in one (R422). -/
def bankOf (a : Nat) : Option Nat :=
  if 0x20000000 ≤ a ∧ a < 0x20000000 + 24 * 0x40000 then some ((a - 0x20000000) / 0x40000) else none

/-! ### Guards -/

/-- Banks a master may reach (R425). -/
def reaches (master bank : Nat) : Bool :=
  let in_ (a b : Nat) : Bool := decide (a ≤ bank) && decide (bank ≤ b)
  match master with
  | 0 => in_ 10 11 || in_ 20 21
  | 1 => in_ 10 11
  | 2 => in_ 10 11 || in_ 16 21
  | 3 => in_ 20 21
  | 4 => in_ 0 7 || in_ 10 23
  | 5 => in_ 8 9 || in_ 16 19 || in_ 23 23
  | 6 => in_ 16 19
  | _ => in_ 22 22

/-- An enabled region covers a byte and grants the kind of access (R426). -/
def Region.grants (r : Region) (access a : Nat) : Bool :=
  r.perm.testBit 3 && r.perm.testBit access && decide (r.base ≤ a) && decide (a < r.limit)

/-- The job whose buffer region `r`, 12–15, of a master is pointed at runs: cable run and session of the Rangefinder, contexts
5–7 and 3 of the cipher engine, frame records for P24 and P26, and the DMA rings (R424, R427). -/
def bufferInUse (s : State) (master r : Nat) : Bool :=
  match master with
  | 0 => (r == 12 && s.range.cables.any (·.begun)) || (r == 13 && s.range.session.isSome)
  | 2 => if r = 15 then (tget s.ciph.ctx 3).isSome else (tget s.ciph.ctx (r - 7)).isSome
  | 3 => (r == 12 && s.sw.frames.any (fun f => f.copies.any (fun c => c.port == 24))) ||
      (r == 13 && s.sw.frames.any (fun f => f.copies.any (fun c => c.port == 26 && c.taken)))
  | 7 => r == 12 && (List.range 8).any (fun n => s.nat 14 2 n != 0)
  | _ => false

/-- Guard region `r` of a master: regions 0–11 as the start has locked them; regions 12–15, which stay unlocked, are pointed at
the buffer of a job while it runs, with read and write granted, and are disabled otherwise (R426, R427). -/
def State.region (s : State) (master r : Nat) : Region :=
  if r < 12 then tget (tget s.mem.guards master) r
  else if bufferInUse s master r then
    let b := Config.jobBuffer master r
    { base := b.1 * 4096, limit := (b.1 + b.2 + 1) * 4096, perm := 11 }
  else {}

/-- Some one region covers every byte of the access and grants it (R426). -/
def granted (s : State) (h : GuardHit) : Bool :=
  ((List.range 16).map (s.region h.master.val)).any (fun r =>
    r.grants h.access h.addr && r.grants h.access (h.addr + (h.len - 1)) &&
      !(h.access == 2 && !(h.master.val == 4 || h.master.val == 5)))

/-- The kind of violation an access is, if it is one (R426): unreachable bank, bank not ON, uncorrectable word, no grant. -/
def violation (s : State) (h : GuardHit) : Option Nat :=
  match bankOf h.addr, bankOf (h.addr + (h.len - 1)) with
  | some a, some b =>
    if reaches h.master.val a = false ∨ reaches h.master.val b = false then some 1
    else if bankState s a ≠ 0 ∨ bankState s b ≠ 0 then some 2
    else if granted s h = false then some 0
    else if h.bad then some 3
    else none
  | _, _ => some 1

/-- A violation is placed in the guard log, with event 0x0E01 (R428). -/
def logViolation (kind : Nat) (h : GuardHit) (s : State) : State :=
  emit 6 0x0E01 (leBytes 1 h.master.val ++ leBytes 1 kind ++ leBytes 1 h.access ++ zeros 1 ++ leBytes 4 h.addr) 0 0xFF
    (s.modMem (fun m => { m with
      log := ({ stamp := s.now, address := h.addr, master := h.master.val, kind, access := h.access } :: m.log).take 64
      violations := satAdd 0xFFFFFFFF m.violations 1 }))

/-- A DMA channel's entry is not written and its OVERRUN rises (R428); which of the channels with a source made the access
is open, a free value. -/
def dmaViolation (s : State) : State :=
  let used := (List.range 8).filter (fun n => s.nat 14 2 n != 0)
  let n := used.getD (Config.freeNat s.free % max 1 used.length) 0
  s.useFree.modMem (fun m => { m with dma := tmod m.dma n (fun r => { r with overrun := wrapAdd 32 r.overrun 1 }) })

/-! ### Corrected words -/

/-- CORRECTED_WORD: counted, with event 0x0E02 at most once per second and bank (R422). -/
def execCorrectedWord (bank : Fin 24) (addr : Nat) (s : State) : Out :=
  .next (if bankState s bank.val ≠ 0 then s
    else
      let b := tget s.mem.banks bank.val
      let due := match b.lastEvent with
        | some t => decide (t + oneSec ≤ s.now)
        | none => true
      let n := satAdd 0xFFFF b.sinceEvent 1
      let s1 := s.modMem (fun m => { m with banks := tmod m.banks bank.val (fun x => { x with
        corrected := satAdd 0xFFFF x.corrected 1, sinceEvent := if due then 0 else n
        lastEvent := if due then some s.now else x.lastEvent }) })
      if due then emit 6 0x0E02 (leBytes 1 bank.val ++ zeros 1 ++ leBytes 2 n ++ leBytes 4 addr) 0 0xFF s1 else s1)

/-! ### The Test strip -/

/-- 704 cycles of 384 MHz, the time an undisturbed strip is held (R430). -/
abbrev stripHold : Nat := 1969

/-- The strip may be taken: its bank is ON and it is not mapped out (R430). -/
def stripFree (s : State) (bank strip : Nat) : Bool :=
  bankState s bank == 0 && !(tget s.mem.banks bank).mapped.contains strip

/-- The first strip at or after a place of one bank that is not mapped out. -/
def stripIn (s : State) (bank from_ : Nat) : Option Nat :=
  if bankState s bank = 0 then (upFrom from_ (1024 - from_)).find? (fun i => !(tget s.mem.banks bank).mapped.contains i) else none

/-- The strip the walk takes next: ascending banks, ascending strips, from its place on, then from the beginning; the
answer also tells whether a full pass has ended on the way (R430). -/
def walkNext (s : State) : Option (Nat × Nat × Bool) :=
  let m := s.mem
  let after_ := (upFrom (m.walkBank + 1) (23 - m.walkBank)).filterMap (fun b => (stripIn s b 0).map (fun i => (b, i, false)))
  match stripIn s m.walkBank m.walkStrip with
  | some i => some (m.walkBank, i, false)
  | none => match after_ with
    | x :: _ => some x
    | [] => ((List.range 24).filterMap (fun b => (stripIn s b 0).map (fun i => (b, i, true)))).head?

/-- A strip is borrowed: the next of MEM.STRIP_RUN, or the next of the walk (R430, R437). -/
def borrow (s : State) : State :=
  match s.mem.run with
  | some r => match stripIn s r.bank r.strip with
    | some i => s.modMem (fun m => { m with borrowed := some (r.bank, i), stripAt := s.now })
    | none => s
  | none => match walkNext s with
    | some (b, i, wrapped) => s.modMem (fun m => { m with
        borrowed := some (b, i), walkBank := b, walkStrip := i, stripAt := s.now
        passes := if wrapped then wrapAdd 32 m.passes 1 else m.passes
        lastPass := if wrapped then s.now else m.lastPass })
    | none => s

/-- A confirmed fault: the strip is mapped onto a free spare of its bank, or the bank becomes FAILED (R432). -/
def repairStrip (bank strip : Nat) (s : State) : State :=
  let b := tget s.mem.banks bank
  if 0 < b.spares then
    emit 6 0x0E03 (leBytes 1 bank ++ zeros 1 ++ leBytes 2 strip ++ leBytes 1 (b.spares - 1)) 0 0xFF
      (s.modMem (fun m => { m with
        banks := tmod m.banks bank (fun x => { x with spares := x.spares - 1, mapped := x.mapped ++ [strip] })
        repairs := m.repairs ++ [(bank, strip)] }))
  else
    emit 6 0x0E04 (leBytes 1 bank ++ zeros 1 ++ leBytes 2 strip) 0 0xFF
      (s.modMem (fun m => { m with banks := tmod m.banks bank (fun x => { x with failed := true }) }))

/-- Response of MEM.STRIP_RUN (R437). -/
def runReply (r : StripRun) (spares : Nat) : Bytes := leBytes 2 r.tested ++ leBytes 1 r.repaired ++ leBytes 1 spares ++ leBytes 4 r.yields

/-- The run goes on behind a strip, or completes behind the last one (R437). -/
def runStep (strip : Nat) (faulty spared : Bool) (s : State) : State :=
  match s.mem.run with
  | some r =>
    let r1 := { r with strip := strip + 1, tested := r.tested + 1, failed := r.failed || (faulty && !spared)
                       repaired := satAdd 0xFF r.repaired (if faulty && spared then 1 else 0) }
    let s1 := s.modMem (fun m => { m with run := some r1 })
    if (upFrom (strip + 1) (1023 - strip)).all (fun i => (tget s.mem.banks r.bank).mapped.contains i) then
      complete r.ticket (if r1.failed then St.memBankFailed else if r1.repaired = 0 then St.ok else St.memRepaired)
        (runReply r1 (tget s1.mem.banks r.bank).spares) (s1.modMem (fun m => { m with run := none }))
    else s1
  | none => s.modMem (fun m => { m with walkStrip := strip + 1 })

/-- The march ends: the strip passes, or a second failed march confirms its fault (R430, R432). -/
def marchEnd (faulty : Bool) (s : State) : State :=
  match s.mem.borrowed with
  | some (b, i) =>
    let s1 := s.modMem (fun m => { m with borrowed := none })
    let spared := decide (0 < (tget s.mem.banks b).spares)
    runStep i faulty spared (if faulty then repairStrip b i s1 else s1)
  | none => s

/-- TEST_STRIP: a strip is borrowed when MEM.STRIP_INTERVAL has passed (at once during MEM.STRIP_RUN), or the march of the
borrowed strip ends with these failures of its first and second march (R430–R432, R437). -/
def execTestStrip (march : Option (Bool × Bool)) (s : State) : Out :=
  .next (match march, s.mem.borrowed with
    | none, none =>
      if s.powered 3 = false ∨ 1 < s.eave.depth then s
      else if s.mem.run.isSome then borrow s
      else if s.nat 14 0 = 0 then s
      else atDue (s.mem.stripAt + lsbOfUs (s.nat 14 1)) s borrow
    | some f, some _ => atDue (s.mem.stripAt + (if f.1 then 2 * stripHold else stripHold)) s (marchEnd (f.1 && f.2))
    | _, _ => s)

/-- The march stops; the strip counts neither way and is taken again one interval later (R431). -/
def yieldStrip (s : State) : State :=
  match s.mem.borrowed with
  | some _ => s.modMem (fun m => { m with
      borrowed := none, stripAt := s.now, yields := satAdd 0xFFFFFFFF m.yields 1
      run := m.run.map (fun r => { r with yields := satAdd 0xFFFFFFFF r.yields 1 }) })
  | none => s

/-- STRIP_YIELD: an access to the borrowed strip stops the march (R431). -/
def execStripYield (s : State) : Out := .next (yieldStrip s)

/-- An access touches the borrowed strip (R430, R431). -/
def onStrip (s : State) (h : GuardHit) : Bool :=
  match s.mem.borrowed with
  | some (b, i) =>
    let a := 0x20000000 + b * 0x40000 + i * 256
    decide (h.addr < a + 256) && decide (a < h.addr + h.len)
  | none => false

/-- An access to the borrowed strip makes the Test strip yield before it is judged (R433). -/
def yieldFor (h : GuardHit) (s : State) : State := if onStrip s h then yieldStrip s else s

/-! ### Commands (R436, R437) -/

/-- Response of MEM.STATUS. -/
def memStatusData (s : State) : Bytes :=
  let next := (walkNext s).getD (s.mem.walkBank, s.mem.walkStrip % 1024, false)
  leBytes 1 (s.nat 14 0 % 2 + b1 s.mem.borrowed.isSome 1) ++ leBytes 1 next.1 ++ leBytes 2 next.2.1
    ++ leBytes 4 s.mem.passes ++ leBytes 4 s.mem.yields ++ leBytes 4 s.mem.violations ++ leBytes 8 s.mem.lastPass ++ zeros 8
    ++ (List.range 24).flatMap (fun n =>
      let b := tget s.mem.banks n
      leBytes 1 (bankState s n) ++ leBytes 1 (b1 b.failed) ++ leBytes 1 b.spares ++ zeros 1 ++ leBytes 2 b.corrected ++ zeros 2)

/-- MEM.STATUS. -/
def execMemStatus (tk : Fin 128) (s : State) : Out :=
  .next (command tk.val 0x0E01 (fun _ s => complete tk.val St.ok (memStatusData s) s) s)

/-- An entry of MEM.GUARD_LOG_READ. -/
def GuardEntry.bytes (e : GuardEntry) : Bytes :=
  leBytes 8 e.stamp ++ leBytes 4 e.address ++ leBytes 1 e.master ++ leBytes 1 e.kind ++ leBytes 1 e.access ++ zeros 1

/-- MEM.GUARD_LOG_READ. -/
def execMemGuardLogRead (tk : Fin 128) (s : State) : Out :=
  .next (command tk.val 0x0E02 (fun _ s =>
    complete tk.val St.ok (leBytes 2 s.mem.log.length ++ zeros 2 ++ s.mem.log.flatMap GuardEntry.bytes) s) s)

/-- MEM.STRIP_RUN: it ends at its last strip, in TEST_STRIP. -/
def execMemStripRun (tk : Fin 128) (s : State) : Out :=
  .next (command tk.val 0x0E03 (fun w s =>
    let b := u8At w.req.payload 0
    if s.mem.run.isSome then complete tk.val St.memStripBusy [] s
    else if bankState s b ≠ 0 then complete tk.val St.memBankNotOn [] s
    else (start tk.val s).modMem (fun m => { m with run := some { ticket := tk.val, bank := b } })) s)

/-- Entries that FREE_TO frees: those at or below it, counting forward modulo 2³² from the oldest held; a value behind the
oldest entry, as a repeated one is, frees nothing (R437). -/
def DmaRing.free (r : DmaRing) (upto : Nat) : DmaRing :=
  match r.entries with
  | (o, _) :: _ =>
    let d := (upto + 2 ^ 32 - o) % 2 ^ 32
    if d < 2 ^ 31 then { r with entries := r.entries.drop (d + 1) } else r
  | [] => r

/-- MEM.DMA_READ. -/
def execMemDmaRead (tk : Fin 128) (s : State) : Out :=
  .next (command tk.val 0x0E04 (fun w s =>
    let n := u8At w.req.payload 0
    let s1 := s.modMem (fun m => { m with dma := tmod m.dma n (fun r => r.free (u32At w.req.payload 4)) })
    let r := tget s1.mem.dma n
    let es := r.entries.take (u8At w.req.payload 1)
    complete tk.val St.ok (leBytes 4 r.overrun ++ leBytes 1 es.length ++ zeros 3 ++ es.flatMap (·.2)) s1) s)

end Sys2Proof.Machine
end

