-- ==== Sys2Proof/Machine/Reset.lean ====
section
/-! DEFINITION. The M-die reset and what goes before it: the hold-up flush (R463–R465, R468), the entry to HOLDOVER by
triggers 10 and 11, and what a reset leaves of every part (R42, R88, R95, R100, R104, R138, R340). -/

namespace Sys2Proof.Machine

/-! ### The hold-up flush -/

/-- The operation in progress finishes (R399); a cleared image partition is EMPTY. -/
def finishRunning (s : State) : State :=
  match s.store.running with
  | some o =>
    let s1 := applyAct o.act (s.modStore (fun t => { t with running := none }))
    match o.then_ with
    | .imageErased _ n => s1.modSafe (fun f => { f with images := tmod f.images n (fun _ => {}) })
    | _ => s1
  | none => s

/-- CONFIG_COMMIT of an exposure whose instant has passed and whose commit record is absent (R464 item 2). -/
def owedCommit (s : State) : List (Nat × Bytes) :=
  match s.expo.pending with
  | some p => match p.applied with
    | some a => if (s.store.running.map (·.then_)) = some .committed then [] else [(0x0001, commitRecord p.gen p.setNo a.1)]
    | none => []
  | none => []

/-- Access state and changed token slots, while the access engine is at work (R173, R464 item 3, R477). -/
def owedAccess (s : State) : List (Nat × Bytes) :=
  if s.access.state = .off then []
  else (0x20, accessRecord s.access) ::
    (((List.range 16).filter (fun n => (s.tok n).state != 0 &&
      (s.store.newest (0x30 + n)).map (·.data) != some (tokRecord (s.tok n)))).map (fun n => (0x30 + n, tokRecord (s.tok n))))

/-- FRESH of each cipher loop profile whose value changed (R464 item 4). -/
def owedLoops (s : State) : List (Nat × Bytes) :=
  (List.range 8).filterMap (fun m => match (tget s.sw.loops m).accepted with
    | some v => if (s.store.newest (0xA0 + m)).map (·.data) = some (leBytes 4 v) then none else some (0xA0 + m, leBytes 4 v)
    | none => none)

/-- The sort buffer joins the LOG page buffer in order-key order (R447, R464 item 6). -/
def drainSort (s : State) : State :=
  (s.safe.sort.mergeSort (fun a b => decide (a.2.key ≤ b.2.key))).foldl (fun t x =>
    t.modVault (fun v => { v with parts := tmod v.parts 1 (fun p => { p with
      buffer := p.buffer ++ [x.2.bytes], nextNo := p.nextNo + 1, since := if p.buffer.isEmpty then t.now else p.since }) }))
    (s.modSafe (fun f => { f with sort := [], moved := f.sort.foldl (fun m x => max m x.2.key) f.moved }))

/-- Records of the flush, each under its own supply check against the energy left, µJ; the answer holds the energy left,
how many were written and whether the flush went on (R398, R399, R464). -/
def flushRecords : List (Nat × Bytes) → Nat → Nat → State → State × Nat × Nat × Bool
  | [], _, e, s => (s, e, 0, true)
  | r :: rs, pages, e, s =>
    if 10 * (rs.length + 1) + 200 * pages ≤ e then
      let a := flushRecords rs pages (e - 10) (applyAct (.record (s.store.recordFor r.1 r.2)) s)
      (a.1, a.2.1, a.2.2.1 + 1, a.2.2.2)
    else (s, e, 0, false)

/-- LOG pages of the flush, the last one partial (R464). -/
def flushPages : Nat → Nat → State → State × Nat × Bool
  | 0, _, s => (s, 0, true)
  | n + 1, e, s =>
    if 200 * (n + 1) ≤ e ∧ (tget s.vault.parts 1).mayProgram 1 = true then
      let a := flushPages n (e - 200) (applyAct (.page 1) s)
      (a.1, a.2.1 + 1, a.2.2)
    else (s, 0, false)

/-- The flush: records, then the LOG when it is among the items; its outcome stands in the contact sheet (R464). -/
def flush (items : List (Nat × Bytes)) (log : Bool) (s : State) : State :=
  let s0 := s.modStore (fun t => { t with queue := [] })
  let s1 := if log then drainSort s0 else s0
  let pages := if log then ((tget s1.vault.parts 1).buffer.length + 127) / 128 else 0
  let a := flushRecords items pages (usable (s.nat 13 0) s.store.vhold) s1
  let b := if a.2.2.2 then flushPages pages a.2.1 a.1 else (a.1, 0, false)
  b.1.modSheet (fun h => { h with
    flushRan := true, flushComplete := b.2.2, flushRecords := min 0xFF a.2.2.1, flushPages := min 0xFF b.2.1 })

/-- FINAL_STAMP (R90, R391). -/
def finalStamp (s : State) : Nat × Bytes := (0x11, leBytes 8 s.now)

/-! ### HOLDOVER by triggers 10 and 11 -/

/-- A mode is entered: MODE_WORD, MODE_CHANGE, event 0x0401 and the stored mode (R41, R116, R120, R133). -/
def enterMode (m : Mode) (trig : Nat) (s : State) : State :=
  let old := s.power.mode
  emit 3 0x0401 (leBytes 1 old.code ++ leBytes 1 m.code ++ leBytes 1 trig) 0 0xFF
    (((s.modPower (fun p => { p with mode := m, previous := old, changes := wrapAdd 16 p.changes 1, moving := none, entry := s.now })).modHost
      (fun h => h.raise irqMode)).modSheet (fun h => { h with lastMode := if m = .holdover then some old else some m }))

/-- Trigger 10 or 11 enters HOLDOVER without drain, unless the mode is HOLDOVER already (R115, R118, R463). -/
def holdoverBy (trig : Nat) (s : State) : State :=
  (if s.power.mode = .holdover then s else enterMode .holdover trig (endSessions s)).modSheet (fun h => { h with faultStamp := s.now })

/-! ### What a reset leaves -/

/-- Records that the vault's page buffers keep: those of LOG, whose numbers are given; the others are lost and their numbers
are taken again (R405, R411, R464). -/
def resetPart (i : Nat) (p : Part) : Part :=
  if i = 1 then { p with starved := false }
  else { p with buffer := [], nextNo := p.endNo, starved := false }

/-- An image being written keeps what stands in programmed pages; NEXT_OFFSET falls back to it (R451). -/
def Image.kept (i : Image) : Image :=
  let b := i.bytes.take i.programmed
  if 1 < i.state then i
  else { i with bytes := b, release := if 12 ≤ b.length then i.release else 0, rollback := if 16 ≤ b.length then i.rollback else 0 }

/-- Airtime at a reset: a transmission that has not emitted releases its reservation, one that is cut keeps it and ends now
(R243). -/
def airtimeKept (s : State) : Uhf :=
  let emitted := s.uhf.state == .txRamp || s.uhf.state == .tx || s.uhf.state == .txDown
  let u := match s.uhf.serving with
    | some r =>
      if r.kind ≠ .tx then s.uhf
      else if emitted then { s.uhf with txCount := wrapAdd 32 s.uhf.txCount 1, lastEnd := tmod s.uhf.lastEnd r.band (fun _ => s.now) }
      else (s.uhf.roll s.now).release r
    | none => s.uhf
  (s.uhf.queue.filter (fun r => r.kind == .tx)).foldl (fun v r => (v.roll s.now).release r) u

/-- The M die is in reset: what PD0 AON, the F die, the media and the retained banks hold stays; the rest is as after
power-on. A ranging session ends without verdict before it (R261). A session left EXPOSING waits for replay (R42, R88, R95, R100, R104, R138, R243, R357, R381, R451, R460). -/
def mdieReset (cause : Nat) (before : State) : State :=
  let s := endSessions before
  let z := ({} : State)
  let air := airtimeKept s
  { s with
    host := { z.host with idFixer := s.host.idFixer, fixRev := s.host.fixRev }
    ev := z.ev
    stew := z.stew
    expo := { z.expo with sessions := s.expo.sessions.map (fun x => if x.state = .exposing then x else {}) }
    time := { s.time with fine := false, trimFrom := none, routing := [], shutters := z.time.shutters, captures := z.time.captures }
    power := { s.power with
      moving := none, waiting := [], modeTicket := none, canWakeUntil := none
      domains := s.power.domains.mapFinIdx (fun i d _ => if i ≤ 1 then d
        else if d.state = .on then { d with state := .off, onTime := d.onTime + (s.now - d.since) } else { d with state := .off }) }
    eave := { s.eave with depth := 4, wakeAt := none, waking := none }
    store := { s.store with
      queue := [], running := none, parts := [], charterNew := none, holding := false, compacting := none, recoverDue := true }
    vault := { s.vault with parts := s.vault.parts.mapFinIdx (fun i p _ => resetPart i p), hostWaits := [] }
    safe := { z.safe with
      sort := s.safe.sort, moved := s.safe.moved, lostNow := s.safe.lostNow, lostFirst := s.safe.lostFirst
      images := s.safe.images.map Image.kept, runs := s.safe.runs, lidOpen := s.safe.lidOpen, lidClosed := s.safe.lidClosed
      stowAt := s.safe.stowAt, released := s.safe.released }
    lane := z.lane
    mem := { z.mem with
      log := s.mem.log, repairs := s.mem.repairs
      banks := s.mem.banks.map (fun b => { b with corrected := 0, sinceEvent := 0, lastEvent := none }) }
    access := { z.access with silent := s.access.silent, cycles := s.access.cycles }
    lf := { s.lf with jobs := [], seqs := [] }
    uhf := { z.uhf with
      ledger := air.ledger, minute := air.minute, lastEnd := air.lastEnd, gnt := s.uhf.gnt, lockFails := s.uhf.lockFails
      txCount := air.txCount, rxPackets := s.uhf.rxPackets, maskWarned := s.uhf.maskWarned }
    range := { s.range with
      tdcOk := false, tdcDue := true, session := none, waiting := [], calib := none, cables := [], ended := [] }
    sw := { z.sw with freeMin := s.sw.freeMin, leaks := s.sw.leaks }
    ciph := { s.ciph with ctx := z.ciph.ctx, off := false, recent := [] }
    grain := { z.grain with
      fails := s.grain.fails, lastFail := s.grain.lastFail, failures := s.grain.failures, startups := s.grain.startups
      bytesOut := s.grain.bytesOut, reserve := s.grain.reserve, mask := s.grain.mask }
    sheet := { s.sheet with resetCause := cause, resetStamp := s.now }
    boot := { s.boot with phase := .warm, cause } }

/-! ### Image states (R450, R453) -/

/-- A record written outside the operation queue, by the Safelight. -/
def writeNow (k : Nat) (d : Bytes) (s : State) : State := applyAct (.record (s.store.recordFor k d)) s

/-- A new state record of an image partition (R450): one more page of the vault. -/
def setImage (n : Nat) (f : Image → Image) (s : State) : State :=
  (s.modSafe (fun x => { x with images := tmod x.images n (fun i => { f i with writeSeq := s.vault.writeSeq }) })).modVault
    (fun v => { v with writeSeq := v.writeSeq + 1 })

/-- Event 0x0F05 (R458). -/
def imageEvent (n : Nat) (s : State) : State :=
  let i := tget s.safe.images n
  emit 4 0x0F05 (leBytes 1 n ++ leBytes 1 i.state ++ leBytes 1 i.boots ++ zeros 1 ++ leBytes 4 i.rollback) 0 0xFF s

/-- UPDATE.BOOT returns to the other image, without an exposure and without raising CONFIG_GEN (R453). -/
def bootReturn (n : Nat) (s : State) : State :=
  if s.nat 15 6 = n then
    let v : Int := ((1 - n : Nat) : Int)
    (itemRecords { id := settingId 15 6 0, val := .value v }).foldl (fun t r => writeNow r.1 r.2 t)
      (s.modConf (fun c => c.put (settingId 15 6 0) v))
  else s

/-- The trial image becomes REJECTED (R453). -/
def rejectTrial (s : State) : State :=
  let n := s.safe.runs
  bootReturn n (imageEvent n (setImage n (fun i => { i with state := 5 }) (s.modSafe (fun f => { f with trialEnd := none }))))

/-- A fault of trigger 11 (R467, R468): event 0x0112 and HOLDOVER, the flush of items 1, 2, 5 and, but after a die-link
fault, 6, then the reset. A trial that runs is rejected (R453). -/
def stewardFault (kind addr : Nat) (s : State) : State :=
  let s1 := holdoverBy 11 (emit 1 0x0112 (leBytes 1 kind ++ zeros 3 ++ leBytes 4 addr) 0 0xFF s)
  let s2 := if s1.safe.trialEnd.isSome then rejectTrial s1 else s1
  let s3 := flush (owedCommit s2 ++ [finalStamp s2]) (kind != 3) (finishRunning s2)
  mdieReset (kind + 2) (s3.modSheet (fun h => { h with faultResets := satAdd 0xFFFFFFFF h.faultResets 1 }))

end Sys2Proof.Machine
end

