-- ==== Sys2Proof/Machine/Safe.lean ====
section
/-! DEFINITION. The Safelight (16_safelight.md): sensors and their thresholds (R443–R445), lid and mesh (R446), the log sort
buffer (R447, R448), Steward images and trials (R449–R455), guard violations of every master (R428), and the commands of
class 0x0F (R456, R457). -/

namespace Sys2Proof.Machine

/-! ### Sensors -/

/-- Where a result lies: 0 inside by 2 % of the range, 1 below LOW, 2 above HIGH, 3 between (R445). -/
def resultClass (n : Nat) (v : Int) (s : State) : Nat :=
  let low := s.get 15 1 n
  let high := s.get 15 2 n
  let width := (sensorRange n).2 - (sensorRange n).1
  if n = 14 ∨ n = 15 then 0
  else if v < low then 1
  else if high < v then 2
  else if width ≤ (v - low) * 50 ∧ width ≤ (high - v) * 50 then 0
  else 3

/-- The state after a result of class `c` (R445): two consecutive results judge it, and the first two after a reset end
NOT_CONVERTED. -/
def Sensor.judge (x : Sensor) (c : Nat) : Nat :=
  if x.count = 0 then 3
  else if x.prior = c ∧ c = 1 then 1
  else if x.prior = c ∧ c = 2 then 2
  else if x.state = 3 then 0
  else if x.prior = c ∧ c = 0 then 0
  else x.state

/-- A result enters the sensor: VALUE, stamp, minimum, maximum and state (R444, R445). -/
def Sensor.result (x : Sensor) (v : Int) (stamp c : Nat) : Sensor :=
  { x with
    value := v, stamp, min := if x.count = 0 then v else Min.min x.min v, max := if x.count = 0 then v else Max.max x.max v
    state := x.judge c, count := Min.min 2 (x.count + 1), prior := c }

/-- Event 0x0F01 (R458). -/
def sensorEvent (n kind st : Nat) (v : Int) (s : State) : State :=
  emit 4 0x0F01 (leBytes 1 n ++ leBytes 1 kind ++ leBytes 1 st ++ zeros 1 ++ leBytes 4 (unsext 32 v)) (0x70 + n) 0xFF s

/-- A running LF sequence is ended by the drivers going off: an access cycle is skipped, a command completes LF_ABORTED
(R216, R443). -/
def lfHotOff (s : State) : State :=
  match liveSeqs s with
  | q :: _ =>
    let s1 := (cutSeq q {} s).modLf (fun l => { l with seqs := [] })
    if q.who = 0 then skipAccess St.lfHot s1 else cutJob St.lfAborted q {} s1
  | [] => s

/-- A running emission is cut with the PA off; its ticket completes ABORTED and its airtime stays charged (R233, R443). -/
def paHotOff (s : State) : State :=
  match s.uhf.serving with
  | some r =>
    if r.kind = .tx ∧ (s.uhf.state = .txRamp ∨ s.uhf.state = .tx ∨ s.uhf.state = .txDown) then
      uhfDone St.aborted (txReply s.uhf.started s.now r.airtime r.power 0 r.band 0)
        (emit 0x00A 0x0702 (leBytes 4 (r.freq / 1000) ++ leBytes 4 r.airtime ++ leBytes 1 (unsext 8 r.power)
            ++ leBytes 1 (b1 r.clamped + 2)) 0 r.ticket ((signalEdge 0x60 false s).modUhf (fun u => { u with
          txCount := wrapAdd 32 u.txCount 1, lastEnd := tmod u.lastEnd r.band (fun _ => s.now) })))
    else s
  | none => s

/-- The fixed actions of sensors 0 and 1 at 150 °C or above, with event 0x0F01 kind 2 when the value reaches it (R443). -/
def fixedAction (n : Nat) (v old : Int) (s : State) : State :=
  let hot (m : Nat) : Bool := decide (1500 ≤ (tget s.safe.sensors m).value)
  let s1 := s.modSafe (fun f => { f with overTemp := hot 0 || hot 1 })
  if 1500 ≤ v ∧ n ≤ 1 then
    let s2 := if old < 1500 then sensorEvent n 2 (tget s.safe.sensors n).state v s1 else s1
    lfHotOff (if n = 0 then paHotOff s2 else s2)
  else s1

/-- A result of sensor `n` at a stamp (R444, R445). -/
def convert (n : Nat) (v : Int) (stamp : Nat) (s : State) : State :=
  let r := sensorRange n
  let v := max r.1 (min r.2 v)
  let x := tget s.safe.sensors n
  let y := x.result v stamp (resultClass n v s)
  let s1 := s.modSafe (fun f => { f with sensors := tmod f.sensors n (fun _ => { y with trig := none }) })
  let known (st : Nat) : Nat := if st = 3 then 0 else st
  let s2 := if known y.state = known x.state then s1 else sensorEvent n 0 y.state v s1
  let s3 := if n = 5 then s2.modStore (fun t => { t with vhold := v.toNat }) else if n = 3 then s2.modBoot (fun b => { b with vbat := v.toNat }) else s2
  let s4 := fixedAction n v (if x.count = 0 then -550 else x.value) s3
  if n = 0 then uhfTemperature (lfTemperature v s4) else s4

/-- Stamp from which the period of a sensor counts: its last conversion, for sensor 9 no earlier than the stamp from which XF
runs without a break (R444; log entry 212). -/
def convertFrom (n : Nat) (s : State) : Nat :=
  let x := tget s.safe.sensors n
  if n = 9 then max x.stamp s.time.fineAt else x.stamp

/-- XF has run for the sensor's period, for sensor 9; VBAT lies within 9–38 V, for sensor 12 (R444). -/
def mayConvert (n : Nat) (s : State) : Bool :=
  if n = 9 then s.time.fine && decide (s.eave.depth ≤ 2)
  else if n = 12 then decide (9000 ≤ (tget s.safe.sensors 3).value) && decide ((tget s.safe.sensors 3).value ≤ 38000)
  else true

/-- SENSOR_CONVERSION (R443, R444): for a router trigger that waits, with the trigger's stamp, or at its period. -/
def execSensorConversion (n : Fin 16) (v : Int) (routed : Bool) (s : State) : Out :=
  .next (
    let x := tget s.safe.sensors n.val
    if mayConvert n.val s = false then s
    else if 14 ≤ n.val then (if routed then (match x.trig with
        | some t => convert n.val v t s
        | none => s) else atDue (x.stamp + lsbOfMs 1) s (fun t => convert n.val v t.now t))
    else if s.powered 2 = false then s
    else if routed then
      match x.trig with
      | some t => if n.val = 9 ∧ s.now < s.time.fineAt + lsbOfMs (s.nat 15 0 9) then s else convert n.val v t s
      | none => s
    else if s.nat 15 0 n.val = 0 then s
    else if x.count = 0 ∧ n.val ≠ 9 then convert n.val v s.now s
    else atDue (convertFrom n.val s + lsbOfMs (s.nat 15 0 n.val)) s (fun t => convert n.val v t.now t))

/-- STOW_CHECK (R442): in STOWED every SAFE.STOW_CHECK PD2 SAFE wakes for one conversion of each sensor. -/
def execStowCheck (s : State) : Out :=
  .next (if s.power.mode = .stowed ∧ s.boot.phase = .run then
      atDue (max s.safe.stowAt s.power.entry + lsbOfS (s.nat 15 4)) s (fun t =>
        requestAll [2] (t.modSafe (fun f => { f with
          stowAt := t.now, sensors := f.sensors.map (fun x => { x with trig := some (x.trig.getD t.now) }) })))
    else s)

/-! ### Lid and mesh (R446) -/

/-- TAMPER_ACTION: key slots 1–15 and 32–63 that hold a key are erased, and release ends with the release slot's key; the
cause that event 0x0B02 gives is open, a free value (R159, R353, R446). -/
def tamper (s : State) : State :=
  let slots := ((upFrom 1 15) ++ (upFrom 32 32)).filter (fun n => (s.kslot n).ver.isSome || (s.kslot n).shadow.isSome)
  let s1 := slots.foldl (fun t n => (eraseSlot n (Config.freeNat s.free % 256) .nothing t).1)
    (s.useFree.modSafe (fun f => { f with tamper := true }))
  match (if releasing s1 then releaseStop s1 else none) with
  | some r => endRelease r s1
  | none => s1

/-- A comparator fires: event 0x0F02, and the keys are erased while SAFE.TAMPER_ACTION is 1 (R446, R458). -/
def comparator (kind : Nat) (s : State) : State :=
  let act := s.nat 15 3 == 1
  let s1 := if act then tamper s else s
  report 4 0x0F02 (leBytes 1 kind ++ leBytes 1 (b1 act)) (if kind = 2 then 0x7E else 0x7F) s1

/-- The lid opens: it counts once the lid has been closed for 1 s (R446). -/
def lidOpens (s : State) : State :=
  let counts := match s.safe.lidClosed with
    | some t => decide (t + oneSec ≤ s.now)
    | none => true
  let s1 := s.modSafe (fun f => { f with lidOpen := true })
  if counts then comparator 0 s1 else s1

/-- The mesh breaks: latched permanently (R446). -/
def meshBreaks (s : State) : State :=
  comparator 2 ((s.modSafe (fun f => { f with meshOpen := true })).modStore (fun t => { t with meshBroken := true }))

/-- LID_MESH (R446): kind 0 the lid opens, 1 it closes, 2 the mesh breaks. A change wakes PD2 SAFE. -/
def execLidMesh (kind : Nat) (s : State) : Out :=
  .next (
    let s1 := requestAll [2] s
    match kind with
    | 0 => if s.safe.lidOpen then s else lidOpens s1
    | 1 => if s.safe.lidOpen then
        report 4 0x0F02 (leBytes 1 1) 0x7F (s1.modSafe (fun f => { f with lidOpen := false, lidClosed := some s.now }))
      else s
    | 2 => if s.safe.meshOpen then s else meshBreaks s1
    | _ => s)

/-! ### The log (R447, R448) -/

/-- The loss record is the first record kept once there is space (R448). -/
def reportLoss (s : State) : State :=
  if s.safe.lostNow = 0 ∨ 2048 ≤ s.safe.sort.length then s
  else
    let d := (lossRecord s.safe 0 0).data
    emit 4 0x0F04 d 0 0xFF (s.modSafe (fun f => { f with lostNow := 0 }))

/-- A record moves to the page buffer with every record held with a lower key, lowest first (R447). -/
def moveLog (r : EvRec) (s : State) : State :=
  let go := (s.safe.sort.filter (fun x => decide (x.2.key ≤ r.key))).mergeSort (fun a b => decide (a.2.key ≤ b.2.key))
  let s1 := s.modSafe (fun f => { f with
    sort := f.sort.filter (fun x => !decide (x.2.key ≤ r.key)), moved := max f.moved r.key })
  reportLoss (go.foldl (fun t x => appendRecord 1 x.2.bytes t) s1)

/-- One record moves alone: a key below one already moved (R447). -/
def moveLate (x : Nat × EvRec) (s : State) : State :=
  reportLoss (appendRecord 1 x.2.bytes (s.modSafe (fun f => { f with sort := f.sort.filter (· != x) })))

/-- LOG_SORT_EXPIRE (R447): the oldest record has been held for SAFE.LOG_SORT; a record below one already moved goes at
once. -/
def execLogSortExpire (s : State) : Out :=
  .next (if s.powered 2 = false then s
    else match s.safe.sort.find? (fun x => decide (x.2.key < s.safe.moved)) with
    | some x => moveLate x s
    | none => match s.safe.sort with
      | x :: _ => atDue (x.1 + lsbOfMs (s.nat 15 5)) s (moveLog x.2)
      | [] => s)

/-- The Safelight restarts, with event 0x0F03; records in transit are counted as lost, and thresholds are judged afresh on
two results (R441, R455). -/
def safeRestart (cause lost : Nat) (s : State) : State :=
  let s1 := s.modSafe (fun f => { f with
    restarts := satAdd 0xFF f.restarts 1, sensors := f.sensors.map (fun x => { x with prior := 3 })
    lostNow := f.lostNow + lost, lostFirst := if f.lostNow = 0 then s.now else f.lostFirst, lost := satAdd 0xFFFFFFFF f.lost lost })
  emit 4 0x0F03 (leBytes 1 cause ++ zeros 1 ++ leBytes 2 (min 0xFFFF lost)) 0 0xFF (reportLoss s1)

/-- SAFELIGHT_RESTART (R441): its watchdog expires. -/
def execSafelightRestart (cause : Nat) (lost : Nat) (s : State) : Out :=
  .next (if s.powered 2 = true ∧ cause ≤ 1 then safeRestart cause lost s else s)

/-! ### Guard violations (R428) -/

/-- What a violation does to its master (R428). A storage operation without a ticket of its own stays in the queue and is tried
again. -/
def guardOutcome (h : GuardHit) (s : State) : State :=
  match h.master.val with
  | 0 => match s.range.session with
    | some x => drainRanging (noVerdict x 2 s)
    | none => s
  | 1 => match s.access.cyc with
    | some c => skipCycle c 1 St.internal s
    | none => s
  | 2 => match (List.range 8).find? (fun c => (tget s.ciph.ctx c).isSome) with
    | some c => endJob St.cipherFault c s
    | none => s
  | 3 => match s.sw.frames.find? (fun f => f.copies.any (fun c => c.port == 24 || c.port == 26)) with
    | some f =>
      let p := if f.copies.any (fun c => c.port == 24) then 24 else 26
      count p 6 (dropHead p f s)
    | none => s
  | 4 => if s.stew.running then stewardFault 2 h.addr s else s
  | 5 => if s.powered 2 then safeRestart 1 0 s else s
  | 6 => match s.store.queue with
    | o :: os =>
      let s1 := s.modStore (fun t => { t with queue := os })
      match o.then_ with
      | .keyErased tk => complete tk St.internal [] s1
      | .charterLocked tk => complete tk St.internal [] s1
      | .hostCleared tk => complete tk St.internal [] s1
      | .imageErased tk _ => complete tk St.internal [] s1
      | .keySlot n gen => match installTicket n gen s1 with
        | some tk => complete tk St.internal [] (s1.modSlot n (fun k => { k with shadow := none }))
        | none => s
      | .pendingSet => endPending St.internal 0 .checked s1
      | _ => s
    | [] => s
  | _ => dmaViolation s

/-- GUARD_VIOLATION (R426–R428, R433): an access that the guards permit is no violation. -/
def execGuardViolation (g : GuardHit) (s : State) : Out :=
  .next (let v := yieldFor g s
    match violation v g with
    | some k => guardOutcome g (logViolation k g v)
    | none => v)

/-! ### Images and trials (R449–R453) -/

/-- The rollback counter c (R397). -/
def State.rollback (s : State) : Nat := s.store.counterValue 0x1060

/-- R453 could load the image. -/
def loadable (s : State) (i : Image) : Bool :=
  i.loads && ((i.state == 3 && decide (i.boots < 3)) || (i.state == 4 && decide (s.rollback ≤ i.rollback)))

/-- The trial image becomes CONFIRMED: event 0x0F05, and the rollback counter rises to ROLLBACK unit by unit (R453). -/
def confirmTrial (s : State) : State :=
  let n := s.safe.runs
  let s1 := imageEvent n (setImage n (fun i => { i with state := 4 }) (s.modSafe (fun f => { f with trialEnd := none })))
  (List.range ((tget s.safe.images n).rollback - s.rollback)).foldl (fun t _ => bumpCounter 0x1060 .nothing t) s1

/-- The trial is rejected and the M die resets into the other image (R453). -/
def failTrial (s : State) : State := mdieReset 7 (finishRunning (rejectTrial s))

/-- TRIAL_WINDOW_EXPIRE (R453). -/
def execTrialWindowExpire (s : State) : Out :=
  .next (match s.safe.trialEnd with
    | some e => if s.stew.running then
        atDue e s (fun t => if t.nat 15 9 = 1 then confirmTrial t else failTrial t) else s
    | none => s)

/-- HEARTBEAT_TIMEOUT (R453): HEARTBEAT has not started within 5 s of the release from reset. -/
def execHeartbeatTimeout (s : State) : Out :=
  .next (match s.safe.trialEnd with
    | some _ => if s.host.heartbeatSeen then s else atDue (s.safe.released + 5 * oneSec) s failTrial
    | none => s)

/-- UPDATE.BEGIN: the partition is erased; it completes when that is done (R451, R455, R457). -/
def execUpdateBegin (tk : Fin 128) (s : State) : Out :=
  .next (command tk.val 0x0F04 (fun w s =>
    let n := u8At w.req.payload 0
    let i := tget s.safe.images n
    if s.safe.trialEnd.isSome then complete tk.val St.updateBusy [] s
    else if n = s.safe.runs ∨ (loadable s i = true ∧ loadable s (tget s.safe.images (1 - n)) = false) then
      complete tk.val St.updateSlot [] s
    else enqueue [{ act := .blockErase (2 + n), then_ := .imageErased tk.val n }] (start tk.val s)) s)

/-- Length of a whole image by its header (R449). -/
def imageLength (b : Bytes) : Nat := 256 + u32At b 16

/-- Pages that are due to be programmed: whole ones, and the last once the image is complete (R410, R451). -/
def pagesDue (i : Image) (queued : Nat) : Nat :=
  let whole := i.bytes.length / 4096
  let all := if 256 ≤ i.bytes.length ∧ i.bytes.length = imageLength i.bytes then (i.bytes.length + 4095) / 4096 else whole
  all - (i.programmed + 4095) / 4096 - queued

/-- UPDATE.WRITE: data only at NEXT_OFFSET (R451, R457). -/
def execUpdateWrite (tk : Fin 128) (s : State) : Out :=
  .next (command tk.val 0x0F05 (fun w s =>
    let p := w.req.payload
    let n := u8At p 0
    let i := tget s.safe.images n
    if s.safe.trialEnd.isSome then complete tk.val St.updateBusy [] s
    else if 1 < i.state ∨ u32At p 4 ≠ i.bytes.length then complete tk.val St.updateSequence (leBytes 4 i.bytes.length) s
    else
      let b := i.bytes ++ p.drop 8
      let s0 := if i.state = 0 then setImage n (fun i => { i with state := 1 }) s else s
      let s1 := s0.modSafe (fun f => { f with images := tmod f.images n (fun i => { i with
        bytes := b, release := if 12 ≤ b.length then u32At b 8 else 0, rollback := if 16 ≤ b.length then u32At b 12 else 0 }) })
      let queued := (s1.store.running.toList ++ s1.store.queue).countP (fun o => o.act == .page (2 + n))
      let k := pagesDue (tget s1.safe.images n) queued
      complete tk.val St.ok (leBytes 4 b.length) (enqueue (List.replicate k { act := .page (2 + n) }) s1)) s)

/-- The header obeys R449 and COMPAT names the running M-die revision. -/
def headerOk (b : Bytes) : Bool :=
  slice b 0 4 == [0x50, 0x52, 0x53, 0x46] && u16At b 4 == 1 && u16At b 6 == 0 && u32At b 8 / 2 ^ 24 == 4 &&
    decide (16 ≤ u32At b 16) && decide (u32At b 16 ≤ 1572864) && u32At b 16 % 16 == 0 &&
    (u16At b 20).testBit Config.dieRevision.toNat && u16At b 22 == 0 && allZero (slice b 80 112) &&
    decide (b.length ≤ imageLength b)

/-- Hash of the decrypted payload, and the signature over bytes 0–191 under the Steward root (R449). -/
def imageSigned (key b : Bytes) : Bool :=
  sha256 (ctr key (slice b 32 16) (b.drop 256)) == slice b 48 32 &&
    p256Verify stewardRoot (sha256 (b.take 192)) (slice b 192 64)

/-- A VERIFY that fails on header, hash or signature makes the image INVALID (R450). -/
def imageInvalid (tk n st : Nat) (s : State) : State :=
  complete tk st [] (imageEvent n (setImage n (fun i => { i with state := 6 }) s))

/-- UPDATE.VERIFY (R451, R455, R457): it reads the image back once its last page is programmed, and decrypts it in the cipher
engine (R356, R363, R365, R381, R449). -/
def execUpdateVerify (tk : Fin 128) (s : State) : Out :=
  .next (command tk.val 0x0F06 (fun w s =>
    let n := u8At w.req.payload 0
    let i := tget s.safe.images n
    let slot := s.nat 15 7
    let c := s.rollback
    if s.safe.trialEnd.isSome then complete tk.val St.updateBusy [] s
    else if i.state ≠ 1 ∨ i.bytes.length < 256 then complete tk.val St.updateSequence [] s
    else if headerOk i.bytes = false then imageInvalid tk.val n St.updateImageInvalid s
    else if i.bytes.length < imageLength i.bytes then complete tk.val St.updateSequence [] s
    else if i.programmed < i.bytes.length then s
    else match (s.kslot slot).ver with
      | none => complete tk.val St.keyEmpty [] s
      | some v =>
        if v.usage.testBit 1 = false ∨ v.key.length ≠ 32 then complete tk.val St.keyUsage [] s
        else if s.ciph.off then complete tk.val St.engineOff [] s
        else if s.grain.state = .latched then complete tk.val St.entropyFail [] s
        else if keyReady s slot = false then s
        else if imageSigned v.key i.bytes = false then imageInvalid tk.val n St.updateSignature s
        else if i.rollback < c ∨ c + 256 < i.rollback then complete tk.val St.updateRollback [] s
        else complete tk.val St.ok (leBytes 4 i.release ++ leBytes 4 i.rollback ++ leBytes 4 c ++ zeros 4)
          (imageEvent n (setImage n (fun i => { i with state := 2 }) s))) s)

/-- Response of UPDATE.STATUS (R457). -/
def updateStatusData (s : State) : Bytes :=
  leBytes 4 s.rollback ++ leBytes 1 s.safe.runs ++ zeros 3 ++ leBytes 8 (s.safe.trialEnd.getD 0) ++
    (List.range 2).flatMap (fun n =>
      let i := tget s.safe.images n
      leBytes 1 i.state ++ leBytes 1 i.boots ++ zeros 2 ++ leBytes 4 i.release ++ leBytes 4 i.rollback ++ leBytes 4 i.bytes.length)

/-- UPDATE.STATUS. -/
def execUpdateStatus (tk : Fin 128) (s : State) : Out :=
  .next (command tk.val 0x0F07 (fun _ s => complete tk.val St.ok (updateStatusData s) s) s)

/-- UPDATE.CONFIRM (R453): COUNTER is the value the rollback counter is raised to. -/
def execUpdateConfirm (tk : Fin 128) (s : State) : Out :=
  .next (command tk.val 0x0F08 (fun _ s =>
    if s.safe.trialEnd.isNone then complete tk.val St.updateNoTrial [] s
    else complete tk.val St.ok (leBytes 4 (max s.rollback (tget s.safe.images s.safe.runs).rollback) ++ zeros 4) (confirmTrial s)) s)

/-! ### Commands (R456, R457) -/

/-- Number of the newest programmed record of a partition, 0 for none. -/
def Part.newestNo (p : Part) : Nat := p.endNo - 1

/-- Response of SAFE.STATUS. -/
def safeStatusData (s : State) : Bytes :=
  let p := tget s.vault.parts 1
  leBytes 1 (b1 s.store.meshBroken + b1 s.safe.lidOpen 1 + b1 s.safe.trialEnd.isSome 2 + b1 p.starved 3 + b1 s.safe.tamper 4)
    ++ leBytes 1 s.safe.restarts ++ leBytes 2 s.safe.sort.length ++ leBytes 4 s.safe.lost ++ leBytes 8 p.oldest
    ++ leBytes 8 p.newestNo ++ zeros 8

/-- SAFE.STATUS. -/
def execSafeStatus (tk : Fin 128) (s : State) : Out :=
  .next (command tk.val 0x0F01 (fun _ s => complete tk.val St.ok (safeStatusData s) s) s)

/-- Tile payload of SAFE.SENSOR_READ. -/
def sensorData (x : Sensor) : Bytes :=
  leBytes 4 (unsext 32 x.value) ++ leBytes 1 x.state ++ zeros 3 ++ leBytes 8 x.stamp ++ leBytes 4 (unsext 32 x.min)
    ++ leBytes 4 (unsext 32 x.max)

/-- SAFE.SENSOR_READ. -/
def execSafeSensorRead (tk : Fin 128) (s : State) : Out :=
  .next (fanOut tk.val 0x0F02 (fun node _ s => (s, St.ok, sensorData (tget s.safe.sensors (node - 0x70)))) s)

/-- A stored record is of a class in MASK; 0 selects every class, and records of a lost page are of none (R457). -/
def maskTakes (mask : Nat) (r : Bytes) (lost : Bool) : Bool := mask == 0 || lost || mask.testBit (u16At r 12 / 256)

/-- SAFE.LOG_READ: programmed records from FIRST on whose class MASK selects, at most COUNT. -/
def execSafeLogRead (tk : Fin 128) (s : State) : Out :=
  .next (command tk.val 0x0F03 (fun w s =>
    let q := w.req.payload
    let p := tget s.vault.parts 1
    if u64At q 0 < p.oldest ∨ p.endNo ≤ u64At q 0 then complete tk.val St.storeRange [] s
    else
      let es := ((p.readFrom (u64At q 0) p.nextNo).filter (fun e => maskTakes (u16At q 10) e.2.1 e.2.2)).take (u16At q 8)
      let head := leBytes 8 p.oldest ++ leBytes 8 p.newestNo ++ leBytes 2 es.length ++ zeros 6
      let d := head ++ es.flatMap (fun e => leBytes 8 e.1 ++ e.2.1)
      complete tk.val (if es.any (fun e => e.2.2) then St.storeDataLost else St.ok) d s) s)

end Sys2Proof.Machine
end

