-- ==== Sys2Proof/Machine/StoreIo.lean ====
section
/-! DEFINITION. The storage controller at work: recovery (R404, R403, R414), refresh (R415, R416), flush timers (R410),
wear credit (R412), retired blocks (R414), what follows a finished operation (R399), and the commands of class 0x0D
(R406, R418, R419). -/

namespace Sys2Proof.Machine

/-! ### Compaction, for refresh and recovery -/

/-- A sector is to be compacted; the one being appended gives way first (R394, R415). -/
def Store.startCompaction (t : Store) (i : Nat) : Store :=
  let t1 := if i = t.at_ then (match t.nextSector with
    | some j => { t with at_ := j }
    | none => t) else t
  if i = t1.at_ ∨ (tget t1.log i).slots.isEmpty ∨ t1.queue.any (fun o => o.act == .logErase i) then t1
  else { t1 with compacting := some (t1.compacting.getD i), queue := t1.queue ++ t1.compaction i }

/-- Refresh of a parameter-store sector (R415), with event 0x0D04. -/
def refreshSector (i cause : Nat) (s : State) : State :=
  let s1 := emit 5 0x0D04 (zeros 1 ++ leBytes 1 cause ++ leBytes 2 i ++ leBytes 1 (b1 (cause == 0))) 0 0xFF s
  let s2 := s1.modStore (fun t =>
    if i < 28 then t.startCompaction i
    else if i < 30 then (if t.queue.any (fun o => o.act == .ringErase) then t else { t with queue := t.queue ++ [{ act := .ringErase }] })
    else if i = 30 + t.ctrActive then t.swapCounters else t)
  enqueue [] s2

/-- Sectors whose head is more than 730 days old (R415). -/
def oldSectors (s : State) : List Nat :=
  let old (x : Sector) : Bool := !x.slots.isEmpty && decide (x.stamp + lsbOfS (730 * 86400) < s.now)
  (List.range 28).filter (fun i => old (tget s.store.log i)) ++
    (if old (tget s.store.ring s.store.ringActive) then [28 + s.store.ringActive] else [])

/-- A slot changed: main log and ring pair, by sector number and slot number. -/
def Store.modSlotAt (t : Store) (sector slot : Nat) (f : Slot → Slot) : Store :=
  let g (x : Sector) : Sector := { x with slots := x.slots.mapIdx (fun i y => if i + 1 = slot then f y else y) }
  if sector < 28 then { t with log := tmod t.log sector g } else if sector < 30 then { t with ring := tmod t.ring (sector - 28) g } else t

/-- A parameter-store scan: records found corrected or lost (R415, R416). -/
def paramScan (found lost : List (Nat × Nat)) (s : State) : State :=
  let s1 := found.foldl (fun u p => u.modStore (fun t => t.modSlotAt p.1 p.2 (fun y => match y with
    | .valid r _ => .valid r true
    | z => z))) s
  let s2 := lost.foldl (fun u p => u.modStore (fun t => t.modSlotAt p.1 p.2 (fun _ => .dead))) s1
  let hit := (found.map (·.1)).eraseDups
  let gone := ((lost.map (·.1)).eraseDups).filter (fun i => !hit.contains i)
  let old := (oldSectors s).filter (fun i => !hit.contains i && !gone.contains i)
  let s3 := hit.foldl (fun u i => refreshSector i 0 u) (s2.modStore (fun t => { t with paramAt := s.now }))
  let s4 := gone.foldl (fun u i => refreshSector i 2 u) s3
  old.foldl (fun u i => refreshSector i 1 u) s4

/-- PARAMETER_SCAN: every live record is read every 24 h, and at once after a loss of PD0 AON (R415). -/
def execParameterScan (found : List (Nat × Nat)) (lost : List (Nat × Nat)) (s : State) : Out :=
  .next (if s.powered 9 = false ∨ s.store.recoverDue = true then s
    else if s.store.paramAt = 0 then paramScan found lost s
    else atDue (s.store.paramAt + lsbOfS 86400) s (paramScan found lost))

/-- A vault block is refreshed, with event 0x0D04 (R415). -/
def refreshBlock (part block cause bits : Nat) (s : State) : State :=
  if s.store.queue.any (fun o => o.act == .relocate part block) then s
  else enqueue [{ act := .relocate part block }]
    (emit 5 0x0D04 (leBytes 1 1 ++ leBytes 1 cause ++ leBytes 2 (block % 65536) ++ leBytes 1 bits) 0 0xFF s)

/-- One page of a vault scan (R415, R416). -/
def scanHit (h : ScanHit) (s : State) : State :=
  let p := tget s.vault.parts h.part.val
  match p.pages[h.page]? with
  | none => s
  | some g =>
    let s1 := s.modVault (fun v => { v with parts := tmod v.parts h.part.val (fun q =>
      { q with pages := q.pages.mapIdx (fun j x => if j = h.page ∧ x.lost = false then { x with errors := h.errors } else x) }) })
    if h.lost then
      refreshBlock h.part.val g.block 2 h.bits
        (emit 5 0x0D0A (leBytes 1 h.part.val ++ zeros 3 ++ leBytes 8 g.firstNo) 0 0xFF s1)
    else if 13 ≤ h.bits then refreshBlock h.part.val g.block 0 h.bits s1
    else s1

/-- Blocks of a partition whose oldest page is more than 730 days old (R415). -/
def oldBlocks (p : Part) (now : Nat) : List Nat :=
  (p.pages.filterMap (fun g => if g.stamp + lsbOfS (730 * 86400) < now then some g.block else none)).eraseDups

/-- A full vault scan ends (R415). -/
def vaultScan (found : List ScanHit) (s : State) : State :=
  let s1 := found.foldl (fun u h => scanHit h u) (s.modVault (fun v => { v with lastScan := s.now }))
  (List.range 6).foldl (fun u i => (oldBlocks (tget s.vault.parts i) s.now).foldl (fun w b => refreshBlock i b 1 0 w) u) s1

/-- VAULT_SCAN: every STORE.SCAN_PERIOD, and at once after a loss of PD0 AON (R415). -/
def execVaultScan (found : List ScanHit) (s : State) : Out :=
  .next (if s.powered 9 = false ∨ s.store.recoverDue = true then s
    else if s.vault.lastScan = 0 then vaultScan found s
    else atDue (s.vault.lastScan + lsbOfS (86400 * s.nat 13 4)) s (vaultScan found))

/-! ### Flush timers and wear credit -/

/-- A page buffer that has waited long enough is programmed, partial if need be (R410). -/
def flushAged (part wait : Nat) (s : State) : State :=
  let p := tget s.vault.parts part
  if (freshRecords part s).isEmpty ∨ p.starved = true ∨ s.store.queue.any (fun o => o.act == .page part) then s
  else atDue (p.since + wait) s (flushPart part)

/-- LOG_FLUSH (R410). -/
def execLogFlush (s : State) : Out := .next (flushAged 1 (lsbOfS (s.nat 13 1)) s)
/-- CAPTURE_FLUSH (R410). -/
def execCaptureFlush (s : State) : Out := .next (flushAged 4 (lsbOfMs (s.nat 13 2)) s)
/-- HOST_FLUSH (R410). -/
def execHostFlush (s : State) : Out := .next (flushAged 5 (lsbOfMs (s.nat 13 3)) s)

/-- Stamp at which the wear credit of a partition reaches one block (R412). -/
def creditDue (p : Part) : Nat := p.creditAt + (creditBlock - p.credit + p.blocks * 60000 - 1) / (p.blocks * 60000)

/-- WEAR_CREDIT_GAIN: the credit of a waiting ring partition reaches one block (R412). -/
def execWearCreditGain (part : Fin 6) (s : State) : Out :=
  .next (
    let p := tget s.vault.parts part.val
    if p.starved = true ∧ isRing part.val = true ∧ p.blocks ≠ 0 then atDue (creditDue p) s (flushPart part.val) else s)

/-- SUPPLY_CHECK_RELEASE: a fresh VHOLD conversion passes the check for the waiting operation (R398). -/
def execSupplyCheckRelease (vhold : Nat) (s : State) : Out :=
  .next (if s.store.holding then pump (s.modStore (fun t => { t with vhold })) else s)

/-! ### Retired blocks -/

/-- Blocks that the running vault operation programs or erases, each with its partition: those the die can report as failed
(R414). -/
def touched (s : State) : List (Nat × Nat) :=
  match s.store.running.map (fun o => o.act) with
  | some (StoreAct.page p) => [(p, (tget s.vault.parts p).target)]
  | some (StoreAct.blockErase p) => (tget s.vault.parts p).map.map (fun b => (p, b))
  | some (StoreAct.relocate p b) =>
    (p, b) :: (if s.vault.spares = 0 then [] else ((s.vault.takeSpare b).map (fun x => (p, x.1))).toList)
  | _ => []

/-- BLOCK_RETIRED: the running program or erase fails; the block becomes grown bad, and its pages go to a spare (R414). -/
def execBlockRetired (block : Nat) (s : State) : Out :=
  .next (match (touched s).find? (fun x => x.2 == block) with
    | none => s
    | some x =>
      let s1 := s.modVault (fun v => v.retire x.1 block s.now)
      let left := s1.vault.spares
      let s2 := emit 5 0x0D05 (leBytes 2 block ++ leBytes 2 left) 0 0xFF s1
      if left ≤ s.nat 13 5 ∧ s.vault.sparesLow = false then
        emit 5 0x0D06 (leBytes 2 left) 0 0xFF (s2.modVault (fun v => { v with sparesLow := true })) else s2)

/-! ### Recovery (R403, R404) -/

/-- Data of the newest version of a key, its absence included. -/
def Store.dataOf (t : Store) (k : Nat) : Option Bytes := (t.newest k).map (·.data)

/-- Event 0x0D03 (R420). -/
def interrupted (kind back n : Nat) (s : State) : State := emit 5 0x0D03 (leBytes 1 kind ++ leBytes 1 back ++ zeros 2 ++ leBytes 4 n) 0 0xFF s

/-- Event 0x0D02 (R420). -/
def tornEvent (area n : Nat) (s : State) : State := emit 5 0x0D02 (leBytes 1 area ++ zeros 1 ++ leBytes 2 n) 0 0xFF s

/-- A torn slot, programmed to zero, at the end of its area. -/
def Store.appendDead (t : Store) (ring : Bool) : Store :=
  let add (x : Sector) : Sector := { x with slots := x.slots ++ [.dead] }
  if ring then { t with ring := tmod t.ring t.ringActive add } else { t with log := tmod t.log t.at_ add }

/-- Page content that a complete charter shadow holds (R406). -/
def Store.shadowPage (t : Store) : Option Bytes :=
  let parts := (upFrom 0x0F00 74).map t.dataOf
  if parts.all (·.isSome) ∧ (t.newest 0x0F4A).isSome then some (((parts.filterMap id).flatten).take 4096) else none

/-- What a loss of power in the middle of an operation left (R396, R399, R404, R414, R417). A cut unit or lock bit may read
either way, and a cut relocation may have its journal entry or not: a free value. -/
def recoverCut (s : State) : State :=
  let s0 := s.modStore (fun t => { t with cut := none })
  match s.store.cut with
  | none => s
  | some a => match a with
    | .record r => tornEvent (b1 (ringKey r.key)) 1 (s0.modStore (fun t => t.appendDead (ringKey r.key)))
    | .unit k => if Config.freeBool s.free then tornEvent 2 1 (s0.useFree.modStore (fun t =>
        t.setCounter { t.counter k with units := min 128 ((t.counter k).units + 1) })) else s0.useFree
    | .logErase i => interrupted 0 0 i (s0.modStore (fun t => t.eraseLog s.now i))
    | .ringErase => interrupted 0 0 (28 + s.store.ringActive) (s0.modStore (fun t => t.swapRing s.now))
    | .counterErase i => interrupted 2 0 (30 + i) (applyAct (.counterErase i) s0)
    | .charterErase => s0.modStore (fun t => t.putCharter (List.replicate 4096 0xFF))
    | .charterProgram => s0.modStore (fun t => t.putCharter (List.replicate 4096 0xFF))
    | .lockBits => if Config.freeBool s.free then s0.useFree.modStore (fun t => { t with lockA := true }) else s0.useFree
    | .page p => tornEvent 3 1 (s0.modVault (fun v => v.openPage p))
    | .blockErase p => s0.modVault (fun v => v.clear p)
    | .relocate p b => if Config.freeBool s.free then interrupted 5 0 b (s0.useFree.modVault (fun v => v.refresh p b s.now))
        else interrupted 5 1 b (s0.useFree.modVault (fun v => v.undo b))

/-- An interrupted compaction goes forward: the remaining live records are copied and the sector is erased (R404). -/
def recoverCompaction (s : State) : State :=
  match s.store.dataOf 0x0004 with
  | some d =>
    let i := u8At d 0
    if (tget s.store.log i).seq = u32At d 1 ∧ i ≠ s.store.at_ then
      let t := { s.store with compacting := some i }
      let t1 := (t.liveIn i ++ t.setTail i).foldl (fun u r => u.appendLog { r with copy := true }) t
      interrupted 0 0 i (s.modStore (fun _ => t1.eraseLog s.now i))
    else s
  | none => s

/-- An interrupted erase of a counter sector goes forward (R404). -/
def recoverCounterErase (s : State) : State :=
  match s.store.dataOf 0x0008 with
  | some d =>
    if u8At d 1 = 0 then
      let i := u8At d 0 - 30
      interrupted 2 0 (30 + i) (applyAct (.record ((s.store).recordFor 0x0008 (leBytes 1 (30 + i) ++ leBytes 1 1))) (applyAct (.counterErase i) s))
    else s
  | none => s

/-- Full bitmaps without a rollover record roll over (R404). -/
def recoverCounters (s : State) : State :=
  (s.store.counters.filter (fun c => c.units == 128)).foldl (fun u c =>
    interrupted 1 0 c.key (if u.store.freeBitmap.isSome then applyAct (.record (u.store.rollRecord c.key)) u
      else u.modStore (fun t => t.rollOver c.key))) s

/-- Records of a key whose first four bytes of data at an offset name a set. -/
def Store.namesSet (t : Store) (k off no : Nat) : Bool := (t.records k).any (fun r => r.key == k && u32At r.data off == no)

/-- Committed, void, pending or abandoned: what the records say of a set (R404). -/
def Store.setPhase (t : Store) (no : Nat) : Nat :=
  if t.namesSet 0x0001 4 no then 2 else if t.namesSet 0x0003 0 no then 3 else if t.namesSet 0x0002 0 no then 1 else 3

/-- The sets are decided; a prepared set that is not pending is abandoned (R404). -/
def recoverSets (s : State) : State :=
  let s1 := s.modStore (fun t => { t with
    sets := (t.sets.map (fun c => { c with phase := if c.phase = 3 then 3 else t.setPhase c.no })).filter (fun c => c.phase != 2) })
  (s.store.sets.filter (fun c => c.phase == 0 && s.store.setPhase c.no == 3)).foldl (fun u c => interrupted 3 1 c.no u) s1

/-- The charter page is rewritten from a complete shadow when its CRC fails, and one programmed lock bit makes both
programmed (R404). -/
def recoverCharter (s : State) : State :=
  let s1 := if charterCrc s.store.charter = u32At s.store.charter 12 then s
    else match s.store.shadowPage with
      | some p => interrupted 4 0 0 (s.modStore (fun t => t.putCharter p))
      | none => s
  s1.modStore (fun t => { t with lockA := t.lockA || t.lockB, lockB := t.lockA || t.lockB })

/-- Keys whose two best versions have one SEQ and equal rank and differ (R403). -/
def Store.conflicts (t : Store) : List Placed :=
  let all := placedIn t.log.toList ++ placedIn t.ring.toList
  all.filter (fun p => newestOf (t.placedVersions p.r.key) == some p &&
    (t.placedVersions p.r.key).any (fun q => q.r.seq == p.r.seq && q.corrected == p.corrected &&
      !(q.r.data == p.r.data && q.r.tombstone == p.r.tombstone)))

/-- Duplicates are resolved: the used content is written again with SEQ + 1 (R403). -/
def recoverConflicts (s : State) : State :=
  s.store.conflicts.foldl (fun u p =>
    emit 5 0x0D01 (leBytes 2 p.r.key ++ zeros 2 ++ leBytes 3 p.r.seq) 0 0xFF
      (applyAct (.record { p.r with seq := p.r.seq + 1 }) u)) s

/-- Recovery before the storage controller serves any request (R404). -/
def recoverStore (s : State) : State :=
  recoverCharter (recoverSets (recoverCounters (recoverCounterErase (recoverCompaction (recoverConflicts (recoverCut
    (s.modStore (fun t => { t with recoverDue := false }))))))))

/-! ### What follows a finished operation (R399) -/

/-- A reservation is granted (R190, R193, R323, R360). -/
def granted_ (k : Nat) (s : State) : State :=
  let mark := s.store.counterValue k * 1024
  if k = 0x1000 then s.modAccess (fun a => { a with relReserved := mark, relReserving := false })
  else if k = 0x1001 then s.modAccess (fun a => { a with bodyReserved := mark, bodyReserving := false })
  else if 0x1010 ≤ k ∧ k ≤ 0x104F then nonceGranted (k - 0x1010) s
  else if 0x1050 ≤ k ∧ k ≤ 0x1057 then
    s.modSw (fun w => { w with loops := tmod w.loops (k - 0x1050) (fun l => { l with reserved := mark, reserving := false }) })
  else if k = 0x1062 then t1Reached s
  else s

/-- REVISION of the charter page (R239). -/
def charterRevision (page : Bytes) : Bytes := slice page 4 4

/-- The charter page is programmed: the shadow keys receive TOMBSTONEs, the radio reads the page, and the command completes
(R241, R406, R419). -/
def charterWritten (s : State) : State :=
  match s.store.charterNew with
  | some (tk, page) =>
    let s1 := loadCharter (s.modStore (fun t => { t with charterNew := none }))
    let s2 := (upFrom 0x0F00 75).foldl (fun u k => putTombstone k u) s1
    complete tk St.ok (zeros 4) (emit 5 0x0D09 (zeros 4 ++ charterRevision page) 0 tk s2)
  | none => s

/-- HOST appends whose records are programmed complete (R419). -/
def hostAppended (s : State) : State :=
  let e := (tget s.vault.parts 5).endNo
  (s.vault.hostWaits.filter (fun h => decide (h.no < e))).foldl (fun u h =>
    match u.work h.ticket with
    | some w => complete h.ticket St.ok (leBytes 8 h.no ++ leBytes 8 w.accept ++ zeros 8) u
    | none => u) (s.modVault (fun v => { v with hostWaits := v.hostWaits.filter (fun h => !decide (h.no < e)) }))

/-- After an update exposure the M die resets within 1 ms of the ticket's completion (R452). -/
def updateReset (s : State) : State := if s.safe.resetDue = some 6 then mdieReset 6 s else s

/-- A page has been programmed: appends complete, and a buffer that still holds a full page goes on (R410, R419). -/
def pageDone (part : Nat) (s : State) : State :=
  let s1 := if part = 5 then hostAppended s else s
  let p := tget s1.vault.parts part
  if (part = 2 ∨ part = 3) ∨ pageFull part p.buffer = false then s1 else flushPart part s1

/-- The continuation of an operation. -/
def afterOp (o : StoreOp) (s : State) : State :=
  match o.then_ with
  | .nothing => match o.act with
    | .page p => pageDone p s
    | _ => s
  | .keySlot n gen => slotStored n gen s
  | .keyErased tk => keyErased tk s
  | .reserved k => granted_ k s
  | .pendingSet => pendingWritten s
  | .committed => updateReset (exposeCommitted s)
  | .charterShadow => s
  | .charterErased => s
  | .charterDone => charterWritten s
  | .charterLocked tk => complete tk St.ok [] (emit 5 0x0D09 (leBytes 1 1 ++ zeros 3 ++ charterRevision s.store.charter) 0 tk s)
  | .hostCleared tk => complete tk St.ok (leBytes 8 (tget s.vault.parts 5).nextNo ++ zeros 8) s
  | .imageErased tk n => complete tk St.ok [] (s.modSafe (fun f => { f with images := tmod f.images n (fun _ => {}) }))

/-- STORE_OPERATION_DONE: the running operation has finished, and the next one is chosen (R399, R413). -/
def execStoreOperationDone (s : State) : Out :=
  .next (match s.store.running with
    | some o => pump (afterOp o (applyAct o.act (s.modStore (fun t => { t with running := none }))))
    | none => s)

/-! ### Commands (R418, R419) -/

/-- FLAGS, BLOCKS, CREDIT, OLDEST and NEWEST of a partition in STORE.STATUS. -/
def partEntry (s : State) (i : Nat) : Bytes :=
  let p := (tget s.vault.parts i).gain s.now
  let image := i == 2 || i == 3
  let pages := if image then p.programmed else p.pages.length
  leBytes 1 i ++ leBytes 1 (b1 (decide (p.capacity ≤ pages)) + b1 p.wrapped 1 + b1 p.starved 2) ++ leBytes 2 p.map.length
    ++ leBytes 4 (if isRing i then p.credit / creditBlock else 0)
    ++ leBytes 8 (if image then 0 else p.oldest) ++ leBytes 8 (if image then 0 else p.newestNo)

/-- Response of STORE.STATUS. -/
def storeStatusData (s : State) : Bytes :=
  let t := s.store
  leBytes 1 (b1 t.compacting.isSome + b1 t.holding 1 + b1 s.charterLocked 3 + b1 (charterOk t.charter) 4
      + b1 (t.sets.any (fun c => c.phase == 1) || s.expo.pending.isSome) 5) ++ zeros 1
    ++ leBytes 2 (freeSlots t) ++ leBytes 2 (liveConf t).length ++ leBytes 2 s.vault.spares ++ leBytes 4 (worstErases t)
    ++ leBytes 2 (min 0xFFFF (usable (s.nat 13 0) t.vhold / 100)) ++ leBytes 2 s.vault.grownBad ++ leBytes 8 s.vault.lastScan
    ++ leBytes 4 s.vault.relocations ++ zeros 4 ++ (List.range 6).flatMap (partEntry s)

/-- STORE.STATUS. -/
def execStoreStatus (tk : Fin 128) (s : State) : Out :=
  .next (command tk.val 0x0D01 (fun _ s => complete tk.val St.ok (storeStatusData s) s) s)

/-- A read of programmed records of a ring. -/
def readRing (tk part : Nat) (w : Work) (s : State) : State :=
  let q := w.req.payload
  let p := tget s.vault.parts part
  if u64At q 0 < p.oldest ∨ p.endNo ≤ u64At q 0 then complete tk St.storeRange [] s
  else
    let es := p.readFrom (u64At q 0) (u16At q 8)
    complete tk (if es.any (fun e => e.2.2) then St.storeDataLost else St.ok)
      (leBytes 8 p.oldest ++ leBytes 2 es.length ++ zeros 6 ++ es.flatMap (fun e => e.2.1)) s

/-- STORE.CAPTURE_READ. -/
def execStoreCaptureRead (tk : Fin 128) (s : State) : Out := .next (command tk.val 0x0D02 (readRing tk.val 4) s)

/-- STORE.HOST_READ. -/
def execStoreHostRead (tk : Fin 128) (s : State) : Out := .next (command tk.val 0x0D04 (readRing tk.val 5) s)

/-- A stored host record (R419). -/
def hostRecord (no stamp : Nat) (p : Bytes) : Bytes :=
  let d := p.drop 8
  let r := leBytes 8 no ++ leBytes 8 stamp ++ slice p 0 2 ++ leBytes 2 d.length ++ zeros 4 ++ d
  r ++ zeros ((8 - r.length % 8) % 8)

/-- STORE.HOST_APPEND: it completes when the page that holds its record is programmed. -/
def execStoreHostAppend (tk : Fin 128) (s : State) : Out :=
  .next (command tk.val 0x0D03 (fun w s =>
    let no := (tget s.vault.parts 5).nextNo
    let s1 := (start tk.val s).modTicket tk.val (fun e => { e with writeRef := no })
    let s2 := appendRecord 5 (hostRecord no w.accept w.req.payload)
      (s1.modVault (fun v => { v with hostWaits := v.hostWaits ++ [{ ticket := tk.val, no }] }))
    if (u8At w.req.payload 4).testBit 0 then flushPart 5 s2 else s2) s)

/-- STORE.HOST_CLEAR: every HOST block is erased; record numbers continue. -/
def execStoreHostClear (tk : Fin 128) (s : State) : Out :=
  .next (command tk.val 0x0D05 (fun _ s =>
    enqueue [{ act := .blockErase 5, then_ := .hostCleared tk.val }]
      ((start tk.val s).modTicket tk.val (fun e => { e with writeRef := (tget s.vault.parts 5).nextNo }))) s)

/-- The charter write of R406 begins: shadow records, the erase and the program. -/
def beginCharter (tk : Nat) (page : Bytes) (s : State) : State :=
  let t := s.store
  let recs := ((List.range 74).map (fun i => t.recordFor (0x0F00 + i) (padTo 56 (slice page (56 * i) 56)))) ++
    [t.recordFor 0x0F4A (slice page 12 4)]
  enqueue (recs.map (fun r => { act := .record r }) ++ [{ act := .charterErase }, { act := .charterProgram, then_ := .charterDone }])
    (((start tk s).modTicket tk (fun e => { e with writeRef := 0x0F4A + t.nextSeq 0x0F4A * 0x10000 })).modStore
      (fun t => { t with charterNew := some (tk, page) }))

/-- STORE.CHARTER_WRITE (R406, R419). -/
def execStoreCharterWrite (tk : Fin 128) (s : State) : Out :=
  .next (command tk.val 0x0D06 (fun w s =>
    let p := w.req.payload
    let parts := assocSet s.store.parts (u8At p 0) (slice p 4 512)
    if s.charterLocked then complete tk.val St.charterLocked [] s
    else if (u8At p 1).testBit 0 = true ∧ s.store.charterNew.isSome = true then s
    else if (u8At p 1).testBit 0 then
      let s1 := s.modStore (fun t => { t with parts := [] })
      if parts.length < 8 then complete tk.val St.badArg [] s1
      else
        let page := ((List.range 8).map (fun i => (assoc parts i).getD [])).flatten
        if charterOk page = false then complete tk.val St.charterInvalid [] s1
        else if (upFrom 0x0F00 75).any s.store.worn then complete tk.val St.storeWear [] s1
        else beginCharter tk.val page s1
    else complete tk.val St.ok [] (s.modStore (fun t => { t with parts }))) s)

/-- STORE.CHARTER_LOCK (R406). -/
def execStoreCharterLock (tk : Fin 128) (s : State) : Out :=
  .next (command tk.val 0x0D07 (fun w s =>
    if s.charterLocked then complete tk.val St.charterLocked [] s
    else if charterOk s.store.charter = false ∨ u32At s.store.charter 12 ≠ u32At w.req.payload 0 then
      complete tk.val St.charterInvalid [] s
    else enqueue [{ act := .lockBits, then_ := .charterLocked tk.val }] (start tk.val s)) s)

end Sys2Proof.Machine
end

