-- ==== Sys2Proof/Machine/Power.lean ====
section
/-! DEFINITION. Modes and the wake scheduler at work (04_modes_power_wake.md): domains switching (R124, R125), the end of a
transition and its drain (R116–R120, R504), wake pins and CAN wake (R121, R122), the choice of the sleep depth and the
wakes (R113, R114, R126–R129), and the commands of class 0x04 (R131, R132, R505). -/

namespace Sys2Proof.Machine

/-! ### Domains -/

/-- What begins when a domain reaches its working state (R124, R227, R252, R313, R375, R404). -/
def onHook (d : Nat) (s : State) : State :=
  match d with
  | 4 => secOn s
  | 5 => uhfOn s
  | 6 => rangeOn s
  | 8 => netOn s
  | 9 => pump (if s.store.recoverDue then recoverStore s else s)
  | _ => s

/-- What a domain's withdrawal ends, with a status for what runs on its tiles (R118, R227, R259, R325, R376). -/
def offHook (st d : Nat) (s : State) : State :=
  match d with
  | 4 => secOff st s
  | 5 => uhfOff st s
  | 6 => drainRanging (rangeOff st s)
  | 7 => lfOff s
  | 8 => netOff s
  | _ => s

/-- A domain is switched off. -/
def domainOff (st d : Nat) (s : State) : State :=
  if s.powered d then (offHook st d s).modPower (fun p => p.switchOff s.now d) else s.modPower (fun p => p.switchOff s.now d)

/-- Deepest depth of PD3 CORE at which a domain that needs PD3 may be switched on (R124). -/
def depthFor (d : Nat) : Nat := if d = 5 then 2 else if d = 6 then 1 else 4

/-- The domains that a domain needs are on, PD3 CORE at the depth it needs (R124). -/
def needsMet (s : State) (d : Nat) : Bool :=
  (domainNeeds d).all s.powered && decide (s.eave.depth ≤ depthFor d) && !(d == 9 && !s.powered 2 && !s.powered 3)

/-- DOMAIN_READY: a domain that is switching, with the domains it needs on, reaches its working state (R124). -/
def execDomainReady (d : Fin 10) (s : State) : Out :=
  .next (if (tget s.power.domains d.val).state = .switching ∧ d.val ≠ 3 ∧ needsMet s d.val = true then
      onHook d.val (s.modPower (fun p => p.switchOn s.now d.val))
    else s)

/-- Domains that cannot stay on without this one, and the domain itself (R124). -/
def dependents (d : Nat) : List Nat := ((List.range 10).filter (fun e => (domainNeeds e).contains d)).reverse ++ [d]

/-- FAULTS of a domain rises, with event 0x0406; a cold start has not loaded the epoch yet (R125, R132, R462). -/
def domainFault (d : Nat) (rail : Bool) (tk : Nat) (s : State) : State :=
  let s1 := s.modPower (fun p => { p with domains := tmod p.domains d (fun y => { y with faults := satAdd 0xFF y.faults 1 }) })
  let data := leBytes 1 d ++ leBytes 1 (b1 rail)
  if s.boot.phase = .cold then report 3 0x0406 data 0 s1 else emit 3 0x0406 data 0 tk s1

/-- A ticket that the fault leaves without its domain completes INTERNAL, logged with the ticket (R77, R125). -/
def failTicket (d : Nat) (rail : Bool) (tk : Nat) (s : State) : State :=
  domainFault d rail tk (if (s.ticket tk).state = .accepted ∨ (s.ticket tk).state = .running then refuseWaiting tk St.internal s
    else s)

/-- A domain's fault is noted: with every ticket that it ends, or without a ticket (R77, R125). -/
def noteFault (d : Nat) (rail : Bool) (tks : List Nat) (s : State) : State :=
  match tks with
  | [] => domainFault d rail 0xFF s
  | _ => tks.foldl (fun t tk => failTicket d rail tk t) s

/-- PD3 CORE goes off after a fault, and with it the domains that need it; Eave tries again at its next booking (R125). -/
def coreOff (s : State) : State :=
  let s1 := [6, 8, 7, 5, 4].foldl (fun t e => domainOff St.internal e t) s
  ((s1.modPower (fun p => p.switchOff s1.now 3)).modTime (fun t => { t with fine := false, xsRem := 0, trimFrom := none })).modEave
    (fun e => { e with depth := 4, waking := none, wakeAt := none })

/-- DOMAIN_FAULT: a domain misses four times its on-time, PD3 CORE in a wake, or its rail is out of range: it is switched off,
with event 0x0406, and every command that waits for it completes INTERNAL (R125, R501). -/
def execDomainFault (d : Fin 10) (rail : Bool) (s : State) : Out :=
  .next (
    let x := tget s.power.domains d.val
    if d.val = 3 then
      if s.boot.phase = .dark ∨ (s.boot.phase = .run ∧ (if rail then s.powered 3 else s.eave.waking.isSome) = false) then s
      else if s.boot.phase = .run then
        noteFault 3 rail (needing .accepted (List.range 10) s ++ needing .running [4, 5, 6, 7, 8] s ++
          ((s.flight.filter (fun p => (s.ticket p.1).state == .accepted && p.2.needs.isEmpty)).map (·.1))) (coreOff s)
      else domainFault 3 rail 0xFF s
    else if d.val < 2 ∨ x.state = .off ∨ (rail = false ∧ x.state ≠ .switching) then s
    else
      let ds := if x.state = .on then dependents d.val else [d.val]
      noteFault d.val rail (needing .accepted [d.val] s ++ (if x.state = .on then needing .running [d.val] s else []))
        (ds.foldl (fun t e => domainOff St.internal e t) s))

/-! ### The end of a transition -/

/-- The checks of R52 for a re-run (R473): the status of the first that fails. -/
def judgeRerun (r : Req) (s : State) : Option Nat :=
  match opRow r.opcode with
  | none => some St.badArg
  | some o =>
    if !nodeOk s.conf.courses o.node r.node then some St.badNode
    else if !modeAllows o s then some St.deniedMode
    else if !payloadOk r.opcode r.payload then some St.badArg
    else none

/-- A ticket queued for a re-run is accepted again (R473): its response carries REPLAYED. -/
def rerun (tk : Nat) (s : State) : State :=
  match (s.ticket tk).request with
  | none => complete tk St.aborted [] s
  | some r =>
    let o := opRow r.opcode
    let needs := ((o.map (fun x => withNeeds x.needs))).getD []
    let walk := match o.map (·.node) with
      | some .zero => []
      | some _ => if r.opcode = 0x0111 then [{ node := r.node, kind := 0 }] else walkOf s.conf.courses r.node
      | none => []
    let s1 := (s.modTicket tk (fun e => { e with state := .accepted, again := true })).modStew (fun w => { w with
      works := tmod w.works tk (fun _ => some { req := r, order := w.nextOrder, accept := (s.ticket tk).acceptStamp, flags := 2
                                                t1 := (s.ticket tk).t1, walk, needs })
      nextOrder := w.nextOrder + 1 })
    match judgeRerun r s with
    | some st => complete tk st [] s1
    | none => if r.stage then s1 else requestAll needs s1

/-- Tickets that wait to be run again, in acceptance order. -/
def replaying (s : State) : List Nat :=
  ((List.range 128).filter (fun t => (s.ticket t).state == .replaying)).mergeSort
    (fun a b => decide ((s.ticket a).acceptStamp ≤ (s.ticket b).acceptStamp))

/-- Re-runs start after trigger 12 (R473). -/
def startReruns (s : State) : State := (replaying s).foldl (fun t tk => rerun tk t) s

/-- Standing time, window and origin at the entry to a mode (R115, R120, R134). -/
def entryTimes (old : Mode) (trig : Nat) (s : State) : State :=
  match s.power.mode with
  | .parked =>
    if trig = 8 then s
    else if old = .holdover then s.modPower (fun p => { p with standingFrom := s.now - lsbOfS s.sheet.standing })
    else (s.modPower (fun p => { p with standingFrom := s.now })).modSheet (fun h => { h with standing := 0 })
  | .watch => if trig = 8 ∧ s.access.fromHold = false then s else s.modPower (fun p => { p with watchFrom := s.now })
  | .approach => s.modPower (fun p => { p with fromParked := old == .parked })
  | _ => s

/-- The window of WATCH has run out (R115, R134). -/
def windowOver (s : State) : Bool := s.power.mode == .watch && decide (s.power.watchFrom + lsbOfS (60 * s.nat 4 0) ≤ s.now)

/-- The POWER.MODE_REQUEST whose own transition has ended completes (R132, R504). -/
def requestDone (trig : Nat) (s : State) : State :=
  match s.power.modeTicket with
  | none => s
  | some tk =>
    if trig = 0 then
      let from_ := ((s.work tk).map (fun w => w.aux.headD 0)).getD 0
      complete tk St.ok (modeResult 0 from_ s.now) (s.modPower (fun p => { p with modeTicket := none }))
    else s

/-- The transition ends: the mode, what it switches off, what follows from it, and the next trigger (R116–R120). -/
def finishTransition (tr : Transition) (s : State) : State :=
  let old := s.power.mode
  let s1 := entryTimes old tr.trigger (enterMode tr.target tr.trigger (denyWithdrawn s))
  let s2 := (((List.range 10).filter (fun d => permit tr.target d == .no)).reverse).foldl (fun t d => domainOff St.aborted d t) s1
  let s3 := accessMode old tr.trigger s2
  let s4 := if tr.target = .stowed then writeFloor s3 else s3
  let s5 := if tr.trigger = 12 then startReruns s4 else s4
  let s6 := if windowOver s5 = true ∧ tr.trigger = 8 then s5.modPower (fun p => { p with waiting := p.waiting ++ [7] }) else s5
  nextTrigger (requestDone tr.trigger s6)

/-- An operation of the device's own runs on tiles of a domain (R118): a cipher job, a receive window or the synthesiser, a
ranging session, an LF sequence, a copy that its port is sending. -/
def runsOn (s : State) (d : Nat) : Bool :=
  match d with
  | 4 => s.ciph.ctx.any (·.isSome)
  | 5 => accessOpen s || (s.uhf.state != .off && s.uhf.state != .idle)
  | 6 => s.range.session.isSome
  | 7 => lfBusy s
  | 8 => (List.range 28).any (fun n => maySend s n && (headCopy s n).isSome)
  | _ => false

/-- The domains of the target are ready and nothing runs on a withdrawn one (R116, R118). -/
def transitionReady (tr : Transition) (s : State) : Bool :=
  let w := withdrawn s.power.mode tr.target
  ((List.range 10).filter (fun d => d ≠ 1 ∧ permit tr.target d = .on)).all s.powered && (needing .running w s).isEmpty
    && w.all (fun d => !runsOn s d)

/-- MODE_TRANSITION_COMPLETE (R116). -/
def execModeTransitionComplete (s : State) : Out :=
  .next (match s.power.moving with
    | some tr => if s.stew.running = true ∧ transitionReady tr s = true then finishTransition tr s else s
    | none => s)

/-- DRAIN_TIMEOUT: 20 ms after the trigger what still runs on a withdrawn domain completes ABORTED (R118). -/
def execDrainTimeout (s : State) : Out :=
  .next (match s.power.moving with
    | some tr => atDue (tr.since + lsbOfMs 20) s (fun t =>
        let w := withdrawn t.power.mode tr.target
        let s1 := w.reverse.foldl (fun u d => if u.powered d then offHook St.aborted d u else u) (denyWithdrawn t)
        (needing .running w s1).foldl (fun u tk => complete tk St.aborted [] u) s1)
    | none => s)

/-- WATCH_WINDOW_EXPIRE: trigger 7 (R115). -/
def execWatchWindowExpire (s : State) : Out :=
  .next (if s.power.mode = .watch ∧ s.stew.running = true ∧ ¬s.power.waiting.contains 7 ∧
      (s.power.moving.map (·.trigger)) ≠ some 7 then atDue (s.power.watchFrom + lsbOfS (60 * s.nat 4 0)) s (trigger 7)
    else s)

/-- HOLDOVER_EXIT: replay has ended and no flush is pending: trigger 12, and an EPOCH_SAMPLE goes to the F die (R120, R461,
R462, R475). -/
def execHoldoverExit (s : State) : Out :=
  .next (if s.power.mode = .holdover ∧ s.stew.running = true ∧ s.boot.phase = .run ∧ s.power.moving = none then
      trigger 12 (sendSample (s.modHost (fun h => { h with trigger12At := some s.now })))
    else s)

/-- STANDING_TIME_MINUTE: at each minute boundary in PARKED the standing time is stored (R120). -/
def execStandingTimeMinute (s : State) : Out :=
  .next (if s.power.mode = .parked ∧ s.boot.phase = .run then
      let next := (s.sheet.standing / 60 + 1) * 60
      atDue (s.power.standingFrom + lsbOfS next) s (fun t => t.modSheet (fun h => { h with standing := next }))
    else s)

/-! ### Wake pins (R121) and CAN wake (R122) -/

/-- Filtered levels in the bit layout of PINS (R132). -/
def pinBits (p : Power) : Nat :=
  b1 p.ign + ((List.range 4).map (fun d => b1 (tget p.doors d) (d + 1))).sum + b1 p.strap 5

/-- Filtered level of a wake pin: 0 WAKE_IGN, 1–4 WAKE_DOOR[3:0]. -/
def pinLevel (p : Power) (n : Nat) : Bool := if n = 0 then p.ign else tget p.doors (n - 1)

/-- The level of a wake pin takes effect. -/
def setPin (n : Nat) (level : Bool) (s : State) : State :=
  s.modPower (fun p => if n = 0 then { p with ign := level } else { p with doors := tmod p.doors (n - 1) (fun _ => level) })

/-- Event 0x0402 (R133). -/
def pinEvent (n : Nat) (s : State) : State := emit 3 0x0402 (leBytes 1 (2 ^ n) ++ leBytes 1 (pinBits s.power) ++ leBytes 1 s.power.mode.code) 0 0xFF s

/-- An accepted level change while the Steward runs (R121). -/
def pinChange (n : Nat) (level : Bool) (s : State) : State :=
  if s.power.mode = .stowed then
    if level = true ∧ (s.nat 4 4).testBit n = true then beginWake false (pinEvent n s) else s
  else
    let s1 := beginWake false (pinEvent n s)
    if s.power.mode = .holdover then s1
    else if n = 0 then
      let s2 := accessIgn level s1
      if s.heads .drive = true ∧ level = false ∧ s1.access.state ≠ .release then trigger 6 s2 else s2
    else if level then accessDoor (n - 1) s1 else s1

/-- WAKE_PIN_CHANGE: a wake pin has held a new level for its filter time (R121). -/
def execWakePinChange (pin : Fin 5) (level : Bool) (s : State) : Out :=
  .next (if pinLevel s.power pin.val = level ∨ s.boot.phase = .dark then s
    else
      let s1 := setPin pin.val level s
      if s.boot.phase = .run then pinChange pin.val level s1 else s1)

/-- WORKSHOP_STRAP_CHANGE: the strap has held a new level for 100 ms; released in WORKSHOP it is trigger 9 (R121). -/
def execWorkshopStrapChange (level : Bool) (s : State) : Out :=
  .next (if s.power.strap = level ∨ s.boot.phase = .dark then s
    else
      let s1 := s.modPower (fun p => { p with strap := level })
      if level = false ∧ s.heads .workshop = true ∧ s.stew.running = true then trigger 9 (beginWake false s1) else s1)

/-- CAN_WAKE: CAN_RX low on ports of POWER.CAN_WAKE_MASK for two XS samples in PARKED or WATCH (R122). -/
def execCanWake (ports : BitVec 12) (s : State) : Out :=
  .next (
    let p := (ports &&& BitVec.ofNat 12 (s.nat 4 5)).toNat
    if (s.power.mode = .parked ∨ s.power.mode = .watch) ∧ p ≠ 0 ∧ s.boot.phase = .run then
      let s1 := requestAll [8] (emit 3 0x0403 (leBytes 2 p) 0 0xFF s)
      beginWake false (s1.modPower (fun q => { q with canWakeUntil := some (s.now + lsbOfMs (s.nat 4 6)) }))
    else s)

/-- A booking of Eave: its stamp, the SOURCE that owns it (R505), and the domains it needs besides PD3 CORE. -/
abbrev Booking := Nat × Nat × List Nat

/-- Domains that the operation at a fire of a shutter needs: LF for a poll or a cycle (R168, R169). -/
def shutterDomains (n : Nat) : List Nat := if n = 13 ∨ n = 15 then [7] else []

/-- The bookings of Eave: armed compares, floor writes or the check of STOWED, the EPOCH_SAMPLE, receive windows, scans of the
media, the end of POWER.WATCH_WINDOW, and the LF sequence of the first command that waits (R126, R202, R505). -/
def bookings (s : State) : List Booking :=
  (List.range 16).filterMap (fun n =>
    let h := s.shut n; if h.state = .idle then none else some (h.active, 0x40 + n, shutterDomains n)) ++
  (if s.power.mode = .stowed then [(max s.safe.stowAt s.power.entry + lsbOfS (s.nat 15 4), 4, [2])]
    else (s.time.floor.map (fun f => (f - lsbOfS 3600, 5, [9]))).toList) ++
  [(s.eave.sampleAt, 1, [])] ++ (bookedWindows s).map (fun t => (t, 0x0A, [5])) ++
  [(s.store.paramAt + lsbOfS 86400, 4, [9]), (s.vault.lastScan + lsbOfS (86400 * s.nat 13 4), 4, [9])] ++
  (if s.power.mode = .watch then [(s.power.watchFrom + lsbOfS (60 * s.nat 4 0), 3, [])] else []) ++
  (if (lfJobs s).isEmpty then [] else [(((liveSeqs s).map (·.end_)).foldl max s.now, 0x30, [7])])

/-- The earliest booking of a list, the first among equals. -/
def firstBooking (l : List Booking) : Option Booking :=
  l.foldl (fun b x => match b with
    | none => some x
    | some y => if x.1 < y.1 then some x else some y) none

/-- The next booking. -/
def nextBooking (s : State) : Option Booking := firstBooking (bookings s)

/-- The access engine is at work on a domain's tiles, or waits for the domain (R28). -/
def accessUses (d : Nat) (s : State) : Bool :=
  let a := s.access
  match d with
  | 4 => !a.checks.isEmpty
  | 5 | 7 => !a.polls.isEmpty || a.cycleDue.isSome || a.poll.isSome || a.cyc.isSome || a.locate.isSome || a.learning.isSome
  | 8 => !a.outbox.isEmpty
  | _ => false

/-- The T1 path has frames to check or to send (R63, R66). -/
def t1Uses (s : State) : Bool :=
  !s.host.t1Wait.isEmpty || (s.t1Up && (!s.host.t1Events.isEmpty || s.stew.postQ.any (fun i => match i with
    | .ticket tk => (s.work tk).any (fun w => w.t1)
    | .dup d => d.t1)))

/-- A domain has nothing to do: no command needs it and no operation of its own acts on its tiles (R113). -/
def domainIdle (d : Nat) (s : State) : Bool :=
  (needing .accepted [d] s).isEmpty && (needing .running [d] s).isEmpty && !accessUses d s && (match d with
    | 2 => s.safe.sort.isEmpty && s.safe.sensors.all (fun x => x.trig.isNone)
    | 4 => s.ciph.ctx.all (·.isNone) && s.grain.reqs.isEmpty && s.grain.run.isNone && s.grain.wires.isEmpty
        && !s.lit 6 && !t1Uses s
    | 5 => s.uhf.serving.isNone && s.uhf.queue.isEmpty && s.uhf.access.isNone && s.uhf.state != .cal
    | 6 => s.range.session.isNone && s.range.waiting.isEmpty && s.range.calib.isNone && s.range.cables.isEmpty
    | 7 => !lfBusy s && (lfJobs s).isEmpty
    | 8 => s.power.canWakeUntil.isNone && s.sw.frames.isEmpty
    | 9 => s.store.running.isNone && s.store.queue.isEmpty
    | _ => false)

/-- Microseconds by which a domain is switched on ahead of a booked use at `at_`: its on-time, of PD5 UHF the time until the
receiver is ready, with a calibration where no record will be valid and UHF.COEX_LEAD where reception asks for the air; and
POWER.WAKE_MARGIN (R124, R227). -/
def domainLead (d at_ : Nat) (s : State) : Nat :=
  (if d = 5 then (if calValidAt at_ (accessFreq s) s then 133 else 285) + (if s.nat 7 4 = 1 then s.nat 7 3 else 0)
    else onTimeUs d) + s.nat 4 2

/-- The next booked use of a domain. -/
def nextUse (d : Nat) (s : State) : Option Nat :=
  (firstBooking ((bookings s).filter (fun b => b.2.2.contains d))).map (·.1)

/-- A BK domain is switched off once it is idle and its next booked use lies more than four times its on-time away (R113), and
not nearer than Eave would switch it on again for it (log entry 198). -/
def dropIdle (d : Nat) (s : State) : State :=
  let far := match nextUse d s with
    | some t => decide (s.now + lsbOfUs (max (4 * onTimeUs d) (domainLead d t s)) < t)
    | none => true
  if permit s.power.mode d = .booked ∧ s.lit d = true ∧ domainIdle d s = true ∧ far = true ∧ s.power.moving = none then
    domainOff St.aborted d s else s

/-- Every idle BK domain goes off (R113). -/
def dropAll (s : State) : State :=
  if s.stew.running = true ∧ s.boot.phase = .run then [6, 5, 4, 7, 8, 9, 2].foldl (fun t d => dropIdle d t) s else s

/-- NET_IDLE_EXPIRE: POWER.NET_IDLE has passed without a frame on a port of the mask (R122). -/
def execNetIdleExpire (s : State) : Out :=
  .next (match s.power.canWakeUntil with
    | some t => atDue t s (fun u => dropIdle 8 (u.modPower (fun p => { p with canWakeUntil := none })))
    | none => s)

/-! ### The sleep depth (R114, R126) -/

/-- Break-even of a depth, µs (R127). -/
def breakEven : Nat → Nat
  | 2 => 100 | 3 => 6000 | 4 => 30000 | _ => 0


/-- The latency row of a depth 1–4. -/
def State.latency (s : State) (d : Nat) : Latency := tget s.eave.rows (d - 1)

/-- MAX_DEPTH: the mode's deepest depth after POWER.DEPTH_CAP (R132). -/
def maxDepth (s : State) : Nat := min (deepest s.power.mode) (s.nat 4 1)

/-- The holds on L0 (R126): a command runs or waits to, a mailbox or a response is to be served, or a transition runs. -/
def heldAwake (s : State) : Bool :=
  !s.host.doorbell.isEmpty || s.power.moving.isSome || !s.stew.postQ.isEmpty ||
    (List.range 128).any (fun t => (s.ticket t).state == .accepted || (s.ticket t).state == .running)

/-- Deepest depth that what is in use allows: HOST.HOLD and a domain booked within 1 ms that needs PD3 CORE (R126), PLL and XF
users (R114), the switch (R308), LF drive (R202), the lane (R113), the Test strip (R433), domains on or switching that need PD3
(R124), and XS not yet stable (R462). -/
def depthAllowed (s : State) : Nat :=
  let near := (bookings s).any (fun b => decide (b.1 < s.now + lsbOfMs 1) && b.2.2.any (fun d => (domainNeeds d).contains 3))
  let hold := match s.host.holdUntil with
    | some t => decide (s.now < t)
    | none => false
  let lim (c : Bool) (d : Nat) : Nat := if c then d else 4
  [maxDepth s, lim (near || hold || s.host.holdOnReady) 1, lim (s.lit 6) 1, lim (s.lit 8) 1,
   lim (lfBusy s) 1, lim s.mem.borrowed.isSome 1, lim (s.lit 5) 2, lim s.lane.hold 2, lim (!s.eave.xsStable) 2,
   lim ([4, 5, 6, 7].any s.lit) 3, lim (s.lit 9 && !s.powered 2) 3].foldl min 4

/-- LSB to the next XS edge (R85). -/
def xsWait (now : Nat) : Nat := (32768 - now % 32768) % 32768

/-- The depth Eave chooses, with the wake instant it books (R126). -/
def chooseDepth (s : State) : Nat × Option Nat :=
  let top := depthAllowed s
  let fits (next d : Nat) : Bool :=
    let gap := next - s.now
    let wait := if 3 ≤ d then xsWait s.now else 0
    decide (lsbOfUs (breakEven d) ≤ gap) && decide (wait + lsbOfUs ((s.latency d).entry + s.nat 4 2) ≤ gap)
  match nextBooking s with
  | none => (top, none)
  | some b =>
    match [4, 3, 2, 1].find? (fun d => decide (d ≤ top) && fits b.1 d) with
    | some d => (d, some (b.1 - lsbOfUs ((s.latency d).entry + s.nat 4 2)))
    | none => (1, none)

/-- A depth is entered: L3 and L4 at an XS edge, with the fine epoch stopped; at L4 PD3 CORE is off and the job buffers are
lost (R84, R85, R126, R424). -/
def enterDepth (d : Nat) (w : Option Nat) (s : State) : State :=
  let s1 := if 3 ≤ d then (reach (s.now + xsWait s.now) s).modTime (fun t => { t with fine := false, xsRem := 0, trimFrom := none }) else s
  let s2 := s1.modEave (fun e => { e with
    depth := d, wakeAt := w, rows := tmod e.rows (d - 1) (fun r => { r with entries := wrapAdd 32 r.entries 1 }) })
  if d = 4 then (s2.modPower (fun p => p.switchOff s2.now 3)).modRange (fun r => { r with traces := Vector.replicate 6 none })
  else s2

/-- The latency of the present depth and the margin, by which a wake leads its booking (R126). -/
def wakeLead (s : State) : Nat := lsbOfUs ((s.latency s.eave.depth).entry + s.nat 4 2)

/-- The next booking lies nearer than the lead of the present depth: a wake for it is no late wake (R129, R130). -/
def bookedNear (s : State) : Bool := (nextBooking s).any (fun b => decide (b.1 < s.now + wakeLead s))

/-- A booking has changed, or a hold begun, at a depth from which a wake must lead out: PD3 CORE wakes at once where a
shallower depth is needed or the next booking lies nearer than the depth's lead (which makes no late wake); Eave chooses
again, and a deeper depth is entered; otherwise the wake instant follows the booking (R126, R129, R130; log entry 199). -/
def rebook (s : State) : State :=
  if heldAwake s then beginWake false s
  else if depthAllowed s < s.eave.depth then beginWake (bookedNear s) s
  else
    let c := chooseDepth s
    if s.eave.depth < c.1 then enterDepth c.1 c.2 s
    else if bookedNear s then beginWake true s
    else s.modEave (fun e => { e with wakeAt := (nextBooking s).map (fun b => b.1 - wakeLead s) })

/-- DEPTH_CHOICE: the Steward is idle, or a booking has changed; BK domains without use go off first (R113, R126). -/
def execDepthChoice (s : State) : Out :=
  .next (if s.stew.running = false ∨ s.eave.waking ≠ none ∨ s.boot.phase ≠ .run then s
    else
      let s1 := dropAll s
      if 2 ≤ s1.eave.depth then rebook s1
      else if heldAwake s1 then s1
      else
        let c := chooseDepth s1
        if c.1 = s1.eave.depth then s1.modEave (fun e => { e with wakeAt := c.2 }) else enterDepth c.1 c.2 s1)

/-- The instant at which a booked wake starts: from L3 and L4 the last XS edge at or before the one booked (R126). -/
def wakeDue (s : State) : Option Nat :=
  if s.eave.depth = 0 ∨ s.eave.waking.isSome = true then none
  else s.eave.wakeAt.map (fun w => if 3 ≤ s.eave.depth then w - w % 32768 else w)

/-- Bookings whose domains are off, with the instant at which each domain is to be switched on (R124). -/
def switchOns (s : State) : List (Nat × Nat) :=
  (bookings s).flatMap (fun b => (b.2.2.filter (fun d => s.allows d && !s.lit d)).map (fun d =>
    (b.1 - lsbOfUs (domainLead d b.1 s), d)))

/-- The instant of the next of them. -/
def switchDue (s : State) : Option Nat := ((switchOns s).map (·.1)).min?

/-- The domains whose instant has come are switched on, and PD3 CORE wakes where it is too deep for one of them (R114,
R124). -/
def switchBooked (s : State) : State :=
  let ds := ((switchOns s).filter (fun x => decide (x.1 ≤ s.now))).map (·.2)
  let s1 := requestAll ds s
  if ds.any (fun d => decide (depthFor d < s.eave.depth) || (decide (3 < s.eave.depth) && (domainNeeds d).contains 3)) then
    beginWake true s1 else s1

/-- EAVE_WAKE: the booked wake of PD3 CORE starts, or a booked domain is switched on, whichever comes first (R28, R124,
R126). -/
def execEaveWake (s : State) : Out :=
  .next (match wakeDue s, switchDue s with
    | some w, some d => if d < w then atDue d s switchBooked else atDue w s wakeNow
    | some w, none => atDue w s wakeNow
    | none, some d => atDue d s switchBooked
    | none, none => s)
where
  /-- The wake starts. -/
  wakeNow (t : State) : State := beginWake false (t.modEave (fun e => { e with wakeAt := none }))

/-- Events of a changed latency entry (R128). -/
def entryEvent (d : Nat) (old : Latency) (s : State) : State :=
  let r := s.latency d
  if r.entry = old.entry then s
  else emit 3 0x0405 (leBytes 1 d ++ leBytes 1 (b1 r.learned) ++ zeros 2 ++ leBytes 4 r.entry) 0 0xFF s

/-- A measured wake of a depth: late when it exceeds the entry in use plus the margin (R129) or the factory value (R130),
unless its booking came too late. -/
def measure (d us : Nat) (excused : Bool) (s : State) : State :=
  let old := s.latency d
  let put (r : Latency) : State := s.modEave (fun e => { e with rows := tmod e.rows (d - 1) (fun _ => r) })
  if excused = false ∧ (old.entry + s.nat 4 2 < us ∨ factoryLatency d < us) then
    entryEvent d old (emit 3 0x0404 (leBytes 1 d ++ zeros 3 ++ leBytes 4 old.entry ++ leBytes 4 us) 0 0xFF
      ((put { old with entry := factoryLatency d, learned := false, samples := [] }).modEave (fun e => { e with
        lateWakes := satAdd 0xFFFF e.lateWakes 1 })))
  else
    let l := (us :: old.samples).take 8
    if l.length < 8 then put { old with samples := l }
    else entryEvent d old (put { old with samples := l, learned := true
                                          entry := min (factoryLatency d) ((l.foldl max 0 * 9 + 7) / 8) })

/-- The fine epoch is aligned again: from L3 and L4 at the PD0 value plus the interval measured since the last XS edge, a
free value of at most one XS period; the first FINE stamp is above every COARSE one (R87). -/
def realign (s : State) : State :=
  if s.time.fine then s
  else
    let e := min lastEpoch (s.now + 1 + Config.freeNat s.free % 32767)
    (s.modTime (fun t => { t with
      epoch := e, rem := 0, fine := true, fineAt := e, trimFrom := if s.eave.xsStable then some e else none })).useFree

/-- WAKE_MEASURED: the wake reaches L0 after `us` with the fine epoch aligned; HOST.HOLD begins where the host woke the
device (R40, R87, R128, R129). -/
def execWakeMeasured (us : Nat) (s : State) : Out :=
  .next (match s.eave.waking with
    | some w => atDue (w.since + lsbOfUs us) s (fun t =>
        let s1 := realign ((t.modEave (fun e => { e with depth := 0, waking := none, wakeAt := none })).modPower
          (fun p => p.switchOn t.now 3))
        let s2 := s1.modHost (fun h =>
          let g := { h with beatAt := s1.now + lsbOfMs 1 }
          if h.holdOnReady then { g with holdOnReady := false, holdUntil := some (s1.now + lsbOfMs (s.nat 1 8)) } else g)
        measure w.depth us w.excused s2)
    | none => s)

/-- XS_STABLE: XS has run 64 stable cycles (R462, R497); with XF running, the 64 s of the trim count from here (R85). -/
def execXsStable (s : State) : Out :=
  .next (if s.boot.phase = .dark ∨ s.eave.xsStable = true then s
    else (s.modEave (fun e => { e with xsStable := true })).modTime (fun t => { t with
      trimFrom := if s.coarse then none else some s.now }))

/-! ### Commands (R131, R132, R504, R505) -/

/-- Response of POWER.MODE_READ. WATCH_REMAIN counts a part second as a whole one (log entry 188). -/
def modeReadData (s : State) : Bytes :=
  let p := s.power
  let left := if p.mode = .watch then (p.watchFrom + lsbOfS (60 * s.nat 4 0) - s.now + oneSec - 1) / oneSec else 0
  leBytes 1 p.mode.code ++ leBytes 1 p.previous.code
    ++ leBytes 1 (b1 p.moving.isSome + b1 (p.mode == .parked && pollStopped s) 1 + b1 (p.mode == .approach && p.fromParked) 2)
    ++ leBytes 1 (maxDepth s) ++ leBytes 2 (maskOf ((List.range 10).filter (fun d => permit p.mode d == .on || permit p.mode d == .booked)))
    ++ leBytes 2 (maskOf ((List.range 10).filter s.powered)) ++ leBytes 8 p.entry
    ++ leBytes 4 (if p.mode = .parked then (s.now - p.standingFrom) / oneSec else 0) ++ leBytes 4 left ++ leBytes 2 p.changes
    ++ leBytes 1 (pinBits p) ++ zeros 5

/-- POWER.MODE_READ. -/
def execPowerModeRead (tk : Fin 128) (s : State) : Out :=
  .next (command tk.val 0x0401 (fun _ s => complete tk.val St.ok (modeReadData s) s) s)

/-- Trigger 0 of an accepted request waits for a trigger of its own cycle that acts first (R119, R504). -/
def requestWaits (tk : Nat) (s : State) : State :=
  (start tk s).modPower (fun p => { p with modeTicket := some tk }.await 0)

/-- POWER.MODE_REQUEST: MODE_BUSY during a transition; a trigger of the same cycle acts first, trigger 7 in WATCH with its
window run out among them, and the request is judged again once its transition has completed (R119, R132, R504). -/
def execPowerModeRequest (tk : Fin 128) (s : State) : Out :=
  .next (command tk.val 0x0402 (fun w s =>
    let stands := requestStands (u8At w.req.payload 0) s
    match s.power.moving with
    | some t =>
      if t.since = s.now ∧ s.power.modeTicket = none ∧ stands = true then requestWaits tk.val s
      else complete tk.val St.modeBusy [] s
    | none =>
      if windowOver s = true ∧ stands = true then trigger 7 (requestWaits tk.val s)
      else judgeRequest tk.val (start tk.val s)) s)

/-- PERMIT code (R132). -/
def Permit.code : Permit → Nat
  | .no => 0 | .booked => 1 | .on => 2 | .own => 3

/-- Entry of POWER.DOMAIN_READ. -/
def domainEntry (s : State) (d : Nat) : Bytes :=
  let x := tget s.power.domains d
  let st := if d = 1 then b1 s.lane.up else match x.state with
    | .off => 0
    | .on => 1
    | .switching => 2
  let on := if x.state = .on then x.onTime + (s.now - x.since) else x.onTime
  leBytes 1 d ++ leBytes 1 st ++ leBytes 1 (permit s.power.mode d).code ++ leBytes 1 x.faults
    ++ leBytes 4 (if d ≤ 1 then 0 else x.onCount) ++ leBytes 4 (msOfLsb on) ++ zeros 4

/-- POWER.DOMAIN_READ. -/
def execPowerDomainRead (tk : Fin 128) (s : State) : Out :=
  .next (command tk.val 0x0403 (fun _ s => complete tk.val St.ok ((List.range 10).flatMap (domainEntry s)) s) s)

/-- Response of POWER.EAVE_READ. -/
def eaveReadData (s : State) : Bytes :=
  let b := (nextBooking s).getD (0, 3, [])
  (upFrom 1 4).flatMap (fun d =>
    let r := s.latency d
    leBytes 1 d ++ leBytes 1 (b1 r.learned) ++ leBytes 1 r.samples.length ++ zeros 1 ++ leBytes 4 r.entry
      ++ leBytes 4 (breakEven d) ++ leBytes 4 r.entries)
    ++ leBytes 8 b.1 ++ leBytes 2 b.2.1 ++ leBytes 2 s.eave.lateWakes ++ zeros 4

/-- POWER.EAVE_READ. -/
def execPowerEaveRead (tk : Fin 128) (s : State) : Out :=
  .next (command tk.val 0x0404 (fun _ s => complete tk.val St.ok (eaveReadData s) s) s)

end Sys2Proof.Machine
end

