-- ==== Sys2Proof/Machine/Startup.lean ====
section
/-! DEFINITION. Reset and start (17_startup_fault_replay.md): the start sequence (R460–R462), what it restores (R90, R351,
R427, R432, R453), replay (R473–R475, R153, R405), supply and Steward faults (R463–R468), and the loss of PD0 AON (R465,
R466). -/

namespace Sys2Proof.Machine

/-! ### What a start restores from the parameter store -/

/-- Bytes of an object whose chunks begin at a key (R391). -/
def chunkBytes (t : Store) (k n : Nat) : Bytes := ((upFrom k n).filterMap t.dataOf).flatten

/-- Length of a zone map by its own fields (R177). -/
def mapLength (b : Bytes) : Nat := 32 + 12 * u8At b 1 + u8At b 2 * (4 + 2 * u8At b 1)

/-- One key of the stored configuration enters the configuration (R391). -/
def loadKey (t : Store) (c : Conf) (k : Nat) : Conf :=
  let d := (t.dataOf k).getD []
  let object (id : Nat) (b : Bytes) : Conf := { c with objects := assocSet c.objects id b }
  if 0x4000 ≤ k ∧ k ≤ 0x7FFF then
    match rowOfId (u32At d 0) with
    | some r => c.put (u32At d 0) (readValue r (slice d 4 8))
    | none => c
  else if 0x3000 ≤ k ∧ k ≤ 0x3FFF then object (objectId 10 0xF0 (k - 0x3000)) d
  else if 0x8000 ≤ k ∧ k ≤ 0xEFFF then
    if k % 16 = 0 then
      let b := chunkBytes t k 16
      { c with courses := assocSet c.courses (0x100 + (k - 0x8000) / 16) ((List.range (u16At b 0)).map (fun i => u16At b (2 + 2 * i))) }
    else c
  else if k = 0xF000 then
    let b := chunkBytes t k 17
    object zoneMapId (b.take (mapLength b))
  else if 0xF100 ≤ k ∧ k ≤ 0xF12F then
    if k % 8 = 0 then
      let b := chunkBytes t k 8
      object (objectId 10 0xF1 (12 + (k - 0xF100) / 8)) (b.take (4 + 4 * u8At b 0))
    else c
  else if 0xF200 ≤ k ∧ k ≤ 0xF20B then object (objectId 2 0xF0 (k - 0xF200)) d
  else c

/-- The stored configuration, which is in force after every reset (R153, R391). -/
def storedConf (t : Store) : Conf :=
  (liveConf t).foldl (loadKey t) { gen := ((t.dataOf 0x0001).map (fun d => u32At d 0)).getD 0 }

/-- The epoch to load, code 0 final stamp, 1 floor, 2 none, and the floor in force (R90). -/
def epochLoad (t : Store) : Nat × Nat × Option Nat :=
  let floor := (t.dataOf 0x10).map (fun d => u64At d 0)
  match ((t.records 0x11).filter (fun r => r.key == 0x10 || r.key == 0x11)).getLast? with
  | none => (0, 2, none)
  | some r => if r.key = 0x11 then (min lastEpoch (u64At r.data 0 + oneSec), 0, floor) else (floor.getD 0, 1, floor)

/-- The epoch is loaded: UNSET is set, event 0x0203 (R90, R109). -/
def loadEpoch (s : State) : State :=
  let l := epochLoad s.store
  emit 0 0x0203 (leBytes 8 l.1 ++ leBytes 1 l.2.1) 0 0xFF
    (((s.modTime (fun _ => { epoch := l.1, unset := true, usedFloor := l.2.1 == 1, floor := l.2.2 })).modSheet
      (fun h => { h with resetStamp := l.1 })).modPower (fun p => { p with domains := p.domains.map (fun d => { d with since := l.1 }) }))

/-- The events raised before the load are written with its stamp (R462). -/
def writeHeld (s : State) : State :=
  s.boot.held.foldl (fun t e => emit e.1 e.2.1 e.2.2.1 e.2.2.2 0xFF t) (s.modBoot (fun b => { b with held := [] }))

/-- High-water mark of the reservations of a counter (R397). -/
def Store.mark (t : Store) (k : Nat) : Nat := t.counterValue k * 1024

/-- A token slot from its record (R173, R391). -/
def tokFrom (d : Bytes) : TokSlot := { token := u32At d 0, state := u8At d 4, s := u32At d 5, gen := u32At d 9 }

/-- Access state, token slots and counters as stored; unused values of a reservation are skipped (R173, R183, R190, R193). -/
def restoreAccess (s : State) : State :=
  let d := (s.store.dataOf 0x20).getD (zeros 10)
  let t := s.store
  s.modAccess (fun a => { a with
    slots := Vector.ofFn (fun n : Fin 16 => ((t.dataOf (0x30 + n.val)).map tokFrom).getD {})
    suspect := u8At d 0 != 0, suspectSince := if u8At d 0 = 0 then 0 else s.now, lastInvalid := s.now
    learnGen := u32At d 1, pairId := u32At d 5, relWarned := u8At d 9 != 0
    relNext := t.mark 0x1000, relReserved := t.mark 0x1000, relUsedUp := decide (2 ^ 32 ≤ t.mark 0x1000)
    bodyNext := t.mark 0x1001, bodyReserved := t.mark 0x1001 })

/-- Loop profiles: FRESH at its high-water mark, the last value accepted as the stored one + 1,024 (R323). -/
def restoreLoops (s : State) : State :=
  let t := s.store
  s.modSw (fun w => { w with loops := Vector.ofFn (fun m : Fin 8 => {
    fresh := t.mark (loopKey m.val), reserved := t.mark (loopKey m.val)
    accepted := (t.dataOf (0xA0 + m.val)).map (fun d => min 0xFFFFFFFF (u32At d 0 + 1024)) }) })

/-- Counter key that holds the nonce reservations of a slot (R360). -/
def slotCounter (s : State) (n : Nat) : Nat := if n = s.releaseSlot then 0x1000 else nonceKey n

/-- NONCE_NEXT at the high-water mark (R360). -/
def KeySlot.resume (k : KeySlot) (mark : Nat) : KeySlot :=
  { k with nonceNext := min 0xFFFFFFFF mark, reserved := mark, reserving := false, exhausted := k.exhausted || decide (2 ^ 32 ≤ mark) }

/-- A key slot from its newest record (R351, R353). -/
def slotFrom (d : Bytes) : KeySlot :=
  let gen := u32At d 0
  match keyUnwrap deviceKey (d.drop 12) with
  | some k => if d.length ≤ 12 then { lastGen := gen } else { ver := some { verOf k (slice d 4 8) with gen }, lastGen := gen }
  | none => { lastGen := gen }

/-- After a loss of PD0 AON every slot is restored from its newest record (R351). -/
def restoreSlots (s : State) : State :=
  let t := s.store
  s.modCiph (fun c => { c with slots := Vector.ofFn (fun n : Fin 64 => match t.dataOf (0x40 + n.val) with
    | some d => (slotFrom d).resume (t.mark (slotCounter s n.val))
    | none => {}) })

/-- After another reset the slots stand; a shadow whose record is written lands, since no job is bound any more, and
another is gone (R351, R356, R405). -/
def keepSlots (s : State) : State :=
  (List.range 64).foldl (fun u n =>
    let u1 := u.modSlot n (fun k => k.resume (u.store.mark (slotCounter u n)))
    match (u.kslot n).shadow with
    | some h => if (u.store.dataOf (0x40 + n)).map (fun d => u32At d 0) = some h.ver.gen then landShadow n u1
      else u1.modSlot n (fun k => { k with shadow := none })
    | none => u1) s

/-- The COUNTERs of the T1 path (R65). -/
def restoreT1 (cold : Bool) (s : State) : State :=
  let t := s.store
  s.modSheet (fun h => { h with
    t1TxCount := max h.t1TxCount (t.mark 0x1061 - 1)
    t1Rx := if cold then (t.counterValue 0x1062 + 1) * 1024 - 1 else h.t1Rx })

/-- A first reservation of FRESH is on its way (R190, R323). -/
def reserveFresh (m : Nat) (s : State) : State :=
  if (tget s.sw.loops m).reserved < 2 ^ 32 then
    bumpCounter (loopKey m) (.reserved (loopKey m))
      (s.modSw (fun w => { w with loops := tmod w.loops m (fun l => { l with reserving := true }) }))
  else s

/-- At a start no value of a reservation remains, so new ones are written (R190, R193, R323). -/
def reserveAll (s : State) : State :=
  let s1 := reserveBody (if s.access.pairId = 0 then s else reserveRelease s)
  (List.range 8).foldl (fun u m => reserveFresh m u) s1

/-- The repair map is restored (R432). -/
def restoreBanks (s : State) : State :=
  s.modMem (fun m => { m with banks := m.banks.mapFinIdx (fun i b _ =>
    let mine := (m.repairs.filter (fun r => r.1 == i)).map (·.2)
    { b with mapped := mine, spares := 2 - mine.length }) })

/-- Guard regions 0–11 of every master are programmed and locked (R427). -/
def lockGuards (s : State) : State :=
  s.modMem (fun m => { m with guards := Vector.ofFn (fun a : Fin 8 => Vector.ofFn (fun r : Fin 16 =>
    if r.val < 12 then
      let g := Config.guardRegion a.val r.val
      { base := g.1, limit := g.2.1, perm := g.2.2 % 16 + 16 }
    else {})) })

/-! ### The Steward image (R453) -/

/-- CONFIRMED images that may run, the newest by WRITE_SEQ first (R453). -/
def confirmedImages (s : State) : List Nat :=
  (([0, 1].filter (fun n => (tget s.safe.images n).state == 4 && decide (s.rollback ≤ (tget s.safe.images n).rollback)))).mergeSort
    (fun a b => decide ((tget s.safe.images b).writeSeq ≤ (tget s.safe.images a).writeSeq))

/-- The CONFIRMED image that loads; `again` where a trial was turned away before it. -/
def loadConfirmed (again : Bool) (s : State) : State × Option (Nat × Nat) :=
  let l := confirmedImages s
  match l.find? (fun n => (tget s.safe.images n).loads) with
  | some n => (s, some (n, if again = true ∨ l.head? ≠ some n then 2 else 0))
  | none => (s, none)

/-- The image that runs and how it was chosen: 0 confirmed, 1 trial, 2 fallback (R453, R458). -/
def chooseImage (s : State) : State × Option (Nat × Nat) :=
  if s.vault.alive = false then (s, none)
  else match [0, 1].find? (fun n => (tget s.safe.images n).state == 3) with
    | some n =>
      let i := tget s.safe.images n
      if i.boots < 3 ∧ i.loads = true then (setImage n (fun x => { x with boots := x.boots + 1 }) s, some (n, 1))
      else loadConfirmed true (bootReturn n (imageEvent n (setImage n (fun x => { x with state := 5 }) s)))
    | none => loadConfirmed false s

/-! ### Replay (R473–R475) -/

/-- NODE of a replayed response: of the kept request; 0 for a command without one; the slot whose record the ticket wrote;
otherwise the contact sheet does not hold it, a free value (R471). -/
def replayNode (e : TicketEntry) (s : State) : Nat :=
  match e.request with
  | some r => r.node
  | none => match opRow e.opcode with
    | some { node := .zero, .. } => 0
    | _ => if e.cls = .c ∧ e.writeRef ≠ 0 then 0x50 + e.writeRef % 0x10000 else Config.freeNat s.free % 0x10000

/-- An outcome is posted with REPLAYED and the stamp of posting; POSTED is set before (R473, R474). -/
def postOutcome (tk : Nat) (data : Bytes) (s : State) : State :=
  let e := s.ticket tk
  let w : Work := { req := { opcode := e.opcode, node := replayNode e s }, order := s.stew.nextOrder, accept := e.acceptStamp
                    flags := 2, status := e.status, stamp := s.now, frags := fragments data, t1 := e.t1 }
  ((s.modTicket tk (fun e => { e with posted := true })).modStew (fun x => { x with
    works := tmod x.works tk (fun _ => some w), nextOrder := x.nextOrder + 1, postQ := x.postQ ++ [.ticket tk] })).useFree

/-- The recorded status and KEEP are posted again; without a kept payload LENGTH is 0 (R473). -/
def postRecorded (tk : Nat) (s : State) : State :=
  let e := s.ticket tk
  postOutcome tk (if e.keepValid then e.keep else []) (s.modTicket tk (fun e => { e with state := .completed }))

/-- A new outcome is recorded and posted (R473, R474). -/
def postNew (tk st : Nat) (data : Bytes) (s : State) : State := postOutcome tk data (s.modTicket tk (fun e => e.finish st data))

/-- The ticket is queued for a re-run (R473, R474). -/
def queueRerun (tk : Nat) (s : State) : State := s.modTicket tk (fun e => { e with state := .replaying })

/-- Data of the valid record with this KEY and SEQ (R405). -/
def Store.recordOf (t : Store) (ref : Nat) : Option Bytes :=
  ((t.records (ref % 0x10000)).find? (fun r => ref != 0 && r.key == ref % 0x10000 && r.seq == ref / 0x10000)).map (·.data)

/-- Class C tickets other than EXPOSE.EXPOSE, by what they wrote (R405, R473): the answer tells whether it rolled forward. -/
def replayWrite (tk : Nat) (s : State) : State × Bool :=
  let e := s.ticket tk
  let ref := e.writeRef
  let found := s.store.recordOf ref
  match e.opcode with
  | 0x0D03 =>
    if e.state = .running ∧ ref < (tget s.vault.parts 5).endNo then
      (postNew tk St.ok (leBytes 8 ref ++ leBytes 8 e.acceptStamp ++ leBytes 1 1 ++ zeros 7) s, true)
    else (postNew tk St.storeRolledBack (leBytes 8 ref ++ leBytes 8 e.acceptStamp ++ leBytes 1 2 ++ zeros 7) s, false)
  | 0x0D05 =>
    let s1 := applyAct (.blockErase 5) s
    (postNew tk St.ok (leBytes 8 (tget s1.vault.parts 5).nextNo ++ leBytes 1 1 ++ zeros 7) s1, true)
  | 0x0D06 =>
    match found, s.store.shadowPage with
    | some _, some page =>
      let s1 := loadCharter (s.modStore (fun t => t.putCharter page))
      let s2 := (upFrom 0x0F00 75).foldl (fun u k => putTombstone k u) s1
      (postNew tk St.ok (leBytes 1 1 ++ zeros 3) (emitAs 2 s.now 5 0x0D09 0 tk (zeros 4 ++ charterRevision page) s2), true)
    | some _, none => (postNew tk St.ok (leBytes 1 1 ++ zeros 3) s, true)
    | none, _ => (postNew tk St.storeRolledBack (leBytes 1 2 ++ zeros 3) s, false)
  | 0x0D07 =>
    if s.charterLocked then (postNew tk St.ok [] s, true) else (postNew tk St.storeRolledBack [] s, false)
  | 0x0B05 =>
    if found.isSome then (postNew tk St.ok (zeros 4 ++ leBytes 1 1 ++ zeros 3) s, true)
    else (postNew tk St.replaySuppressed (zeros 4 ++ leBytes 1 2 ++ zeros 3) s, false)
  | _ =>
    match found with
    | some d =>
      let kcv := match keyUnwrap deviceKey (d.drop 12) with
        | some k => kcvOf k
        | none => []
      (postNew tk St.ok (installReply 0 1 (u32At d 0) kcv) s, true)
    | none => (postNew tk St.replaySuppressed (installReply 0 2 0 []) s, false)

/-- Sessions left EXPOSING become CLOSED (R138, R153). -/
def closeExposing (s : State) : State :=
  s.modExpo (fun x => { x with sessions := x.sessions.map (fun y => if y.state = .exposing then {} else y) })

/-- An interrupted EXPOSE.EXPOSE: only the DECIDED marker and the commit record count (R153). The answer tells whether it
rolled forward. REASONS of the response are not stored, a free value. -/
def replayExpose (tk : Nat) (s : State) : State × Bool :=
  let e := s.ticket tk
  let no := e.writeRef
  let reasons := Config.freeNat s.free % 16
  let recs := s.store.records 0x0002
  let instant := ((recs.find? (fun r => r.key == 0x0002 && u32At r.data 0 == no && no != 0)).map (fun r => u64At r.data 8)).getD 0
  let done := recs.find? (fun r => r.key == 0x0001 && u32At r.data 4 == no && no != 0)
  let set_ := s.store.sets.find? (fun c => c.no == no && no != 0)
  match e.decided, done, set_ with
  | true, some r, _ => (postNew tk St.ok (exposeReply 0 reasons 0 instant (u64At r.data 8) s) (closeExposing s), true)
  | true, none, some c =>
    let gen := wrapAdd 32 s.conf.gen 1
    let s1 := exposeSet c.session tk c.items gen s.now true s
    let s2 := (writeNow 0x0001 (commitRecord gen no s.now) s1).modStore (fun t => { t with sets := t.sets.filter (fun c => c.no != no) })
    let s3 := if fixItems c.items = [] then s2 else s2.modSheet (fun h => { h with owed := .commit, owedGen := gen })
    let s4 := if s3.nat 15 6 = s.nat 15 6 then s3 else s3.modSafe (fun f => { f with resetDue := some 6 })
    (postNew tk St.exposeLate (exposeReply 1 reasons 0 instant s.now s4) (closeExposing s4), true)
  | _, _, _ =>
    let sess := ((set_.map (·.session)).orElse (fun _ => (List.range 4).find? (fun n => (s.sess n).state == .exposing))).getD 0
    let s1 := if no = 0 then s
      else emitAs 2 s.now 2 0x0302 0 tk (leBytes 2 St.rolledBack ++ zeros 2 ++ leBytes 1 sess)
        (sendRollback (wrapAdd 32 s.conf.gen 1) (voidSet no 0 s))
    (postNew tk St.rolledBack (exposeReply 2 reasons 0 instant 0 s1) (closeExposing s1), false)

/-- One journal entry is decided by the first row of R473 that applies; the answer tells which count of event 0x0114 it
raises. -/
def replayTicket (tk : Nat) (s : State) : State × Nat :=
  let e := s.ticket tk
  if e.posted then (postRecorded tk s, 0)
  else if e.opcode = 0x0305 ∧ e.state ≠ .completed then
    let a := replayExpose tk s
    (a.1, if a.2 then 4 else 5)
  else if e.cls = .c ∧ e.state ≠ .completed then
    let a := replayWrite tk s
    (a.1, if a.2 then 4 else 5)
  else if e.state = .completed then
    if e.keepValid = false ∧ e.cls = .a ∧ e.requestKept = true then (queueRerun tk s, 1) else (postRecorded tk s, 0)
  else match e.cls with
    | .a => if e.requestKept then (queueRerun tk s, 1) else (postNew tk St.aborted [] s, 3)
    | _ => if e.state = .accepted then (postNew tk St.aborted [] s, 3) else (postNew tk St.replaySuppressed [] s, 2)

/-- Entries that are not FREE, in order of ACCEPT_STAMP (R473). -/
def journal (s : State) : List Nat :=
  ((List.range 128).filter (fun t => (s.ticket t).state != .free)).mergeSort
    (fun a b => decide ((s.ticket a).acceptStamp ≤ (s.ticket b).acceptStamp))

/-- Pending sets that no ticket names are void, cause 2 (R404). -/
def voidOrphans (s : State) : State :=
  (s.store.sets.filter (fun c => c.phase == 1)).foldl (fun u c => voidSet c.no 2 u) s

/-- Replay of the journal, with event 0x0114 (R473, R478). -/
def replay (s : State) : State :=
  let a := (journal s).foldl (fun (a : State × List Nat) tk =>
    let r := replayTicket tk a.1
    (r.1, a.2.mapIdx (fun i n => if i = r.2 then satAdd 0xFF n 1 else n))) (s, List.replicate 6 0)
  let s1 := closeExposing (voidOrphans a.1)
  emitAs 2 s1.now 1 0x0114 0 0xFF (a.2.flatMap (leBytes 1)) (s1.modBoot (fun b => { b with replayed := a.2 }))

/-! ### The start sequence (R462) -/

/-- Levels and supplies as the start finds them: wake pins, supplies, the V die (R462). -/
def applyEnv (env : StartEnv) (s : State) : State :=
  let load (n : Nat) (b : Bool) (x : State) : State := x.modSafe (fun f => { f with images := tmod f.images n (fun i => { i with loads := b }) })
  let s1 := load 0 env.loads.1 (load 1 env.loads.2 s)
  (((s1.modPower (fun p => { p with
      ign := env.ign, doors := Vector.ofFn (fun i : Fin 4 => env.doors.testBit i.val), strap := env.strap })).modStore
    (fun t => { t with vhold := env.vhold })).modVault (fun v => { v with alive := env.vdie })).modBoot (fun b => { b with vbat := env.vbat })

/-- WINDOW_HEADER and the front registers of R42; READY becomes 1 (R44, R462). -/
def releaseHost (s : State) : State :=
  let header := leBytes 2 1 ++ leBytes 1 16 ++ leBytes 1 4 ++ zeros 4 ++ leBytes 8 s.sheet.resetStamp ++
    leBytes 1 s.sheet.resetCause ++ zeros 1 ++ leBytes 2 512
  s.modHost (fun h => { h with
    window := Memory.writeBytes h.window 0 header, ready := true, intStatus := 0x10, beatAt := s.now + lsbOfMs 1 })

/-- The event records that waited for the Steward enter the ring, which puts them in order-key order (R42, R59). -/
def flushEarly (s : State) : State :=
  s.host.early.foldl (fun t r => t.modHost (fun h => h.take true ((s.nat 1 5).testBit (r.code / 256)) s.now (s.nat 1 6) r))
    (s.modHost (fun h => { h with early := [] }))

/-- Event 0x0110, the first record of the first T1 batch (R65, R478). -/
def startEvent (s : State) : State :=
  let h := s.sheet
  let data := leBytes 1 h.resetCause ++ leBytes 1 (b1 h.flushRan + b1 h.flushComplete 1) ++ leBytes 1 h.flushRecords ++
    leBytes 1 h.flushPages ++ leBytes 4 h.bootCount ++ leBytes 4 h.faultResets
  let r : EvRec := { stamp := s.now, tag := tagOf s.quality 1 (tget s.ev.seqs 1), code := 0x0110, data }
  (emit 1 0x0110 data 0 0xFF s).modHost (fun l => { l with t1Events := r :: l.t1Events.filter (· != r) })

/-- What changed on the lid and the mesh during the loss of supply, and a latched mesh break, are found (R446). -/
def findTamper (env : StartEnv) (s : State) : State :=
  let s1 := if env.lidOpen = true ∧ s.safe.lidOpen = false then lidOpens s
    else if env.lidOpen = false ∧ s.safe.lidOpen = true then
      emit 4 0x0F02 (leBytes 1 1) 0x7F 0xFF (s.modSafe (fun f => { f with lidOpen := false, lidClosed := some s.now }))
    else s
  if s.store.meshBroken then emit 4 0x0F02 (leBytes 1 2) 0x7E 0xFF (s1.modSafe (fun f => { f with meshOpen := env.meshOpen }))
  else if env.meshOpen then meshBreaks s1 else s1

/-- No Steward image loads: PD3 CORE off, READY 0, event 0x0F06 kind 3 (R453, R462). -/
def stopStart (s : State) : State :=
  emit 4 0x0F06 (leBytes 1 0xFF ++ leBytes 1 3) 0 0xFF
    (((s.modPower (fun p => p.switchOff s.now 3)).modEave (fun e => { e with depth := 4 })).modTime (fun t => { t with fine := false, trimFrom := none })
      |>.modBoot (fun b => { b with phase := .noImage }))

/-- The Steward runs: guards locked, READY, event 0x0110, PD4 SEC, then replay (R427, R461, R462, R473). -/
def runSteward (cold : Bool) (env : StartEnv) (image kind : Nat) (s : State) : State :=
  let s1 := s.modSafe (fun f => { f with
    runs := image, released := s.now, trialEnd := if kind = 1 then some (s.now + lsbOfS (s.nat 15 8)) else none, resetDue := none })
  let s2 := emit 4 0x0F06 (leBytes 1 image ++ leBytes 1 kind ++ zeros 2 ++ leBytes 4 (tget s1.safe.images image).release) 0 0xFF s1
  let s3 := restoreT1 cold (restoreLoops (restoreAccess (loadCharter (lockGuards s2))))
  let s4 := if cold then restoreSlots (s3.modUhf (fun u => u.fill s3.now)) else keepSlots s3
  let s5 := flushEarly (releaseHost ((s4.modStew (fun w => { w with running := true })).modBoot (fun b => { b with phase := .run })))
  let s6 := if s5.power.mode = .holdover then s5 else enterMode .holdover 14 s5
  let s7 := findTamper env (startEvent s6)
  let s8 := reserveAll (secOn (s7.modPower (fun p => p.switchOn s7.now 4)))
  updateReset ((replay (s8.modBoot (fun b => { b with replay := true }))).modBoot (fun b => { b with replay := false }))

/-- The start from PD2 SAFE on, up to the choice of the Steward image (R462). -/
def prepareStart (cold : Bool) (env : StartEnv) (s : State) : State :=
  let s1 := applyEnv env s
  let s2 := s1.modPower (fun p => (p.switchOn s1.now 2).switchOn s1.now 9)
  let s3 := restoreBanks (recoverStore (if cold then writeHeld (loadEpoch s2) else s2))
  let s4 := reach (s3.now + lsbOfUs env.us) (s3.modConf (fun _ => storedConf s3.store))
  let s5 := realign ((s4.modPower (fun p => p.switchOn s4.now 3)).modEave (fun e => { e with depth := 0 }))
  s5.modSheet (fun h => { h with
    valid := true, bootCount := wrapAdd 32 h.bootCount 1, resetCause := if cold then 0 else s.boot.cause })

/-- The start (R453, R462). -/
def startFrom (cold : Bool) (env : StartEnv) (s : State) : State :=
  match chooseImage (prepareStart cold env s) with
  | (t, some i) => runSteward cold env i.1 i.2 t
  | (t, none) => stopStart t

/-- COLD_START (R460, R462): the contact sheet holds no valid header. While VBAT is below 6.5 V the start waits. -/
def execColdStart (env : StartEnv) (s : State) : Out :=
  .next (if (s.boot.phase = .cold ∨ s.boot.phase = .dark) ∧ s.sheet.valid = false ∧ 6500 ≤ env.vbat ∧ env.us ≤ 126000 then
      startFrom true env (s.modPower (fun p => { p with
        domains := tmod (tmod p.domains 0 (fun d => { d with state := .on })) 1 (fun d => { d with state := .on }) }))
    else s)

/-- WARM_START (R460, R462). -/
def execWarmStart (env : StartEnv) (s : State) : Out :=
  .next (if s.boot.phase = .warm ∧ s.sheet.valid = true ∧ 6500 ≤ env.vbat ∧ env.us ≤ 126000 then startFrom false env s else s)

/-! ### Faults and supplies (R463–R468) -/

/-- The M die is reset after a supply fault and waits for VBAT (R465). -/
def supplyReset (s : State) : State := (mdieReset 1 s).modBoot (fun b => { b with phase := .waitVbat })

/-- SUPPLY_FAULT (R463–R465, R477): event 0x0111, HOLDOVER, the flush and the reset. In STOWED and before READY only items 5
and 6 are flushed, and no final stamp before a cold start has loaded the epoch. -/
def execSupplyFault (vbat vhold : Nat) (s : State) : Out :=
  .next (
    let s1 := (s.modBoot (fun b => { b with vbat })).modStore (fun t => { t with vhold })
    let entered (t : State) : State := holdoverBy 10
      (report 1 0x0111 (leBytes 2 (min 0xFFFF (vbat / 10)) ++ leBytes 2 (min 0xFFFF (vhold / 10))) 0 t)
    if 5500 ≤ vbat then s
    else match s.boot.phase with
      | .run =>
        let s2 := finishRunning (entered s1)
        let items := if s.power.mode = .stowed then [] else owedCommit s2 ++ owedAccess s2 ++ owedLoops s2
        supplyReset (flush (items ++ [finalStamp s2]) true s2)
      | .warm | .noImage =>
        let s2 := finishRunning (entered s1)
        supplyReset (flush [finalStamp s2] true s2)
      | .cold => supplyReset (flush [] true (finishRunning (entered s1)))
      | _ => s)

/-- VBAT_RETURN: VBAT has stayed at or above 6.5 V for 10 ms (R465). -/
def execVbatReturn (s : State) : Out :=
  .next (if s.boot.phase = .waitVbat then s.modBoot (fun b => { b with phase := if s.sheet.valid then .warm else .cold }) else s)

/-- WATCHDOG: 50 ms without a service at L0–L2 (R467, R468). -/
def execWatchdog (s : State) : Out :=
  .next (if s.stew.running = true ∧ s.eave.depth ≤ 2 then stewardFault 0 0 s else s)

/-- LOCKSTEP (R467, R468). -/
def execLockstep (s : State) : Out := .next (if s.stew.running then stewardFault 1 0 s else s)

/-- DIE_LINK (R467, R468): the V die does not answer. -/
def execDieLink (s : State) : Out := .next (if s.stew.running then stewardFault 3 0 s else s)

/-- PD0_AON_POWER_LOSS: VBAT and VHOLD both fall below 2.5 V. The media and the F die keep what they hold; an operation in
progress is cut (R399, R465, R466). -/
def execPd0AonPowerLoss (s : State) : Out :=
  .next (
    let t := s.store
    let z := ({} : State)
    { z with
      pending := s.pending, free := s.free, fix := s.fix, conf := s.conf
      power := { z.power with domains := z.power.domains.map (fun d => { d with state := .off }) }
      store := { log := t.log, at_ := t.at_, ring := t.ring, ringActive := t.ringActive, counters := t.counters
                 ctrActive := t.ctrActive, retired := t.retired, ctrErases := t.ctrErases, charter := t.charter
                 lockA := t.lockA, lockB := t.lockB, nextSet := t.nextSet, sets := t.sets, lockStamp := t.lockStamp
                 jobUnits := t.jobUnits, meshBroken := t.meshBroken, cut := (t.running.map (·.act)).orElse (fun _ => t.cut) }
      vault := { s.vault with
        parts := s.vault.parts.map (fun p => { p with buffer := [], nextNo := p.endNo, starved := false }), hostWaits := [], lastScan := 0 }
      safe := { z.safe with
        images := s.safe.images.map Image.kept, runs := s.safe.runs, lidOpen := s.safe.lidOpen, lidClosed := s.safe.lidClosed }
      mem := { z.mem with repairs := s.mem.repairs }
      boot := { phase := .dark, cause := 0 } })

end Sys2Proof.Machine
end

