-- ==== Sys2Proof/Machine/Dispatch.lean ====
section
/-! DEFINITION. The dispatch: one arm per command, each a direct call of that command's own meaning. -/

namespace Sys2Proof.Machine

def exec (i : Instr) (s : State) : Host.Outcome State Fault Refusal :=
  match i with
  | .read addr n => Sys2Proof.Machine.execRead addr n s
  | .write addr data other => Sys2Proof.Machine.execWrite addr data other s
  | .quadRead addr n => Sys2Proof.Machine.execQuadRead addr n s
  | .quadWrite addr data other => Sys2Proof.Machine.execQuadWrite addr data other s
  | .invalidInstruction op => Sys2Proof.Machine.execInvalidInstruction op s
  | .cmdDoorbell v => Sys2Proof.Machine.execCmdDoorbell v s
  | .rspReady v => Sys2Proof.Machine.execRspReady v s
  | .evtTail v => Sys2Proof.Machine.execEvtTail v s
  | .intStatus v => Sys2Proof.Machine.execIntStatus v s
  | .frontStatus v => Sys2Proof.Machine.execFrontStatus v s
  | .frontRegisterWrite off v => Sys2Proof.Machine.execFrontRegisterWrite off v s
  | .t1CommandFrame port header body => Sys2Proof.Machine.execT1CommandFrame port header body s
  | .t1ReleaseFrame port header body => Sys2Proof.Machine.execT1ReleaseFrame port header body s
  | .deviceIdentify tk => Sys2Proof.Machine.execDeviceIdentify tk s
  | .deviceTicketQuery tk => Sys2Proof.Machine.execDeviceTicketQuery tk s
  | .nodeProbe tk => Sys2Proof.Machine.execNodeProbe tk s
  | .nodeRead tk => Sys2Proof.Machine.execNodeRead tk s
  | .nodeList tk => Sys2Proof.Machine.execNodeList tk s
  | .nodeCourseStage tk => Sys2Proof.Machine.execNodeCourseStage tk s
  | .nodeCourseDeleteStage tk => Sys2Proof.Machine.execNodeCourseDeleteStage tk s
  | .timeRead tk => Sys2Proof.Machine.execTimeRead tk s
  | .timeSet tk => Sys2Proof.Machine.execTimeSet tk s
  | .timeSlew tk => Sys2Proof.Machine.execTimeSlew tk s
  | .timeShutterArm tk => Sys2Proof.Machine.execTimeShutterArm tk s
  | .timeShutterDisarm tk => Sys2Proof.Machine.execTimeShutterDisarm tk s
  | .timeShutterRead tk => Sys2Proof.Machine.execTimeShutterRead tk s
  | .timeShutterStage tk => Sys2Proof.Machine.execTimeShutterStage tk s
  | .timeCaptureRead tk => Sys2Proof.Machine.execTimeCaptureRead tk s
  | .shutterFire n => Sys2Proof.Machine.execShutterFire n s
  | .captureEdge n rising stamp => Sys2Proof.Machine.execCaptureEdge n rising stamp s
  | .xsTrimMeasure ticks => Sys2Proof.Machine.execXsTrimMeasure ticks s
  | .wakePinChange pin level => Sys2Proof.Machine.execWakePinChange pin level s
  | .workshopStrapChange level => Sys2Proof.Machine.execWorkshopStrapChange level s
  | .canWake ports => Sys2Proof.Machine.execCanWake ports s
  | .domainFault d rail => Sys2Proof.Machine.execDomainFault d rail s
  | .domainReady d => Sys2Proof.Machine.execDomainReady d s
  | .wakeMeasured us => Sys2Proof.Machine.execWakeMeasured us s
  | .powerModeRead tk => Sys2Proof.Machine.execPowerModeRead tk s
  | .powerModeRequest tk => Sys2Proof.Machine.execPowerModeRequest tk s
  | .powerDomainRead tk => Sys2Proof.Machine.execPowerDomainRead tk s
  | .powerEaveRead tk => Sys2Proof.Machine.execPowerEaveRead tk s
  | .exposeOpen tk => Sys2Proof.Machine.execExposeOpen tk s
  | .exposeDiscard tk => Sys2Proof.Machine.execExposeDiscard tk s
  | .exposeSetStage tk => Sys2Proof.Machine.execExposeSetStage tk s
  | .exposeCheck tk => Sys2Proof.Machine.execExposeCheck tk s
  | .exposeExpose tk => Sys2Proof.Machine.execExposeExpose tk s
  | .exposeCancel tk => Sys2Proof.Machine.execExposeCancel tk s
  | .exposeStatus tk => Sys2Proof.Machine.execExposeStatus tk s
  | .exposeSettingRead tk => Sys2Proof.Machine.execExposeSettingRead tk s
  | .syncEdge stamp => Sys2Proof.Machine.execSyncEdge stamp s
  | .laneUnknownMessage ty => Sys2Proof.Machine.execLaneUnknownMessage ty s
  | .pollCycle meas => Sys2Proof.Machine.execPollCycle meas s
  | .answer slot rssi rx => Sys2Proof.Machine.execAnswer slot rssi rx s
  | .button tel => Sys2Proof.Machine.execButton tel s
  | .responseTelegram tel => Sys2Proof.Machine.execResponseTelegram tel s
  | .learnAck tel => Sys2Proof.Machine.execLearnAck tel s
  | .accessCycle meas => Sys2Proof.Machine.execAccessCycle meas s
  | .sniffWindow preamble => Sys2Proof.Machine.execSniffWindow preamble s
  | .learnRetry meas => Sys2Proof.Machine.execLearnRetry meas s
  | .accessStatus tk => Sys2Proof.Machine.execAccessStatus tk s
  | .accessSlotRead tk => Sys2Proof.Machine.execAccessSlotRead tk s
  | .accessLocate tk => Sys2Proof.Machine.execAccessLocate tk s
  | .accessLock tk => Sys2Proof.Machine.execAccessLock tk s
  | .accessLearnSet tk => Sys2Proof.Machine.execAccessLearnSet tk s
  | .accessReleasePair tk => Sys2Proof.Machine.execAccessReleasePair tk s
  | .accessZonemapStage tk => Sys2Proof.Machine.execAccessZonemapStage tk s
  | .accessZonemapRead tk => Sys2Proof.Machine.execAccessZonemapRead tk s
  | .lfOvercurrent ch trip meas => Sys2Proof.Machine.execLfOvercurrent ch trip meas s
  | .vlfDisable drop => Sys2Proof.Machine.execVlfDisable drop s
  | .vlfEnable v => Sys2Proof.Machine.execVlfEnable v s
  | .lfCommandDeadline tk => Sys2Proof.Machine.execLfCommandDeadline tk s
  | .lfChannelRead tk => Sys2Proof.Machine.execLfChannelRead tk s
  | .lfDiag tk => Sys2Proof.Machine.execLfDiag tk s
  | .lfBurst tk => Sys2Proof.Machine.execLfBurst tk s
  | .lfClearFault tk => Sys2Proof.Machine.execLfClearFault tk s
  | .uhfCalDone ok tune dur => Sys2Proof.Machine.execUhfCalDone ok tune dur s
  | .uhfPacketReceived p => Sys2Proof.Machine.execUhfPacketReceived p s
  | .rfGntChange level => Sys2Proof.Machine.execRfGntChange level s
  | .uhfStatus tk => Sys2Proof.Machine.execUhfStatus tk s
  | .uhfTx tk => Sys2Proof.Machine.execUhfTx tk s
  | .uhfRx tk => Sys2Proof.Machine.execUhfRx tk s
  | .uhfCalibrate tk => Sys2Proof.Machine.execUhfCalibrate tk s
  | .uhfCharterRead tk => Sys2Proof.Machine.execUhfCharterRead tk s
  | .uhfDutyRead tk => Sys2Proof.Machine.execUhfDutyRead tk s
  | .rangingResponse r => Sys2Proof.Machine.execRangingResponse r s
  | .fastExchangeRound r => Sys2Proof.Machine.execFastExchangeRound r s
  | .rangingReport rep => Sys2Proof.Machine.execRangingReport rep s
  | .tdcCalibration ok corr => Sys2Proof.Machine.execTdcCalibration ok corr s
  | .cableSegment c => Sys2Proof.Machine.execCableSegment c s
  | .rangeStatus tk => Sys2Proof.Machine.execRangeStatus tk s
  | .rangePortRead tk => Sys2Proof.Machine.execRangePortRead tk s
  | .rangePortCalibrate tk => Sys2Proof.Machine.execRangePortCalibrate tk s
  | .rangeSessionRead tk => Sys2Proof.Machine.execRangeSessionRead tk s
  | .rangeCable tk => Sys2Proof.Machine.execRangeCable tk s
  | .rangeCableTraceRead tk => Sys2Proof.Machine.execRangeCableTraceRead tk s
  | .msPulseEdge stamp highUs => Sys2Proof.Machine.execMsPulseEdge stamp highUs s
  | .sensorCount c => Sys2Proof.Machine.execSensorCount c s
  | .cardInserted slot => Sys2Proof.Machine.execCardInserted slot s
  | .cardRemoved slot => Sys2Proof.Machine.execCardRemoved slot s
  | .fSupplyToVfb mv => Sys2Proof.Machine.execFSupplyToVfb mv s
  | .fSupplyToVfix mv => Sys2Proof.Machine.execFSupplyToVfix mv s
  | .fLidMesh kind => Sys2Proof.Machine.execFLidMesh kind s
  | .xmTempCorrection temp => Sys2Proof.Machine.execXmTempCorrection temp s
  | .fixerStatus tk => Sys2Proof.Machine.execFixerStatus tk s
  | .fixerRecordRead tk => Sys2Proof.Machine.execFixerRecordRead tk s
  | .fixerSpeedRead tk => Sys2Proof.Machine.execFixerSpeedRead tk s
  | .fixerKeyRead tk => Sys2Proof.Machine.execFixerKeyRead tk s
  | .fixerTimePropose tk => Sys2Proof.Machine.execFixerTimePropose tk s
  | .fixerCardStatus tk => Sys2Proof.Machine.execFixerCardStatus tk s
  | .fixerCardApdu tk => Sys2Proof.Machine.execFixerCardApdu tk s
  | .fixerCardReset tk => Sys2Proof.Machine.execFixerCardReset tk s
  | .fixerPairStage tk => Sys2Proof.Machine.execFixerPairStage tk s
  | .frameReceived port f => Sys2Proof.Machine.execFrameReceived port f s
  | .copySent port => Sys2Proof.Machine.execCopySent port s
  | .heldOut port => Sys2Proof.Machine.execHeldOut port s
  | .aged port => Sys2Proof.Machine.execAged port s
  | .portDown port => Sys2Proof.Machine.execPortDown port s
  | .portUp port => Sys2Proof.Machine.execPortUp port s
  | .canBusOff port => Sys2Proof.Machine.execCanBusOff port s
  | .canBusOffRecovered port => Sys2Proof.Machine.execCanBusOffRecovered port s
  | .canAttemptLost port error => Sys2Proof.Machine.execCanAttemptLost port error s
  | .pauseReceived port time => Sys2Proof.Machine.execPauseReceived port time s
  | .pauseExpire port => Sys2Proof.Machine.execPauseExpire port s
  | .pauseRepeat port => Sys2Proof.Machine.execPauseRepeat port s
  | .linSlot port => Sys2Proof.Machine.execLinSlot port s
  | .linResponseReceived port resp => Sys2Proof.Machine.execLinResponseReceived port resp s
  | .switchStatus tk => Sys2Proof.Machine.execSwitchStatus tk s
  | .switchPortRead tk => Sys2Proof.Machine.execSwitchPortRead tk s
  | .switchCountersRead tk => Sys2Proof.Machine.execSwitchCountersRead tk s
  | .switchTableStage tk => Sys2Proof.Machine.execSwitchTableStage tk s
  | .switchTableRead tk => Sys2Proof.Machine.execSwitchTableRead tk s
  | .switchLinScheduleStage tk => Sys2Proof.Machine.execSwitchLinScheduleStage tk s
  | .switchLinScheduleRead tk => Sys2Proof.Machine.execSwitchLinScheduleRead tk s
  | .switchAudit tk => Sys2Proof.Machine.execSwitchAudit tk s
  | .keyLanding slot => Sys2Proof.Machine.execKeyLanding slot s
  | .checkMismatch ctx kind block => Sys2Proof.Machine.execCheckMismatch ctx kind block s
  | .cipherStatus tk => Sys2Proof.Machine.execCipherStatus tk s
  | .cipherKeyRead tk => Sys2Proof.Machine.execCipherKeyRead tk s
  | .cipherKeyLoad tk => Sys2Proof.Machine.execCipherKeyLoad tk s
  | .cipherKeyGenerate tk => Sys2Proof.Machine.execCipherKeyGenerate tk s
  | .cipherKeyErase tk => Sys2Proof.Machine.execCipherKeyErase tk s
  | .cipherJob tk => Sys2Proof.Machine.execCipherJob tk s
  | .grainWord raw => Sys2Proof.Machine.execGrainWord raw s
  | .grainReseed raw => Sys2Proof.Machine.execGrainReseed raw s
  | .healthFailure src test phase count => Sys2Proof.Machine.execHealthFailure src test phase count s
  | .grainRawRunEnd samples => Sys2Proof.Machine.execGrainRawRunEnd samples s
  | .grainStatus tk => Sys2Proof.Machine.execGrainStatus tk s
  | .grainRead tk => Sys2Proof.Machine.execGrainRead tk s
  | .grainRawRead tk => Sys2Proof.Machine.execGrainRawRead tk s
  | .supplyCheckRelease vhold => Sys2Proof.Machine.execSupplyCheckRelease vhold s
  | .blockRetired block => Sys2Proof.Machine.execBlockRetired block s
  | .parameterScan found lost => Sys2Proof.Machine.execParameterScan found lost s
  | .vaultScan found => Sys2Proof.Machine.execVaultScan found s
  | .storeStatus tk => Sys2Proof.Machine.execStoreStatus tk s
  | .storeCaptureRead tk => Sys2Proof.Machine.execStoreCaptureRead tk s
  | .storeHostAppend tk => Sys2Proof.Machine.execStoreHostAppend tk s
  | .storeHostRead tk => Sys2Proof.Machine.execStoreHostRead tk s
  | .storeHostClear tk => Sys2Proof.Machine.execStoreHostClear tk s
  | .storeCharterWrite tk => Sys2Proof.Machine.execStoreCharterWrite tk s
  | .storeCharterLock tk => Sys2Proof.Machine.execStoreCharterLock tk s
  | .testStrip march => Sys2Proof.Machine.execTestStrip march s
  | .guardViolation g => Sys2Proof.Machine.execGuardViolation g s
  | .correctedWord bank addr => Sys2Proof.Machine.execCorrectedWord bank addr s
  | .memStatus tk => Sys2Proof.Machine.execMemStatus tk s
  | .memGuardLogRead tk => Sys2Proof.Machine.execMemGuardLogRead tk s
  | .memStripRun tk => Sys2Proof.Machine.execMemStripRun tk s
  | .memDmaRead tk => Sys2Proof.Machine.execMemDmaRead tk s
  | .sensorConversion n v routed => Sys2Proof.Machine.execSensorConversion n v routed s
  | .lidMesh kind => Sys2Proof.Machine.execLidMesh kind s
  | .safelightRestart cause lost => Sys2Proof.Machine.execSafelightRestart cause lost s
  | .safeStatus tk => Sys2Proof.Machine.execSafeStatus tk s
  | .safeSensorRead tk => Sys2Proof.Machine.execSafeSensorRead tk s
  | .safeLogRead tk => Sys2Proof.Machine.execSafeLogRead tk s
  | .updateBegin tk => Sys2Proof.Machine.execUpdateBegin tk s
  | .updateWrite tk => Sys2Proof.Machine.execUpdateWrite tk s
  | .updateVerify tk => Sys2Proof.Machine.execUpdateVerify tk s
  | .updateStatus tk => Sys2Proof.Machine.execUpdateStatus tk s
  | .updateConfirm tk => Sys2Proof.Machine.execUpdateConfirm tk s
  | .coldStart env => Sys2Proof.Machine.execColdStart env s
  | .warmStart env => Sys2Proof.Machine.execWarmStart env s
  | .supplyFault vbat vhold => Sys2Proof.Machine.execSupplyFault vbat vhold s
  | .lfSequenceEnd meas => Sys2Proof.Machine.execLfSequenceEnd meas s
  | .cipherJobComplete ctx => Sys2Proof.Machine.execCipherJobComplete ctx s
  | .grainReadDeadline tk => Sys2Proof.Machine.execGrainReadDeadline tk s
  | .grainConsumerWaitExpire consumer => Sys2Proof.Machine.execGrainConsumerWaitExpire consumer s
  | .rangeCableDeadline tk => Sys2Proof.Machine.execRangeCableDeadline tk s
  | .cardApduDeadline tk => Sys2Proof.Machine.execCardApduDeadline tk s
  | .cardReply slot bytes => Sys2Proof.Machine.execCardReply slot bytes s
  | .cardWaitingTimeExceeded slot => Sys2Proof.Machine.execCardWaitingTimeExceeded slot s
  | .wearCreditGain part => Sys2Proof.Machine.execWearCreditGain part s
  | .fBrownOut both => Sys2Proof.Machine.execFBrownOut both s
  | .readStatus => Sys2Proof.Machine.execReadStatus s
  | .hostCsNWake => Sys2Proof.Machine.execHostCsNWake s
  | .mailboxTake => Sys2Proof.Machine.execMailboxTake s
  | .responsePost => Sys2Proof.Machine.execResponsePost s
  | .evtIrqDelayExpire => Sys2Proof.Machine.execEvtIrqDelayExpire s
  | .heartbeat => Sys2Proof.Machine.execHeartbeat s
  | .hostHoldExpire => Sys2Proof.Machine.execHostHoldExpire s
  | .t1Retry => Sys2Proof.Machine.execT1Retry s
  | .t1ReplayTimeout => Sys2Proof.Machine.execT1ReplayTimeout s
  | .slewEnd => Sys2Proof.Machine.execSlewEnd s
  | .epochFloorWrite => Sys2Proof.Machine.execEpochFloorWrite s
  | .modeTransitionComplete => Sys2Proof.Machine.execModeTransitionComplete s
  | .drainTimeout => Sys2Proof.Machine.execDrainTimeout s
  | .watchWindowExpire => Sys2Proof.Machine.execWatchWindowExpire s
  | .holdoverExit => Sys2Proof.Machine.execHoldoverExit s
  | .netIdleExpire => Sys2Proof.Machine.execNetIdleExpire s
  | .depthChoice => Sys2Proof.Machine.execDepthChoice s
  | .eaveWake => Sys2Proof.Machine.execEaveWake s
  | .xsStable => Sys2Proof.Machine.execXsStable s
  | .decisionPoint => Sys2Proof.Machine.execDecisionPoint s
  | .exposeCommitSend => Sys2Proof.Machine.execExposeCommitSend s
  | .fixerPrepareTimeout => Sys2Proof.Machine.execFixerPrepareTimeout s
  | .exposureInstant => Sys2Proof.Machine.execExposureInstant s
  | .recordRead => Sys2Proof.Machine.execRecordRead s
  | .timePropose => Sys2Proof.Machine.execTimePropose s
  | .tokenIdentity => Sys2Proof.Machine.execTokenIdentity s
  | .cardRequest => Sys2Proof.Machine.execCardRequest s
  | .epochSample => Sys2Proof.Machine.execEpochSample s
  | .exposePrepare => Sys2Proof.Machine.execExposePrepare s
  | .exposeCommit => Sys2Proof.Machine.execExposeCommit s
  | .exposeRollback => Sys2Proof.Machine.execExposeRollback s
  | .laneResponse => Sys2Proof.Machine.execLaneResponse s
  | .recordAppend => Sys2Proof.Machine.execRecordAppend s
  | .fixerEvent => Sys2Proof.Machine.execFixerEvent s
  | .wakeStrobe => Sys2Proof.Machine.execWakeStrobe s
  | .epochSampleTimer => Sys2Proof.Machine.execEpochSampleTimer s
  | .laneProbe => Sys2Proof.Machine.execLaneProbe s
  | .laneRequestTimeout => Sys2Proof.Machine.execLaneRequestTimeout s
  | .cycleVerdict => Sys2Proof.Machine.execCycleVerdict s
  | .suspectHoldExpire => Sys2Proof.Machine.execSuspectHoldExpire s
  | .approachMaxExpire => Sys2Proof.Machine.execApproachMaxExpire s
  | .parkPollStop => Sys2Proof.Machine.execParkPollStop s
  | .cabAbsentExpire => Sys2Proof.Machine.execCabAbsentExpire s
  | .walkawayExpire => Sys2Proof.Machine.execWalkawayExpire s
  | .releaseFrame => Sys2Proof.Machine.execReleaseFrame s
  | .releaseFrameTransmitted => Sys2Proof.Machine.execReleaseFrameTransmitted s
  | .learnTimeout => Sys2Proof.Machine.execLearnTimeout s
  | .lfAutoDiag => Sys2Proof.Machine.execLfAutoDiag s
  | .lfCommandSequenceStart => Sys2Proof.Machine.execLfCommandSequenceStart s
  | .uhfLock => Sys2Proof.Machine.execUhfLock s
  | .uhfLockTimeout => Sys2Proof.Machine.execUhfLockTimeout s
  | .uhfLockLost => Sys2Proof.Machine.execUhfLockLost s
  | .uhfRampUpDone => Sys2Proof.Machine.execUhfRampUpDone s
  | .uhfTxEnd => Sys2Proof.Machine.execUhfTxEnd s
  | .uhfRampDownDone => Sys2Proof.Machine.execUhfRampDownDone s
  | .uhfRxWindowEnd => Sys2Proof.Machine.execUhfRxWindowEnd s
  | .uhfTxDeadline => Sys2Proof.Machine.execUhfTxDeadline s
  | .dutyBucketRoll => Sys2Proof.Machine.execDutyBucketRoll s
  | .rangingVerdict => Sys2Proof.Machine.execRangingVerdict s
  | .speedSample => Sys2Proof.Machine.execSpeedSample s
  | .activityRecord => Sys2Proof.Machine.execActivityRecord s
  | .sensorCheck => Sys2Proof.Machine.execSensorCheck s
  | .sensorReplyTimeout => Sys2Proof.Machine.execSensorReplyTimeout s
  | .supplyLossWarning => Sys2Proof.Machine.execSupplyLossWarning s
  | .fixerSlewEnd => Sys2Proof.Machine.execFixerSlewEnd s
  | .fDieStart => Sys2Proof.Machine.execFDieStart s
  | .generationRetire => Sys2Proof.Machine.execGenerationRetire s
  | .p27TxScan => Sys2Proof.Machine.execP27TxScan s
  | .cipherLoopResult => Sys2Proof.Machine.execCipherLoopResult s
  | .auditPass => Sys2Proof.Machine.execAuditPass s
  | .startupTestPass => Sys2Proof.Machine.execStartupTestPass s
  | .storeOperationDone => Sys2Proof.Machine.execStoreOperationDone s
  | .logFlush => Sys2Proof.Machine.execLogFlush s
  | .captureFlush => Sys2Proof.Machine.execCaptureFlush s
  | .hostFlush => Sys2Proof.Machine.execHostFlush s
  | .stripYield => Sys2Proof.Machine.execStripYield s
  | .logSortExpire => Sys2Proof.Machine.execLogSortExpire s
  | .stowCheck => Sys2Proof.Machine.execStowCheck s
  | .trialWindowExpire => Sys2Proof.Machine.execTrialWindowExpire s
  | .heartbeatTimeout => Sys2Proof.Machine.execHeartbeatTimeout s
  | .vbatReturn => Sys2Proof.Machine.execVbatReturn s
  | .watchdog => Sys2Proof.Machine.execWatchdog s
  | .lockstep => Sys2Proof.Machine.execLockstep s
  | .dieLink => Sys2Proof.Machine.execDieLink s
  | .lockFrameTimeout => Sys2Proof.Machine.execLockFrameTimeout s
  | .coexLeadExpire => Sys2Proof.Machine.execCoexLeadExpire s
  | .pd0AonPowerLoss => Sys2Proof.Machine.execPd0AonPowerLoss s
  | .standingTimeMinute => Sys2Proof.Machine.execStandingTimeMinute s

end Sys2Proof.Machine
end

