-- ==== Sys2Proof/Machine/Tick.lean ====
section
/-! DEFINITION. The clock tick that a step on an empty queue is: one clock period of the M die's epoch while PD0 AON is
powered (R82, R84, R85), and the whole periods of the F die's own crystal that pass meanwhile (R271, R283). -/

namespace Sys2Proof.Machine

/-- The first shutter that fires at the next clock period: of those armed, that of the lowest compare the period reaches. -/
def nextFire (s : State) : Option Nat :=
  let e := (advance 1 s).now
  ((List.range 16).filter (fun n => ((s.shut n).due e || (s.shut n).owed) && !firmHeld n s)).foldl (fun b n => match b with
    | none => some n
    | some m => if (s.shut n).active < (s.shut m).active then some n else some m) none

/-- The fire of a shutter that a clock period reaches (R98). Shutter 12 applies the exposure that is pending (R147). The fires
of shutters 13–15 are commands of their own, for which the epoch waits. -/
def tickFire (n : Nat) (s : State) : State :=
  if n < 12 then match reachCompare n s with
    | some t => fireRouted n t.now false t
    | none => s
  else if n = 12 then
    (if s.expo.pending.any (fun p => p.decided && p.applied.isNone) then exposureFires s else (firmFire 12 s).getD s)
  else s

/-- What the device does in a cycle of its own accord: commands that wait for a domain about to be withdrawn are refused
(R118), what waits for the cipher engine or for PD8 NET goes on once that is ready (R28), the sub-GHz front end turns to what is
due on it (R231), ends of copies that waited to be reported are (R333), and idle BK domains go off (R113). -/
def settle (s : State) : State := dropAll (reportWaiting (uhfTurn (flushOutbox (t1Resume (runChecks (denyWithdrawn s))))))

/-- One tick: what the device does of its own accord, then the next clock period with the fire that it reaches; every other
timer of the spec is a command of its own. -/
def tick (s0 : State) : State :=
  let s := settle s0
  let s1 := if s.boot.phase = .dark then s
    else match nextFire s with
      | some n => tickFire n s
      | none => if s.time.routing = [] then advance 1 s else runRoutes routeDepth (advance 1 s)
  let s2 := ownEdges s1
  if s2.fix.running then (s2.modFix (fun f => f.run (Config.xmPeriods s2.free (s2.now - s.now)))).useFree else s2

/-- The epoch stands at its last value, past which R82 says it never goes. -/
def tickOverflows (s : State) : Bool := s.boot.phase != .dark && decide (lastEpoch ≤ s.now)

end Sys2Proof.Machine
end

