-- ==== Sys2Proof/Machine/Layout.lean ====
section
/-! DEFINITION. How what State holds stands in its medium: the slot a record is read from (R388–R390), the contact
sheet (R470–R472) and the state record of an image (R450). -/

namespace Sys2Proof.Machine

/-! ### Slots of the parameter store -/

/-- One 8-byte group of a slot with its 8 check bits (R388). -/
structure Group where
  /-- Data. -/
  data : Bytes := zeros 8
  /-- Check bits. -/
  check : Byte := 0
  deriving DecidableEq, Repr, Inhabited

/-- Data bits of a group that are set, bit 0 of byte 0 first. -/
def dataBits (d : Bytes) : List Nat := setBits 64 (leNat d)

/-- Check bits of a group: the sum of the columns of its set bits (R388). -/
def checkBits (d : Bytes) : Byte := (dataBits d).foldl (fun c i => c ^^^ Config.secDedColumn i) 0

/-- A group with its check bits. -/
def groupOf (d : Bytes) : Group := { data := d, check := checkBits d }

/-- A group read through SEC-DED: its data and whether a bit was corrected; none where it cannot be (R390). -/
def Group.read (g : Group) : Option (Bytes × Bool) :=
  let y := g.check ^^^ checkBits g.data
  if y = 0 then some (g.data, false)
  else match (List.range 64).find? (fun i => Config.secDedColumn i == y) with
    | some i => some (leBytes 8 (leNat g.data ^^^ 2 ^ i), true)
    | none => if (List.range 8).any (fun k => y == BitVec.ofNat 8 (2 ^ k)) then some (g.data, true) else none

/-- The eight groups of a slot that holds 64 bytes (R388). -/
def groupsOf (b : Bytes) : List Group := (List.range 8).map (fun i => groupOf (slice b (8 * i) 8))

/-- Classes of a slot (R390). -/
inductive SlotClass where
  /-- ERASED. -/
  | erased
  /-- VALID: the record's bytes, and whether a bit was corrected. -/
  | valid (b : Bytes) (corrected : Bool)
  /-- DEAD. -/
  | dead
  /-- TORN. -/
  | torn
  deriving DecidableEq, Repr

/-- The CRC of a record matches, and its KEY is neither 0x0000 nor 0xFFFF (R389, R390). -/
def recordOk (b : Bytes) : Bool :=
  crc8 (b.take 7 ++ b.drop 8) == u8At b 7 && u16At b 0 != 0 && u16At b 0 != 0xFFFF

/-- A slot classified (R390). -/
def classify (gs : List Group) : SlotClass :=
  if gs.all (fun g => g.data.all (· == 0xFF) && g.check == 0xFF) then .erased
  else if gs.all (fun g => allZero g.data && g.check == 0) then .dead
  else
    let rs := gs.map Group.read
    let b := (rs.map (fun x => (x.map (·.1)).getD [])).flatten
    if rs.all (·.isSome) = true ∧ recordOk b = true then .valid b (rs.any (fun x => (x.map (·.2)).getD false)) else .torn

/-! ### The contact sheet -/

/-- HEADER (R470). -/
def Sheet.header (h : Sheet) : Bytes :=
  (if h.valid then [0x50, 0x52, 0x43, 0x53] else zeros 4) ++ leBytes 2 1 ++ zeros 2 ++ leBytes 1 h.resetCause ++
    leBytes 1 (b1 h.flushRan + b1 h.flushComplete 1) ++ leBytes 1 h.flushRecords ++ leBytes 1 h.flushPages ++ zeros 4 ++
    leBytes 8 h.resetStamp ++ leBytes 8 h.faultStamp ++ zeros 32

/-- Code of OWED_LANE (R470). -/
def Owed.code : Owed → Nat
  | .none => 0
  | .commit => 1
  | .rollback => 2

/-- DEVICE_STATE (R470). -/
def Sheet.device (h : Sheet) : Bytes :=
  leBytes 1 ((h.lastMode.map Mode.code).getD 0xFF) ++ leBytes 1 h.owed.code ++ zeros 2 ++ leBytes 4 h.standing ++
    leBytes 8 h.t1Rx ++ leBytes 8 h.t1TxCount ++ leBytes 4 h.bootCount ++ leBytes 4 h.faultResets ++ leBytes 4 h.owedGen ++
    zeros 156

/-- Code of a replay class (R471). -/
def ReplayClass.code : ReplayClass → Nat
  | .a => 0
  | .b => 1
  | .c => 2

/-- A ticket entry, 32 bytes (R471). -/
def TicketEntry.bytes (e : TicketEntry) : Bytes :=
  leBytes 1 e.stateCode ++ leBytes 1 (b1 e.t1) ++ leBytes 2 e.opcode ++ leBytes 1 e.cls.code ++
    leBytes 1 (b1 e.decided + b1 e.keepValid 1 + b1 e.requestKept 2 + b1 e.posted 3) ++ leBytes 2 e.status ++
    leBytes 8 e.acceptStamp ++ leBytes 8 e.writeRef ++ leBytes 2 e.reqUnit ++ leBytes 1 e.reqUnits ++ zeros 1 ++
    leBytes 2 e.keepLen ++ zeros 2

/-- A command as its mailbox held it: header and payload (R48, R50). -/
def Req.frame (q : Req) (ticket : Nat) : Bytes :=
  let head := leBytes 2 q.opcode ++ leBytes 1 (ticket % 128) ++ leBytes 1 (b1 q.stage) ++ leBytes 2 q.node ++
    leBytes 1 (q.session % 4) ++ zeros 1 ++ leBytes 2 q.payload.length
  let tail := leBytes 4 q.deadline ++ q.payload
  head ++ leBytes 2 (crc16 (head ++ zeros 2 ++ tail)) ++ tail

/-- Unit `u` of REQUEST_POOL: its part of the request that holds it (R470, R472). -/
def Sheet.unit (h : Sheet) (u : Nat) : Bytes :=
  match (List.range 128).find? (fun t =>
    decide ((tget h.tickets t).reqUnit ≤ u) && decide (u < (tget h.tickets t).reqUnit + (tget h.tickets t).reqUnits)) with
  | some t =>
    let e := tget h.tickets t
    padTo 64 (slice ((e.request.map (fun q => q.frame t)).getD []) (64 * (u - e.reqUnit)) 64)
  | none => zeros 64

/-- The 32 KiB of the contact sheet (R470). -/
def Sheet.bytes (h : Sheet) : Bytes :=
  h.header ++ h.device ++ h.tickets.toList.flatMap TicketEntry.bytes ++
    h.tickets.toList.flatMap (fun e => padTo 64 (e.keep.take 64)) ++ (List.range 316).flatMap h.unit

/-! ### State records of the images -/

/-- The state record of an image (R450). -/
def Image.record (i : Image) (stamp : Nat) : Bytes :=
  let b := leBytes 1 i.state ++ leBytes 1 i.boots ++ zeros 2 ++ leBytes 4 i.release ++ leBytes 4 i.rollback ++ leBytes 8 stamp
  b ++ leBytes 4 (crc32 b)

end Sys2Proof.Machine
end

