-- ==== Sys2Proof/Safety.lean ====
section
/-! DEFINITION. The terms in which claims about the block are made: what it is for a command to have been answered, and
which invariants of a state mean something on this hardware. -/

namespace Sys2Proof.Machine

/-- `t` is `s` after the operation of ticket `tk` has finished (R53, R472): the completion entry with its status and kept
payload, the response cut into fragments and queued last for posting, and nothing else changed. -/
structure Finished (tk st : Nat) (data : Bytes) (frags : List Bytes) (flags : Nat) (s t : State) : Prop where
  /-- STATE 3. -/
  completed : (t.ticket tk).state = .completed
  /-- STATUS. -/
  status : (t.ticket tk).status = st
  /-- KEEP holds the whole payload when it is 64 bytes or less. -/
  keepValid : (t.ticket tk).keepValid = decide (data.length ≤ 64)
  /-- KEEP. -/
  keep : (t.ticket tk).keep = data.take 64
  /-- The payload's length. -/
  keepLen : (t.ticket tk).keepLen = data.length % 65536
  /-- The response as it waits to be posted. -/
  response : t.work tk = (s.work tk).map (fun w =>
    { w with status := st, stamp := s.now, frags, flags := w.flags ||| flags, posted := 0, released := [] })
  /-- Responses are posted in completion order. -/
  queued : t.stew.postQ = s.stew.postQ ++ [.ticket tk]
  /-- No other ticket is touched. -/
  others : ∀ k, k ≠ tk → t.ticket k = s.ticket k ∧ t.work k = s.work k
  /-- Nothing else of the block is touched. -/
  frame : t = { s with
    sheet := { s.sheet with tickets := t.sheet.tickets }
    stew := { s.stew with works := t.stew.works, postQ := t.stew.postQ } }

/-- `t` is `s` after the command of ticket `tk` has completed with a status and a plain payload (R51, R53). -/
abbrev Answered (tk st : Nat) (data : Bytes) (s t : State) : Prop := Finished tk st data (fragments data) 0 s t

/-- `t` is `s` after a command that acted on the tiles of a walk has completed with these tile results: the tile's own status
and payload for a tile, the worst status and the member-entry list for a course (R71–R74). -/
def TilesAnswered (tk : Nat) (walk : List WalkItem) (rs : List TileRes) (s t : State) : Prop :=
  match walk with
  | [] => Answered tk St.ok [] s t
  | w :: ws =>
    if w.kind = 1 then
      Finished tk (courseStatus rs ws) (entries rs (w :: ws)).flatten (groupEntries [] (entries rs (w :: ws))) 4 s t
    else Answered tk (resultOf rs w.node).status (resultOf rs w.node).data s t

/-- The tiles of a command's walk, in walk order (R72). -/
abbrev commandTiles (w : Work) : List Nat := (w.walk.filter (fun x => x.kind == 0)).map (·.node)

/-- The DP window is a memory in canonical form and both indexes of the event ring lie in the ring (R43, R59). -/
abbrev HostOk (s : State) : Prop := Memory.wf s.host.window = true ∧ s.host.evtHead < 512 ∧ s.host.evtTail < 512

/-- The Safelight's sort buffer holds no more records than it has room for (R447). -/
abbrev SortOk (s : State) : Prop := s.safe.sort.length ≤ 2048

/-- An event record of this code, stamp and content has gone to the Safelight's sort buffer, which every event record
enters while it has room (R58, R447). -/
abbrev Logged (stamp code node tk : Nat) (data : Bytes) (s t : State) : Prop :=
  s.safe.sort.length < 2048 → ∃ e ∈ t.safe.sort, e.2.stamp = stamp ∧ e.2.code = code ∧ e.2.node = node ∧ e.2.ticket = tk ∧
    e.2.data = (data ++ zeros 12).take 12

/-- Only what an event touches, besides the parts that `t` and `s` agree on: the sequence of its source, the log, the event
ring and the event batch. -/
abbrev withEvents (s t : State) : State := { s with ev := t.ev, safe := t.safe, host := t.host }

/-- A record of a key has been handed to the parameter store: it waits for its turn there, or is being written (R389, R392,
R398). A key whose SEQ has reached its end is written no more. -/
abbrev Recorded (k : Nat) (d : Bytes) (s t : State) : Prop :=
  s.store.nextSeq k ≤ 0xFFFFFF → ∃ o : StoreOp, (o ∈ t.store.queue ∨ t.store.running = some o) ∧
    o.act = .record { key := k, seq := s.store.nextSeq k, data := d }

/-- The storage controller is to do this: it waits for its turn or is being done (R398, R413). -/
abbrev Waiting (a : StoreAct) (t : State) : Prop := ∃ o : StoreOp, (o ∈ t.store.queue ∨ t.store.running = some o) ∧ o.act = a

/-- A transaction of the host that ends at L2 or L3 begins the wake of PD3 CORE, unless one is running; at L0 and L1 it wakes
nothing (R40, R126). -/
abbrev Awakened (s t : State) : Prop :=
  t.eave = if 2 ≤ s.eave.depth ∧ s.eave.waking = none ∧ s.stew.running = true then
    { s.eave with waking := some { depth := s.eave.depth, since := s.now } } else s.eave

/-- The F die has answered the request `q` on the lane: its RESPONSE is on the way to the M die (R274). -/
abbrev Replied (q st : Nat) (data : Bytes) (t : State) : Prop :=
  ∃ r : LaneRsp, .response r ∈ t.lane.toM ∧ r.seq = q ∧ r.status = st ∧ r.data = data

/-- The seal counter has counted one seal event; it stands still at its end (R298). -/
abbrev SealCounted (s t : State) : Prop :=
  s.fix.seals.value ≤ 0xFFFFFFFF → t.fix.seals.value = satAdd 0xFFFFFFFF s.fix.seals.value 1

/-- The lid and the mesh stand as the F die has last sensed them (R299). -/
abbrev LidSensed (s : State) : Prop := s.fix.lidOpen = s.fix.lidSeen
/-- A break of the mesh, if there is one, has been sensed and latched (R299). -/
abbrev MeshSensed (s : State) : Prop := s.fix.mesh = false ∨ s.fix.meshSeen = true

/-- A timer of the F die falls due before its next second and its next minute (R278, R292). -/
abbrev FixerDue (due : Nat) (s : State) : Prop :=
  s.fix.running = true ∧ s.fix.clock ≤ due ∧ due ≤ s.fix.nextSec ∧ due ≤ s.fix.nextMin

end Sys2Proof.Machine
end

