-- ==== Sys2Proof/Certificates/Slice0/Obligations.lean ====
section
/-! DEFINITION. The statements for the provers. A command completes where its conclusion gives the next state of its own
effect; the hypotheses of a clause are about the state before and the operands alone. -/

open Sys2Proof Sys2Proof.Machine

/-! ### The block as a whole -/

/-- A step with a command in front of the queue is that command's meaning, run with the queue's rest. -/
def Obligations.StepRunsTheFrontCommand : Prop :=
  ∀ (c : Instr) (rest : List Instr) (s : State), s.pending = c :: rest → step s = exec c { s with pending := rest }

/-- No command ever stops the block, and none touches the queue of waiting commands. -/
def Obligations.EveryCommandHasANextState : Prop :=
  ∀ (c : Instr) (s : State), ∃ t, exec c s = .next t ∧ t.pending = s.pending

/-- A step on an empty queue is one period of the epoch's clock (R84, R85; that the idle block ticks is the model's choice,
log entry 1): 1 or 2 LSB at L0 and L1 and 27 or 28 at L2 by the accumulator of modulus 3,000,000, and 32,768 LSB plus the
trim at L3 and L4; nothing but the epoch and its remainders moves, where nothing of the device's own waits, no LF sequence and
no ranging session runs, no armed shutter is near its compare and the router carries nothing. -/
def Obligations.IdleStepIsOneClockPeriod : Prop :=
  ∀ s : State, s.pending = [] → s.boot.phase ≠ .dark → s.fix.running = false → s.time.slewPpb = 0 →
    s.time.rem < 3000000 → s.now + 40000 < 2 ^ 64 → s.time.routing = [] → settle s = s → s.lf.seqs = [] →
    s.range.session = none →
    (∀ n, n < 16 → (s.shut n).owed = false ∧ ((s.shut n).state = .idle ∨ s.now + 40000 < (s.shut n).active)) →
    (s.eave.depth ≤ 1 → s.time.fine = true → ∃ t, step s = .next t ∧
      t.now = s.now + 1 + (if 3000000 ≤ s.time.rem + 1194304 then 1 else 0) ∧
      t.time.rem = (if 3000000 ≤ s.time.rem + 1194304 then s.time.rem + 1194304 - 3000000 else s.time.rem + 1194304) ∧
      t = { s with time := { s.time with epoch := t.now, rem := t.time.rem } }) ∧
    (s.eave.depth = 2 → s.time.fine = true → ∃ t, step s = .next t ∧
      t.now = s.now + 27 + (if 3000000 ≤ s.time.rem + 2886080 then 1 else 0) ∧
      t.time.rem = (if 3000000 ≤ s.time.rem + 2886080 then s.time.rem + 2886080 - 3000000 else s.time.rem + 2886080) ∧
      t = { s with time := { s.time with epoch := t.now, rem := t.time.rem } }) ∧
    (3 ≤ s.eave.depth → s.time.xsRem < 256 → -8388608 ≤ s.time.xsTrim → s.time.xsTrim ≤ 1000000 → ∃ t, step s = .next t ∧
      ((t.now * 256 + t.time.xsRem : Nat) : Int) = s.now * 256 + s.time.xsRem + 32768 * 256 + s.time.xsTrim ∧
      t.time.xsRem < 256 ∧
      t = { s with time := { s.time with epoch := t.now, xsRem := t.time.xsRem } })

/-- The DP window stays a canonical memory and the ring indexes stay in the ring, whatever the block does. -/
def Obligations.StepsKeepTheHostWindow : Prop :=
  ∀ s t : State, HostOk s → step s = .next t → HostOk t

/-- The state after reset has that form, its sort buffer is empty, and it is in HOLDOVER with READY 0 and INT_STATUS and
INT_ENABLE holding RESET_SEEN only (R42). -/
def Obligations.ResetMeetsTheInvariants : Prop :=
  HostOk State.reset ∧ SortOk State.reset ∧ State.reset.pending = [] ∧ State.reset.host.cmdOwner = 0 ∧
    State.reset.host.rspReady = 0 ∧ State.reset.host.evtHead = State.reset.host.evtTail ∧ State.reset.host.evtLost = 0 ∧
    State.reset.host.intStatus = 0x10 ∧ State.reset.host.intEnable = 0x10 ∧ State.reset.power.mode = .holdover ∧
    State.reset.isReady = false

/-- A programmed charter lock bit stays programmed, and while one is programmed no step changes the charter page (R406). -/
def Obligations.CharterLockIsPermanent : Prop :=
  ∀ s t : State, step s = .next t →
    (s.store.lockA = true → t.store.lockA = true) ∧ (s.store.lockB = true → t.store.lockB = true) ∧
    (s.store.lockA = true ∨ s.store.lockB = true → t.store.charter = s.store.charter)

/-- What the media latch or count is never taken back: the mesh break, the numbers of configuration sets and the vault-wide
program count (R401, R409, R446). -/
def Obligations.LatchesAndCountsNeverGoBack : Prop :=
  ∀ s t : State, step s = .next t →
    (s.store.meshBroken = true → t.store.meshBroken = true) ∧ s.store.nextSet ≤ t.store.nextSet ∧
    s.vault.writeSeq ≤ t.vault.writeSeq

/-- The Safelight's sort buffer never holds more than its 2,048 records (R447, R448). -/
def Obligations.StepsKeepTheSortBuffer : Prop :=
  ∀ s t : State, SortOk s → step s = .next t → SortOk t

/-! ### SPI transactions and front registers -/

/-- Reads of the host while READY is 1: the bytes of the region from the address on, zero beyond its end, and the status byte
in every power state; the instruction byte selects the command; HOST.HOLD restarts and from L2 on PD3 CORE wakes; nothing else changes (R36–R40). -/
def Obligations.HostReadsAnswer : Prop :=
  ∀ (a : BitVec 24) (n e : Nat) (s : State),
    (s.isReady = true → a.toNat % 4 = 0 → regionEnd a.toNat = some e → a.toNat + n ≤ e →
      ∃ t, exec (.read a n) s = .next t ∧ exec (.quadRead a n) s = .next t ∧
        Awakened s t ∧ t = { s with eave := t.eave, host := { s.host with
          spiOut := (upFrom a.toNat n).map (hostByte s), holdUntil := some (s.now + lsbOfMs (s.nat 1 8)) } }) ∧
    (s.isReady = true → ∃ t, exec .readStatus s = .next t ∧ Awakened s t ∧ t = { s with eave := t.eave, host :=
      { s.host with spiOut := [statusByte s], holdUntil := some (s.now + lsbOfMs (s.nat 1 8)) } }) ∧
    (s.isReady = false → s.eave.depth ≠ 0 → s.eave.waking = none → s.stew.running = true →
      ∃ t, exec .hostCsNWake s = .next t ∧ t.eave.waking = some { depth := s.eave.depth, since := s.now } ∧
        t.host.holdOnReady = true) ∧
    (s.isReady = false → ∃ t, exec .readStatus s = .next t ∧ t.host.spiOut = [statusByte s]) ∧
    (∀ (d : Bytes) (o : List (Nat × Byte)), spiCommand 0x05 a n d o = .readStatus ∧ spiCommand 0x0B a n d o = .read a n ∧
      spiCommand 0x02 a n d o = .write a d o ∧ spiCommand 0xEB a n d o = .quadRead a n ∧
      spiCommand 0x38 a n d o = .quadWrite a d o ∧
      ∀ op : Byte, spiInstructions.contains op = false → spiCommand op a n d o = .invalidInstruction op) ∧
    (∀ op : Byte, s.isReady = true → spiInstructions.contains op = false →
      ∃ t, exec (.invalidInstruction op) s = .next t ∧ t.host.spiErr = true ∧
        t.host.intStatus.getLsbD 6 = (s.host.intStatus.getLsbD 6 || !s.host.spiErr) ∧ t.host.window = s.host.window ∧
        t.store = s.store ∧ t.conf = s.conf)

/-- A whole word written into a command mailbox that the host owns changes those four bytes and no other byte of the window;
one written into a mailbox that the Steward owns, into the header or into the ring changes no byte and sets WR_IGNORED, and
FRONT_ERR when WR_IGNORED became 1; neither sets COLLIDE. Who owns what refuses no read: a read answers the bytes of the window
wherever it lies (R38, R45). -/
def Obligations.HostWritesObeyOwnership : Prop :=
  ∀ (a : BitVec 24) (d : Bytes) (other : List (Nat × Byte)) (s : State),
    s.isReady = true → a.toNat % 4 = 0 → d.length = 4 →
    (0x400 ≤ a.toNat → a.toNat < 0x4400 → s.host.cmdOwner.getLsbD ((a.toNat - 0x400) / 0x400) = false →
      ∃ t, exec (.write a d other) s = .next t ∧ exec (.quadWrite a d other) s = .next t ∧
        (HostOk s → ∀ i, i < 4 → Memory.read t.host.window (a.toNat + i) = d.getD i 0) ∧
        (∀ x, x < a.toNat ∨ a.toNat + 4 ≤ x → Memory.read t.host.window x = Memory.read s.host.window x) ∧
        Awakened s t ∧ t = { s with eave := t.eave, host := { s.host with
          window := t.host.window, holdUntil := some (s.now + lsbOfMs (s.nat 1 8)) } }) ∧
    ((0x400 ≤ a.toNat ∧ a.toNat < 0x4400 ∧ s.host.cmdOwner.getLsbD ((a.toNat - 0x400) / 0x400) = true ∨
        a.toNat < 0x400 ∨ (0x8400 ≤ a.toNat ∧ a.toNat < 0xC400) ∨
        (0x4400 ≤ a.toNat ∧ a.toNat < 0x8400 ∧ s.host.rspReady.getLsbD ((a.toNat - 0x4400) / 0x400) = false)) →
      ∃ t, exec (.write a d other) s = .next t ∧ exec (.quadWrite a d other) s = .next t ∧
        t.host.intStatus.getLsbD 6 = (s.host.intStatus.getLsbD 6 || !s.host.wrIgnored) ∧
        Awakened s t ∧ t = { s with eave := t.eave, host := { s.host with
          wrIgnored := true, intStatus := t.host.intStatus, holdUntil := some (s.now + lsbOfMs (s.nat 1 8)) } }) ∧
    (∀ n : Nat, a.toNat + n ≤ 0x10000 → ∃ t, exec (.read a n) s = .next t ∧ Awakened s t ∧
      t = { s with eave := t.eave, host := { s.host with
        spiOut := (upFrom a.toNat n).map (fun x => if x < 0xE400 then Memory.read s.host.window x else 0),
        holdUntil := some (s.now + lsbOfMs (s.nat 1 8)) } })

/-- Writes to the front registers while READY is 1 (R41, R46): a doorbell hands every newly set mailbox over, lowest index
first, and wakes nothing at L0; INT_STATUS and FRONT_STATUS clear where a one is written; INT_ENABLE takes the seven bits it
has; an offset that is not listed changes no register; from L2 on every write wakes PD3 CORE (R40). -/
def Obligations.FrontRegisterWrites : Prop :=
  ∀ (v : BitVec 32) (s : State), s.isReady = true →
    (s.eave.depth = 0 → ∃ t, exec (.cmdDoorbell v) s = .next t ∧
      t.host.cmdOwner = s.host.cmdOwner ||| v.setWidth 16 ∧
      t.host.doorbell = s.host.doorbell ++ (List.range 16).filter (fun i => v.getLsbD i && !s.host.cmdOwner.getLsbD i) ∧
      t = { s with host := t.host }) ∧
    (∃ t, exec (.intStatus v) s = .next t ∧ t.host.intStatus = s.host.intStatus &&& ~~~v ∧
      Awakened s t ∧ t = { s with eave := t.eave, host := { s.host with
        intStatus := t.host.intStatus, holdUntil := some (s.now + lsbOfMs (s.nat 1 8)) } }) ∧
    (∃ t, exec (.frontStatus v) s = .next t ∧ t.host.collide = (s.host.collide && !v.getLsbD 0) ∧
      t.host.wrIgnored = (s.host.wrIgnored && !v.getLsbD 1) ∧ t.host.spiErr = (s.host.spiErr && !v.getLsbD 2) ∧
      t.host.badFrame = (s.host.badFrame && !v.getLsbD 3) ∧ t.host.badFrameMb = s.host.badFrameMb ∧
      Awakened s t ∧ t = { s with eave := t.eave, host := t.host }) ∧
    (∃ t, exec (.frontRegisterWrite 0x44 v) s = .next t ∧ t.host.intEnable = v &&& 0x7F ∧
      t.host.intStatus = s.host.intStatus ∧ Awakened s t ∧ t = { s with eave := t.eave, host := t.host }) ∧
    (∀ off : Byte, off ∉ [0x20, 0x28, 0x30, 0x40, 0x44, 0x48] → ∃ t, exec (.frontRegisterWrite off v) s = .next t ∧
      Awakened s t ∧ t = { s with eave := t.eave, host := { s.host with holdUntil := some (s.now + lsbOfMs (s.nat 1 8)) } })

/-- EVT_TAIL moves forward up to EVT_HEAD and frees the records before it; any other value is ignored and sets SPI_ERR
(R59). -/
def Obligations.EventTailMovesForwardOnly : Prop :=
  ∀ (v : BitVec 32) (s : State), s.isReady = true → s.host.evtLost = 0 →
    ((v.toNat % 512 + 512 - s.host.evtTail) % 512 ≤ s.host.unread → ∃ t, exec (.evtTail v) s = .next t ∧
      t.host.evtTail = v.toNat % 512 ∧ t.host.evtHead = s.host.evtHead ∧ t.host.window = s.host.window ∧
      Awakened s t ∧ t = { s with eave := t.eave, host := t.host }) ∧
    (s.host.unread < (v.toNat % 512 + 512 - s.host.evtTail) % 512 → ∃ t, exec (.evtTail v) s = .next t ∧
      t.host.evtTail = s.host.evtTail ∧ t.host.spiErr = true ∧
      t.host.intStatus.getLsbD 6 = (s.host.intStatus.getLsbD 6 || !s.host.spiErr) ∧
      Awakened s t ∧ t = { s with eave := t.eave, host := t.host })

/-- Returning a response mailbox clears its RSP_READY bit and lets the Steward use it; when the last fragment of a ticket is
released the ticket becomes FREE (R47, R53). A bit that is 0 changes nothing. -/
def Obligations.ReleasingAResponseMailbox : Prop :=
  ∀ (n : Fin 16) (s : State), s.isReady = true →
    (∀ (tk f : Nat) (w : Work), tk < 128 → s.host.rspReady.getLsbD n.val = true → tget s.stew.rmb n.val = some (.frag tk f) →
      s.work tk = some w → (s.ticket tk).state = .completed → w.posted = w.frags.length → w.released.contains f = false →
      w.released.length + 1 = w.frags.length →
      ∃ t, exec (.rspReady (BitVec.twoPow 32 n.val)) s = .next t ∧ t.host.rspReady = s.host.rspReady &&& ~~~BitVec.twoPow 16 n.val ∧
        tget t.stew.rmb n.val = none ∧ (t.ticket tk).state = .free ∧ t.work tk = none ∧
        (∀ k, k ≠ tk → t.ticket k = s.ticket k ∧ t.work k = s.work k)) ∧
    (s.host.rspReady.getLsbD n.val = false → ∃ t, exec (.rspReady (BitVec.twoPow 32 n.val)) s = .next t ∧
      Awakened s t ∧ t = { s with eave := t.eave, host := { s.host with holdUntil := some (s.now + lsbOfMs (s.nat 1 8)) } })

/-- At L0 the Steward takes the mailbox that was doorbelled first: it goes back to the host with CMD_FREE. A sound frame with
a FREE ticket that passes every check of R52 is accepted, with its epoch as the acceptance stamp; one whose ticket is in
flight leaves the ticket alone and is answered NO_TICKET; an unsound one sets BAD_FRAME (R46, R52, R54). -/
def Obligations.TakingACommandMailbox : Prop :=
  ∀ (n : Nat) (rest : List Nat) (s : State), s.host.doorbell = n :: rest → n < 16 → s.stew.running = true → s.eave.depth = 0 →
    (∃ t, exec .mailboxTake s = .next t ∧ t.host.cmdOwner = s.host.cmdOwner &&& ~~~BitVec.twoPow 16 n ∧
      t.host.doorbell = rest ∧ t.host.intStatus.getLsbD 1 = true ∧ t.host.window = s.host.window) ∧
    (∀ f : Frame, f = mailboxFrame s n → f.sound = true → f.ticket < 128 → (s.ticket f.ticket).state = .free →
      judge f s = none →
      ∃ t, exec .mailboxTake s = .next t ∧ (t.ticket f.ticket).state = .accepted ∧ (t.ticket f.ticket).opcode = f.opcode ∧
        (t.ticket f.ticket).acceptStamp = s.now ∧ (t.work f.ticket).map (·.req) = some f.req ∧
        (∀ k, k ≠ f.ticket → t.ticket k = s.ticket k)) ∧
    (∀ (f : Frame) (st : Nat), f = mailboxFrame s n → f.sound = true → f.ticket < 128 → (s.ticket f.ticket).state = .free →
      judge f s = some st →
      ∃ t, exec .mailboxTake s = .next t ∧ (t.ticket f.ticket).state = .completed ∧ (t.ticket f.ticket).status = st) ∧
    (∀ f : Frame, f = mailboxFrame s n → f.sound = true → (s.ticket f.ticket).state ≠ .free →
      ∃ t, exec .mailboxTake s = .next t ∧ t.sheet = s.sheet ∧ t.stew.postQ = s.stew.postQ ++
        [.dup { opcode := f.opcode, ticket := f.ticket, node := f.node, stamp := s.now, t1 := false }]) ∧
    ((mailboxFrame s n).sound = false → ∃ t, exec .mailboxTake s = .next t ∧ t.sheet = s.sheet ∧ t.stew = s.stew ∧
      t.host.badFrame = true ∧ t.host.badFrameMb = n ∧
      t.host.intStatus.getLsbD 6 = (s.host.intStatus.getLsbD 6 || !s.host.badFrame))

/-- A response fragment goes into the lowest-numbered response mailbox whose RSP_READY bit is 0, with the bit and RSP set
(R47), and nothing outside that mailbox's bytes changes in the window. -/
def Obligations.PostingAResponseFragment : Prop :=
  ∀ (tk n f : Nat) (w : Work) (rest : List PostItem) (s : State), tk < 128 → n < 16 → s.stew.running = true →
    s.stew.postQ = .ticket tk :: rest → s.work tk = some w → w.t1 = false → w.nextFrag = some f →
    freeMailbox s = some n → (fragBytes tk f w).length ≤ 1024 →
    ∃ t, exec .responsePost s = .next t ∧ t.host.rspReady = s.host.rspReady ||| BitVec.twoPow 16 n ∧
      t.host.intStatus.getLsbD 0 = true ∧ t.host.window = Memory.writeBytes s.host.window (0x4400 + n * 0x400) (fragBytes tk f w) ∧
      tget t.stew.rmb n = some (.frag tk f) ∧
      (∀ x, x < 0x4400 + n * 0x400 ∨ 0x4400 + (n + 1) * 0x400 ≤ x → Memory.read t.host.window x = Memory.read s.host.window x)

/-- The timers of the host link: HOST.HOLD runs out, EVT is raised after HOST.EVT_IRQ_DELAY, and HEARTBEAT rises by one and
wraps every 1 ms while the Steward runs at L0 or L1 (R40, R44, R61). -/
def Obligations.HostLinkTimers : Prop :=
  ∀ s : State,
    (∀ d : Nat, s.host.holdUntil = some d → clearUntil d s = true → ∃ t, exec .hostHoldExpire s = .next t ∧
      t.host.holdUntil = none ∧ t = { s with host := { s.host with holdUntil := none }, time := t.time }) ∧
    (∀ (t0 : Nat) (l : List Nat), s.host.ringSince = t0 :: l → s.nat 1 7 ≠ 0 →
      clearUntil (t0 + lsbOfMs (s.nat 1 7)) s = true → ∃ t, exec .evtIrqDelayExpire s = .next t ∧
      t.host.intStatus.getLsbD 2 = true ∧ t = { s with host := { s.host with intStatus := t.host.intStatus }, time := t.time }) ∧
    (s.stew.running = true → s.eave.depth ≤ 1 → clearUntil s.host.beatAt s = true →
      ∃ t, exec .heartbeat s = .next t ∧ t.host.heartbeatSeen = true ∧
      t.host.beatAt = t.now + lsbOfMs 1 ∧
      (HostOk s → leNat (Memory.readBytes t.host.window 4 4) = (leNat (Memory.readBytes s.host.window 4 4) + 1) % 2 ^ 32) ∧
      (∀ x, x < 4 ∨ 8 ≤ x → Memory.read t.host.window x = Memory.read s.host.window x) ∧
      t = { s with time := t.time, host := { s.host with
        window := t.host.window, heartbeatSeen := true, beatAt := t.host.beatAt } })

/-- The T1 host path (R28, R54, R63–R66, R475). T1_COMMAND_FRAME and T1_RELEASE_FRAME complete in a next state: a frame on
another port, from or to another address, of another EtherType or with a VLAN tag changes nothing; one that comes before the
cipher engine works waits for it; one that fails its checks is counted and logged with event 0x0102; an authenticated one whose
COUNTER the stored host counter covers takes effect at once, by which T1_COMMAND_FRAME accepts its command on a FREE ticket and
T1_RELEASE_FRAME releases the fragments of its ticket, FREE after the last one. T1_REPLAY_TIMEOUT completes in a next state in
which the wait of the T1 replay, five seconds after trigger 12, has ended. T1_RETRY completes in a next state in which a
response or a refusal not released has gone out again after HOST.T1_RETRY. -/
def Obligations.T1HostPath : Prop :=
  ∀ (port : Fin 28) (h b fr : Bytes) (s : State), fr = h ++ b → h.length = 14 →
    (s.t1Port ≠ some port.val ∨ t1Addressed port.val fr s = false → exec (.t1CommandFrame port h b) s = .next s ∧
      exec (.t1ReleaseFrame port h b) s = .next s) ∧
    (s.t1Port = some port.val → s.t1Up = true → s.nat 1 1 ≠ 0 → t1Addressed port.val fr s = true → keyReady s (s.nat 1 2) = false →
      (u8At b 1 ≠ 4 → ∃ t, exec (.t1CommandFrame port h b) s = .next t ∧
        t.host.t1Wait = s.host.t1Wait ++ [(port.val, fr, false)] ∧ t.sheet = s.sheet ∧ t.stew = s.stew) ∧
      (u8At b 1 = 4 → ∃ t, exec (.t1ReleaseFrame port h b) s = .next t ∧
        t.host.t1Wait = s.host.t1Wait ++ [(port.val, fr, true)] ∧ t.sheet = s.sheet ∧ t.stew = s.stew)) ∧
    (s.t1Port = some port.val → s.t1Up = true → s.nat 1 1 ≠ 0 → t1Addressed port.val fr s = true → keyReady s (s.nat 1 2) = true →
      t1Key s 3 = none →
      (u8At b 1 ≠ 4 → ∃ t, exec (.t1CommandFrame port h b) s = .next t ∧ t.host.t1Refused = s.host.t1Refused + 1 ∧
        Logged s.now 0x0102 0 0xFF [] s t ∧ t.sheet = s.sheet ∧ t.stew = s.stew) ∧
      (u8At b 1 = 4 → ∃ t, exec (.t1ReleaseFrame port h b) s = .next t ∧ t.host.t1Refused = s.host.t1Refused + 1 ∧
        Logged s.now 0x0102 0 0xFF [] s t ∧ t.sheet = s.sheet ∧ t.stew = s.stew)) ∧
    (∀ k : Bytes, s.t1Port = some port.val → s.t1Up = true → s.nat 1 1 ≠ 0 → t1Addressed port.val fr s = true →
      keyReady s (s.nat 1 2) = true → t1Key s 3 = some k → u8At b 0 = 1 → 20 + u16At b 2 ≤ b.length →
      (cmac k (b.take (12 + u16At b 2))).take 8 = slice b (12 + u16At b 2) 8 →
      s.host.t1Hold = [] → s.sheet.t1Rx < u64At b 4 → u64At b 4 ≤ s.sheet.t1Rx + 2 ^ 20 →
      u64At b 4 / 1024 ≤ s.store.counterValue 0x1062 →
      (∀ f : Frame, f = ⟨slice b 12 (u16At b 2)⟩ → u8At b 1 = 1 → 16 ≤ u16At b 2 → f.sound = true → f.ticket < 128 →
        (s.ticket f.ticket).state = .free → judge f s = none →
        ∃ t, exec (.t1CommandFrame port h b) s = .next t ∧ (t.ticket f.ticket).state = .accepted ∧
          (t.ticket f.ticket).t1 = true ∧ t.sheet.t1Rx = u64At b 4 ∧ t.host.t1Hold = []) ∧
      (∀ w : Work, u8At b 1 = 4 → u16At b 2 = 4 → u8At (slice b 12 4) 0 < 128 → s.work (u8At (slice b 12 4) 0) = some w →
        w.t1 = true → w.posted = 1 → w.frags.length = 1 → w.released = [] →
        (s.ticket (u8At (slice b 12 4) 0)).state = .completed →
        ∃ t, exec (.t1ReleaseFrame port h b) s = .next t ∧ (t.ticket (u8At (slice b 12 4) 0)).state = .free ∧
          t.sheet.t1Rx = u64At b 4)) ∧
    (∀ t0 : Nat, s.host.trigger12At = some t0 → clearUntil (t0 + 5 * oneSec) s = true →
      ∃ t, exec .t1ReplayTimeout s = .next t ∧ t.host.trigger12At = none) ∧
    (∀ (d : DupRsp) (t0 : Nat) (l : List (DupRsp × Nat)), s.host.t1Dups = (d, t0) :: l → t1Unreleased s = [] → s.t1Up = true →
      keyReady s (s.nat 1 2) = true →
      clearUntil (t0 + lsbOfMs (s.nat 1 3)) s = true → ∃ t, exec .t1Retry s = .next t ∧
        t.host.t1Dups = l ++ [(d, (reach (t0 + lsbOfMs (s.nat 1 3)) s).now)]) ∧
    (∀ (tk : Nat) (w : Work) (l : List (Nat × Work)), s.host.t1Dups = [] → t1Unreleased s = (tk, w) :: l → tk < 128 → s.t1Up = true →
      keyReady s (s.nat 1 2) = true → s.work tk = some w → clearUntil (w.sentAt + lsbOfMs (s.nat 1 3)) s = true →
      ∃ t, exec .t1Retry s = .next t ∧
        (t.work tk).map (·.sentAt) = some (reach (w.sentAt + lsbOfMs (s.nat 1 3)) s).now)

/-! ### Commands that read -/

/-- DEVICE.IDENTIFY, DEVICE.TICKET_QUERY, NODE.LIST, NODE.READ and NODE.PROBE complete: in every state in which the command is
accepted and the Steward may start it, each has a next state in which its ticket is answered OK in one response and nothing
else has changed (R79). DEVICE.IDENTIFY gives the identity, the number of nodes and the sizes of the host link,
DEVICE.TICKET_QUERY all 128 tickets, NODE.LIST the nodes of the range in order, NODE.READ the node's row, and NODE.PROBE one
entry per tile of the walk. -/
def Obligations.NodeReadsAnswer : Prop :=
  ∀ (tk : Fin 128) (s : State) (w : Work),
    (startable tk.val 0x0101 s = some w → ∃ t, exec (.deviceIdentify tk) s = .next t ∧
      Answered tk.val St.ok (leBytes 4 s.idPart ++ leBytes 4 s.idSteward ++ leBytes 4 s.host.idFixer.toNat ++
        leBytes 8 Config.serial.toNat ++ leBytes 2 (allNodes s.conf.courses).length ++ leBytes 2 2048 ++ leBytes 1 16 ++
        leBytes 1 4 ++ leBytes 2 512 ++ zeros 4) s t) ∧
    (startable tk.val 0x0102 s = some w → ∃ t d, exec (.deviceTicketQuery tk) s = .next t ∧ Answered tk.val St.ok d s t ∧
      d = (List.range 128).flatMap (fun k => queryEntry tk.val k (s.ticket k))) ∧
    (startable tk.val 0x0112 s = some w → ∃ t ns, exec (.nodeList tk) s = .next t ∧
      ns = (allNodes s.conf.courses).filter (fun n =>
        decide (u16At w.req.payload 0 ≤ n) && decide (n ≤ u16At w.req.payload 2)) ∧
      Answered tk.val St.ok (leBytes 2 ns.length ++ zeros 2 ++
        ns.flatMap (fun n => leBytes 2 n ++ leBytes 1 (b1 !(isTile n)) ++ leBytes 1 (typeCode n))) s t) ∧
    (startable tk.val 0x0111 s = some w → ∃ t d, exec (.nodeRead tk) s = .next t ∧ Answered tk.val St.ok d s t ∧
      u16At d 0 = w.req.node % 65536 ∧ d.length = 12 + 2 * ((members s.conf.courses w.req.node).getD []).length) ∧
    (startable tk.val 0x0110 s = some w → ∃ t, exec (.nodeProbe tk) s = .next t ∧ TilesAnswered tk.val w.walk
      ((commandTiles w).map (fun n => { node := n, status := St.ok, data := probeTile tk.val n s })) s t)

/-- The status reads of every family complete: in every state in which the command is accepted and the Steward may start it,
each has a next state in which its ticket is answered OK with the state as it stands and nothing else has changed (R108, R132,
R155, R199, R246, R268, R341, R369, R385, R418, R436, R443, R457). They are TIME.READ, POWER.MODE_READ, POWER.DOMAIN_READ,
POWER.EAVE_READ, EXPOSE.STATUS, ACCESS.STATUS, UHF.STATUS, UHF.CHARTER_READ, RANGE.STATUS, SWITCH.STATUS, CIPHER.STATUS,
GRAIN.STATUS, STORE.STATUS, MEM.STATUS, MEM.GUARD_LOG_READ, SAFE.STATUS and UPDATE.STATUS. -/
def Obligations.StatusReadsAnswer : Prop :=
  ∀ (tk : Fin 128) (s : State) (w : Work),
    (startable tk.val 0x0201 s = some w → ∃ t, exec (.timeRead tk) s = .next t ∧ Answered tk.val St.ok (timeReadData s) s t) ∧
    (startable tk.val 0x0401 s = some w → ∃ t, exec (.powerModeRead tk) s = .next t ∧
      Answered tk.val St.ok (modeReadData s) s t) ∧
    (startable tk.val 0x0403 s = some w → ∃ t, exec (.powerDomainRead tk) s = .next t ∧
      Answered tk.val St.ok ((List.range 10).flatMap (domainEntry s)) s t) ∧
    (startable tk.val 0x0404 s = some w → ∃ t, exec (.powerEaveRead tk) s = .next t ∧
      Answered tk.val St.ok (eaveReadData s) s t) ∧
    (startable tk.val 0x0307 s = some w → ∃ t, exec (.exposeStatus tk) s = .next t ∧
      Answered tk.val St.ok (exposeStatusData s) s t) ∧
    (startable tk.val 0x0501 s = some w → ∃ t, exec (.accessStatus tk) s = .next t ∧
      Answered tk.val St.ok (accessStatusData s) s t) ∧
    (startable tk.val 0x0701 s = some w → ∃ t, exec (.uhfStatus tk) s = .next t ∧
      Answered tk.val St.ok (uhfStatusData s) s t) ∧
    (startable tk.val 0x0705 s = some w → ∃ t, exec (.uhfCharterRead tk) s = .next t ∧
      Answered tk.val St.ok (leBytes 1 (if s.charterValid then b1 s.charterLocked else 2) ++ zeros 3 ++
        leBytes 4 (charterCrc s.uhf.charter) ++ s.uhf.charter) s t) ∧
    (startable tk.val 0x0801 s = some w → ∃ t, exec (.rangeStatus tk) s = .next t ∧
      Answered tk.val St.ok (rangeStatusData s) s t) ∧
    (startable tk.val 0x0A01 s = some w → ∃ t, exec (.switchStatus tk) s = .next t ∧
      Answered tk.val St.ok (switchStatusData s) s t) ∧
    (startable tk.val 0x0B01 s = some w → ∃ t, exec (.cipherStatus tk) s = .next t ∧
      Answered tk.val St.ok (cipherStatusData s) s t) ∧
    (startable tk.val 0x0C01 s = some w → ∃ t, exec (.grainStatus tk) s = .next t ∧
      Answered tk.val St.ok (grainStatusData s) s t) ∧
    (startable tk.val 0x0D01 s = some w → ∃ t, exec (.storeStatus tk) s = .next t ∧
      Answered tk.val St.ok (storeStatusData s) s t) ∧
    (startable tk.val 0x0E01 s = some w → ∃ t, exec (.memStatus tk) s = .next t ∧
      Answered tk.val St.ok (memStatusData s) s t) ∧
    (startable tk.val 0x0E02 s = some w → ∃ t, exec (.memGuardLogRead tk) s = .next t ∧
      Answered tk.val St.ok (leBytes 2 s.mem.log.length ++ zeros 2 ++ s.mem.log.flatMap GuardEntry.bytes) s t) ∧
    (startable tk.val 0x0F01 s = some w → ∃ t, exec (.safeStatus tk) s = .next t ∧
      Answered tk.val St.ok (safeStatusData s) s t) ∧
    (startable tk.val 0x0F07 s = some w → ∃ t, exec (.updateStatus tk) s = .next t ∧
      Answered tk.val St.ok (updateStatusData s) s t)

/-- A read of tiles answers every tile of the walk in walk order from the same state, and changes nothing else (R72, R73). -/
def Obligations.TileReadsAnswer : Prop :=
  ∀ (tk : Fin 128) (s : State) (w : Work),
    let tiles (f : Nat → Bytes) : List TileRes := (commandTiles w).map (fun n => { node := n, status := St.ok, data := f n })
    (startable tk.val 0x0212 s = some w → ∃ t, exec (.timeShutterRead tk) s = .next t ∧
      TilesAnswered tk.val w.walk (tiles (fun n => shutterData (n - 0x60) (s.shut (n - 0x60)))) s t) ∧
    (startable tk.val 0x0502 s = some w → ∃ t, exec (.accessSlotRead tk) s = .next t ∧
      TilesAnswered tk.val w.walk (tiles (fun n => slotReadData (n - 0x50) s)) s t) ∧
    (startable tk.val 0x0601 s = some w → ∃ t, exec (.lfChannelRead tk) s = .next t ∧
      TilesAnswered tk.val w.walk (tiles (fun n => channelData (n - 0x10) s)) s t) ∧
    (startable tk.val 0x0802 s = some w → ∃ t, exec (.rangePortRead tk) s = .next t ∧
      TilesAnswered tk.val w.walk (tiles (fun n => rangePortData (n - 0x88) s)) s t) ∧
    (startable tk.val 0x0A02 s = some w → ∃ t, exec (.switchPortRead tk) s = .next t ∧
      TilesAnswered tk.val w.walk (tiles (fun n => portData (portOf n) s)) s t) ∧
    (startable tk.val 0x0A03 s = some w → ∃ t, exec (.switchCountersRead tk) s = .next t ∧
      TilesAnswered tk.val w.walk (tiles (fun n => (s.port (portOf n)).counters.toList.flatMap (leBytes 4))) s t) ∧
    (startable tk.val 0x0B02 s = some w → ∃ t, exec (.cipherKeyRead tk) s = .next t ∧
      TilesAnswered tk.val w.walk (tiles (fun n => keyReadData (n - 0x90) s)) s t) ∧
    (startable tk.val 0x0F02 s = some w → ∃ t, exec (.safeSensorRead tk) s = .next t ∧
      TilesAnswered tk.val w.walk (tiles (fun n => sensorData (tget s.safe.sensors (n - 0x70)))) s t)

/-- Reads of a source: 0xFF reads what is in force, a session that is CLOSED is answered SESSION_CLOSED (R155, R199, R341);
nothing else changes. -/
def Obligations.SourceReadsAnswer : Prop :=
  ∀ (tk : Fin 128) (s : State) (w : Work),
    (startable tk.val 0x0308 s = some w → (rowOfId (u32At w.req.payload 0)).isSome = true →
      (u8At w.req.payload 4 = 0xFF → ∃ t, exec (.exposeSettingRead tk) s = .next t ∧ Answered tk.val St.ok
        (valueBytes (settingNow s (u32At w.req.payload 0)) ++ leBytes 1 0 ++ zeros 3 ++ leBytes 4 s.conf.gen) s t) ∧
      (u8At w.req.payload 4 ≠ 0xFF → (s.sess (u8At w.req.payload 4)).state = .closed →
        ∃ t, exec (.exposeSettingRead tk) s = .next t ∧ Answered tk.val St.sessionClosed [] s t)) ∧
    (startable tk.val 0x0508 s = some w →
      (u8At w.req.payload 0 = 0xFF → ∃ t, exec (.accessZonemapRead tk) s = .next t ∧ Answered tk.val St.ok (zoneMap s) s t) ∧
      (u8At w.req.payload 0 ≠ 0xFF → sessionClosed (u8At w.req.payload 0) s = true →
        ∃ t, exec (.accessZonemapRead tk) s = .next t ∧ Answered tk.val St.sessionClosed [] s t)) ∧
    (startable tk.val 0x0A05 s = some w →
      (u8At w.req.payload 0 = 0xFF → ∃ t d, exec (.switchTableRead tk) s = .next t ∧ Answered tk.val St.ok d s t ∧
        u32At d 0 = s.sw.gen % 2 ^ 32 ∧ u8At d 4 = u8At w.req.payload 1) ∧
      (u8At w.req.payload 0 = 0xFE → s.sw.retiring = none → ∃ t, exec (.switchTableRead tk) s = .next t ∧
        Answered tk.val St.ok (zeros 8) s t) ∧
      (u8At w.req.payload 0 < 4 → sessionClosed (u8At w.req.payload 0) s = true →
        ∃ t, exec (.switchTableRead tk) s = .next t ∧ Answered tk.val St.sessionClosed [] s t)) ∧
    (startable tk.val 0x0A07 s = some w →
      (u8At w.req.payload 0 = 0xFF → ∃ t, exec (.switchLinScheduleRead tk) s = .next t ∧
        Answered tk.val St.ok ((s.conf.object (objectId 10 0xF1 (portOf w.req.node))).getD (zeros 4)) s t) ∧
      (u8At w.req.payload 0 ≠ 0xFF → sessionClosed (u8At w.req.payload 0) s = true →
        ∃ t, exec (.switchLinScheduleRead tk) s = .next t ∧ Answered tk.val St.sessionClosed [] s t))

/-- The staging commands answer with the staging's status in an empty response. Into a session that is OPEN or CHECKED and
has room, each writes its object under its own reference, after which the session is OPEN and a prepared set of it is
abandoned; a CLOSED session is answered SESSION_CLOSED and an EXPOSING one SESSION_BUSY (R136–R138, R401). -/
def Obligations.StagingCommandsStage : Prop :=
  ∀ (tk : Fin 128) (s : State) (w : Work) (i : Instr) (op : Nat) (it : Item),
    (i = .nodeCourseStage tk ∧ op = 0x0120 ∧ courseRefusal w.req.payload = none ∧
        it = { id := objectId 1 0xF0 (u16At w.req.payload 0), val := .object w.req.payload } ∨
      i = .nodeCourseDeleteStage tk ∧ op = 0x0121 ∧ 0x100 ≤ u16At w.req.payload 0 ∧ u16At w.req.payload 0 ≤ 0x7FF ∧
        it = { id := objectId 1 0xF0 (u16At w.req.payload 0), val := .deletion } ∨
      i = .timeShutterStage tk ∧ op = 0x0213 ∧ w.req.node - 0x60 < 12 ∧ u8At w.req.payload 16 / 2 % 2 = 0 ∧
        it = { id := objectId 2 0xF0 (w.req.node - 0x60), val := .object w.req.payload } ∨
      i = .accessZonemapStage tk ∧ op = 0x0507 ∧ it = { id := objectId 5 0xF0 0, val := .object w.req.payload } ∨
      i = .fixerPairStage tk ∧ op = 0x0909 ∧ it = { id := objectId 9 0xF0 0, val := .object w.req.payload } ∨
      i = .switchTableStage tk ∧ op = 0x0A04 ∧ u8At w.req.payload 2 = 1 ∧
        it = { id := objectId 10 0xF0 (u16At w.req.payload 0), val := .object (stagedEntry (slice w.req.payload 4 40)) } ∨
      i = .switchLinScheduleStage tk ∧ op = 0x0A06 ∧
        it = { id := objectId 10 0xF1 (portOf w.req.node), val := .object w.req.payload }) →
    startable tk.val op s = some w → w.req.session < 4 →
    ((s.sess w.req.session).state = .opened ∨ (s.sess w.req.session).state = .checked →
      (putItem (s.sess w.req.session).items it).length ≤ 8192 →
      ((putItem (s.sess w.req.session).items it).map Item.size).sum ≤ 196608 →
      ∃ t u, exec i s = .next t ∧ Answered tk.val St.ok [] u t ∧ u = { s with expo := u.expo, store := u.store } ∧
        (u.sess w.req.session).state = .opened ∧ (u.sess w.req.session).items = putItem (s.sess w.req.session).items it ∧
        (∀ n, n ≠ w.req.session → u.sess n = s.sess n) ∧
        (∀ c ∈ u.store.sets, c.session = w.req.session → c.phase ≠ 0)) ∧
    ((s.sess w.req.session).state = .closed → ∃ t, exec i s = .next t ∧ Answered tk.val St.sessionClosed [] s t) ∧
    ((s.sess w.req.session).state = .exposing → ∃ t, exec i s = .next t ∧ Answered tk.val St.sessionBusy [] s t)

/-! ### Time base -/

/-- TIME.SET refuses a stamp at or below the epoch, and one more than 86,400 s ahead outside WORKSHOP while UNSET is clear;
otherwise the epoch steps, UNSET clears, the response holds the epoch before and after (R89, R108) and the domains' on times do not take in the step. TIME.SLEW replaces the
slew that runs, with event 0x0204; DURATION 0 ends it; the end of the duration returns slew_adj to 0 (R89, R108). -/
def Obligations.SettingAndSlewingTheEpoch : Prop :=
  ∀ (tk : Fin 128) (s : State) (w : Work),
    (startable tk.val 0x0202 s = some w →
      (u64At w.req.payload 0 ≤ s.now → ∃ t, exec (.timeSet tk) s = .next t ∧ Answered tk.val St.timeBackward [] s t) ∧
      (s.time.unset = false → lsbOfS 86400 < u64At w.req.payload 0 - s.now → s.power.mode ≠ .workshop →
        ∃ t, exec (.timeSet tk) s = .next t ∧ Answered tk.val St.deniedMode [] s t) ∧
      (s.now < u64At w.req.payload 0 →
        s.time.unset = true ∨ u64At w.req.payload 0 - s.now ≤ lsbOfS 86400 ∨ s.power.mode = .workshop →
        s.time.routing = [] → (∀ n, n < 16 → (s.shut n).state = .idle ∨ u64At w.req.payload 0 < (s.shut n).active) →
        ∃ t u, exec (.timeSet tk) s = .next t ∧
          Answered tk.val St.ok (leBytes 8 s.now ++ leBytes 8 (u64At w.req.payload 0)) u t ∧
          u.now = u64At w.req.payload 0 ∧ u.time.unset = false ∧ (∀ n, n < 16 → u.shut n = s.shut n) ∧
          Logged (u64At w.req.payload 0) 0x0202 0 tk.val (leBytes 8 s.now) s u ∧
          (∀ d, d < 10 → s.now - (tget s.power.domains d).since = u.now - (tget u.power.domains d).since) ∧
          u = { withEvents s u with time := u.time, power := { s.power with domains := u.power.domains } })) ∧
    (startable tk.val 0x0203 s = some w → ∃ t u, exec (.timeSlew tk) s = .next t ∧ Answered tk.val St.ok [] u t ∧
      u.time = { s.time with
        slewPpb := if u32At w.req.payload 4 = 0 then 0 else sext 32 (u32At w.req.payload 0)
        slewEnd := if u32At w.req.payload 4 = 0 then none else some (s.now + lsbOfS (u32At w.req.payload 4)) } ∧
      Logged s.now 0x0204 0 tk.val (slice w.req.payload 0 8) s u ∧ u = { withEvents s u with time := u.time }) ∧
    (∀ e : Nat, s.time.slewEnd = some e → clearUntil e s = true → ∃ t, exec .slewEnd s = .next t ∧
      t.time.slewPpb = 0 ∧ t.time.slewEnd = none ∧ t.now = (reach e s).now ∧ t = { s with time := t.time })

/-- Shutters (R97–R100, R108). TIME.SHUTTER_ARM loads an IDLE shutter's compare and period, writes the preload of an armed
one, and moves a periodic grid with KEEP_PHASE; a compare at or below the epoch fires at once, LATE; the firmware shutters are
SHUTTER_HELD; TIME.SHUTTER_DISARM makes it IDLE without its preload and keeps its counts. A fire counts, records its stamp and
returns a one-shot to IDLE, and a periodic compare moves to the next grid point. -/
def Obligations.ShuttersArmAndFire : Prop :=
  ∀ (tk : Fin 128) (n : Fin 16) (s : State) (w : Work),
    (startable tk.val 0x0210 s = some w → commandTiles w = [0x60 + n.val] →
      let answer (k : Nat) : Bytes := leBytes 8 s.now ++ leBytes 1 k ++ zeros 7
      let event : Bool := u8At w.req.payload 16 % 2 == 1
      (12 ≤ n.val → ∃ t, exec (.timeShutterArm tk) s = .next t ∧
        TilesAnswered tk.val w.walk [{ node := 0x60 + n.val, status := St.shutterHeld, data := [] }] s t) ∧
      (n.val < 12 → u8At w.req.payload 16 / 2 % 2 = 0 → (s.shut n.val).state = .idle → s.now < u64At w.req.payload 0 →
        ∃ t u, exec (.timeShutterArm tk) s = .next t ∧
          TilesAnswered tk.val w.walk [{ node := 0x60 + n.val, status := St.ok, data := answer 0 }] u t ∧
          u.shut n.val = { s.shut n.val with
            active := u64At w.req.payload 0, period := u64At w.req.payload 8, lastCompare := none, owed := false, event
            state := if u64At w.req.payload 8 = 0 then .oneShot else .periodic } ∧
          (∀ k, k ≠ n.val → u.shut k = s.shut k) ∧ u = { s with time := { s.time with shutters := u.time.shutters } }) ∧
      (n.val < 12 → u8At w.req.payload 16 / 2 % 2 = 0 → (s.shut n.val).state = .idle → u64At w.req.payload 0 ≤ s.now →
        (s.shut n.val).preValid = false → s.time.routing = [] → routesFrom s (1 + n.val) = [] →
        ∃ t u, exec (.timeShutterArm tk) s = .next t ∧
          TilesAnswered tk.val w.walk [{ node := 0x60 + n.val, status := St.shutterLate, data := answer 0 }] u t ∧
          (u.shut n.val).lastFire = s.now ∧ (u.shut n.val).lastLate = true ∧
          (u.shut n.val).fireCount = wrapAdd 32 (s.shut n.val).fireCount 1 ∧
          (u.shut n.val).missedCount = satAdd 0xFFFF (s.shut n.val).missedCount
            (missedPoints (u64At w.req.payload 0) (u64At w.req.payload 8) s.now) ∧
          (u64At w.req.payload 8 = 0 → (u.shut n.val).state = .idle) ∧
          (u64At w.req.payload 8 ≠ 0 → s.now < (u.shut n.val).active) ∧
          (∀ k, k ≠ n.val → u.shut k = s.shut k) ∧ u = { withEvents s u with time := u.time }) ∧
      (n.val < 12 → u8At w.req.payload 16 / 2 % 2 = 0 → (s.shut n.val).state ≠ .idle → s.now < (s.shut n.val).active →
        ∃ t u, exec (.timeShutterArm tk) s = .next t ∧
          TilesAnswered tk.val w.walk [{ node := 0x60 + n.val, status := St.ok, data := answer 1 }] u t ∧
          u.shut n.val = { s.shut n.val with
            preValid := true, preCompare := u64At w.req.payload 0, prePeriod := u64At w.req.payload 8, event } ∧
          (∀ k, k ≠ n.val → u.shut k = s.shut k) ∧ u = { s with time := { s.time with shutters := u.time.shutters } }) ∧
      (∀ l : Nat, n.val < 12 → u8At w.req.payload 16 / 2 % 2 = 1 → (s.shut n.val).state = .periodic →
        s.now < (s.shut n.val).active → (s.shut n.val).lastCompare = some l → s.now < l + u64At w.req.payload 8 → u64At w.req.payload 8 ≠ 0 →
        ∃ t u, exec (.timeShutterArm tk) s = .next t ∧
          TilesAnswered tk.val w.walk [{ node := 0x60 + n.val, status := St.ok, data := answer 2 }] u t ∧
          u.shut n.val = { s.shut n.val with
            active := l + u64At w.req.payload 8, period := u64At w.req.payload 8, event } ∧
          (∀ k, k ≠ n.val → u.shut k = s.shut k) ∧ u = { s with time := { s.time with shutters := u.time.shutters } })) ∧
    (startable tk.val 0x0211 s = some w → commandTiles w = [0x60 + n.val] →
      (12 ≤ n.val → ∃ t, exec (.timeShutterDisarm tk) s = .next t ∧
        TilesAnswered tk.val w.walk [{ node := 0x60 + n.val, status := St.shutterHeld, data := [] }] s t) ∧
      (n.val < 12 → (s.shut n.val).state = .idle ∨ s.now < (s.shut n.val).active → ∃ t u, exec (.timeShutterDisarm tk) s = .next t ∧
        TilesAnswered tk.val w.walk [{ node := 0x60 + n.val, status := St.ok, data := [] }] u t ∧
        u.shut n.val = { s.shut n.val with state := .idle, preValid := false } ∧
        (∀ k, k ≠ n.val → u.shut k = s.shut k) ∧ u = { s with time := { s.time with shutters := u.time.shutters } })) ∧
    (∀ (k : Fin 12) (v : State), reachCompare k.val s = some v → s.time.routing = [] → routesFrom s (1 + k.val) = [] →
      (s.shut k.val).preValid = false →
      ∃ t, exec (.shutterFire k) s = .next t ∧ (t.shut k.val).lastFire = v.now ∧ v.now = (reach (s.shut k.val).active s).now ∧
        (t.shut k.val).fireCount = wrapAdd 32 (s.shut k.val).fireCount 1 ∧
        ((s.shut k.val).period = 0 → (t.shut k.val).state = .idle) ∧
        ((s.shut k.val).period ≠ 0 → v.now < (t.shut k.val).active ∧
          ((t.shut k.val).active - (s.shut k.val).active) % (s.shut k.val).period = 0 ∧
          ((s.shut k.val).active ≤ v.now → (t.shut k.val).active ≤ v.now + (s.shut k.val).period)) ∧
        (∀ j, j ≠ k.val → t.shut j = s.shut j) ∧ t = { withEvents s t with time := t.time })

/-- Capture pairs (R101–R104, R108): an edge on an assigned input is stamped at its first transition and raises CAP_SEQ; a
falling edge after an open rising edge gives the pulse's width and counts it; the read's acknowledgement acts only when its
CAP_SEQ is the pair's own, and the answer shows the state before it, with the edges that the device's own signals have had. -/
def Obligations.CapturePairsStampEdges : Prop :=
  ∀ (tk : Fin 128) (n : Fin 8) (stamp : Nat) (s : State) (w : Work),
    (s.nat 2 4 n.val ≠ 0 → s.nat 2 4 n.val < 7 → clearUntil stamp s = true → s.nat 2 6 n.val = 0 → s.nat 2 5 n.val = 0 →
      s.time.routing = [] →
      (routesFrom s (0x11 + n.val) = [] → ∃ t, exec (.captureEdge n true stamp) s = .next t ∧
        ((t.cap n.val).rise.map (·.1)) = some (reach stamp s).now ∧ t.now = (reach stamp s).now ∧ (t.cap n.val).capSeq = wrapAdd 32 (s.cap n.val).capSeq 1 ∧
        (t.cap n.val).width = (s.cap n.val).width ∧ (t.cap n.val).pulses = (s.cap n.val).pulses ∧
        (∀ k, k ≠ n.val → t.cap k = s.cap k) ∧ t = { s with time := t.time }) ∧
      (∀ (r : Nat) (c : Bool), routesFrom s (0x19 + n.val) = [] → (s.cap n.val).rise = some (r, c) → (s.cap n.val).open_ = true →
        r ≤ (reach stamp s).now → (reach stamp s).now - r < 2 ^ 32 → ∃ t, exec (.captureEdge n false stamp) s = .next t ∧
        ((t.cap n.val).fall.map (·.1)) = some (reach stamp s).now ∧ (t.cap n.val).capSeq = wrapAdd 32 (s.cap n.val).capSeq 1 ∧
        (t.cap n.val).width = (reach stamp s).now - r ∧ (t.cap n.val).widthValid = true ∧
        (t.cap n.val).pulses = wrapAdd 32 (s.cap n.val).pulses 1 ∧
        (∀ k, k ≠ n.val → t.cap k = s.cap k) ∧ t = { s with time := t.time })) ∧
    (let v := ownEdges s;
      startable tk.val 0x0220 v = some w → commandTiles w = [0x80 + n.val] →
      ∃ t u, exec (.timeCaptureRead tk) s = .next t ∧ TilesAnswered tk.val w.walk
          [{ node := 0x80 + n.val, status := St.ok, data := captureData (v.nat 2 4 n.val) (v.cap n.val) }] u t ∧
        (u8At w.req.payload 4 % 2 = 1 → u32At w.req.payload 0 = (v.cap n.val).capSeq →
          u.cap n.val = { v.cap n.val with overrun := 0, riseAck := true, fallAck := true } ∧
          (∀ k, k ≠ n.val → u.cap k = v.cap k) ∧ u = { v with time := { v.time with captures := u.time.captures } }) ∧
        (u8At w.req.payload 4 % 2 = 0 ∨ u32At w.req.payload 0 ≠ (v.cap n.val).capSeq → u = v)) ∧
    (s.lf.seqs = [] → s.range.session = none → ownEdges s = s)

/-- XS_TRIM is the integer nearest to what makes 2,097,152 XS edges agree with the fine epoch, within its range (R85); a new
floor lies 7,200 s above the epoch at which the old one came within 3,600 s (R90). -/
def Obligations.TrimAndFloor : Prop :=
  ∀ (ticks : Nat) (s : State),
    (∀ f : Nat, s.time.trimFrom = some f → clearUntil (f + lsbOfS 64) s = true → ∃ t, exec (.xsTrimMeasure ticks) s = .next t ∧
      t.now = (reach (f + lsbOfS 64) s).now ∧ t.time.trimFrom = some t.now ∧
      t.time.trimSeen = true ∧ -2048 ≤ t.time.xsTrim ∧ t.time.xsTrim ≤ 2047 ∧
      (-2048 < t.time.xsTrim → t.time.xsTrim < 2047 →
        -768000000 ≤ 2 * ((ticks : Int) * 131072 - 768000000 * (t.time.xsTrim + 8388608)) ∧
        2 * ((ticks : Int) * 131072 - 768000000 * (t.time.xsTrim + 8388608)) ≤ 768000000) ∧
      t = { s with time := t.time }) ∧
    (∀ f : Nat, s.power.mode ≠ .stowed → s.boot.phase = .run → s.time.floor = some f →
      clearUntil (f - lsbOfS 3600) s = true → ∃ t, exec .epochFloorWrite s = .next t ∧
        t.now = (reach (f - lsbOfS 3600) s).now ∧ t.time.floor = some (t.now + lsbOfS 7200) ∧
        Recorded 0x0010 (leBytes 8 (t.now + lsbOfS 7200)) s t ∧
        t = { withEvents s t with time := t.time, power := t.power, store := t.store })

/-! ### Modes, domains and wakes -/

/-- POWER.MODE_REQUEST (R115, R119, R132, R504): MODE_BUSY during a transition, unless that began in the same cycle and the
request stands, which then waits for it; so it does for the end of WATCH; a request for the mode that holds answers OK with
RESULT 1; one that R115 does not hold is MODE_REFUSED, and WORKSHOP asks for its strap and its card; otherwise the transition
of trigger 0 begins, and the ticket runs until it ends. -/
def Obligations.ModeRequestsAreJudged : Prop :=
  ∀ (tk : Fin 128) (s : State) (w : Work), startable tk.val 0x0402 s = some w →
    let to_ := u8At w.req.payload 0
    (∀ tr : Transition, s.power.moving = some tr →
      (tr.since ≠ s.now ∨ s.power.modeTicket ≠ none ∨ requestStands to_ s = false →
        ∃ t, exec (.powerModeRequest tk) s = .next t ∧ Answered tk.val St.modeBusy [] s t) ∧
      (tr.since = s.now → s.power.modeTicket = none → requestStands to_ s = true →
        ∃ t, exec (.powerModeRequest tk) s = .next t ∧ t.power.modeTicket = some tk.val ∧ 0 ∈ t.power.waiting ∧
          t.power.moving = some tr ∧ t.power.mode = s.power.mode ∧ (t.ticket tk.val).state = .running)) ∧
    (s.power.moving = none → windowOver s = true → requestStands to_ s = true →
      ∃ t, exec (.powerModeRequest tk) s = .next t ∧ t.power.modeTicket = some tk.val ∧ 0 ∈ t.power.waiting ∧
        t.power.moving = some { target := .parked, trigger := 7, since := s.now } ∧ t.power.mode = .watch ∧
        (t.ticket tk.val).state = .running) ∧
    (s.power.moving = none → windowOver s = false →
      (s.power.mode.code = to_ → ∃ t u, exec (.powerModeRequest tk) s = .next t ∧
        Answered tk.val St.ok (modeResult 1 to_ s.now) u t ∧ u.power = { s.power with modeTicket := none } ∧
        u = { s with sheet := u.sheet, power := u.power }) ∧
      (s.power.mode.code ≠ to_ → requestTarget s.power.mode to_ = none → ∃ t u, exec (.powerModeRequest tk) s = .next t ∧
        Answered tk.val St.modeRefused [] u t ∧ u.power.mode = s.power.mode ∧ u.power.moving = none) ∧
      (requestTarget s.power.mode to_ = some .workshop → s.power.strap = false → ∃ t u,
        exec (.powerModeRequest tk) s = .next t ∧ Answered tk.val St.modeNoStrap [] u t ∧ u.power.mode = s.power.mode) ∧
      (requestTarget s.power.mode to_ = some .workshop → s.power.strap = true → s.shopCard = false → ∃ t u,
        exec (.powerModeRequest tk) s = .next t ∧ Answered tk.val St.modeNoCard [] u t ∧ u.power.mode = s.power.mode) ∧
      (∀ m : Mode, requestTarget s.power.mode to_ = some m → (m ≠ .workshop ∨ s.power.strap = true ∧ s.shopCard = true) →
        ∃ t, exec (.powerModeRequest tk) s = .next t ∧
          t.power.moving = some { target := m, trigger := 0, since := s.now } ∧ t.power.mode = s.power.mode ∧
          t.power.modeTicket = some tk.val ∧ (t.ticket tk.val).state = .running))

/-- Transitions (R115–R120, R134, R504): MODE_TRANSITION_COMPLETE waits until the domains of the target are ready and the
withdrawn ones have drained, then the target is the mode; the window of WATCH ends in trigger 7 and replay in trigger 12; the
drain ends every command that still runs on a withdrawn domain; the standing time is stored at each minute. -/
def Obligations.TransitionsRunTheirCourse : Prop :=
  ∀ s : State,
    (∀ tr : Transition, s.power.moving = some tr →
      (s.stew.running = true → transitionReady tr s = true → ∃ t, exec .modeTransitionComplete s = .next t ∧
        t.power.mode = tr.target ∧ t.power.previous = s.power.mode ∧
        t.power.changes = wrapAdd 16 s.power.changes 1 ∧ t.host.intStatus.getLsbD 5 = true) ∧
      (transitionReady tr s = false → ∃ t, exec .modeTransitionComplete s = .next t ∧ t = s) ∧
      (clearUntil (tr.since + lsbOfMs 20) s = true → ∃ t, exec .drainTimeout s = .next t ∧ t.power.mode = s.power.mode ∧
        ∀ k ∈ needing .running (withdrawn s.power.mode tr.target) s, (t.ticket k).state = .completed)) ∧
    (s.power.mode = .watch → s.stew.running = true → s.power.waiting.contains 7 = false →
      clearUntil (s.power.watchFrom + lsbOfS (60 * s.nat 4 0)) s = true → s.power.moving = none →
      ∃ t, exec .watchWindowExpire s = .next t ∧ t.now = (reach (s.power.watchFrom + lsbOfS (60 * s.nat 4 0)) s).now ∧
        t.power.moving = some { target := .parked, trigger := 7, since := t.now } ∧ t.power.mode = .watch) ∧
    (s.power.mode = .holdover → s.stew.running = true → s.boot.phase = .run → s.power.moving = none →
      ∃ t, exec .holdoverExit s = .next t ∧ t.host.trigger12At = some s.now ∧
        t.power.moving = some { target := exitMode s.sheet.lastMode s.power.ign, trigger := 12, since := s.now }) ∧
    (s.power.mode = .parked → s.boot.phase = .run →
      clearUntil (s.power.standingFrom + lsbOfS ((s.sheet.standing / 60 + 1) * 60)) s = true →
      ∃ t, exec .standingTimeMinute s = .next t ∧ t.sheet.standing = (s.sheet.standing / 60 + 1) * 60 ∧
        t = { s with time := t.time, sheet := { s.sheet with standing := t.sheet.standing } })

/-- Pins and CAN wake (R121, R122): a filtered level is held in every mode; outside STOWED a change is event 0x0402, in
STOWED only an assertion that its mask lets through; the strap released in WORKSHOP is trigger 9; a CAN wake on a port of the
mask in PARKED or WATCH switches PD8 NET on and holds it for POWER.NET_IDLE. -/
def Obligations.WakePinsTakeEffect : Prop :=
  ∀ (pin : Fin 5) (level : Bool) (ports : BitVec 12) (s : State),
    (s.boot.phase ≠ .dark → pinLevel s.power pin.val ≠ level → ∃ t, exec (.wakePinChange pin level) s = .next t ∧
      pinLevel t.power pin.val = level ∧ (∀ k : Fin 5, k ≠ pin → pinLevel t.power k.val = pinLevel s.power k.val) ∧
      (s.boot.phase ≠ .run → t = { s with power := t.power }) ∧
      (s.boot.phase = .run → s.power.mode = .stowed → level = false ∨ (s.nat 4 4).testBit pin.val = false →
        t = { s with power := t.power }) ∧
      (s.boot.phase = .run → s.power.mode ≠ .stowed ∨ level = true ∧ (s.nat 4 4).testBit pin.val = true →
        Logged s.now 0x0402 0 0xFF (leBytes 1 (2 ^ pin.val) ++ leBytes 1 (pinBits t.power) ++ leBytes 1 s.power.mode.code)
          s t)) ∧
    (s.boot.phase ≠ .dark → s.power.strap ≠ level →
      (level = true ∨ s.heads .workshop = false ∨ s.stew.running = false → ∃ t, exec (.workshopStrapChange level) s = .next t ∧
        t = { s with power := { s.power with strap := level } }) ∧
      (level = false → s.power.mode = .workshop → s.stew.running = true → s.power.moving = none →
        ∃ t, exec (.workshopStrapChange level) s = .next t ∧ t.power.strap = false ∧
          t.power.moving = some { target := if s.power.ign then .approach else .watch, trigger := 9, since := s.now })) ∧
    (s.power.mode = .parked ∨ s.power.mode = .watch → s.boot.phase = .run →
      (ports &&& BitVec.ofNat 12 (s.nat 4 5)).toNat ≠ 0 → ∃ t, exec (.canWake ports) s = .next t ∧
        t.power.canWakeUntil = some (s.now + lsbOfMs (s.nat 4 6)) ∧ (tget t.power.domains 8).state ≠ .off ∧
        Logged s.now 0x0403 0 0xFF (leBytes 2 (ports &&& BitVec.ofNat 12 (s.nat 4 5)).toNat) s t ∧
        t = { withEvents s t with power := t.power, eave := t.eave }) ∧
    ((ports &&& BitVec.ofNat 12 (s.nat 4 5)).toNat = 0 → ∃ t, exec (.canWake ports) s = .next t ∧ t = s) ∧
    (∀ d : Nat, s.power.canWakeUntil = some d → clearUntil d s = true →
      ∃ t, exec .netIdleExpire s = .next t ∧ t.power.canWakeUntil = none)

/-- Domains (R77, R124, R125, R132): a switching domain with the domains it needs, PD3 CORE no deeper than it allows, comes on
and is counted; one that misses its on-time or loses its rail goes off with an event 0x0406 for each command that waited for
it, naming its ticket, or one event without a ticket; each event is counted, and the commands complete INTERNAL. PD3 CORE
itself falls to L4. -/
def Obligations.DomainsSwitch : Prop :=
  ∀ (d : Fin 10) (s : State),
    ((tget s.power.domains d.val).state = .switching → d.val ≠ 3 → (∀ e ∈ domainNeeds d.val, s.powered e = true) →
      (d.val = 9 → s.powered 2 = true ∨ s.powered 3 = true) → s.eave.depth ≤ depthFor d.val →
      ∃ t, exec (.domainReady d) s = .next t ∧ t.powered d.val = true ∧
        (tget t.power.domains d.val).onCount = wrapAdd 32 (tget s.power.domains d.val).onCount 1 ∧
        (tget t.power.domains d.val).since = s.now) ∧
    ((tget s.power.domains d.val).state ≠ .switching ∨ d.val = 3 ∨ (∃ e ∈ domainNeeds d.val, s.powered e = false) ∨
      depthFor d.val < s.eave.depth → ∃ t, exec (.domainReady d) s = .next t ∧ t = s) ∧
    (2 ≤ d.val → d.val ≠ 3 → (tget s.power.domains d.val).state = .switching → ∀ rail : Bool,
      ∃ t, exec (.domainFault d rail) s = .next t ∧ (tget t.power.domains d.val).state = .off ∧
        (tget t.power.domains d.val).faults =
          satAdd 0xFF (tget s.power.domains d.val).faults (max 1 (needing .accepted [d.val] s).length) ∧
        (needing .accepted [d.val] s = [] → s.boot.phase ≠ .cold →
          Logged s.now 0x0406 0 0xFF (leBytes 1 d.val ++ leBytes 1 (b1 rail)) s t) ∧
        (∀ k ∈ needing .accepted [d.val] s, (t.ticket k).state = .completed ∧ (t.ticket k).status = St.internal ∧
          (s.boot.phase ≠ .cold → s.safe.sort.length + (needing .accepted [d.val] s).length ≤ 2048 →
            ∃ e ∈ t.safe.sort, e.2.stamp = s.now ∧ e.2.code = 0x0406 ∧ e.2.ticket = k ∧
              e.2.data = (leBytes 1 d.val ++ leBytes 1 (b1 rail) ++ zeros 12).take 12)) ∧
        (∀ e, e ≠ d.val → tget t.power.domains e = tget s.power.domains e)) ∧
    (2 ≤ d.val → d.val ≠ 3 → (tget s.power.domains d.val).state = .on →
      (∃ t, exec (.domainFault d true) s = .next t ∧ (tget t.power.domains d.val).state = .off) ∧
      (∃ t, exec (.domainFault d false) s = .next t ∧ t = s)) ∧
    (s.boot.phase = .run → s.powered 3 = true → ∃ t, exec (.domainFault 3 true) s = .next t ∧ t.powered 3 = false ∧
      t.eave.depth = 4 ∧ t.eave.waking = none ∧ t.time.fine = false)

/-- Sleep and wake (R84, R87, R113, R126–R129): an idle Steward goes to the depth Eave chooses, which counts, with the fine
epoch stopped from L3 on and PD3 CORE off at L4; while a command is in flight it stays. A booking that changes below L1 moves
the wake instant or lets a deeper depth be chosen, or begins a wake that is no late wake where the booking lies too near. The
booked wake instant, rounded down to an XS edge from L3 on, begins a wake, unless a booked domain is to be switched on before
it; a measured wake reaches L0 with a FINE epoch and is learned, or counted as late and the depth's latency set back to its
factory value. XS counts as stable once it has run. -/
def Obligations.SleepDepthAndWakes : Prop :=
  ∀ (us : Nat) (s : State),
    (s.stew.running = true → s.eave.depth ≤ 1 → s.eave.waking = none → s.boot.phase = .run →
      (∀ d ∈ [2, 4, 5, 6, 7, 8, 9], permit s.power.mode d = .booked → s.lit d = false) →
      (heldAwake s = true → ∃ t, exec .depthChoice s = .next t ∧ t = s) ∧
      (heldAwake s = false → (chooseDepth s).1 = s.eave.depth → ∃ t, exec .depthChoice s = .next t ∧
        t = { s with eave := { s.eave with wakeAt := (chooseDepth s).2 } }) ∧
      (∀ d, heldAwake s = false → (chooseDepth s).1 = d → d ≠ s.eave.depth → 1 ≤ d → d ≤ 4 → ∃ t, exec .depthChoice s = .next t ∧
        t.eave.depth = d ∧ t.eave.wakeAt = (chooseDepth s).2 ∧
        (t.latency d).entries = wrapAdd 32 (s.latency d).entries 1 ∧ (3 ≤ d → t.time.fine = false) ∧
        (d ≤ 2 → t.time = s.time) ∧ (d = 4 → t.powered 3 = false) ∧ (d ≠ 4 → t.power = s.power) ∧
        t = { s with eave := t.eave, time := t.time, power := t.power, range := t.range })) ∧
    (s.stew.running = true → 2 ≤ s.eave.depth → s.eave.waking = none → s.boot.phase = .run →
      (∀ d ∈ [2, 4, 5, 6, 7, 8, 9], permit s.power.mode d = .booked → s.lit d = false) →
      (heldAwake s = true → ∃ t, exec .depthChoice s = .next t ∧
        t = { s with eave := { s.eave with waking := some { depth := s.eave.depth, since := s.now } } }) ∧
      (heldAwake s = false → depthAllowed s < s.eave.depth → ∃ t, exec .depthChoice s = .next t ∧ t = { s with eave :=
        { s.eave with waking := some { depth := s.eave.depth, since := s.now, excused := bookedNear s } } }) ∧
      (heldAwake s = false → s.eave.depth ≤ depthAllowed s → s.eave.depth < (chooseDepth s).1 →
        ∃ t, exec .depthChoice s = .next t ∧ t.eave.depth = (chooseDepth s).1 ∧ t.eave.wakeAt = (chooseDepth s).2 ∧
          t.eave.waking = none) ∧
      (∀ b : Booking, heldAwake s = false → s.eave.depth ≤ depthAllowed s → (chooseDepth s).1 ≤ s.eave.depth →
        nextBooking s = some b →
        let lead := lsbOfUs ((s.latency s.eave.depth).entry + s.nat 4 2)
        (s.now + lead ≤ b.1 → ∃ t, exec .depthChoice s = .next t ∧
          t = { s with eave := { s.eave with wakeAt := some (b.1 - lead) } }) ∧
        (b.1 < s.now + lead → ∃ t, exec .depthChoice s = .next t ∧ t = { s with eave :=
          { s.eave with waking := some { depth := s.eave.depth, since := s.now, excused := true } } }))) ∧
    (∀ w : Nat, s.eave.wakeAt = some w → s.eave.depth ≠ 0 → s.eave.waking = none → s.stew.running = true →
      (∀ d : Nat, switchDue s = some d → (if 3 ≤ s.eave.depth then w - w % 32768 else w) ≤ d) →
      clearUntil (if 3 ≤ s.eave.depth then w - w % 32768 else w) s = true → ∃ t, exec .eaveWake s = .next t ∧
        t.now = (reach (if 3 ≤ s.eave.depth then w - w % 32768 else w) s).now ∧
        t.eave = { s.eave with wakeAt := none, waking := some { depth := s.eave.depth, since := t.now } } ∧
        t = { s with time := t.time, eave := t.eave }) ∧
    (∀ d : Nat, switchDue s = some d → (∀ w : Nat, wakeDue s = some w → d < w) → clearUntil d s = true →
      ∃ t, exec .eaveWake s = .next t ∧ t.now = (reach d s).now ∧
        t = { s with time := t.time, eave := t.eave, power := { s.power with domains := t.power.domains } }) ∧
    (∀ w : Waking, s.eave.waking = some w → 1 ≤ w.depth → w.depth ≤ 4 → clearUntil (w.since + lsbOfUs us) s = true →
      ∃ t, exec (.wakeMeasured us) s = .next t ∧ t.eave.depth = 0 ∧ t.eave.waking = none ∧ t.time.fine = true ∧
        t.powered 3 = true ∧ (s.time.fine = true → t.now = (reach (w.since + lsbOfUs us) s).now) ∧
        (s.time.fine = false → (reach (w.since + lsbOfUs us) s).now < lastEpoch → (reach (w.since + lsbOfUs us) s).now < t.now ∧
          t.now ≤ (reach (w.since + lsbOfUs us) s).now + 32767) ∧
        (w.excused = false → (s.latency w.depth).entry + s.nat 4 2 < us ∨ factoryLatency w.depth < us →
          t.eave.lateWakes = satAdd 0xFFFF s.eave.lateWakes 1 ∧ (t.latency w.depth).entry = factoryLatency w.depth ∧
          (t.latency w.depth).samples = []) ∧
        (w.excused = true ∨ us ≤ (s.latency w.depth).entry + s.nat 4 2 ∧ us ≤ factoryLatency w.depth → t.eave.lateWakes = s.eave.lateWakes ∧
          (t.latency w.depth).samples = (us :: (s.latency w.depth).samples).take 8)) ∧
    (s.boot.phase ≠ .dark → ∃ t, exec .xsStable s = .next t ∧ t.eave = { s.eave with xsStable := true } ∧
      t = { s with eave := t.eave, time := t.time })

/-! ### Exposure -/

/-- Sessions (R136–R140, R155). EXPOSE.OPEN opens the closed session asked for, or the lowest closed one, empty; DISCARD closes
any session that is not EXPOSING and abandons its prepared set; SET_STAGE stages every item or none, the first failing item
deciding: a fixed setting, a value outside its range, or a WORKSHOP setting in another mode. -/
def Obligations.SessionsStageAllOrNothing : Prop :=
  ∀ (tk : Fin 128) (s : State) (w : Work),
    (startable tk.val 0x0301 s = some w →
      (∀ n : Nat, n < 4 → (s.sess n).state = .closed →
        (u8At w.req.payload 0 = n ∨ u8At w.req.payload 0 = 0xFF ∧ ∀ m, m < n → (s.sess m).state ≠ .closed) →
        ∃ t u, exec (.exposeOpen tk) s = .next t ∧ Answered tk.val St.ok (leBytes 1 n ++ zeros 3) u t ∧
          u.sess n = { state := .opened } ∧ (∀ m, m ≠ n → u.sess m = s.sess m) ∧
          u = { s with expo := { s.expo with sessions := u.expo.sessions } }) ∧
      ((u8At w.req.payload 0 < 4 ∧ (s.sess (u8At w.req.payload 0)).state ≠ .closed ∨
          u8At w.req.payload 0 = 0xFF ∧ ∀ m, m < 4 → (s.sess m).state ≠ .closed) →
        ∃ t, exec (.exposeOpen tk) s = .next t ∧ Answered tk.val St.sessionBusy [] s t)) ∧
    (startable tk.val 0x0302 s = some w → u8At w.req.payload 0 < 4 →
      ((s.sess (u8At w.req.payload 0)).state = .exposing →
        ∃ t, exec (.exposeDiscard tk) s = .next t ∧ Answered tk.val St.sessionBusy [] s t) ∧
      ((s.sess (u8At w.req.payload 0)).state ≠ .exposing →
        ∃ t u, exec (.exposeDiscard tk) s = .next t ∧ Answered tk.val St.ok [] u t ∧
          u.sess (u8At w.req.payload 0) = {} ∧ (∀ m, m ≠ u8At w.req.payload 0 → u.sess m = s.sess m) ∧
          (∀ c ∈ u.store.sets, c.session = u8At w.req.payload 0 → c.phase ≠ 0) ∧
          u = { s with expo := u.expo, store := { s.store with sets := u.store.sets } })) ∧
    (startable tk.val 0x0303 s = some w → w.req.session < 4 →
      let x := s.sess w.req.session
      (x.state = .closed → ∃ t, exec (.exposeSetStage tk) s = .next t ∧
        Answered tk.val St.sessionClosed (leBytes 2 0xFFFF ++ leBytes 2 x.items.length) s t) ∧
      (x.state = .exposing → ∃ t, exec (.exposeSetStage tk) s = .next t ∧
        Answered tk.val St.sessionBusy (leBytes 2 0xFFFF ++ leBytes 2 x.items.length) s t) ∧
      (x.state = .opened ∨ x.state = .checked →
        (∀ i st : Nat, stageAll s.power.mode w.req.payload (u16At w.req.payload 0) 0 = .error (i, st) →
          ∃ t, exec (.exposeSetStage tk) s = .next t ∧
            Answered tk.val st (leBytes 2 i ++ leBytes 2 x.items.length) s t) ∧
        (∀ (r : SetRow), u16At w.req.payload 0 = 1 → rowOfId (u32At w.req.payload 4) = some r → u32At w.req.payload 8 = 0 →
          (r.stage = .no → ∃ t, exec (.exposeSetStage tk) s = .next t ∧
            Answered tk.val St.settingFixed (leBytes 2 0 ++ leBytes 2 x.items.length) s t) ∧
          (r.stage ≠ .no → r.ok (u32At w.req.payload 4 % 0x10000) (readValue r (slice w.req.payload 12 8)) = false →
            ∃ t, exec (.exposeSetStage tk) s = .next t ∧
              Answered tk.val St.badArg (leBytes 2 0 ++ leBytes 2 x.items.length) s t) ∧
          (r.stage = .workshop → r.ok (u32At w.req.payload 4 % 0x10000) (readValue r (slice w.req.payload 12 8)) = true →
            s.power.mode ≠ .workshop → ∃ t, exec (.exposeSetStage tk) s = .next t ∧
              Answered tk.val St.deniedMode (leBytes 2 0 ++ leBytes 2 x.items.length) s t) ∧
          (∀ it : Item, r.stage = .yes ∨ r.stage = .workshop ∧ s.power.mode = .workshop →
            r.ok (u32At w.req.payload 4 % 0x10000) (readValue r (slice w.req.payload 12 8)) = true →
            it = { id := u32At w.req.payload 4, val := .value (readValue r (slice w.req.payload 12 8)) } →
            (putItem x.items it).length ≤ 8192 → ((putItem x.items it).map Item.size).sum ≤ 196608 →
            ∃ t u, exec (.exposeSetStage tk) s = .next t ∧
              Answered tk.val St.ok (leBytes 2 0xFFFF ++ leBytes 2 (putItem x.items it).length) u t ∧
              (u.sess w.req.session).items = putItem x.items it ∧ (u.sess w.req.session).state = .opened ∧
              (∀ m, m ≠ w.req.session → u.sess m = s.sess m) ∧
              u = { s with expo := u.expo, store := { s.store with sets := u.store.sets } }))))

/-- EXPOSE.CHECK (R141, R155, R401): without a failure the session is CHECKED against the generation in force and a prepared
set of its items is written; otherwise the response lists the first sixteen failures and the session is OPEN. -/
def Obligations.CheckPreparesTheSet : Prop :=
  ∀ (tk : Fin 128) (n : Fin 4) (s : State) (w : Work), startable tk.val 0x0304 s = some w → u8At w.req.payload 0 = n.val →
    ((s.sess n.val).state = .closed → ∃ t, exec (.exposeCheck tk) s = .next t ∧ Answered tk.val St.sessionClosed [] s t) ∧
    ((s.sess n.val).state = .exposing → ∃ t, exec (.exposeCheck tk) s = .next t ∧ Answered tk.val St.sessionBusy [] s t) ∧
    ((s.sess n.val).state = .opened ∨ (s.sess n.val).state = .checked →
      (checkAll s (s.sess n.val).items = [] → ∃ t u, exec (.exposeCheck tk) s = .next t ∧
        Answered tk.val St.ok (zeros 4 ++ leBytes 4 s.conf.gen) u t ∧
        u.sess n.val = { s.sess n.val with state := .checked, baseGen := s.conf.gen, deferral := none } ∧
        (∀ m, m ≠ n.val → u.sess m = s.sess m) ∧
        (∃ c ∈ u.store.sets, c = { no := s.store.nextSet, session := n.val, items := (s.sess n.val).items }) ∧
        u.store.nextSet = s.store.nextSet + 1 ∧
        u = { withEvents s u with expo := u.expo, store := u.store, power := u.power }) ∧
      (checkAll s (s.sess n.val).items ≠ [] → ∃ t u d, exec (.exposeCheck tk) s = .next t ∧
        Answered tk.val St.checkFailed d u t ∧ d.length = 8 + 8 * min 16 (checkAll s (s.sess n.val).items).length ∧
        u.sess n.val = { s.sess n.val with state := .opened, baseGen := s.conf.gen, deferral := none } ∧
        (∀ m, m ≠ n.val → u.sess m = s.sess m) ∧ (∀ c ∈ u.store.sets, c.session = n.val → c.phase ≠ 0) ∧
        u = { s with expo := u.expo, store := { s.store with sets := u.store.sets } }))

/-- EXPOSE.EXPOSE takes the first row of R143 that applies; each refusal answers RESULT 3 with the REASONS of R144 and leaves
everything but what its row names. An accepted one makes the session EXPOSING at the instant asked for, at the earliest one
for an earlier instant that may be deferred, with SET_PENDING on its way to the store. -/
def Obligations.ExposeTakesTheFirstRow : Prop :=
  ∀ (tk : Fin 128) (n : Fin 4) (s : State) (w : Work), startable tk.val 0x0305 s = some w → u8At w.req.payload 0 = n.val →
    let x := s.sess n.val
    let instant := u64At w.req.payload 8
    let reasons := reasonsOf (leads x.items s)
    let earliest := earliestOf (leadsAfter x instant s.conf.gen (leads x.items s)) s.now
    let refused (st at_ : Nat) (u t : State) : Prop := Answered tk.val st (exposeReply 3 reasons 0 at_ 0 s) u t
    let idle : Prop := ∀ m, m < 4 → (s.sess m).state ≠ .exposing
    (x.state ≠ .checked → ∃ t, exec (.exposeExpose tk) s = .next t ∧ refused St.notChecked 0 s t) ∧
    (x.state = .checked →
      (¬idle → ∃ t, exec (.exposeExpose tk) s = .next t ∧ refused St.exposeBusy 0 s t) ∧
      (idle → s.conf.gen ≠ x.baseGen → ∃ t u, exec (.exposeExpose tk) s = .next t ∧ refused St.exposeStale 0 u t ∧
        u.sess n.val = { x with state := .opened } ∧ (∀ m, m ≠ n.val → u.sess m = s.sess m) ∧
        u = { s with expo := { s.expo with sessions := u.expo.sessions } }) ∧
      (idle → s.conf.gen = x.baseGen →
        (modeHolds s x.items = false → ∃ t, exec (.exposeExpose tk) s = .next t ∧ refused St.modeLost 0 s t) ∧
        (modeHolds s x.items = true →
          (fixItems x.items ≠ [] → s.lane.up = false → ∃ t, exec (.exposeExpose tk) s = .next t ∧
            refused St.fixerAbsent 0 s t) ∧
          (fixItems x.items = [] ∨ s.lane.up = true →
            (s.now + lsbOfS (s.nat 3 0) < instant → ∃ t, exec (.exposeExpose tk) s = .next t ∧ refused St.badArg 0 s t) ∧
            (instant ≤ s.now + lsbOfS (s.nat 3 0) → instant ≠ 0 → instant < earliest →
              (u8At w.req.payload 1).testBit 0 = false → ∃ t u, exec (.exposeExpose tk) s = .next t ∧
              refused St.deferred earliest u t ∧ u.sess n.val = { x with deferral := some (earliest, s.conf.gen) } ∧
              (∀ m, m ≠ n.val → u.sess m = s.sess m) ∧
              u = { s with expo := { s.expo with sessions := u.expo.sessions } }) ∧
            (∀ c : ConfSet, instant ≤ s.now + lsbOfS (s.nat 3 0) →
              (instant = 0 ∨ earliest ≤ instant ∨ (u8At w.req.payload 1).testBit 0 = true) → preparedSet n.val s = some c →
              ∃ t p, exec (.exposeExpose tk) s = .next t ∧ t.expo.pending = some p ∧ p.session = n.val ∧ p.ticket = tk.val ∧
                p.instant = max instant earliest ∧ p.reasons = reasons ∧ p.setNo = c.no ∧
                p.gen = wrapAdd 32 s.conf.gen 1 ∧ p.decided = false ∧
                p.fix = (if fixItems x.items = [] then .unused else .preparing) ∧
                (t.sess n.val).state = .exposing ∧ (t.sess n.val).items = x.items ∧
                (∀ m, m ≠ n.val → t.sess m = s.sess m) ∧ (t.ticket tk.val).state = .running ∧
                Recorded 0x0002 (leBytes 4 c.no ++ leBytes 4 s.conf.gen ++ leBytes 8 p.instant ++ leBytes 1 tk.val) s t ∧
                t.conf = s.conf)))))

/-- From acceptance to the instant (R146–R152). CANCEL ends an exposure that is not yet decided, and is EXPOSE_DECIDED after
that. At the decision point the mode is checked once more: the DECIDED marker is written and shutter 12 armed, or the ticket
ends MODE_LOST. EXPOSE_COMMIT goes out 2 ms before the instant; without PREPARED or its acknowledgement in time, or with no
time left to send it, the exposure ends FIXER_ABSENT and owes a rollback. At the instant the whole set takes effect at one stamp under the new generation. -/
def Obligations.ExposureRunsToItsInstant : Prop :=
  ∀ (s : State) (p : Pending),
    (∀ (tk : Fin 128) (n : Fin 4) (w : Work), startable tk.val 0x0306 s = some w → u8At w.req.payload 0 = n.val →
      ((s.sess n.val).state = .closed → ∃ t, exec (.exposeCancel tk) s = .next t ∧ Answered tk.val St.sessionClosed [] s t) ∧
      ((s.sess n.val).state = .opened ∨ (s.sess n.val).state = .checked → ∃ t, exec (.exposeCancel tk) s = .next t ∧
        Answered tk.val St.ok [] s t) ∧
      ((s.sess n.val).state = .exposing → s.expo.pending = some p → p.session = n.val → p.ticket < 128 →
        p.ticket ≠ tk.val →
        (p.decided = true → ∃ t, exec (.exposeCancel tk) s = .next t ∧ Answered tk.val St.exposeDecided [] s t) ∧
        (p.decided = false → ∃ t u, exec (.exposeCancel tk) s = .next t ∧ Answered tk.val St.ok [] u t ∧
          u.expo.pending = none ∧ u.sess n.val = { s.sess n.val with state := .checked } ∧
          (u.ticket p.ticket).state = .completed ∧ (u.ticket p.ticket).status = St.exposeCancelled ∧
          u.conf = s.conf))) ∧
    (s.expo.pending = some p → s.stew.running = true → p.ticket < 128 → p.session < 4 →
      (p.decided = false → p.fix = .unused → p.loaded = true → clearUntil (p.instant - lsbOfUs 100) s = true →
        (modeHolds s (s.sess p.session).items = true → bootHolds s (s.sess p.session).items = true →
          (reach (p.instant - lsbOfUs 100) s).now < p.instant → ∃ t, exec .decisionPoint s = .next t ∧ t.expo.pending = some { p with decided := true } ∧
            (t.ticket p.ticket).decided = true ∧ (t.shut 12).state = .oneShot ∧ (t.shut 12).active = p.instant ∧
            (∀ k, k ≠ 12 → t.shut k = s.shut k) ∧ t.now = (reach (p.instant - lsbOfUs 100) s).now ∧
            t = { s with expo := { s.expo with pending := t.expo.pending }, sheet := t.sheet, time := t.time }) ∧
        (modeHolds s (s.sess p.session).items = false ∨ bootHolds s (s.sess p.session).items = false →
          ∃ t, exec .decisionPoint s = .next t ∧ t.expo.pending = none ∧ (t.sess p.session).state = .checked ∧
            (t.ticket p.ticket).state = .completed ∧ (t.ticket p.ticket).status = St.modeLost ∧ t.conf = s.conf)) ∧
      (p.fix = .prepared → p.loaded = true → clearUntil (p.instant - lsbOfMs 2) s = true →
        (modeHolds s (s.sess p.session).items = true → (reach (p.instant - lsbOfMs 2) s).now ≤ p.instant - lsbOfMs 1 →
          ∃ t, exec .exposeCommitSend s = .next t ∧ t.expo.pending = some { p with fix := .committing } ∧
            (∃ o ∈ t.lane.out, o.req = .exposeCommit p.gen ∧ o.user = .exposure ∧ o.seq = s.lane.seq) ∧ t.conf = s.conf) ∧
        (p.instant - lsbOfMs 1 < (reach (p.instant - lsbOfMs 2) s).now → ∃ t, exec .exposeCommitSend s = .next t ∧
          t.expo.pending = none ∧ (t.ticket p.ticket).status = St.fixerAbsent ∧ t.sheet.owed = .rollback ∧ t.conf = s.conf)) ∧
      (∀ due : Nat, (p.fix = .preparing ∧ due = min (p.sentAt + lsbOfMs 5) (p.instant - lsbOfMs 2) ∨
          (p.fix = .prepared ∨ p.fix = .committing) ∧ due = p.instant - lsbOfMs 1) → clearUntil due s = true →
        ∃ t, exec .fixerPrepareTimeout s = .next t ∧ t.expo.pending = none ∧ (t.sess p.session).state = .checked ∧
          (t.ticket p.ticket).state = .completed ∧ (t.ticket p.ticket).status = St.fixerAbsent ∧
          t.sheet.owed = .rollback ∧ t.sheet.owedGen = p.gen ∧ t.conf = s.conf)) ∧
    (∀ v : State, s.expo.pending = some p → p.decided = true → p.applied = none → firmStart 12 s = some v →
      ∃ t late, exec .exposureInstant s = .next t ∧
        t.conf = { s.conf.applyItems (s.sess p.session).items with gen := p.gen } ∧
        t.expo.pending.map (·.applied) = some (some (v.now, late)) ∧
        ((v.shut 12).lastLate = true ∨ v.coarse = true → late = true) ∧
        ((v.shut 12).lastLate = false → v.coarse = false → late = false))

/-! ### The inter-die lane and the class 0x09 commands -/

/-- The M die's side of the lane (R20, R273, R411, R476, R507): a sample every 60 s while it is up and a probe every second
while it is down, each with the latched epoch and a sync edge; a wake by the strobe; records taken in sequence; events kept
once; a RESPONSE that teaches the F die's state and frees its request; and the third unanswered request in a row takes the
lane down with event 0x0909. -/
def Obligations.LaneTraffic : Prop :=
  ∀ s : State, s.stew.running = true →
    (∀ (i : Instr) (period : Nat), (i = .epochSampleTimer ∧ s.lane.up = true ∧ period = 60 ∨
        i = .laneProbe ∧ s.lane.up = false ∧ period = 1) → clearUntil s.eave.sampleAt s = true →
      (s.eave.depth ≤ 2 → ∃ t o, exec i s = .next t ∧ t.now = (reach s.eave.sampleAt s).now ∧ o ∈ t.lane.out ∧
        o.req = .epochSample t.now s.time.unset (tailSeq s) (confirmKey s) ∧ t.lane.hold = true ∧
        t.lane.edges = s.lane.edges ++ [.sample s.lane.seq] ∧ t.eave.sampleAt = t.now + lsbOfS period) ∧
      (3 ≤ s.eave.depth → s.eave.waking = none → ∃ t, exec i s = .next t ∧
        t.eave.waking = some { depth := s.eave.depth, since := t.now } ∧ t = { s with time := t.time, eave := t.eave })) ∧
    (s.lane.strobe = true → ∃ t, exec .wakeStrobe s = .next t ∧ t.lane = { s.lane with strobe := false } ∧
      (s.eave.depth ≤ 2 → t.eave = s.eave) ∧
      (3 ≤ s.eave.depth → s.eave.waking = none → t.eave.waking = some { depth := s.eave.depth, since := s.now }) ∧
      t = { s with lane := t.lane, eave := t.eave }) ∧
    (∀ (q : Nat) (b : Bytes) (rest : List LaneMsg) (p : Part), s.lane.toM = .record q b :: rest → p = tget s.vault.parts 0 →
      (q < p.endNo → ∃ t, exec .recordAppend s = .next t ∧ t = { s with lane := { s.lane with toM := rest } }) ∧
      (p.pages.length < p.capacity → q = p.nextNo → p.endNo ≤ p.nextNo → p.buffer.length < 127 →
        ∃ t, exec .recordAppend s = .next t ∧ (tget t.vault.parts 0).buffer = p.buffer ++ [b] ∧
          (tget t.vault.parts 0).nextNo = q + 1 ∧ (∀ k, k ≠ 0 → tget t.vault.parts k = tget s.vault.parts k) ∧
          t = { s with lane := { s.lane with toM := rest }, vault := { s.vault with parts := t.vault.parts } }) ∧
      (p.pages.length < p.capacity → p.nextNo < q → ∃ t, exec .recordAppend s = .next t ∧
        t.vault = { s.vault with refused := s.vault.refused + 1 } ∧
        Logged s.now 0x0D0B 0 0xFF (leBytes 4 q ++ leBytes 4 p.nextNo) s t ∧
        t = { withEvents s t with lane := { s.lane with toM := rest }, vault := t.vault }) ∧
      (p.capacity ≤ p.pages.length → p.endNo ≤ q → ∃ t, exec .recordAppend s = .next t ∧
        t.vault = { s.vault with fixerFull := true })) ∧
    (∀ (r : EvRec) (rest : List LaneMsg), s.lane.toM = .event r :: rest →
      (s.lane.seen.contains r.key = true → ∃ t, exec .fixerEvent s = .next t ∧
        t = { s with lane := { s.lane with toM := rest } }) ∧
      (s.lane.seen.contains r.key = false → ∃ t, exec .fixerEvent s = .next t ∧
        t.lane = { s.lane with toM := rest, seen := (r.key :: s.lane.seen).take 256 } ∧
        (s.safe.sort.length < 2048 → ∃ e ∈ t.safe.sort, e.2 = r) ∧
        t = { withEvents s t with lane := t.lane })) ∧
    (∀ (r : LaneRsp) (rest : List LaneMsg), s.lane.toM = .response r :: rest →
      ((∀ o ∈ s.lane.out, o.seq ≠ r.seq) → ∃ t, exec .laneResponse s = .next t ∧
        t = { s with lane := { s.lane with toM := rest } }) ∧
      ((∃ o ∈ s.lane.out, o.seq = r.seq) → ∃ t, exec .laneResponse s = .next t ∧ t.lane.up = true ∧
        t.lane.head = r.head ∧ t.lane.applied = r.applied ∧ t.lane.cards = r.cards ∧ t.lane.missed = 0 ∧
        t.host.idFixer = BitVec.ofNat 32 r.release ∧ (s.lane.up = false → Logged s.now 0x0909 0 0xFF
          (leBytes 1 1 ++ zeros 3 ++ leBytes 4 (tailSeq s)) s t)) ∧
      (∀ (o : LaneOut) (tk : Nat) (w : Work), s.lane.out.find? (fun x => x.seq == r.seq) = some o → o.user = .ticket tk →
        tk < 128 → s.work tk = some w → w.req.opcode ∈ [0x0901, 0x0903, 0x0904, 0x0905] → r.status ≠ St.fixerBusy →
        ∃ t, exec .laneResponse s = .next t ∧ (t.ticket tk).state = .completed ∧ (t.ticket tk).status = r.status)) ∧
    (∀ o : LaneOut, s.lane.out.find? (fun x => !x.late) = some o → s.lane.up = true →
      clearUntil (o.sent + lsbOfMs 50) s = true →
      (s.lane.missed < 2 → ∃ t, exec .laneRequestTimeout s = .next t ∧ t.lane.missed = s.lane.missed + 1 ∧
        t.lane.up = true ∧ (∀ x ∈ t.lane.out, x.seq = o.seq → x.late = true) ∧ t.lane.out.length = s.lane.out.length ∧
        t = { s with time := t.time, lane := t.lane }) ∧
      (2 ≤ s.lane.missed → ∃ t, exec .laneRequestTimeout s = .next t ∧ t.lane.up = false ∧ t.lane.toF = [] ∧
        t.lane.missed = 0 ∧ Logged t.now 0x0909 0 0xFF (zeros 4 ++ leBytes 4 (tailSeq s)) s t))

/-- The class 0x09 commands (R303): while the lane is up each sends its request under the next lane sequence number and its
ticket runs until the RESPONSE; while it is down each is FIXER_LANE_DOWN, except that FIXER.RECORD_READ answers from the vault.
FIXER.CARD_APDU ends TIMEOUT at its deadline, and a later RESPONSE finds nobody waiting. -/
def Obligations.FixerCommandsUseTheLane : Prop :=
  ∀ (tk : Fin 128) (s : State) (w : Work),
    (∀ (i : Instr) (op : Nat) (q : LaneReq), startable tk.val op s = some w →
      (i = .fixerStatus tk ∧ op = 0x0901 ∧ q = .recordRead 2 0 0 ∨
        i = .fixerRecordRead tk ∧ op = 0x0902 ∧ q = .recordRead 0 (u32At w.req.payload 0) (u16At w.req.payload 4) ∨
        i = .fixerSpeedRead tk ∧ op = 0x0903 ∧ q = .recordRead 1 (u32At w.req.payload 0) (u32At w.req.payload 4) ∨
        i = .fixerKeyRead tk ∧ op = 0x0904 ∧ q = .recordRead 3 0 0 ∨
        i = .fixerTimePropose tk ∧ op = 0x0905 ∧
          q = .timePropose (sext 64 (u64At w.req.payload 0)) (decide (s.power.mode = .workshop)) ∨
        i = .fixerCardStatus tk ∧ op = 0x0906 ∧ w.remaining ≠ [] ∧ q = .recordRead 2 0 0 ∨
        i = .fixerCardApdu tk ∧ op = 0x0907 ∧
          q = .cardApdu (w.req.node - 0xD0) (slice w.req.payload 4 (u16At w.req.payload 0)) ∨
        i = .fixerCardReset tk ∧ op = 0x0908 ∧ q = .cardReset (w.req.node - 0xD0)) →
      (s.lane.up = true → ∃ t, exec i s = .next t ∧ (t.ticket tk.val).state = .running ∧
        t.lane.seq = wrapAdd 32 s.lane.seq 1 ∧
        t.lane.out = s.lane.out ++ [{ seq := s.lane.seq, req := q, user := .ticket tk.val, sent := s.now }] ∧
        t = { s with sheet := t.sheet, lane := t.lane }) ∧
      (s.lane.up = false → op ∉ [0x0902, 0x0906] → ∃ t, exec i s = .next t ∧
        Answered tk.val St.fixerLaneDown [] s t)) ∧
    (startable tk.val 0x0902 s = some w → s.lane.up = false →
      (s.lane.head < u32At w.req.payload 0 → ∃ t, exec (.fixerRecordRead tk) s = .next t ∧
        Answered tk.val St.fixerRange [] s t) ∧
      (u32At w.req.payload 0 ≤ s.lane.head → ∃ t, exec (.fixerRecordRead tk) s = .next t ∧
        Answered tk.val St.fixerPartial (leBytes 4 s.lane.head ++ leBytes 4 (tailSeq s) ++
          (vaultRecords (u32At w.req.payload 0) (u16At w.req.payload 4) s).flatten) s t)) ∧
    (startable tk.val 0x0906 s = some w → s.lane.up = false → w.results = [] → w.remaining ≠ [] →
      ∃ t, exec (.fixerCardStatus tk) s = .next t ∧ TilesAnswered tk.val w.walk
        (w.remaining.map (fun n => { node := n, status := St.fixerLaneDown })) (start tk.val s) t) ∧
    (∀ v : Work, s.work tk.val = some v → v.req.opcode = 0x0907 → (s.ticket tk.val).state = .running →
      clearUntil (v.accept + (if v.req.deadline = 0 then lsbOfMs 2000 else lsbOfUs v.req.deadline)) s = true →
      ∃ t u, exec (.cardApduDeadline tk) s = .next t ∧
        TilesAnswered tk.val v.walk [{ node := v.req.node, status := St.timeout }] u t ∧
        (∀ o ∈ u.lane.out, o.user ≠ .ticket tk.val) ∧ u.lane.out.length = s.lane.out.length ∧
        u = { s with time := u.time, lane := u.lane })

/-! ### The F die -/

/-- The F die serves the request at the head of the lane and answers it while the M die can hear (R274, R284, R285, R290,
R295, R300): reads of its records, speed ring, status and certificate; time proposals by the rows of R285; driver identities;
card requests through the allow-list; samples, which advance the tail; and class 0x09 sets, prepared, armed, applied or
discarded. A sample is compared by the clock latched at its own edge. That EXPOSE_COMMIT is refused where no set is held and none
of that generation applied is the model's choice (log entry 194). -/
def Obligations.FixerServesTheLane : Prop :=
  ∀ (q : Nat) (rest : List (Nat × LaneReq)) (s : State), s.fix.running = true → s.stew.running = true → s.eave.depth ≤ 2 →
    (∀ sel first count : Nat, s.lane.toF = (q, .recordRead sel first count) :: rest →
      ∃ t d, exec .recordRead s = .next t ∧ t.lane.toF = rest ∧ t.fix = s.fix ∧
        Replied q (if sel = 0 ∧ s.fix.head < first then St.fixerRange else St.ok) d t ∧
        (sel = 0 → d = if s.fix.head < first then [] else ((s.fix.buffer.filter (fun r =>
          decide (first ≤ r.1) && decide (r.1 < first + count))).map (·.2.1)).flatten) ∧
        (sel = 1 → d = speedData first count s.fix) ∧ (sel = 2 → d.take 8 = leBytes 8 s.fix.clock) ∧
        (3 ≤ sel → d.length = 152)) ∧
    (∀ (delta : Int) (flag : Bool), s.lane.toF = (q, .timePropose delta flag) :: rest →
      (delta < -((3600 * oneSec : Nat) : Int) ∨
          (flag = false ∨ s.fix.shop = false) ∧ (s.fix.unset = false ∨ delta ≤ 0) ∧ s.fix.allowance < delta.natAbs →
        ∃ t d, exec .timePropose s = .next t ∧ t.lane.toF = rest ∧ t.fix = s.fix ∧ Replied q St.fixerTimeLimit d t) ∧
      (-((3600 * oneSec : Nat) : Int) ≤ delta → delta.natAbs ≤ s.fix.allowance → s.fix.slew = 0 →
        s.fix.unset = false → flag = false →
        ∃ t d, exec .timePropose s = .next t ∧ t.lane.toF = rest ∧ Replied q St.ok d t ∧ t.fix.unset = false ∧
          t.fix.adjusted = true ∧ t.fix.spent = s.fix.spent ++ [(s.fix.clock, delta.natAbs)] ∧
          (delta < 0 → t.fix.slew = delta.natAbs * 100 ∧ t.fix.clock = s.fix.clock) ∧
          (0 ≤ delta → t.fix.slew = 0 ∧ (t.fix.clock : Int) = s.fix.clock + delta)) ∧
      (-((3600 * oneSec : Nat) : Int) ≤ delta → flag = true → s.fix.shop = true →
        ∃ t d, exec .timePropose s = .next t ∧ t.lane.toF = rest ∧ Replied q St.ok d t ∧ t.fix.unset = false ∧
          t.fix.spent = s.fix.spent ∧
          (s.fix.allowance < delta.natAbs → SealCounted s t))) ∧
    (∀ slot token : Nat, s.lane.toF = (q, .tokenIdentity slot token) :: rest →
      ∃ t, exec .tokenIdentity s = .next t ∧ t.lane.toF = rest ∧ Replied q St.ok [] t ∧
        (s.fix.driver = (slot, token) → t.fix = s.fix) ∧
        (s.fix.buffer.length < 3068 → t.fix.driver = (slot, token)) ∧
        (3068 ≤ s.fix.buffer.length → t.fix.driver = s.fix.driver)) ∧
    (∀ (n : Fin 2) (b : Bytes), s.lane.toF = (q, .cardApdu n.val b) :: rest →
      ((s.card n.val).info.state ≠ 2 → (s.card n.val).reset = none → ∃ t, exec .cardRequest s = .next t ∧ t.lane.toF = rest ∧
        t.fix = s.fix ∧ Replied q St.fixerCardAbsent [] t) ∧
      ((s.card n.val).serves = true → apduOk b = false → ∃ t, exec .cardRequest s = .next t ∧ t.lane.toF = rest ∧
        t.fix = s.fix ∧ Replied q St.fixerCardDenied [] t) ∧
      ((s.card n.val).serves = true → apduOk b = true → ∃ t, exec .cardRequest s = .next t ∧ t.lane.toF = rest ∧
        (t.card n.val).reqs = (s.card n.val).reqs ++ [(q, b)] ∧
        ((s.card n.val).reqs = [] → (s.card n.val).reset = none → (t.card n.val).sent = ((s.card n.val).command b).1) ∧
        ((s.card n.val).reset ≠ none → (t.card n.val).sent = (s.card n.val).sent) ∧ ∀ m, m ≠ n.val → t.card m = s.card m)) ∧
    (∀ n : Fin 2, s.lane.toF = (q, .cardReset n.val) :: rest →
      ((s.card n.val).info.state = 2 → (s.card n.val).info.role = 2 → ∃ t, exec .cardRequest s = .next t ∧
        t.lane.toF = rest ∧ t.fix = s.fix ∧ Replied q St.fixerCardDenied [] t) ∧
      ((s.card n.val).info.state = 2 → (s.card n.val).info.role ≠ 2 → (s.card n.val).reqs = [] → (s.card n.val).reset = none →
        ∃ t, exec .cardRequest s = .next t ∧ t.lane.toF = rest ∧ (t.card n.val).info.state = 1 ∧
          (t.card n.val).reset = some q)) ∧
    (∀ (epoch tail confirm : Nat) (unset : Bool), s.lane.toF = (q, .epochSample epoch unset tail confirm) :: rest →
      s.lane.edges.contains (.sample q) = false → ∃ t, exec .epochSample s = .next t ∧ t.lane.toF = rest ∧ Replied q St.ok [] t ∧ t.fix.adjusted = false ∧
        (s.fix.gap = none → unset = true ∨ s.fix.adjusted = true →
          t.fix.events = s.fix.events.filter (fun r => decide (confirm < r.key))) ∧
        (s.fix.gap = none → unset = true ∨ s.fix.adjusted = true → tail ≠ 0xFFFFFFFF →
          s.fix.tail = 0xFFFFFFFF ∨ s.fix.tail < tail →
          t.fix.tail = tail ∧ t.fix.buffer = s.fix.buffer.filter (fun r => decide (tail < r.1)) ∧ t.fix.heads.head?.map (·.1) = some tail) ∧
        (∀ c : Nat, unset = false → s.fix.adjusted = false → assoc s.fix.latches q = some c →
          t.fix.offset = some ((c : Int) - epoch)) ∧
        (unset = true ∨ s.fix.adjusted = true ∨ assoc s.fix.latches q = none → t.fix.offset = s.fix.offset)) ∧
    (∀ (items : List (Nat × Int)) (pair : Option Bytes) (gen instant ticket : Nat),
      s.lane.toF = (q, .exposePrepare items pair gen instant ticket) :: rest →
      let inRange : Prop := ∀ i ∈ items, ∃ r, rowOf 9 i.1 = some r ∧ r.ok 0 i.2 = true
      (s.fix.set ≠ none → ∃ t, exec .exposePrepare s = .next t ∧ t.lane.toF = rest ∧ t.fix = s.fix ∧
        Replied q St.fixerSetPending [] t) ∧
      (s.fix.set = none → s.fix.shop = false → ∃ t, exec .exposePrepare s = .next t ∧ t.lane.toF = rest ∧ t.fix = s.fix ∧
        Replied q St.fixerNoWorkshop [] t) ∧
      (s.fix.set = none → s.fix.shop = true → ¬inRange → ∃ t, exec .exposePrepare s = .next t ∧ t.lane.toF = rest ∧
        t.fix = s.fix ∧ Replied q St.fixerSetting [] t) ∧
      (s.fix.set = none → s.fix.shop = true → inRange → pair = none → ∃ t, exec .exposePrepare s = .next t ∧
        t.lane.toF = rest ∧ t.fix = { s.fix with set := some { items, gen, instant, ticket } } ∧ Replied q St.ok [] t)) ∧
    (∀ gen : Nat, s.lane.toF = (q, .exposeCommit gen) :: rest →
      (s.fix.set = none → s.fix.applied = gen → ∃ t, exec .exposeCommit s = .next t ∧ t.lane.toF = rest ∧ t.fix = s.fix ∧
        Replied q St.ok [] t) ∧
      (s.fix.set = none → s.fix.applied ≠ gen → ∃ t st, exec .exposeCommit s = .next t ∧ t.lane.toF = rest ∧ t.fix = s.fix ∧
        Replied q st [] t ∧ st ≠ St.ok) ∧
      (∀ x : FixSet, s.fix.set = some x → x.armed = false → s.fix.shop = true → ∃ t, exec .exposeCommit s = .next t ∧
        t.lane.toF = rest ∧ t.fix = { s.fix with set := some { x with armed := true } } ∧ Replied q St.ok [] t) ∧
      (∀ x : FixSet, s.fix.set = some x → x.armed = false → s.fix.shop = false → ∃ t, exec .exposeCommit s = .next t ∧
        t.lane.toF = rest ∧ t.fix = s.fix ∧ Replied q St.fixerNoWorkshop [] t) ∧
      (∀ x : FixSet, s.fix.set = some x → x.armed = true → ∃ t, exec .exposeCommit s = .next t ∧ t.lane.toF = rest ∧
        t.fix.set = none ∧ t.fix.applied = x.gen ∧ t.fix.appliedAt = s.fix.clock ∧
        SealCounted s t ∧ Replied q St.ok (leBytes 8 s.fix.clock) t)) ∧
    (∀ gen : Nat, s.lane.toF = (q, .exposeRollback gen) :: rest → ∃ t, exec .exposeRollback s = .next t ∧
      t.lane.toF = rest ∧ t.fix = { s.fix with set := none } ∧ Replied q St.ok [] t)

/-- The F die's own clock and pulses (R275–R279, R284, R285, R292, R293, R491): the sync edge of a sample latches the clock for it, and
an exposure's edge applies an armed set; a pulse longer than the filter counts, with the k in force at its stamp, and a shorter one
is a glitch; each second adds its speed byte to the ring; each
minute its ACTIVITY record, chained to the one before, or the minute joins the pending GAP; a slew ends when DELTA has been
taken; the crystal is corrected by its parabola every 10 s; a message of another type is counted and discarded. -/
def Obligations.FixerKeepsTimeAndDistance : Prop :=
  ∀ (stamp : Nat) (s : State), s.fix.running = true →
    (∀ (e : SyncKind) (rest : List SyncKind), s.lane.edges = e :: rest → FixerDue stamp s →
      (∀ q : Nat, e = .sample q → ∃ t, exec (.syncEdge stamp) s = .next t ∧
        t.lane = { s.lane with edges := rest } ∧ t.fix.latches = (s.fix.latches ++ [(q, stamp)]).take 16 ∧
        t.fix.clock = stamp ∧ t.fix.set = s.fix.set ∧ t = { s with lane := t.lane, fix := t.fix }) ∧
      (e = .exposure → (∀ x, s.fix.set = some x → x.armed = false) → ∃ t, exec (.syncEdge stamp) s = .next t ∧
        t.lane = { s.lane with edges := rest } ∧ t.fix.latches = s.fix.latches ∧ t.fix.clock = stamp ∧
        t.fix.set = s.fix.set ∧ t = { s with lane := t.lane, fix := t.fix }) ∧
      (∀ x : FixSet, e = .exposure → s.fix.set = some x → x.armed = true → ∃ t, exec (.syncEdge stamp) s = .next t ∧
        t.fix.set = none ∧ t.fix.applied = x.gen ∧ t.fix.appliedAt = stamp)) ∧
    (∀ ty : Byte, ∃ t, exec (.laneUnknownMessage ty) s = .next t ∧
      t = { s with fix := { s.fix with unknown := s.fix.unknown + 1 } }) ∧
    (∀ highUs : Nat, stamp < s.fix.nextSec → stamp < s.fix.nextMin → (∀ e ∈ s.fix.edges, e.1 < stamp) →
      (∀ c : KChange, s.fix.val 1 ≤ highUs → s.fix.kChange = some c → stamp < c.edge →
        ∃ t, exec (.msPulseEdge stamp highUs) s = .next t ∧ t.fix.pulses = s.fix.pulses ∧ t.fix.total = s.fix.total + 1 ∧
        t.fix.edges = (stamp, c.k) :: s.fix.edges ∧ t.fix.m0 = c.m0 + (c.pulses + 1) * 1000000 / c.k ∧
        t = { s with ev := t.ev, fix := t.fix }) ∧
      (s.fix.val 1 ≤ highUs → (∀ c : KChange, s.fix.kChange = some c → c.edge ≤ stamp) →
        ∃ t, exec (.msPulseEdge stamp highUs) s = .next t ∧ t.fix.pulses = s.fix.pulses + 1 ∧ t.fix.m0 = s.fix.m0 ∧
        t.fix.total = s.fix.total + 1 ∧ t.fix.edges = (stamp, s.fix.k) :: s.fix.edges ∧
        t.fix.minute.glitches = s.fix.minute.glitches ∧ t = { s with ev := t.ev, fix := t.fix }) ∧
      (highUs < s.fix.val 1 → ∃ t, exec (.msPulseEdge stamp highUs) s = .next t ∧ t.fix.pulses = s.fix.pulses ∧
        t.fix.minute.glitches = satAdd 0xFF s.fix.minute.glitches 1 ∧ t = { s with fix := t.fix })) ∧
    (s.fix.nextSec ≤ s.fix.nextMin → ∃ t, exec .speedSample s = .next t ∧ t.fix.nextSec = s.fix.nextSec + oneSec ∧
      t.fix.speed = s.fix.speedAt s.fix.nextSec ∧
      t.fix.ring = (BitVec.ofNat 8 (s.fix.ringByte (s.fix.speedAt s.fix.nextSec)) :: s.fix.ring).take 86400 ∧
      (s.fix.total < 3 → t.fix.speed = none ∧ t.fix.ring.head? = some 0xFF) ∧ t = { s with fix := t.fix }) ∧
    (s.fix.nextMin ≤ s.fix.nextSec →
      (s.fix.gap = none → s.fix.buffer.length < 3008 → ∃ t head h, exec .activityRecord s = .next t ∧
        t.fix.nextMin = s.fix.nextMin + 60 * oneSec ∧ (s.fix.next, head ++ h.take 8, h) ∈ t.fix.buffer ∧
        head.length = 24 ∧ head.take 5 = leBytes 4 s.fix.next ++ [0x02] ∧ h = sha256 (s.fix.chain ++ head)) ∧
      (s.fix.gap ≠ none ∨ 3008 ≤ s.fix.buffer.length → ∃ t g, exec .activityRecord s = .next t ∧
        t.fix.nextMin = s.fix.nextMin + 60 * oneSec ∧ t.fix.buffer = s.fix.buffer ∧ t.fix.next = s.fix.next ∧
        t.fix.gap = some g ∧ g.minutes = satAdd 0xFFFE (s.fix.gap.getD {}).minutes 1)) ∧
    (s.fix.slew ≠ 0 → FixerDue (s.fix.clock + (s.fix.slew * 99 + 99) / 100) s → ∃ t, exec .fixerSlewEnd s = .next t ∧
      t.fix = { s.fix with clock := s.fix.clock + (s.fix.slew * 99 + 99) / 100, slew := 0 } ∧ t = { s with fix := t.fix }) ∧
    (∀ temp : Int, FixerDue s.fix.trimAt s → ∃ t, exec (.xmTempCorrection temp) s = .next t ∧ t.fix.temp = temp ∧
      t.fix.trim = 34 * ((temp - 250) * (temp - 250)) / 100 ∧ t.fix.trimAt = s.fix.trimAt + 10 * oneSec ∧
      t.fix.clock = s.fix.trimAt ∧ t = { s with fix := t.fix })

/-- The motion sensor and the cards (R280–R282, R288–R290): a CHECK goes out with a fresh nonce and is tried three times; a
COUNT with a right MAC inside the tolerance passes, one with a wrong MAC or outside it fails; a card is activated when it is
inserted, forgotten when it leaves, and led through its authentication by the response APDUs that its protocol brings; a card that
breaks the protocol fails; a card that stays silent is tried in
class A or deactivated, and its requests end with a card error. -/
def Obligations.FixerSensorAndCards : Prop :=
  ∀ s : State, s.fix.running = true →
    (s.fix.motion.paired ≠ none → s.fix.onVfb = false → s.fix.motion.check = none → FixerDue s.fix.motion.next s →
      ∃ t nonce, exec .sensorCheck s = .next t ∧ nonce.length = 8 ∧
        t.fix.motion.check = some (nonce, 1, s.fix.motion.next) ∧
        t.fix.motion.sent = 0x5A :: nonce ++ leBytes 1 (crc8 (0x5A :: nonce)) ∧
        t.fix.motion.next = s.fix.motion.next + s.fix.val 3 * oneSec ∧ t = { s with free := t.free, fix := t.fix }) ∧
    (∀ (nonce : Bytes) (n sent : Nat) (c : SensorFrame), s.fix.motion.check = some (nonce, n, sent) →
      (c.bytes.length ≠ 18 ∨ u8At c.bytes 0 ≠ 0xA5 ∨ u8At c.bytes 17 ≠ crc8 (c.bytes.take 17) →
        ∃ t, exec (.sensorCount c) s = .next t ∧ t = s) ∧
      (∀ (id : Nat) (kp : Bytes), FixerDue c.stamp s → sent ≤ c.stamp → c.stamp ≤ sent + lsbOfMs 20 → c.bytes.length = 18 →
        u8At c.bytes 0 = 0xA5 → u8At c.bytes 17 = crc8 (c.bytes.take 17) → s.fix.motion.pairing = none →
        s.fix.motion.paired = some (id, kp) →
        (beNat (slice c.bytes 1 4) = id → (cmac kp (nonce ++ slice c.bytes 1 8)).take 8 = slice c.bytes 9 8 →
          s.fix.motion.base = none → s.fix.motion.failed = false → ∃ t, exec (.sensorCount c) s = .next t ∧
            t.fix.motion.passed = true ∧ t.fix.motion.check = none ∧
            t.fix.motion.base = some (beNat (slice c.bytes 5 4), s.fix.pulsesBefore c.stamp) ∧ t = { s with fix := t.fix }) ∧
        (beNat (slice c.bytes 1 4) ≠ id ∨ (cmac kp (nonce ++ slice c.bytes 1 8)).take 8 ≠ slice c.bytes 9 8 →
          ∃ t, exec (.sensorCount c) s = .next t ∧ t.fix.motion.passed = false ∧ t.fix.motion.failed = true ∧
            t.fix.motion.check = none ∧ t.fix.motion.base = s.fix.motion.base))) ∧
    (∀ (nonce : Bytes) (n sent : Nat), s.fix.motion.check = some (nonce, n, sent) → FixerDue (sent + lsbOfMs 20) s →
      (n < 3 → ∃ t nonce', exec .sensorReplyTimeout s = .next t ∧
        t.fix.motion.check = some (nonce', n + 1, sent + lsbOfMs 20) ∧ t = { s with free := t.free, fix := t.fix }) ∧
      (3 ≤ n → s.fix.motion.pairing = none → ∃ t, exec .sensorReplyTimeout s = .next t ∧ t.fix.motion.check = none ∧
        t.fix.motion.passed = false ∧ t.fix.motion.failed = true)) ∧
    (∀ n : Fin 2,
      (s.fix.onVfb = false → (s.card n.val).present = false → ∃ t, exec (.cardInserted n) s = .next t ∧
        (t.card n.val).present = true ∧ (t.card n.val).info.state = 1 ∧ (t.card n.val).info.inserted = s.fix.clock ∧
        t.lane.strobe = true) ∧
      ((s.card n.val).present = true → ∃ t, exec (.cardRemoved n) s = .next t ∧ t.card n.val = {} ∧ t.lane.strobe = true) ∧
      (s.fix.onVfb = false → ∀ b : Bytes,
        ((s.card n.val).step = .idle ∨ (s.card n.val).step = .waiting → ∃ t, exec (.cardReply n b) s = .next t ∧ t = s) ∧
        (∀ (r : Bytes) (l : CardLink), (s.card n.val).heard b = .done r l →
          ((s.card n.val).step = .ifs → ∃ t, exec (.cardReply n b) s = .next t ∧ (t.card n.val).step = .selectAid ∧
            (t.card n.val).sent = (({ s.card n.val with link := l } : Card).command apduAid).1) ∧
          ((s.card n.val).step = .selectAid → swOk r = true → ∃ t, exec (.cardReply n b) s = .next t ∧
            (t.card n.val).step = .selectEf ∧
            (t.card n.val).sent = (({ s.card n.val with link := l } : Card).command apduEf).1) ∧
          ((s.card n.val).step = .selectEf → swOk r = true → ∃ t, exec (.cardReply n b) s = .next t ∧
            (t.card n.val).step = .readCert ∧
            (t.card n.val).sent = (({ s.card n.val with link := l } : Card).command apduCert).1) ∧
          (∀ st, st = CardStep.selectAid ∨ st = .selectEf ∨ st = .readCert → (s.card n.val).step = st → swOk r = false →
            ∃ t, exec (.cardReply n b) s = .next t ∧ (t.card n.val).info.state = 3) ∧
          (∀ (q : Nat) (apdu : Bytes) (rs : List (Nat × Bytes)), (s.card n.val).step = .ready →
            (s.card n.val).reqs = (q, apdu) :: rs → s.stew.running = true → s.eave.depth ≤ 2 →
            ∃ t, exec (.cardReply n b) s = .next t ∧ Replied q St.ok r t)) ∧
        (∀ st, st = CardStep.ifs ∨ st = .selectAid ∨ st = .selectEf ∨ st = .readCert ∨ st = .auth → (s.card n.val).step = st →
          (∀ l, (s.card n.val).heard b = .wait l → ∃ t, exec (.cardReply n b) s = .next t ∧
            t.card n.val = { s.card n.val with link := l } ∧ t = { s with fix := t.fix }) ∧
          (∀ x l, (s.card n.val).heard b = .send x l → ∃ t, exec (.cardReply n b) s = .next t ∧
            t.card n.val = { s.card n.val with link := l, sent := x } ∧ t = { s with fix := t.fix }) ∧
          ((s.card n.val).heard b = .bad → ∃ t, exec (.cardReply n b) s = .next t ∧ (t.card n.val).info.state = 3)) ∧
        ((s.card n.val).step = .atr → parseAtr b = none → (s.card n.val).cls = 2 → ∃ t,
          exec (.cardReply n b) s = .next t ∧ (t.card n.val).step = .atr ∧ (t.card n.val).cls = 1)) ∧
      (s.fix.onVfb = false →
        ((s.card n.val).step = .atr → (s.card n.val).cls = 2 → ∃ t, exec (.cardWaitingTimeExceeded n) s = .next t ∧
          (t.card n.val).step = .atr ∧ (t.card n.val).cls = 1) ∧
        (∀ (q : Nat) (apdu : Bytes) (l : List (Nat × Bytes)), (s.card n.val).step = .ready →
          (s.card n.val).reqs = (q, apdu) :: l → s.stew.running = true → s.eave.depth ≤ 2 →
          ∃ t, exec (.cardWaitingTimeExceeded n) s = .next t ∧ (t.card n.val).info.state = 3 ∧
            Replied q St.fixerCardError [] t) ∧
        ((s.card n.val).step = .ready → (s.card n.val).reqs = [] → ∃ t, exec (.cardWaitingTimeExceeded n) s = .next t ∧
          t = s)))

/-- Supplies, lid, mesh and start of the F die (R272, R277, R287, R297–R299): the change to VFB and back; the checkpoint at
the supply-loss warning; one seal event for an opened lid or a broken mesh, sensed while the F die runs or at its start; a brown-out keeps the retained SRAM only while a
supply remains; a start goes on with what was retained, and after a loss of both supplies from the checkpoint one second
later, UNSET, with a GAP record first. -/
def Obligations.FixerSuppliesAndStart : Prop :=
  ∀ (mv : Nat) (s : State),
    (s.fix.running = true → s.fix.onVfb = false → ∃ t, exec (.fSupplyToVfb mv) s = .next t ∧ t.fix.onVfb = true ∧
      t.fix.vfb = mv ∧ (t.card 0).present = false ∧ (t.card 1).present = false ∧ t.fix.motion.check = none ∧
      t.fix.clock = s.fix.clock) ∧
    (s.fix.running = true → s.fix.onVfb = true → ∃ t, exec (.fSupplyToVfix mv) s = .next t ∧ t.fix.onVfb = false ∧
      t.fix.vfb = mv ∧ t.fix.clock = s.fix.clock) ∧
    (s.fix.running = true → ∃ t, exec .supplyLossWarning s = .next t ∧
      t = { s with fix := { s.fix with checkpoint := (s.fix.clock, s.fix.dist % 100000) } }) ∧
    (∃ t, exec (.fLidMesh 0) s = .next t ∧ t.fix.lidOpen = true ∧
      (s.fix.running = true → MeshSensed s → s.fix.lidSeen = false →
        (∀ c, s.fix.lidClosed = some c → c + oneSec ≤ s.fix.clock) →
        SealCounted s t ∧ t.fix.lidSeen = true ∧ t.lane.strobe = true) ∧
      (∀ c, s.fix.running = true → MeshSensed s → s.fix.lidSeen = false → s.fix.lidClosed = some c →
        s.fix.clock < c + oneSec → t = { s with fix := { s.fix with lidOpen := true, lidSeen := true } }) ∧
      (s.fix.running = false ∨ s.fix.lidSeen = true ∧ MeshSensed s → t = { s with fix := { s.fix with lidOpen := true } })) ∧
    (∃ t, exec (.fLidMesh 1) s = .next t ∧ t.fix.lidOpen = false ∧
      (s.fix.running = true → s.fix.lidSeen = true → MeshSensed s →
        t = { s with fix := { s.fix with lidOpen := false, lidSeen := false, lidClosed := some s.fix.clock } }) ∧
      (s.fix.running = false ∨ s.fix.lidSeen = false ∧ MeshSensed s →
        t = { s with fix := { s.fix with lidOpen := false } })) ∧
    (∃ t, exec (.fLidMesh 2) s = .next t ∧ t.fix.mesh = true ∧
      (s.fix.running = true → LidSensed s → s.fix.meshSeen = false → SealCounted s t ∧ t.fix.meshSeen = true) ∧
      (s.fix.running = false ∨ s.fix.meshSeen = true ∧ LidSensed s → t = { s with fix := { s.fix with mesh := true } })) ∧
    (∀ both : Bool, ∃ t, exec (.fBrownOut both) s = .next t ∧
      t = { s with
        fix := { s.fix with running := false, retained := !both && (s.fix.running || s.fix.retained) }
        lane := { s.lane with toF := [], edges := [], strobe := false } }) ∧
    (s.fix.running = false → s.fix.retained = true → MeshSensed s → s.fix.lidOpen = true → s.fix.lidSeen = false →
      (∀ c, s.fix.lidClosed = some c → c + oneSec ≤ s.fix.clock) → ∃ t, exec .fDieStart s = .next t ∧
      t.fix.running = true ∧ SealCounted s t) ∧
    (s.fix.running = false → s.fix.retained = true → MeshSensed s → LidSensed s → ∃ t, exec .fDieStart s = .next t ∧
      t.fix.running = true ∧ t.fix.clock = s.fix.clock ∧ t.fix.next = s.fix.next ∧ t.fix.chain = s.fix.chain ∧ t.fix.buffer = s.fix.buffer ∧
      t.fix.unset = s.fix.unset ∧ t.fix.total = 0 ∧ t.fix.speed = none ∧ s.fix.clock < t.fix.nextSec ∧
      t = { s with fix := t.fix }) ∧
    (s.fix.running = false → s.fix.retained = false → ∃ t b h, exec .fDieStart s = .next t ∧ t.fix.running = true ∧
      t.fix.clock = s.fix.checkpoint.1 + oneSec ∧ t.fix.unset = true ∧ t.fix.gap = none ∧
      t.fix.m0 = s.fix.distance.value * 100000 + s.fix.checkpoint.2 ∧ t.fix.values = s.fix.values ∧
      ((match s.fix.heads with | [] => 1 | x :: _ => wrapAdd 32 x.1 1), b, h) ∈ t.fix.buffer ∧ u8At b 4 = 0x09 ∧
      (s.fix.lidOpen = false → s.fix.mesh = false → t.fix.seals = s.fix.seals) ∧
      (s.fix.lidOpen = true → s.fix.mesh = false → SealCounted s t))

/-! ### The access engine -/

/-- Polls, answers and buttons (R159, R160, R162, R166–R168, R171, R180–R183). A fire of shutter 13 polls under the present
POLL_SEQ and admits the LEARNED slots that are not SETTLED; a valid ANSWER of one of them is trigger 1, one of another
counts as invalid, silence changes nothing. A BUTTON that nobody hears changes nothing, a valid one moves the slot's
counter and is trigger 2 while polling, an invalid one is counted and reported. A poll without
PD7 LF and a telegram without the cipher engine wait for them. Sniff windows follow every 500 ms, and polling in PARKED stops
at its limit. -/
def Obligations.PollsAndButtons : Prop :=
  ∀ (slot : Fin 16) (rssi : Int) (a : AnswerTel) (b : ButtonTel) (meas : List LfMeas) (preamble : Bool) (s : State),
    (s.access.state = .poll → s.power.mode = .parked → pollStopped s = true → ∃ t, exec .parkPollStop s = .next t ∧
      t.access = { s.access with state := .dormant } ∧ (t.shut 13).state = .idle ∧ (∀ k, k ≠ 13 → t.shut k = s.shut k) ∧
      t = { s with access := t.access, time := { s.time with shutters := t.time.shutters } }) ∧
    (∀ v : State, s.stew.running = true → s.access.state = .poll → s.access.polls = [] → s.access.poll = none →
      firmFire 13 s = some v → (s.shut 13).owed = false → (s.shut 13).preValid = false → s.time.routing = [] →
      routesFrom s 14 = [] →
      ¬ (v.power.mode = .parked ∧ pollStopped v = true) →
      let mask := maskOf ((learned s).filter (fun n => !(s.tok n).settled))
      let u := repace 13 (pollPeriod v) v
      let tel := pollTeles u 5 mask
      let sent := accessRun true (carrierNow u) tel meas (u.modAccess (fun x => { x with lfSent := [] }))
      (ready [7] v = true → sent.2 = none →
        ∃ t, exec (.pollCycle meas) s = .next t ∧ t.now = v.now ∧ t.access.pollSeq = wrapAdd 16 s.access.pollSeq 1 ∧
          t.access.cycles = wrapAdd 32 s.access.cycles 1 ∧ t.access.lfSent = sent.1.access.lfSent ∧
          (∀ x ∈ t.access.lfSent, ∃ y ∈ tel, x.2 = y.data) ∧
          (t.shut 13).fireCount = wrapAdd 32 (s.shut 13).fireCount 1 ∧
          (∃ c, t.access.poll = some c ∧ c.seq = s.access.pollSeq ∧ c.mask = mask ∧ c.door = false ∧ c.answered = [] ∧
            c.sets = tel.map (·.set) ∧ c.first = v.now + lsbOfMs (32 * tel.length + 2)) ∧
          t.conf = s.conf ∧ t.sw = s.sw ∧ t.ciph = s.ciph ∧ t.store = s.store ∧ t.lane = s.lane ∧ t.fix = s.fix) ∧
      (ready [7] v = false → ∃ t, exec (.pollCycle meas) s = .next t ∧ t.access = { v.access with polls := [5] } ∧
        t.lf = s.lf ∧ t.uhf = s.uhf)) ∧
    (∀ (c : PollCyc) (at_ : Nat), s.access.poll = some c → c.opens slot.val = some at_ → (s.tok slot.val).state = 1 →
      clearUntil at_ s = true →
      let v := reach at_ s
      accessHears v = true → v.now < at_ + lsbOfMs 4 →
      (rssi ≤ s.get 5 13 → ∃ t, exec (.answer slot rssi { tel := none, meas }) s = .next t ∧ t = v) ∧
      (a.token = (s.tok slot.val).token → a.slot = slot.val → a.seq = c.seq → c.door = false →
        ∃ t, exec (.answer slot rssi { tel := some a, meas }) s = .next t ∧
          t.access.poll = some { c with answered := c.answered ++ [slot.val] } ∧
          t.tok slot.val = { s.tok slot.val with
            answered := true, heard := heardSets c a.flags, lowBat := a.flags.testBit 4, seen := v.now, missed := 0 } ∧
          (∀ k, k ≠ slot.val → t.tok k = s.tok k) ∧
          ((s.tok slot.val).settled = true → t = { s with access := t.access, time := t.time }) ∧
          ((s.tok slot.val).settled = false → s.power.mode = .parked ∨ s.power.mode = .watch → s.power.moving = none →
            t.power.moving = some { target := .approach, trigger := 1, since := v.now })) ∧
      (a.token ≠ (s.tok slot.val).token → ∃ t, exec (.answer slot rssi { tel := some a, meas }) s = .next t ∧
        (t.tok slot.val).invalid = satAdd 0xFFFF (s.tok slot.val).invalid 1 ∧ t.access.lastInvalid = v.now ∧
        t.power.moving = s.power.moving ∧ t.power.mode = s.power.mode)) ∧
    (s.access.state ≠ .poll → s.access.state ≠ .dormant → hearsButton s = false → ∃ t, exec (.button b) s = .next t ∧ t = s) ∧
    (∀ (v : State) (sniff : Bool),
      (sniff = true ∧ (s.access.state = .poll ∨ s.access.state = .dormant) ∧
          (∃ x : AccWin, s.uhf.access = some x ∧ clearUntil x.open_ s = true ∧ v = reach x.open_ s ∧ accessHears v = true) ∨
        sniff = false ∧ hearsButton s = true ∧ v = s) →
      let verdict := judgeToken b.slot b.token b.counter (buttonMsg b) b.mac s
      (verdict = .valid →
        ∃ t, exec (.button b) s = .next t ∧ (t.tok b.slot).s = b.counter ∧ (t.tok b.slot).seen = v.now ∧
          (t.tok b.slot).settled = false ∧ (∀ k, k ≠ b.slot → (t.tok k).s = (s.tok k).s ∧ (t.tok k).state = (s.tok k).state) ∧
          (sniff = false → ∀ k, k ≠ b.slot → t.tok k = s.tok k) ∧
          (sniff = true → s.power.mode = .parked ∨ s.power.mode = .watch →
            s.power.moving = none → t.power.moving = some { target := .approach, trigger := 2, since := v.now })) ∧
      (∀ k : Nat, verdict = .invalid k →
        ∃ t, exec (.button b) s = .next t ∧ t.access.lastInvalid = v.now ∧
          (b.slot < 16 → (t.tok b.slot).invalid = satAdd 0xFFFF (s.tok b.slot).invalid 1) ∧
          (∀ n, (t.tok n).s = (s.tok n).s ∧ (t.tok n).state = (s.tok n).state) ∧ t.power = { s.power with domains := t.power.domains } ∧
          Logged v.now 0x0502 (slotNode (if b.slot < 16 then b.slot else 0xFF)) 0xFF
            (leBytes 1 (if b.slot < 16 then b.slot else 0xFF) ++ leBytes 1 k ++ zeros 2 ++ leBytes 4 b.token ++
              leBytes 2 ((s.access.invalid.filter (fun t => decide (v.now < t + lsbOfS 60))).length + 1)) s t) ∧
      (verdict = .waits → ∃ t, exec (.button b) s = .next t ∧
        t.access = { s.access with checks := s.access.checks ++ [.button b] })) ∧
    (∀ w : Nat, s.uhf.sniffAt = some w → s.access.state = .poll ∨ s.access.state = .dormant →
      let due := w - lsbOfUs (if calValidAt w (accessFreq s) s then 73 else 225)
      clearUntil due s = true →
      let v := reach due s
      (v.usable 5 = true → v.eave.depth ≤ 2 → ∃ t n, exec (.sniffWindow preamble) s = .next t ∧ t.now = v.now ∧
        t.uhf.sniffAt = some n ∧ t.now < n ∧ w < n ∧ (n - w) % lsbOfMs 500 = 0 ∧ t.access = s.access ∧ t.conf = s.conf) ∧
      (v.usable 5 = false ∨ 3 ≤ v.eave.depth → ∃ t, exec (.sniffWindow preamble) s = .next t ∧ t.uhf = s.uhf ∧
        t.access = s.access ∧ t = { s with time := t.time, power := t.power, eave := t.eave }))

/-- Cycles of shutter 15 (R159, R169, R171, R172, R175, R176, R181, R184, R199). A fire begins an acquire cycle in ACQUIRE
and a cab cycle otherwise, under the zone map in force; ACCESS.LOCATE is refused while another or learning runs, and else
its cycle goes first; a cycle without PD7 LF waits for it. A valid RESPONSE moves the slot's counter and joins the cycle once; EXHAUSTED makes the slot RELEARN.
A verdict without responses counts a lost acquire cycle, or says that no token is in the cab; a response without ranging gets
its zone and event 0x0503. ACCESS.APPROACH_MAX settles the slots that answered and is trigger 8. -/
def Obligations.CyclesAndVerdicts : Prop :=
  ∀ (tk : Fin 128) (tel : ResponseTel) (meas : List LfMeas) (s : State) (w : Work),
    (∀ v : State, s.stew.running = true → s.access.cyc = none → s.access.locate = none → s.access.start = none →
      s.access.cycleDue = none → s.access.state = .acquire ∨ s.access.state = .cabin ∨ s.access.state = .release →
      firmFire 15 s = some v → (s.shut 15).owed = false → (s.shut 15).preValid = false → s.time.routing = [] →
      routesFrom s 16 = [] →
      (ready [7] v = true → ∃ t, exec (.accessCycle meas) s = .next t ∧ t.access.cycles = wrapAdd 32 s.access.cycles 1 ∧
        t.now = v.now ∧ (t.shut 15).fireCount = wrapAdd 32 (s.shut 15).fireCount 1 ∧
        (∀ c, t.access.cyc = some c → c.kind = (if s.access.state = .acquire then .acquire else .cab) ∧ c.stamp = v.now ∧
          c.map = zoneMap s ∧ c.judged = false ∧ c.resps = [])) ∧
      (ready [7] v = false → ∃ t, exec (.accessCycle meas) s = .next t ∧
        t.access = { v.access with cycleDue := some v.now } ∧ t.lf = s.lf)) ∧
    (∀ f : Nat, s.stew.running = true → s.access.cyc = none → s.access.locate = none → s.access.start = none →
      s.access.cycleDue = some f → s.access.state = .acquire ∨ s.access.state = .cabin ∨ s.access.state = .release →
      (lfBusy s = true → ∃ t, exec (.accessCycle meas) s = .next t ∧ t = s) ∧
      (lfBusy s = false → ready [7] s = true → ∃ t, exec (.accessCycle meas) s = .next t ∧ t.access.cycleDue = none ∧
        t.access.cycles = wrapAdd 32 s.access.cycles 1 ∧ t.now = s.now ∧
        (∀ c, t.access.cyc = some c → c.stamp = f ∧ c.judged = false ∧ c.resps = []))) ∧
    (∀ l : Nat × List Nat × Bool, s.stew.running = true → s.access.cyc = none → s.access.locate = some l → lfBusy s = false →
      ready [7] s = true → s.access.state = .acquire ∨ s.access.state = .cabin ∨ s.access.state = .release →
      ∃ t, exec (.accessCycle meas) s = .next t ∧ t.access.locate = none ∧
        t.access.cycles = wrapAdd 32 s.access.cycles 1 ∧
        (∀ c, t.access.cyc = some c → c.kind = .locate ∧ c.stamp = s.now ∧ c.locate = some l.1 ∧ c.force = l.2.2)) ∧
    (startable tk.val 0x0503 s = some w →
      (s.access.learning ≠ none ∨ s.access.locate ≠ none → ∃ t, exec (.accessLocate tk) s = .next t ∧
        TilesAnswered tk.val w.walk (w.walkTileNodes.map (fun n => { node := n, status := St.accessBusy })) s t) ∧
      (s.access.learning = none → s.access.locate = none → s.access.cyc = none → ∃ t,
        exec (.accessLocate tk) s = .next t ∧ (t.ticket tk.val).state = .running ∧
        t.access = { s.access with locate := some (tk.val, w.walkTileNodes.map (· - 0x50), u8At w.req.payload 0 % 2 == 1) } ∧
        t = { s with sheet := t.sheet, access := t.access })) ∧
    (∀ (c : AccCyc) (ch : Bytes) (win : AccWin) (x : Nat), s.access.cyc = some c → c.challenge = some ch → c.judged = false →
      s.uhf.access = some win → win.open_ = x → clearUntil x s = true → accessHears (reach x s) = true →
      (tel.flags % 2 = 1 → tel.slot < 16 → (s.tok tel.slot).state = 1 → (s.tok tel.slot).token = tel.token →
        ∃ t, exec (.responseTelegram tel) s = .next t ∧
          t.tok tel.slot = { s.tok tel.slot with state := 2 } ∧
          (∀ k, k ≠ tel.slot → t.tok k = s.tok k) ∧ t.access.cyc = some c) ∧
      (tel.flags % 2 = 0 →
        judgeToken tel.slot tel.token tel.counter (responseMsg ch c.stamp tel) tel.mac (reach x s) = .valid →
        ∃ t, exec (.responseTelegram tel) s = .next t ∧
          t.tok tel.slot = { s.tok tel.slot with
            s := tel.counter, seen := (reach x s).now, lowBat := tel.flags.testBit 4, answered := true } ∧
          (∀ k, k ≠ tel.slot → t.tok k = s.tok k) ∧
          (c.mask.testBit tel.slot = true → c.resps.all (fun r => r.slot != tel.slot) = true →
            t.access.cyc = some { c with
              resps := c.resps ++ [{ slot := tel.slot, counter := tel.counter, meas := tel.meas }] }) ∧
          (c.mask.testBit tel.slot = false ∨ c.resps.any (fun r => r.slot == tel.slot) = true → t.access.cyc = some c)) ∧
      (tel.flags % 2 = 0 →
        judgeToken tel.slot tel.token tel.counter (responseMsg ch c.stamp tel) tel.mac (reach x s) = .waits →
        ∃ t, exec (.responseTelegram tel) s = .next t ∧
          t.access = { s.access with checks := s.access.checks ++ [.response tel] }) ∧
      (∀ k : Nat, tel.flags % 2 = 0 →
        judgeToken tel.slot tel.token tel.counter (responseMsg ch c.stamp tel) tel.mac (reach x s) = .invalid k →
        ∃ t, exec (.responseTelegram tel) s = .next t ∧ t.access.cyc = some c ∧
          (tel.slot < 16 → (t.tok tel.slot).invalid = satAdd 0xFFFF (s.tok tel.slot).invalid 1) ∧
          (∀ n, (t.tok n).s = (s.tok n).s))) ∧
    (∀ c : AccCyc, s.access.cyc = some c → c.judged = false → c.challenge ≠ none → clearUntil c.due s = true →
      (c.resps = [] → c.kind = .acquire → ∃ t, exec .cycleVerdict s = .next t ∧ t.access.cyc = none ∧
        t.access.lostCycles = s.access.lostCycles + 1 ∧
        (s.access.lostCycles + 1 < s.nat 5 2 → t.power = s.power) ∧
        (s.nat 5 2 ≤ s.access.lostCycles + 1 → s.power.mode = .approach → s.power.moving = none →
          t.power.moving = some { target := if s.power.fromParked then .parked else .watch, trigger := 8, since := (reach c.due s).now })) ∧
      (c.resps = [] → c.kind = .cab → ∃ t, exec .cycleVerdict s = .next t ∧ t.access.cyc = none ∧ t.access.absent = true ∧
        t.access.driver = s.access.driver ∧ t = { s with time := t.time, access := t.access, range := t.range }) ∧
      (∀ r : Resp, c.resps = [r] → r.slot < 16 →
        let v := reach c.due s
        let z := zoneVerdict c.map (mapMargin c.map + (if baselineReady v = true then 0 else 12)) (baseline c.map v) (notDriven c r.slot) r.meas
        needsRanging v c z = false → ∃ t, exec .cycleVerdict s = .next t ∧ t.access.cyc = none ∧
          (t.tok r.slot).zone = z ∧ (t.tok r.slot).range = r.ranged ∧
          Logged v.now 0x0503 (slotNode r.slot) 0xFF (leBytes 1 r.slot ++ leBytes 1 z ++ leBytes 1 r.ranged ++
            leBytes 1 (b1 (!baselineReady v) + b1 (c.kind == .start) 1) ++ leBytes 4 r.counter) s t)) ∧
    (s.access.state = .acquire → s.power.mode = .approach → s.power.moving = none →
      clearUntil (s.access.approachAt + lsbOfS (s.nat 5 3)) s = true → ∃ t, exec .approachMaxExpire s = .next t ∧
        t.now = (reach (s.access.approachAt + lsbOfS (s.nat 5 3)) s).now ∧
        t.power.moving = some { target := if s.power.fromParked then .parked else .watch, trigger := 8, since := t.now } ∧
        (∀ n : Fin 16, (s.tok n.val).answered = true → (t.tok n.val).settled = true ∧ (t.tok n.val).missed = 0) ∧
        (∀ n : Fin 16, (s.tok n.val).answered = false → t.tok n.val = s.tok n.val))

/-- Release frames, body frames and the access engine's timers (R183–R185, R187–R191, R199). A fire of shutter 14 without a
reserved value withholds its frame; with one it consumes that value; a release key that is gone ends the release. The frame's
end of transmission is LAST_RELEASE, and with the first one in CAB trigger 5. -/
def Obligations.ReleaseAndBodyFrames : Prop :=
  ∀ (tk : Fin 128) (s : State) (w : Work),
    (∀ v : State, s.access.state = .release → firmFire 14 s = some v → (s.shut 14).owed = false →
      (s.shut 14).preValid = false → s.time.routing = [] → routesFrom s 15 = [] →
      (s.access.relUsedUp = false → (s.kslot s.releaseSlot).ver ≠ none → (s.kslot s.releaseSlot).exhausted = false →
        s.access.relReserved ≤ s.access.relNext → ∃ t, exec .releaseFrame s = .next t ∧ t.access.state = .release ∧
          t.access.relNext = s.access.relNext ∧ t.access.dropped = wrapAdd 32 s.access.dropped 1 ∧ t.sw = s.sw) ∧
      (∀ k : Bytes, s.access.relUsedUp = false → (s.kslot s.releaseSlot).exhausted = false →
        usableKey s s.releaseSlot 0 = some k → s.cipherUp = true → (s.kslot s.releaseSlot).nonceNext ≤ s.access.relNext →
        s.access.relNext < s.access.relReserved → s.access.relNext < 0xFFFFFFFF → waitingRelease s = none →
        ∃ t, exec .releaseFrame s = .next t ∧ t.access.relNext = s.access.relNext + 1 ∧
          (t.kslot s.releaseSlot).nonceNext = s.access.relNext + 1 ∧ t.access.dropped = s.access.dropped) ∧
      (s.access.relUsedUp = true ∨ (s.kslot s.releaseSlot).ver = none ∨ (s.kslot s.releaseSlot).exhausted = true →
        ∃ t, exec .releaseFrame s = .next t ∧
          t.access.state = (if s.heads .drive = true then .release else .cabin) ∧ t.access.authorised = false ∧
          (t.shut 14).state = .idle ∧ t.access.relNext = s.access.relNext ∧ t.sw = s.sw ∧
          (s.power.mode = .drive → s.power.moving = none →
            t.power.moving = some { target := .cab, trigger := 13, since := v.now }))) ∧
    (∀ (f : SwFrame) (c : Copy), headCopy s (s.nat 5 20) = some (f, c) → s.nat 5 20 < 12 →
      (f.built ≠ 1 → ∃ t, exec .releaseFrameTransmitted s = .next t ∧ t = s) ∧
      (f.built = 1 → maySend s (s.nat 5 20) = true → (s.port (s.nat 5 20)).pauseUntil = none →
        ∃ t, exec .releaseFrameTransmitted s = .next t ∧ t.access.lastRelease = s.now ∧ t.access.firstSent = true ∧
          (s.access.firstSent = false → s.access.state = .release → s.power.mode = .cab → s.power.moving = none →
            t.power.moving = some { target := .drive, trigger := 5, since := s.now }))) ∧
    (s.access.driver ≠ none → s.access.state = .cabin ∨ s.access.state = .release →
      clearUntil (s.access.cabSeen + lsbOfS (s.nat 5 10)) s = true → ∃ t, exec .cabAbsentExpire s = .next t ∧
        t.access = { s.access with driver := none } ∧
        Logged (reach (s.access.cabSeen + lsbOfS (s.nat 5 10)) s).now 0x0509 0 0xFF (leBytes 1 0xFF ++ zeros 3) s t ∧
        t = { withEvents s t with time := t.time, access := t.access, lane := t.lane }) ∧
    (s.access.state = .cabin → s.nat 5 11 ≠ 0 → s.power.ign = false → s.access.walked = false → s.power.mode = .cab → s.power.moving = none →
      clearUntil (s.access.heldSeen + lsbOfS (s.nat 5 11)) s = true → ∃ t, exec .walkawayExpire s = .next t ∧
        t.power.moving = some { target := if s.nat 4 0 = 0 then .parked else .watch, trigger := 3,
                                since := (reach (s.access.heldSeen + lsbOfS (s.nat 5 11)) s).now }) ∧
    (s.access.suspect = true → clearUntil (s.access.lastInvalid + lsbOfS (60 * s.nat 5 12)) s = true →
      ∃ t, exec .suspectHoldExpire s = .next t ∧ t.access = { s.access with suspect := false, suspectSince := 0 } ∧
        t.now = (reach (s.access.lastInvalid + lsbOfS (60 * s.nat 5 12)) s).now ∧
        t = { withEvents s t with time := t.time, access := t.access, store := t.store, power := t.power }) ∧
    (startable tk.val 0x0504 s = some w →
      (s.access.lock ≠ none → ∃ t, exec (.accessLock tk) s = .next t ∧ t = s) ∧
      (s.access.lock = none → s.power.mode ≠ .cab → leavesDrive s = false →
        s.cipherUp = false ∨ usableKey s (s.nat 5 19) 2 = none → ∃ t, exec (.accessLock tk) s = .next t ∧ Answered tk.val St.bodyNotSent (zeros 16) (start tk.val s) t) ∧
      (∀ k : Bytes, s.access.lock = none → s.cipherUp = true → keyReady s (s.nat 5 19) = true → usableKey s (s.nat 5 19) 2 = some k →
        s.access.bodyNext < s.access.bodyReserved → ∃ t, exec (.accessLock tk) s = .next t ∧
          t.access.lock = some (tk.val, s.access.bodyNext, s.now) ∧ t.access.bodyNext = s.access.bodyNext + 1 ∧
          (s.access.state = .cabin → s.power.mode = .cab → s.power.moving = none →
            t.power.moving = some { target := if s.nat 4 0 = 0 then .parked else .watch, trigger := 3, since := s.now }))) ∧
    (∀ q v : Nat, s.access.lock = some (tk.val, q, v) → clearUntil (v + lsbOfMs 100) s = true →
      (s.ticket tk.val).state = .running → ∃ t u, exec .lockFrameTimeout s = .next t ∧
        Answered tk.val St.bodyNotSent (lockReply q 0) u t ∧ u.access = { s.access with lock := none } ∧
        u = { s with time := u.time, access := u.access })

/-- Learning and pairing (R195, R196, R198, R199). ACCESS.LEARN_SET answers ACCESS_BUSY beside learning, release or a LOCATE,
and KEY_UNWRAP_FAIL without any effect when one key fails; else the whole old set is gone and the first key goes to its slot.
A LEARN telegram follows every 500 ms; a valid LEARN_ACK makes the slot LEARNED and the next entry follows, one with a bad
MAC is noted; the timeout ends learning with LEARN_PARTIAL. ACCESS.RELEASE_PAIR unwraps the release key in the same way. -/
def Obligations.LearningAndPairing : Prop :=
  ∀ (tk : Fin 128) (tel : LearnAckTel) (meas : LfMeas) (s : State) (w : Work),
    (startable tk.val 0x0505 s = some w →
      (accessBusy s = true → ∃ t, exec (.accessLearnSet tk) s = .next t ∧ Answered tk.val St.accessBusy [] s t) ∧
      (accessBusy s = false → unwrapReady s = false → ∃ t, exec (.accessLearnSet tk) s = .next t ∧ t = s) ∧
      (accessBusy s = false → unwrapReady s = true → unwrapSet s w.req.payload = none →
        ∃ t, exec (.accessLearnSet tk) s = .next t ∧ Answered tk.val St.keyUnwrapFail [] s t) ∧
      (∀ (e : Nat × Bytes) (es : List (Nat × Bytes)), accessBusy s = false → unwrapReady s = true →
        unwrapSet s w.req.payload = some (e :: es) → ∃ t, exec (.accessLearnSet tk) s = .next t ∧
          t.access.state = .learn ∧ t.access.learning = some { ticket := tk.val, entries := e :: es } ∧
          t.access.learnGen = wrapAdd 32 s.access.learnGen 1 ∧ (s.range.ended = [] → t.access.suspect = false) ∧ t.access.cyc = none ∧
          (∀ n : Fin 16, (t.tok n.val).state = 0 ∧ (t.tok n.val).token = 0) ∧ (t.shut 15).state = .idle ∧
          (∃ h, (t.kslot 16).shadow = some h ∧ h.path = 3 ∧ h.ver.key = e.2) ∧
          (∀ n, 17 ≤ n → n < 32 → (t.kslot n).ver = none ∧ (t.kslot n).shadow = none))) ∧
    (∀ (l : Learning) (e : Nat × Bytes), s.access.learning = some l → l.entries[l.at_]? = some e → s.access.state = .learn →
      (l.since ≠ 0 → lfBusy s = false → clearUntil ((l.lastSent.map (· + lsbOfMs 500)).getD l.since) s = true →
        let v := reach ((l.lastSent.map (· + lsbOfMs 500)).getD l.since) s
        (ready [7] v = true → ∃ t l', exec (.learnRetry meas) s = .next t ∧ t.access.learning = some l' ∧
          l'.lastSent = some t.now ∧ t.now = v.now ∧ l'.at_ = l.at_ ∧
          l'.entries = l.entries ∧ l'.ticket = l.ticket ∧ t.access.slots = s.access.slots) ∧
        (ready [7] v = false → ∃ t, exec (.learnRetry meas) s = .next t ∧ t.access = s.access ∧ t.now = v.now ∧ t.lf = s.lf)) ∧
      (∀ (nonce : Bytes) (win : AccWin) (x : Nat), l.nonce = some nonce → tel.slot = l.at_ → tel.token = e.1 → l.at_ < 16 →
        s.uhf.access = some win → win.open_ = x → clearUntil x s = true → accessHears (reach x s) = true →
        (tokenMac l.at_ (learnMsg nonce tel) tel.mac (reach x s) = some false → ∃ t, exec (.learnAck tel) s = .next t ∧
          t.access = { s.access with learning := some { l with badMac := true } } ∧
          t = { s with time := t.time, access := t.access }) ∧
        (tokenMac l.at_ (learnMsg nonce tel) tel.mac (reach x s) = some true → tel.counter ≠ 0xFFFFFFFF →
          ∃ t, exec (.learnAck tel) s = .next t ∧
            t.tok l.at_ = { state := 1, token := e.1, s := tel.counter, seen := (reach x s).now, gen := s.access.learnGen } ∧
            (∀ k, k ≠ l.at_ → t.tok k = s.tok k) ∧
            (l.at_ + 1 < l.entries.length → ∃ l', t.access.learning = some l' ∧ l'.at_ = l.at_ + 1 ∧ l'.since = 0 ∧
              l'.entries = l.entries ∧ l'.ticket = l.ticket) ∧
            (l.entries.length ≤ l.at_ + 1 → (s.ticket l.ticket).state = .running → l.ticket < 128 →
              t.access.learning = none ∧ t.access.state = .cabin ∧ (t.ticket l.ticket).state = .completed ∧
              (t.ticket l.ticket).status = St.ok))) ∧
      (l.since ≠ 0 → clearUntil (l.since + lsbOfS (s.nat 5 16)) s = true → ∃ t, exec .learnTimeout s = .next t ∧
        t.access.learning = none ∧ t.access.state = .cabin ∧ (16 + l.at_ < 64 → (t.kslot (16 + l.at_)).ver = none ∧
          (t.kslot (16 + l.at_)).shadow = none) ∧ t.access.slots = s.access.slots)) ∧
    (startable tk.val 0x0506 s = some w →
      (accessBusy s = true → ∃ t, exec (.accessReleasePair tk) s = .next t ∧ Answered tk.val St.accessBusy [] s t) ∧
      (accessBusy s = false → unwrapReady s = false → ∃ t, exec (.accessReleasePair tk) s = .next t ∧ t = s) ∧
      (accessBusy s = false → unwrapReady s = true → unwrap16 s (u8At w.req.payload 4) (slice w.req.payload 8 24) = none →
        ∃ t, exec (.accessReleasePair tk) s = .next t ∧ Answered tk.val St.keyUnwrapFail [] s t) ∧
      (∀ k : Bytes, accessBusy s = false → unwrapReady s = true → s.releaseSlot < 64 →
        unwrap16 s (u8At w.req.payload 4) (slice w.req.payload 8 24) = some k →
        ∃ t h, exec (.accessReleasePair tk) s = .next t ∧ (t.kslot s.releaseSlot).shadow = some h ∧ h.path = 4 ∧ h.ver.key = k ∧
          h.ver.usage = 1 ∧ (t.kslot s.releaseSlot).ver = none ∧ t.access = s.access))

/-! ### The LF field array -/

/-- LF command sequences (R205, R215, R216, R219, R220, R222–R224). LF.BURST is refused for arguments and for channels that
may not drive, else it waits its turn, in order of acceptance; the first waiting job starts when the array is free, the loss and the supply allow it
and no booked access sequence comes too soon; it ends with its currents. A deadline without a gap is TIMEOUT. VLF outside its
range disables the drivers, VLF back in range enables them; an overcurrent latches its channel; LF.CLEAR_FAULT clears it. -/
def Obligations.LfCommandSequences : Prop :=
  ∀ (tk : Fin 128) (ch : Fin 32) (mv peak phase : Nat) (meas : LfMeas) (s : State) (w : Work),
    (startable tk.val 0x0603 s = some w →
      (burstOk w.req.payload s = false → ∃ t, exec (.lfBurst tk) s = .next t ∧ Answered tk.val St.badArg [] s t) ∧
      (burstOk w.req.payload s = true → (burstChans w.req.payload).any (fun e => !lfUsable s e.1) = true →
        ∃ t, exec (.lfBurst tk) s = .next t ∧ Answered tk.val St.lfChannelFault burstNone s t) ∧
      (burstOk w.req.payload s = true → (burstChans w.req.payload).all (fun e => lfUsable s e.1) = true →
        (lfJobs s).all (fun x => x.ticket != some tk.val) = true →
        (lfJobs s).all (fun x => x.begun || x.ticket.isNone || decide (x.order < w.order)) = true →
        ∃ t, exec (.lfBurst tk) s = .next t ∧
          t.lf = { s.lf with jobs := lfJobs s ++ [{
            ticket := some tk.val, latest := w.accept + lsbOfUs (lfDeadline 0x0603 w.req.deadline), order := w.order }] } ∧
          t = { s with lf := t.lf })) ∧
    (startable tk.val 0x0602 s = some w → (lfJobs s).all (fun x => x.ticket != some tk.val) = true →
      (lfJobs s).all (fun x => x.begun || x.ticket.isNone || decide (x.order < w.order)) = true →
      ∃ t, exec (.lfDiag tk) s = .next t ∧
        t.lf = { s.lf with jobs := lfJobs s ++ [{
          ticket := some tk.val, diag := true, tiles := w.walkTileNodes, static := u8At w.req.payload 0 % 2 == 1
          latest := w.accept + lsbOfUs (lfDeadline 0x0602 w.req.deadline), order := w.order }] } ∧
        t = { s with lf := t.lf }) ∧
    (∀ (x y : LfJob) (xs : List LfJob), startable tk.val 0x0603 s = some w → burstOk w.req.payload s = true →
      (burstChans w.req.payload).all (fun e => lfUsable s e.1) = true → lfJobs s = xs ++ [x] → x.ticket ≠ none → x.begun = false →
      (lfJobs s).all (fun y => y.ticket != some tk.val) = true → xs.all (fun y => y.begun || y.ticket.isNone || decide (y.order < w.order)) = true →
      w.order ≤ x.order → y = { ticket := some tk.val, latest := w.accept + lsbOfUs (lfDeadline 0x0603 w.req.deadline), order := w.order } →
      ∃ t, exec (.lfBurst tk) s = .next t ∧ t.lf.jobs = xs ++ [y, x]) ∧
    (∀ j : LfJob, (lfJobs s).find? (fun j => j.ticket == some tk.val && !j.begun) = some j → clearUntil j.latest s = true →
      (j.diag = false → ∃ t u, exec (.lfCommandDeadline tk) s = .next t ∧ Answered tk.val St.timeout burstNone u t ∧
        u.lf = { s.lf with jobs := (lfJobs s).filter (fun x => x.ticket != some tk.val) } ∧
        u = { s with time := u.time, lf := u.lf }) ∧
      (j.diag = true → s.work tk.val = some w → w.results = [] → ∃ t u, exec (.lfCommandDeadline tk) s = .next t ∧
        TilesAnswered tk.val w.walk (w.walkTileNodes.map (fun n => { node := n, status := St.timeout })) u t ∧
        u.lf = { s.lf with jobs := (lfJobs s).filter (fun x => x.ticket != some tk.val) } ∧
        u = { s with time := u.time, lf := u.lf })) ∧
    (∀ (j : LfJob) (js : List LfJob), lfJobs s = j :: js →
      let free : Prop := lfOpen s = true ∧ lfBusy s = false ∧ lfBefore s j = false ∧ j.ticket = some tk.val ∧
        (j.begun = true ∨ s.now ≤ j.latest)
      (lfGap (jobLength s j) s = false ∨ lfBusy s = true ∨ lfBefore s j = true ∨ lfOpen s = false →
        ∃ t, exec .lfCommandSequenceStart s = .next t ∧ t = s) ∧
      (free → lfGap (jobLength s j) s = true → (jobBurst s j).all (fun e => lfUsable s e.1) = true → jobFits s j = true →
        (lfRefusal false (partsEstimate (jobParts s j)) s = none → ∃ t q, exec .lfCommandSequenceStart s = .next t ∧
          t.lf.seqs = s.lf.seqs ++ [q] ∧ q.who = 1 ∧ q.parts = jobParts s j ∧ q.div = carrierDiv s ∧ s.now ≤ q.start ∧
          (carrierDiv s ≠ 0 → q.start ≤ s.now + lsbOfTicks (carrierDiv s)) ∧
          q.instant (jobLength s j) ≤ q.end_ ∧ q.end_ ≤ q.instant (jobLength s j) + lsbOfUs 16 ∧
          (j.begun = false → (t.ticket tk.val).state = .running) ∧ t.lf.chans = s.lf.chans) ∧
        (∀ r, j.diag = false → lfRefusal false (partsEstimate (jobParts s j)) s = some r →
          ∃ t u, exec .lfCommandSequenceStart s = .next t ∧
          Answered tk.val (if r = 0 then St.lfSupply else St.lfHot) burstNone u t ∧ u.lf.jobs = js ∧ u.lf.seqs = s.lf.seqs ∧
          Logged s.now 0x0603 0 0xFF (leBytes 1 r ++ leBytes 1 1) s u ∧ u = { withEvents s u with lf := u.lf })) ∧
      (free → lfGap (jobLength s j) s = true → (jobBurst s j).any (fun e => !lfUsable s e.1) = true →
        ∃ t u, exec .lfCommandSequenceStart s = .next t ∧
          Answered tk.val St.lfChannelFault burstNone u t ∧ u.lf = { s.lf with jobs := js } ∧ u = { s with lf := u.lf }) ∧
      (free → lfGap (jobLength s j) s = true → (jobBurst s j).all (fun e => lfUsable s e.1) = true → jobFits s j = false →
        ∃ t u, exec .lfCommandSequenceStart s = .next t ∧
          Answered tk.val St.badArg [] u t ∧ u.lf = { s.lf with jobs := js } ∧ u = { s with lf := u.lf }) ∧
      (∀ q : LfSeq, commandSeq s = some q → jobOf s q = some j → clearUntil q.end_ s = true → j.ticket = some tk.val →
        capturedChans s = [] →
        let m := measIn q meas
        let now := (reach q.end_ s).now
        (j.diag = false → s.work tk.val = some w → ∃ t u, exec (.lfSequenceEnd meas) s = .next t ∧
          Answered tk.val (if m.scale = 255 ∧ m.chans.all (fun c => !c.short) = true then St.ok else St.lfHeadroom)
            (burstReply q now w.req.payload m) u t ∧
          q ∉ u.lf.seqs ∧ u.lf.jobs = js ∧ (max now q.end_, partsLoss m (partsUs q.parts) q.parts) ∈ u.lf.losses ∧
          u = { withEvents s u with time := u.time, lf := u.lf }) ∧
        (j.diag = true → j.seg = 0 → j.static = false → s.allows 7 = true → ∃ t, exec (.lfSequenceEnd meas) s = .next t ∧
          q ∉ t.lf.seqs ∧ t.lf.jobs = { j with found := meas.static, seg := 1 } :: js ∧
          t = { s with time := t.time, lf := t.lf }))) ∧
    (s.lf.enabled = true → mv < 8000 ∨ 32000 < mv →
      (lfBusy s = false → ∃ t, exec (.vlfDisable { mv, meas }) s = .next t ∧ t.lf = { s.lf with enabled := false } ∧
        Logged s.now 0x0604 0 0xFF (zeros 2 ++ leBytes 2 (mv / 10)) s t ∧ t = { withEvents s t with lf := t.lf }) ∧
      (∀ (q : LfSeq) (qs : List LfSeq) (j : LfJob), liveSeqs s = q :: qs → q.who = 1 → jobOf s q = some j → j.diag = false →
        j.ticket = some tk.val → s.work tk.val = some w → ∃ t, exec (.vlfDisable { mv, meas }) s = .next t ∧
          t.lf.enabled = false ∧ t.lf.seqs = [] ∧ (t.ticket tk.val).state = .completed ∧ (t.ticket tk.val).status = St.lfAborted)) ∧
    (s.lf.enabled = false → 8300 ≤ mv → mv ≤ 31500 → ∃ t, exec (.vlfEnable mv) s = .next t ∧
      t.lf = { s.lf with enabled := true } ∧
      Logged s.now 0x0604 0 0xFF (leBytes 1 1 ++ zeros 1 ++ leBytes 2 (mv / 10)) s t ∧ t = { withEvents s t with lf := t.lf }) ∧
    (peak < 1600 → ∃ t, exec (.lfOvercurrent ch { peak, phase } meas) s = .next t ∧ t = s) ∧
    (∀ (q : LfSeq) (j : LfJob), lfRunning s = some q → q.chans.contains ch.val = true → 1600 ≤ peak → q.who = 1 →
      jobOf s q = some j → j.diag = false → j.ticket = some tk.val → s.work tk.val = some w →
      ∃ t, exec (.lfOvercurrent ch { peak, phase } meas) s = .next t ∧ (t.lfc ch.val).latched = true ∧ q ∉ t.lf.seqs ∧
        (t.ticket tk.val).state = .completed ∧ (t.ticket tk.val).status = St.lfHeadroom) ∧
    (∀ q : LfSeq, lfRunning s = some q → q.chans.contains ch.val = true → 1600 ≤ peak → q.who = 0 → capturedChans s = [] →
      ∃ t, exec (.lfOvercurrent ch { peak, phase } meas) s = .next t ∧ (t.lfc ch.val).latched = true ∧
        t.access = { s.access with cyc := t.access.cyc } ∧
        ((s.lfc ch.val).latched = false → (t.lfc ch.val).verdict = 5 ∧ (t.lfc ch.val).latchedAt = s.now ∧
          (t.lfc ch.val).faults = satAdd 0xFFFF (s.lfc ch.val).faults 1) ∧
        (∀ k, k ≠ ch.val → t.lfc k = s.lfc k) ∧ t = { withEvents s t with lf := t.lf, access := t.access, time := t.time }) ∧
    (∀ (n : Nat) (ns : List Nat), s.power.mode = .cab ∨ s.power.mode = .drive → s.nat 6 8 ≠ 0 →
      (lfJobs s).all (fun j => j.ticket.isSome) = true → autoDue s = n :: ns → ∃ t, exec .lfAutoDiag s = .next t ∧
        t.lf = { s.lf with jobs := lfJobs s ++ [{ diag := true, tiles := [0x10 + n] }] } ∧
        t = { s with lf := t.lf, power := t.power }) ∧
    (startable tk.val 0x0604 s = some w → commandTiles w = [0x10 + ch.val] →
      ∃ t u, exec (.lfClearFault tk) s = .next t ∧
        TilesAnswered tk.val w.walk [{ node := 0x10 + ch.val, status := St.ok, data := [] }] u t ∧
        ((s.lfc ch.val).latched = false → u = s) ∧
        ((s.lfc ch.val).latched = true → u.lfc ch.val = { s.lfc ch.val with latched := false, verdict := 0xFF } ∧
          (∀ k, k ≠ ch.val → u.lfc k = s.lfc k) ∧ Logged s.now 0x0602 (0x10 + ch.val) 0xFF (leBytes 1 ch.val) s u ∧
          u = { withEvents s u with lf := u.lf }))

/-! ### The sub-GHz transceiver -/

/-- The front end (R226–R229, R232, R246, R247). A calibration leaves its record and event 0x0701, and the request served
goes on to SETTLE or completes; lock starts the request once its conditions hold; a lock that does not come calibrates once
more, then fails the request; a lock that is lost returns a receiver to SETTLE or cuts the transmission; an access window goes
through the same states. The ramps take 16 µs, and at the
end of the second the transmission completes with event 0x0702. -/
def Obligations.FrontEndStates : Prop :=
  ∀ (ok : Bool) (band codes dur : Nat) (s : State),
    (s.uhf.state ≠ .cal → ∃ t, exec (.uhfCalDone ok { band, codes } dur) s = .next t ∧ t = s) ∧
    (∀ r : UhfReq, s.uhf.state = .cal → s.uhf.serving = some r →
      (r.kind ≠ .cal → s.uhf.access = none → ∃ t, exec (.uhfCalDone ok { band, codes } dur) s = .next t ∧ t.uhf.state = .settle ∧
        t.uhf.freq = r.freq ∧ t.uhf.locked = false ∧ t.uhf.serving = some r ∧ t.uhf.offset = s.get 7 5 ∧
        (ok = true → t.uhf.records.head? = some { freq := s.uhf.freq, stamp := s.now, temp := dieTemp s, band, codes } ∧
          t.uhf.lastCal = s.now) ∧ (ok = false → t.uhf.records = s.uhf.records) ∧
        Logged s.now 0x0701 0 0xFF (leBytes 1 s.uhf.calCause ++ leBytes 1 (b1 (!ok)) ++ leBytes 2 dur ++
          leBytes 4 (s.uhf.freq / 1000)) s t ∧ t = { withEvents s t with uhf := t.uhf }) ∧
      (r.kind = .cal → r.ticket < 128 → s.uhf.queue = [] → accessTaken s = false →
        ∃ t, exec (.uhfCalDone ok { band, codes } dur) s = .next t ∧
        t.uhf.serving = none ∧ (t.ticket r.ticket).state = .completed ∧
        (t.ticket r.ticket).status = (if ok then St.ok else St.uhfLockFail) ∧
        (t.ticket r.ticket).keep = leBytes 4 dur ++ leBytes 1 band ++ zeros 3)) ∧
    (∀ x : AccWin, s.uhf.access = some x → x.begun = true → x.lost = false →
      (s.uhf.state = .cal → ∃ t, exec (.uhfCalDone ok { band, codes } dur) s = .next t ∧ t.uhf.state = .settle ∧
        t.uhf.freq = x.freq ∧ t.uhf.serving = s.uhf.serving ∧ t = { withEvents s t with uhf := t.uhf }) ∧
      (s.uhf.state = .settle → s.uhf.locked = false → ∃ t, exec .uhfLock s = .next t ∧
        t = { s with uhf := { s.uhf with state := .rx, locked := true, failed := false } }) ∧
      (s.uhf.state = .settle → s.uhf.locked = false → s.uhf.failed = true → ∃ t, exec .uhfLockTimeout s = .next t ∧
        t.uhf.access = some { x with lost := true } ∧ t.uhf.lockFails = satAdd 0xFFFF s.uhf.lockFails 1 ∧
        Logged s.now 0x0704 0 0xFF (leBytes 1 3 ++ leBytes 1 0 ++ zeros 2 ++ leBytes 4 (s.uhf.freq / 1000)) s t)) ∧
    (s.uhf.state = .settle → s.uhf.access = none → s.uhf.locked = false →
      (s.uhf.serving = none → ∃ t, exec .uhfLock s = .next t ∧
        t = { s with uhf := { s.uhf with locked := true, failed := false } }) ∧
      (∀ r : UhfReq, s.uhf.serving = some r → s.uhf.window = none → s.now ≤ r.deadline → leadOver r s = true →
        gntOk r s = true →
        (r.kind = .tx → txFits r.airtime s = true → ∃ t, exec .uhfLock s = .next t ∧
          t = signalEdge 0x60 true { s with uhf := { s.uhf with
            locked := true, failed := false, state := .txRamp, started := s.now } }) ∧
        (r.kind = .rx → ∃ t, exec .uhfLock s = .next t ∧ t = { s with uhf := { s.uhf with
          locked := true, failed := false, state := .rx
          window := some { opened := s.now,
                           end_ := s.now + lsbOfUs (((s.work r.ticket).map (fun w => u32At w.req.payload 24)).getD 0) } } })) ∧
      (s.uhf.failed = false → ∃ t, exec .uhfLockTimeout s = .next t ∧ t = { s with uhf := { s.uhf with
        lockFails := satAdd 0xFFFF s.uhf.lockFails 1, failed := true, state := .cal, calCause := 4, locked := false } }) ∧
      (∀ r : UhfReq, s.uhf.failed = true → s.uhf.serving = some r → r.kind ≠ .cal → r.ticket < 128 → s.uhf.queue = [] →
        ∃ t, exec .uhfLockTimeout s = .next t ∧ (t.ticket r.ticket).state = .completed ∧
          (t.ticket r.ticket).status = St.uhfLockFail ∧ t.uhf.serving = none ∧
          t.uhf.lockFails = satAdd 0xFFFF s.uhf.lockFails 1 ∧
          Logged s.now 0x0704 0 0xFF (leBytes 1 3 ++ leBytes 1 0 ++ zeros 2 ++ leBytes 4 (s.uhf.freq / 1000)) s t)) ∧
    (s.uhf.state = .rx → ∃ t, exec .uhfLockLost s = .next t ∧ t.uhf = { s.uhf with state := .settle, locked := false } ∧
      Logged s.now 0x0704 0 0xFF (leBytes 1 4 ++ leBytes 1 1 ++ zeros 2 ++ leBytes 4 (s.uhf.freq / 1000)) s t ∧
      t = { withEvents s t with uhf := t.uhf }) ∧
    (s.uhf.state = .tx → ∃ t, exec .uhfLockLost s = .next t ∧
      t.uhf = { s.uhf with state := .txDown, cut := 5, downAt := s.now + lsbOfUs 16 } ∧
      Logged s.now 0x0704 0 0xFF (leBytes 1 6 ++ leBytes 1 1 ++ zeros 2 ++ leBytes 4 (s.uhf.freq / 1000)) s t ∧
      t = { withEvents s t with uhf := t.uhf }) ∧
    (∀ r : UhfReq, s.uhf.serving = some r →
      (s.uhf.state = .txRamp → clearUntil (s.uhf.started + lsbOfUs 16) s = true → ∃ t, exec .uhfRampUpDone s = .next t ∧
        t.uhf = { s.uhf with state := .tx, sent := ((s.work r.ticket).map (fun w => airPacket w.req.payload)).getD [] } ∧
        t.now = (reach (s.uhf.started + lsbOfUs 16) s).now ∧ t = { s with time := t.time, uhf := t.uhf }) ∧
      (s.uhf.state = .tx → clearUntil (s.uhf.started + lsbOfUs (r.airtime - 16)) s = true → ∃ t, exec .uhfTxEnd s = .next t ∧
        t.uhf = { s.uhf with state := .txDown, downAt := t.now + lsbOfUs 16 } ∧
        t.now = (reach (s.uhf.started + lsbOfUs (r.airtime - 16)) s).now ∧ t = { s with time := t.time, uhf := t.uhf }) ∧
      (s.uhf.state = .txDown → clearUntil s.uhf.downAt s = true → s.uhf.queue = [] → r.ticket < 128 → r.band < 16 →
        (∀ n : Fin 8, s.nat 2 4 n.val ≠ 0x60) →
        let v := reach s.uhf.downAt s
        ∃ t, exec .uhfRampDownDone s = .next t ∧ t.uhf.serving = none ∧ t.now = v.now ∧
          t.uhf.txCount = wrapAdd 32 s.uhf.txCount 1 ∧ tget t.uhf.lastEnd r.band = v.now ∧
          (t.ticket r.ticket).state = .completed ∧
          (t.ticket r.ticket).status = (if s.uhf.cut ≠ 0 then St.uhfTxCut else if r.clamped then St.uhfClamped else St.ok) ∧
          (t.ticket r.ticket).keep = txReply s.uhf.started v.now r.airtime r.power s.uhf.cut r.band 0 ∧
          Logged v.now 0x0702 0 r.ticket (leBytes 4 (r.freq / 1000) ++ leBytes 4 r.airtime ++ leBytes 1 (unsext 8 r.power) ++
            leBytes 1 (b1 r.clamped + b1 (s.uhf.cut != 0) 1)) s t))

/-- Host requests of the transceiver (R231–R233, R236–R238, R241–R246). UHF.TX is refused for the charter, the channel and
the duty ledger, in this order and with event 0x0703, and else charges its airtime and waits or is served; UHF.RX is refused
for the charter and the channel; a request past its deadline is TX_LATE or UHF_RX_LATE; a window closes with what it
received; RF_GNT cuts a transmission that asks for it. Buckets of the ledger age by whole minutes. -/
def Obligations.RadioRequests : Prop :=
  ∀ (tk : Fin 128) (level : Bool) (p : UhfPacket) (s : State) (w : Work),
    let next : Prop := s.stew.running = true ∧ s.work tk.val = some w ∧
      (s.flight.filter (fun x => decide (x.2.order ≤ w.order))).filter (uhfNew s) = [(tk.val, w)]
    (next → w.req.opcode = 0x0702 →
      let f := u32At w.req.payload 0
      let air := airtimeUs w.req.payload + 32
      let want := sext 8 (u8At w.req.payload 14)
      let v := s.modUhf (fun u => u.roll s.now)
      (s.charterValid = false ∨ s.charterLocked = false ∧ s.power.mode ≠ .workshop → ∃ t u, exec (.uhfTx tk) s = .next t ∧
        Answered tk.val St.uhfCharter (txReply 0 0 air want 0 0xFF 0) u t ∧
        Logged s.now 0x0703 0 tk.val (leBytes 2 St.uhfCharter ++ leBytes 1 0) s u ∧ u = { withEvents s u with uhf := v.uhf }) ∧
      (s.charterValid = true → s.charterLocked = true ∨ s.power.mode = .workshop →
        (bandOf s.uhf.charter f = none → ∃ t u, exec (.uhfTx tk) s = .next t ∧
          Answered tk.val St.uhfChannel (txReply 0 0 air want 0 0xFF 0) u t ∧
          Logged s.now 0x0703 0 tk.val (leBytes 2 St.uhfChannel ++ leBytes 1 0) s u ∧ u = { withEvents s u with uhf := v.uhf }) ∧
        (∀ b, bandOf s.uhf.charter f = some b → (bandFlags (bandAt s.uhf.charter b)).testBit 0 = false →
          ((bandFlags (bandAt s.uhf.charter b)).testBit 1 = false ∨ u8At w.req.payload 12 ≠ 0) →
          (∀ d, dutyWait b air v = some d → ∃ t u, exec (.uhfTx tk) s = .next t ∧
            Answered tk.val St.uhfDuty (txReply 0 0 air want 0 b d) u t ∧
            Logged s.now 0x0703 0 tk.val (leBytes 2 St.uhfDuty ++ leBytes 1 0) s u) ∧
          (dutyWait b air v = none → ∃ t, exec (.uhfTx tk) s = .next t ∧ uhfHas tk.val t = true ∧
            t.uhf.ledger = ((s.uhf.roll s.now).charge b air).ledger ∧ t.uhf.lastEnd = s.uhf.lastEnd)))) ∧
    (next → w.req.opcode = 0x0703 →
      (s.charterValid = false → ∃ t, exec (.uhfRx tk) s = .next t ∧ Answered tk.val St.uhfCharter (rxReply {}) s t) ∧
      (s.charterValid = true → s.inMask (u32At w.req.payload 0) = false → ∃ t, exec (.uhfRx tk) s = .next t ∧
        Answered tk.val St.uhfChannel (rxReply {}) s t) ∧
      (s.inMask (u32At w.req.payload 0) = true → ∃ t, exec (.uhfRx tk) s = .next t ∧ uhfHas tk.val t = true ∧
        t.uhf.ledger = s.uhf.ledger)) ∧
    (next → w.req.opcode = 0x0704 → ∃ t, exec (.uhfCalibrate tk) s = .next t ∧
      uhfHas tk.val t = true ∧ t.uhf.ledger = s.uhf.ledger ∧
      (s.uhf.state = .idle → s.uhf.serving = none → s.uhf.queue = [] → accessTaken s = false → s.usable 5 = true →
        t.uhf.state = .cal ∧ t.uhf.calCause = 5 ∧
        t.uhf.freq = (if u32At w.req.payload 0 = 0 then accessFreq s else u32At w.req.payload 0) ∧
        (t.ticket tk.val).state = .running)) ∧
    (∀ (r : UhfReq) (x : Nat), firstDeadline s = some r → uhfStartAt s = some x → x ≤ r.deadline → clearUntil x s = true →
      ∃ t, exec .uhfTxDeadline s = .next t ∧ t = uhfTry (reach x s)) ∧
    (∀ r : UhfReq, firstDeadline s = some r → clearUntil r.deadline s = true → r.ticket < 128 → r.kind ≠ .cal →
      (∀ x, uhfStartAt s = some x → r.deadline < x) → s.uhf.serving ≠ some r ∨ s.uhf.queue = [] → ∃ t, exec .uhfTxDeadline s = .next t ∧
        (t.ticket r.ticket).state = .completed ∧
        (t.ticket r.ticket).status = (if r.kind = .tx then St.txLate else St.uhfRxLate) ∧
        t.now = (reach r.deadline s).now) ∧
    (∀ (r : UhfReq) (x : UhfWindow), s.uhf.serving = some r → s.uhf.window = some x → s.uhf.access = none → r.ticket < 128 →
      s.uhf.queue = [] → s.work r.ticket = some w → x.packets.length < u8At w.req.payload 15 → clearUntil x.end_ s = true →
      ∃ t, exec .uhfRxWindowEnd s = .next t ∧ t.uhf.window = none ∧ t.uhf.serving = none ∧
        (t.ticket r.ticket).state = .completed ∧
        (t.ticket r.ticket).status = (if x.truncated then St.uhfRxTruncated else St.ok) ∧
        (t.ticket r.ticket).keep = (rxReply x).take 64) ∧
    (∀ (r : UhfReq), s.uhf.serving = some r → r.kind = .tx → s.uhf.state = .settle → s.uhf.locked = true →
      s.uhf.window = none → clearUntil (leadEnd r s) s = true →
      let v := reach (leadEnd r s) s
      accessTaken v = false → v.now ≤ r.deadline → leadOver r v = true → gntOk r v = true → txFits r.airtime v = true →
        ∃ t, exec .coexLeadExpire s = .next t ∧
          t = signalEdge 0x60 true { v with uhf := { v.uhf with state := .txRamp, started := v.now } }) ∧
    (s.uhf.serving = none → ∃ t, exec (.rfGntChange level) s = .next t ∧
      t = { (if s.uhf.gnt = level then s else signalEdge 0x07 level s) with uhf := { s.uhf with gnt := level } }) ∧
    (∀ r : UhfReq, s.uhf.serving = some r → s.uhf.state = .tx → s.uhf.gnt = true → r.coex = 1 →
      (∀ n : Fin 8, s.nat 2 4 n.val ≠ 7) →
      ∃ t, exec (.rfGntChange false) s = .next t ∧
        t.uhf = { s.uhf with gnt := false, state := .txDown, cut := 6, downAt := s.now + lsbOfUs 16 } ∧
        Logged s.now 0x0705 0 r.ticket (zeros 1) s t ∧ t = { withEvents s t with uhf := t.uhf }) ∧
    (∀ (r : UhfReq) (x : UhfWindow), s.uhf.serving = some r → s.uhf.window = some x → accessTaken s = false →
      s.uhf.state = .rx → s.now < x.end_ → s.work r.ticket = some w →
      (u8At w.req.payload 13 ≠ 2 → p.crcOk = false → ∃ t, exec (.uhfPacketReceived p) s = .next t ∧
        t = { s with uhf := { s.uhf with window := some { x with dropped := satAdd 0xFFFF x.dropped 1 } } }) ∧
      (u8At w.req.payload 13 ≠ 2 → p.crcOk = true → x.packets.length < u8At w.req.payload 15 →
        ∃ t, exec (.uhfPacketReceived p) s = .next t ∧ t = { s with uhf := { s.uhf with
          rxPackets := wrapAdd 32 s.uhf.rxPackets 1
          window := some { x with packets := x.packets ++ [packetEntry (u8At w.req.payload 13) p (p.body.take 240)] } } })) ∧
    (s.uhf.window = none → accessHears s = true → p.crcOk = true → ∃ t, exec (.uhfPacketReceived p) s = .next t ∧
      t = { s with uhf := { s.uhf with rxPackets := wrapAdd 32 s.uhf.rxPackets 1 } }) ∧
    (startable tk.val 0x0706 s = some w → ∃ t u, exec (.uhfDutyRead tk) s = .next t ∧
      Answered tk.val St.ok ((List.range 16).flatMap (fun b => leBytes 4 ((s.uhf.roll s.now).used b) ++
        leBytes 4 (bandDuty (bandAt s.uhf.charter b) * 1000) ++ leBytes 8 (tget s.uhf.lastEnd b))) u t ∧
      u = { s with uhf := s.uhf.roll s.now }) ∧
    (clearUntil ((s.uhf.minute + 1) * lsbOfS 60) s = true → ∃ t, exec .dutyBucketRoll s = .next t ∧
      t.now = (reach ((s.uhf.minute + 1) * lsbOfS 60) s).now ∧ t.uhf = s.uhf.roll t.now ∧
      t = { s with time := t.time, uhf := t.uhf })

/-! ### The Rangefinder -/

/-- Sessions (R252, R254–R259, R268, R269). The RESPONSE, each round and the REPORT are taken once, in this order; each round
keeps the earliest reply and whether its bit is the one expected; the verdict at its due time ends the session, counts it
and stands in the record of its slot. A TDC calibration that is due records its result with event 0x0803. -/
def Obligations.RangingSessions : Prop :=
  ∀ (rx : RangingRx) (round : FastRound) (rep : Option Bytes) (spans : Bool) (corr : Int) (s : State),
    (∀ x : Sess, s.range.session = some x →
      (x.ks ≠ none → x.response = none → ∃ t, exec (.rangingResponse rx) s = .next t ∧
        t = { s with range := { s.range with session := some { x with response := some (rx.stamped, rx.stamped && x.hears rx.sts) } } }) ∧
      (x.ks = none ∨ x.response ≠ none → ∃ t, exec (.rangingResponse rx) s = .next t ∧ t = s) ∧
      (x.response = some (true, true) → x.report = none →
        (x.rounds.length < 32 → earliestHit x round = none → ∃ t, exec (.fastExchangeRound round) s = .next t ∧
          t = { s with range := { s.range with session := some { x with rounds := x.rounds ++ [{}] } } }) ∧
        (∀ h, x.rounds.length < 32 → earliestHit x round = some h → ∃ t, exec (.fastExchangeRound round) s = .next t ∧
          t.range.session = some { x with
            rounds := x.rounds ++ [{ raw := some (hitRaw round.rem h : Int), port := h.port, bad := h.bit != expectedBit x x.rounds.length }] } ∧
          (h.port < 4 → tget t.range.earliest h.port = wrapAdd 32 (tget s.range.earliest h.port) 1) ∧
          t = { s with range := { s.range with session := t.range.session, earliest := t.range.earliest } }) ∧
        (∃ t, exec (.rangingReport rep) s = .next t ∧
          t = { s with range := { s.range with session := some { x with report := some rep } } })) ∧
      (x.response ≠ some (true, true) ∨ x.report ≠ none → (∃ t, exec (.fastExchangeRound round) s = .next t ∧ t = s) ∧
        ∃ t, exec (.rangingReport rep) s = .next t ∧ t = s) ∧
      (x.ks ≠ none → x.calib = false → x.slot < 16 → s.range.waiting = [] → s.range.calib = none →
        clearUntil (x.since + lsbOfUs (verdictDue x)) s = true → ∃ t, exec .rangingVerdict s = .next t ∧
          t.range.session = none ∧ t.range.sessions = wrapAdd 32 s.range.sessions 1 ∧
          (tget t.range.last x.slot).map (fun r => (r.verdict, r.cause, r.bound, r.stamp)) = some (verdictOf x, 0, x.bound, x.asked) ∧
          (verdictOf x = 0 → t.range.passes = wrapAdd 32 s.range.passes 1 ∧ t.range.suspicions = s.range.suspicions) ∧
          (verdictOf x ≠ 0 → t.range.passes = s.range.passes ∧ t.range.suspicions = wrapAdd 32 s.range.suspicions 1))) ∧
    (∀ (d : Nat) (ok : Bool), tdcTurn s = some d → clearUntil d s = true → s.range.calib = none → s.range.waiting = [] →
      ok = (spans && decide (corr.natAbs ≤ 2500)) → ∃ t, exec (.tdcCalibration spans corr) s = .next t ∧ t.range = { s.range with
          tdcOk := ok, tdcDue := false, lastTdc := t.now, tdcTemp := dieTemp s, tdcCorr := corr } ∧ t.now = (reach d s).now ∧
        Logged t.now 0x0803 0 0xFF (leBytes 1 (b1 (!ok)) ++ zeros 1 ++ leBytes 2 (unsext 16 (dieTemp s)) ++
          leBytes 4 (unsext 32 corr)) s t ∧ t = { withEvents s t with time := t.time, range := t.range })

/-- Port calibration and cable mode (R260, R262–R268). RANGE.PORT_CALIBRATE checks its token and its port and then runs
alone; RANGE.CABLE takes its place or gives its tile the status of R263; a segment adds its points, and the last one
completes the run, CABLE_NOISY when more than 10 % of the launches were taken again; a run whose first segment does not come
by its deadline is TIMEOUT. The reads answer the last session of a slot and the last trace of a port. -/
def Obligations.PortCalibrationAndCable : Prop :=
  ∀ (tk : Fin 128) (rx : CableRx) (s : State) (w : Work),
    (startable tk.val 0x0803 s = some w → s.range.calib.all (fun c => c.ticket != tk.val) = true →
      let n := w.req.node - 0x88
      let slot := u8At w.req.payload 0
      (16 ≤ slot ∨ (tget s.access.slots slot).state ≠ 1 → ∃ t, exec (.rangePortCalibrate tk) s = .next t ∧
        Answered tk.val St.badArg [] s t) ∧
      (slot < 16 → (tget s.access.slots slot).state = 1 →
        (s.nat 8 3 n = 0 → ∃ t, exec (.rangePortCalibrate tk) s = .next t ∧
          Answered tk.val St.rangePortDisabled (calibReply 0 0 0 s) s t) ∧
        (s.nat 8 3 n ≠ 0 → s.range.calib ≠ none → ∃ t, exec (.rangePortCalibrate tk) s = .next t ∧ t = s) ∧
        (s.nat 8 3 n ≠ 0 → s.range.calib = none → s.range.waiting = [] → ∃ t, exec (.rangePortCalibrate tk) s = .next t ∧
          t.range = { s.range with calib := some { ticket := tk.val, port := n, slot, tdcOnly := (u8At w.req.payload 1).testBit 0,
                                                   distance := u32At w.req.payload 4 } } ∧
          (t.ticket tk.val).state = .running ∧ t = { s with sheet := t.sheet, range := t.range }))) ∧
    (startable tk.val 0x0804 s = some w →
      (∀ r, tget s.range.last (u8At w.req.payload 0) = some r → ∃ t, exec (.rangeSessionRead tk) s = .next t ∧
        Answered tk.val St.ok (sessionData (u8At w.req.payload 0) r) s t) ∧
      (tget s.range.last (u8At w.req.payload 0) = none → ∃ t, exec (.rangeSessionRead tk) s = .next t ∧
        Answered tk.val St.rangeNoRecord [] s t)) ∧
    (startable tk.val 0x0811 s = some w →
      (∀ x : Nat × List Int, tget s.range.traces (u8At w.req.payload 0 - 18) = some x →
        ∃ t, exec (.rangeCableTraceRead tk) s = .next t ∧ Answered tk.val St.ok (leBytes 8 x.1 ++
          ((x.2.drop (u16At w.req.payload 2)).take (u16At w.req.payload 4)).flatMap (fun v => leBytes 2 (unsext 16 v))) s t) ∧
      (tget s.range.traces (u8At w.req.payload 0 - 18) = none → ∃ t, exec (.rangeCableTraceRead tk) s = .next t ∧
        Answered tk.val St.rangeNoRecord [] s t)) ∧
    (∀ n : Nat, startable tk.val 0x0810 s = some w → s.range.cables = [] → w.walkTileNodes = [n] →
      let force := (u8At w.req.payload 0).testBit 0
      (cableRefusal force (cablePort n) s = none → ∃ t, exec (.rangeCable tk) s = .next t ∧
        t = { s with range := { s.range with cables := [{
          ticket := tk.val, force, reference := (u8At w.req.payload 0).testBit 1
          latest := w.accept + lsbOfUs (if w.req.deadline = 0 then 5000000 else w.req.deadline), tiles := [n] }] } }) ∧
      (∀ (x : WalkItem) (st : Nat), w.walk = [x] → x.kind = 0 → x.node = n → w.results = [] →
        cableRefusal force (cablePort n) s = some st → ∃ t, exec (.rangeCable tk) s = .next t ∧ t.range.cables = [] ∧
          (t.ticket tk.val).state = .completed ∧ (t.ticket tk.val).status = st ∧ t.sw = s.sw)) ∧
    (∀ (x : CableRun) (node : Nat), s.range.cables = [x] → x.begun = true → x.held = true → x.tiles = [node] →
      cableTurn s = true → s.range.tdcOk = true →
      (x.samples.length + min 31 rx.samples.length < 2200 → ∃ t, exec (.cableSegment rx) s = .next t ∧
        t = { s with range := { s.range with cables := [{ x with
          samples := x.samples ++ rx.samples.take 31, retaken := x.retaken + rx.retaken }] } }) ∧
      (∀ y : WalkItem, x.samples.length + min 31 rx.samples.length = 2200 → s.range.calib = none → x.ticket = tk.val →
        s.work tk.val = some w → w.walk = [y] → y.kind = 0 → y.node = node → w.results = [] →
        ∃ t, exec (.cableSegment rx) s = .next t ∧ t.range.cables = [] ∧ t.range.cableRuns = wrapAdd 32 s.range.cableRuns 1 ∧
          (t.ticket tk.val).state = .completed ∧
          (t.ticket tk.val).status = (if 14080 < x.retaken + rx.retaken then St.cableNoisy else St.ok))) ∧
    (∀ (c : CableRun) (y : WalkItem), s.range.cables.find? (fun c => c.ticket == tk.val && !c.begun) = some c →
      clearUntil c.latest s = true → s.work tk.val = some w → w.walk = [y] → y.kind = 0 → c.tiles = [y.node] → w.results = [] →
      ∃ t, exec (.rangeCableDeadline tk) s = .next t ∧ t.now = (reach c.latest s).now ∧
        (t.ticket tk.val).state = .completed ∧ (t.ticket tk.val).status = St.timeout)

/-! ### The frame switch -/

/-- A frame on a CAN or T1 port that is up (R309, R314, R317–R319, R330, R333, R341, R342): one that fails its medium's checks
counts in RX_ERROR; one that no entry matches ends as NO_ROUTE, one without cells as NO_CELLS with event 0x0A03; else it is
stored and its copy queued. A PAUSE is never classified and stops the egress for its time. A port that is not up, or whose
controller is in bus-off, receives nothing. -/
def Obligations.FramesEnterTheSwitch : Prop :=
  ∀ (port : Fin 28) (f : RxFrame) (s : State),
    ((s.port port.val).state ≠ .up ∨ (isCan port.val || isT1 port.val) = false → ∃ t, exec (.frameReceived port f) s = .next t ∧
      t = s) ∧
    ((s.port port.val).busOff = true → ∃ t, exec (.frameReceived port f) s = .next t ∧ t = s) ∧
    ((s.port port.val).state = .up → (isCan port.val || isT1 port.val) = true → (s.port port.val).busOff = false →
      clearUntil f.lookup s = true →
      let n := port.val
      let v := reach f.lookup s
      let tag := tagOf v.quality (0x60 + n) (tget s.ev.seqs (0x60 + n))
      let c := (tableAt v f.lookup).1
      let key := classKey f.kind n f.bytes (c.nat 10 11 n)
      let e := lookup c key
      let good := f.ok = true ∧ rxFits s n f = true ∧ formOk f.kind f.bytes = true
      (¬ good → ∃ t, exec (.frameReceived port f) s = .next t ∧ t.sw.frames = s.sw.frames ∧
        tget (t.port n).counters 7 = wrapAdd 32 (tget (s.port n).counters 7) 1 ∧
        (∀ k, k ≠ n → t.port k = s.port k) ∧ t = { s with time := t.time, sw := t.sw }) ∧
      (∀ p : Nat, good → pauseTime n f = some p → ∃ t, exec (.frameReceived port f) s = .next t ∧
        (t.port n).pauseUntil = (if p = 0 then none else some (v.now + pauseLsb n p)) ∧
        tget (t.port n).counters 13 = wrapAdd 32 (tget (s.port n).counters 13) 1 ∧
        (∀ k, k ≠ n → t.port k = s.port k) ∧ t = { s with time := t.time, sw := t.sw }) ∧
      (good → pauseTime n f = none → egressOf c n e = [] → ∃ t, exec (.frameReceived port f) s = .next t ∧ t.sw.frames = s.sw.frames ∧
        tget (t.port n).counters 0 = wrapAdd 32 (tget (s.port n).counters 0) 1 ∧
        tget (t.port n).counters 1 = wrapAdd 32 (tget (s.port n).counters 1) f.bytes.length ∧
        (e = none → c.nat 10 13 n = 0 → tget (t.port n).counters 4 = wrapAdd 32 (tget (s.port n).counters 4) 1) ∧
        t = { s with time := t.time, ev := t.ev, sw := t.sw, power := t.power }) ∧
      (good → pauseTime n f = none → egressOf c n e ≠ [] → admission s c n (cellsOf f.bytes.length) false = none →
        ∃ t, exec (.frameReceived port f) s = .next t ∧ t.sw.frames = s.sw.frames ∧
          tget (t.port n).counters 5 = wrapAdd 32 (tget (s.port n).counters 5) 1 ∧
          Logged f.stamp 0x0A03 (0x30 + n) 0xFF (leBytes 1 n ++ leBytes 1 f.kind ++ leBytes 1 (if isCan n then 0 else 1) ++
            zeros 1 ++ slice key 1 8) s t) ∧
      (∀ (pool : Pool) (q k : Nat), good → pauseTime n f = none → egressOf c n e = [(q, k)] → q ≠ 25 →
        admission s c n (cellsOf f.bytes.length) false = some pool → (s.port q).state = .up →
        let g : SwFrame := {
          stamp := f.stamp, tag, kind := f.kind, port := n, gen := (tableAt v f.lookup).2, bytes := f.bytes
          tr := (e.map (transformOf (tableAt v f.lookup).1)).getD {}, pool, cells := cellsOf f.bytes.length
          age := f.stamp + lsbOfMs (c.nat 10 16) }
        blockedId s g q = none → formCopy s g q ≠ none → ∃ t, exec (.frameReceived port f) s = .next t ∧
          t.sw.frames = s.sw.frames ++ [{ g with copies := [{ port := q, queue := k }] }] ∧
          tget (t.port n).counters 0 = wrapAdd 32 (tget (s.port n).counters 0) 1))

/-- Copies end (R320, R323, R324, R326, R327, R333, R335–R337, R341, R342). A port that may send puts the head of its queue
on its medium in its form and counts it: a CAN port sends it, a LIN port takes it into its publish buffer, P27 hands a record
to the host. Copies past their hold end HELD_OUT and past MAX_RESIDENCY AGED. A TX record of P27 is taken once, at a scan
every 50 µs, a cipher-loop job ends with its result or event 0x0A08, and a generation retires with its last copy or at its bound. -/
def Obligations.CopiesLeaveTheSwitch : Prop :=
  ∀ (port : Fin 28) (s : State),
    (∀ (g : SwFrame) (c : Copy) (ms : List (Nat × Bytes)) (k : Nat), maySend s port.val = true →
      (s.port port.val).pauseUntil = none → headCopy s port.val = some (g, c) → g.built = 0 →
      formCopy s g port.val = some (ms, k) →
      (isCan port.val = true → ∃ t, exec (.copySent port) s = .next t ∧ (t.port port.val).sent = ms.map (·.2) ∧
        (t.port port.val).tec = (s.port port.val).tec - 1 ∧
        tget (t.port port.val).counters 2 = wrapAdd 32 (tget (s.port port.val).counters 2) ms.length ∧
        (∀ x ∈ t.sw.frames, x.stamp = g.stamp → x.tag = g.tag → ∀ d ∈ x.copies, d.port ≠ port.val) ∧ t.access = s.access) ∧
      (isLin port.val = true → ∃ t, exec (.copySent port) s = .next t ∧
        assoc (t.port port.val).publish (g.tr.newId % 64) = some ((ms.map (·.2)).headD [], true) ∧
        (∀ x ∈ t.sw.frames, x.stamp = g.stamp → x.tag = g.tag → ∀ d ∈ x.copies, d.port ≠ port.val) ∧ t.access = s.access) ∧
      (port.val = 27 → HostOk s → s.sw.p27Next ≤ 1 → ∃ t, exec (.copySent port) s = .next t ∧
        t.sw.p27Seq = wrapAdd 64 s.sw.p27Seq 1 ∧ t.sw.p27Next = 1 - s.sw.p27Next ∧
        Memory.read t.host.window (0xD400 + s.sw.p27Next * 0x800) = 1)) ∧
    (maySend s port.val = false → ∃ t, exec (.copySent port) s = .next t ∧ t = s) ∧
    (∀ h : Nat, ((s.sw.frames.map (fun f => f.copies.filterMap (fun c =>
        if c.port = port.val ∧ c.taken = false then c.hold else none))).flatten).min? = some h → clearUntil h s = true →
      ∃ t, exec (.heldOut port) s = .next t ∧ t.now = (reach h s).now ∧
        (∀ g ∈ t.sw.frames, ∀ c ∈ g.copies, c.port = port.val → c.taken = false → ∀ x, c.hold = some x → t.now < x) ∧
        (∀ k, k ≠ 0 → copiesOf s port.val (fun _ c => !c.taken && c.hold.any (fun x => decide (x ≤ (reach h s).now))) = k →
          tget (t.port port.val).counters 10 = wrapAdd 32 (tget (s.port port.val).counters 10) k)) ∧
    (∀ a : Nat, (s.sw.frames.filterMap (fun f =>
        if f.copies.any (fun c => c.port == port.val && !c.taken) then some f.age else none)).min? = some a →
      clearUntil a s = true → ∃ t, exec (.aged port) s = .next t ∧ t.now = (reach a s).now ∧
        (∀ g ∈ t.sw.frames, g.age ≤ t.now → ∀ c ∈ g.copies, c.port = port.val → c.taken = true) ∧
        (∀ k, k ≠ 0 → copiesOf s port.val (fun f c => !c.taken && decide (f.age ≤ (reach a s).now)) = k →
          tget (t.port port.val).counters 9 = wrapAdd 32 (tget (s.port port.val).counters 9) k)) ∧
    (s.eave.depth ≤ 1 → s.powered 8 = true → (s.port 27).state = .up → HostOk s → clearUntil s.sw.scanAt s = true →
      let v := reach s.sw.scanAt s
      (Memory.read s.host.window 0xC400 ≠ 1 → Memory.read s.host.window 0xCC00 ≠ 1 → ∃ t, exec .p27TxScan s = .next t ∧
        t = { v with sw := { s.sw with scanAt := v.now + lsbOfUs 50 } }) ∧
      (Memory.read s.host.window 0xC400 = 1 → Memory.read s.host.window 0xCC00 ≠ 1 → (s.port 27).held = false →
        (txVerdict (Memory.readBytes s.host.window 0xC410 2032)).2 = none → ∃ t, exec .p27TxScan s = .next t ∧
          Memory.read t.host.window 0xC400 = 0 ∧
          Memory.read t.host.window 0xC401 = BitVec.ofNat 8 (txVerdict (Memory.readBytes s.host.window 0xC410 2032)).1 ∧
          (∀ x, x ≠ 0xC400 → x ≠ 0xC401 → Memory.read t.host.window x = Memory.read s.host.window x) ∧
          tget (t.port 27).counters 7 = wrapAdd 32 (tget (s.port 27).counters 7) 1 ∧ t.sw.frames = s.sw.frames ∧
          t.sw.scanAt = v.now + lsbOfUs 50 ∧ t = { v with host := t.host, sw := t.sw })) ∧
    (loopFrame s = none ∨ (s.port 26).held = true ∨
        (s.cipherUp = false ∧ s.ciph.off = false ∧ s.grain.state ≠ .latched ∧ tget s.ciph.ctx 3 ≠ none) →
      ∃ t, exec .cipherLoopResult s = .next t ∧ t = s) ∧
    (∀ g : SwFrame, loopFrame s = some g → (s.port 26).held = false →
      (tget s.ciph.ctx 3 = none ∨ s.cipherUp = false ∧ (s.ciph.off = true ∨ s.grain.state = .latched) →
        ∃ t, exec .cipherLoopResult s = .next t ∧ tget t.ciph.ctx 3 = none ∧
        tget (t.port 26).counters 6 = wrapAdd 32 (tget (s.port 26).counters 6) 1 ∧ t.sw.loops = s.sw.loops ∧
        Logged s.now 0x0A08 0x4A 0xFF (leBytes 1 (u8At g.tr.entry 37 % 8) ++ leBytes 1 2 ++ zeros 2 ++
          leBytes 4 (u32At g.bytes 0)) s t)) ∧
    (∀ g : SwFrame, loopFrame s = some g → (s.port 26).held = false → s.cipherUp = true → tget s.ciph.ctx 3 ≠ none →
      (∀ c : Nat, loopJob s g = .failed c → ∃ t, exec .cipherLoopResult s = .next t ∧ tget t.ciph.ctx 3 = none ∧
        tget (t.port 26).counters 6 = wrapAdd 32 (tget (s.port 26).counters 6) 1 ∧ t.sw.loops = s.sw.loops ∧
        Logged s.now 0x0A08 0x4A 0xFF (leBytes 1 (u8At g.tr.entry 37 % 8) ++ leBytes 1 c ++ zeros 2 ++
          leBytes 4 (u32At g.bytes 0)) s t) ∧
      (∀ d : Bytes, loopJob s g = .ok d → ∃ t, exec .cipherLoopResult s = .next t ∧ tget t.ciph.ctx 3 = none ∧
        (g.tr.loop_.1 = 0 → (tget t.sw.loops (u8At g.tr.entry 37 % 8)).fresh =
          (tget s.sw.loops (u8At g.tr.entry 37 % 8)).fresh + 1))) ∧
    (∀ r : Retiring, s.sw.retiring = some r →
      (framesOfGen s r.gen = 0 → ∃ t, exec .generationRetire s = .next t ∧ t.sw = { s.sw with retiring := none } ∧
        Logged s.now 0x0A02 0 0xFF (leBytes 1 1 ++ zeros 3 ++ leBytes 4 r.gen) s t ∧ t = { withEvents s t with sw := t.sw }) ∧
      (framesOfGen s r.gen ≠ 0 → clearUntil r.bound s = true → ∃ t, exec .generationRetire s = .next t ∧
        t.sw = { s.sw with retiring := none } ∧ t.now = (reach r.bound s).now ∧
        Logged t.now 0x0A02 0 0xFF (leBytes 1 1 ++ zeros 3 ++ leBytes 4 r.gen) s t ∧
        t = { withEvents s t with time := t.time, sw := t.sw }))

/-- Ports and their media (R309, R310, R313, R326, R327, R331, R338, R341, R342). A lost T1 link takes the port down with
every copy queued for it; a port that may comes up; bus-off and its recovery, errors and lost arbitration, PAUSE times and
their repetition, and LIN slots act on the port's own state and counters: the transmit error counter rises by 8 at an error
and above 255 the controller is in bus-off, and a LIN response is taken with the checksum of its frame (log entry 207 names
these standards' rules); the audit returns cells suspect twice. -/
def Obligations.PortsFollowTheirMedia : Prop :=
  ∀ (port : Fin 28) (error : Bool) (time : BitVec 16) (resp : Option Bytes) (tk : Fin 128) (s : State) (w : Work),
    let n := port.val
    (isT1 n = true → (s.port n).state = .up →
      (∃ t, exec (.portDown port) s = .next t ∧ (t.port n).state = (if portDisabled s n then .disabled else .down) ∧
        (t.port n).cause = 1 ∧ (∀ g ∈ t.sw.frames, ∀ c ∈ g.copies, c.port ≠ n)) ∧
      (∃ t, exec (.pauseReceived port time) s = .next t ∧
        (t.port n).pauseUntil = (if time = 0 then none else some (s.now + pauseLsb n time.toNat)) ∧
        tget (t.port n).counters 13 = wrapAdd 32 (tget (s.port n).counters 13) 1 ∧
        (∀ k, k ≠ n → t.port k = s.port k) ∧ t = { s with sw := t.sw }) ∧
      ((s.port n).held = true → clearUntil ((s.port n).pauseSent + lsbOfMs (if n < 22 then 100 else 10)) s = true →
        ∃ t, exec (.pauseRepeat port) s = .next t ∧ (t.port n).pauseSent = t.now ∧
          t.now = (reach ((s.port n).pauseSent + lsbOfMs (if n < 22 then 100 else 10)) s).now ∧
          tget (t.port n).counters 12 = wrapAdd 32 (tget (s.port n).counters 12) 1 ∧
          (∀ k, k ≠ n → t.port k = s.port k) ∧ t = { s with time := t.time, sw := t.sw })) ∧
    (isT1 n = false ∨ (s.port n).state ≠ .up → (∃ t, exec (.portDown port) s = .next t ∧ t = s) ∧
      ∃ t, exec (.pauseReceived port time) s = .next t ∧ t = s) ∧
    (∀ e : Nat, (s.port n).pauseUntil = some e → clearUntil e s = true → ∃ t, exec (.pauseExpire port) s = .next t ∧
      t.port n = { s.port n with pauseUntil := none } ∧ (∀ k, k ≠ n → t.port k = s.port k) ∧
      t = { s with time := t.time, sw := t.sw }) ∧
    (mayComeUp s n = true → ∃ t, exec (.portUp port) s = .next t ∧ (t.port n).state = .up ∧ (t.port n).upSince = s.now ∧
      (s.access.outbox = [] → (∀ k, k ≠ n → t.port k = s.port k) ∧
        Logged s.now 0x0A01 (0x30 + n) 0xFF (leBytes 1 n ++ leBytes 1 2 ++ leBytes 1 (if isT1 n then 2 else (s.port n).cause)) s t ∧
        t = { withEvents s t with sw := t.sw }) ∧
      (∀ x ∈ t.access.outbox, x ∈ s.access.outbox ∧ x.port ≠ n)) ∧
    (mayComeUp s n = false → ∃ t, exec (.portUp port) s = .next t ∧ t = s) ∧
    (isCan n = true → (s.port n).state = .up → (s.port n).busOff = false → 255 < (s.port n).tec + 8 →
      ∃ t, exec (.canBusOff port) s = .next t ∧ (t.port n).busOff = true ∧ tget (t.port n).counters 14 = wrapAdd 32 (tget (s.port n).counters 14) 1 ∧
      (∀ k, k ≠ n → t.port k = s.port k) ∧ t.sw.frames = s.sw.frames ∧
      Logged s.now 0x0A01 (0x30 + n) 0xFF (leBytes 1 n ++ leBytes 1 3 ++ leBytes 1 3) s t ∧ t = { withEvents s t with sw := t.sw }) ∧
    ((s.port n).busOff = true → ∃ t, exec (.canBusOffRecovered port) s = .next t ∧
      t.port n = { s.port n with busOff := false, tec := 0, recErr := 0 } ∧ (∀ k, k ≠ n → t.port k = s.port k) ∧
      Logged s.now 0x0A01 (0x30 + n) 0xFF (leBytes 1 n ++ leBytes 1 2 ++ leBytes 1 4) s t ∧ t = { withEvents s t with sw := t.sw }) ∧
    ((s.port n).tec + 8 ≤ 255 → ∃ t, exec (.canBusOff port) s = .next t ∧ t = s) ∧
    (isCan n = true → maySend s n = true → headCopy s n ≠ none → ∃ t, exec (.canAttemptLost port error) s = .next t ∧
      (error = true → (s.port n).tec + 8 ≤ 255 → (t.port n).tec = (s.port n).tec + 8 ∧ (t.port n).busOff = false ∧
        tget (t.port n).counters 14 = tget (s.port n).counters 14) ∧
      (error = true → 255 < (s.port n).tec + 8 → (t.port n).busOff = true ∧
        tget (t.port n).counters 14 = wrapAdd 32 (tget (s.port n).counters 14) 1) ∧
      (error = true → tget (t.port n).counters 15 = tget (s.port n).counters 15) ∧
      (error = false → (t.port n).tec = (s.port n).tec ∧
        tget (t.port n).counters 15 = wrapAdd 32 (tget (s.port n).counters 15) 1)) ∧
    (isLin n = true → (s.port n).state = .up → clearUntil (s.port n).slotAt s = true →
      let v := reach (s.port n).slotAt s
      let sched := (s.conf.object (objectId 10 0xF1 n)).getD []
      let i := (s.port n).slot
      let fid := u8At sched (4 + 4 * i)
      (s.port n).sched = sched → (s.port n).awaiting = none → u8At sched 0 ≠ 0 →
        ∃ t, exec (.linSlot port) s = .next t ∧ (t.port n).slot = (i + 1) % u8At sched 0 ∧
          (t.port n).slotAt = v.now + lsbOfMs (u8At sched (7 + 4 * i)) ∧
          (u8At sched (5 + 4 * i) % 2 = 0 → (s.port n).held = false →
            (t.port n).sent = [linHeader fid] ∧ (t.port n).awaiting = some i) ∧
          (∀ (d : Bytes) (b : Bool), u8At sched (5 + 4 * i) % 2 = 1 → assoc (s.port n).publish fid = some (d, b) →
            (t.port n).sent = [linHeader fid ++ d ++ linChecksum ((u8At sched (5 + 4 * i)).testBit 1) fid d]) ∧
          (∀ k, k ≠ n → t.port k = s.port k) ∧ t = { s with time := t.time, sw := t.sw }) ∧
    ((s.port n).awaiting = none → ∃ t, exec (.linResponseReceived port resp) s = .next t ∧ t = s) ∧
    (∀ i : Nat, (s.port n).awaiting = some i →
      (resp = none → ∃ t, exec (.linResponseReceived port resp) s = .next t ∧ (t.port n).awaiting = none ∧
        tget (t.port n).counters 7 = wrapAdd 32 (tget (s.port n).counters 7) 1 ∧ t = { s with sw := t.sw }) ∧
      (let sched := (s.port n).sched
       let sum (d : Bytes) : Bytes := linChecksum ((u8At sched (5 + 4 * i)).testBit 1) (u8At sched (4 + 4 * i)) d
       (∀ b : Bytes, resp = some b → b ≠ b.take (u8At sched (6 + 4 * i)) ++ sum (b.take (u8At sched (6 + 4 * i))) →
        ∃ t, exec (.linResponseReceived port resp) s = .next t ∧ (t.port n).awaiting = none ∧
          tget (t.port n).counters 7 = wrapAdd 32 (tget (s.port n).counters 7) 1 ∧ t = { s with sw := t.sw }) ∧
       ∀ d : Bytes, resp = some (d ++ sum d) → d.length = u8At sched (6 + 4 * i) → (s.port n).state = .up →
        ∃ t, exec (.linResponseReceived port resp) s = .next t ∧ (t.port n).awaiting = none ∧
          tget (t.port n).counters 0 = wrapAdd 32 (tget (s.port n).counters 0) 1)) ∧
    (s.nat 10 19 ≠ 0 → s.powered 8 = true → clearUntil (s.sw.lastAudit + lsbOfS (s.nat 10 19)) s = true →
      ∃ t, exec .auditPass s = .next t ∧ t.now = (reach (s.sw.lastAudit + lsbOfS (s.nat 10 19)) s).now ∧
        t.sw.lost = s.sw.lost - min s.sw.suspect s.sw.lost ∧ t.sw.suspect = t.sw.lost ∧ t.sw.lastAudit = t.now ∧
        t.sw.frames = s.sw.frames ∧ t = { withEvents s t with time := t.time, sw := t.sw }) ∧
    (startable tk.val 0x0A08 s = some w → ∃ t u, exec (.switchAudit tk) s = .next t ∧
      Answered tk.val St.ok (leBytes 2 (16384 - (s.sw.frames.map (·.cells)).sum - u.sw.lost) ++
        leBytes 2 (s.sw.frames.map (·.cells)).sum ++ leBytes 2 u.sw.suspect ++ leBytes 2 (min s.sw.suspect s.sw.lost) ++
        leBytes 8 s.now) u t ∧ u.sw.lost = s.sw.lost - min s.sw.suspect s.sw.lost ∧ u.sw.lastAudit = s.now ∧
      u.sw.frames = s.sw.frames ∧ u = { withEvents s u with sw := u.sw })

/-! ### The cipher engine and Grain -/

/-- Jobs (R355–R360, R362–R365, R369). A CIPHER.JOB is refused by the first check that fails, waits for a context, or binds
the version in force in a free one, and an encryption under a counter consumes its value; when its blocks are through it
delivers the whole result, or a mismatch with zeroed output; a block that fails its check ends the job, and too many latch
the engine off. -/
def Obligations.CipherJobs : Prop :=
  ∀ (tk : Fin 128) (ctx : Fin 8) (kind block : Nat) (s : State) (w : Work),
    (startable tk.val 0x0B10 s = some w →
      let n := w.req.node - 0x90
      let p := w.req.payload
      (s.ciph.off = true ∨ (s.kslot n).shadow = none →
        (∀ st, jobRefusal n p s = some st → ∃ t, exec (.cipherJob tk) s = .next t ∧ Answered tk.val st [] s t) ∧
        (jobRefusal n p s = none → freeCtx s = [] → ∃ t, exec (.cipherJob tk) s = .next t ∧ jobWait t tk.val = 2 ∧
          (t.ticket tk.val).state = .running ∧ t.ciph = s.ciph) ∧
        (∀ (c : Nat) (cs : List Nat), jobRefusal n p s = none → freeCtx s = c :: cs → queuedBefore tk.val w s = false →
          (opNonce (u8At p 0) = false → ¬ (u8At p 0 = 1 ∧ u8At p 2 % 2 = 1) → ∃ t, exec (.cipherJob tk) s = .next t ∧
            tget t.ciph.ctx c = some { ticket := some tk.val, slot := n, ver := (s.kslot n).ver.getD {}, iv := slice p 8 16 } ∧
            (t.ticket tk.val).state = .running ∧ t.ciph.slots = s.ciph.slots ∧
            (∀ k, k ≠ c → tget t.ciph.ctx k = tget s.ciph.ctx k)) ∧
          (∀ v : KeyVer, opNonce (u8At p 0) = true → (s.kslot n).ver = some v →
            (s.kslot n).nonceNext < (s.kslot n).reserved → ∃ t, exec (.cipherJob tk) s = .next t ∧
              tget t.ciph.ctx c = some { ticket := some tk.val, slot := n, ver := v,
                                         iv := hostNonce v.gen (s.kslot n).nonceNext ++ zeros 4 } ∧
              ((s.kslot n).nonceNext ≠ 0xFFFFFFFF → (t.kslot n).nonceNext = (s.kslot n).nonceNext + 1) ∧
              ((s.kslot n).nonceNext = 0xFFFFFFFF → (t.kslot n).exhausted = true) ∧
              (t.ticket tk.val).state = .running)))) ∧
    (∀ j : CJob, tget s.ciph.ctx ctx.val = some j → s.cipherUp = true → j.ivWait = false → j.slot < 64 →
      j.ticket = some tk.val → s.work tk.val = some w →
      (let p := w.req.payload
       let op := u8At p 0
       let a := jobCompute op j.ver.key j.iv (slice p 40 (u16At p 4)) (slice p (40 + u16At p 4) (u16At p 6)) (slice p 24 16)
         (u8At p 1)
       let iv := if op = 9 ∨ op = 10 then [] else j.iv
       ∃ t u, exec (.cipherJobComplete ctx) s = .next t ∧
         (a.2.2 = true → Answered tk.val St.ok (jobReply (if op = 6 ∨ op = 8 ∨ op = 10 then 1 else 0) ctx.val j.ver.gen iv
           a.2.1 a.1) u t) ∧
         (a.2.2 = false → Answered tk.val St.cipherTagMismatch (jobReply 2 ctx.val j.ver.gen iv [] (zeros a.1.length)) u t) ∧
         tget u.ciph.ctx ctx.val = none ∧ u.ciph.jobs = wrapAdd 32 s.ciph.jobs 1 ∧ u.ciph.slots = s.ciph.slots ∧
         u = { s with ciph := u.ciph }) ∧
      (∃ t, exec (.checkMismatch ctx kind block) s = .next t ∧ tget t.ciph.ctx ctx.val = none ∧
        t.ciph.mismatches = satAdd 0xFFFFFFFF s.ciph.mismatches 1 ∧ (t.ticket tk.val).state = .completed ∧
        (t.ticket tk.val).status = St.cipherFault ∧
        ((recentMismatches s).length + 1 < s.nat 11 1 → t.ciph.off = s.ciph.off ∧
          ∀ k, k ≠ ctx.val → tget t.ciph.ctx k = tget s.ciph.ctx k) ∧
        (s.nat 11 1 ≤ (recentMismatches s).length + 1 → t.ciph.off = true) ∧
        Logged s.now 0x0B05 (0x90 + j.slot) tk.val (leBytes 1 ctx.val ++ leBytes 1 j.slot ++ leBytes 1 kind ++ zeros 1 ++
          leBytes 4 block) s t))

/-- Key slots (R347, R348, R350–R353, R356, R368, R369). Loads and generations are refused for a held, a bound slot and an
engine that is off; a load whose key unwraps and a generation with its word give the slot a shadow under the next KEY_GEN; an
erase takes version, shadow and jobs away and writes the erased record; a shadow whose record is written lands once no job
holds the old version, with NONCE_NEXT 0, and its command completes. -/
def Obligations.KeySlotsChange : Prop :=
  ∀ (tk : Fin 128) (n : Fin 64) (s : State) (w : Work),
    (startable tk.val 0x0B03 s = some w → w.req.node = 0x90 + n.val →
      let kek := u8At w.req.payload 1
      (slotHeld n.val = true → ∃ t, exec (.cipherKeyLoad tk) s = .next t ∧ Answered tk.val St.keySlotHeld [] s t) ∧
      (slotHeld n.val = false → keyBoundFor n.val s = true → ∃ t, exec (.cipherKeyLoad tk) s = .next t ∧
        Answered tk.val St.keyBound [] s t) ∧
      (slotHeld n.val = false → keyBoundFor n.val s = false →
        (s.ciph.off = true → ∃ t, exec (.cipherKeyLoad tk) s = .next t ∧ Answered tk.val St.engineOff [] s t) ∧
        (s.ciph.off = false → (s.kslot kek).shadow ≠ none → ∃ t, exec (.cipherKeyLoad tk) s = .next t ∧ t = s) ∧
        (s.ciph.off = false → (s.kslot kek).shadow = none → (s.kslot kek).ver = none →
          ∃ t, exec (.cipherKeyLoad tk) s = .next t ∧ Answered tk.val St.keyEmpty [] s t) ∧
        (∀ v : KeyVer, (s.kslot kek).shadow = none → (s.kslot kek).ver = some v → s.grain.state ≠ .latched →
          s.cipherUp = true → freeCtx s ≠ [] →
          (v.usage.testBit 4 = false → ∃ t, exec (.cipherKeyLoad tk) s = .next t ∧
            Answered tk.val St.cipherUnwrapFail [] s t) ∧
          (∀ st, v.usage.testBit 4 = true → unwrapLoad w.req.payload v.key = .error st →
            ∃ t, exec (.cipherKeyLoad tk) s = .next t ∧ Answered tk.val st [] s t) ∧
          (∀ x : KeyVer, v.usage.testBit 4 = true → unwrapLoad w.req.payload v.key = .ok x →
            s.store.nextSeq (0x40 + n.val) ≤ 0xFFFFFF → ∃ t, exec (.cipherKeyLoad tk) s = .next t ∧ (t.ticket tk.val).state = .running ∧
              t.kslot n.val = { s.kslot n.val with
                shadow := some { ver := { x with gen := (s.kslot n.val).lastGen + 1 }, path := u8At w.req.payload 0 }
                lastGen := (s.kslot n.val).lastGen + 1 } ∧
              (∀ k, k ≠ n.val → t.kslot k = s.kslot k) ∧
              Recorded (0x40 + n.val) (slotRecord { x with gen := (s.kslot n.val).lastGen + 1 }) s t)))) ∧
    (startable tk.val 0x0B04 s = some w → w.req.node = 0x90 + n.val →
      (slotHeld n.val = true → ∃ t, exec (.cipherKeyGenerate tk) s = .next t ∧ Answered tk.val St.keySlotHeld [] s t) ∧
      (slotHeld n.val = false → keyBoundFor n.val s = true → ∃ t, exec (.cipherKeyGenerate tk) s = .next t ∧
        Answered tk.val St.keyBound [] s t) ∧
      (slotHeld n.val = false → keyBoundFor n.val s = false →
        (s.ciph.off = true → ∃ t, exec (.cipherKeyGenerate tk) s = .next t ∧ Answered tk.val St.engineOff [] s t) ∧
        (s.ciph.off = false → s.grain.state = .latched → ∃ t, exec (.cipherKeyGenerate tk) s = .next t ∧
          Answered tk.val St.entropyFail [] s t) ∧
        (∀ (c : Nat) (cs : List Nat), s.ciph.off = false → s.grain.state ≠ .latched → freeCtx s = c :: cs →
          ∃ t, exec (.cipherKeyGenerate tk) s = .next t ∧ t.grain = { s.grain with wires := s.grain.wires ++ [.key tk.val] } ∧
            (tget t.ciph.ctx c).map (·.ticket) = some (some tk.val) ∧ (t.ticket tk.val).state = .running ∧
            t.ciph.slots = s.ciph.slots ∧ t = { s with sheet := t.sheet, ciph := t.ciph, grain := t.grain }))) ∧
    (startable tk.val 0x0B05 s = some w → commandTiles w = [0x90 + n.val] →
      (slotHeld n.val = true → ∃ t, exec (.cipherKeyErase tk) s = .next t ∧
        TilesAnswered tk.val w.walk [{ node := 0x90 + n.val, status := St.keySlotHeld }] s t) ∧
      (slotHeld n.val = false → ((s.kslot n.val).ver.map (·.eraseWorkshop)).getD false = false ∨ s.power.mode = .workshop →
        (keyBoundFor n.val s = true → ∃ t, exec (.cipherKeyErase tk) s = .next t ∧
          TilesAnswered tk.val w.walk [{ node := 0x90 + n.val, status := St.keyBound }] s t) ∧
        (keyBoundFor n.val s = false → s.store.nextSeq (0x40 + n.val) ≤ 0xFFFFFF →
          ∃ t, exec (.cipherKeyErase tk) s = .next t ∧ (t.kslot n.val).ver = none ∧
          (t.kslot n.val).shadow = none ∧ (t.kslot n.val).lastGen = (s.kslot n.val).lastGen ∧
          (∀ k, k ≠ n.val → t.kslot k = s.kslot k) ∧ boundCtx t n.val = [] ∧ (t.ticket tk.val).state = .running ∧
          Recorded (0x40 + n.val) (erasedRecord (s.kslot n.val).lastGen) s t))) ∧
    (mayLand s n.val = false → ∃ t, exec (.keyLanding n) s = .next t ∧ t = s) ∧
    (∀ h : Shadow, (s.kslot n.val).shadow = some h → mayLand s n.val = true → ∃ t, exec (.keyLanding n) s = .next t ∧
      (t.kslot n.val).ver = some h.ver ∧ (t.kslot n.val).shadow = none ∧ (t.kslot n.val).nonceNext = 0 ∧
      (t.kslot n.val).exhausted = false ∧ (t.kslot n.val).landed = s.now ∧ (∀ k, k ≠ n.val → t.kslot k = s.kslot k) ∧
      (∀ k : Nat, installTicket n.val h.ver.gen s = some k → h.path ≤ 2 → (t.ticket k).state = .completed ∧
        (t.ticket k).status = St.ok))

/-- Grain (R373–R382, R384–R386). A conditioned word is complete each 62.5 µs and seeds the generator first, then the reserve,
then the queue; a reseed that is due replaces the older half; raw bits that fail a test of their source, and a failure on other
bits, are a health failure, which empties generator and queue and starts the test again, or at the
third in 24 h latches Grain off; the test passes 0.5 ms after it began. GRAIN.READ delivers what lies above the reserve, or ends at its deadline; a raw-sample run takes Grain
away from its consumers and ends with its samples; a consumer that has waited its time goes without. -/
def Obligations.GrainFeedsItsConsumers : Prop :=
  ∀ (tk : Fin 128) (raw : BitVec 512) (src test phase count : Nat) (samples : Bytes) (s : State) (w : Work),
    (s.grain.state ≠ .ready → ∃ t, exec (.grainWord raw) s = .next t ∧ t = s) ∧
    (s.grain.state = .ready → clearUntil s.grain.wordDue s = true →
      let v := reach s.grain.wordDue s
      let x := lfsrRun s.grain.lfsr raw
      let a := s.grain.test raw
      let g : Grain := { s.grain with lfsr := x, made := s.grain.made + 1, monitors := a.1 }
      (a.2 ≠ none → ∃ t, exec (.grainWord raw) s = .next t ∧ t.grain.queue = [] ∧ t.grain.seeds = [] ∧
        t.grain.lastFail = v.now ∧ t.grain.failures = satAdd 0xFFFFFFFF s.grain.failures 1) ∧
      (a.2 = none → s.grain.seeds.length < 2 → ∃ t, exec (.grainWord raw) s = .next t ∧
        t = { v with grain := { g with seeds := s.grain.seeds ++ [lfsrWord x], seededAt := v.now } }) ∧
      (a.2 = none → s.grain.seeds.length = 2 → s.grain.reseedDue (max s.now s.grain.wordDue) = true →
        s.grain.reseedDue v.now = true → ∃ t, exec (.grainWord raw) s = .next t ∧ exec (.grainReseed raw) s = .next t ∧
        t = { v with grain := { g with seeds := s.grain.seeds.drop 1 ++ [lfsrWord x], seededAt := v.now } }) ∧
      (a.2 = none → 2 ≤ s.grain.seeds.length → s.grain.reseedDue v.now = false → s.grain.wires = [] →
        (s.grain.reserve = none → s.grain.remask = false → ∃ t, exec (.grainWord raw) s = .next t ∧
          t = { v with grain := { g with reserve := some (lfsrWord x) } }) ∧
        (s.grain.reserve ≠ none → s.grain.queue.length + 16 ≤ 4096 → s.grain.reqs = [] → s.grainReads = [] →
          ∃ t, exec (.grainWord raw) s = .next t ∧ t.grain.queue = s.grain.queue ++ lfsrWord x ∧
            t.grain.reserve = s.grain.reserve ∧ t.grain.seeds = s.grain.seeds))) ∧
    (s.grain.seeded = false ∨ s.grain.reseedDue (max s.now s.grain.wordDue) = false →
      ∃ t, exec (.grainReseed raw) s = .next t ∧ t = s) ∧
    (s.grain.state = .ready ∧ phase = 0 ∨ s.grain.state = .startup ∧ phase = 1 → testFails src test count = true →
      ∃ t, exec (.healthFailure src test phase count) s = .next t ∧ t.grain.queue = [] ∧ t.grain.seeds = [] ∧
        t.grain.lastFail = s.now ∧ t.grain.failures = satAdd 0xFFFFFFFF s.grain.failures 1 ∧
        t.grain.state = (if (recentFails s.now s.grain.fails).length + 1 < 3 then .startup else .latched)) ∧
    (s.grain.state ≠ .ready ∧ s.grain.state ≠ .startup ∨ testFails src test count = false →
      ∃ t, exec (.healthFailure src test phase count) s = .next t ∧ t = s) ∧
    (s.grain.state = .startup → clearUntil (s.grain.since + lsbOfUs 500) s = true →
      let v := reach (s.grain.since + lsbOfUs 500) s
      ∃ t, exec .startupTestPass s = .next t ∧
      t.grain = { s.grain with
        state := .ready, resume := none, startups := wrapAdd 32 s.grain.startups 1, since := v.now, made := 0 } ∧
      (∀ r, s.grain.resume = some r → Logged v.now 0x0C04 0 0xFF (leBytes 1 r) v t) ∧
      (s.grain.resume = none → t = { v with grain := t.grain }) ∧ t = { withEvents v t with grain := t.grain }) ∧
    (startable tk.val 0x0C02 s = some w →
      (s.grain.state = .latched → ∃ t u, exec (.grainRead tk) s = .next t ∧
        Answered tk.val St.grainOff (grainReply []) u t ∧ u = { s with stew := u.stew }) ∧
      (s.grain.state = .raw → ∃ t u, exec (.grainRead tk) s = .next t ∧
        Answered tk.val St.grainTestMode (grainReply []) u t ∧ u = { s with stew := u.stew }) ∧
      (s.grain.state = .ready → s.grain.reqs = [] → s.grainReads = [(tk.val, w)] → w.buf = [] →
        u16At w.req.payload 0 ≤ s.grain.queue.length - s.nat 12 0 → ∃ t u, exec (.grainRead tk) s = .next t ∧
          Answered tk.val St.ok (grainReply (s.grain.queue.take (u16At w.req.payload 0))) u t ∧
          u.grain.queue = s.grain.queue.drop (u16At w.req.payload 0) ∧
          u = { s with sheet := u.sheet, grain := u.grain })) ∧
    (s.work tk.val = some w → w.req.opcode = 0x0C02 →
      (s.ticket tk.val).state = .accepted ∨ (s.ticket tk.val).state = .running →
      clearUntil (w.accept + lsbOfUs (readDeadline w.req.deadline)) s = true → ∃ t u, exec (.grainReadDeadline tk) s = .next t ∧
        Answered tk.val St.timeout (grainReply []) u t ∧ u = { s with time := u.time, stew := u.stew }) ∧
    (∀ consumer : Nat, s.grain.reqs.all (fun r => r.consumer != consumer) = true →
      ∃ t, exec (.grainConsumerWaitExpire consumer) s = .next t ∧ t = s) ∧
    (∀ (q : QueueReq) (c : AccCyc), s.grain.reqs.find? (fun q => q.consumer == 2) = some q → s.access.cyc = some c →
      c.challenge = none → clearUntil (q.since + lsbOfMs 1) s = true →
      ∃ t, exec (.grainConsumerWaitExpire 2) s = .next t ∧ t.access.cyc = none ∧
        Logged t.now 0x050C 0 0xFF (zeros 4 ++ leBytes 2 St.entropyFail) s t ∧ t.now = (reach (q.since + lsbOfMs 1) s).now) ∧
    (startable tk.val 0x0C03 s = some w →
      (s.access.state = .release ∨ s.access.state = .learn ∨ s.grain.state = .raw → ∃ t, exec (.grainRawRead tk) s = .next t ∧
        Answered tk.val St.grainInUse [] s t) ∧
      (s.access.state ≠ .release → s.access.state ≠ .learn → s.grain.state = .latched →
        ∃ t, exec (.grainRawRead tk) s = .next t ∧ Answered tk.val St.grainOff [] s t) ∧
      (s.access.state ≠ .release → s.access.state ≠ .learn → s.grain.state ≠ .raw → s.grain.state ≠ .latched →
        ∃ t, exec (.grainRawRead tk) s = .next t ∧ t.grain.state = .raw ∧ t.grain.queue = [] ∧ t.grain.seeds = [] ∧
          t.grain.run = some { ticket := tk.val, source := u8At w.req.payload 0, count := u16At w.req.payload 2, start := s.now })) ∧
    (∀ r : RawRun, s.grain.run = some r → s.grain.state = .raw → samples.length = 128 * r.count → r.ticket < 128 →
      clearUntil (r.start + lsbOfUs (500 * r.count)) s = true → ∃ t u, exec (.grainRawRunEnd samples) s = .next t ∧
        Answered r.ticket St.ok (rawReply r samples) u t ∧
        u.grain = { s.grain with state := .startup, resume := some 1, run := none, since := u.now, monitors := Vector.replicate 4 {} } ∧ u.now = (reach (r.start + lsbOfUs (500 * r.count)) s).now ∧
        Logged u.now 0x0C03 0 r.ticket (zeros 1 ++ leBytes 1 r.source ++ leBytes 2 r.count) s u ∧
        u = { withEvents s u with time := u.time, grain := u.grain })

/-! ### Storage, memory, Safelight and start -/

/-- The storage controller (R389, R390, R393–R399, R406–R416, R418, R419). A record reads back from its slot as VALID. Scans
mark what they find and refresh it, by which a block goes to a spare and comes back as one, and the remap journal ends in a
checkpoint every 256 remaps; a page's spare area holds its header, four parities and the marker 0xFF; an aged page buffer is
sent to the vault, or starves without wear credit; the supply check holds an operation back and lets it go; a retired block is
marked bad, its pages move and a spare takes its place; a finished operation leaves its mark on the medium and completes its
command; reads answer what is programmed; an append waits for its page; the charter is written from eight parts, and locked
once. -/
def Obligations.StorageWork : Prop :=
  ∀ (tk : Fin 128) (n : Fin 6) (found : List (Nat × Nat)) (lost : List (Nat × Nat)) (hits : List ScanHit) (h : ScanHit)
    (vhold block : Nat) (o : StoreOp) (r : Rec) (s : State) (w : Work),
    (s.powered 9 = true → s.store.recoverDue = false →
      (s.store.paramAt = 0 → ∃ t, exec (.parameterScan found lost) s = .next t ∧ t.store.paramAt = s.now) ∧
      (s.store.paramAt ≠ 0 → clearUntil (s.store.paramAt + lsbOfS 86400) s = true →
        ∃ t, exec (.parameterScan found lost) s = .next t ∧ t.store.paramAt = (reach (s.store.paramAt + lsbOfS 86400) s).now) ∧
      (∀ (i k : Nat) (c : Bool), s.store.paramAt = 0 → i < 28 →
        (tget s.store.log i).slots[k]? = some (.valid r c) →
        (∃ t, exec (.parameterScan [(i, k + 1)] []) s = .next t ∧ (tget t.store.log i).slots[k]? = some (.valid r true) ∧
          Logged s.now 0x0D04 0 0xFF (zeros 1 ++ leBytes 1 0 ++ leBytes 2 i ++ leBytes 1 1) s t) ∧
        (∃ t, exec (.parameterScan [] [(i, k + 1)]) s = .next t ∧ (tget t.store.log i).slots[k]? = some .dead ∧
          Logged s.now 0x0D04 0 0xFF (zeros 1 ++ leBytes 1 2 ++ leBytes 2 i ++ leBytes 1 0) s t)) ∧
      (s.vault.lastScan = 0 → ∃ t, exec (.vaultScan hits) s = .next t ∧ t.vault.lastScan = s.now) ∧
      (s.vault.lastScan ≠ 0 → clearUntil (s.vault.lastScan + lsbOfS (86400 * s.nat 13 4)) s = true →
        ∃ t, exec (.vaultScan hits) s = .next t ∧ t.vault.lastScan = (reach (s.vault.lastScan + lsbOfS (86400 * s.nat 13 4)) s).now) ∧
      (∀ g : Page, s.vault.lastScan = 0 → (tget s.vault.parts h.part.val).pages[h.page]? = some g →
        let b := g.block
        (h.lost = true ∨ 13 ≤ h.bits → ∃ t, exec (.vaultScan [h]) s = .next t ∧ Waiting (.relocate h.part.val b) t) ∧
        (g.lost = false → ∃ t, exec (.vaultScan [h]) s = .next t ∧
          ((tget t.vault.parts h.part.val).pages[h.page]?.map (·.errors)) = some h.errors) ∧
        (h.lost = true → ∃ t, exec (.vaultScan [h]) s = .next t ∧
          ((tget t.vault.parts h.part.val).pages[h.page]?.map (·.lost)) = some true ∧
          Logged s.now 0x0D0A 0 0xFF (leBytes 1 h.part.val ++ zeros 3 ++ leBytes 8 g.firstNo) s t) ∧
        (h.lost = false → 13 ≤ h.bits → s.store.queue.any (fun o => o.act == .relocate h.part.val b) = false →
          ∃ t, exec (.vaultScan [h]) s = .next t ∧
            Logged s.now 0x0D04 0 0xFF (leBytes 1 1 ++ leBytes 1 0 ++ leBytes 2 (b % 65536) ++ leBytes 1 h.bits) s t))) ∧
    (s.powered 9 = false ∨ s.store.recoverDue = true →
      (∃ t, exec (.parameterScan found lost) s = .next t ∧ t = s) ∧ ∃ t, exec (.vaultScan hits) s = .next t ∧ t = s) ∧
    (∀ x ∈ [(Instr.logFlush, 1, lsbOfS (s.nat 13 1)), (.captureFlush, 4, lsbOfMs (s.nat 13 2)),
        (.hostFlush, 5, lsbOfMs (s.nat 13 3))],
      let p := tget s.vault.parts x.2.1
      (freshRecords x.2.1 s = [] ∨ p.starved = true → ∃ t, exec x.1 s = .next t ∧ t = s) ∧
      (freshRecords x.2.1 s ≠ [] → p.starved = false → s.store.queue.any (fun o => o.act == .page x.2.1) = false →
        clearUntil (p.since + x.2.2) s = true →
        let v := reach (p.since + x.2.2) s
        ((p.gain v.now).mayProgram x.2.1 = true → ∃ t, exec x.1 s = .next t ∧ Waiting (.page x.2.1) t ∧
          (tget t.vault.parts x.2.1).starved = false) ∧
        ((p.gain v.now).mayProgram x.2.1 = false → ∃ t, exec x.1 s = .next t ∧ t.store = s.store ∧
          (tget t.vault.parts x.2.1).starved = true))) ∧
    (let p := tget s.vault.parts n.val;
      (p.starved = false ∨ isRing n.val = false → ∃ t, exec (.wearCreditGain n) s = .next t ∧ t = s) ∧
      (p.starved = true → isRing n.val = true → p.blocks ≠ 0 → freshRecords n.val s ≠ [] →
        s.store.queue.any (fun o => o.act == .page n.val) = false → clearUntil (creditDue p) s = true →
        (p.gain (reach (creditDue p) s).now).mayProgram n.val = true →
        ∃ t, exec (.wearCreditGain n) s = .next t ∧ Waiting (.page n.val) t ∧ (tget t.vault.parts n.val).starved = false)) ∧
    (s.store.holding = false → ∃ t, exec (.supplyCheckRelease vhold) s = .next t ∧ t = s) ∧
    (s.store.holding = true → s.powered 9 = true → s.store.running = none → pickOp s.store.queue = some o →
      let e := usable (s.nat 13 0) vhold
      (energy o.act + 10000 ≤ e → ∃ t, exec (.supplyCheckRelease vhold) s = .next t ∧
        t.store = { s.store with vhold := vhold, queue := dropOp o s.store.queue, running := some o, holding := false } ∧
        Logged s.now 0x0D08 0 0xFF (leBytes 2 0 ++ leBytes 2 (e / 100)) s t) ∧
      (e < energy o.act + 10000 → ∃ t, exec (.supplyCheckRelease vhold) s = .next t ∧
        t = { s with store := { s.store with vhold := vhold } })) ∧
    ((touched s).any (fun x => x.2 == block) = false → ∃ t, exec (.blockRetired block) s = .next t ∧ t = s) ∧
    (∀ p : Nat, (touched s).find? (fun x => x.2 == block) = some (p, block) →
      let q := tget s.vault.parts p
      ∃ t, exec (.blockRetired block) s = .next t ∧
      t.vault.spares = s.vault.spares - 1 ∧ t.vault.grownBad = satAdd 0xFFFF s.vault.grownBad 1 ∧ t.store = s.store ∧
      t.vault.marker block = 0x00 ∧ (∀ k, k ≠ block → t.vault.marker k = s.vault.marker k) ∧
      (0 < s.vault.spares → q.holds block = true → p < 6 → ∃ x u, s.vault.takeSpare block = some (x, u) ∧
        (tget t.vault.parts p).map = q.map.map (fun b => if b = block then x else b) ∧
        (∀ j : Nat, ((tget t.vault.parts p).pages[j]?).map (·.recs) = (q.pages[j]?).map (·.recs) ∧
          (∀ g : Page, q.pages[j]? = some g → g.block = block → ((tget t.vault.parts p).pages[j]?).map (·.block) = some x)) ∧
        t.vault.relocations = (if q.pagesOn block = 0 then s.vault.relocations else wrapAdd 32 s.vault.relocations 1)) ∧
      Logged s.now 0x0D05 0 0xFF (leBytes 2 block ++ leBytes 2 (s.vault.spares - 1)) s t) ∧
    (∀ p b : Nat, s.store.running = some { act := .relocate p b } → (tget s.vault.parts p).map.contains b = true →
      0 < s.vault.spares → p < 6 → ∃ t x u, exec .storeOperationDone s = .next t ∧ s.vault.takeSpare b = some (x, u) ∧
        (tget t.vault.parts p).map = (tget s.vault.parts p).map.map (fun c => if c = b then x else c) ∧
        t.vault.spares = s.vault.spares ∧ t.vault.wearOf b = s.vault.wearOf b + 1 ∧
        (s.vault.journal.length < 255 → t.vault.journal = s.vault.journal ++ [(b, x)] ∧
          t.vault.checkpoints = s.vault.checkpoints) ∧
        (s.vault.journal.length = 255 → t.vault.journal = [] ∧ t.vault.checkpoints = s.vault.checkpoints + 1)) ∧
    (∀ r : Rec, r.key < 0xFFFF → r.key ≠ 0 → r.data.length ≤ 56 →
      r.bytes.length = 64 ∧ classify (groupsOf r.bytes) = .valid r.bytes false) ∧
    (s.store.running = none → ∃ t, exec .storeOperationDone s = .next t ∧ t = s) ∧
    (s.store.running = some { act := .record r } →
      (ringKey r.key = true → s.store.ringActive < 2 → ∃ t, exec .storeOperationDone s = .next t ∧
        (tget t.store.ring s.store.ringActive).slots = (tget s.store.ring s.store.ringActive).slots ++ [.valid r false]) ∧
      (ringKey r.key = false → s.store.at_ < 28 → (tget s.store.log s.store.at_).slots.length < 255 →
        ∃ t, exec .storeOperationDone s = .next t ∧
          (tget t.store.log s.store.at_).slots = (tget s.store.log s.store.at_).slots ++ [.valid r false])) ∧
    (∀ (g : Page) (part : Nat), (g.spare part).length = 256 ∧ (g.spare part).take 48 = g.header part ∧
      (g.header part).length = 48 ∧ ((g.spare part).drop 48).take 168 = ((g.codewords part).map bchParity).flatten ∧
      (g.spare part)[216]? = some 0xFF) ∧
    (∀ p : Nat, p = 1 ∨ p = 4 ∨ p = 5 → s.store.running = some { act := .page p } → (tget s.vault.parts p).buffer ≠ [] →
      let q := tget s.vault.parts p
      ∃ t g, exec .storeOperationDone s = .next t ∧
        (tget t.vault.parts p).pages = (if q.needsErase then q.pages.filter (fun x => x.block != q.target) else q.pages) ++ [g] ∧
        g.recs = q.buffer.take (pageTake p q.buffer) ∧ g.firstNo = q.nextNo - q.buffer.length ∧ g.stamp = s.now ∧
        g.block = q.target ∧ g.eraseCount = s.vault.wearOf q.target + (if q.needsErase then 1 else 0) ∧
        g.writeSeq = s.vault.writeSeq ∧ t.vault.writeSeq = s.vault.writeSeq + 1 ∧ g.logical = q.programmed % q.capacity ∧
        g.lost = false) ∧
    (∀ k : Nat, s.store.running = some { act := .unit k } → (s.store.counter k).units + 1 < 128 →
      ∃ t, exec .storeOperationDone s = .next t ∧ t.store.counterValue k = s.store.counterValue k + 1) ∧
    (s.store.running = some { act := .lockBits, then_ := .charterLocked tk.val } →
      ∃ t, exec .storeOperationDone s = .next t ∧ t.store.lockA = true ∧ t.store.lockB = true ∧
        (t.ticket tk.val).state = .completed ∧ (t.ticket tk.val).status = St.ok) ∧
    (s.store.running = some { act := .blockErase 5, then_ := .hostCleared tk.val } →
      ∃ t, exec .storeOperationDone s = .next t ∧ (tget t.vault.parts 5).pages = [] ∧
        (tget t.vault.parts 5).nextNo = (tget s.vault.parts 5).nextNo ∧
        (t.ticket tk.val).state = .completed ∧ (t.ticket tk.val).status = St.ok) ∧
    (∀ x ∈ [(Instr.storeCaptureRead tk, 0x0D02, 4), (.storeHostRead tk, 0x0D04, 5)], startable tk.val x.2.1 s = some w →
      let p := tget s.vault.parts x.2.2
      let first := u64At w.req.payload 0
      let es := p.readFrom first (u16At w.req.payload 8)
      (first < p.oldest ∨ p.endNo ≤ first → ∃ t, exec x.1 s = .next t ∧ Answered tk.val St.storeRange [] s t) ∧
      (p.oldest ≤ first → first < p.endNo → ∃ t, exec x.1 s = .next t ∧
        Answered tk.val (if es.any (fun e => e.2.2) then St.storeDataLost else St.ok)
          (leBytes 8 p.oldest ++ leBytes 2 es.length ++ zeros 6 ++ es.flatMap (fun e => e.2.1)) s t)) ∧
    (startable tk.val 0x0D03 s = some w →
      let p := tget s.vault.parts 5
      let rec_ := hostRecord p.nextNo w.accept w.req.payload
      ∃ t, exec (.storeHostAppend tk) s = .next t ∧ (t.ticket tk.val).state = .running ∧
        (t.ticket tk.val).writeRef = p.nextNo ∧ t.vault.hostWaits = s.vault.hostWaits ++ [{ ticket := tk.val, no := p.nextNo }] ∧
        (tget t.vault.parts 5).buffer = p.buffer ++ [rec_] ∧ (tget t.vault.parts 5).nextNo = p.nextNo + 1 ∧
        ((u8At w.req.payload 4).testBit 0 = true → (p.gain s.now).mayProgram 5 = true → s.store.running = none →
          Waiting (.page 5) t)) ∧
    (startable tk.val 0x0D05 s = some w → ∃ t, exec (.storeHostClear tk) s = .next t ∧ Waiting (.blockErase 5) t ∧
      (t.ticket tk.val).state = .running ∧ (t.ticket tk.val).writeRef = (tget s.vault.parts 5).nextNo) ∧
    (startable tk.val 0x0D06 s = some w →
      let q := w.req.payload
      let parts := assocSet s.store.parts (u8At q 0) (slice q 4 512)
      let page := ((List.range 8).map (fun i => (assoc parts i).getD [])).flatten
      (s.charterLocked = true → ∃ t, exec (.storeCharterWrite tk) s = .next t ∧ Answered tk.val St.charterLocked [] s t) ∧
      (s.charterLocked = false → (u8At q 1).testBit 0 = false → ∃ t, exec (.storeCharterWrite tk) s = .next t ∧
        Answered tk.val St.ok [] { s with store := { s.store with parts := parts } } t) ∧
      (s.charterLocked = false → (u8At q 1).testBit 0 = true → s.store.charterNew = none →
        (parts.length < 8 → ∃ t, exec (.storeCharterWrite tk) s = .next t ∧
          Answered tk.val St.badArg [] { s with store := { s.store with parts := [] } } t) ∧
        (8 ≤ parts.length → charterOk page = false → ∃ t, exec (.storeCharterWrite tk) s = .next t ∧
          Answered tk.val St.charterInvalid [] { s with store := { s.store with parts := [] } } t) ∧
        (8 ≤ parts.length → charterOk page = true → (∀ k, 0x0F00 ≤ k → k ≤ 0x0F4A → s.store.nextSeq k ≤ 0xFFFFFF) →
          ∃ t, exec (.storeCharterWrite tk) s = .next t ∧
          t.store.charterNew = some (tk.val, page) ∧ t.store.parts = [] ∧ Waiting .charterErase t ∧ Waiting .charterProgram t ∧
          (t.ticket tk.val).state = .running))) ∧
    (startable tk.val 0x0D07 s = some w →
      (s.charterLocked = true → ∃ t, exec (.storeCharterLock tk) s = .next t ∧ Answered tk.val St.charterLocked [] s t) ∧
      (s.charterLocked = false → charterOk s.store.charter = false ∨ u32At s.store.charter 12 ≠ u32At w.req.payload 0 →
        ∃ t, exec (.storeCharterLock tk) s = .next t ∧ Answered tk.val St.charterInvalid [] s t) ∧
      (s.charterLocked = false → charterOk s.store.charter = true → u32At s.store.charter 12 = u32At w.req.payload 0 →
        ∃ t, exec (.storeCharterLock tk) s = .next t ∧ Waiting .lockBits t ∧ (t.ticket tk.val).state = .running ∧
          t.store.charter = s.store.charter))

/-- On-chip memory (R422, R426–R428, R430–R432, R437). A corrected word counts, with one event per second and bank; the Test
strip borrows the next strip, returns it when its march passes, and maps a strip that failed twice onto a spare or marks the
bank FAILED; an access to the borrowed strip makes it yield; a violation enters the guard log and stops its master. -/
def Obligations.MemoryGuardsAndStrip : Prop :=
  ∀ (tk : Fin 128) (bank : Fin 24) (addr : Nat) (fails : Bool × Bool) (g : GuardHit)
    (s : State) (w : Work),
    (bankState s bank.val ≠ 0 → ∃ t, exec (.correctedWord bank addr) s = .next t ∧ t = s) ∧
    (bankState s bank.val = 0 →
      let b := tget s.mem.banks bank.val
      let n := satAdd 0xFFFF b.sinceEvent 1
      ((∀ x, b.lastEvent = some x → x + oneSec ≤ s.now) → ∃ t, exec (.correctedWord bank addr) s = .next t ∧
        tget t.mem.banks bank.val =
          { b with corrected := satAdd 0xFFFF b.corrected 1, sinceEvent := 0, lastEvent := some s.now } ∧
        (∀ k, k ≠ bank.val → tget t.mem.banks k = tget s.mem.banks k) ∧
        Logged s.now 0x0E02 0 0xFF (leBytes 1 bank.val ++ zeros 1 ++ leBytes 2 n ++ leBytes 4 addr) s t) ∧
      (∀ x, b.lastEvent = some x → s.now < x + oneSec → ∃ t, exec (.correctedWord bank addr) s = .next t ∧
        tget t.mem.banks bank.val = { b with corrected := satAdd 0xFFFF b.corrected 1, sinceEvent := n } ∧
        t = { s with mem := t.mem })) ∧
    (s.mem.borrowed = none →
      (s.powered 3 = false ∨ 1 < s.eave.depth → ∃ t, exec (.testStrip none) s = .next t ∧ t = s) ∧
      (∃ t, exec (.testStrip (some fails)) s = .next t ∧ t = s) ∧
      (∀ (x : StripRun) (i : Nat), s.powered 3 = true → s.eave.depth ≤ 1 → s.mem.run = some x →
        stripIn s x.bank x.strip = some i → ∃ t, exec (.testStrip none) s = .next t ∧
          t = { s with mem := { s.mem with borrowed := some (x.bank, i), stripAt := s.now } }) ∧
      (s.mem.run = none → s.nat 14 0 = 0 → ∃ t, exec (.testStrip none) s = .next t ∧ t = s) ∧
      (∀ (b i : Nat) (pass : Bool), s.powered 3 = true → s.eave.depth ≤ 1 → s.mem.run = none → s.nat 14 0 ≠ 0 →
        clearUntil (s.mem.stripAt + lsbOfUs (s.nat 14 1)) s = true →
        let v := reach (s.mem.stripAt + lsbOfUs (s.nat 14 1)) s
        walkNext v = some (b, i, pass) → ∃ t, exec (.testStrip none) s = .next t ∧ t.mem.borrowed = some (b, i) ∧
          t.mem.stripAt = v.now ∧ t.mem.passes = (if pass then wrapAdd 32 s.mem.passes 1 else s.mem.passes) ∧
          t.mem.banks = s.mem.banks)) ∧
    (∀ b i : Nat, s.mem.borrowed = some (b, i) → b < 24 →
      let due := s.mem.stripAt + (if fails.1 then 2 * stripHold else stripHold)
      let v := reach due s
      let x := tget s.mem.banks b
      (∃ t, exec (.testStrip none) s = .next t ∧ t = s) ∧
      (clearUntil due s = true → s.mem.run = none →
        (fails ≠ (true, true) → ∃ t, exec (.testStrip (some fails)) s = .next t ∧
          t = { v with mem := { s.mem with borrowed := none, walkStrip := i + 1 } }) ∧
        (fails = (true, true) → 0 < x.spares → ∃ t, exec (.testStrip (some fails)) s = .next t ∧
          tget t.mem.banks b = { x with spares := x.spares - 1, mapped := x.mapped ++ [i] } ∧
          t.mem.repairs = s.mem.repairs ++ [(b, i)] ∧ t.mem.borrowed = none ∧
          Logged v.now 0x0E03 0 0xFF (leBytes 1 b ++ zeros 1 ++ leBytes 2 i ++ leBytes 1 (x.spares - 1)) s t) ∧
        (fails = (true, true) → x.spares = 0 → ∃ t, exec (.testStrip (some fails)) s = .next t ∧
          tget t.mem.banks b = { x with failed := true } ∧ t.mem.repairs = s.mem.repairs ∧ t.mem.borrowed = none ∧
          Logged v.now 0x0E04 0 0xFF (leBytes 1 b ++ zeros 1 ++ leBytes 2 i) s t)) ∧
      (∀ r : StripRun, clearUntil due s = true → s.mem.run = some r → r.ticket < 128 → i = 1023 → fails ≠ (true, true) →
        ∃ t, exec (.testStrip (some fails)) s = .next t ∧
          Answered r.ticket (if r.failed then St.memBankFailed else if satAdd 0xFF r.repaired 0 = 0 then St.ok else St.memRepaired)
            (leBytes 2 (r.tested + 1) ++ leBytes 1 (satAdd 0xFF r.repaired 0) ++ leBytes 1 (tget s.mem.banks r.bank).spares ++
              leBytes 4 r.yields) { v with mem := { s.mem with borrowed := none, run := none } } t)) ∧
    (s.mem.borrowed = none → ∃ t, exec .stripYield s = .next t ∧ t = s) ∧
    (s.mem.borrowed ≠ none → ∃ t, exec .stripYield s = .next t ∧ t = { s with mem := { s.mem with
      borrowed := none, stripAt := s.now, yields := satAdd 0xFFFFFFFF s.mem.yields 1
      run := s.mem.run.map (fun r => { r with yields := satAdd 0xFFFFFFFF r.yields 1 }) } }) ∧
    (startable tk.val 0x0E03 s = some w →
      let b := u8At w.req.payload 0
      (s.mem.run ≠ none → ∃ t, exec (.memStripRun tk) s = .next t ∧ Answered tk.val St.memStripBusy [] s t) ∧
      (s.mem.run = none → bankState s b ≠ 0 → ∃ t, exec (.memStripRun tk) s = .next t ∧
        Answered tk.val St.memBankNotOn [] s t) ∧
      (s.mem.run = none → bankState s b = 0 → ∃ t, exec (.memStripRun tk) s = .next t ∧
        (t.ticket tk.val).state = .running ∧ t = { s with
          sheet := t.sheet, mem := { s.mem with run := some { ticket := tk.val, bank := b } } })) ∧
    (startable tk.val 0x0E04 s = some w →
      let n := u8At w.req.payload 0
      let r := (tget s.mem.dma n).free (u32At w.req.payload 4)
      let es := r.entries.take (u8At w.req.payload 1)
      n < 8 → ∃ t, exec (.memDmaRead tk) s = .next t ∧ Answered tk.val St.ok
        (leBytes 4 r.overrun ++ leBytes 1 es.length ++ zeros 3 ++ es.flatMap (·.2))
        { s with mem := { s.mem with dma := tmod s.mem.dma n (fun x => x.free (u32At w.req.payload 4)) } } t) ∧
    (violation (yieldFor g s) g = none → ∃ t, exec (.guardViolation g) s = .next t ∧ t = yieldFor g s) ∧
    (∀ k : Nat, violation (yieldFor g s) g = some k → ∃ t, exec (.guardViolation g) s = .next t ∧
      t.mem.log = ({ stamp := s.now, address := g.addr, master := g.master.val, kind := k, access := g.access }
        :: s.mem.log).take 64 ∧
      (g.master.val ≠ 4 → t.mem.violations = satAdd 0xFFFFFFFF s.mem.violations 1 ∧ Logged s.now 0x0E01 0 0xFF
        (leBytes 1 g.master.val ++ leBytes 1 k ++ leBytes 1 g.access ++ zeros 1 ++ leBytes 4 g.addr) s t) ∧
      (g.master.val = 4 → s.stew.running = true → t.stew.running = false ∧ t.sheet.resetCause = 4 ∧ t.boot.phase = .warm) ∧
      (g.master.val = 5 → s.powered 2 = true → t.safe.restarts = satAdd 0xFF s.safe.restarts 1) ∧
      (g.master.val = 7 → ∃ n, n < 8 ∧ (tget t.mem.dma n).entries = (tget s.mem.dma n).entries ∧
        (tget t.mem.dma n).overrun = wrapAdd 32 (tget s.mem.dma n).overrun 1))

/-- The Safelight and the update path (R442–R447, R441, R449–R453, R456, R457). A result is clamped to the sensor's range and
kept with its stamp; the lid and the mesh are reported, before the epoch is loaded with the stamp of the load, and erase the
keys while SAFE.TAMPER_ACTION is 1; the log moves in key
order; an image is written in sequence, verified, run on trial, and confirmed or rejected with a reset. -/
def Obligations.SafelightAndUpdates : Prop :=
  ∀ (tk : Fin 128) (n : Fin 16) (x : Int) (kind cause : Nat) (s : State) (w : Work),
    (let y := tget s.safe.sensors n.val
      let v := max (sensorRange n.val).1 (min (sensorRange n.val).2 x)
      (mayConvert n.val s = false → ∀ routed, ∃ t, exec (.sensorConversion n x routed) s = .next t ∧ t = s) ∧
      (mayConvert n.val s = true → n.val < 14 → s.powered 2 = true →
        (∀ st : Nat, y.trig = some st → (n.val = 9 → s.time.fineAt + lsbOfMs (s.nat 15 0 9) ≤ s.now) →
          ∃ t, exec (.sensorConversion n x true) s = .next t ∧
          (tget t.safe.sensors n.val).value = v ∧ (tget t.safe.sensors n.val).stamp = st ∧
          (tget t.safe.sensors n.val).trig = none ∧ ∀ k, k ≠ n.val → tget t.safe.sensors k = tget s.safe.sensors k) ∧
        (s.nat 15 0 n.val ≠ 0 → y.count = 0 → n.val ≠ 9 → ∃ t, exec (.sensorConversion n x false) s = .next t ∧
          (tget t.safe.sensors n.val).value = v ∧ (tget t.safe.sensors n.val).stamp = s.now ∧
          (tget t.safe.sensors n.val).min = v ∧ (tget t.safe.sensors n.val).max = v ∧
          ∀ k, k ≠ n.val → tget t.safe.sensors k = tget s.safe.sensors k) ∧
        (s.nat 15 0 n.val ≠ 0 → y.count ≠ 0 ∨ n.val = 9 → clearUntil (convertFrom n.val s + lsbOfMs (s.nat 15 0 n.val)) s = true →
          ∃ t, exec (.sensorConversion n x false) s = .next t ∧ (tget t.safe.sensors n.val).value = v ∧
            (tget t.safe.sensors n.val).stamp = (reach (convertFrom n.val s + lsbOfMs (s.nat 15 0 n.val)) s).now ∧
            (tget t.safe.sensors n.val).min = (if y.count = 0 then v else min y.min v) ∧
            (tget t.safe.sensors n.val).max = (if y.count = 0 then v else max y.max v)))) ∧
    (s.power.mode ≠ .stowed → ∃ t, exec .stowCheck s = .next t ∧ t = s) ∧
    (let due := max s.safe.stowAt s.power.entry + lsbOfS (s.nat 15 4);
      s.power.mode = .stowed → s.boot.phase = .run → clearUntil due s = true →
      ∃ t, exec .stowCheck s = .next t ∧ t.safe.stowAt = (reach due s).now ∧
        (∀ k : Fin 16, (tget t.safe.sensors k.val).trig ≠ none) ∧ (tget t.power.domains 2).state ≠ .off) ∧
    (s.safe.lidOpen = true → ∃ t, exec (.lidMesh 0) s = .next t ∧ t = s) ∧
    (s.safe.lidOpen = false → (∀ c, s.safe.lidClosed = some c → c + oneSec ≤ s.now) →
      ∃ t, exec (.lidMesh 0) s = .next t ∧ t.safe.lidOpen = true ∧
        (s.nat 15 3 ≠ 1 → t.ciph = s.ciph ∧ (s.boot.phase ≠ .cold → Logged s.now 0x0F02 0x7F 0xFF (zeros 2) s t) ∧
          (s.boot.phase = .cold → t.ev = s.ev ∧ t.boot.held = s.boot.held ++ [(4, 0x0F02, leBytes 1 0 ++ leBytes 1 0, 0x7F)])) ∧
        (s.nat 15 3 = 1 → t.safe.tamper = true ∧ ∀ k, 1 ≤ k ∧ k ≤ 15 ∨ 32 ≤ k ∧ k ≤ 63 →
          (t.kslot k).ver = none ∧ (t.kslot k).shadow = none)) ∧
    (s.safe.lidOpen = true → ∃ t, exec (.lidMesh 1) s = .next t ∧ t.safe.lidOpen = false ∧ t.safe.lidClosed = some s.now ∧
      (s.boot.phase ≠ .cold → Logged s.now 0x0F02 0x7F 0xFF (leBytes 1 1) s t)) ∧
    (s.safe.meshOpen = false → ∃ t, exec (.lidMesh 2) s = .next t ∧ t.safe.meshOpen = true ∧ t.store.meshBroken = true ∧
      (s.nat 15 3 = 1 → ∀ k, 1 ≤ k ∧ k ≤ 15 ∨ 32 ≤ k ∧ k ≤ 63 → (t.kslot k).ver = none ∧ (t.kslot k).shadow = none)) ∧
    (2 < kind → ∃ t, exec (.lidMesh kind) s = .next t ∧ t = s) ∧
    (s.powered 2 = false → ∃ t, exec .logSortExpire s = .next t ∧ t = s) ∧
    (∀ (e : Nat × EvRec) (rest : List (Nat × EvRec)), s.powered 2 = true → s.safe.sort = e :: rest →
      (∀ z ∈ s.safe.sort, s.safe.moved ≤ z.2.key) → clearUntil (e.1 + lsbOfMs (s.nat 15 5)) s = true →
      ∃ t, exec .logSortExpire s = .next t ∧ t.safe.moved = max s.safe.moved e.2.key ∧
        (tget t.vault.parts 1).nextNo = (tget s.vault.parts 1).nextNo +
          (s.safe.sort.filter (fun z => decide (z.2.key ≤ e.2.key))).length) ∧
    (1 < cause ∨ s.powered 2 = false → ∃ t, exec (.safelightRestart cause 0) s = .next t ∧ t = s) ∧
    (cause ≤ 1 → s.powered 2 = true → ∃ t, exec (.safelightRestart cause 0) s = .next t ∧
      t.safe.restarts = satAdd 0xFF s.safe.restarts 1 ∧
      (s.safe.lostNow = 0 → Logged s.now 0x0F03 0 0xFF (leBytes 1 cause ++ zeros 3) s t)) ∧
    (startable tk.val 0x0F03 s = some w →
      let q := w.req.payload
      let p := tget s.vault.parts 1
      let es := ((p.readFrom (u64At q 0) p.nextNo).filter (fun e => maskTakes (u16At q 10) e.2.1 e.2.2)).take (u16At q 8)
      (u64At q 0 < p.oldest ∨ p.endNo ≤ u64At q 0 → ∃ t, exec (.safeLogRead tk) s = .next t ∧
        Answered tk.val St.storeRange [] s t) ∧
      (p.oldest ≤ u64At q 0 → u64At q 0 < p.endNo → ∃ t, exec (.safeLogRead tk) s = .next t ∧
        Answered tk.val (if es.any (fun e => e.2.2) then St.storeDataLost else St.ok)
          (leBytes 8 p.oldest ++ leBytes 8 (p.endNo - 1) ++ leBytes 2 es.length ++ zeros 6 ++
            es.flatMap (fun e => leBytes 8 e.1 ++ e.2.1)) s t)) ∧
    (∀ u : Instr × Nat, u ∈ [(Instr.updateBegin tk, 0x0F04), (.updateWrite tk, 0x0F05), (.updateVerify tk, 0x0F06)] →
      startable tk.val u.2 s = some w → s.safe.trialEnd ≠ none →
      ∃ t, exec u.1 s = .next t ∧ Answered tk.val St.updateBusy [] s t) ∧
    (startable tk.val 0x0F04 s = some w → s.safe.trialEnd = none →
      let m := u8At w.req.payload 0
      (m = s.safe.runs → ∃ t, exec (.updateBegin tk) s = .next t ∧ Answered tk.val St.updateSlot [] s t) ∧
      (m ≠ s.safe.runs → loadable s (tget s.safe.images m) = false → ∃ t, exec (.updateBegin tk) s = .next t ∧
        Waiting (.blockErase (2 + m)) t ∧ (t.ticket tk.val).state = .running ∧ t.safe.images = s.safe.images)) ∧
    (startable tk.val 0x0F05 s = some w → s.safe.trialEnd = none →
      let m := u8At w.req.payload 0
      let i := tget s.safe.images m
      (1 < i.state ∨ u32At w.req.payload 4 ≠ i.bytes.length → ∃ t, exec (.updateWrite tk) s = .next t ∧
        Answered tk.val St.updateSequence (leBytes 4 i.bytes.length) s t) ∧
      (m < 2 → i.state ≤ 1 → u32At w.req.payload 4 = i.bytes.length → ∃ t u, exec (.updateWrite tk) s = .next t ∧
        Answered tk.val St.ok (leBytes 4 (i.bytes ++ w.req.payload.drop 8).length) u t ∧
        (tget u.safe.images m).bytes = i.bytes ++ w.req.payload.drop 8 ∧ (tget u.safe.images m).state = 1 ∧
        tget u.safe.images (1 - m) = tget s.safe.images (1 - m))) ∧
    (startable tk.val 0x0F06 s = some w → s.safe.trialEnd = none →
      let m := u8At w.req.payload 0
      let i := tget s.safe.images m
      let k := s.kslot (s.nat 15 7)
      (i.state ≠ 1 → ∃ t, exec (.updateVerify tk) s = .next t ∧ Answered tk.val St.updateSequence [] s t) ∧
      (m < 2 → i.state = 1 → 256 ≤ i.bytes.length →
        (headerOk i.bytes = false → ∃ t u, exec (.updateVerify tk) s = .next t ∧
          Answered tk.val St.updateImageInvalid [] u t ∧ (tget u.safe.images m).state = 6) ∧
        (headerOk i.bytes = true → imageLength i.bytes ≤ i.bytes.length → i.bytes.length ≤ i.programmed →
          (k.ver = none → ∃ t, exec (.updateVerify tk) s = .next t ∧ Answered tk.val St.keyEmpty [] s t) ∧
          (∀ v, k.ver = some v → v.usage.testBit 1 = true → v.key.length = 32 →
            (s.ciph.off = true → ∃ t, exec (.updateVerify tk) s = .next t ∧ Answered tk.val St.engineOff [] s t) ∧
            (s.ciph.off = false → s.grain.state = .latched → ∃ t, exec (.updateVerify tk) s = .next t ∧
              Answered tk.val St.entropyFail [] s t) ∧
            (s.ciph.off = false → s.grain.state ≠ .latched → keyReady s (s.nat 15 7) = false →
              ∃ t, exec (.updateVerify tk) s = .next t ∧ t = s)) ∧
          (∀ v, k.ver = some v → v.usage.testBit 1 = true → v.key.length = 32 → s.ciph.off = false →
            s.grain.state ≠ .latched → keyReady s (s.nat 15 7) = true →
            (imageSigned v.key i.bytes = false → ∃ t u, exec (.updateVerify tk) s = .next t ∧
              Answered tk.val St.updateSignature [] u t ∧ (tget u.safe.images m).state = 6) ∧
            (imageSigned v.key i.bytes = true → i.rollback < s.rollback ∨ s.rollback + 256 < i.rollback →
              ∃ t, exec (.updateVerify tk) s = .next t ∧ Answered tk.val St.updateRollback [] s t) ∧
            (imageSigned v.key i.bytes = true → s.rollback ≤ i.rollback → i.rollback ≤ s.rollback + 256 →
              ∃ t u, exec (.updateVerify tk) s = .next t ∧ Answered tk.val St.ok
                (leBytes 4 i.release ++ leBytes 4 i.rollback ++ leBytes 4 s.rollback ++ zeros 4) u t ∧
                (tget u.safe.images m).state = 2))))) ∧
    (startable tk.val 0x0F08 s = some w →
      (s.safe.trialEnd = none → ∃ t, exec (.updateConfirm tk) s = .next t ∧ Answered tk.val St.updateNoTrial [] s t) ∧
      (s.safe.trialEnd ≠ none → s.safe.runs < 2 → ∃ t u, exec (.updateConfirm tk) s = .next t ∧ Answered tk.val St.ok
        (leBytes 4 (max s.rollback (tget s.safe.images s.safe.runs).rollback) ++ zeros 4) u t ∧
        (tget u.safe.images s.safe.runs).state = 4 ∧ u.safe.trialEnd = none)) ∧
    (s.safe.trialEnd = none → (∃ t, exec .trialWindowExpire s = .next t ∧ t = s) ∧
      ∃ t, exec .heartbeatTimeout s = .next t ∧ t = s) ∧
    (∀ e : Nat, s.safe.trialEnd = some e → s.stew.running = true → s.safe.runs < 2 → clearUntil e s = true →
      (s.nat 15 9 = 1 → ∃ t, exec .trialWindowExpire s = .next t ∧ (tget t.safe.images s.safe.runs).state = 4 ∧
        t.safe.trialEnd = none ∧ t.stew = s.stew) ∧
      (s.nat 15 9 ≠ 1 → s.store.running = none → ∃ t, exec .trialWindowExpire s = .next t ∧
        (tget t.safe.images s.safe.runs).state = 5 ∧ t.sheet.resetCause = 7 ∧ t.stew.running = false ∧ t.boot.phase = .warm)) ∧
    (∀ e : Nat, s.safe.trialEnd = some e →
      (s.host.heartbeatSeen = true → ∃ t, exec .heartbeatTimeout s = .next t ∧ t = s) ∧
      (s.host.heartbeatSeen = false → s.store.running = none → s.safe.runs < 2 →
        clearUntil (s.safe.released + 5 * oneSec) s = true → ∃ t, exec .heartbeatTimeout s = .next t ∧
          (tget t.safe.images s.safe.runs).state = 5 ∧ t.sheet.resetCause = 7 ∧ t.stew.running = false ∧ t.boot.phase = .warm))

/-- Starts, faults and losses (R453, R460–R468, R470, R471, R473). A start waits for 6.5 V; it stops where no image loads, and otherwise
runs the image that was chosen, in HOLDOVER, with READY, and with the epoch UNSET after a cold start. A supply fault, a
watchdog, a lockstep mismatch and a silent V die reset the M die with their cause and leave the F die alone; the loss of PD0
AON takes the contact sheet and leaves the media; the sheet is 32 KiB with the entry of ticket k at 0x100 + 32k. -/
def Obligations.StartsFaultsAndLosses : Prop :=
  ∀ (env : StartEnv) (cold : Bool) (vbat vhold : Nat) (s : State),
    (let start := exec (if cold then .coldStart env else .warmStart env) s
      let before : State := if cold then { s with power := { s.power with
        domains := tmod (tmod s.power.domains 0 (fun d => { d with state := .on })) 1 (fun d => { d with state := .on }) } } else s
      ((cold = true → s.boot.phase = .cold ∨ s.boot.phase = .dark) ∧ (cold = false → s.boot.phase = .warm) ∧
        s.sheet.valid = !cold →
        (env.vbat < 6500 → ∃ t, start = .next t ∧ t = s) ∧
        (6500 ≤ env.vbat → env.us ≤ 126000 → env.vdie = false → ∃ t, start = .next t ∧ t.boot.phase = .noImage ∧
          (tget t.power.domains 3).state = .off ∧ t.eave.depth = 4 ∧ t.sheet.valid = true ∧
          t.sheet.bootCount = wrapAdd 32 s.sheet.bootCount 1 ∧ t.fix = s.fix ∧ (cold = true → t.time.unset = true)) ∧
        (6500 ≤ env.vbat → env.us ≤ 126000 → (∀ k, (s.ticket k).state = .free) →
          let runs (n : Nat) (t : State) : Prop := t.boot.phase = .run ∧ t.stew.running = true ∧ t.host.ready = true ∧
            t.power.mode = .holdover ∧ t.safe.runs = n ∧ t.sheet.valid = true ∧
            t.sheet.bootCount = wrapAdd 32 s.sheet.bootCount 1 ∧ t.sheet.resetCause = (if cold then 0 else s.boot.cause) ∧
            (cold = true → t.time.unset = true)
          (∀ (u : State) (n k : Nat), chooseImage (prepareStart cold env before) = (u, some (n, k)) →
            ∃ t, start = .next t ∧ runs n t ∧ (k ≠ 1 → t.safe.trialEnd = none)) ∧
          (env.vdie = true → (tget s.safe.images 0).state = 3 → (tget s.safe.images 0).boots < 3 → env.loads.1 = true →
            ∃ t, start = .next t ∧ runs 0 t ∧ t.safe.trialEnd ≠ none ∧
              (tget t.safe.images 0).boots = (tget s.safe.images 0).boots + 1)))) ∧
    (s.vault.alive = false → (chooseImage s).2 = none) ∧
    (∀ n, n < 2 → s.vault.alive = true → (tget s.safe.images n).state = 4 →
      s.rollback ≤ (tget s.safe.images n).rollback → (tget s.safe.images (1 - n)).state ≠ 3 →
      (tget s.safe.images (1 - n)).state ≠ 4 →
      ((tget s.safe.images n).loads = true → chooseImage s = (s, some (n, 0))) ∧
      ((tget s.safe.images n).loads = false → chooseImage s = (s, none))) ∧
    (5500 ≤ vbat → ∃ t, exec (.supplyFault vbat vhold) s = .next t ∧ t = s) ∧
    (vbat < 5500 → s.boot.phase = .dark ∨ s.boot.phase = .waitVbat → ∃ t, exec (.supplyFault vbat vhold) s = .next t ∧ t = s) ∧
    (vbat < 5500 → s.boot.phase = .run ∨ s.boot.phase = .warm ∨ s.boot.phase = .noImage ∨ s.boot.phase = .cold →
      ∃ t, exec (.supplyFault vbat vhold) s = .next t ∧ t.boot.phase = .waitVbat ∧ t.sheet.resetCause = 1 ∧
        t.sheet.resetStamp = s.now ∧ t.power.mode = .holdover ∧ t.stew.running = false ∧ t.host.ready = false ∧
        t.sheet.flushRan = true ∧ t.store.queue = [] ∧ t.fix = s.fix) ∧
    (s.boot.phase ≠ .waitVbat → ∃ t, exec .vbatReturn s = .next t ∧ t = s) ∧
    (s.boot.phase = .waitVbat → ∃ t, exec .vbatReturn s = .next t ∧
      t = { s with boot := { s.boot with phase := if s.sheet.valid then .warm else .cold } }) ∧
    (∀ x ∈ [(Instr.watchdog, 2), (.lockstep, 3), (.dieLink, 5)],
      (s.stew.running = false → ∃ t, exec x.1 s = .next t ∧ t = s) ∧
      (s.stew.running = true → s.eave.depth ≤ 2 → ∃ t, exec x.1 s = .next t ∧ t.boot.phase = .warm ∧
        t.sheet.resetCause = x.2 ∧ t.sheet.resetStamp = s.now ∧
        t.sheet.faultResets = satAdd 0xFFFFFFFF s.sheet.faultResets 1 ∧ t.power.mode = .holdover ∧
        t.stew.running = false ∧ t.fix = s.fix)) ∧
    (∃ t, exec .pd0AonPowerLoss s = .next t ∧ t.boot.phase = .dark ∧ t.sheet = {} ∧ t.stew = {} ∧ t.ciph = {} ∧
      t.fix = s.fix ∧ t.store.log = s.store.log ∧ t.store.ring = s.store.ring ∧ t.store.counters = s.store.counters ∧
      t.store.charter = s.store.charter ∧ t.store.lockA = s.store.lockA ∧ t.store.lockB = s.store.lockB ∧
      t.store.queue = [] ∧ t.store.running = none ∧ (∀ o, s.store.running = some o → t.store.cut = some o.act) ∧
      t.safe.images = s.safe.images.map Image.kept ∧ t.safe.sort = []) ∧
    (s.sheet.bytes.length = 0x8000 ∧ ∀ k : Fin 128, slice s.sheet.bytes (0x100 + 32 * k.val) 32 = (s.ticket k.val).bytes)
end

