-- ==== Sys2Proof/Laws/Charter.lean ====
section
/-! SUPPORT. The charter page at factory lock is valid (R241, R242). -/

namespace Sys2Proof.Machine

/-- Shifts of the register of R239 stay in 32 bits. -/
theorem crcReflected_lt : ∀ (k c : Nat), c < 2 ^ 32 → crcReflected 0xEDB88320 k c < 2 ^ 32
  | 0, _, h => h
  | k + 1, c, h => by
    unfold crcReflected
    apply crcReflected_lt
    split
    · exact Nat.xor_lt_two_pow (by omega) (by decide)
    · omega

theorem crc32_lt (b : Bytes) : crc32 b < 2 ^ 32 := by
  unfold crc32
  refine Nat.xor_lt_two_pow ?_ (by decide)
  suffices h : ∀ c, c < 2 ^ 32 → b.foldl (fun c x => crcReflected 0xEDB88320 8 (c ^^^ x.toNat)) c < 2 ^ 32 from h _ (by decide)
  induction b with
  | nil => exact fun _ h => h
  | cons x xs ih =>
    intro c h
    exact ih _ (crcReflected_lt _ _ (Nat.xor_lt_two_pow h (Nat.lt_trans x.isLt (by decide))))

/-- The page up to its last, empty part. -/
def factoryHead (n : Nat) : Bytes :=
  leBytes 2 1 ++ leBytes 1 2 ++ zeros 1 ++ leBytes 4 0 ++ [0x58, 0x58] ++ zeros 2 ++ leBytes 4 n ++ zeros 48
    ++ factoryBand 433050000 100 175 40 360000 ++ factoryBand 868050000 1000 6 56 36000

theorem factoryPage_eq (n : Nat) : factoryPage n = factoryHead n ++ zeros 3904 := by
  simp only [factoryPage, factoryHead]

theorem leBytes_length : ∀ n v : Nat, (leBytes n v).length = n
  | 0, _ => rfl
  | n + 1, v => congrArg (· + 1) (leBytes_length n (v / 256))

theorem factoryHead_length (n : Nat) : (factoryHead n).length = 192 := by
  simp [factoryHead, factoryBand, leBytes_length, zeros]

theorem factoryPage_length (n : Nat) : (factoryPage n).length = 4096 := by
  rw [factoryPage_eq, List.length_append, factoryHead_length, zeros, List.length_replicate]

/-- What lies before the empty part of the page. -/
theorem slice_factoryPage (n off len : Nat) (h : off + len ≤ 192) :
    slice (factoryPage n) off len = slice (factoryHead n) off len := by
  have k := factoryHead_length n
  rw [factoryPage_eq, slice, slice, List.drop_append_of_le_length (by omega), List.take_append_of_le_length (by
    rw [List.length_drop]; omega)]

theorem u8At_factoryPage (n off : Nat) (h : off < 192) : u8At (factoryPage n) off = u8At (factoryHead n) off := by
  rw [factoryPage_eq, u8At, u8At, List.getD_append _ _ _ _ (by rw [factoryHead_length]; exact h)]

theorem charterCrc_factoryPage (n : Nat) : charterCrc (factoryPage n) = crc32 (factoryPage 0) := by
  have k (m : Nat) := factoryHead_length m
  have h : (factoryPage n).take 12 ++ zeros 4 ++ (factoryPage n).drop 16 = factoryPage 0 := by
    rw [factoryPage_eq, factoryPage_eq, List.take_append_of_le_length (by rw [k]; omega),
      List.drop_append_of_le_length (by rw [k]; omega), ← List.append_assoc]
    exact congrArg (· ++ zeros 3904) rfl
  rw [charterCrc, h]

theorem u32At_factoryPage (n : Nat) (h : n < 2 ^ 32) : u32At (factoryPage n) 12 = n := by
  rw [u32At, slice_factoryPage _ _ _ (by omega)]
  have : slice (factoryHead n) 12 4 = leBytes 4 n := rfl
  rw [this]
  simp only [leBytes, leNat, BitVec.toNat_ofNat]
  omega

theorem allZero_zeros (n : Nat) : allZero (zeros n) = true := by
  simp [allZero, zeros]

theorem bandCount_factoryPage (n : Nat) : u8At (factoryPage n) 2 = 2 := by
  rw [u8At_factoryPage _ _ (by omega)]; rfl

theorem bandAt_factoryPage (n : Nat) : bandAt (factoryPage n) 0 = factoryBand 433050000 100 175 40 360000 ∧
    bandAt (factoryPage n) 1 = factoryBand 868050000 1000 6 56 36000 := by
  rw [bandAt, bandAt, slice_factoryPage _ _ _ (by omega), slice_factoryPage _ _ _ (by omega)]
  exact ⟨rfl, rfl⟩

theorem usedBands_factoryPage (n : Nat) : usedBands (factoryPage n) =
    [factoryBand 433050000 100 175 40 360000, factoryBand 868050000 1000 6 56 36000] := by
  rw [usedBands, bandCount_factoryPage]
  show [bandAt _ 0, bandAt _ 1] = _
  rw [(bandAt_factoryPage n).1, (bandAt_factoryPage n).2]

theorem bandOf_factoryPage (n f : Nat) : bandOf (factoryPage n) f =
    if bandAdmits (factoryBand 433050000 100 175 40 360000) f then some 0
    else if bandAdmits (factoryBand 868050000 1000 6 56 36000) f then some 1 else none := by
  rw [bandOf, bandCount_factoryPage]
  show List.find? _ [0, 1] = _
  simp only [List.find?, (bandAt_factoryPage n).1, (bandAt_factoryPage n).2]
  repeat' split
  all_goals simp_all

/-- The factory charter is valid (R241). -/
theorem charterOk_factory : charterOk factoryCharter = true := by
  unfold factoryCharter
  have h := crc32_lt (factoryPage 0)
  generalize e : crc32 (factoryPage 0) = n at h
  have h8 (off : Nat) (k : off < 192) := u8At_factoryPage n off k
  have h2 := bandCount_factoryPage n
  have h3 : u8At (factoryPage n) 3 = 0 := by rw [h8 _ (by omega)]; rfl
  have h0 : u16At (factoryPage n) 0 = 1 := by rw [u16At, slice_factoryPage _ _ _ (by omega)]; rfl
  have ha : allZero (slice (factoryPage n) 10 2) = true := by rw [slice_factoryPage _ _ _ (by omega)]; rfl
  have hb : allZero (slice (factoryPage n) 16 48) = true := by rw [slice_factoryPage _ _ _ (by omega)]; rfl
  have hz : allZero ((factoryPage n).drop 192) = true := by
    rw [factoryPage_eq, List.drop_left' (factoryHead_length n)]; exact allZero_zeros _
  have hu : (usedBands (factoryPage n)).all bandOk = true ∧ bandsApart (usedBands (factoryPage n)) = true := by
    rw [usedBands_factoryPage]; decide +kernel
  unfold charterOk
  rw [factoryPage_length, charterCrc_factoryPage, u32At_factoryPage n h, h0, h2, h3, ha, hb, hu.1, hu.2, hz, e]
  simp

end Sys2Proof.Machine
end

