-- ==== Sys2Proof/Laws/Memory.lean ====
section
/-! SUPPORT. Laws of byte memory: a write keeps the canonical form, is read back, and leaves every other byte alone. -/

namespace Sys2Proof.Machine

/-- A lower bound of the addresses may be lowered. -/
theorem Memory.wfFrom_mono {lo lo' : Nat} {m : List Host.Cell} (h : Memory.wfFrom lo m = true) (hl : lo' ≤ lo) :
    Memory.wfFrom lo' m = true := by
  cases m with
  | nil => rfl
  | cons c r =>
    simp only [Memory.wfFrom, Bool.and_eq_true, decide_eq_true_eq] at h ⊢
    exact ⟨⟨by omega, h.1.2⟩, h.2⟩

/-- A write at or above the lower bound keeps the canonical form. -/
theorem Memory.wfFrom_write (a : Nat) (b : Byte) : ∀ (m : List Host.Cell) (lo : Nat), Memory.wfFrom lo m = true → lo ≤ a →
    Memory.wfFrom lo (Memory.write m a b) = true
  | [], lo, _, hl => by
    by_cases hb : b = Memory.blank <;> simp [Memory.write, Memory.wfFrom, hb, hl]
  | c :: r, lo, h, hl => by
    simp only [Memory.wfFrom, Bool.and_eq_true, decide_eq_true_eq] at h
    by_cases hlt : a < c.1
    · by_cases hb : b = Memory.blank
      · simp [Memory.write, hlt, hb, Memory.wfFrom, h.1.1, h.1.2, h.2]
      · simp [Memory.write, hlt, hb, Memory.wfFrom, hl, h.1.2, h.2]
    · by_cases he : a = c.1
      · by_cases hb : b = Memory.blank
        · simp only [Memory.write, he, hb, lt_self_iff_false, if_false, if_true]
          exact Memory.wfFrom_mono h.2 (by omega)
        · simp [Memory.write, he, hb, Memory.wfFrom, h.1.1, h.2]
      · simp only [Memory.write, hlt, he, if_false, Memory.wfFrom, Bool.and_eq_true, decide_eq_true_eq]
        exact ⟨h.1, Memory.wfFrom_write a b r _ h.2 (by omega)⟩

/-- A write keeps the canonical form. -/
theorem Memory.wf_write {m : List Host.Cell} (h : Memory.wf m = true) (a : Nat) (b : Byte) :
    Memory.wf (Memory.write m a b) = true := Memory.wfFrom_write a b m 0 h (Nat.zero_le a)

/-- A write of bytes keeps the canonical form. -/
theorem Memory.wf_writeBytes (bs : Bytes) : ∀ (m : List Host.Cell) (a : Nat), Memory.wf m = true →
    Memory.wf (Memory.writeBytes m a bs) = true := by
  induction bs with
  | nil => exact fun _ _ h => h
  | cons b bs ih => exact fun m a h => ih _ _ (Memory.wf_write h a b)

/-- A byte below the lower bound of the addresses is blank. -/
theorem Memory.read_below {m : List Host.Cell} : ∀ {lo a : Nat}, Memory.wfFrom lo m = true → a < lo →
    Memory.read m a = Memory.blank := by
  induction m with
  | nil => intros; rfl
  | cons c r ih =>
    intro lo a h ha
    simp only [Memory.wfFrom, Bool.and_eq_true, decide_eq_true_eq] at h
    have hne : (c.1 == a) = false := by simp; omega
    have := ih (a := a) h.2 (by omega)
    simpa [Memory.read, List.find?_cons, hne] using this

/-- What is written is read back. -/
theorem Memory.read_write_same (a : Nat) (b : Byte) : ∀ (m : List Host.Cell) (lo : Nat), Memory.wfFrom lo m = true →
    Memory.read (Memory.write m a b) a = b
  | [], _, _ => by
    by_cases hb : b = Memory.blank <;> simp [Memory.write, Memory.read, hb]
  | c :: r, lo, h => by
    simp only [Memory.wfFrom, Bool.and_eq_true, decide_eq_true_eq] at h
    by_cases hlt : a < c.1
    · by_cases hb : b = Memory.blank
      · have h2 : Memory.wfFrom c.1 (c :: r) = true := by simp [Memory.wfFrom, h.1.2, h.2]
        simpa [Memory.write, hlt, hb] using Memory.read_below h2 hlt
      · simp [Memory.write, hlt, hb, Memory.read]
    · by_cases he : a = c.1
      · by_cases hb : b = Memory.blank
        · subst hb
          simpa [Memory.write, he] using Memory.read_below h.2 (Nat.lt_succ_self c.1)
        · simp [Memory.write, he, hb, Memory.read]
      · have hne : (c.1 == a) = false := by simp; omega
        have := Memory.read_write_same a b r _ h.2
        simpa [Memory.write, hlt, he, Memory.read, List.find?_cons, hne] using this

/-- Every other byte reads as before. -/
theorem Memory.read_write_other (a x : Nat) (b : Byte) (hx : x ≠ a) : ∀ (m : List Host.Cell),
    Memory.read (Memory.write m a b) x = Memory.read m x
  | [] => by
    by_cases hb : b = Memory.blank <;> simp [Memory.write, Memory.read, hb, Ne.symm hx]
  | c :: r => by
    have hne : (a == x) = false := by simp; omega
    by_cases hlt : a < c.1
    · by_cases hb : b = Memory.blank <;> simp [Memory.write, hlt, hb, Memory.read, List.find?_cons, hne]
    · by_cases he : a = c.1
      · have hc : (c.1 == x) = false := by simp; omega
        by_cases hb : b = Memory.blank <;> simp [Memory.write, he, hb, Memory.read, hc]
      · have := Memory.read_write_other a x b hx r
        by_cases hcx : (c.1 == x) = true
        · simp [Memory.write, hlt, he, Memory.read, hcx]
        · simp only [Bool.not_eq_true] at hcx
          simpa [Memory.write, hlt, he, Memory.read, List.find?_cons, hcx] using this

/-- Bytes outside those written read as before. -/
theorem Memory.read_writeBytes_other (bs : Bytes) (x : Nat) : ∀ (m : List Host.Cell) (a : Nat), x < a ∨ a + bs.length ≤ x →
    Memory.read (Memory.writeBytes m a bs) x = Memory.read m x := by
  induction bs with
  | nil => intros; rfl
  | cons b bs ih =>
    intro m a h
    rw [Memory.writeBytes, ih _ _ (by simp only [List.length_cons] at h; omega)]
    exact Memory.read_write_other a x b (by simp only [List.length_cons] at h; omega) m

end Sys2Proof.Machine
end

