-- ==== Sys2Proof/Laws/Keep.lean ====
section
/-! SUPPORT. What every command of the block keeps, as one relation between the state before and the state after, and
how the shared operations carry it along. A command's own lemma then follows the calls of its meaning. -/

namespace Sys2Proof.Machine

/-- The DP window is canonical and both ring indexes lie in the ring. -/
def HostLink.ok (h : HostLink) : Prop := Memory.wf h.window = true ∧ h.evtHead < 512 ∧ h.evtTail < 512

/-- What no operation of the parameter store undoes: a lock bit, the charter under it, the mesh latch, the set numbers. -/
structure StoreKeep (a b : Store) : Prop where
  lockA : a.lockA = true → b.lockA = true
  lockB : a.lockB = true → b.lockB = true
  charter : a.lockA = true ∨ a.lockB = true → b.charter = a.charter
  mesh : a.meshBroken = true → b.meshBroken = true
  nextSet : a.nextSet ≤ b.nextSet

/-- What every command keeps. -/
structure Keep (r s : State) : Prop where
  pending : s.pending = r.pending
  host : r.host.ok → s.host.ok
  store : StoreKeep r.store s.store
  vault : r.vault.writeSeq ≤ s.vault.writeSeq
  sort : r.safe.sort.length ≤ 2048 → s.safe.sort.length ≤ 2048

/-- What every next state of an outcome keeps. -/
structure KeepOut (r : State) (o : Out) : Prop where
  next : ∀ t, o = .next t → Keep r t

theorem StoreKeep.refl (a : Store) : StoreKeep a a := ⟨id, id, fun _ => rfl, id, Nat.le_refl _⟩

theorem StoreKeep.trans {a b c : Store} (h : StoreKeep a b) (k : StoreKeep b c) : StoreKeep a c where
  lockA x := k.lockA (h.lockA x)
  lockB x := k.lockB (h.lockB x)
  charter x := (k.charter (x.imp h.lockA h.lockB)).trans (h.charter x)
  mesh x := k.mesh (h.mesh x)
  nextSet := Nat.le_trans h.nextSet k.nextSet

/-- A store change that leaves the five fields alone. -/
theorem storeKeep_same {a b : Store} (h1 : b.lockA = a.lockA) (h2 : b.lockB = a.lockB) (h3 : b.charter = a.charter)
    (h4 : b.meshBroken = a.meshBroken) (h5 : b.nextSet = a.nextSet) : StoreKeep a b :=
  ⟨fun h => h1.trans h, fun h => h2.trans h, fun _ => h3, fun h => h4.trans h, Nat.le_of_eq h5.symm⟩

theorem Keep.refl (s : State) : Keep s s := ⟨rfl, id, StoreKeep.refl _, Nat.le_refl _, id⟩

theorem Keep.trans {a b c : State} (h : Keep a b) (k : Keep b c) : Keep a c where
  pending := k.pending.trans h.pending
  host x := k.host (h.host x)
  store := h.store.trans k.store
  vault := Nat.le_trans h.vault k.vault
  sort x := k.sort (h.sort x)

theorem keepOut_next {r t : State} (h : Keep r t) : KeepOut r (.next t) := ⟨fun _ e => by cases e; exact h⟩

/-- Either branch keeps. -/
theorem keep_ite {r a b : State} {c : Prop} [Decidable c] (ha : Keep r a) (hb : Keep r b) :
    Keep r (if c then a else b) := by split <;> assumption

/-- The first part of a pair that is known by an equation. -/
theorem keep_ofFst {r t : State} {α : Type} {a : State × α} {x : α} (e : a = (t, x)) (h : Keep r a.1) : Keep r t := by
  subst e; exact h

theorem keep_id {r s : State} (h : Keep r s) : Keep r (id s) := h

/-- A fold keeps when each of its steps does. -/
theorem keep_foldl {r : State} {α : Type} {f : State → α → State} (hf : ∀ s x, Keep r s → Keep r (f s x)) :
    ∀ (l : List α) {s : State}, Keep r s → Keep r (l.foldl f s)
  | [], _, h => h
  | x :: xs, _, h => keep_foldl hf xs (hf _ x h)

/-- A fold from the right keeps when each of its steps does. -/
theorem keep_foldr {r : State} {α : Type} {f : α → State → State} (hf : ∀ x s, Keep r s → Keep r (f x s)) {s : State}
    (h : Keep r s) : ∀ l : List α, Keep r (l.foldr f s)
  | [] => h
  | x :: xs => hf x _ (keep_foldr hf h xs)

/-- A fold over a pair keeps in its first part when each of its steps does. -/
theorem keep_foldlFst {r : State} {α β : Type} {f : State × β → α → State × β}
    (hf : ∀ a x, Keep r a.1 → Keep r (f a x).1) : ∀ (l : List α) {a : State × β}, Keep r a.1 → Keep r (l.foldl f a).1
  | [], _, h => h
  | x :: xs, _, h => keep_foldlFst hf xs (hf _ x h)

/-! ### One part of the state changed -/

theorem keep_modHost {r s : State} {f : HostLink → HostLink} (hf : s.host.ok → (f s.host).ok) (h : Keep r s) :
    Keep r (s.modHost f) := ⟨h.pending, fun x => hf (h.host x), h.store, h.vault, h.sort⟩
theorem keep_modStore {r s : State} {f : Store → Store} (hf : StoreKeep s.store (f s.store)) (h : Keep r s) :
    Keep r (s.modStore f) := ⟨h.pending, h.host, h.store.trans hf, h.vault, h.sort⟩
theorem keep_modVault {r s : State} {f : Vault → Vault} (hf : s.vault.writeSeq ≤ (f s.vault).writeSeq) (h : Keep r s) :
    Keep r (s.modVault f) := ⟨h.pending, h.host, h.store, Nat.le_trans h.vault hf, h.sort⟩
theorem keep_modSafe {r s : State} {f : Safe → Safe}
    (hf : s.safe.sort.length ≤ 2048 → (f s.safe).sort.length ≤ 2048) (h : Keep r s) :
    Keep r (s.modSafe f) := ⟨h.pending, h.host, h.store, h.vault, fun x => hf (h.sort x)⟩
theorem keep_modMem {r s : State} {f : Mem → Mem} (h : Keep r s) : Keep r (s.modMem f) :=
  ⟨h.pending, h.host, h.store, h.vault, h.sort⟩
theorem keep_modEv {r s : State} {f : EvUnit → EvUnit} (h : Keep r s) : Keep r (s.modEv f) :=
  ⟨h.pending, h.host, h.store, h.vault, h.sort⟩
theorem keep_modSheet {r s : State} {f : Sheet → Sheet} (h : Keep r s) : Keep r (s.modSheet f) :=
  ⟨h.pending, h.host, h.store, h.vault, h.sort⟩
theorem keep_modStew {r s : State} {f : Steward → Steward} (h : Keep r s) : Keep r (s.modStew f) :=
  ⟨h.pending, h.host, h.store, h.vault, h.sort⟩
theorem keep_modConf {r s : State} {f : Conf → Conf} (h : Keep r s) : Keep r (s.modConf f) :=
  ⟨h.pending, h.host, h.store, h.vault, h.sort⟩
theorem keep_modExpo {r s : State} {f : Expo → Expo} (h : Keep r s) : Keep r (s.modExpo f) :=
  ⟨h.pending, h.host, h.store, h.vault, h.sort⟩
theorem keep_modTime {r s : State} {f : TimeBase → TimeBase} (h : Keep r s) : Keep r (s.modTime f) :=
  ⟨h.pending, h.host, h.store, h.vault, h.sort⟩
theorem keep_modPower {r s : State} {f : Power → Power} (h : Keep r s) : Keep r (s.modPower f) :=
  ⟨h.pending, h.host, h.store, h.vault, h.sort⟩
theorem keep_modEave {r s : State} {f : Eave → Eave} (h : Keep r s) : Keep r (s.modEave f) :=
  ⟨h.pending, h.host, h.store, h.vault, h.sort⟩
theorem keep_modLane {r s : State} {f : Lane → Lane} (h : Keep r s) : Keep r (s.modLane f) :=
  ⟨h.pending, h.host, h.store, h.vault, h.sort⟩
theorem keep_modAccess {r s : State} {f : Access → Access} (h : Keep r s) : Keep r (s.modAccess f) :=
  ⟨h.pending, h.host, h.store, h.vault, h.sort⟩
theorem keep_modLf {r s : State} {f : Lf → Lf} (h : Keep r s) : Keep r (s.modLf f) :=
  ⟨h.pending, h.host, h.store, h.vault, h.sort⟩
theorem keep_modUhf {r s : State} {f : Uhf → Uhf} (h : Keep r s) : Keep r (s.modUhf f) :=
  ⟨h.pending, h.host, h.store, h.vault, h.sort⟩
theorem keep_modRange {r s : State} {f : Range → Range} (h : Keep r s) : Keep r (s.modRange f) :=
  ⟨h.pending, h.host, h.store, h.vault, h.sort⟩
theorem keep_modSw {r s : State} {f : Switch → Switch} (h : Keep r s) : Keep r (s.modSw f) :=
  ⟨h.pending, h.host, h.store, h.vault, h.sort⟩
theorem keep_modCiph {r s : State} {f : Cipher → Cipher} (h : Keep r s) : Keep r (s.modCiph f) :=
  ⟨h.pending, h.host, h.store, h.vault, h.sort⟩
theorem keep_modGrain {r s : State} {f : Grain → Grain} (h : Keep r s) : Keep r (s.modGrain f) :=
  ⟨h.pending, h.host, h.store, h.vault, h.sort⟩
theorem keep_modFix {r s : State} {f : Fixer → Fixer} (h : Keep r s) : Keep r (s.modFix f) :=
  ⟨h.pending, h.host, h.store, h.vault, h.sort⟩
theorem keep_modBoot {r s : State} {f : Boot → Boot} (h : Keep r s) : Keep r (s.modBoot f) :=
  ⟨h.pending, h.host, h.store, h.vault, h.sort⟩
theorem keep_useFree {r s : State} (h : Keep r s) : Keep r s.useFree := ⟨h.pending, h.host, h.store, h.vault, h.sort⟩

/-- The counter of free values moved on by any amount. -/
theorem keep_free {r s : State} {n : Nat} (h : Keep r s) : Keep r { s with free := n } :=
  ⟨h.pending, h.host, h.store, h.vault, h.sort⟩

/-! ### The host link and the log -/

/-- A change of the host link that leaves the window and the ring alone. -/
theorem hostOk_same {a b : HostLink} (h1 : b.window = a.window) (h2 : b.evtHead = a.evtHead) (h3 : b.evtTail = a.evtTail)
    (h : a.ok) : b.ok := by
  unfold HostLink.ok at *
  rw [h1, h2, h3]
  exact h

theorem hostOk_raise {h : HostLink} {b : Nat} (k : h.ok) : (h.raise b).ok := k

theorem hostOk_flag {h g : HostLink} (k : g.ok) : (h.flag g).ok := by
  unfold HostLink.flag
  split <;> exact k

theorem hostOk_mk {h : HostLink} (h1 : Memory.wf h.window = true) (h2 : h.evtHead < 512) (h3 : h.evtTail < 512) : h.ok :=
  ⟨h1, h2, h3⟩

/-- Records that move on keep the window canonical. -/
theorem wf_ringShift {h : HostLink} (w : Memory.wf h.window = true) : ∀ k, Memory.wf (h.ringShift k) = true
  | 0 => w
  | k + 1 => Memory.wf_writeBytes _ _ _ (wf_ringShift w k)

theorem hostOk_ringWrite {h : HostLink} {n c : Nat} {r : EvRec} (k : h.ok) : (h.ringWrite n c r).ok := by
  have hh : (h.evtHead + 1) % 512 < 512 := Nat.mod_lt _ (by decide)
  unfold HostLink.ringWrite
  generalize (if r.code = 0x0101 then 0 else h.overtaken n r.key) = j
  have hw : Memory.wf (Memory.writeBytes (h.ringShift j) (ringOff ((h.evtHead + 512 - j) % 512)) r.bytes) = true :=
    Memory.wf_writeBytes r.bytes _ _ (wf_ringShift k.1 j)
  dsimp only
  generalize Memory.writeBytes (h.ringShift j) (ringOff ((h.evtHead + 512 - j) % 512)) r.bytes = m at hw
  generalize (h.evtHead + 1) % 512 = i at hh
  split
  · exact hostOk_raise (hostOk_mk hw hh k.2.2)
  · exact hostOk_mk hw hh k.2.2

theorem hostOk_ringPut {h : HostLink} {n c : Nat} {r : EvRec} (k : h.ok) : (h.ringPut n c r).ok := by
  unfold HostLink.ringPut
  split
  · exact hostOk_ringWrite k
  · exact hostOk_raise k

theorem hostOk_take {h : HostLink} {p i : Bool} {n c : Nat} {r : EvRec} (k : h.ok) : (h.take p i n c r).ok := by
  unfold HostLink.take
  split
  · split
    · exact hostOk_ringPut k
    · exact k
  · exact hostOk_same rfl rfl rfl k

/-- A change that writes bytes of the window and leaves the ring alone. -/
theorem hostOk_writeBytes {a b : HostLink} {n : Nat} {d : Bytes} (h1 : b.window = Memory.writeBytes a.window n d)
    (h2 : b.evtHead = a.evtHead) (h3 : b.evtTail = a.evtTail) (h : a.ok) : b.ok :=
  hostOk_mk (h1 ▸ Memory.wf_writeBytes d _ _ h.1) (h2 ▸ h.2.1) (h3 ▸ h.2.2)

theorem hostOk_from {a b : HostLink} (h : a.ok) (h1 : b.window = a.window) (h2 : b.evtHead = a.evtHead)
    (h3 : b.evtTail = a.evtTail) : b.ok := hostOk_same h1 h2 h3 h

/-- A host link with nothing in its window and its ring. -/
theorem hostOk_empty {h : HostLink} (h1 : h.window = []) (h2 : h.evtHead = 0) (h3 : h.evtTail = 0) : h.ok := by
  unfold HostLink.ok
  rw [h1, h2, h3]
  decide

/-- A change of the window that keeps it canonical and leaves the ring alone. -/
theorem hostOk_window {a b : HostLink} (h1 : Memory.wf a.window = true → Memory.wf b.window = true)
    (h2 : b.evtHead = a.evtHead) (h3 : b.evtTail = a.evtTail) (h : a.ok) : b.ok :=
  hostOk_mk (h1 h.1) (h2 ▸ h.2.1) (h3 ▸ h.2.2)

theorem sort_log {f : Safe} {n : Nat} {r : EvRec} (h : f.sort.length ≤ 2048) : (f.log n r).sort.length ≤ 2048 := by
  unfold Safe.log
  split
  · simp; omega
  · exact h

/-! ### Shared shapes -/

theorem keep_advance {r s : State} {k : Nat} (h : Keep r s) : Keep r (advance k s) := by
  unfold advance
  split <;> exact keep_modTime h

theorem keep_reach {r s : State} {k : Nat} (h : Keep r s) : Keep r (reach k s) := keep_advance h

theorem keep_atDue {r s : State} {d : Nat} {k : State → State} (hk : ∀ t, Keep r t → Keep r (k t)) (h : Keep r s) :
    Keep r (atDue d s k) := by
  unfold atDue
  split
  · exact hk _ (keep_reach h)
  · exact h

theorem keep_command {r s : State} {tk op : Nat} {f : Work → State → State} (hf : ∀ w t, Keep r t → Keep r (f w t))
    (h : Keep r s) : Keep r (command tk op f s) := by
  unfold command
  split
  · exact hf _ _ h
  · exact h

theorem keep_walkTiles {r : State} {f : Nat → Req → State → State × Nat × Bytes} {q : Req}
    (hf : ∀ n t, Keep r t → Keep r (f n q t).1) : ∀ (l : List Nat) {s : State}, Keep r s → Keep r (walkTiles f q l s).1
  | [], _, h => h
  | n :: ns, _, h => keep_walkTiles hf ns (hf n _ h)

theorem keep_putEvent {r s : State} {e : EvRec} (h : Keep r s) : Keep r (putEvent e s) := by
  unfold putEvent
  dsimp only
  have h0 : Keep r (s.modSafe (fun f => f.log s.now e)) := keep_modSafe sort_log h
  have h1 : Keep r ((s.modSafe (fun f => f.log s.now e)).modHost (fun g => g.take s.stew.running
    ((s.nat 1 5).testBit (e.code / 256)) s.now (s.nat 1 6) e)) := keep_modHost hostOk_take h0
  split
  · exact keep_modHost (hostOk_same rfl rfl rfl) h1
  · exact h1

end Sys2Proof.Machine
end

