-- ==== Sys2Proof/Laws/Vault.lean ====
section
/-! SUPPORT. What the operations over the blocks of the vault do to WRITE_SEQ: it never goes back (R409). -/

namespace Sys2Proof.Machine

@[simp] theorem Vault.erase_writeSeq (v : Vault) (b : Nat) : (v.erase b).writeSeq = v.writeSeq := rfl

@[simp] theorem Vault.giveUp_writeSeq (v : Vault) (b : Nat) : (v.giveUp b).writeSeq = v.writeSeq := by
  unfold Vault.giveUp
  split
  · rfl
  · split
    · rfl
    · dsimp only; split <;> rfl

theorem Vault.takeSpare_writeSeq {v u : Vault} {b x : Nat} (h : v.takeSpare b = some (x, u)) : u.writeSeq = v.writeSeq := by
  have hu : (if v.spares = 0 then v.giveUp b else v).writeSeq = v.writeSeq := by split <;> simp
  unfold Vault.takeSpare at h
  dsimp only at h
  generalize (if v.spares = 0 then v.giveUp b else v) = w at hu h
  split at h
  · cases h; exact hu
  · split at h
    · cases h; exact hu
    · cases h

theorem Vault.relocate_writeSeq (v : Vault) (p b n : Nat) : v.writeSeq ≤ (v.relocate p b n).writeSeq := by
  unfold Vault.relocate
  split
  · exact Nat.le_refl _
  · exact Nat.le_add_right _ _

theorem Vault.refresh_writeSeq (v : Vault) (p b n : Nat) : v.writeSeq ≤ (v.refresh p b n).writeSeq := by
  unfold Vault.refresh
  split
  · exact v.relocate_writeSeq p b n
  · exact Nat.le_refl _

theorem Vault.undo_writeSeq (v : Vault) (b : Nat) : v.writeSeq ≤ (v.undo b).writeSeq := by
  unfold Vault.undo
  split
  · exact Nat.le_refl _
  · next h => exact Nat.le_of_eq (takeSpare_writeSeq h).symm

theorem Vault.retire_writeSeq (v : Vault) (p b n : Nat) : v.writeSeq ≤ (v.retire p b n).writeSeq := by
  unfold Vault.retire
  dsimp only
  split
  · exact v.relocate_writeSeq p b n
  · cases h : v.takeSpare b with
    | none => exact Nat.le_refl _
    | some x => exact Nat.le_of_eq (takeSpare_writeSeq h).symm

@[simp] theorem Vault.openPage_writeSeq (v : Vault) (p : Nat) : (v.openPage p).writeSeq = v.writeSeq := by
  unfold Vault.openPage
  dsimp only
  split <;> rfl

theorem Vault.program_writeSeq (v : Vault) (p n : Nat) : v.writeSeq ≤ (v.program p n).writeSeq := by
  unfold Vault.program
  dsimp only
  split <;> exact Nat.le_succ _

theorem Vault.clear_writeSeq (v : Vault) (p : Nat) : v.writeSeq ≤ (v.clear p).writeSeq := by
  have k : ∀ (l : List Nat) (u : Vault), (l.foldl Vault.erase u).writeSeq = u.writeSeq := by
    intro l
    induction l with
    | nil => intro u; rfl
    | cons b bs ih => intro u; exact (ih (u.erase b)).trans rfl
  exact Nat.le_of_eq (k _ v).symm

end Sys2Proof.Machine
end

