-- ==== Sys2Proof/Laws/KeepShared.lean ====
section
/-! SUPPORT. What the operations and commands of the shared operations, the host link, the store, staging, time and modes keep: one lemma per
definition, each following the calls of its body. -/

namespace Sys2Proof.Machine

theorem keep_emitAs {r s : State} {x0 : Nat} {x1 : Nat} {x2 : Nat} {x3 : Nat} {x4 : Nat} {x5 : Nat} {x6 : Bytes} (h : Keep r s) :
    Keep r (emitAs x0 x1 x2 x3 x4 x5 x6 s) := by
  unfold emitAs
  repeat' first | with_reducible assumption | with_reducible apply keep_putEvent | with_reducible apply keep_modEv

theorem keep_emit {r s : State} {x0 : Nat} {x1 : Nat} {x2 : optParam Bytes []} {x3 : optParam Nat 0} {x4 : optParam Nat 255} (h : Keep r s) :
    Keep r (emit x0 x1 x2 x3 x4 s) := by
  unfold emit
  repeat' first | with_reducible assumption | with_reducible apply keep_emitAs

theorem keep_report {r s : State} {x0 : Nat} {x1 : Nat} {x2 : Bytes} {x3 : Nat} (h : Keep r s) :
    Keep r (report x0 x1 x2 x3 s) := by
  unfold report
  repeat' first | with_reducible assumption | with_reducible apply keep_emit | with_reducible apply keep_modBoot | intro _ | with_reducible apply keep_ite | dsimp only | split

theorem keep_frontErr {r s : State} {f : HostLink → HostLink} (hf : s.host.ok → (f s.host).ok) (h : Keep r s) :
    Keep r (frontErr s f) := keep_modHost (fun x => hostOk_flag (hf x)) h

theorem keep_requestAll {r s : State} {x0 : List Nat} (h : Keep r s) :
    Keep r (requestAll x0 s) := by
  unfold requestAll
  repeat' first | with_reducible assumption | with_reducible apply keep_modPower

theorem keep_modTicket {r s : State} {x1 : Nat} {x2 : TicketEntry → TicketEntry} (h : Keep r s) :
    Keep r (State.modTicket s x1 x2) := by
  unfold State.modTicket
  repeat' first | with_reducible assumption | with_reducible apply keep_modSheet

theorem keep_modWork {r s : State} {x1 : Nat} {x2 : Work → Work} (h : Keep r s) :
    Keep r (State.modWork s x1 x2) := by
  unfold State.modWork
  repeat' first | with_reducible assumption | with_reducible apply keep_modStew

theorem keep_finishWith {r s : State} {x0 : Nat} {x1 : Nat} {x2 : Bytes} {x3 : List Bytes} {x4 : Nat} (h : Keep r s) :
    Keep r (finishWith x0 x1 x2 x3 x4 s) := by
  unfold finishWith
  repeat' first | with_reducible assumption | with_reducible apply keep_modStew | with_reducible apply keep_modWork | with_reducible apply keep_modTicket

theorem keep_complete {r s : State} {x0 : Nat} {x1 : Nat} {x2 : Bytes} (h : Keep r s) :
    Keep r (complete x0 x1 x2 s) := by
  unfold complete
  repeat' first | with_reducible assumption | with_reducible apply keep_finishWith

theorem keep_completeTiles {r s : State} {x0 : Nat} {x1 : List WalkItem} {x2 : List TileRes} (h : Keep r s) :
    Keep r (completeTiles x0 x1 x2 s) := by
  unfold completeTiles
  repeat' first | with_reducible assumption | with_reducible apply keep_finishWith | with_reducible apply keep_complete | intro _ | with_reducible apply keep_ite | dsimp only | split

theorem keep_start {r s : State} {x0 : Nat} (h : Keep r s) :
    Keep r (start x0 s) := by
  unfold start
  repeat' first | with_reducible assumption | with_reducible apply keep_modTicket

theorem keep_fanOut {r s : State} {tk op : Nat} {f : Nat → Req → State → State × Nat × Bytes}
    (hf : ∀ n q t, Keep r t → Keep r (f n q t).1) (h : Keep r s) : Keep r (fanOut tk op f s) := by
  unfold fanOut
  refine keep_command (fun w t ht => ?_) h
  dsimp only
  exact keep_completeTiles (keep_walkTiles (fun n t => hf n w.req t) _ ht)

theorem keep_beginWake {r s : State} {x0 : Bool} (h : Keep r s) :
    Keep r (beginWake x0 s) := by
  unfold beginWake
  repeat' first | with_reducible assumption | with_reducible apply keep_modEave | intro _ | with_reducible apply keep_ite

theorem keep_power {r s : State} {x0 : List Nat} (h : Keep r s) :
    Keep r (power x0 s) := by
  unfold power
  repeat' first | with_reducible assumption | with_reducible apply keep_beginWake | with_reducible apply keep_requestAll | intro _ | with_reducible apply keep_ite | dsimp only | split

theorem keep_releaseFragment {r s : State} {x0 : Nat} {x1 : Nat} (h : Keep r s) :
    Keep r (releaseFragment x0 x1 s) := by
  unfold releaseFragment
  repeat' first | with_reducible assumption | with_reducible apply keep_modStew | with_reducible apply keep_modTicket | with_reducible apply keep_modWork | intro _ | with_reducible apply keep_ite | dsimp only | split

theorem keep_releaseMailbox {r s : State} {x0 : Nat} (h : Keep r s) :
    Keep r (releaseMailbox x0 s) := by
  unfold releaseMailbox
  repeat' first | with_reducible assumption | with_reducible apply keep_modHost | with_reducible apply keep_modStew | with_reducible apply keep_releaseFragment | with_reducible exact hostOk_same rfl rfl rfl | with_reducible exact hostOk_raise | with_reducible exact hostOk_writeBytes rfl rfl rfl | with_reducible exact hostOk_ringWrite | with_reducible exact hostOk_ringPut | intro _ | with_reducible apply keep_ite | dsimp only | split

theorem keep_releaseAll {r s : State} {x0 : BitVec 32} (h : Keep r s) :
    Keep r (releaseAll x0 s) := by
  unfold releaseAll
  repeat' first | with_reducible assumption | with_reducible apply keep_releaseMailbox | with_reducible apply keep_foldl

theorem keep_writeLoss {r s : State} (h : Keep r s) :
    Keep r (writeLoss s) := by
  unfold writeLoss
  repeat' first | with_reducible assumption | with_reducible apply keep_modEv | with_reducible apply keep_modHost | with_reducible apply keep_modSafe | exact fun k => hostOk_ringWrite (hostOk_same rfl rfl rfl k) | with_reducible exact hostOk_same rfl rfl rfl | with_reducible exact hostOk_raise | with_reducible exact hostOk_writeBytes rfl rfl rfl | with_reducible exact hostOk_ringWrite | with_reducible exact hostOk_ringPut | with_reducible exact id | with_reducible exact sort_log | with_reducible exact fun _ => Nat.zero_le _ | with_reducible exact fun k => Nat.le_trans (List.length_filter_le _ _) k | intro _ | with_reducible apply keep_ite

theorem keep_moveTail {r s : State} {x0 : BitVec 32} (h : Keep r s) :
    Keep r (moveTail x0 s) := by
  unfold moveTail
  repeat' first | with_reducible assumption | with_reducible apply keep_modHost | with_reducible apply keep_writeLoss | with_reducible apply keep_frontErr | exact fun k => hostOk_mk k.1 k.2.1 (Nat.mod_lt _ (by decide)) | with_reducible exact hostOk_same rfl rfl rfl | with_reducible exact hostOk_raise | with_reducible exact hostOk_writeBytes rfl rfl rfl | with_reducible exact hostOk_ringWrite | with_reducible exact hostOk_ringPut | intro _ | with_reducible apply keep_ite

theorem keep_frontWrite {r s : State} {x0 : Nat} {x1 : BitVec 32} (h : Keep r s) :
    Keep r (frontWrite x0 x1 s) := by
  unfold frontWrite
  repeat' first | with_reducible assumption | with_reducible apply keep_beginWake | with_reducible apply keep_modHost | with_reducible apply keep_releaseAll | with_reducible apply keep_moveTail | with_reducible exact hostOk_same rfl rfl rfl | with_reducible exact hostOk_raise | with_reducible exact hostOk_writeBytes rfl rfl rfl | with_reducible exact hostOk_ringWrite | with_reducible exact hostOk_ringPut | intro _ | with_reducible apply keep_ite | dsimp only | split

theorem keep_csFall {r s : State} (h : Keep r s) :
    Keep r (csFall s) := by
  unfold csFall
  repeat' first | with_reducible assumption | with_reducible apply keep_modHost | with_reducible apply keep_beginWake | with_reducible exact hostOk_same rfl rfl rfl | with_reducible exact hostOk_raise | with_reducible exact hostOk_writeBytes rfl rfl rfl | with_reducible exact hostOk_ringWrite | with_reducible exact hostOk_ringPut | intro _ | with_reducible apply keep_ite

theorem keep_spiEnd {r s : State} (h : Keep r s) :
    Keep r (spiEnd s) := by
  unfold spiEnd
  repeat' first | with_reducible assumption | with_reducible apply keep_modHost | with_reducible apply keep_beginWake | with_reducible exact hostOk_same rfl rfl rfl | with_reducible exact hostOk_raise | with_reducible exact hostOk_writeBytes rfl rfl rfl | with_reducible exact hostOk_ringWrite | with_reducible exact hostOk_ringPut | intro _ | with_reducible apply keep_ite

theorem keep_spiError {r s : State} (h : Keep r s) :
    Keep r (spiError s) := by
  unfold spiError
  repeat' first | with_reducible assumption | with_reducible apply keep_frontErr | with_reducible exact hostOk_same rfl rfl rfl

theorem keep_spiRead {r s : State} {x0 : Nat} {x1 : Nat} (h : Keep r s) :
    Keep r (spiRead x0 x1 s) := by
  unfold spiRead
  repeat' first | with_reducible assumption | with_reducible apply keep_spiEnd | with_reducible apply keep_modHost | with_reducible apply keep_spiError | with_reducible apply keep_csFall | with_reducible exact hostOk_same rfl rfl rfl | with_reducible exact hostOk_raise | with_reducible exact hostOk_writeBytes rfl rfl rfl | with_reducible exact hostOk_ringWrite | with_reducible exact hostOk_ringPut | intro _ | with_reducible apply keep_ite | dsimp only | split

theorem hostOk_collideWord {o : List (Nat × Byte)} {a : Nat} {w : Bytes} {h : HostLink} (k : h.ok) : (collideWord o a w h).ok := by
  have hw : Memory.wf ((o.filter (fun x => decide (a ≤ x.1) && decide (x.1 < a + 4))).foldl
      (fun m x => Memory.write m x.1 x.2) (Memory.writeBytes h.window a w)) = true := by
    generalize o.filter (fun x => decide (a ≤ x.1) && decide (x.1 < a + 4)) = l
    have hm : Memory.wf (Memory.writeBytes h.window a w) = true := Memory.wf_writeBytes w _ _ k.1
    generalize Memory.writeBytes h.window a w = m at hm
    induction l generalizing m with
    | nil => exact hm
    | cons x xs ih => exact ih _ (Memory.wf_write hm x.1 x.2)
  unfold collideWord
  dsimp only
  split
  · exact hostOk_flag (hostOk_mk hw k.2.1 k.2.2)
  · exact hostOk_mk hw k.2.1 k.2.2

theorem keep_hostWord {r s : State} {x0 : List (Nat × Byte)} {x1 : Nat} {x2 : Bytes} (h : Keep r s) :
    Keep r (hostWord x0 x1 x2 s) := by
  unfold hostWord
  repeat' first | with_reducible assumption | with_reducible apply keep_frontErr | with_reducible apply keep_modHost | with_reducible apply keep_frontWrite | exact hostOk_collideWord | with_reducible exact hostOk_same rfl rfl rfl | with_reducible exact hostOk_raise | with_reducible exact hostOk_writeBytes rfl rfl rfl | with_reducible exact hostOk_ringWrite | with_reducible exact hostOk_ringPut | intro _ | with_reducible apply keep_ite | dsimp only | split

theorem keep_hostWords {r : State} {o : List (Nat × Byte)} {e : Nat} : ∀ {n a : Nat} {d : Bytes} {s : State}, Keep r s →
    Keep r (hostWords o e n a d s)
  | 0, _, _, _, h => h
  | _ + 1, _, _, _, h => keep_ite h (keep_hostWords (keep_hostWord h))

theorem keep_spiWrite {r s : State} {x0 : Nat} {x1 : Bytes} {x2 : List (Nat × Byte)} (h : Keep r s) :
    Keep r (spiWrite x0 x1 x2 s) := by
  unfold spiWrite
  repeat' first | with_reducible assumption | with_reducible apply keep_spiEnd | with_reducible apply keep_spiError | with_reducible apply keep_hostWords | with_reducible apply keep_csFall | intro _ | with_reducible apply keep_ite | dsimp only | split

theorem keep_execReadStatus {r s : State} (h : Keep r s) :
    KeepOut r (execReadStatus s) := by
  unfold execReadStatus
  repeat' first | with_reducible assumption | with_reducible apply keepOut_next | with_reducible apply keep_spiEnd | with_reducible apply keep_modHost | with_reducible apply keep_csFall | with_reducible exact hostOk_same rfl rfl rfl

theorem keep_execRead {r s : State} {x0 : BitVec 24} {x1 : Nat} (h : Keep r s) :
    KeepOut r (execRead x0 x1 s) := by
  unfold execRead
  repeat' first | with_reducible assumption | with_reducible apply keepOut_next | with_reducible apply keep_spiRead

theorem keep_execQuadRead {r s : State} {x0 : BitVec 24} {x1 : Nat} (h : Keep r s) :
    KeepOut r (execQuadRead x0 x1 s) := by
  unfold execQuadRead
  repeat' first | with_reducible assumption | with_reducible apply keepOut_next | with_reducible apply keep_spiRead

theorem keep_execWrite {r s : State} {x0 : BitVec 24} {x1 : Bytes} {x2 : List (Nat × Byte)} (h : Keep r s) :
    KeepOut r (execWrite x0 x1 x2 s) := by
  unfold execWrite
  repeat' first | with_reducible assumption | with_reducible apply keepOut_next | with_reducible apply keep_spiWrite

theorem keep_execQuadWrite {r s : State} {x0 : BitVec 24} {x1 : Bytes} {x2 : List (Nat × Byte)} (h : Keep r s) :
    KeepOut r (execQuadWrite x0 x1 x2 s) := by
  unfold execQuadWrite
  repeat' first | with_reducible assumption | with_reducible apply keepOut_next | with_reducible apply keep_spiWrite

theorem keep_execInvalidInstruction {r s : State} {x0 : Byte} (h : Keep r s) :
    KeepOut r (execInvalidInstruction x0 s) := by
  unfold execInvalidInstruction
  repeat' first | with_reducible assumption | with_reducible apply keepOut_next | with_reducible apply keep_spiEnd | with_reducible apply keep_spiError | with_reducible apply keep_csFall | intro _ | with_reducible apply keep_ite

theorem keep_execHostCsNWake {r s : State} (h : Keep r s) :
    KeepOut r (execHostCsNWake s) := by
  unfold execHostCsNWake
  repeat' first | with_reducible assumption | with_reducible apply keepOut_next | with_reducible apply keep_csFall

theorem keep_registerWrite {r s : State} {x0 : Nat} {x1 : BitVec 32} (h : Keep r s) :
    Keep r (registerWrite x0 x1 s) := by
  unfold registerWrite
  repeat' first | with_reducible assumption | with_reducible apply keep_spiEnd | with_reducible apply keep_frontWrite | with_reducible apply keep_csFall | intro _ | with_reducible apply keep_ite

theorem keep_execCmdDoorbell {r s : State} {x0 : BitVec 32} (h : Keep r s) :
    KeepOut r (execCmdDoorbell x0 s) := by
  unfold execCmdDoorbell
  repeat' first | with_reducible assumption | with_reducible apply keepOut_next | with_reducible apply keep_registerWrite

theorem keep_execRspReady {r s : State} {x0 : BitVec 32} (h : Keep r s) :
    KeepOut r (execRspReady x0 s) := by
  unfold execRspReady
  repeat' first | with_reducible assumption | with_reducible apply keepOut_next | with_reducible apply keep_registerWrite

theorem keep_execEvtTail {r s : State} {x0 : BitVec 32} (h : Keep r s) :
    KeepOut r (execEvtTail x0 s) := by
  unfold execEvtTail
  repeat' first | with_reducible assumption | with_reducible apply keepOut_next | with_reducible apply keep_registerWrite

theorem keep_execIntStatus {r s : State} {x0 : BitVec 32} (h : Keep r s) :
    KeepOut r (execIntStatus x0 s) := by
  unfold execIntStatus
  repeat' first | with_reducible assumption | with_reducible apply keepOut_next | with_reducible apply keep_registerWrite

theorem keep_execFrontStatus {r s : State} {x0 : BitVec 32} (h : Keep r s) :
    KeepOut r (execFrontStatus x0 s) := by
  unfold execFrontStatus
  repeat' first | with_reducible assumption | with_reducible apply keepOut_next | with_reducible apply keep_registerWrite

theorem keep_execFrontRegisterWrite {r s : State} {x0 : Byte} {x1 : BitVec 32} (h : Keep r s) :
    KeepOut r (execFrontRegisterWrite x0 x1 s) := by
  unfold execFrontRegisterWrite
  repeat' first | with_reducible assumption | with_reducible apply keepOut_next | with_reducible apply keep_registerWrite

theorem keep_execHostHoldExpire {r s : State} (h : Keep r s) :
    KeepOut r (execHostHoldExpire s) := by
  unfold execHostHoldExpire
  repeat' first | with_reducible assumption | with_reducible apply keepOut_next | with_reducible apply keep_atDue | with_reducible apply keep_modHost | with_reducible exact hostOk_same rfl rfl rfl | with_reducible exact hostOk_raise | with_reducible exact hostOk_writeBytes rfl rfl rfl | with_reducible exact hostOk_ringWrite | with_reducible exact hostOk_ringPut | intro _ | with_reducible apply keep_ite | dsimp only | split

theorem keep_execEvtIrqDelayExpire {r s : State} (h : Keep r s) :
    KeepOut r (execEvtIrqDelayExpire s) := by
  unfold execEvtIrqDelayExpire
  repeat' first | with_reducible assumption | with_reducible apply keepOut_next | with_reducible apply keep_atDue | with_reducible apply keep_modHost | with_reducible exact hostOk_same rfl rfl rfl | with_reducible exact hostOk_raise | with_reducible exact hostOk_writeBytes rfl rfl rfl | with_reducible exact hostOk_ringWrite | with_reducible exact hostOk_ringPut | intro _ | with_reducible apply keep_ite | dsimp only | split

theorem keep_execHeartbeat {r s : State} (h : Keep r s) :
    KeepOut r (execHeartbeat s) := by
  unfold execHeartbeat
  repeat' first | with_reducible assumption | with_reducible exact hostOk_take | with_reducible apply keep_atDue | with_reducible apply keep_command | with_reducible apply keepOut_next | with_reducible apply keep_modHost | with_reducible exact hostOk_same rfl rfl rfl | with_reducible exact hostOk_raise | with_reducible exact hostOk_writeBytes rfl rfl rfl | with_reducible exact hostOk_ringWrite | with_reducible exact hostOk_ringPut | intro _ | with_reducible apply keep_ite

theorem keep_accept {r s : State} {x0 : Frame} {x1 : Bool} (h : Keep r s) :
    Keep r (accept x0 x1 s) := by
  unfold accept
  repeat' first | with_reducible assumption | with_reducible apply keep_modStew | with_reducible apply keep_modTicket | with_reducible apply keep_complete | with_reducible apply keep_requestAll | intro _ | with_reducible apply keep_ite | dsimp only | split

theorem keep_duplicate {r s : State} {x0 : Frame} {x1 : Bool} (h : Keep r s) :
    Keep r (duplicate x0 x1 s) := by
  unfold duplicate
  repeat' first | with_reducible assumption | with_reducible apply keep_modStew

theorem keep_returnMailbox {r s : State} {x0 : Nat} (h : Keep r s) :
    Keep r (returnMailbox x0 s) := by
  unfold returnMailbox
  repeat' first | with_reducible assumption | with_reducible apply keep_modHost | with_reducible exact hostOk_same rfl rfl rfl

theorem keep_takeMailbox {r s : State} {n : Nat} (h : Keep r s) : Keep r (takeMailbox n s) := by
  unfold takeMailbox
  generalize mailboxFrame s n = f
  exact keep_returnMailbox
    (keep_ite (keep_frontErr (hostOk_same rfl rfl rfl) h) (keep_ite (keep_duplicate h) (keep_accept h)))

theorem keep_execMailboxTake {r s : State} (h : Keep r s) :
    KeepOut r (execMailboxTake s) := by
  unfold execMailboxTake
  repeat' first | with_reducible assumption | with_reducible apply keepOut_next | with_reducible apply keep_takeMailbox | intro _ | with_reducible apply keep_ite | dsimp only | split

/-- A lock bit programmed, and nothing else that is kept. -/
theorem storeKeep_lock {a b : Store} (h1 : a.lockA = true → b.lockA = true) (h2 : a.lockB = true → b.lockB = true)
    (h3 : b.charter = a.charter) (h4 : b.meshBroken = a.meshBroken) (h5 : b.nextSet = a.nextSet) : StoreKeep a b :=
  ⟨h1, h2, fun _ => h3, fun h => h4.trans h, Nat.le_of_eq h5.symm⟩

theorem storeKeep_putCharter {t : Store} {b : Bytes} : StoreKeep t (t.putCharter b) := by
  unfold Store.putCharter
  split
  · exact StoreKeep.refl _
  · next h =>
    refine ⟨fun x => x, fun x => x, fun x => ?_, fun x => x, Nat.le_refl _⟩
    simp only [Bool.or_eq_true] at h
    exact absurd x h

theorem storeKeep_appendRing {t : Store} {r : Rec} : StoreKeep t (t.appendRing r) := by
  refine storeKeep_same ?_ ?_ ?_ ?_ ?_ <;> unfold Store.appendRing <;> dsimp only <;> repeat' first | rfl | split

theorem storeKeep_swapRing {t : Store} {n : Nat} : StoreKeep t (t.swapRing n) := by
  refine storeKeep_same ?_ ?_ ?_ ?_ ?_ <;> unfold Store.swapRing <;> dsimp only

theorem storeKeep_eraseLog {t : Store} {n i : Nat} : StoreKeep t (t.eraseLog n i) := by
  refine storeKeep_same ?_ ?_ ?_ ?_ ?_ <;> unfold Store.eraseLog <;> dsimp only

theorem storeKeep_setCounter {t : Store} {c : Counter} : StoreKeep t (t.setCounter c) := by
  refine storeKeep_same ?_ ?_ ?_ ?_ ?_ <;> unfold Store.setCounter <;> dsimp only

theorem storeKeep_takeHigh {t : Store} {r : Rec} : StoreKeep t (t.takeHigh r) := by
  refine storeKeep_same ?_ ?_ ?_ ?_ ?_ <;> unfold Store.takeHigh <;> dsimp only <;> repeat' first | rfl | split

theorem storeKeep_rollOver {t : Store} {k : Nat} : StoreKeep t (t.rollOver k) := by
  refine storeKeep_same ?_ ?_ ?_ ?_ ?_ <;> unfold Store.rollOver <;> dsimp only <;> repeat' first | rfl | split

theorem storeKeep_bump {t : Store} {k : Nat} : StoreKeep t (t.bump k) := by
  refine storeKeep_same ?_ ?_ ?_ ?_ ?_ <;> unfold Store.bump Store.rollOver <;> dsimp only <;> repeat' first | rfl | split

theorem storeKeep_newCounter {t : Store} {k g : Nat} : StoreKeep t (t.newCounter k g) := by
  refine storeKeep_same ?_ ?_ ?_ ?_ ?_ <;> unfold Store.newCounter <;> dsimp only <;> repeat' first | rfl | split

theorem storeKeep_appendLog {t : Store} {r : Rec} : StoreKeep t (t.appendLog r) := by
  refine storeKeep_same ?_ ?_ ?_ ?_ ?_ <;> unfold Store.appendLog <;> dsimp only <;> repeat' first | rfl | split

theorem keep_pump {r s : State} (h : Keep r s) :
    Keep r (pump s) := by
  unfold pump
  repeat' first | with_reducible assumption | with_reducible apply keep_modStore | with_reducible apply keep_emit | with_reducible exact storeKeep_newCounter | with_reducible exact storeKeep_setCounter | with_reducible exact storeKeep_rollOver | with_reducible exact StoreKeep.refl _ | with_reducible exact storeKeep_same rfl rfl rfl rfl rfl | intro _ | with_reducible apply keep_ite | dsimp only | split

theorem keep_enqueue {r s : State} {x0 : List StoreOp} (h : Keep r s) :
    Keep r (enqueue x0 s) := by
  unfold enqueue
  repeat' first | with_reducible assumption | with_reducible apply keep_pump | with_reducible apply keep_requestAll | with_reducible apply keep_modStore | with_reducible exact storeKeep_newCounter | with_reducible exact storeKeep_setCounter | with_reducible exact storeKeep_rollOver | with_reducible exact StoreKeep.refl _ | with_reducible exact storeKeep_same rfl rfl rfl rfl rfl

theorem keep_putRecord {r s : State} {x0 : Nat} {x1 : Bytes} {x2 : optParam After After.nothing} (h : Keep r s) :
    Keep r (putRecord x0 x1 x2 s) := by
  unfold putRecord
  repeat' first | with_reducible assumption | with_reducible apply keep_enqueue | intro _ | with_reducible apply keep_ite

theorem keep_putTombstone {r s : State} {x0 : Nat} (h : Keep r s) :
    Keep r (putTombstone x0 s) := by
  unfold putTombstone
  repeat' first | with_reducible assumption | with_reducible apply keep_enqueue

theorem keep_bumpCounter {r s : State} {x0 : Nat} {x1 : optParam After After.nothing} (h : Keep r s) :
    Keep r (bumpCounter x0 x1 s) := by
  unfold bumpCounter
  repeat' first | with_reducible assumption | with_reducible apply keep_enqueue | with_reducible apply keep_modStore | with_reducible exact storeKeep_newCounter | with_reducible exact storeKeep_newCounter | with_reducible exact storeKeep_setCounter | with_reducible exact storeKeep_rollOver | with_reducible exact StoreKeep.refl _ | with_reducible exact storeKeep_same rfl rfl rfl rfl rfl | intro _ | with_reducible apply keep_ite

theorem keep_flushPart {r s : State} {x0 : Nat} (h : Keep r s) :
    Keep r (flushPart x0 s) := by
  unfold flushPart
  repeat' first | with_reducible assumption | with_reducible apply keep_modVault | with_reducible apply keep_enqueue | with_reducible exact Nat.le_refl _ | with_reducible exact Nat.le_succ _ | intro _ | with_reducible apply keep_ite

theorem keep_appendRecord {r s : State} {x0 : Nat} {x1 : Bytes} (h : Keep r s) :
    Keep r (appendRecord x0 x1 s) := by
  unfold appendRecord
  repeat' first | with_reducible assumption | with_reducible apply keep_modVault | with_reducible apply keep_flushPart | with_reducible exact Nat.le_refl _ | with_reducible exact Nat.le_succ _ | intro _ | with_reducible apply keep_ite

theorem keep_applyAct {r s : State} {x0 : StoreAct} (h : Keep r s) :
    Keep r (applyAct x0 s) := by
  unfold applyAct
  repeat' first | with_reducible assumption | exact Vault.refresh_writeSeq _ _ _ _ | exact Vault.program_writeSeq _ _ _ | exact Vault.clear_writeSeq _ _ | exact Nat.le_trans (Nat.le_of_eq (Vault.openPage_writeSeq _ _).symm) (Nat.le_succ _) | with_reducible exact storeKeep_appendRing | with_reducible exact storeKeep_appendLog | with_reducible exact storeKeep_bump | with_reducible exact storeKeep_eraseLog | with_reducible exact storeKeep_swapRing | with_reducible exact storeKeep_appendLog.trans storeKeep_takeHigh | with_reducible exact storeKeep_putCharter | with_reducible exact storeKeep_lock (fun _ => rfl) (fun _ => rfl) rfl rfl rfl | with_reducible apply keep_modSafe | with_reducible apply keep_modStore | with_reducible apply keep_modVault | with_reducible exact storeKeep_newCounter | with_reducible exact StoreKeep.refl _ | with_reducible exact storeKeep_setCounter | with_reducible exact storeKeep_same rfl rfl rfl rfl rfl | with_reducible exact storeKeep_rollOver | with_reducible exact id | with_reducible exact sort_log | with_reducible exact fun k => Nat.le_trans (List.length_filter_le _ _) k | with_reducible exact fun _ => Nat.zero_le _ | with_reducible exact Nat.le_succ _ | with_reducible exact Nat.le_refl _ | intro _ | with_reducible apply keep_ite | dsimp only | split

theorem keep_abandonSet {r s : State} {x0 : Nat} (h : Keep r s) :
    Keep r (abandonSet x0 s) := by
  unfold abandonSet
  repeat' first | with_reducible assumption | with_reducible apply keep_modStore | with_reducible exact storeKeep_newCounter | with_reducible exact storeKeep_setCounter | with_reducible exact storeKeep_rollOver | with_reducible exact StoreKeep.refl _ | with_reducible exact storeKeep_same rfl rfl rfl rfl rfl

theorem keep_stageItems {r s : State} {x0 : Nat} {x1 : List Item} (h : Keep r s) :
    Keep r (stageItems x0 x1 s).1 := by
  unfold stageItems
  repeat' first | with_reducible assumption | with_reducible apply keep_abandonSet | with_reducible apply keep_modExpo | with_reducible apply keep_foldl | with_reducible apply keep_foldlFst | intro _ | with_reducible apply keep_ite | dsimp only | split

theorem keep_stageObject {r s : State} {x0 : Nat} {x1 : Work} {x2 : Nat} {x3 : Nat} {x4 : Nat} {x5 : Bytes} (h : Keep r s) :
    Keep r (stageObject x0 x1 x2 x3 x4 x5 s) := by
  unfold stageObject
  repeat' first | with_reducible assumption | with_reducible apply keep_stageItems | with_reducible apply keep_complete

theorem keep_modShut {r s : State} {x1 : Nat} {x2 : Shutter → Shutter} (h : Keep r s) :
    Keep r (State.modShut s x1 x2) := by
  unfold State.modShut
  repeat' first | with_reducible assumption | with_reducible apply keep_modTime

theorem keep_modCap {r s : State} {x1 : Nat} {x2 : Capture → Capture} (h : Keep r s) :
    Keep r (State.modCap s x1 x2) := by
  unfold State.modCap
  repeat' first | with_reducible assumption | with_reducible apply keep_modTime

theorem keep_dmaTrigger {r s : State} {x0 : Nat} {x1 : Nat} {x2 : Bool} (h : Keep r s) :
    Keep r (dmaTrigger x0 x1 x2 s) := by
  unfold dmaTrigger
  repeat' first | with_reducible assumption | with_reducible apply keep_modMem | with_reducible apply keep_emit | intro _ | with_reducible apply keep_ite

theorem keep_recordEdge {r s : State} {x0 : Nat} {x1 : Bool} {x2 : Nat} {x3 : Bool} (h : Keep r s) :
    Keep r (recordEdge x0 x1 x2 x3 s) := by
  unfold recordEdge
  repeat' first | with_reducible assumption | with_reducible apply keep_modCap

theorem keep_captureEdge {r s : State} {x0 : Nat} {x1 : Bool} {x2 : Nat} {x3 : Bool} (h : Keep r s) :
    Keep r (captureEdge x0 x1 x2 x3 s) := by
  unfold captureEdge
  repeat' first | with_reducible assumption | with_reducible apply keep_recordEdge | with_reducible apply keep_emitAs | intro _ | with_reducible apply keep_ite | dsimp only

theorem keep_raiseRoute {r s : State} {x0 : Nat} {x1 : Nat} {x2 : Bool} (h : Keep r s) :
    Keep r (raiseRoute x0 x1 x2 s) := by
  unfold raiseRoute
  repeat' first | with_reducible assumption | with_reducible apply keep_modTime | intro _

theorem keep_fireOnce {r s : State} {x0 : Nat} {x1 : Nat} {x2 : Bool} {x3 : Bool} {x4 : Bool} (h : Keep r s) :
    Keep r (fireOnce x0 x1 x2 x3 x4 s) := by
  unfold fireOnce
  repeat' first | with_reducible assumption | with_reducible apply keep_raiseRoute | with_reducible apply keep_modShut | with_reducible apply keep_emitAs | intro _ | with_reducible apply keep_ite | dsimp only

theorem keep_arrive {r s : State} {x0 : Nat} {x1 : Nat} {x2 : Bool} (h : Keep r s) :
    Keep r (arrive x0 x1 x2 s) := by
  unfold arrive
  repeat' first | with_reducible assumption | with_reducible exact id | with_reducible exact sort_log | with_reducible exact fun k => Nat.le_trans (List.length_filter_le _ _) k | with_reducible exact fun _ => Nat.zero_le _ | with_reducible apply keep_raiseRoute | with_reducible apply keep_fireOnce | with_reducible apply keep_captureEdge | with_reducible apply keep_modShut | with_reducible apply keep_modSafe | with_reducible apply keep_dmaTrigger | with_reducible apply keep_ite | dsimp only | exact id | intro _

theorem keep_routeWave {r s : State} {x0 : List (Nat × Nat × Bool)} (h : Keep r s) :
    Keep r (routeWave x0 s) := by
  unfold routeWave
  repeat' first | with_reducible assumption | with_reducible apply keep_foldlFst | with_reducible apply keep_arrive | with_reducible apply keep_foldl | intro _

theorem keep_runRoutes {r : State} : ∀ {k : Nat} {s : State}, Keep r s → Keep r (runRoutes k s)
  | 0, _, h => h
  | _ + 1, _, h => by
    unfold runRoutes
    split
    · exact h
    · exact keep_runRoutes (keep_routeWave (keep_modTime h))

theorem keep_nextCycle {r s : State} (h : Keep r s) :
    Keep r (nextCycle s) := by
  unfold nextCycle
  repeat' first | with_reducible assumption | with_reducible apply keep_advance | with_reducible apply keep_ite

theorem keep_fire {r s : State} {x0 : Nat} {x1 : Nat} {x2 : Bool} (h : Keep r s) :
    Keep r (fire x0 x1 x2 s) := by
  unfold fire
  repeat' first | with_reducible assumption | with_reducible apply keep_fireOnce | with_reducible apply keep_nextCycle | intro _ | with_reducible apply keep_ite | dsimp only

theorem keep_fireRouted {r s : State} {x0 : Nat} {x1 : Nat} {x2 : Bool} (h : Keep r s) :
    Keep r (fireRouted x0 x1 x2 s) := by
  unfold fireRouted
  repeat' first | with_reducible assumption | with_reducible apply keep_runRoutes | with_reducible apply keep_fire

theorem keep_fireDue {r s : State} {x0 : Nat} (h : Keep r s) :
    Keep r (fireDue x0 s) := by
  unfold fireDue
  repeat' first | with_reducible assumption | with_reducible apply keep_fireRouted | with_reducible apply keep_ite

theorem keep_reachCompare {r s : State} {n : Nat} (h : Keep r s) : ∀ t, reachCompare n s = some t → Keep r t := by
  intro t e
  unfold reachCompare at e
  dsimp only at e
  split at e
  · cases e
  · split at e
    · cases e; exact keep_reach h
    · cases e

theorem keep_firmStart {r s : State} {n : Nat} (h : Keep r s) : ∀ t, firmStart n s = some t → Keep r t := by
  intro t e
  unfold firmStart at e
  split at e
  · cases e
  · split at e
    · cases e; exact keep_modShut h
    · obtain ⟨u, hu, rfl⟩ := Option.map_eq_some_iff.mp e
      exact keep_fire (keep_reachCompare h _ hu)

theorem keep_firmFire {r s : State} {n : Nat} (h : Keep r s) : ∀ t, firmFire n s = some t → Keep r t := by
  intro t e
  obtain ⟨u, hu, rfl⟩ := Option.map_eq_some_iff.mp e
  exact keep_runRoutes (keep_firmStart h _ hu)

theorem keep_armFirm {r s : State} {x0 : Nat} {x1 : Nat} {x2 : Nat} (h : Keep r s) :
    Keep r (armFirm x0 x1 x2 s) := by
  unfold armFirm
  repeat' first | with_reducible assumption | with_reducible apply keep_modShut | with_reducible apply keep_fireRouted | intro _ | with_reducible apply keep_ite | dsimp only

theorem keep_execShutterFire {r s : State} {x0 : Fin 12} (h : Keep r s) :
    KeepOut r (execShutterFire x0 s) := by
  unfold execShutterFire
  repeat' first | with_reducible assumption | with_reducible apply keep_fireRouted | with_reducible apply keepOut_next | exact keep_reachCompare (by with_reducible assumption) _ (by with_reducible assumption) | with_reducible apply keep_fire | intro _ | with_reducible apply keep_ite | dsimp only | split

theorem keep_routedEdge {r s : State} {x0 : Nat} {x1 : Bool} {x2 : Nat} {x3 : Bool} (h : Keep r s) :
    Keep r (routedEdge x0 x1 x2 x3 s) := by
  unfold routedEdge
  repeat' first | with_reducible assumption | with_reducible apply keep_runRoutes | with_reducible apply keep_raiseRoute | with_reducible apply keep_captureEdge | with_reducible apply keep_ite

theorem keep_signalEdge {r s : State} {x0 : Nat} {x1 : Bool} (h : Keep r s) :
    Keep r (signalEdge x0 x1 s) := by
  unfold signalEdge
  repeat' first | with_reducible assumption | with_reducible apply keep_foldlFst | with_reducible apply keep_foldl | with_reducible apply keep_routedEdge | intro _

theorem keep_fieldEdges {r s : State} (h : Keep r s) :
    Keep r (fieldEdges s) := by
  unfold fieldEdges
  repeat' first | with_reducible assumption | with_reducible apply keep_modLf | with_reducible apply keep_routedEdge | with_reducible apply keep_foldl | with_reducible apply keep_foldlFst | intro _ | with_reducible apply keep_ite | dsimp only | split

theorem keep_rangeEdges {r s : State} (h : Keep r s) :
    Keep r (rangeEdges s) := by
  unfold rangeEdges
  repeat' first | with_reducible assumption | with_reducible apply keep_modRange | with_reducible apply keep_routedEdge | with_reducible apply keep_foldl | with_reducible apply keep_foldlFst | intro _ | with_reducible apply keep_ite | dsimp only | split

theorem keep_ownEdges {r s : State} (h : Keep r s) :
    Keep r (ownEdges s) := by
  unfold ownEdges
  repeat' first | with_reducible assumption | with_reducible apply keep_fieldEdges | with_reducible apply keep_rangeEdges | intro _ | with_reducible apply keep_ite | dsimp only | split

theorem keep_execCaptureEdge {r s : State} {x0 : Fin 8} {x1 : Bool} {x2 : Nat} (h : Keep r s) :
    KeepOut r (execCaptureEdge x0 x1 x2 s) := by
  unfold execCaptureEdge
  repeat' first | with_reducible assumption | with_reducible apply keep_advance | with_reducible apply keep_routedEdge | with_reducible apply keepOut_next | with_reducible apply keep_atDue | with_reducible apply keep_captureEdge | intro _ | with_reducible apply keep_ite | dsimp only

theorem keep_execTimeRead {r s : State} {x0 : Fin 128} (h : Keep r s) :
    KeepOut r (execTimeRead x0 s) := by
  unfold execTimeRead
  repeat' first | with_reducible assumption | with_reducible apply keepOut_next | with_reducible apply keep_command | with_reducible apply keep_complete | intro _

theorem keep_keepOnTimes {r s : State} {x0 : Nat} (h : Keep r s) :
    Keep r (keepOnTimes x0 s) := by
  unfold keepOnTimes
  repeat' first | with_reducible assumption | with_reducible apply keep_modPower

theorem keep_stepEpoch {r s : State} {x0 : Nat} {x1 : Nat} (h : Keep r s) :
    Keep r (stepEpoch x0 x1 s) := by
  unfold stepEpoch
  repeat' first | with_reducible assumption | with_reducible apply keep_emit | with_reducible apply keep_fire | with_reducible apply keep_keepOnTimes | with_reducible apply keep_modShut | with_reducible apply keep_modTime | with_reducible apply keep_runRoutes | with_reducible apply keep_foldl | with_reducible apply keep_foldlFst | intro _ | with_reducible apply keep_ite | dsimp only | split

theorem keep_execTimeSet {r s : State} {x0 : Fin 128} (h : Keep r s) :
    KeepOut r (execTimeSet x0 s) := by
  unfold execTimeSet
  repeat' first | with_reducible assumption | with_reducible apply keepOut_next | with_reducible apply keep_command | with_reducible apply keep_complete | with_reducible apply keep_stepEpoch | intro _ | with_reducible apply keep_ite

theorem keep_execTimeSlew {r s : State} {x0 : Fin 128} (h : Keep r s) :
    KeepOut r (execTimeSlew x0 s) := by
  unfold execTimeSlew
  repeat' first | with_reducible assumption | with_reducible apply keepOut_next | with_reducible apply keep_command | with_reducible apply keep_modTime | with_reducible apply keep_complete | with_reducible apply keep_emit | intro _

theorem keep_execSlewEnd {r s : State} (h : Keep r s) :
    KeepOut r (execSlewEnd s) := by
  unfold execSlewEnd
  repeat' first | with_reducible assumption | with_reducible apply keepOut_next | with_reducible apply keep_atDue | with_reducible apply keep_modTime | intro _ | with_reducible apply keep_ite | dsimp only | split

theorem keep_armShutter {r s : State} {x0 : Nat} {x1 : Req} (h : Keep r s) :
    Keep r (armShutter x0 x1 s).1 := by
  unfold armShutter
  repeat' first | with_reducible assumption | with_reducible apply keep_answer | with_reducible apply keep_fireDue | with_reducible apply keep_fireRouted | with_reducible apply keep_modShut | with_reducible apply keep_fire | intro _ | with_reducible apply keep_ite | dsimp only | split

theorem keep_execTimeShutterArm {r s : State} {x0 : Fin 128} (h : Keep r s) :
    KeepOut r (execTimeShutterArm x0 s) := by
  unfold execTimeShutterArm
  repeat' first | with_reducible assumption | with_reducible apply keepOut_next | with_reducible apply keep_fanOut | with_reducible apply keep_armShutter | intro _

theorem keep_disarmShutter {r s : State} {x0 : Nat} {x1 : Req} (h : Keep r s) :
    Keep r (disarmShutter x0 x1 s).1 := by
  unfold disarmShutter
  repeat' first | with_reducible assumption | with_reducible apply keep_fireDue | with_reducible apply keep_modShut | intro _ | with_reducible apply keep_ite | dsimp only | split

theorem keep_execTimeShutterDisarm {r s : State} {x0 : Fin 128} (h : Keep r s) :
    KeepOut r (execTimeShutterDisarm x0 s) := by
  unfold execTimeShutterDisarm
  repeat' first | with_reducible assumption | with_reducible apply keepOut_next | with_reducible apply keep_fanOut | with_reducible apply keep_disarmShutter | intro _

theorem keep_execTimeShutterRead {r s : State} {x0 : Fin 128} (h : Keep r s) :
    KeepOut r (execTimeShutterRead x0 s) := by
  unfold execTimeShutterRead
  repeat' first | with_reducible assumption | with_reducible apply keepOut_next | with_reducible apply keep_fanOut | intro _

theorem keep_execTimeShutterStage {r s : State} {x0 : Fin 128} (h : Keep r s) :
    KeepOut r (execTimeShutterStage x0 s) := by
  unfold execTimeShutterStage
  repeat' first | with_reducible assumption | with_reducible apply keepOut_next | with_reducible apply keep_command | with_reducible apply keep_complete | with_reducible apply keep_stageObject | intro _ | with_reducible apply keep_ite

theorem keep_readCapture {r s : State} {x0 : Nat} {x1 : Req} (h : Keep r s) :
    Keep r (readCapture x0 x1 s).1 := by
  unfold readCapture
  repeat' first | with_reducible assumption | with_reducible apply keep_modCap | intro _ | with_reducible apply keep_ite

theorem keep_execTimeCaptureRead {r s : State} {x0 : Fin 128} (h : Keep r s) :
    KeepOut r (execTimeCaptureRead x0 s) := by
  unfold execTimeCaptureRead
  repeat' first | with_reducible assumption | with_reducible apply keepOut_next | with_reducible apply keep_fanOut | with_reducible apply keep_ownEdges | with_reducible apply keep_readCapture | intro _ | with_reducible apply keep_ite | dsimp only | split

theorem keep_execXsTrimMeasure {r s : State} {x0 : Nat} (h : Keep r s) :
    KeepOut r (execXsTrimMeasure x0 s) := by
  unfold execXsTrimMeasure
  repeat' first | with_reducible assumption | with_reducible apply keep_atDue | with_reducible apply keepOut_next | with_reducible apply keep_modTime | intro _ | with_reducible apply keep_ite | split

theorem keep_writeFloor {r s : State} (h : Keep r s) :
    Keep r (writeFloor s) := by
  unfold writeFloor
  repeat' first | with_reducible assumption | with_reducible apply keep_putRecord | with_reducible apply keep_modTime

theorem keep_execEpochFloorWrite {r s : State} (h : Keep r s) :
    KeepOut r (execEpochFloorWrite s) := by
  unfold execEpochFloorWrite
  repeat' first | with_reducible assumption | with_reducible apply keepOut_next | with_reducible apply keep_atDue | with_reducible apply keep_writeFloor | intro _ | with_reducible apply keep_ite | dsimp only | split

theorem keep_refuseWaiting {r s : State} {x0 : Nat} {x1 : Nat} (h : Keep r s) :
    Keep r (refuseWaiting x0 x1 s) := by
  unfold refuseWaiting
  repeat' first | with_reducible assumption | with_reducible apply keep_complete | with_reducible apply keep_modRange | intro _ | with_reducible apply keep_ite | dsimp only | split

theorem keep_denyWaiting {r s : State} {x0 : List Nat} (h : Keep r s) :
    Keep r (denyWaiting x0 s) := by
  unfold denyWaiting
  repeat' first | with_reducible assumption | with_reducible apply keep_complete | with_reducible apply keep_refuseWaiting | with_reducible apply keep_foldl | with_reducible apply keep_foldlFst | intro _ | with_reducible apply keep_ite | dsimp only | split

theorem keep_denyWithdrawn {r s : State} (h : Keep r s) :
    Keep r (denyWithdrawn s) := by
  unfold denyWithdrawn
  repeat' first | with_reducible assumption | with_reducible apply keep_denyWaiting | with_reducible apply keep_power | intro _ | with_reducible apply keep_ite | dsimp only | split

theorem keep_beginTransition {r s : State} {x0 : Nat} {x1 : Mode} (h : Keep r s) :
    Keep r (beginTransition x0 x1 s) := by
  unfold beginTransition
  repeat' first | with_reducible assumption | with_reducible apply keep_denyWaiting | with_reducible apply keep_beginWake | with_reducible apply keep_modPower | with_reducible apply keep_requestAll | with_reducible apply keep_trigger | intro _ | with_reducible apply keep_ite | dsimp only | split

theorem keep_trigger {r s : State} {x0 : Nat} (h : Keep r s) :
    Keep r (trigger x0 s) := by
  unfold trigger
  repeat' first | with_reducible assumption | with_reducible apply keep_beginTransition | with_reducible apply keep_modPower | with_reducible apply keep_power | intro _ | with_reducible apply keep_ite | dsimp only | split

theorem keep_judgeRequest {r s : State} {x0 : Nat} (h : Keep r s) :
    Keep r (judgeRequest x0 s) := by
  unfold judgeRequest
  repeat' first | with_reducible assumption | with_reducible apply keep_modPower | with_reducible apply keep_complete | with_reducible apply keep_trigger | with_reducible apply keep_modWork | intro _ | with_reducible apply keep_ite | dsimp only | split

theorem keep_actTrigger {r s : State} {x0 : Nat} (h : Keep r s) :
    Keep r (actTrigger x0 s) := by
  unfold actTrigger
  repeat' first | with_reducible assumption | with_reducible apply keep_judgeRequest | with_reducible apply keep_trigger | intro _ | with_reducible apply keep_ite | dsimp only | split

theorem keep_nextTrigger {r s : State} (h : Keep r s) :
    Keep r (nextTrigger s) := by
  unfold nextTrigger
  repeat' first | with_reducible assumption | with_reducible apply keep_trigger | with_reducible apply keep_actTrigger | with_reducible apply keep_modPower | with_reducible apply keep_power | intro _ | with_reducible apply keep_ite | dsimp only | split

end Sys2Proof.Machine
end

