-- ==== Sys2Proof/Laws/KeepEngines.lean ====
section
/-! SUPPORT. What the operations and commands of Grain, the cipher engine and the frame switch keep: one lemma per
definition, each following the calls of its body. -/

namespace Sys2Proof.Machine

theorem keep_askQueue {r s : State} {x0 : Nat} {x1 : Nat} (h : Keep r s) :
    Keep r (askQueue x0 x1 s).1 := by
  unfold askQueue
  repeat' first | with_reducible assumption | with_reducible apply keep_modGrain | intro _ | with_reducible apply keep_ite | dsimp only | split

theorem keep_endRead {r s : State} {x0 : Nat} {x1 : Nat} (h : Keep r s) :
    Keep r (endRead x0 x1 s) := by
  unfold endRead
  repeat' first | with_reducible assumption | with_reducible apply keep_complete | with_reducible apply keep_modWork

theorem keep_serveReads {r s : State} {x0 : List (Nat × Work)} (h : Keep r s) :
    Keep r (serveReads x0 s) := by
  induction x0 generalizing s with
  | nil => exact h
  | cons m ms ih =>
  unfold serveReads
  repeat' first | with_reducible assumption | with_reducible apply ih | with_reducible apply keep_complete | with_reducible apply keep_modWork | with_reducible apply keep_modGrain | intro _ | with_reducible apply keep_ite

theorem keep_serveHost {r s : State} (h : Keep r s) :
    Keep r (serveHost s) := by
  unfold serveHost
  repeat' first | with_reducible assumption | with_reducible apply keep_serveReads | intro _ | with_reducible apply keep_ite

theorem keep_execGrainRead {r s : State} {x0 : Fin 128} (h : Keep r s) :
    KeepOut r (execGrainRead x0 s) := by
  unfold execGrainRead
  repeat' first | with_reducible assumption | with_reducible apply keepOut_next | with_reducible apply keep_command | with_reducible apply keep_endRead | with_reducible apply keep_serveHost | with_reducible apply keep_start | intro _ | with_reducible apply keep_ite

theorem keep_execGrainReadDeadline {r s : State} {x0 : Fin 128} (h : Keep r s) :
    KeepOut r (execGrainReadDeadline x0 s) := by
  unfold execGrainReadDeadline
  repeat' first | with_reducible assumption | with_reducible apply keepOut_next | with_reducible apply keep_atDue | with_reducible apply keep_endRead | intro _ | with_reducible apply keep_ite | dsimp only | split

theorem keep_execGrainStatus {r s : State} {x0 : Fin 128} (h : Keep r s) :
    KeepOut r (execGrainStatus x0 s) := by
  unfold execGrainStatus
  repeat' first | with_reducible assumption | with_reducible apply keepOut_next | with_reducible apply keep_command | with_reducible apply keep_complete | intro _

theorem keep_modSlot {r s : State} {x1 : Nat} {x2 : KeySlot → KeySlot} (h : Keep r s) :
    Keep r (State.modSlot s x1 x2) := by
  unfold State.modSlot
  repeat' first | with_reducible assumption | with_reducible apply keep_modCiph

theorem keep_modCtx {r s : State} {x1 : Nat} {x2 : Option CJob → Option CJob} (h : Keep r s) :
    Keep r (State.modCtx s x1 x2) := by
  unfold State.modCtx
  repeat' first | with_reducible assumption | with_reducible apply keep_modCiph

theorem keep_installKey {r s : State} {x0 : Nat} {x1 : Nat} {x2 : KeyVer} (h : Keep r s) :
    Keep r (installKey x0 x1 x2 s).1 := by
  unfold installKey
  repeat' first | with_reducible assumption | with_reducible apply keep_putRecord | with_reducible apply keep_modSlot

theorem keep_landShadow {r s : State} {x0 : Nat} (h : Keep r s) :
    Keep r (landShadow x0 s) := by
  unfold landShadow
  repeat' first | with_reducible assumption | with_reducible apply keep_modSlot | with_reducible apply keep_enqueue | with_reducible apply keep_modStore | with_reducible apply keep_emit | with_reducible exact storeKeep_newCounter | with_reducible exact storeKeep_setCounter | with_reducible exact storeKeep_rollOver | with_reducible exact StoreKeep.refl _ | with_reducible exact storeKeep_same rfl rfl rfl rfl rfl | intro _ | with_reducible apply keep_ite | dsimp only | split

theorem keep_consumeNonce {r s : State} {x0 : Nat} {x1 : Nat} (h : Keep r s) :
    Keep r (consumeNonce x0 x1 s) := by
  unfold consumeNonce
  repeat' first | with_reducible assumption | with_reducible apply keep_modSlot | with_reducible apply keep_emit | intro _ | with_reducible apply keep_ite

theorem keep_reserveNonces {r s : State} {x0 : Nat} (h : Keep r s) :
    Keep r (reserveNonces x0 s) := by
  unfold reserveNonces
  repeat' first | with_reducible assumption | with_reducible apply keep_bumpCounter | with_reducible apply keep_modStore | with_reducible apply keep_modSlot | with_reducible exact storeKeep_newCounter | with_reducible exact storeKeep_setCounter | with_reducible exact storeKeep_rollOver | with_reducible exact StoreKeep.refl _ | with_reducible exact storeKeep_same rfl rfl rfl rfl rfl | intro _ | with_reducible apply keep_ite

theorem keep_nonceGranted {r s : State} {x0 : Nat} (h : Keep r s) :
    Keep r (nonceGranted x0 s) := by
  unfold nonceGranted
  repeat' first | with_reducible assumption | with_reducible apply keep_modSlot

theorem keep_jobPark {r s : State} {x0 : Nat} {x1 : Nat} (h : Keep r s) :
    Keep r (jobPark x0 x1 s) := by
  unfold jobPark
  repeat' first | with_reducible assumption | with_reducible apply keep_modWork | with_reducible apply keep_start

theorem keep_takeContext {r s : State} {x0 : Nat} {x1 : Work} (h : Keep r s) :
    Keep r (takeContext x0 x1 s) := by
  unfold takeContext
  repeat' first | with_reducible assumption | with_reducible apply keep_complete | with_reducible apply keep_consumeNonce | with_reducible apply keep_jobPark | with_reducible apply keep_modCtx | with_reducible apply keep_modGrain | with_reducible apply keep_modWork | with_reducible apply keep_reserveNonces | with_reducible apply keep_start | intro _ | with_reducible apply keep_ite | dsimp only | split

theorem keep_execCipherJob {r s : State} {x0 : Fin 128} (h : Keep r s) :
    KeepOut r (execCipherJob x0 s) := by
  unfold execCipherJob
  repeat' first | with_reducible assumption | with_reducible apply keepOut_next | with_reducible apply keep_takeContext | with_reducible apply keep_command | intro _ | with_reducible apply keep_ite | dsimp only | split

theorem keep_finishJob {r s : State} {x0 : Nat} {x1 : CJob} {x2 : Nat} {x3 : Work} (h : Keep r s) :
    Keep r (finishJob x0 x1 x2 x3 s) := by
  unfold finishJob
  repeat' first | with_reducible assumption | with_reducible apply keep_modCiph | with_reducible apply keep_modCtx | with_reducible apply keep_complete | intro _ | with_reducible apply keep_ite

theorem keep_execCipherJobComplete {r s : State} {x0 : Fin 8} (h : Keep r s) :
    KeepOut r (execCipherJobComplete x0 s) := by
  unfold execCipherJobComplete
  repeat' first | with_reducible assumption | with_reducible apply keepOut_next | with_reducible apply keep_finishJob | intro _ | with_reducible apply keep_ite | dsimp only | split

theorem keep_endJob {r s : State} {x0 : Nat} {x1 : Nat} (h : Keep r s) :
    Keep r (endJob x0 x1 s) := by
  unfold endJob
  repeat' first | with_reducible assumption | with_reducible apply keep_modGrain | with_reducible apply keep_modCtx | with_reducible apply keep_complete | intro _ | with_reducible apply keep_ite | dsimp only | split

theorem keep_eraseSlot {r s : State} {x0 : Nat} {x1 : Nat} {x2 : After} (h : Keep r s) :
    Keep r (eraseSlot x0 x1 x2 s).1 := by
  unfold eraseSlot
  repeat' first | with_reducible assumption | with_reducible apply keep_modSlot | with_reducible apply keep_endJob | with_reducible apply keep_complete | with_reducible apply keep_modGrain | with_reducible apply keep_modCiph | with_reducible apply keep_emit | with_reducible apply keep_putRecord | with_reducible apply keep_foldl | with_reducible apply keep_foldlFst | intro _

theorem keep_eraseTile {r s : State} {x0 : Nat} {x1 : Nat} (h : Keep r s) :
    Keep r (eraseTile x0 x1 s).1 := by
  unfold eraseTile
  repeat' first | with_reducible assumption | with_reducible apply keep_eraseSlot | intro _ | with_reducible apply keep_ite | dsimp only | split

theorem keep_eraseTiles {r s : State} {x0 : Nat} {x1 : List Nat} (h : Keep r s) :
    Keep r (eraseTiles x0 x1 s).1 := by
  induction x1 generalizing s x0 with
  | nil => exact h
  | cons m ms ih =>
  unfold eraseTiles
  repeat' first | with_reducible assumption | with_reducible apply ih | with_reducible apply keep_eraseTile

theorem keep_execCipherKeyErase {r s : State} {x0 : Fin 128} (h : Keep r s) :
    KeepOut r (execCipherKeyErase x0 s) := by
  unfold execCipherKeyErase
  repeat' first | with_reducible assumption | with_reducible apply keepOut_next | with_reducible apply keep_command | with_reducible apply keep_eraseTiles | with_reducible apply keep_completeTiles | with_reducible apply keep_modTicket | with_reducible apply keep_modWork | with_reducible apply keep_start | intro _ | with_reducible apply keep_ite

theorem keep_keyErased {r s : State} {x0 : Nat} (h : Keep r s) :
    Keep r (keyErased x0 s) := by
  unfold keyErased
  repeat' first | with_reducible assumption | with_reducible apply keep_modWork | with_reducible apply keep_completeTiles | intro _ | with_reducible apply keep_ite | dsimp only | split

theorem keep_beginInstall {r s : State} {x0 : Nat} {x1 : Nat} {x2 : Nat} {x3 : KeyVer} (h : Keep r s) :
    Keep r (beginInstall x0 x1 x2 x3 s) := by
  unfold beginInstall
  repeat' first | with_reducible assumption | with_reducible apply keep_installKey | with_reducible apply keep_complete | with_reducible apply keep_modTicket | with_reducible apply keep_modWork | with_reducible apply keep_start | intro _ | with_reducible apply keep_ite

theorem keep_execCipherKeyLoad {r s : State} {x0 : Fin 128} (h : Keep r s) :
    KeepOut r (execCipherKeyLoad x0 s) := by
  unfold execCipherKeyLoad
  repeat' first | with_reducible assumption | with_reducible apply keepOut_next | with_reducible apply keep_command | with_reducible apply keep_complete | with_reducible apply keep_beginInstall | intro _ | with_reducible apply keep_ite | dsimp only | split

theorem keep_execCipherKeyGenerate {r s : State} {x0 : Fin 128} (h : Keep r s) :
    KeepOut r (execCipherKeyGenerate x0 s) := by
  unfold execCipherKeyGenerate
  repeat' first | with_reducible assumption | with_reducible apply keepOut_next | with_reducible apply keep_command | with_reducible apply keep_complete | with_reducible apply keep_modGrain | with_reducible apply keep_modCtx | with_reducible apply keep_start | intro _ | with_reducible apply keep_ite | dsimp only | split

theorem keep_keyWord {r s : State} {x0 : Nat} {x1 : Bytes} (h : Keep r s) :
    Keep r (keyWord x0 x1 s) := by
  unfold keyWord
  repeat' first | with_reducible assumption | with_reducible apply keep_modGrain | with_reducible apply keep_modWork | with_reducible apply keep_modCtx | with_reducible apply keep_beginInstall | with_reducible apply keep_foldl | with_reducible apply keep_foldlFst | intro _ | with_reducible apply keep_ite | dsimp only | split

theorem keep_finishInstall {r s : State} {x0 : Nat} {x1 : Nat} {x2 : Nat} (h : Keep r s) :
    Keep r (finishInstall x0 x1 x2 s) := by
  unfold finishInstall
  repeat' first | with_reducible assumption | with_reducible apply keep_complete | intro _ | with_reducible apply keep_ite | dsimp only | split

theorem keep_slotStored {r s : State} {x0 : Nat} {x1 : Nat} (h : Keep r s) :
    Keep r (slotStored x0 x1 s) := by
  unfold slotStored
  repeat' first | with_reducible assumption | with_reducible apply keep_modSlot | with_reducible apply keep_finishInstall | intro _ | with_reducible apply keep_ite | dsimp only | split

theorem keep_execCipherStatus {r s : State} {x0 : Fin 128} (h : Keep r s) :
    KeepOut r (execCipherStatus x0 s) := by
  unfold execCipherStatus
  repeat' first | with_reducible assumption | with_reducible apply keepOut_next | with_reducible apply keep_command | with_reducible apply keep_complete | intro _

theorem keep_execCipherKeyRead {r s : State} {x0 : Fin 128} (h : Keep r s) :
    KeepOut r (execCipherKeyRead x0 s) := by
  unfold execCipherKeyRead
  repeat' first | with_reducible assumption | with_reducible apply keepOut_next | with_reducible apply keep_fanOut | intro _

theorem keep_modPort {r s : State} {x1 : Nat} {x2 : Port → Port} (h : Keep r s) :
    Keep r (State.modPort s x1 x2) := by
  unfold State.modPort
  repeat' first | with_reducible assumption | with_reducible apply keep_modSw

theorem keep_countBy {r s : State} {x0 : Nat} {x1 : Nat} {x2 : Nat} (h : Keep r s) :
    Keep r (countBy x0 x1 x2 s) := by
  unfold countBy
  repeat' first | with_reducible assumption | with_reducible apply keep_modPort

theorem keep_count {r s : State} {x0 : Nat} {x1 : Nat} (h : Keep r s) :
    Keep r (count x0 x1 s) := by
  unfold count
  repeat' first | with_reducible assumption | with_reducible apply keep_countBy

theorem keep_sendPause {r s : State} {x0 : Nat} {x1 : Nat} (h : Keep r s) :
    Keep r (sendPause x0 x1 s) := by
  unfold sendPause
  repeat' first | with_reducible assumption | with_reducible apply keep_count | with_reducible apply keep_modPort

theorem keep_updateHold {r s : State} {x0 : Nat} (h : Keep r s) :
    Keep r (updateHold x0 s) := by
  unfold updateHold
  repeat' first | with_reducible assumption | with_reducible apply keep_modPort | with_reducible apply keep_sendPause | intro _ | with_reducible apply keep_ite | dsimp only | split

theorem keep_updateHolds {r s : State} (h : Keep r s) :
    Keep r (updateHolds s) := by
  unfold updateHolds
  repeat' first | with_reducible assumption | with_reducible apply keep_updateHold | with_reducible apply keep_foldl

theorem keep_emitKeyed {r s : State} {x0 : Nat} {x1 : Nat} {x2 : Nat} {x3 : Nat} {x4 : Bytes} (h : Keep r s) :
    Keep r (emitKeyed x0 x1 x2 x3 x4 s) := by
  unfold emitKeyed
  repeat' first | with_reducible assumption | with_reducible apply keep_putEvent

theorem keep_endCopies {r s : State} {x0 : Nat} {x1 : SwFrame → Copy → Bool} (h : Keep r s) :
    Keep r (endCopies x0 x1 s) := by
  unfold endCopies
  repeat' first | with_reducible assumption | with_reducible apply keep_updateHolds | with_reducible apply keep_modSw

theorem keep_reportEnds {r s : State} {x0 : Nat} (h : Keep r s) :
    Keep r (reportEnds x0 s) := by
  unfold reportEnds
  repeat' first | with_reducible assumption | with_reducible apply keep_emit | with_reducible apply keep_modPort | intro _ | with_reducible apply keep_ite

theorem keep_reportWaiting {r s : State} (h : Keep r s) :
    Keep r (reportWaiting s) := by
  unfold reportWaiting
  repeat' first | with_reducible assumption | with_reducible apply keep_reportEnds | with_reducible apply keep_foldl | with_reducible apply keep_foldlFst | intro _ | with_reducible apply keep_ite | dsimp only | split

theorem keep_endHeldOut {r s : State} {x0 : Nat} (h : Keep r s) :
    Keep r (endHeldOut x0 s) := by
  unfold endHeldOut
  repeat' first | with_reducible assumption | with_reducible apply keep_reportEnds | with_reducible apply keep_countBy | with_reducible apply keep_modPort | with_reducible apply keep_endCopies | intro _ | with_reducible apply keep_ite

theorem keep_endAged {r s : State} {x0 : Nat} (h : Keep r s) :
    Keep r (endAged x0 s) := by
  unfold endAged
  repeat' first | with_reducible assumption | with_reducible apply keep_reportEnds | with_reducible apply keep_countBy | with_reducible apply keep_modPort | with_reducible apply keep_endCopies | intro _ | with_reducible apply keep_ite

theorem keep_takeDown {r s : State} {x0 : Nat} {x1 : Nat} (h : Keep r s) :
    Keep r (takeDown x0 x1 s) := by
  unfold takeDown
  repeat' first | with_reducible assumption | with_reducible apply keep_modPort | with_reducible apply keep_countBy | with_reducible apply keep_endCopies | with_reducible apply keep_emit | intro _ | with_reducible apply keep_ite

theorem keep_bringUp {r s : State} {x0 : Nat} {x1 : Nat} (h : Keep r s) :
    Keep r (bringUp x0 x1 s) := by
  unfold bringUp
  repeat' first | with_reducible assumption | with_reducible apply keep_updateHold | with_reducible apply keep_emit | with_reducible apply keep_modPort

theorem keep_netOff {r s : State} (h : Keep r s) :
    Keep r (netOff s) := by
  unfold netOff
  repeat' first | with_reducible assumption | with_reducible apply keep_takeDown | with_reducible apply keep_modCtx | with_reducible apply keep_foldl | with_reducible apply keep_foldlFst | intro _

theorem keep_netOn {r s : State} (h : Keep r s) :
    Keep r (netOn s) := by
  unfold netOn
  repeat' first | with_reducible assumption | with_reducible apply keep_bringUp | with_reducible apply keep_foldl | with_reducible apply keep_foldlFst | intro _ | with_reducible apply keep_ite

theorem keep_placeCopy {r : State} {cap : Nat} {f : SwFrame} {c : Copy} {a : State × List Copy} (h : Keep r a.1) :
    Keep r (placeCopy cap f c a).1 := by
  unfold placeCopy
  repeat' first | with_reducible assumption | with_reducible apply keep_emitKeyed | with_reducible apply keep_count | with_reducible apply keep_modSw | dsimp only | split

theorem keep_storeFrame {r s : State} {x0 : Conf} {x1 : SwFrame} {x2 : List (Nat × Nat)} {x3 : Nat} (h : Keep r s) :
    Keep r (storeFrame x0 x1 x2 x3 s) := by
  unfold storeFrame
  repeat' first | with_reducible assumption | with_reducible apply keep_placeCopy | with_reducible apply keep_modSw | with_reducible apply keep_updateHolds | with_reducible apply keep_foldl | with_reducible apply keep_foldlFst | intro _ | with_reducible apply keep_ite

theorem keep_ingress {r s : State} {x0 : Nat} {x1 : RxFrame} (h : Keep r s) :
    Keep r (ingress x0 x1 s) := by
  unfold ingress
  repeat' first | with_reducible assumption | with_reducible apply keep_modEv | with_reducible apply keep_countBy | with_reducible apply keep_count | with_reducible apply keep_emitKeyed | with_reducible apply keep_storeFrame | intro _ | with_reducible apply keep_ite | dsimp only | split

theorem keep_netActivity {r s : State} {x0 : Nat} (h : Keep r s) :
    Keep r (netActivity x0 s) := by
  unfold netActivity
  repeat' first | with_reducible assumption | with_reducible apply keep_modPower | intro _ | with_reducible apply keep_ite

theorem keep_sendFrame {r s : State} {x0 : Nat} {x1 : Nat} {x2 : Nat} {x3 : Bytes} (h : Keep r s) :
    Keep r (sendFrame x0 x1 x2 x3 s) := by
  unfold sendFrame
  repeat' first | with_reducible assumption | with_reducible apply keep_count | with_reducible apply keep_countBy | with_reducible apply keep_modEv | with_reducible apply keep_storeFrame | with_reducible apply keep_id | intro _ | with_reducible apply keep_ite | dsimp only | split

theorem keep_accessFrame {r s : State} {x0 : Nat} {x1 : Nat} {x2 : Nat} {x3 : Bytes} (h : Keep r s) :
    Keep r (accessFrame x0 x1 x2 x3 s) := by
  unfold accessFrame
  repeat' first | with_reducible assumption | with_reducible apply keep_storeFrame | with_reducible apply keep_countBy | with_reducible apply keep_count | with_reducible apply keep_modEv | with_reducible apply keep_modAccess | with_reducible apply keep_power | with_reducible apply keep_sendFrame | with_reducible apply keep_id | intro _ | with_reducible apply keep_ite | dsimp only | split

theorem keep_flushOutbox {r s : State} (h : Keep r s) :
    Keep r (flushOutbox s) := by
  unfold flushOutbox
  repeat' first | with_reducible assumption | with_reducible apply keep_modAccess | with_reducible apply keep_sendFrame | with_reducible apply keep_foldl | with_reducible apply keep_foldlFst | with_reducible apply keep_id | intro _ | with_reducible apply keep_ite | dsimp only | split

theorem keep_dropHead {r s : State} {x0 : Nat} {x1 : SwFrame} (h : Keep r s) :
    Keep r (dropHead x0 x1 s) := by
  unfold dropHead
  repeat' first | with_reducible assumption | with_reducible apply keep_endCopies

theorem keep_deliverP27 {r s : State} {x0 : SwFrame} (h : Keep r s) :
    Keep r (deliverP27 x0 s) := by
  unfold deliverP27
  repeat' first | with_reducible assumption | with_reducible apply keep_modSw | with_reducible apply keep_modHost | with_reducible apply keep_emit | with_reducible exact hostOk_same rfl rfl rfl | with_reducible exact hostOk_raise | with_reducible exact hostOk_writeBytes rfl rfl rfl | with_reducible exact hostOk_ringWrite | with_reducible exact hostOk_ringPut | intro _ | with_reducible apply keep_ite

theorem keep_writePublish {r s : State} {x0 : Nat} {x1 : Nat} {x2 : Bytes} (h : Keep r s) :
    Keep r (writePublish x0 x1 x2 s) := by
  unfold writePublish
  repeat' first | with_reducible assumption | with_reducible apply keep_modPort | with_reducible apply keep_count | intro _ | with_reducible apply keep_ite

theorem keep_sendCopy {r s : State} {x0 : Nat} {x1 : SwFrame} (h : Keep r s) :
    Keep r (sendCopy x0 x1 s) := by
  unfold sendCopy
  repeat' first | with_reducible assumption | with_reducible apply keep_count | with_reducible apply keep_countBy | with_reducible apply keep_writePublish | with_reducible apply keep_appendRecord | with_reducible apply keep_deliverP27 | with_reducible apply keep_netActivity | with_reducible apply keep_modPort | intro _ | with_reducible apply keep_ite | dsimp only | split

theorem keep_flipTable {r s : State} {x0 : Conf} {x1 : Nat} (h : Keep r s) :
    Keep r (flipTable x0 x1 s) := by
  unfold flipTable
  repeat' first | with_reducible assumption | with_reducible apply keep_emit | with_reducible apply keep_modSw

theorem keep_switchExposed {r s : State} {x0 : Conf} {x1 : List Nat} {x2 : Nat} (h : Keep r s) :
    Keep r (switchExposed x0 x1 x2 s) := by
  unfold switchExposed
  repeat' first | with_reducible assumption | with_reducible apply keep_modSw | with_reducible apply keep_flipTable | with_reducible apply keep_emit | with_reducible apply keep_takeDown | with_reducible apply keep_foldl | with_reducible apply keep_foldlFst | with_reducible apply keep_modPort | intro _ | with_reducible apply keep_ite

theorem keep_pauseIn {r s : State} {x0 : Nat} {x1 : Nat} (h : Keep r s) :
    Keep r (pauseIn x0 x1 s) := by
  unfold pauseIn
  repeat' first | with_reducible assumption | with_reducible apply keep_count | with_reducible apply keep_modPort

theorem keep_recAfter {r s : State} {x0 : Nat} {x1 : Bool} (h : Keep r s) :
    Keep r (recAfter x0 x1 s) := by
  unfold recAfter
  repeat' first | with_reducible assumption | with_reducible apply keep_modPort | intro _ | with_reducible apply keep_ite

theorem keep_execFrameReceived {r s : State} {x0 : Fin 28} {x1 : RxFrame} (h : Keep r s) :
    KeepOut r (execFrameReceived x0 x1 s) := by
  unfold execFrameReceived
  repeat' first | with_reducible assumption | with_reducible apply keepOut_next | with_reducible apply keep_atDue | with_reducible apply keep_busOff | with_reducible apply keep_count | with_reducible apply keep_ingress | with_reducible apply keep_netActivity | with_reducible apply keep_pauseIn | with_reducible apply keep_recAfter | intro _ | with_reducible apply keep_ite | dsimp only | split

theorem keep_execHeldOut {r s : State} {x0 : Fin 28} (h : Keep r s) :
    KeepOut r (execHeldOut x0 s) := by
  unfold execHeldOut
  repeat' first | with_reducible assumption | with_reducible apply keepOut_next | with_reducible apply keep_atDue | with_reducible apply keep_endHeldOut | intro _ | with_reducible apply keep_ite | dsimp only | split

theorem keep_execAged {r s : State} {x0 : Fin 28} (h : Keep r s) :
    KeepOut r (execAged x0 s) := by
  unfold execAged
  repeat' first | with_reducible assumption | with_reducible apply keepOut_next | with_reducible apply keep_atDue | with_reducible apply keep_endAged | intro _ | with_reducible apply keep_ite | dsimp only | split

theorem keep_execPortDown {r s : State} {x0 : Fin 28} (h : Keep r s) :
    KeepOut r (execPortDown x0 s) := by
  unfold execPortDown
  repeat' first | with_reducible assumption | with_reducible apply keepOut_next | with_reducible apply keep_takeDown | with_reducible apply keep_count | intro _ | with_reducible apply keep_ite

theorem keep_execPortUp {r s : State} {x0 : Fin 28} (h : Keep r s) :
    KeepOut r (execPortUp x0 s) := by
  unfold execPortUp
  repeat' first | with_reducible assumption | with_reducible apply keepOut_next | with_reducible apply keep_bringUp | with_reducible apply keep_flushOutbox | intro _ | with_reducible apply keep_ite | dsimp only | split

theorem keep_busOff {r s : State} {x0 : Nat} (h : Keep r s) :
    Keep r (busOff x0 s) := by
  unfold busOff
  repeat' first | with_reducible assumption | with_reducible apply keep_count | with_reducible apply keep_emit | with_reducible apply keep_modPort | intro _ | with_reducible apply keep_ite | dsimp only | split

theorem keep_txError {r s : State} {x0 : Nat} (h : Keep r s) :
    Keep r (txError x0 s) := by
  unfold txError
  repeat' first | with_reducible assumption | with_reducible apply keep_busOff | with_reducible apply keep_modPort | intro _ | with_reducible apply keep_ite | dsimp only | split

theorem keep_execCanBusOff {r s : State} {x0 : Fin 28} (h : Keep r s) :
    KeepOut r (execCanBusOff x0 s) := by
  unfold execCanBusOff
  repeat' first | with_reducible assumption | with_reducible apply keep_emit | with_reducible apply keep_count | with_reducible apply keep_modPort | with_reducible apply keepOut_next | with_reducible apply keep_busOff | intro _ | with_reducible apply keep_ite | dsimp only | split

theorem keep_execCanBusOffRecovered {r s : State} {x0 : Fin 28} (h : Keep r s) :
    KeepOut r (execCanBusOffRecovered x0 s) := by
  unfold execCanBusOffRecovered
  repeat' first | with_reducible assumption | with_reducible apply keepOut_next | with_reducible apply keep_emit | with_reducible apply keep_modPort | intro _ | with_reducible apply keep_ite

theorem keep_execCanAttemptLost {r s : State} {x0 : Fin 28} {x1 : Bool} (h : Keep r s) :
    KeepOut r (execCanAttemptLost x0 x1 s) := by
  unfold execCanAttemptLost
  repeat' first | with_reducible assumption | with_reducible apply keep_modPort | with_reducible apply keepOut_next | with_reducible apply keep_count | with_reducible apply keep_endAged | with_reducible apply keep_endHeldOut | with_reducible apply keep_txError | intro _ | with_reducible apply keep_ite | dsimp only | split

theorem keep_execPauseReceived {r s : State} {x0 : Fin 28} {x1 : BitVec 16} (h : Keep r s) :
    KeepOut r (execPauseReceived x0 x1 s) := by
  unfold execPauseReceived
  repeat' first | with_reducible assumption | with_reducible apply keepOut_next | with_reducible apply keep_pauseIn | with_reducible apply keep_count | with_reducible apply keep_modPort | intro _ | with_reducible apply keep_ite

theorem keep_execPauseExpire {r s : State} {x0 : Fin 28} (h : Keep r s) :
    KeepOut r (execPauseExpire x0 s) := by
  unfold execPauseExpire
  repeat' first | with_reducible assumption | with_reducible apply keepOut_next | with_reducible apply keep_atDue | with_reducible apply keep_modPort | intro _ | with_reducible apply keep_ite | dsimp only | split

theorem keep_execPauseRepeat {r s : State} {x0 : Fin 28} (h : Keep r s) :
    KeepOut r (execPauseRepeat x0 s) := by
  unfold execPauseRepeat
  repeat' first | with_reducible assumption | with_reducible apply keepOut_next | with_reducible apply keep_atDue | with_reducible apply keep_sendPause | intro _ | with_reducible apply keep_ite

theorem keep_execGenerationRetire {r s : State} (h : Keep r s) :
    KeepOut r (execGenerationRetire s) := by
  unfold execGenerationRetire
  repeat' first | with_reducible assumption | with_reducible apply keepOut_next | with_reducible apply keep_emit | with_reducible apply keep_modSw | with_reducible apply keep_atDue | intro _ | with_reducible apply keep_ite | dsimp only | split

theorem keep_scanSlot {r s : State} {x0 : Nat} (h : Keep r s) :
    Keep r (scanSlot x0 s) := by
  unfold scanSlot
  repeat' first | with_reducible assumption | with_reducible apply keep_modHost | with_reducible apply keep_ingress | with_reducible apply keep_count | with_reducible exact hostOk_window (fun k => Memory.wf_write (Memory.wf_write k _ _) _ _) rfl rfl | with_reducible exact hostOk_window (fun k => Memory.wf_write k _ _) rfl rfl | with_reducible exact hostOk_same rfl rfl rfl | with_reducible exact hostOk_raise | with_reducible exact hostOk_writeBytes rfl rfl rfl | with_reducible exact hostOk_ringWrite | with_reducible exact hostOk_ringPut | intro _ | with_reducible apply keep_ite | dsimp only | split

theorem keep_execP27TxScan {r s : State} (h : Keep r s) :
    KeepOut r (execP27TxScan s) := by
  unfold execP27TxScan
  repeat' first | with_reducible assumption | with_reducible apply keepOut_next | with_reducible apply keep_atDue | with_reducible apply keep_modSw | with_reducible apply keep_scanSlot | intro _ | with_reducible apply keep_ite | dsimp only | split

theorem keep_runSlot {r s : State} {x0 : Nat} (h : Keep r s) :
    Keep r (runSlot x0 s) := by
  unfold runSlot
  repeat' first | with_reducible assumption | with_reducible apply keep_count | with_reducible apply keep_modPort | intro _ | with_reducible apply keep_ite | dsimp only | split

theorem keep_execLinSlot {r s : State} {x0 : Fin 28} (h : Keep r s) :
    KeepOut r (execLinSlot x0 s) := by
  unfold execLinSlot
  repeat' first | with_reducible assumption | with_reducible apply keepOut_next | with_reducible apply keep_atDue | with_reducible apply keep_runSlot | intro _ | with_reducible apply keep_ite

theorem keep_execLinResponseReceived {r s : State} {x0 : Fin 28} {x1 : Option Bytes} (h : Keep r s) :
    KeepOut r (execLinResponseReceived x0 x1 s) := by
  unfold execLinResponseReceived
  repeat' first | with_reducible assumption | with_reducible apply keepOut_next | with_reducible apply keep_count | with_reducible apply keep_ingress | with_reducible apply keep_modPort | intro _ | with_reducible apply keep_ite | dsimp only | split

theorem keep_useFresh {r s : State} {x0 : Nat} (h : Keep r s) :
    Keep r (useFresh x0 s) := by
  unfold useFresh
  repeat' first | with_reducible assumption | with_reducible apply keep_modSw | with_reducible apply keep_bumpCounter | intro _ | with_reducible apply keep_ite

theorem keep_acceptFresh {r s : State} {x0 : Nat} {x1 : Nat} (h : Keep r s) :
    Keep r (acceptFresh x0 x1 s) := by
  unfold acceptFresh
  repeat' first | with_reducible assumption | with_reducible apply keep_modSw | with_reducible apply keep_putRecord | intro _ | with_reducible apply keep_ite

theorem keep_finishLoop {r s : State} {x0 : SwFrame} (h : Keep r s) :
    Keep r (finishLoop x0 s) := by
  unfold finishLoop
  repeat' first | with_reducible assumption | with_reducible apply keep_acceptFresh | with_reducible apply keep_count | with_reducible apply keep_countBy | with_reducible apply keep_dropHead | with_reducible apply keep_emit | with_reducible apply keep_ingress | with_reducible apply keep_modCiph | with_reducible apply keep_modCtx | with_reducible apply keep_useFresh | intro _ | with_reducible apply keep_ite | dsimp only | split

theorem keep_execCipherLoopResult {r s : State} (h : Keep r s) :
    KeepOut r (execCipherLoopResult s) := by
  unfold execCipherLoopResult
  repeat' first | with_reducible assumption | with_reducible apply keepOut_next | with_reducible apply keep_finishLoop | intro _ | with_reducible apply keep_ite | dsimp only | split

theorem keep_auditPass {r s : State} (h : Keep r s) :
    Keep r (auditPass s).1 := by
  unfold auditPass
  repeat' first | with_reducible assumption | with_reducible apply keep_modSw | with_reducible apply keep_emit | intro _ | with_reducible apply keep_ite

theorem keep_execAuditPass {r s : State} (h : Keep r s) :
    KeepOut r (execAuditPass s) := by
  unfold execAuditPass
  repeat' first | with_reducible assumption | with_reducible apply keepOut_next | with_reducible apply keep_atDue | with_reducible apply keep_auditPass | intro _ | with_reducible apply keep_ite

theorem keep_execSwitchAudit {r s : State} {x0 : Fin 128} (h : Keep r s) :
    KeepOut r (execSwitchAudit x0 s) := by
  unfold execSwitchAudit
  repeat' first | with_reducible assumption | with_reducible apply keepOut_next | with_reducible apply keep_command | with_reducible apply keep_auditPass | with_reducible apply keep_complete | intro _

theorem keep_execSwitchStatus {r s : State} {x0 : Fin 128} (h : Keep r s) :
    KeepOut r (execSwitchStatus x0 s) := by
  unfold execSwitchStatus
  repeat' first | with_reducible assumption | with_reducible apply keepOut_next | with_reducible apply keep_command | with_reducible apply keep_complete | intro _

theorem keep_execSwitchPortRead {r s : State} {x0 : Fin 128} (h : Keep r s) :
    KeepOut r (execSwitchPortRead x0 s) := by
  unfold execSwitchPortRead
  repeat' first | with_reducible assumption | with_reducible apply keepOut_next | with_reducible apply keep_fanOut | intro _

theorem keep_execSwitchCountersRead {r s : State} {x0 : Fin 128} (h : Keep r s) :
    KeepOut r (execSwitchCountersRead x0 s) := by
  unfold execSwitchCountersRead
  repeat' first | with_reducible assumption | with_reducible apply keepOut_next | with_reducible apply keep_fanOut | intro _

theorem keep_execSwitchTableStage {r s : State} {x0 : Fin 128} (h : Keep r s) :
    KeepOut r (execSwitchTableStage x0 s) := by
  unfold execSwitchTableStage
  repeat' first | with_reducible assumption | with_reducible apply keepOut_next | with_reducible apply keep_command | with_reducible apply keep_stageItems | with_reducible apply keep_complete | with_reducible apply keep_id | intro _

theorem keep_execSwitchTableRead {r s : State} {x0 : Fin 128} (h : Keep r s) :
    KeepOut r (execSwitchTableRead x0 s) := by
  unfold execSwitchTableRead
  repeat' first | with_reducible assumption | with_reducible apply keepOut_next | with_reducible apply keep_command | with_reducible apply keep_complete | intro _ | with_reducible apply keep_ite | dsimp only | split

theorem keep_execSwitchLinScheduleStage {r s : State} {x0 : Fin 128} (h : Keep r s) :
    KeepOut r (execSwitchLinScheduleStage x0 s) := by
  unfold execSwitchLinScheduleStage
  repeat' first | with_reducible assumption | with_reducible apply keepOut_next | with_reducible apply keep_command | with_reducible apply keep_stageObject | intro _

theorem keep_execSwitchLinScheduleRead {r s : State} {x0 : Fin 128} (h : Keep r s) :
    KeepOut r (execSwitchLinScheduleRead x0 s) := by
  unfold execSwitchLinScheduleRead
  repeat' first | with_reducible assumption | with_reducible apply keepOut_next | with_reducible apply keep_command | with_reducible apply keep_complete | with_reducible apply keep_id | intro _ | with_reducible apply keep_ite

end Sys2Proof.Machine
end

