-- ==== Sys2Proof/Laws/KeepRadio.lean ====
section
/-! SUPPORT. What the operations and commands of the LF array, the transceiver and the Rangefinder keep: one lemma per
definition, each following the calls of its body. -/

namespace Sys2Proof.Machine

theorem keep_modLfc {r s : State} {x1 : Nat} {x2 : LfChan → LfChan} (h : Keep r s) :
    Keep r (State.modLfc s x1 x2) := by
  unfold State.modLfc
  repeat' first | with_reducible assumption | with_reducible apply keep_modLf

theorem keep_lfRefuse {r s : State} {x0 : Nat} {x1 : Nat} (h : Keep r s) :
    Keep r (lfRefuse x0 x1 s) := by
  unfold lfRefuse
  repeat' first | with_reducible assumption | with_reducible apply keep_emit | with_reducible apply keep_modLf | intro _ | with_reducible apply keep_ite

theorem keep_lfUnhold {r s : State} (h : Keep r s) :
    Keep r (lfUnhold s) := by
  unfold lfUnhold
  repeat' first | with_reducible assumption | with_reducible apply keep_emit | with_reducible apply keep_modLf | intro _ | with_reducible apply keep_ite

theorem keep_lfTemperature {r s : State} {x0 : Int} (h : Keep r s) :
    Keep r (lfTemperature x0 s) := by
  unfold lfTemperature
  repeat' first | with_reducible assumption | with_reducible apply keep_emit | with_reducible apply keep_modLf | intro _ | with_reducible apply keep_ite

theorem keep_latchFault {r s : State} {x0 : Nat} {x1 : Nat} {x2 : Nat} {x3 : Int} (h : Keep r s) :
    Keep r (latchFault x0 x1 x2 x3 s) := by
  unfold latchFault
  repeat' first | with_reducible assumption | with_reducible apply keep_emit | with_reducible apply keep_modLfc | intro _ | with_reducible apply keep_ite

theorem keep_detuneCheck {r s : State} {x0 : LfChMeas} (h : Keep r s) :
    Keep r (detuneCheck x0 s) := by
  unfold detuneCheck
  repeat' first | with_reducible assumption | with_reducible apply keep_modLfc | with_reducible apply keep_emit | intro _ | with_reducible apply keep_ite

theorem keep_channelMeasured {r s : State} {x0 : Bool} {x1 : LfChMeas} (h : Keep r s) :
    Keep r (channelMeasured x0 x1 s) := by
  unfold channelMeasured
  repeat' first | with_reducible assumption | with_reducible apply keep_detuneCheck | with_reducible apply keep_latchFault | with_reducible apply keep_modLfc | intro _ | with_reducible apply keep_ite | dsimp only | split

theorem keep_recordLoss {r s : State} {x0 : Nat} {x1 : Nat} (h : Keep r s) :
    Keep r (recordLoss x0 x1 s) := by
  unfold recordLoss
  repeat' first | with_reducible assumption | with_reducible apply keep_modLf | intro _ | with_reducible apply keep_ite | dsimp only | split

theorem keep_lfMeasured {r s : State} {x0 : LfMeas} {x1 : LfSeq} {x2 : Nat} (h : Keep r s) :
    Keep r (lfMeasured x0 x1 x2 s) := by
  unfold lfMeasured
  repeat' first | with_reducible assumption | with_reducible apply keep_modLf | with_reducible apply keep_channelMeasured | with_reducible apply keep_emit | with_reducible apply keep_recordLoss | with_reducible apply keep_foldl | with_reducible apply keep_foldlFst | intro _ | with_reducible apply keep_ite | dsimp only | split

theorem keep_beginSeq {r s : State} {x0 : LfSeq} (h : Keep r s) :
    Keep r (beginSeq x0 s) := by
  unfold beginSeq
  repeat' first | with_reducible assumption | with_reducible apply keep_modLf | with_reducible apply keep_start | with_reducible apply keep_useFree | intro _ | with_reducible apply keep_ite | dsimp only | split

theorem keep_modJob {r s : State} {x0 : LfJob → Option LfJob} (h : Keep r s) :
    Keep r (modJob x0 s) := by
  unfold modJob
  repeat' first | with_reducible assumption | with_reducible apply keep_modLf

theorem keep_lfEnqueue {r s : State} {x0 : Nat} {x1 : Work} {x2 : LfJob} (h : Keep r s) :
    Keep r (lfEnqueue x0 x1 x2 s) := by
  unfold lfEnqueue
  repeat' first | with_reducible assumption | with_reducible apply keep_accept | with_reducible apply keep_modLf | intro _ | with_reducible apply keep_ite | dsimp only | split

theorem keep_execLfBurst {r s : State} {x0 : Fin 128} (h : Keep r s) :
    KeepOut r (execLfBurst x0 s) := by
  unfold execLfBurst
  repeat' first | with_reducible assumption | with_reducible apply keepOut_next | with_reducible apply keep_command | with_reducible apply keep_complete | with_reducible apply keep_lfEnqueue | intro _ | with_reducible apply keep_ite | dsimp only | split

theorem keep_execLfDiag {r s : State} {x0 : Fin 128} (h : Keep r s) :
    KeepOut r (execLfDiag x0 s) := by
  unfold execLfDiag
  repeat' first | with_reducible assumption | with_reducible apply keepOut_next | with_reducible apply keep_command | with_reducible apply keep_lfEnqueue | intro _

theorem keep_endDiag {r s : State} {x0 : Nat} {x1 : Nat} (h : Keep r s) :
    Keep r (endDiag x0 x1 s) := by
  unfold endDiag
  repeat' first | with_reducible assumption | with_reducible apply keep_completeTiles | intro _ | with_reducible apply keep_ite | dsimp only | split

theorem keep_execLfCommandDeadline {r s : State} {x0 : Fin 128} (h : Keep r s) :
    KeepOut r (execLfCommandDeadline x0 s) := by
  unfold execLfCommandDeadline
  repeat' first | with_reducible assumption | with_reducible apply keepOut_next | with_reducible apply keep_atDue | with_reducible apply keep_complete | with_reducible apply keep_endDiag | with_reducible apply keep_modLf | intro _ | with_reducible apply keep_ite | dsimp only | split

theorem keep_tileDone {r s : State} {x0 : LfJob} {x1 : TileRes} (h : Keep r s) :
    Keep r (tileDone x0 x1 s) := by
  unfold tileDone
  repeat' first | with_reducible assumption | with_reducible apply keep_modWork | with_reducible apply keep_endDiag | with_reducible apply keep_modJob | intro _ | with_reducible apply keep_ite | dsimp only | split

theorem keep_refuseJob {r s : State} {x0 : Nat} {x1 : LfJob} (h : Keep r s) :
    Keep r (refuseJob x0 x1 s) := by
  unfold refuseJob
  repeat' first | with_reducible assumption | with_reducible apply keep_complete | with_reducible apply keep_lfRefuse | with_reducible apply keep_modJob | with_reducible apply keep_tileDone | intro _ | with_reducible apply keep_ite | dsimp only | split

theorem keep_startJob {r s : State} {x0 : LfJob} (h : Keep r s) :
    Keep r (startJob x0 s) := by
  unfold startJob
  repeat' first | with_reducible assumption | with_reducible apply keep_beginSeq | with_reducible apply keep_lfUnhold | with_reducible apply keep_modJob | with_reducible apply keep_start | intro _ | with_reducible apply keep_ite | dsimp only | split

theorem keep_execLfCommandSequenceStart {r s : State} (h : Keep r s) :
    KeepOut r (execLfCommandSequenceStart s) := by
  unfold execLfCommandSequenceStart
  repeat' first | with_reducible assumption | with_reducible apply keep_lfUnhold | with_reducible apply keep_modLf | with_reducible apply keepOut_next | with_reducible apply keep_command | with_reducible apply keep_complete | with_reducible apply keep_modJob | with_reducible apply keep_refuseJob | with_reducible apply keep_startJob | intro _ | with_reducible apply keep_ite | dsimp only | split

theorem keep_judgeDiag {r s : State} {x0 : LfSeq} {x1 : LfJob} (h : Keep r s) :
    Keep r (judgeDiag x0 x1 s) := by
  unfold judgeDiag
  repeat' first | with_reducible assumption | with_reducible apply keep_emit | with_reducible apply keep_latchFault | with_reducible apply keep_modLfc | with_reducible apply keep_tileDone | intro _ | with_reducible apply keep_ite | dsimp only | split

theorem keep_abortDiag {r s : State} {x0 : LfJob} (h : Keep r s) :
    Keep r (abortDiag x0 s) := by
  unfold abortDiag
  repeat' first | with_reducible assumption | with_reducible apply keep_endDiag | with_reducible apply keep_modJob | with_reducible apply keep_modWork | intro _ | with_reducible apply keep_ite | dsimp only | split

theorem keep_segmentEnd {r s : State} {x0 : LfSeq} {x1 : LfJob} {x2 : LfMeas} (h : Keep r s) :
    Keep r (segmentEnd x0 x1 x2 s) := by
  unfold segmentEnd
  repeat' first | with_reducible assumption | with_reducible apply keep_abortDiag | with_reducible apply keep_judgeDiag | with_reducible apply keep_modJob | intro _ | with_reducible apply keep_ite | dsimp only | split

theorem keep_jobEnd {r s : State} {x0 : LfSeq} {x1 : LfJob} {x2 : LfMeas} (h : Keep r s) :
    Keep r (jobEnd x0 x1 x2 s) := by
  unfold jobEnd
  repeat' first | with_reducible assumption | with_reducible apply keep_complete | with_reducible apply keep_lfMeasured | with_reducible apply keep_modJob | with_reducible apply keep_recordLoss | with_reducible apply keep_segmentEnd | intro _ | with_reducible apply keep_ite | dsimp only | split

theorem keep_dropSeq {r s : State} {x0 : LfSeq} (h : Keep r s) :
    Keep r (dropSeq x0 s) := by
  unfold dropSeq
  repeat' first | with_reducible assumption | with_reducible apply keep_fieldEdges | with_reducible apply keep_modLf | intro _ | with_reducible apply keep_ite | dsimp only | split

theorem keep_execLfSequenceEnd {r s : State} {x0 : LfMeas} (h : Keep r s) :
    KeepOut r (execLfSequenceEnd x0 s) := by
  unfold execLfSequenceEnd
  repeat' first | with_reducible assumption | with_reducible apply keep_modLf | with_reducible apply keep_segmentEnd | with_reducible apply keep_lfMeasured | with_reducible apply keep_complete | with_reducible apply keep_modJob | with_reducible apply keepOut_next | with_reducible apply keep_atDue | with_reducible apply keep_dropSeq | with_reducible apply keep_jobEnd | intro _ | with_reducible apply keep_ite | dsimp only | split

theorem keep_fieldFall {r s : State} {x0 : List Nat} (h : Keep r s) :
    Keep r (fieldFall x0 s) := by
  unfold fieldFall
  repeat' first | with_reducible assumption | with_reducible apply keep_signalEdge | with_reducible apply keep_foldl | with_reducible apply keep_foldlFst | intro _ | with_reducible apply keep_ite | dsimp only | split

theorem keep_cutSeq {r s : State} {x0 : LfSeq} {x1 : LfMeas} (h : Keep r s) :
    Keep r (cutSeq x0 x1 s) := by
  unfold cutSeq
  repeat' first | with_reducible assumption | with_reducible apply keep_fieldEdges | with_reducible apply keep_fieldFall | with_reducible apply keep_modLf | with_reducible apply keep_recordLoss | intro _ | with_reducible apply keep_ite | dsimp only | split

theorem keep_cutJob {r s : State} {x0 : Nat} {x1 : LfSeq} {x2 : LfMeas} (h : Keep r s) :
    Keep r (cutJob x0 x1 x2 s) := by
  unfold cutJob
  repeat' first | with_reducible assumption | with_reducible apply keep_channelMeasured | with_reducible apply keep_complete | with_reducible apply keep_endDiag | with_reducible apply keep_modJob | with_reducible apply keep_modWork | with_reducible apply keep_foldl | with_reducible apply keep_foldlFst | intro _ | with_reducible apply keep_ite | dsimp only | split

theorem keep_vlfOff {r s : State} {x0 : Nat} {x1 : LfMeas} (h : Keep r s) :
    Keep r (vlfOff x0 x1 s).1 := by
  unfold vlfOff
  repeat' first | with_reducible assumption | with_reducible apply keep_cutJob | with_reducible apply keep_cutSeq | with_reducible apply keep_emit | with_reducible apply keep_modLf | with_reducible apply keep_start | intro _ | with_reducible apply keep_ite | dsimp only | split

theorem keep_execVlfEnable {r s : State} {x0 : Nat} (h : Keep r s) :
    KeepOut r (execVlfEnable x0 s) := by
  unfold execVlfEnable
  repeat' first | with_reducible assumption | with_reducible apply keepOut_next | with_reducible apply keep_emit | with_reducible apply keep_modLf | intro _ | with_reducible apply keep_ite

theorem keep_tripAccess {r s : State} {x0 : Nat} {x1 : LfSeq} (h : Keep r s) :
    Keep r (tripAccess x0 x1 s) := by
  unfold tripAccess
  repeat' first | with_reducible assumption | with_reducible apply keep_fieldEdges | with_reducible apply keep_fieldFall | with_reducible apply keep_modAccess | with_reducible apply keep_modLf | intro _ | with_reducible apply keep_ite | dsimp only | split

theorem keep_execLfOvercurrent {r s : State} {x0 : Fin 32} {x1 : LfTrip} {x2 : LfMeas} (h : Keep r s) :
    KeepOut r (execLfOvercurrent x0 x1 x2 s) := by
  unfold execLfOvercurrent
  repeat' first | with_reducible assumption | with_reducible apply keep_modLf | with_reducible apply keepOut_next | with_reducible apply keep_cutJob | with_reducible apply keep_cutSeq | with_reducible apply keep_emit | with_reducible apply keep_latchFault | with_reducible apply keep_tripAccess | intro _ | with_reducible apply keep_ite | dsimp only | split

theorem keep_execLfAutoDiag {r s : State} (h : Keep r s) :
    KeepOut r (execLfAutoDiag s) := by
  unfold execLfAutoDiag
  repeat' first | with_reducible assumption | with_reducible apply keepOut_next | with_reducible apply keep_requestAll | with_reducible apply keep_modLf | intro _ | with_reducible apply keep_ite | dsimp only | split

theorem keep_execLfChannelRead {r s : State} {x0 : Fin 128} (h : Keep r s) :
    KeepOut r (execLfChannelRead x0 s) := by
  unfold execLfChannelRead
  repeat' first | with_reducible assumption | with_reducible apply keepOut_next | with_reducible apply keep_fanOut | intro _

theorem keep_clearFault {r s : State} {x0 : Nat} {x1 : Req} (h : Keep r s) :
    Keep r (clearFault x0 x1 s).1 := by
  unfold clearFault
  repeat' first | with_reducible assumption | with_reducible apply keep_emit | with_reducible apply keep_modLfc | intro _ | with_reducible apply keep_ite | dsimp only | split

theorem keep_execLfClearFault {r s : State} {x0 : Fin 128} (h : Keep r s) :
    KeepOut r (execLfClearFault x0 s) := by
  unfold execLfClearFault
  repeat' first | with_reducible assumption | with_reducible apply keepOut_next | with_reducible apply keep_fanOut | with_reducible apply keep_clearFault | intro _

theorem keep_lfOff {r s : State} (h : Keep r s) :
    Keep r (lfOff s) := by
  unfold lfOff
  repeat' first | with_reducible assumption | with_reducible apply keep_complete | with_reducible apply keep_abortDiag | with_reducible apply keep_cutJob | with_reducible apply keep_cutSeq | with_reducible apply keep_endDiag | with_reducible apply keep_modJob | with_reducible apply keep_modLf | with_reducible apply keep_foldl | with_reducible apply keep_foldlFst | intro _ | with_reducible apply keep_ite | dsimp only | split

theorem keep_loadCharter {r s : State} (h : Keep r s) :
    Keep r (loadCharter s) := by
  unfold loadCharter
  repeat' first | with_reducible assumption | with_reducible apply keep_modUhf | with_reducible apply keep_emit

theorem keep_uhfWires {r s : State} (h : Keep r s) :
    Keep r (uhfWires s) := by
  unfold uhfWires
  repeat' first | with_reducible assumption | with_reducible apply keep_modUhf | intro _ | with_reducible apply keep_ite | dsimp only | split

theorem keep_enterCal {r s : State} {x0 : Nat} {x1 : Nat} (h : Keep r s) :
    Keep r (enterCal x0 x1 s) := by
  unfold enterCal
  repeat' first | with_reducible assumption | with_reducible apply keep_modUhf

theorem keep_settleAt {r s : State} {x0 : Nat} (h : Keep r s) :
    Keep r (settleAt x0 s) := by
  unfold settleAt
  repeat' first | with_reducible assumption | with_reducible apply keep_modUhf | with_reducible apply keep_settle | intro _ | with_reducible apply keep_ite | dsimp only | split

theorem keep_enterSettle {r s : State} {x0 : Nat} (h : Keep r s) :
    Keep r (enterSettle x0 s) := by
  unfold enterSettle
  repeat' first | with_reducible assumption | with_reducible apply keep_modUhf | with_reducible apply keep_enterCal | with_reducible apply keep_settleAt | intro _ | with_reducible apply keep_ite | dsimp only | split

theorem keep_leaveRx {r s : State} {x0 : Nat} (h : Keep r s) :
    Keep r (leaveRx x0 s) := by
  unfold leaveRx
  repeat' first | with_reducible assumption | with_reducible apply keep_enterSettle | with_reducible apply keep_modUhf | with_reducible apply keep_settleAt | intro _ | with_reducible apply keep_ite | dsimp only | split

theorem keep_accessBegin {r s : State} (h : Keep r s) :
    Keep r (accessBegin s) := by
  unfold accessBegin
  repeat' first | with_reducible assumption | with_reducible apply keep_enterSettle | with_reducible apply keep_leaveRx | with_reducible apply keep_modUhf | with_reducible apply keep_settle | intro _ | with_reducible apply keep_ite | dsimp only | split

theorem keep_uhfPick {r s : State} (h : Keep r s) :
    Keep r (uhfPick s) := by
  unfold uhfPick
  repeat' first | with_reducible assumption | with_reducible apply keep_enterCal | with_reducible apply keep_enterSettle | with_reducible apply keep_modUhf | with_reducible apply keep_start | intro _ | with_reducible apply keep_ite | dsimp only | split

theorem keep_uhfIdle {r s : State} (h : Keep r s) :
    Keep r (uhfIdle s) := by
  unfold uhfIdle
  repeat' first | with_reducible assumption | with_reducible apply keep_accessBegin | with_reducible apply keep_enterCal | with_reducible apply keep_modUhf | with_reducible apply keep_uhfPick | intro _ | with_reducible apply keep_ite | dsimp only | split

theorem keep_uhfClose {r s : State} {x0 : Nat} {x1 : Bytes} (h : Keep r s) :
    Keep r (uhfClose x0 x1 s) := by
  unfold uhfClose
  repeat' first | with_reducible assumption | with_reducible apply keep_complete | with_reducible apply keep_modUhf | with_reducible apply keep_uhfWires | intro _ | with_reducible apply keep_ite | dsimp only | split

theorem keep_uhfDone {r s : State} {x0 : Nat} {x1 : Bytes} (h : Keep r s) :
    Keep r (uhfDone x0 x1 s) := by
  unfold uhfDone
  repeat' first | with_reducible assumption | with_reducible apply keep_uhfIdle | with_reducible apply keep_uhfClose

theorem keep_notSent {r s : State} {x0 : Nat} {x1 : Nat} {x2 : Nat} (h : Keep r s) :
    Keep r (notSent x0 x1 x2 s) := by
  unfold notSent
  repeat' first | with_reducible assumption | with_reducible apply keep_emit

theorem keep_uhfFail {r s : State} {x0 : Nat} {x1 : Nat} (h : Keep r s) :
    Keep r (uhfFail x0 x1 s) := by
  unfold uhfFail
  repeat' first | with_reducible assumption | with_reducible apply keep_uhfClose | with_reducible apply keep_notSent | with_reducible apply keep_modUhf | intro _ | with_reducible apply keep_ite | dsimp only | split

theorem keep_uhfTry {r s : State} (h : Keep r s) :
    Keep r (uhfTry s) := by
  unfold uhfTry
  repeat' first | with_reducible assumption | with_reducible apply keep_modUhf | with_reducible apply keep_settle | with_reducible apply keep_signalEdge | intro _ | with_reducible apply keep_ite | dsimp only | split

theorem keep_execUhfCalDone {r s : State} {x0 : Bool} {x1 : VcoTune} {x2 : Nat} (h : Keep r s) :
    KeepOut r (execUhfCalDone x0 x1 x2 s) := by
  unfold execUhfCalDone
  repeat' first | with_reducible assumption | with_reducible apply keepOut_next | with_reducible apply keep_accessBegin | with_reducible apply keep_emit | with_reducible apply keep_modUhf | with_reducible apply keep_settleAt | with_reducible apply keep_uhfDone | with_reducible apply keep_uhfPick | intro _ | with_reducible apply keep_ite | dsimp only | split

theorem keep_lockNow {r s : State} (h : Keep r s) :
    Keep r (lockNow s) := by
  unfold lockNow
  repeat' first | with_reducible assumption | with_reducible apply keep_modUhf | with_reducible apply keep_settle | with_reducible apply keep_uhfTry | intro _ | with_reducible apply keep_ite | dsimp only | split

theorem keep_execUhfLock {r s : State} (h : Keep r s) :
    KeepOut r (execUhfLock s) := by
  unfold execUhfLock
  repeat' first | with_reducible assumption | with_reducible apply keep_uhfTry | with_reducible apply keep_modUhf | with_reducible apply keepOut_next | with_reducible apply keep_accessBegin | with_reducible apply keep_atDue | with_reducible apply keep_lockNow | intro _ | with_reducible apply keep_ite | dsimp only | split

theorem keep_lockEvent {r s : State} {x0 : Nat} {x1 : Nat} (h : Keep r s) :
    Keep r (lockEvent x0 x1 s) := by
  unfold lockEvent
  repeat' first | with_reducible assumption | with_reducible apply keep_emit | intro _ | with_reducible apply keep_ite | dsimp only | split

theorem keep_cutTx {r s : State} {x0 : Nat} (h : Keep r s) :
    Keep r (cutTx x0 s) := by
  unfold cutTx
  repeat' first | with_reducible assumption | with_reducible apply keep_modUhf

theorem keep_execUhfLockLost {r s : State} (h : Keep r s) :
    KeepOut r (execUhfLockLost s) := by
  unfold execUhfLockLost
  repeat' first | with_reducible assumption | with_reducible apply keepOut_next | with_reducible apply keep_cutTx | with_reducible apply keep_lockEvent | with_reducible apply keep_modUhf | with_reducible apply keep_settle | intro _ | with_reducible apply keep_ite | dsimp only | split

theorem keep_execUhfRampUpDone {r s : State} (h : Keep r s) :
    KeepOut r (execUhfRampUpDone s) := by
  unfold execUhfRampUpDone
  repeat' first | with_reducible assumption | with_reducible apply keepOut_next | with_reducible apply keep_atDue | with_reducible apply keep_modUhf | intro _ | with_reducible apply keep_ite

theorem keep_execUhfTxEnd {r s : State} (h : Keep r s) :
    KeepOut r (execUhfTxEnd s) := by
  unfold execUhfTxEnd
  repeat' first | with_reducible assumption | with_reducible apply keepOut_next | with_reducible apply keep_atDue | with_reducible apply keep_modUhf | intro _ | with_reducible apply keep_ite | dsimp only | split

theorem keep_execUhfRampDownDone {r s : State} (h : Keep r s) :
    KeepOut r (execUhfRampDownDone s) := by
  unfold execUhfRampDownDone
  repeat' first | with_reducible assumption | with_reducible apply keepOut_next | with_reducible apply keep_atDue | with_reducible apply keep_emit | with_reducible apply keep_modUhf | with_reducible apply keep_power | with_reducible apply keep_signalEdge | with_reducible apply keep_uhfDone | intro _ | with_reducible apply keep_ite | dsimp only | split

theorem keep_accessBack {r s : State} {x0 : AccWin} (h : Keep r s) :
    Keep r (accessBack x0 s) := by
  unfold accessBack
  repeat' first | with_reducible assumption | with_reducible apply keep_leaveRx | with_reducible apply keep_modUhf | with_reducible apply keep_uhfIdle | intro _ | with_reducible apply keep_ite | dsimp only | split

theorem keep_accessEnd {r s : State} {x0 : AccWin} (h : Keep r s) :
    Keep r (accessEnd x0 s) := by
  unfold accessEnd
  repeat' first | with_reducible assumption | with_reducible apply keep_enterSettle | with_reducible apply keep_uhfIdle | with_reducible apply keep_accessBack | with_reducible apply keep_modUhf | with_reducible apply keep_uhfWires | intro _ | with_reducible apply keep_ite | dsimp only | split

theorem keep_uhfLockOver {r s : State} (h : Keep r s) :
    Keep r (execUhfLockTimeout.timeout s) := by
  unfold execUhfLockTimeout.timeout
  repeat' first | with_reducible assumption | with_reducible apply keep_enterCal | with_reducible apply keep_lockEvent | with_reducible apply keep_modUhf | with_reducible apply keep_uhfFail | with_reducible apply keep_uhfIdle | with_reducible apply keep_accessBack | intro _ | with_reducible apply keep_ite | dsimp only | split

theorem keep_execUhfLockTimeout {r s : State} (h : Keep r s) :
    KeepOut r (execUhfLockTimeout s) := by
  unfold execUhfLockTimeout
  repeat' first | with_reducible assumption | with_reducible apply keep_uhfLockOver | with_reducible apply keep_accessEnd | with_reducible apply keepOut_next | with_reducible apply keep_accessBack | with_reducible apply keep_accessBegin | with_reducible apply keep_atDue | with_reducible apply keep_enterCal | with_reducible apply keep_lockEvent | with_reducible apply keep_modUhf | with_reducible apply keep_settle | with_reducible apply keep_uhfFail | with_reducible apply keep_uhfIdle | intro _ | with_reducible apply keep_ite | dsimp only | split

theorem keep_windowEnd {r s : State} {x0 : UhfWindow} (h : Keep r s) :
    Keep r (windowEnd x0 s) := by
  unfold windowEnd
  repeat' first | with_reducible assumption | with_reducible apply keep_uhfDone

theorem keep_hostEnd {r s : State} {x0 : UhfWindow} (h : Keep r s) :
    Keep r (rxWindowEnd.hostEnd x0 s) := by
  unfold rxWindowEnd.hostEnd
  repeat' first | with_reducible assumption | with_reducible apply keep_uhfClose | with_reducible apply keep_windowEnd | intro _ | with_reducible apply keep_ite | dsimp only | split

theorem keep_rxWindowEnd {r s : State} (h : Keep r s) :
    Keep r (rxWindowEnd s) := by
  unfold rxWindowEnd
  repeat' first | with_reducible assumption | with_reducible apply keep_hostEnd | with_reducible apply keep_accessEnd | with_reducible apply keep_atDue | with_reducible apply keep_uhfClose | with_reducible apply keep_windowEnd | intro _ | with_reducible apply keep_ite | dsimp only | split

theorem keep_execUhfPacketReceived {r s : State} {x0 : UhfPacket} (h : Keep r s) :
    KeepOut r (execUhfPacketReceived x0 s) := by
  unfold execUhfPacketReceived
  repeat' first | with_reducible assumption | with_reducible apply keepOut_next | with_reducible apply keep_count | with_reducible apply keep_modUhf | intro _ | with_reducible apply keep_ite | dsimp only | split

theorem keep_lateWaiting {r s : State} {x0 : UhfReq} (h : Keep r s) :
    Keep r (lateWaiting x0 s) := by
  unfold lateWaiting
  repeat' first | with_reducible assumption | with_reducible apply keep_complete | with_reducible apply keep_modUhf | with_reducible apply keep_notSent | with_reducible apply keep_power | with_reducible apply keep_uhfWires | intro _ | with_reducible apply keep_ite | dsimp only | split

theorem keep_deadlineOver {r s : State} {x0 : UhfReq} (h : Keep r s) :
    Keep r (deadlineOver x0 s) := by
  unfold deadlineOver
  repeat' first | with_reducible assumption | with_reducible apply keep_lateWaiting | with_reducible apply keep_uhfFail | with_reducible apply keep_uhfIdle | intro _ | with_reducible apply keep_ite | dsimp only | split

theorem keep_execUhfTxDeadline {r s : State} (h : Keep r s) :
    KeepOut r (execUhfTxDeadline s) := by
  unfold execUhfTxDeadline
  repeat' first | with_reducible assumption | with_reducible apply keep_uhfFail | with_reducible apply keep_uhfIdle | with_reducible apply keep_lateWaiting | with_reducible apply keepOut_next | with_reducible apply keep_atDue | with_reducible apply keep_deadlineOver | with_reducible apply keep_uhfTry | intro _ | with_reducible apply keep_ite | dsimp only | split

theorem keep_execCoexLeadExpire {r s : State} (h : Keep r s) :
    KeepOut r (execCoexLeadExpire s) := by
  unfold execCoexLeadExpire
  repeat' first | with_reducible assumption | with_reducible apply keepOut_next | with_reducible apply keep_atDue | with_reducible apply keep_settle | with_reducible apply keep_uhfTry | intro _ | with_reducible apply keep_ite | dsimp only | split

theorem keep_execRfGntChange {r s : State} {x0 : Bool} (h : Keep r s) :
    KeepOut r (execRfGntChange x0 s) := by
  unfold execRfGntChange
  repeat' first | with_reducible assumption | with_reducible apply keepOut_next | with_reducible apply keep_cutTx | with_reducible apply keep_emit | with_reducible apply keep_modUhf | with_reducible apply keep_signalEdge | with_reducible apply keep_uhfTry | intro _ | with_reducible apply keep_ite | dsimp only | split

theorem keep_uhfOn {r s : State} (h : Keep r s) :
    Keep r (uhfOn s) := by
  unfold uhfOn
  repeat' first | with_reducible assumption | with_reducible apply keep_uhfIdle | intro _ | with_reducible apply keep_ite

theorem keep_uhfOff {r s : State} {x0 : Nat} (h : Keep r s) :
    Keep r (uhfOff x0 s) := by
  unfold uhfOff
  repeat' first | with_reducible assumption | with_reducible apply keep_complete | with_reducible apply keep_emit | with_reducible apply keep_modUhf | with_reducible apply keep_notSent | with_reducible apply keep_power | with_reducible apply keep_signalEdge | with_reducible apply keep_foldl | with_reducible apply keep_foldlFst | intro _ | with_reducible apply keep_ite | dsimp only | split

theorem keep_uhfTemperature {r s : State} (h : Keep r s) :
    Keep r (uhfTemperature s) := by
  unfold uhfTemperature
  repeat' first | with_reducible assumption | with_reducible apply keep_uhfIdle | intro _ | with_reducible apply keep_ite | dsimp only | split

theorem keep_uhfJoin {r s : State} {x0 : UhfReq} (h : Keep r s) :
    Keep r (uhfJoin x0 s) := by
  unfold uhfJoin
  repeat' first | with_reducible assumption | with_reducible apply keep_modUhf | with_reducible apply keep_uhfPick | intro _ | with_reducible apply keep_ite | dsimp only | split

theorem keep_txRefuse {r s : State} {x0 : Nat} {x1 : Nat} {x2 : Nat} {x3 : Int} {x4 : Nat} {x5 : Nat} (h : Keep r s) :
    Keep r (txRefuse x0 x1 x2 x3 x4 x5 s) := by
  unfold txRefuse
  repeat' first | with_reducible assumption | with_reducible apply keep_complete | with_reducible apply keep_notSent

theorem keep_admitTx {r s : State} {x0 : Nat} {x1 : Work} (h : Keep r s) :
    Keep r (admitTx x0 x1 s) := by
  unfold admitTx
  repeat' first | with_reducible assumption | with_reducible apply keep_accept | with_reducible apply keep_modUhf | with_reducible apply keep_power | with_reducible apply keep_txRefuse | with_reducible apply keep_uhfJoin | with_reducible apply keep_useFree | intro _ | with_reducible apply keep_ite | dsimp only | split

theorem keep_admitRx {r s : State} {x0 : Nat} {x1 : Work} (h : Keep r s) :
    Keep r (admitRx x0 x1 s) := by
  unfold admitRx
  repeat' first | with_reducible assumption | with_reducible apply keep_accept | with_reducible apply keep_complete | with_reducible apply keep_uhfJoin | intro _ | with_reducible apply keep_ite | dsimp only | split

theorem keep_admitCal {r s : State} {x0 : Nat} {x1 : Work} (h : Keep r s) :
    Keep r (admitCal x0 x1 s) := by
  unfold admitCal
  repeat' first | with_reducible assumption | with_reducible apply keep_uhfJoin | intro _ | with_reducible apply keep_ite | dsimp only | split

theorem keep_uhfAdmit {r s : State} {x0 : Nat × Work} (h : Keep r s) :
    Keep r (uhfAdmit s x0) := by
  unfold uhfAdmit
  repeat' first | with_reducible assumption | with_reducible apply keep_admitTx | with_reducible apply keep_admitRx | with_reducible apply keep_admitCal | intro _ | with_reducible apply keep_ite | dsimp only | split

theorem keep_uhfCommand {r s : State} {x0 : Nat} {x1 : Nat} (h : Keep r s) :
    Keep r (uhfCommand x0 x1 s) := by
  unfold uhfCommand
  repeat' first | with_reducible assumption | with_reducible apply keep_uhfAdmit | with_reducible apply keep_uhfAdmit | with_reducible apply keep_foldl | with_reducible apply keep_foldlFst | intro _ | with_reducible apply keep_ite | dsimp only | split

theorem keep_execUhfTx {r s : State} {x0 : Fin 128} (h : Keep r s) :
    KeepOut r (execUhfTx x0 s) := by
  unfold execUhfTx
  repeat' first | with_reducible assumption | with_reducible apply keep_command | with_reducible apply keep_modUhf | with_reducible apply keep_txRefuse | with_reducible apply keep_useFree | with_reducible apply keep_uhfJoin | with_reducible apply keepOut_next | with_reducible apply keep_uhfCommand | intro _ | with_reducible apply keep_ite | dsimp only | split

theorem keep_execUhfRx {r s : State} {x0 : Fin 128} (h : Keep r s) :
    KeepOut r (execUhfRx x0 s) := by
  unfold execUhfRx
  repeat' first | with_reducible assumption | with_reducible apply keep_command | with_reducible apply keep_complete | with_reducible apply keep_uhfJoin | with_reducible apply keepOut_next | with_reducible apply keep_uhfCommand | intro _ | with_reducible apply keep_ite | dsimp only | split

theorem keep_execUhfCalibrate {r s : State} {x0 : Fin 128} (h : Keep r s) :
    KeepOut r (execUhfCalibrate x0 s) := by
  unfold execUhfCalibrate
  repeat' first | with_reducible assumption | with_reducible apply keep_command | with_reducible apply keep_uhfJoin | with_reducible apply keepOut_next | with_reducible apply keep_uhfCommand | intro _ | with_reducible apply keep_ite | dsimp only | split

theorem keep_execUhfStatus {r s : State} {x0 : Fin 128} (h : Keep r s) :
    KeepOut r (execUhfStatus x0 s) := by
  unfold execUhfStatus
  repeat' first | with_reducible assumption | with_reducible apply keepOut_next | with_reducible apply keep_command | with_reducible apply keep_complete | intro _

theorem keep_execUhfCharterRead {r s : State} {x0 : Fin 128} (h : Keep r s) :
    KeepOut r (execUhfCharterRead x0 s) := by
  unfold execUhfCharterRead
  repeat' first | with_reducible assumption | with_reducible apply keepOut_next | with_reducible apply keep_command | with_reducible apply keep_complete | intro _

theorem keep_execUhfDutyRead {r s : State} {x0 : Fin 128} (h : Keep r s) :
    KeepOut r (execUhfDutyRead x0 s) := by
  unfold execUhfDutyRead
  repeat' first | with_reducible assumption | with_reducible apply keepOut_next | with_reducible apply keep_command | with_reducible apply keep_modUhf | with_reducible apply keep_complete | intro _

theorem keep_bookAccess {r s : State} {x0 : Nat} {x1 : Nat} (h : Keep r s) :
    Keep r (bookAccess x0 x1 s) := by
  unfold bookAccess
  repeat' first | with_reducible assumption | with_reducible apply keep_enterCal | with_reducible apply keep_accessBegin | with_reducible apply keep_emit | with_reducible apply keep_modUhf | intro _ | with_reducible apply keep_ite | dsimp only | split

theorem keep_uhfTurn {r s : State} (h : Keep r s) :
    Keep r (uhfTurn s) := by
  unfold uhfTurn
  repeat' first | with_reducible assumption | with_reducible apply keep_accessBegin | with_reducible apply keep_uhfTry | intro _ | with_reducible apply keep_ite | dsimp only | split

theorem keep_closeSession {r s : State} {x0 : Sess} {x1 : SessRec} {x2 : Nat} {x3 : Nat} (h : Keep r s) :
    Keep r (closeSession x0 x1 x2 x3 s) := by
  unfold closeSession
  repeat' first | with_reducible assumption | with_reducible apply keep_modRange | with_reducible apply keep_rangeEdges | intro _ | with_reducible apply keep_ite | dsimp only | split

theorem keep_noVerdict {r s : State} {x0 : Sess} {x1 : Nat} (h : Keep r s) :
    Keep r (noVerdict x0 x1 s) := by
  unfold noVerdict
  repeat' first | with_reducible assumption | with_reducible apply keep_closeSession | with_reducible apply keep_emit | intro _ | with_reducible apply keep_ite | dsimp only | split

theorem keep_calibCount {r s : State} {x0 : Option Int} (h : Keep r s) :
    Keep r (calibCount x0 s) := by
  unfold calibCount
  repeat' first | with_reducible assumption | with_reducible apply keep_modRange

theorem keep_sessDrawn {r s : State} {x0 : Bytes} (h : Keep r s) :
    Keep r (sessDrawn x0 s) := by
  unfold sessDrawn
  repeat' first | with_reducible assumption | with_reducible apply keep_modRange | with_reducible apply keep_calibCount | with_reducible apply keep_noVerdict | with_reducible apply keep_id | intro _ | with_reducible apply keep_ite | dsimp only | split

theorem keep_startSession {r s : State} {x0 : Sess} (h : Keep r s) :
    Keep r (startSession x0 s) := by
  unfold startSession
  repeat' first | with_reducible assumption | with_reducible apply keep_askQueue | with_reducible apply keep_calibCount | with_reducible apply keep_modRange | with_reducible apply keep_noVerdict | with_reducible apply keep_sessDrawn | with_reducible apply keep_id | intro _ | with_reducible apply keep_ite | dsimp only | split

theorem keep_calibEnd {r s : State} {x0 : Nat} {x1 : Int} {x2 : Nat} {x3 : Nat} (h : Keep r s) :
    Keep r (calibEnd x0 x1 x2 x3 s) := by
  unfold calibEnd
  repeat' first | with_reducible assumption | with_reducible apply keep_complete | with_reducible apply keep_modRange | intro _ | with_reducible apply keep_ite | dsimp only | split

theorem keep_calibJudge {r s : State} {x0 : PortCal} (h : Keep r s) :
    Keep r (calibJudge x0 s) := by
  unfold calibJudge
  repeat' first | with_reducible assumption | with_reducible apply keep_calibEnd | intro _ | with_reducible apply keep_ite

theorem keep_rangeNextN {r s : State} {x0 : Nat} (h : Keep r s) :
    Keep r (rangeNextN x0 s) := by
  induction x0 generalizing s with
  | zero => exact h
  | succ m ih =>
  unfold rangeNextN
  repeat' first | with_reducible assumption | with_reducible apply ih | with_reducible apply keep_modRange | with_reducible apply keep_startSession | with_reducible apply keep_calibJudge | with_reducible apply keep_useFree | intro _ | with_reducible apply keep_ite | dsimp only | split

theorem keep_rangeNext {r s : State} (h : Keep r s) :
    Keep r (rangeNext s) := by
  unfold rangeNext
  repeat' first | with_reducible assumption | with_reducible apply keep_rangeNextN

theorem keep_requestSession {r s : State} {x0 : Sess} (h : Keep r s) :
    Keep r (requestSession x0 s) := by
  unfold requestSession
  repeat' first | with_reducible assumption | with_reducible apply keep_modRange | with_reducible apply keep_rangeNext | with_reducible apply keep_requestAll | intro _ | with_reducible apply keep_ite | dsimp only | split

theorem keep_execRangingResponse {r s : State} {x0 : RangingRx} (h : Keep r s) :
    KeepOut r (execRangingResponse x0 s) := by
  unfold execRangingResponse
  repeat' first | with_reducible assumption | with_reducible apply keepOut_next | with_reducible apply keep_modRange | intro _ | with_reducible apply keep_ite | dsimp only | split

theorem keep_execFastExchangeRound {r s : State} {x0 : FastRound} (h : Keep r s) :
    KeepOut r (execFastExchangeRound x0 s) := by
  unfold execFastExchangeRound
  repeat' first | with_reducible assumption | with_reducible apply keepOut_next | with_reducible apply keep_modRange | with_reducible apply keep_report | intro _ | with_reducible apply keep_ite | dsimp only | split

theorem keep_execRangingReport {r s : State} {x0 : Option Bytes} (h : Keep r s) :
    KeepOut r (execRangingReport x0 s) := by
  unfold execRangingReport
  repeat' first | with_reducible assumption | with_reducible apply keepOut_next | with_reducible apply keep_modRange | intro _ | with_reducible apply keep_ite | dsimp only | split

theorem keep_giveVerdict {r s : State} {x0 : Sess} (h : Keep r s) :
    Keep r (giveVerdict x0 s) := by
  unfold giveVerdict
  repeat' first | with_reducible assumption | with_reducible apply keep_closeSession | with_reducible apply keep_useFree | with_reducible apply keep_modAccess | with_reducible apply keep_emit | with_reducible apply keep_calibCount | intro _ | with_reducible apply keep_ite | dsimp only | split

theorem keep_rangingVerdict {r s : State} (h : Keep r s) :
    Keep r (rangingVerdict s) := by
  unfold rangingVerdict
  repeat' first | with_reducible assumption | with_reducible apply keep_atDue | with_reducible apply keep_rangeNext | with_reducible apply keep_giveVerdict | intro _ | with_reducible apply keep_ite | dsimp only | split

theorem keep_sessStarved {r s : State} (h : Keep r s) :
    Keep r (sessStarved s) := by
  unfold sessStarved
  repeat' first | with_reducible assumption | with_reducible apply keep_atDue | with_reducible apply keep_rangeNext | with_reducible apply keep_calibCount | with_reducible apply keep_noVerdict | with_reducible apply keep_modGrain | with_reducible apply keep_id | intro _ | with_reducible apply keep_ite | dsimp only | split

theorem keep_modCable {r s : State} {x0 : CableRun → CableRun} (h : Keep r s) :
    Keep r (modCable x0 s) := by
  unfold modCable
  repeat' first | with_reducible assumption | with_reducible apply keep_modRange

theorem keep_cableEnd {r s : State} {x0 : Nat} (h : Keep r s) :
    Keep r (cableEnd x0 s) := by
  unfold cableEnd
  repeat' first | with_reducible assumption | with_reducible apply keep_modRange | with_reducible apply keep_modPort | with_reducible apply keep_completeTiles | intro _ | with_reducible apply keep_ite | dsimp only | split

theorem keep_cableTile {r s : State} {x0 : TileRes} (h : Keep r s) :
    Keep r (cableTile x0 s) := by
  unfold cableTile
  repeat' first | with_reducible assumption | with_reducible apply keep_modCable | with_reducible apply keep_modWork | intro _ | with_reducible apply keep_ite | dsimp only | split

theorem keep_cableSettle {r s : State} {x0 : Nat} (h : Keep r s) :
    Keep r (cableSettle x0 s) := by
  induction x0 generalizing s with
  | zero => exact h
  | succ m ih =>
  unfold cableSettle
  repeat' first | with_reducible assumption | with_reducible apply ih | with_reducible apply keep_cableEnd | with_reducible apply keep_cableTile | intro _ | with_reducible apply keep_ite | dsimp only | split

theorem keep_cableDone {r s : State} {x0 : CableRun} {x1 : Nat} (h : Keep r s) :
    Keep r (cableDone x0 x1 s) := by
  unfold cableDone
  repeat' first | with_reducible assumption | with_reducible apply keep_modPort | with_reducible apply keep_modRange | with_reducible apply keep_emit | with_reducible apply keep_cableTile

theorem keep_execCableSegment {r s : State} {x0 : CableRx} (h : Keep r s) :
    KeepOut r (execCableSegment x0 s) := by
  unfold execCableSegment
  repeat' first | with_reducible assumption | with_reducible apply keepOut_next | with_reducible apply keep_cableSettle | with_reducible apply keep_cableEnd | with_reducible apply keep_start | with_reducible apply keep_modPort | with_reducible apply keep_takeDown | with_reducible apply keep_modCable | with_reducible apply keep_cableDone | with_reducible apply keep_rangeNext | intro _ | with_reducible apply keep_ite | dsimp only | split

theorem keep_execRangeCable {r s : State} {x0 : Fin 128} (h : Keep r s) :
    KeepOut r (execRangeCable x0 s) := by
  unfold execRangeCable
  repeat' first | with_reducible assumption | with_reducible apply keepOut_next | with_reducible apply keep_command | with_reducible apply keep_modRange | with_reducible apply keep_cableSettle | intro _ | with_reducible apply keep_ite

theorem keep_execRangeCableDeadline {r s : State} {x0 : Fin 128} (h : Keep r s) :
    KeepOut r (execRangeCableDeadline x0 s) := by
  unfold execRangeCableDeadline
  repeat' first | with_reducible assumption | with_reducible apply keepOut_next | with_reducible apply keep_atDue | with_reducible apply keep_cableEnd | with_reducible apply keep_modRange | with_reducible apply keep_cableSettle | intro _ | with_reducible apply keep_ite | dsimp only | split

theorem keep_calibTdc {r s : State} {x0 : Bool} (h : Keep r s) :
    Keep r (calibTdc x0 s) := by
  unfold calibTdc
  repeat' first | with_reducible assumption | with_reducible apply keep_calibEnd | with_reducible apply keep_modRange | intro _ | with_reducible apply keep_ite | dsimp only | split

theorem keep_execTdcCalibration {r s : State} {x0 : Bool} {x1 : Int} (h : Keep r s) :
    KeepOut r (execTdcCalibration x0 x1 s) := by
  unfold execTdcCalibration
  repeat' first | with_reducible assumption | with_reducible apply keepOut_next | with_reducible apply keep_atDue | with_reducible apply keep_calibTdc | with_reducible apply keep_emit | with_reducible apply keep_modRange | with_reducible apply keep_rangeNext | intro _ | with_reducible apply keep_ite | dsimp only | split

theorem keep_rangeOn {r s : State} (h : Keep r s) :
    Keep r (rangeOn s) := by
  unfold rangeOn
  repeat' first | with_reducible assumption | with_reducible apply keep_modRange

theorem keep_endSessions {r s : State} (h : Keep r s) :
    Keep r (endSessions s) := by
  unfold endSessions
  repeat' first | with_reducible assumption | with_reducible apply keep_modRange | with_reducible apply keep_noVerdict | with_reducible apply keep_foldl | with_reducible apply keep_foldlFst | intro _ | with_reducible apply keep_ite | dsimp only | split

theorem keep_rangeOff {r s : State} {x0 : Nat} (h : Keep r s) :
    Keep r (rangeOff x0 s) := by
  unfold rangeOff
  repeat' first | with_reducible assumption | with_reducible apply keep_noVerdict | with_reducible apply keep_cableEnd | with_reducible apply keep_calibEnd | with_reducible apply keep_endSessions | with_reducible apply keep_modRange | with_reducible apply keep_foldl | with_reducible apply keep_foldlFst | intro _ | with_reducible apply keep_ite | dsimp only | split

theorem keep_execRangeStatus {r s : State} {x0 : Fin 128} (h : Keep r s) :
    KeepOut r (execRangeStatus x0 s) := by
  unfold execRangeStatus
  repeat' first | with_reducible assumption | with_reducible apply keepOut_next | with_reducible apply keep_command | with_reducible apply keep_complete | intro _

theorem keep_execRangePortRead {r s : State} {x0 : Fin 128} (h : Keep r s) :
    KeepOut r (execRangePortRead x0 s) := by
  unfold execRangePortRead
  repeat' first | with_reducible assumption | with_reducible apply keepOut_next | with_reducible apply keep_fanOut | intro _

theorem keep_execRangePortCalibrate {r s : State} {x0 : Fin 128} (h : Keep r s) :
    KeepOut r (execRangePortCalibrate x0 s) := by
  unfold execRangePortCalibrate
  repeat' first | with_reducible assumption | with_reducible apply keepOut_next | with_reducible apply keep_command | with_reducible apply keep_complete | with_reducible apply keep_rangeNext | with_reducible apply keep_start | with_reducible apply keep_modRange | intro _ | with_reducible apply keep_ite

theorem keep_execRangeSessionRead {r s : State} {x0 : Fin 128} (h : Keep r s) :
    KeepOut r (execRangeSessionRead x0 s) := by
  unfold execRangeSessionRead
  repeat' first | with_reducible assumption | with_reducible apply keepOut_next | with_reducible apply keep_command | with_reducible apply keep_complete | intro _ | with_reducible apply keep_ite | dsimp only | split

theorem keep_execRangeCableTraceRead {r s : State} {x0 : Fin 128} (h : Keep r s) :
    KeepOut r (execRangeCableTraceRead x0 s) := by
  unfold execRangeCableTraceRead
  repeat' first | with_reducible assumption | with_reducible apply keepOut_next | with_reducible apply keep_command | with_reducible apply keep_complete | intro _ | with_reducible apply keep_ite | dsimp only | split

end Sys2Proof.Machine
end

