-- ==== Sys2Proof/Laws/KeepFixer.lean ====
section
/-! SUPPORT. What the operations and commands of the F die and its lane keep: one lemma per
definition, each following the calls of its body. -/

namespace Sys2Proof.Machine

theorem keep_toMaster {r s : State} {x0 : LaneMsg} (h : Keep r s) :
    Keep r (toMaster x0 s) := by
  unfold toMaster
  repeat' first | with_reducible assumption | with_reducible apply keep_modLane | intro _ | with_reducible apply keep_ite

theorem keep_answer {r s : State} {x0 : Nat} {x1 : Nat} {x2 : Bytes} (h : Keep r s) :
    Keep r (answer x0 x1 x2 s) := by
  unfold answer
  repeat' first | with_reducible assumption | with_reducible apply keep_toMaster

theorem keep_deliver {r s : State} {x0 : Nat} {x1 : LaneReq} (h : Keep r s) :
    Keep r (deliver x0 x1 s) := by
  unfold deliver
  repeat' first | with_reducible assumption | with_reducible apply keep_answer | with_reducible apply keep_modLane | intro _ | with_reducible apply keep_ite

theorem keep_laneSend {r s : State} {x0 : LaneReq} {x1 : LaneUser} (h : Keep r s) :
    Keep r (laneSend x0 x1 s) := by
  unfold laneSend
  repeat' first | with_reducible assumption | with_reducible apply keep_deliver | with_reducible apply keep_modLane

theorem keep_sendToken {r s : State} {x0 : Nat} {x1 : Nat} (h : Keep r s) :
    Keep r (sendToken x0 x1 s) := by
  unfold sendToken
  repeat' first | with_reducible assumption | with_reducible apply keep_laneSend | with_reducible apply keep_modLane | intro _ | with_reducible apply keep_ite

theorem keep_bufferRec {r s : State} {x0 : Nat} {x1 : Bytes} {x2 : Bytes} (h : Keep r s) :
    Keep r (bufferRec x0 x1 x2 s) := by
  unfold bufferRec
  repeat' first | with_reducible assumption | with_reducible apply keep_modFix | with_reducible apply keep_toMaster | with_reducible apply keep_modLane | intro _ | with_reducible apply keep_ite

theorem keep_chainRec {r s : State} {x0 : Nat} {x1 : Bytes} (h : Keep r s) :
    Keep r (chainRec x0 x1 s) := by
  unfold chainRec
  repeat' first | with_reducible assumption | with_reducible apply keep_bufferRec | with_reducible apply keep_modFix

theorem keep_signRec {r s : State} {x0 : Nat} {x1 : Bytes} (h : Keep r s) :
    Keep r (signRec x0 x1 s) := by
  unfold signRec
  repeat' first | with_reducible assumption | with_reducible apply keep_bufferRec

theorem keep_signature {r s : State} (h : Keep r s) :
    Keep r (signature s) := by
  unfold signature
  repeat' first | with_reducible assumption | with_reducible apply keep_signRec | with_reducible apply keep_modFix | with_reducible apply keep_useFree

theorem keep_countLost {r s : State} (h : Keep r s) :
    Keep r (countLost s) := by
  unfold countLost
  repeat' first | with_reducible assumption | with_reducible apply keep_modFix

theorem keep_chainWith {r s : State} {x0 : Nat} {x1 : Bytes} (h : Keep r s) :
    Keep r (chainWith x0 x1 s) := by
  unfold chainWith
  repeat' first | with_reducible assumption | with_reducible apply keep_chainRec | with_reducible apply keep_countLost | with_reducible apply keep_signature | intro _ | with_reducible apply keep_ite | dsimp only | split

theorem keep_makeRec {r s : State} {x0 : Nat} {x1 : Bytes} (h : Keep r s) :
    Keep r (makeRec x0 x1 s) := by
  unfold makeRec
  repeat' first | with_reducible assumption | with_reducible apply keep_chainWith | with_reducible apply keep_countLost | intro _ | with_reducible apply keep_ite

theorem keep_fixEvent {r s : State} {x0 : Nat} {x1 : Nat} {x2 : Bytes} (h : Keep r s) :
    Keep r (fixEvent x0 x1 x2 s) := by
  unfold fixEvent
  repeat' first | with_reducible assumption | with_reducible apply keep_modEv | with_reducible apply keep_toMaster | with_reducible apply keep_modFix

theorem keep_recEvent {r s : State} {x0 : Nat} {x1 : Bytes} {x2 : Nat} {x3 : Nat} {x4 : Bytes} (h : Keep r s) :
    Keep r (recEvent x0 x1 x2 x3 x4 s) := by
  unfold recEvent
  repeat' first | with_reducible assumption | with_reducible apply keep_fixEvent | with_reducible apply keep_makeRec | intro _ | with_reducible apply keep_ite

theorem keep_sealEvent {r s : State} {x0 : Nat} {x1 : Nat} (h : Keep r s) :
    Keep r (sealEvent x0 x1 s) := by
  unfold sealEvent
  repeat' first | with_reducible assumption | with_reducible apply keep_modFix | with_reducible apply keep_modLane | with_reducible apply keep_recEvent | with_reducible apply keep_strobe | intro _ | with_reducible apply keep_ite | dsimp only | split

theorem keep_closeMinute {r s : State} (h : Keep r s) :
    Keep r (closeMinute s) := by
  unfold closeMinute
  repeat' first | with_reducible assumption | with_reducible apply keep_modFix | with_reducible apply keep_makeRec | intro _ | with_reducible apply keep_ite

theorem keep_makeGap {r s : State} {x0 : GapAcc} (h : Keep r s) :
    Keep r (makeGap x0 s) := by
  unfold makeGap
  repeat' first | with_reducible assumption | with_reducible apply keep_fixEvent | with_reducible apply keep_chainWith | with_reducible apply keep_modFix

theorem keep_advanceTail {r s : State} {x0 : Nat} (h : Keep r s) :
    Keep r (advanceTail x0 s) := by
  unfold advanceTail
  repeat' first | with_reducible assumption | with_reducible apply keep_makeGap | with_reducible apply keep_modFix | intro _ | with_reducible apply keep_ite | dsimp only | split

theorem keep_resendRecords {r s : State} (h : Keep r s) :
    Keep r (resendRecords s) := by
  unfold resendRecords
  repeat' first | with_reducible assumption | with_reducible apply keep_toMaster | with_reducible apply keep_foldl | with_reducible apply keep_foldlFst | intro _

theorem keep_resendEvents {r s : State} (h : Keep r s) :
    Keep r (resendEvents s) := by
  unfold resendEvents
  repeat' first | with_reducible assumption | with_reducible apply keep_toMaster | with_reducible apply keep_foldl | with_reducible apply keep_foldlFst | intro _

theorem keep_fixDue {r s : State} {d : Nat} {k : State → State} (hk : ∀ t, Keep r t → Keep r (k t)) (h : Keep r s) :
    Keep r (fixDue d s k) := keep_ite (hk _ (keep_modFix h)) h

theorem keep_execMsPulseEdge {r s : State} {x0 : Nat} {x1 : Nat} (h : Keep r s) :
    KeepOut r (execMsPulseEdge x0 x1 s) := by
  unfold execMsPulseEdge
  repeat' first | with_reducible assumption | with_reducible apply keepOut_next | with_reducible apply keep_modFix | with_reducible apply keep_modEv | intro _ | with_reducible apply keep_ite

theorem keep_execSpeedSample {r s : State} (h : Keep r s) :
    KeepOut r (execSpeedSample s) := by
  unfold execSpeedSample
  repeat' first | with_reducible assumption | with_reducible apply keepOut_next | with_reducible apply keep_fixDue | with_reducible apply keep_modFix | intro _ | with_reducible apply keep_ite

theorem keep_execActivityRecord {r s : State} (h : Keep r s) :
    KeepOut r (execActivityRecord s) := by
  unfold execActivityRecord
  repeat' first | with_reducible assumption | with_reducible apply keepOut_next | with_reducible apply keep_fixDue | with_reducible apply keep_modFix | with_reducible apply keep_closeMinute | intro _ | with_reducible apply keep_ite

theorem keep_stepClock {r s : State} {x0 : Nat} (h : Keep r s) :
    Keep r (stepClock x0 s) := by
  unfold stepClock
  repeat' first | with_reducible assumption | with_reducible apply keep_modFix | with_reducible apply keep_closeMinute

theorem keep_execFixerSlewEnd {r s : State} (h : Keep r s) :
    KeepOut r (execFixerSlewEnd s) := by
  unfold execFixerSlewEnd
  repeat' first | with_reducible assumption | with_reducible apply keepOut_next | with_reducible apply keep_fixDue | with_reducible apply keep_modFix | intro _ | with_reducible apply keep_ite

theorem keep_execXmTempCorrection {r s : State} {x0 : Int} (h : Keep r s) :
    KeepOut r (execXmTempCorrection x0 s) := by
  unfold execXmTempCorrection
  repeat' first | with_reducible assumption | with_reducible apply keepOut_next | with_reducible apply keep_fixDue | with_reducible apply keep_modFix | intro _

theorem keep_modMotion {r s : State} {x1 : Motion → Motion} (h : Keep r s) :
    Keep r (State.modMotion s x1) := by
  unfold State.modMotion
  repeat' first | with_reducible assumption | with_reducible apply keep_modFix

theorem keep_sendCheck {r s : State} {x0 : Nat} {x1 : Bytes} (h : Keep r s) :
    Keep r (sendCheck x0 x1 s) := by
  unfold sendCheck
  repeat' first | with_reducible assumption | with_reducible apply keep_modMotion | with_reducible apply keep_useFree

theorem keep_sensorRec {r s : State} {x0 : Nat} {x1 : Int} {x2 : Nat} (h : Keep r s) :
    Keep r (sensorRec x0 x1 x2 s) := by
  unfold sensorRec
  repeat' first | with_reducible assumption | with_reducible apply keep_recEvent

theorem keep_checkFails {r s : State} {x0 : Nat} {x1 : Int} (h : Keep r s) :
    Keep r (checkFails x0 x1 s) := by
  unfold checkFails
  repeat' first | with_reducible assumption | with_reducible apply keep_modMotion | with_reducible apply keep_modFix | with_reducible apply keep_sensorRec | with_reducible apply keep_id | intro _ | with_reducible apply keep_ite

theorem keep_execSensorCheck {r s : State} (h : Keep r s) :
    KeepOut r (execSensorCheck s) := by
  unfold execSensorCheck
  repeat' first | with_reducible assumption | with_reducible apply keepOut_next | with_reducible apply keep_fixDue | with_reducible apply keep_modMotion | with_reducible apply keep_sendCheck | intro _ | with_reducible apply keep_ite | dsimp only | split

theorem keep_judgeCount {r s : State} {x0 : Bytes} {x1 : Nat} {x2 : Bytes} (h : Keep r s) :
    Keep r (judgeCount x0 x1 x2 s) := by
  unfold judgeCount
  repeat' first | with_reducible assumption | with_reducible apply keep_checkFails | with_reducible apply keep_sensorRec | with_reducible apply keep_modMotion | with_reducible apply keep_id | intro _ | with_reducible apply keep_ite | dsimp only | split

theorem keep_execSensorCount {r s : State} {x0 : SensorFrame} (h : Keep r s) :
    KeepOut r (execSensorCount x0 s) := by
  unfold execSensorCount
  repeat' first | with_reducible assumption | with_reducible apply keepOut_next | with_reducible apply keep_fixDue | with_reducible apply keep_judgeCount | intro _ | with_reducible apply keep_ite | dsimp only | split

theorem keep_execSensorReplyTimeout {r s : State} (h : Keep r s) :
    KeepOut r (execSensorReplyTimeout s) := by
  unfold execSensorReplyTimeout
  repeat' first | with_reducible assumption | with_reducible apply keepOut_next | with_reducible apply keep_fixDue | with_reducible apply keep_sendCheck | with_reducible apply keep_checkFails | intro _ | with_reducible apply keep_ite | dsimp only | split

theorem keep_startPairing {r s : State} {x0 : Nat} {x1 : Bytes} {x2 : Bytes} (h : Keep r s) :
    Keep r (startPairing x0 x1 x2 s) := by
  unfold startPairing
  repeat' first | with_reducible assumption | with_reducible apply keep_modMotion | with_reducible apply keep_checkFails | with_reducible apply keep_sendCheck | with_reducible apply keep_id | intro _ | with_reducible apply keep_ite

theorem keep_modCard {r s : State} {x1 : Nat} {x2 : Card → Card} (h : Keep r s) :
    Keep r (State.modCard s x1 x2) := by
  unfold State.modCard
  repeat' first | with_reducible assumption | with_reducible apply keep_modFix

theorem keep_cardRec {r s : State} {x0 : Nat} {x1 : Nat} {x2 : Nat} {x3 : Bytes} (h : Keep r s) :
    Keep r (cardRec x0 x1 x2 x3 s) := by
  unfold cardRec
  repeat' first | with_reducible assumption | with_reducible apply keep_recEvent

theorem keep_raiseStrobe {r s : State} (h : Keep r s) :
    Keep r (raiseStrobe s) := by
  unfold raiseStrobe
  repeat' first | with_reducible assumption | with_reducible apply keep_modLane

theorem keep_cardSend {r s : State} {x0 : Nat} {x1 : CardStep} {x2 : Bytes} (h : Keep r s) :
    Keep r (cardSend x0 x1 x2 s) := by
  unfold cardSend
  repeat' first | with_reducible assumption | with_reducible apply keep_modCard

theorem keep_apduSend {r s : State} {x0 : Nat} {x1 : Bytes} (h : Keep r s) :
    Keep r (apduSend x0 x1 s) := by
  unfold apduSend
  repeat' first | with_reducible assumption | with_reducible apply keep_command | with_reducible apply keep_modCard | intro _ | with_reducible apply keep_ite | dsimp only | split

theorem keep_cardAsk {r s : State} {x0 : Nat} {x1 : CardStep} {x2 : Bytes} (h : Keep r s) :
    Keep r (cardAsk x0 x1 x2 s) := by
  unfold cardAsk
  repeat' first | with_reducible assumption | with_reducible apply keep_apduSend | with_reducible apply keep_modCard | intro _ | with_reducible apply keep_ite | dsimp only | split

theorem keep_activate {r s : State} {x0 : Nat} {x1 : Nat} (h : Keep r s) :
    Keep r (activate x0 x1 s) := by
  unfold activate
  repeat' first | with_reducible assumption | with_reducible apply keep_cardSend | with_reducible apply keep_modCard | intro _ | with_reducible apply keep_ite | dsimp only | split

theorem keep_nextAuth {r s : State} (h : Keep r s) :
    Keep r (nextAuth s) := by
  unfold nextAuth
  repeat' first | with_reducible assumption | with_reducible apply keep_modCard | with_reducible apply keep_activate | intro _ | with_reducible apply keep_ite | dsimp only | split

theorem keep_endReqs {r s : State} {x0 : Nat} {x1 : Nat} (h : Keep r s) :
    Keep r (endReqs x0 x1 s) := by
  unfold endReqs
  repeat' first | with_reducible assumption | with_reducible apply keep_modCard | with_reducible apply keep_answer | with_reducible apply keep_foldl | with_reducible apply keep_foldlFst | intro _ | with_reducible apply keep_ite | dsimp only | split

theorem keep_deactivate {r s : State} {x0 : Nat} (h : Keep r s) :
    Keep r (deactivate x0 s) := by
  unfold deactivate
  repeat' first | with_reducible assumption | with_reducible apply keep_modCard | with_reducible apply keep_modFix

theorem keep_authFails {r s : State} {x0 : Nat} (h : Keep r s) :
    Keep r (authFails x0 s) := by
  unfold authFails
  repeat' first | with_reducible assumption | with_reducible apply keep_nextAuth | with_reducible apply keep_cardRec | with_reducible apply keep_endReqs | with_reducible apply keep_deactivate

theorem keep_atrFails {r s : State} {x0 : Nat} (h : Keep r s) :
    Keep r (atrFails x0 s) := by
  unfold atrFails
  repeat' first | with_reducible assumption | with_reducible apply keep_activate | with_reducible apply keep_authFails | intro _ | with_reducible apply keep_ite

theorem keep_ratesSet {r s : State} {x0 : Nat} {x1 : Nat} {x2 : Nat} {x3 : Nat} {x4 : Nat} (h : Keep r s) :
    Keep r (ratesSet x0 x1 x2 x3 x4 s) := by
  unfold ratesSet
  repeat' first | with_reducible assumption | with_reducible apply keep_cardAsk | with_reducible apply keep_cardSend | with_reducible apply keep_modCard | intro _ | with_reducible apply keep_ite | dsimp only | split

theorem keep_takeAtr {r s : State} {x0 : Nat} {x1 : Bytes} (h : Keep r s) :
    Keep r (takeAtr x0 x1 s) := by
  unfold takeAtr
  repeat' first | with_reducible assumption | with_reducible apply keep_activate | with_reducible apply keep_atrFails | with_reducible apply keep_authFails | with_reducible apply keep_cardSend | with_reducible apply keep_modCard | with_reducible apply keep_ratesSet | intro _ | with_reducible apply keep_ite | dsimp only | split

theorem keep_takePps {r s : State} {x0 : Nat} {x1 : Bytes} (h : Keep r s) :
    Keep r (takePps x0 x1 s) := by
  unfold takePps
  repeat' first | with_reducible assumption | with_reducible apply keep_ratesSet | with_reducible apply keep_authFails | intro _ | with_reducible apply keep_ite

theorem keep_takeCert {r s : State} {x0 : Nat} {x1 : Bytes} (h : Keep r s) :
    Keep r (takeCert x0 x1 s) := by
  unfold takeCert
  repeat' first | with_reducible assumption | with_reducible apply keep_cardSend | with_reducible apply keep_authFails | with_reducible apply keep_cardAsk | with_reducible apply keep_modCard | with_reducible apply keep_useFree | intro _ | with_reducible apply keep_ite | dsimp only | split

theorem keep_serveCard {r s : State} {x0 : Nat} (h : Keep r s) :
    Keep r (serveCard x0 s) := by
  unfold serveCard
  repeat' first | with_reducible assumption | with_reducible apply keep_apduSend | with_reducible apply keep_modCard | with_reducible apply keep_modFix | with_reducible apply keep_nextAuth | intro _ | with_reducible apply keep_ite | dsimp only | split

theorem keep_cardPasses {r s : State} {x0 : Nat} (h : Keep r s) :
    Keep r (cardPasses x0 s) := by
  unfold cardPasses
  repeat' first | with_reducible assumption | with_reducible apply keep_answer | with_reducible apply keep_cardRec | with_reducible apply keep_modCard | with_reducible apply keep_modFix | with_reducible apply keep_nextAuth | with_reducible apply keep_sealEvent | with_reducible apply keep_serveCard | intro _ | with_reducible apply keep_ite | dsimp only | split

theorem keep_takeAuth {r s : State} {x0 : Nat} {x1 : Bytes} (h : Keep r s) :
    Keep r (takeAuth x0 x1 s) := by
  unfold takeAuth
  repeat' first | with_reducible assumption | with_reducible apply keep_cardPasses | with_reducible apply keep_authFails | intro _ | with_reducible apply keep_ite

theorem keep_takeApdu {r s : State} {x0 : Nat} {x1 : Bytes} (h : Keep r s) :
    Keep r (takeApdu x0 x1 s) := by
  unfold takeApdu
  repeat' first | with_reducible assumption | with_reducible apply keep_serveCard | with_reducible apply keep_answer | with_reducible apply keep_modCard | intro _ | with_reducible apply keep_ite | dsimp only | split

theorem keep_cardAnswered {r s : State} {x0 : Nat} {x1 : Bytes} (h : Keep r s) :
    Keep r (cardAnswered x0 x1 s) := by
  unfold cardAnswered
  repeat' first | with_reducible assumption | with_reducible apply keep_authFails | with_reducible apply keep_cardAsk | with_reducible apply keep_takeApdu | with_reducible apply keep_takeAuth | with_reducible apply keep_takeCert | intro _ | with_reducible apply keep_ite | dsimp only | split

theorem keep_cardError {r s : State} {x0 : Nat} (h : Keep r s) :
    Keep r (cardError x0 s) := by
  unfold cardError
  repeat' first | with_reducible assumption | with_reducible apply keep_authFails | with_reducible apply keep_deactivate | with_reducible apply keep_endReqs | with_reducible apply keep_nextAuth | intro _ | with_reducible apply keep_ite | dsimp only | split

theorem keep_linkReply {r s : State} {x0 : Nat} {x1 : Bytes} (h : Keep r s) :
    Keep r (linkReply x0 x1 s) := by
  unfold linkReply
  repeat' first | with_reducible assumption | with_reducible apply keep_cardAnswered | with_reducible apply keep_cardError | with_reducible apply keep_modCard | intro _ | with_reducible apply keep_ite | dsimp only | split

theorem keep_execCardReply {r s : State} {x0 : Fin 2} {x1 : Bytes} (h : Keep r s) :
    KeepOut r (execCardReply x0 x1 s) := by
  unfold execCardReply
  repeat' first | with_reducible assumption | with_reducible apply keep_cardSend | with_reducible apply keep_authFails | with_reducible apply keep_takeCert | with_reducible apply keep_takeAuth | with_reducible apply keep_takeApdu | with_reducible apply keepOut_next | with_reducible apply keep_linkReply | with_reducible apply keep_takeAtr | with_reducible apply keep_takePps | intro _ | with_reducible apply keep_ite | dsimp only | split

theorem keep_execCardInserted {r s : State} {x0 : Fin 2} (h : Keep r s) :
    KeepOut r (execCardInserted x0 s) := by
  unfold execCardInserted
  repeat' first | with_reducible assumption | with_reducible apply keepOut_next | with_reducible apply keep_nextAuth | with_reducible apply keep_raiseStrobe | with_reducible apply keep_modCard | intro _ | with_reducible apply keep_ite

theorem keep_removeCard {r s : State} {x0 : Nat} (h : Keep r s) :
    Keep r (removeCard x0 s) := by
  unfold removeCard
  repeat' first | with_reducible assumption | with_reducible apply keep_endReqs | with_reducible apply keep_modFix | with_reducible apply keep_modCard | with_reducible apply keep_nextAuth | with_reducible apply keep_raiseStrobe | with_reducible apply keep_cardRec

theorem keep_execCardRemoved {r s : State} {x0 : Fin 2} (h : Keep r s) :
    KeepOut r (execCardRemoved x0 s) := by
  unfold execCardRemoved
  repeat' first | with_reducible assumption | with_reducible apply keepOut_next | with_reducible apply keep_removeCard | intro _ | with_reducible apply keep_ite

theorem keep_execCardWaitingTimeExceeded {r s : State} {x0 : Fin 2} (h : Keep r s) :
    KeepOut r (execCardWaitingTimeExceeded x0 s) := by
  unfold execCardWaitingTimeExceeded
  repeat' first | with_reducible assumption | with_reducible apply keep_nextAuth | with_reducible apply keep_deactivate | with_reducible apply keep_endReqs | with_reducible apply keep_authFails | with_reducible apply keepOut_next | with_reducible apply keep_atrFails | with_reducible apply keep_cardError | intro _ | with_reducible apply keep_ite | dsimp only | split

theorem keep_joinCard {r s : State} {x0 : Nat} {x1 : Nat} {x2 : Bytes} (h : Keep r s) :
    Keep r (joinCard x0 x1 x2 s) := by
  unfold joinCard
  repeat' first | with_reducible assumption | with_reducible apply keep_modCard | with_reducible apply keep_serveCard | intro _ | with_reducible apply keep_ite | dsimp only | split

theorem keep_cardApdu {r s : State} {x0 : Nat} {x1 : Nat} {x2 : Bytes} (h : Keep r s) :
    Keep r (cardApdu x0 x1 x2 s) := by
  unfold cardApdu
  repeat' first | with_reducible assumption | with_reducible apply keep_answer | with_reducible apply keep_joinCard | intro _ | with_reducible apply keep_ite | dsimp only | split

theorem keep_cardReset {r s : State} {x0 : Nat} {x1 : Nat} (h : Keep r s) :
    Keep r (cardReset x0 x1 s) := by
  unfold cardReset
  repeat' first | with_reducible assumption | with_reducible apply keep_answer | with_reducible apply keep_joinCard | intro _ | with_reducible apply keep_ite | dsimp only | split

theorem keep_recordRead {r s : State} {x0 : Nat} {x1 : Nat} {x2 : Nat} {x3 : Nat} (h : Keep r s) :
    Keep r (recordRead x0 x1 x2 x3 s) := by
  unfold recordRead
  repeat' first | with_reducible assumption | with_reducible apply keep_answer | with_reducible apply keep_count | with_reducible apply keep_useFree | intro _ | with_reducible apply keep_ite | dsimp only | split

theorem keep_takeSample {r s : State} {x0 : Nat} {x1 : Int} (h : Keep r s) :
    Keep r (takeSample x0 x1 s) := by
  unfold takeSample
  repeat' first | with_reducible assumption | with_reducible apply keep_modFix | with_reducible apply keep_recEvent | intro _ | with_reducible apply keep_ite | dsimp only | split

theorem keep_epochSample {r s : State} {x0 : Nat} {x1 : Nat} {x2 : Bool} {x3 : Nat} {x4 : Nat} (h : Keep r s) :
    Keep r (epochSample x0 x1 x2 x3 x4 s) := by
  unfold epochSample
  repeat' first | with_reducible assumption | with_reducible apply keep_advanceTail | with_reducible apply keep_answer | with_reducible apply keep_modFix | with_reducible apply keep_resendEvents | with_reducible apply keep_resendRecords | with_reducible apply keep_takeSample | intro _ | with_reducible apply keep_ite | dsimp only | split

theorem keep_adjust {r s : State} {x0 : Int} (h : Keep r s) :
    Keep r (adjust x0 s).1 := by
  unfold adjust
  repeat' first | with_reducible assumption | with_reducible apply keep_modFix | with_reducible apply keep_stepClock | intro _ | with_reducible apply keep_ite | dsimp only | split

theorem keep_acceptProposal {r s : State} {x0 : Nat} {x1 : Int} {x2 : Bool} {x3 : Bool} {x4 : Bool} (h : Keep r s) :
    Keep r (acceptProposal x0 x1 x2 x3 x4 s) := by
  unfold acceptProposal
  repeat' first | with_reducible assumption | with_reducible apply keep_adjust | with_reducible apply keep_modFix | with_reducible apply keep_recEvent | with_reducible apply keep_sealEvent | with_reducible apply keep_answer | intro _ | with_reducible apply keep_ite

theorem keep_refuseProposal {r s : State} {x0 : Nat} (h : Keep r s) :
    Keep r (refuseProposal x0 s) := by
  unfold refuseProposal
  repeat' first | with_reducible assumption | with_reducible apply keep_answer | with_reducible apply keep_useFree

theorem keep_timePropose {r s : State} {x0 : Nat} {x1 : Int} {x2 : Bool} (h : Keep r s) :
    Keep r (timePropose x0 x1 x2 s) := by
  unfold timePropose
  repeat' first | with_reducible assumption | with_reducible apply keep_refuseProposal | with_reducible apply keep_acceptProposal | intro _ | with_reducible apply keep_ite

theorem keep_tokenIdentity {r s : State} {x0 : Nat} {x1 : Nat} {x2 : Nat} (h : Keep r s) :
    Keep r (tokenIdentity x0 x1 x2 s) := by
  unfold tokenIdentity
  repeat' first | with_reducible assumption | with_reducible apply keep_answer | with_reducible apply keep_modFix | with_reducible apply keep_recEvent | intro _ | with_reducible apply keep_ite | dsimp only | split

theorem keep_fixPrepare {r s : State} {x0 : Nat} {x1 : List (Nat × Int)} {x2 : Option Bytes} {x3 : Nat} {x4 : Nat} {x5 : Nat} (h : Keep r s) :
    Keep r (fixPrepare x0 x1 x2 x3 x4 x5 s) := by
  unfold fixPrepare
  repeat' first | with_reducible assumption | with_reducible apply keep_answer | with_reducible apply keep_modFix | intro _ | with_reducible apply keep_ite | dsimp only | split

theorem keep_applySet {r s : State} {x0 : FixSet} {x1 : Nat} (h : Keep r s) :
    Keep r (applySet x0 x1 s) := by
  unfold applySet
  repeat' first | with_reducible assumption | with_reducible apply keep_modFix | with_reducible apply keep_sealEvent | with_reducible apply keep_startPairing | with_reducible apply keep_foldl | with_reducible apply keep_foldlFst | with_reducible apply keep_id | intro _ | with_reducible apply keep_ite | dsimp only | split

theorem keep_fixCommit {r s : State} {x0 : Nat} {x1 : Nat} (h : Keep r s) :
    Keep r (fixCommit x0 x1 s) := by
  unfold fixCommit
  repeat' first | with_reducible assumption | with_reducible apply keep_answer | with_reducible apply keep_applySet | with_reducible apply keep_modFix | with_reducible apply keep_useFree | intro _ | with_reducible apply keep_ite | dsimp only | split

theorem keep_serveLane {r s : State} {k : Nat → LaneReq → Option (State → State)}
    (hk : ∀ q m g, k q m = some g → ∀ t, Keep r t → Keep r (g t)) (h : Keep r s) : Keep r (serveLane k s) := by
  unfold serveLane
  split
  · exact h
  · split
    · exact keep_ite (hk _ _ _ (by assumption) _ (keep_modLane h)) h
    · exact h

theorem keep_execSyncEdge {r s : State} {x0 : Nat} (h : Keep r s) :
    KeepOut r (execSyncEdge x0 s) := by
  unfold execSyncEdge
  repeat' first | with_reducible assumption | with_reducible apply keepOut_next | with_reducible apply keep_applySet | with_reducible apply keep_fixDue | with_reducible apply keep_modFix | with_reducible apply keep_modLane | intro _ | with_reducible apply keep_ite | dsimp only | split

theorem keep_execRecordRead {r s : State} (h : Keep r s) : KeepOut r (execRecordRead s) := by
  unfold execRecordRead
  apply keepOut_next
  refine keep_serveLane (fun q m g e t ht => ?_) h
  split at e
  · cases e; exact keep_recordRead ht
  · cases e

theorem keep_execTimePropose {r s : State} (h : Keep r s) : KeepOut r (execTimePropose s) := by
  unfold execTimePropose
  apply keepOut_next
  refine keep_serveLane (fun q m g e t ht => ?_) h
  split at e
  · cases e; exact keep_timePropose ht
  · cases e

theorem keep_execTokenIdentity {r s : State} (h : Keep r s) : KeepOut r (execTokenIdentity s) := by
  unfold execTokenIdentity
  apply keepOut_next
  refine keep_serveLane (fun q m g e t ht => ?_) h
  split at e
  · cases e; exact keep_tokenIdentity ht
  · cases e

theorem keep_execCardRequest {r s : State} (h : Keep r s) : KeepOut r (execCardRequest s) := by
  unfold execCardRequest
  apply keepOut_next
  refine keep_serveLane (fun q m g e t ht => ?_) h
  split at e
  · cases e; exact keep_cardApdu ht
  · cases e; exact keep_cardReset ht
  · cases e

theorem keep_execEpochSample {r s : State} (h : Keep r s) : KeepOut r (execEpochSample s) := by
  unfold execEpochSample
  apply keepOut_next
  refine keep_serveLane (fun q m g e t ht => ?_) h
  split at e
  · split at e
    · cases e
    · cases e; exact keep_epochSample ht
  · cases e

theorem keep_execExposePrepare {r s : State} (h : Keep r s) : KeepOut r (execExposePrepare s) := by
  unfold execExposePrepare
  apply keepOut_next
  refine keep_serveLane (fun q m g e t ht => ?_) h
  split at e
  · cases e; exact keep_fixPrepare ht
  · cases e

theorem keep_execExposeCommit {r s : State} (h : Keep r s) : KeepOut r (execExposeCommit s) := by
  unfold execExposeCommit
  apply keepOut_next
  refine keep_serveLane (fun q m g e t ht => ?_) h
  split at e
  · cases e; exact keep_fixCommit ht
  · cases e

theorem keep_execExposeRollback {r s : State} (h : Keep r s) : KeepOut r (execExposeRollback s) := by
  unfold execExposeRollback
  apply keepOut_next
  refine keep_serveLane (fun q m g e t ht => ?_) h
  split at e
  · cases e; exact keep_answer (keep_modFix ht)
  · cases e

theorem keep_execLaneUnknownMessage {r s : State} {x0 : Byte} (h : Keep r s) :
    KeepOut r (execLaneUnknownMessage x0 s) := by
  unfold execLaneUnknownMessage
  repeat' first | with_reducible assumption | with_reducible apply keepOut_next | with_reducible apply keep_modFix | intro _ | with_reducible apply keep_ite

theorem keep_powerRec {r s : State} {x0 : Nat} {x1 : Nat} (h : Keep r s) :
    Keep r (powerRec x0 x1 s) := by
  unfold powerRec
  repeat' first | with_reducible assumption | with_reducible apply keep_recEvent | with_reducible apply keep_modFix

theorem keep_execFSupplyToVfb {r s : State} {x0 : Nat} (h : Keep r s) :
    KeepOut r (execFSupplyToVfb x0 s) := by
  unfold execFSupplyToVfb
  repeat' first | with_reducible assumption | with_reducible apply keepOut_next | with_reducible apply keep_powerRec | with_reducible apply keep_modFix | with_reducible apply keep_removeCard | with_reducible apply keep_checkFails | with_reducible apply keep_modMotion | with_reducible apply keep_foldl | with_reducible apply keep_foldlFst | intro _ | with_reducible apply keep_ite

theorem keep_execFSupplyToVfix {r s : State} {x0 : Nat} (h : Keep r s) :
    KeepOut r (execFSupplyToVfix x0 s) := by
  unfold execFSupplyToVfix
  repeat' first | with_reducible assumption | with_reducible apply keepOut_next | with_reducible apply keep_powerRec | with_reducible apply keep_modFix | intro _ | with_reducible apply keep_ite

theorem keep_execSupplyLossWarning {r s : State} (h : Keep r s) :
    KeepOut r (execSupplyLossWarning s) := by
  unfold execSupplyLossWarning
  repeat' first | with_reducible assumption | with_reducible apply keepOut_next | with_reducible apply keep_modFix | intro _ | with_reducible apply keep_ite

theorem keep_senseLid {r s : State} (h : Keep r s) :
    Keep r (senseLid s) := by
  unfold senseLid
  repeat' first | with_reducible assumption | with_reducible apply keep_modFix | with_reducible apply keep_sealEvent | intro _ | with_reducible apply keep_ite | dsimp only | split

theorem keep_senseMesh {r s : State} (h : Keep r s) :
    Keep r (senseMesh s) := by
  unfold senseMesh
  repeat' first | with_reducible assumption | with_reducible apply keep_modFix | with_reducible apply keep_sealEvent | intro _ | with_reducible apply keep_ite | dsimp only | split

theorem keep_sense {r s : State} (h : Keep r s) :
    Keep r (sense s) := by
  unfold sense
  repeat' first | with_reducible assumption | with_reducible apply keep_senseLid | with_reducible apply keep_senseMesh | intro _ | with_reducible apply keep_ite | dsimp only | split

theorem keep_execFLidMesh {r s : State} {x0 : Nat} (h : Keep r s) :
    KeepOut r (execFLidMesh x0 s) := by
  unfold execFLidMesh
  repeat' first | with_reducible assumption | with_reducible apply keep_sealEvent | with_reducible apply keepOut_next | with_reducible apply keep_modFix | with_reducible apply keep_sense | intro _ | with_reducible apply keep_ite | dsimp only | split

theorem keep_execFBrownOut {r s : State} {x0 : Bool} (h : Keep r s) :
    KeepOut r (execFBrownOut x0 s) := by
  unfold execFBrownOut
  repeat' first | with_reducible assumption | with_reducible apply keepOut_next | with_reducible apply keep_modLane | with_reducible apply keep_modFix

theorem keep_execFDieStart {r s : State} (h : Keep r s) :
    KeepOut r (execFDieStart s) := by
  unfold execFDieStart
  repeat' first | with_reducible assumption | with_reducible apply keep_sealEvent | with_reducible apply keepOut_next | with_reducible apply keep_makeGap | with_reducible apply keep_modEv | with_reducible apply keep_modFix | with_reducible apply keep_powerRec | with_reducible apply keep_sense | with_reducible apply keep_useFree | with_reducible apply keep_foldl | with_reducible apply keep_foldlFst | intro _ | with_reducible apply keep_ite | dsimp only | split

end Sys2Proof.Machine
end

