-- ==== Sys2Proof/Laws/KeepAccess.lean ====
section
/-! SUPPORT. What the operations and commands of the access engine keep: one lemma per
definition, each following the calls of its body. -/

namespace Sys2Proof.Machine

theorem keep_modTok {r s : State} {x1 : Nat} {x2 : TokSlot → TokSlot} (h : Keep r s) :
    Keep r (State.modTok s x1 x2) := by
  unfold State.modTok
  repeat' first | with_reducible assumption | with_reducible apply keep_modAccess

theorem keep_storeTok {r s : State} {x0 : Nat} (h : Keep r s) :
    Keep r (storeTok x0 s) := by
  unfold storeTok
  repeat' first | with_reducible assumption | with_reducible apply keep_putRecord

theorem keep_storeAccess {r s : State} (h : Keep r s) :
    Keep r (storeAccess s) := by
  unfold storeAccess
  repeat' first | with_reducible assumption | with_reducible apply keep_putRecord | intro _ | with_reducible apply keep_ite | dsimp only | split

theorem keep_slotEvent {r s : State} {x0 : Nat} {x1 : Nat} {x2 : Nat} (h : Keep r s) :
    Keep r (slotEvent x0 x1 x2 s) := by
  unfold slotEvent
  repeat' first | with_reducible assumption | with_reducible apply keep_emit

theorem keep_unsettle {r s : State} {x0 : Nat} (h : Keep r s) :
    Keep r (unsettle x0 s) := by
  unfold unsettle
  repeat' first | with_reducible assumption | with_reducible apply keep_slotEvent | with_reducible apply keep_modTok | intro _ | with_reducible apply keep_ite

theorem keep_setSuspect {r s : State} {x0 : Bool} (h : Keep r s) :
    Keep r (setSuspect x0 s) := by
  unfold setSuspect
  repeat' first | with_reducible assumption | with_reducible apply keep_emit | with_reducible apply keep_storeAccess | with_reducible apply keep_modAccess

theorem keep_invalidResponse {r s : State} {x0 : Nat} {x1 : Nat} {x2 : Nat} (h : Keep r s) :
    Keep r (invalidResponse x0 x1 x2 s) := by
  unfold invalidResponse
  repeat' first | with_reducible assumption | with_reducible apply keep_modAccess | with_reducible apply keep_modTok | with_reducible apply keep_emit | with_reducible apply keep_setSuspect | intro _ | with_reducible apply keep_ite

theorem keep_execSuspectHoldExpire {r s : State} (h : Keep r s) :
    KeepOut r (execSuspectHoldExpire s) := by
  unfold execSuspectHoldExpire
  repeat' first | with_reducible assumption | with_reducible apply keepOut_next | with_reducible apply keep_atDue | with_reducible apply keep_setSuspect | intro _ | with_reducible apply keep_ite

theorem keep_addSilent {r s : State} {x0 : Nat} (h : Keep r s) :
    Keep r (addSilent x0 s) := by
  unfold addSilent
  repeat' first | with_reducible assumption | with_reducible apply keep_emit | with_reducible apply keep_modAccess | intro _ | with_reducible apply keep_ite | dsimp only | split

theorem keep_disarm {r s : State} {x0 : Nat} (h : Keep r s) :
    Keep r (disarm x0 s) := by
  unfold disarm
  repeat' first | with_reducible assumption | with_reducible apply keep_modShut | intro _

theorem keep_repace {r s : State} {x0 : Nat} {x1 : Nat} (h : Keep r s) :
    Keep r (repace x0 x1 s) := by
  unfold repace
  repeat' first | with_reducible assumption | with_reducible apply keep_modShut

theorem keep_reserveRelease {r s : State} (h : Keep r s) :
    Keep r (reserveRelease s) := by
  unfold reserveRelease
  repeat' first | with_reducible assumption | with_reducible apply keep_bumpCounter | with_reducible apply keep_modAccess | intro _ | with_reducible apply keep_ite

theorem keep_reserveBody {r s : State} (h : Keep r s) :
    Keep r (reserveBody s) := by
  unfold reserveBody
  repeat' first | with_reducible assumption | with_reducible apply keep_bumpCounter | with_reducible apply keep_modAccess | intro _ | with_reducible apply keep_ite

theorem keep_bodyFrame {r s : State} {x0 : Nat} {x1 : Nat} {x2 : Nat} (h : Keep r s) :
    Keep r (bodyFrame x0 x1 x2 s).1 := by
  unfold bodyFrame
  repeat' first | with_reducible assumption | with_reducible apply keep_accessFrame | with_reducible apply keep_emit | with_reducible apply keep_modAccess | with_reducible apply keep_reserveBody | intro _ | with_reducible apply keep_ite | dsimp only | split

theorem keep_unlockVerdict {r s : State} {x0 : Nat} {x1 : Nat} (h : Keep r s) :
    Keep r (unlockVerdict x0 x1 s) := by
  unfold unlockVerdict
  repeat' first | with_reducible assumption | with_reducible apply keep_bodyFrame | with_reducible apply keep_trigger | with_reducible apply keep_modAccess | intro _ | with_reducible apply keep_ite

theorem keep_lockVerdict {r s : State} {x0 : Nat} (h : Keep r s) :
    Keep r (lockVerdict x0 s).1 := by
  unfold lockVerdict
  repeat' first | with_reducible assumption | with_reducible apply keep_bodyFrame | with_reducible apply keep_trigger | intro _ | with_reducible apply keep_ite

theorem keep_tryUnlock {r s : State} (h : Keep r s) :
    Keep r (tryUnlock s) := by
  unfold tryUnlock
  repeat' first | with_reducible assumption | with_reducible apply keep_unlockVerdict | intro _ | with_reducible apply keep_ite | dsimp only | split

theorem keep_withdrawRelease {r s : State} (h : Keep r s) :
    Keep r (withdrawRelease s) := by
  unfold withdrawRelease
  repeat' first | with_reducible assumption | with_reducible apply keep_emit | with_reducible apply keep_modAccess | with_reducible apply keep_dropHead | intro _ | with_reducible apply keep_ite | dsimp only | split

theorem keep_releaseWithheld {r s : State} {x0 : Nat} {x1 : Nat} (h : Keep r s) :
    Keep r (releaseWithheld x0 x1 s) := by
  unfold releaseWithheld
  repeat' first | with_reducible assumption | with_reducible apply keep_emit | with_reducible apply keep_modAccess | intro _ | with_reducible apply keep_ite | dsimp only | split

theorem keep_useRelease {r s : State} (h : Keep r s) :
    Keep r (useRelease s) := by
  unfold useRelease
  repeat' first | with_reducible assumption | with_reducible apply keep_emit | with_reducible apply keep_modAccess | with_reducible apply keep_reserveRelease | with_reducible apply keep_storeAccess | intro _ | with_reducible apply keep_ite | dsimp only | split

theorem keep_releaseFrame {r s : State} {x0 : Bool} {x1 : Nat} (h : Keep r s) :
    Keep r (releaseFrame x0 x1 s) := by
  unfold releaseFrame
  repeat' first | with_reducible assumption | with_reducible apply keep_accessFrame | with_reducible apply keep_consumeNonce | with_reducible apply keep_releaseWithheld | with_reducible apply keep_reserveRelease | with_reducible apply keep_useRelease | with_reducible apply keep_withdrawRelease | intro _ | with_reducible apply keep_ite | dsimp only | split

theorem keep_endRelease {r s : State} {x0 : Nat} (h : Keep r s) :
    Keep r (endRelease x0 s) := by
  unfold endRelease
  repeat' first | with_reducible assumption | with_reducible apply keep_disarm | with_reducible apply keep_emit | with_reducible apply keep_modAccess | with_reducible apply keep_releaseFrame | with_reducible apply keep_trigger | intro _ | with_reducible apply keep_ite | dsimp only | split

theorem keep_releaseFire {r s : State} {x0 : Nat} (h : Keep r s) :
    Keep r (releaseFire x0 s) := by
  unfold releaseFire
  repeat' first | with_reducible assumption | with_reducible apply keep_endRelease | with_reducible apply keep_releaseFrame | intro _ | with_reducible apply keep_ite | dsimp only | split

theorem keep_execReleaseFrame {r s : State} (h : Keep r s) :
    KeepOut r (execReleaseFrame s) := by
  unfold execReleaseFrame
  repeat' first | with_reducible assumption | exact keep_firmFire (by with_reducible assumption) _ (by with_reducible assumption) | with_reducible apply keepOut_next | exact keep_reachCompare (by with_reducible assumption) _ (by with_reducible assumption) | with_reducible apply keep_releaseFire | with_reducible apply keep_repace | with_reducible apply keep_fire | intro _ | with_reducible apply keep_ite | dsimp only | split

theorem keep_authorise {r s : State} {x0 : Nat} {x1 : Nat} (h : Keep r s) :
    Keep r (authorise x0 x1 s) := by
  unfold authorise
  repeat' first | with_reducible assumption | with_reducible apply keep_armFirm | with_reducible apply keep_modShut | with_reducible apply keep_start | with_reducible apply keep_emit | with_reducible apply keep_modAccess | with_reducible apply keep_releaseFire | with_reducible apply keep_fire | dsimp only | intro _

theorem keep_releaseSent {r s : State} (h : Keep r s) :
    Keep r (releaseSent s) := by
  unfold releaseSent
  repeat' first | with_reducible assumption | with_reducible apply keep_modAccess | with_reducible apply keep_trigger | intro _ | with_reducible apply keep_ite

theorem keep_bodySent {r s : State} {x0 : Nat} (h : Keep r s) :
    Keep r (bodySent x0 s) := by
  unfold bodySent
  repeat' first | with_reducible assumption | with_reducible apply keep_complete | with_reducible apply keep_modAccess | intro _ | with_reducible apply keep_ite | dsimp only | split

theorem keep_setDriver {r s : State} {x0 : Option Nat} {x1 : List Nat} (h : Keep r s) :
    Keep r (setDriver x0 x1 s) := by
  unfold setDriver
  repeat' first | with_reducible assumption | with_reducible apply keep_sendToken | with_reducible apply keep_emit | with_reducible apply keep_modAccess | intro _ | with_reducible apply keep_ite

theorem keep_execCabAbsentExpire {r s : State} (h : Keep r s) :
    KeepOut r (execCabAbsentExpire s) := by
  unfold execCabAbsentExpire
  repeat' first | with_reducible assumption | with_reducible apply keepOut_next | with_reducible apply keep_atDue | with_reducible apply keep_setDriver | intro _ | with_reducible apply keep_ite

theorem keep_execWalkawayExpire {r s : State} (h : Keep r s) :
    KeepOut r (execWalkawayExpire s) := by
  unfold execWalkawayExpire
  repeat' first | with_reducible assumption | with_reducible apply keepOut_next | with_reducible apply keep_atDue | with_reducible apply keep_lockVerdict | with_reducible apply keep_modAccess | intro _ | with_reducible apply keep_ite

theorem keep_execApproachMaxExpire {r s : State} (h : Keep r s) :
    KeepOut r (execApproachMaxExpire s) := by
  unfold execApproachMaxExpire
  repeat' first | with_reducible assumption | with_reducible apply keepOut_next | with_reducible apply keep_atDue | with_reducible apply keep_trigger | with_reducible apply keep_slotEvent | with_reducible apply keep_modTok | with_reducible apply keep_foldl | with_reducible apply keep_foldlFst | intro _ | with_reducible apply keep_ite

theorem keep_execParkPollStop {r s : State} (h : Keep r s) :
    KeepOut r (execParkPollStop s) := by
  unfold execParkPollStop
  repeat' first | with_reducible assumption | with_reducible apply keepOut_next | with_reducible apply keep_disarm | with_reducible apply keep_modAccess | intro _ | with_reducible apply keep_ite

theorem keep_accessSeq {r s : State} {x0 : Tele} {x1 : Nat} {x2 : LfMeas} (h : Keep r s) :
    Keep r (accessSeq x0 x1 x2 s).1 := by
  unfold accessSeq
  repeat' first | with_reducible assumption | with_reducible apply keep_modLf | with_reducible apply keep_beginSeq | with_reducible apply keep_lfMeasured | with_reducible apply keep_lfRefuse | with_reducible apply keep_lfUnhold | with_reducible apply keep_modAccess | with_reducible apply keep_start | intro _ | with_reducible apply keep_ite | dsimp only | split

/-- The sequences of a cycle keep, one after the other. -/
theorem keep_accessRun {r : State} {past : Bool} {base : Nat} :
    ∀ (ts : List Tele) (ms : List LfMeas) {s : State}, Keep r s → Keep r (accessRun past base ts ms s).1
  | [], _, _, h => h
  | t :: ts, ms, s, h => by
    have k := keep_accessSeq (x0 := t) (x1 := ({ start := base, div := carrierDiv s } : LfSeq).instant t.at_)
      (x2 := ms.headD {}) h
    unfold accessRun
    dsimp only
    split
    · exact keep_accessRun ts _ k
    · split
      · exact keep_accessRun ts _ k
      · exact k

theorem keep_skipEvent {r s : State} {x0 : Nat} {x1 : Nat} (h : Keep r s) :
    Keep r (skipEvent x0 x1 s) := by
  unfold skipEvent
  repeat' first | with_reducible assumption | with_reducible apply keep_emit

theorem keep_inWindow {r s : State} {k : State → State} (hk : ∀ t, Keep r t → Keep r (k t)) (h : Keep r s) :
    Keep r (inWindow s k) := by
  unfold inWindow
  split
  · exact keep_atDue (fun t ht => keep_ite (hk t ht) ht) h
  · exact h

theorem keep_missPoll {r s : State} {x0 : Nat} (h : Keep r s) :
    Keep r (missPoll x0 s) := by
  unfold missPoll
  repeat' first | with_reducible assumption | with_reducible apply keep_unsettle | with_reducible apply keep_modTok | intro _ | with_reducible apply keep_ite

theorem keep_closePoll {r s : State} (h : Keep r s) :
    Keep r (closePoll s) := by
  unfold closePoll
  repeat' first | with_reducible assumption | with_reducible apply keep_modAccess | with_reducible apply keep_missPoll | with_reducible apply keep_emit | with_reducible apply keep_foldl | with_reducible apply keep_foldlFst | intro _ | with_reducible apply keep_ite | dsimp only | split

theorem keep_runPoll {r s : State} {x0 : Nat} {x1 : List LfMeas} (h : Keep r s) :
    Keep r (runPoll x0 x1 s) := by
  unfold runPoll
  repeat' first | with_reducible assumption | with_reducible apply keep_accessRun | with_reducible apply keep_beginWake | with_reducible apply keep_accessSeq | with_reducible apply keep_bookAccess | with_reducible apply keep_modAccess | with_reducible apply keep_modTok | with_reducible apply keep_skipEvent | with_reducible apply keep_foldl | with_reducible apply keep_foldlFst | intro _ | with_reducible apply keep_ite | dsimp only | split

theorem keep_execPollCycle {r s : State} {x0 : List LfMeas} (h : Keep r s) :
    KeepOut r (execPollCycle x0 s) := by
  unfold execPollCycle
  repeat' first | with_reducible assumption | exact keep_reachCompare (by with_reducible assumption) _ (by with_reducible assumption) | with_reducible apply keep_fire | with_reducible apply keepOut_next | with_reducible apply keep_closePoll | with_reducible apply keep_disarm | exact keep_firmFire (by with_reducible assumption) _ (by with_reducible assumption) | with_reducible apply keep_modAccess | with_reducible apply keep_power | with_reducible apply keep_repace | with_reducible apply keep_runPoll | intro _ | with_reducible apply keep_ite | dsimp only | split

theorem keep_readdress {r s : State} {x0 : Nat} {x1 : PollCyc} {x2 : List LfMeas} (h : Keep r s) :
    Keep r (readdress x0 x1 x2 s) := by
  unfold readdress
  repeat' first | with_reducible assumption | with_reducible apply keep_accessRun | with_reducible apply keep_lfRefuse | with_reducible apply keep_modLf | with_reducible apply keep_lfUnhold | with_reducible apply keep_modAccess | with_reducible apply keep_modUhf | intro _ | with_reducible apply keep_ite | dsimp only | split

theorem keep_collision {r s : State} {x0 : Nat} {x1 : Nat} {x2 : Nat} {x3 : PollCyc} {x4 : List LfMeas} (h : Keep r s) :
    Keep r (collision x0 x1 x2 x3 x4 s) := by
  unfold collision
  repeat' first | with_reducible assumption | with_reducible apply keep_invalidResponse | with_reducible apply keep_modAccess | with_reducible apply keep_readdress | intro _ | with_reducible apply keep_ite | dsimp only | split

theorem keep_validAnswer {r s : State} {x0 : Nat} {x1 : AnswerTel} {x2 : PollCyc} (h : Keep r s) :
    Keep r (validAnswer x0 x1 x2 s) := by
  unfold validAnswer
  repeat' first | with_reducible assumption | with_reducible apply keep_modAccess | with_reducible apply keep_modTok | with_reducible apply keep_trigger | with_reducible apply keep_unsettle | intro _ | with_reducible apply keep_ite | dsimp only | split

theorem keep_answerSlot {r s : State} {x0 : Nat} {x1 : Int} {x2 : Option AnswerTel} {x3 : List LfMeas} {x4 : PollCyc} (h : Keep r s) :
    Keep r (answerSlot x0 x1 x2 x3 x4 s) := by
  unfold answerSlot
  repeat' first | with_reducible assumption | with_reducible apply keep_collision | with_reducible apply keep_invalidResponse | with_reducible apply keep_validAnswer | intro _ | with_reducible apply keep_ite | dsimp only | split

theorem keep_execAnswer {r s : State} {x0 : Fin 16} {x1 : Int} {x2 : AnswerRx} (h : Keep r s) :
    KeepOut r (execAnswer x0 x1 x2 s) := by
  unfold execAnswer
  repeat' first | with_reducible assumption | with_reducible apply keepOut_next | with_reducible apply keep_answerSlot | with_reducible apply keep_atDue | intro _ | with_reducible apply keep_ite | dsimp only | split

theorem keep_endSniff {r s : State} (h : Keep r s) :
    Keep r (endSniff s) := by
  unfold endSniff
  repeat' first | with_reducible assumption | with_reducible apply keep_modUhf | intro _ | with_reducible apply keep_ite | dsimp only | split

theorem keep_validButton {r s : State} {x0 : ButtonTel} (h : Keep r s) :
    Keep r (validButton x0 s) := by
  unfold validButton
  repeat' first | with_reducible assumption | with_reducible apply keep_bodyFrame | with_reducible apply keep_lockVerdict | with_reducible apply keep_modTok | with_reducible apply keep_trigger | with_reducible apply keep_unlockVerdict | with_reducible apply keep_unsettle | with_reducible apply keep_foldl | with_reducible apply keep_foldlFst | intro _ | with_reducible apply keep_ite | dsimp only | split

theorem keep_awaitCheck {r s : State} {x0 : TokCheck} (h : Keep r s) :
    Keep r (awaitCheck x0 s) := by
  unfold awaitCheck
  repeat' first | with_reducible assumption | with_reducible apply keep_modAccess | with_reducible apply keep_power | intro _ | with_reducible apply keep_ite | dsimp only | split

theorem keep_checkButton {r s : State} {x0 : ButtonTel} (h : Keep r s) :
    Keep r (checkButton x0 s) := by
  unfold checkButton
  repeat' first | with_reducible assumption | with_reducible apply keep_awaitCheck | with_reducible apply keep_invalidResponse | with_reducible apply keep_validButton | intro _ | with_reducible apply keep_ite | dsimp only | split

theorem keep_execButton {r s : State} {x0 : ButtonTel} (h : Keep r s) :
    KeepOut r (execButton x0 s) := by
  unfold execButton
  repeat' first | with_reducible assumption | with_reducible apply keep_validButton | with_reducible apply keep_invalidResponse | with_reducible apply keepOut_next | with_reducible apply keep_checkButton | with_reducible apply keep_endSniff | with_reducible apply keep_inWindow | intro _ | with_reducible apply keep_ite | dsimp only | split

theorem keep_openSniff {r s : State} {x0 : Bool} {x1 : Nat} (h : Keep r s) :
    Keep r (openSniff x0 x1 s) := by
  unfold openSniff
  repeat' first | with_reducible assumption | with_reducible apply keep_bookAccess | with_reducible apply keep_modUhf | intro _ | with_reducible apply keep_ite | dsimp only | split

theorem keep_execSniffWindow {r s : State} {x0 : Bool} (h : Keep r s) :
    KeepOut r (execSniffWindow x0 s) := by
  unfold execSniffWindow
  repeat' first | with_reducible assumption | with_reducible apply keep_modUhf | with_reducible apply keep_bookAccess | with_reducible apply keepOut_next | with_reducible apply keep_atDue | with_reducible apply keep_openSniff | with_reducible apply keep_power | intro _ | with_reducible apply keep_ite | dsimp only | split

theorem keep_execUhfRxWindowEnd {r s : State} (h : Keep r s) :
    KeepOut r (execUhfRxWindowEnd s) := by
  unfold execUhfRxWindowEnd
  repeat' first | with_reducible assumption | with_reducible apply keepOut_next | with_reducible apply keep_rxWindowEnd | with_reducible apply keep_closePoll | intro _ | with_reducible apply keep_ite | dsimp only | split

theorem keep_locateEnd {r s : State} {x0 : Nat} {x1 : AccCyc} (h : Keep r s) :
    Keep r (locateEnd x0 x1 s) := by
  unfold locateEnd
  repeat' first | with_reducible assumption | with_reducible apply keep_completeTiles | intro _ | with_reducible apply keep_ite | dsimp only | split

theorem keep_startMissed {r s : State} (h : Keep r s) :
    Keep r (startMissed s) := by
  unfold startMissed
  repeat' first | with_reducible assumption | with_reducible apply keep_emit | with_reducible apply keep_modAccess | intro _ | with_reducible apply keep_ite | dsimp only | split

theorem keep_skipCycle {r s : State} {x0 : AccCyc} {x1 : Nat} {x2 : Nat} (h : Keep r s) :
    Keep r (skipCycle x0 x1 x2 s) := by
  unfold skipCycle
  repeat' first | with_reducible assumption | with_reducible apply keep_skipEvent | with_reducible apply keep_modAccess | with_reducible apply keep_startMissed | with_reducible apply keep_locateEnd | intro _ | with_reducible apply keep_ite | dsimp only | split

theorem keep_skipAccess {r s : State} {x0 : Nat} (h : Keep r s) :
    Keep r (skipAccess x0 s) := by
  unfold skipAccess
  repeat' first | with_reducible assumption | with_reducible apply keep_modAccess | with_reducible apply keep_skipCycle | with_reducible apply keep_skipEvent | intro _ | with_reducible apply keep_ite | dsimp only | split

theorem keep_cabResult {r s : State} {x0 : AccCyc} (h : Keep r s) :
    Keep r (cabResult x0 s) := by
  unfold cabResult
  repeat' first | with_reducible assumption | with_reducible apply keep_setDriver | with_reducible apply keep_modAccess | with_reducible apply keep_authorise | with_reducible apply keep_startMissed | intro _ | with_reducible apply keep_ite | dsimp only | split

theorem keep_acquireResult {r s : State} {x0 : AccCyc} (h : Keep r s) :
    Keep r (acquireResult x0 s) := by
  unfold acquireResult
  repeat' first | with_reducible assumption | with_reducible apply keep_modAccess | with_reducible apply keep_trigger | with_reducible apply keep_unlockVerdict | intro _ | with_reducible apply keep_ite | dsimp only | split

theorem keep_finishCycle {r s : State} {x0 : AccCyc} (h : Keep r s) :
    Keep r (finishCycle x0 s) := by
  unfold finishCycle
  repeat' first | with_reducible assumption | with_reducible apply keep_modAccess | with_reducible apply keep_acquireResult | with_reducible apply keep_locateEnd | with_reducible apply keep_cabResult | intro _ | with_reducible apply keep_ite | dsimp only | split

theorem keep_modResp {r s : State} {x0 : Nat} {x1 : Resp → Resp} (h : Keep r s) :
    Keep r (modResp x0 x1 s) := by
  unfold modResp
  repeat' first | with_reducible assumption | with_reducible apply keep_modAccess

theorem keep_concludeResp {r s : State} {x0 : Bool} {x1 : Nat} (h : Keep r s) :
    Keep r (concludeResp x0 x1 s) := by
  unfold concludeResp
  repeat' first | with_reducible assumption | with_reducible apply keep_modResp | with_reducible apply keep_modTok | with_reducible apply keep_emit | with_reducible apply keep_tryUnlock | with_reducible apply keep_modAccess | intro _ | with_reducible apply keep_ite | dsimp only | split

theorem keep_settleCycle {r s : State} (h : Keep r s) :
    Keep r (settleCycle s) := by
  unfold settleCycle
  repeat' first | with_reducible assumption | with_reducible apply keep_finishCycle | intro _ | with_reducible apply keep_ite | dsimp only | split

theorem keep_takeRanging {r s : State} {x0 : Nat × Nat × Nat} (h : Keep r s) :
    Keep r (takeRanging x0 s) := by
  unfold takeRanging
  repeat' first | with_reducible assumption | with_reducible apply keep_modResp | with_reducible apply keep_invalidResponse | with_reducible apply keep_modTok | with_reducible apply keep_skipEvent | with_reducible apply keep_settleCycle | with_reducible apply keep_concludeResp | intro _ | with_reducible apply keep_ite | dsimp only | split

theorem keep_drainRanging {r s : State} (h : Keep r s) :
    Keep r (drainRanging s) := by
  unfold drainRanging
  repeat' first | with_reducible assumption | with_reducible apply keep_takeRanging | with_reducible apply keep_modRange | with_reducible apply keep_foldl

theorem keep_sendChallenge {r s : State} {x0 : Bytes} (h : Keep r s) :
    Keep r (sendChallenge x0 s) := by
  unfold sendChallenge
  repeat' first | with_reducible assumption | with_reducible apply keep_accessRun | with_reducible apply keep_accessSeq | with_reducible apply keep_bookAccess | with_reducible apply keep_modAccess | with_reducible apply keep_skipCycle | intro _ | with_reducible apply keep_ite | dsimp only | split

theorem keep_beginCycle {r s : State} {x0 : CycKind} {x1 : Nat} {x2 : List LfMeas} (h : Keep r s) :
    Keep r (beginCycle x0 x1 x2 s) := by
  unfold beginCycle
  repeat' first | with_reducible assumption | with_reducible apply keep_beginWake | with_reducible apply keep_askQueue | with_reducible apply keep_modAccess | with_reducible apply keep_power | with_reducible apply keep_sendChallenge | with_reducible apply keep_skipCycle | intro _ | with_reducible apply keep_ite | dsimp only | split

theorem keep_fireNow {r s : State} (h : Keep r s) :
    Keep r (fireNow s) := by
  unfold fireNow
  repeat' first | with_reducible assumption | with_reducible apply keep_raiseRoute | with_reducible apply keep_runRoutes | with_reducible apply keep_modShut | intro _

theorem keep_cycleNow {r s : State} {x0 : CycKind} {x1 : List LfMeas} (h : Keep r s) :
    Keep r (cycleNow x0 x1 s) := by
  unfold cycleNow
  repeat' first | with_reducible assumption | with_reducible apply keep_beginCycle | with_reducible apply keep_fireNow | with_reducible apply keep_power | intro _ | with_reducible apply keep_ite | dsimp only | split

theorem keep_gridCycle {r s : State} {x0 : Nat} {x1 : List LfMeas} (h : Keep r s) :
    Keep r (gridCycle x0 x1 s) := by
  unfold gridCycle
  repeat' first | with_reducible assumption | with_reducible apply keep_beginCycle | with_reducible apply keep_modAccess | intro _ | with_reducible apply keep_ite | dsimp only | split

theorem keep_execAccessCycle {r s : State} {x0 : List LfMeas} (h : Keep r s) :
    KeepOut r (execAccessCycle x0 s) := by
  unfold execAccessCycle
  repeat' first | with_reducible assumption | with_reducible apply keep_beginCycle | with_reducible apply keep_fireNow | exact keep_reachCompare (by with_reducible assumption) _ (by with_reducible assumption) | with_reducible apply keep_fire | with_reducible apply keepOut_next | with_reducible apply keep_cycleNow | exact keep_firmFire (by with_reducible assumption) _ (by with_reducible assumption) | with_reducible apply keep_gridCycle | with_reducible apply keep_modAccess | with_reducible apply keep_power | with_reducible apply keep_repace | with_reducible apply keep_start | intro _ | with_reducible apply keep_ite | dsimp only | split

theorem keep_exhausted {r s : State} {x0 : Nat} (h : Keep r s) :
    Keep r (exhausted x0 s) := by
  unfold exhausted
  repeat' first | with_reducible assumption | with_reducible apply keep_modTok | with_reducible apply keep_slotEvent | with_reducible apply keep_storeTok | intro _ | with_reducible apply keep_ite | dsimp only | split

theorem keep_validResponse {r s : State} {x0 : ResponseTel} {x1 : AccCyc} (h : Keep r s) :
    Keep r (validResponse x0 x1 s) := by
  unfold validResponse
  repeat' first | with_reducible assumption | with_reducible apply keep_addSilent | with_reducible apply keep_modAccess | with_reducible apply keep_modTok | intro _ | with_reducible apply keep_ite | dsimp only | split

theorem keep_checkResponse {r s : State} {x0 : ResponseTel} {x1 : AccCyc} {x2 : Bytes} (h : Keep r s) :
    Keep r (checkResponse x0 x1 x2 s) := by
  unfold checkResponse
  repeat' first | with_reducible assumption | with_reducible apply keep_awaitCheck | with_reducible apply keep_exhausted | with_reducible apply keep_invalidResponse | with_reducible apply keep_skipCycle | with_reducible apply keep_validResponse | intro _ | with_reducible apply keep_ite | dsimp only | split

theorem keep_execResponseTelegram {r s : State} {x0 : ResponseTel} (h : Keep r s) :
    KeepOut r (execResponseTelegram x0 s) := by
  unfold execResponseTelegram
  repeat' first | with_reducible assumption | with_reducible apply keep_invalidResponse | with_reducible apply keep_exhausted | with_reducible apply keep_validResponse | with_reducible apply keep_skipCycle | with_reducible apply keepOut_next | with_reducible apply keep_checkResponse | with_reducible apply keep_inWindow | intro _ | with_reducible apply keep_ite | dsimp only | split

theorem keep_judgeResp {r s : State} {x0 : AccCyc} {x1 : Bool} {x2 : Nat} {x3 : Nat} {x4 : Resp} (h : Keep r s) :
    Keep r (judgeResp x0 x1 x2 x3 s x4) := by
  unfold judgeResp
  repeat' first | with_reducible assumption | with_reducible apply keep_modResp | with_reducible apply keep_requestSession | with_reducible apply keep_concludeResp | intro _ | with_reducible apply keep_ite

theorem keep_execCycleVerdict {r s : State} (h : Keep r s) :
    KeepOut r (execCycleVerdict s) := by
  unfold execCycleVerdict
  repeat' first | with_reducible assumption | with_reducible apply keepOut_next | with_reducible apply keep_atDue | with_reducible apply keep_drainRanging | with_reducible apply keep_judgeResp | with_reducible apply keep_modAccess | with_reducible apply keep_settleCycle | with_reducible apply keep_foldl | with_reducible apply keep_foldlFst | intro _ | with_reducible apply keep_ite | dsimp only | split

theorem keep_execRangingVerdict {r s : State} (h : Keep r s) :
    KeepOut r (execRangingVerdict s) := by
  unfold execRangingVerdict
  repeat' first | with_reducible assumption | with_reducible apply keepOut_next | with_reducible apply keep_drainRanging | with_reducible apply keep_rangingVerdict

theorem keep_learnOver {r s : State} (h : Keep r s) :
    Keep r (learnOver s) := by
  unfold learnOver
  repeat' first | with_reducible assumption | with_reducible apply keep_armFirm | with_reducible apply keep_modAccess | intro _ | with_reducible apply keep_ite | dsimp only

theorem keep_learnEnd {r s : State} {x0 : Nat} (h : Keep r s) :
    Keep r (learnEnd x0 s) := by
  unfold learnEnd
  repeat' first | with_reducible assumption | with_reducible apply keep_complete | with_reducible apply keep_learnOver | intro _ | with_reducible apply keep_ite | dsimp only | split

theorem keep_learnEntry {r s : State} (h : Keep r s) :
    Keep r (learnEntry s) := by
  unfold learnEntry
  repeat' first | with_reducible assumption | with_reducible apply keep_installKey | with_reducible apply keep_modAccess | with_reducible apply keep_learnEnd | intro _ | with_reducible apply keep_ite | dsimp only | split

theorem keep_forgetTok {r s : State} {x0 : Nat} (h : Keep r s) :
    Keep r (forgetTok x0 s) := by
  unfold forgetTok
  repeat' first | with_reducible assumption | with_reducible apply keep_storeTok | with_reducible apply keep_modTok | with_reducible apply keep_slotEvent | intro _ | with_reducible apply keep_ite

theorem keep_dropSession {r s : State} (h : Keep r s) :
    Keep r (dropSession s) := by
  unfold dropSession
  repeat' first | with_reducible assumption | with_reducible apply keep_drainRanging | with_reducible apply keep_rangeNext | with_reducible apply keep_calibCount | with_reducible apply keep_noVerdict | with_reducible apply keep_id | intro _ | with_reducible apply keep_ite | dsimp only | split

theorem keep_forgetAll {r s : State} (h : Keep r s) :
    Keep r (forgetAll s) := by
  unfold forgetAll
  repeat' first | with_reducible assumption | with_reducible apply keep_dropSession | with_reducible apply keep_eraseSlot | with_reducible apply keep_forgetTok | with_reducible apply keep_modAccess | with_reducible apply keep_setSuspect | with_reducible apply keep_storeAccess | with_reducible apply keep_foldl | with_reducible apply keep_foldlFst | intro _ | with_reducible apply keep_ite | dsimp only | split

theorem keep_execAccessLearnSet {r s : State} {x0 : Fin 128} (h : Keep r s) :
    KeepOut r (execAccessLearnSet x0 s) := by
  unfold execAccessLearnSet
  repeat' first | with_reducible assumption | with_reducible apply keepOut_next | with_reducible apply keep_command | with_reducible apply keep_complete | with_reducible apply keep_disarm | with_reducible apply keep_forgetAll | with_reducible apply keep_learnEntry | with_reducible apply keep_modAccess | with_reducible apply keep_start | intro _ | with_reducible apply keep_ite | dsimp only | split

theorem keep_sendLearn {r s : State} {x0 : Learning} {x1 : Nat × Bytes} {x2 : Bytes} (h : Keep r s) :
    Keep r (sendLearn x0 x1 x2 s) := by
  unfold sendLearn
  repeat' first | with_reducible assumption | with_reducible apply keep_accessSeq | with_reducible apply keep_bookAccess | with_reducible apply keep_modAccess | with_reducible apply keep_skipEvent | intro _ | with_reducible apply keep_ite | dsimp only | split

theorem keep_execLearnRetry {r s : State} {x0 : LfMeas} (h : Keep r s) :
    KeepOut r (execLearnRetry x0 s) := by
  unfold execLearnRetry
  repeat' first | with_reducible assumption | with_reducible apply keepOut_next | with_reducible apply keep_askQueue | with_reducible apply keep_atDue | with_reducible apply keep_modAccess | with_reducible apply keep_power | with_reducible apply keep_sendLearn | with_reducible apply keep_skipEvent | intro _ | with_reducible apply keep_ite | dsimp only | split

theorem keep_checkLearnAck {r s : State} {x0 : LearnAckTel} {x1 : Learning} {x2 : Nat × Bytes} {x3 : Bytes} (h : Keep r s) :
    Keep r (checkLearnAck x0 x1 x2 x3 s) := by
  unfold checkLearnAck
  repeat' first | with_reducible assumption | with_reducible apply keep_awaitCheck | with_reducible apply keep_learnEntry | with_reducible apply keep_modAccess | with_reducible apply keep_modTok | with_reducible apply keep_skipEvent | with_reducible apply keep_slotEvent | with_reducible apply keep_storeTok | intro _ | with_reducible apply keep_ite | dsimp only | split

theorem keep_execLearnAck {r s : State} {x0 : LearnAckTel} (h : Keep r s) :
    KeepOut r (execLearnAck x0 s) := by
  unfold execLearnAck
  repeat' first | with_reducible assumption | with_reducible apply keep_skipEvent | with_reducible apply keep_modAccess | with_reducible apply keep_storeTok | with_reducible apply keep_modTok | with_reducible apply keep_learnEntry | with_reducible apply keep_slotEvent | with_reducible apply keepOut_next | with_reducible apply keep_checkLearnAck | with_reducible apply keep_inWindow | intro _ | with_reducible apply keep_ite | dsimp only | split

theorem keep_execLearnTimeout {r s : State} (h : Keep r s) :
    KeepOut r (execLearnTimeout s) := by
  unfold execLearnTimeout
  repeat' first | with_reducible assumption | with_reducible apply keepOut_next | with_reducible apply keep_atDue | with_reducible apply keep_learnEnd | with_reducible apply keep_eraseSlot | intro _ | with_reducible apply keep_ite | dsimp only | split

theorem keep_execAccessReleasePair {r s : State} {x0 : Fin 128} (h : Keep r s) :
    KeepOut r (execAccessReleasePair x0 s) := by
  unfold execAccessReleasePair
  repeat' first | with_reducible assumption | with_reducible apply keepOut_next | with_reducible apply keep_command | with_reducible apply keep_complete | with_reducible apply keep_eraseSlot | with_reducible apply keep_start | with_reducible apply keep_installKey | intro _ | with_reducible apply keep_ite | dsimp only | split

theorem keep_pairLanded {r s : State} (h : Keep r s) :
    Keep r (pairLanded s) := by
  unfold pairLanded
  repeat' first | with_reducible assumption | with_reducible apply keep_modAccess | with_reducible apply keep_modStore | with_reducible apply keep_complete | with_reducible apply keep_reserveRelease | with_reducible apply keep_storeAccess | with_reducible apply keep_id | with_reducible exact storeKeep_newCounter | with_reducible exact storeKeep_setCounter | with_reducible exact storeKeep_rollOver | with_reducible exact StoreKeep.refl _ | with_reducible exact storeKeep_same rfl rfl rfl rfl rfl | intro _ | with_reducible apply keep_ite | dsimp only | split

theorem keep_accessLanded {r s : State} {x0 : Nat} {x1 : Nat} (h : Keep r s) :
    Keep r (accessLanded x0 x1 s) := by
  unfold accessLanded
  repeat' first | with_reducible assumption | with_reducible apply keep_modAccess | with_reducible apply keep_pairLanded | intro _ | with_reducible apply keep_ite | dsimp only | split

theorem keep_execAccessLocate {r s : State} {x0 : Fin 128} (h : Keep r s) :
    KeepOut r (execAccessLocate x0 s) := by
  unfold execAccessLocate
  repeat' first | with_reducible assumption | with_reducible apply keepOut_next | with_reducible apply keep_command | with_reducible apply keep_completeTiles | with_reducible apply keep_modAccess | with_reducible apply keep_start | intro _ | with_reducible apply keep_ite

theorem keep_execAccessLock {r s : State} {x0 : Fin 128} (h : Keep r s) :
    KeepOut r (execAccessLock x0 s) := by
  unfold execAccessLock
  repeat' first | with_reducible assumption | with_reducible apply keepOut_next | with_reducible apply keep_command | with_reducible apply keep_lockVerdict | with_reducible apply keep_start | with_reducible apply keep_modAccess | with_reducible apply keep_complete | intro _ | with_reducible apply keep_ite | dsimp only | split

theorem keep_execLockFrameTimeout {r s : State} (h : Keep r s) :
    KeepOut r (execLockFrameTimeout s) := by
  unfold execLockFrameTimeout
  repeat' first | with_reducible assumption | with_reducible apply keepOut_next | with_reducible apply keep_atDue | with_reducible apply keep_modAccess | with_reducible apply keep_complete | intro _ | with_reducible apply keep_ite | dsimp only | split

theorem keep_execAccessStatus {r s : State} {x0 : Fin 128} (h : Keep r s) :
    KeepOut r (execAccessStatus x0 s) := by
  unfold execAccessStatus
  repeat' first | with_reducible assumption | with_reducible apply keepOut_next | with_reducible apply keep_command | with_reducible apply keep_complete | intro _

theorem keep_execAccessSlotRead {r s : State} {x0 : Fin 128} (h : Keep r s) :
    KeepOut r (execAccessSlotRead x0 s) := by
  unfold execAccessSlotRead
  repeat' first | with_reducible assumption | with_reducible apply keepOut_next | with_reducible apply keep_fanOut | intro _

theorem keep_execAccessZonemapStage {r s : State} {x0 : Fin 128} (h : Keep r s) :
    KeepOut r (execAccessZonemapStage x0 s) := by
  unfold execAccessZonemapStage
  repeat' first | with_reducible assumption | with_reducible apply keepOut_next | with_reducible apply keep_command | with_reducible apply keep_stageObject | intro _

theorem keep_execAccessZonemapRead {r s : State} {x0 : Fin 128} (h : Keep r s) :
    KeepOut r (execAccessZonemapRead x0 s) := by
  unfold execAccessZonemapRead
  repeat' first | with_reducible assumption | with_reducible apply keepOut_next | with_reducible apply keep_command | with_reducible apply keep_complete | with_reducible apply keep_id | intro _ | with_reducible apply keep_ite

theorem keep_copySent {r s : State} {x0 : Nat} (h : Keep r s) :
    Keep r (copySent x0 s) := by
  unfold copySent
  repeat' first | with_reducible assumption | with_reducible apply keep_bodySent | with_reducible apply keep_dropHead | with_reducible apply keep_modCtx | with_reducible apply keep_modSw | with_reducible apply keep_releaseSent | with_reducible apply keep_sendCopy | intro _ | with_reducible apply keep_ite | dsimp only | split

theorem keep_execCopySent {r s : State} {x0 : Fin 28} (h : Keep r s) :
    KeepOut r (execCopySent x0 s) := by
  unfold execCopySent
  repeat' first | with_reducible assumption | with_reducible apply keepOut_next | with_reducible apply keep_copySent

theorem keep_execReleaseFrameTransmitted {r s : State} (h : Keep r s) :
    KeepOut r (execReleaseFrameTransmitted s) := by
  unfold execReleaseFrameTransmitted
  repeat' first | with_reducible assumption | with_reducible apply keepOut_next | with_reducible apply keep_copySent | intro _ | with_reducible apply keep_ite | dsimp only | split

theorem keep_accessGot {r s : State} {x0 : Bytes} (h : Keep r s) :
    Keep r (accessGot x0 s) := by
  unfold accessGot
  repeat' first | with_reducible assumption | with_reducible apply keep_sendChallenge | with_reducible apply keep_sendLearn | intro _ | with_reducible apply keep_ite | dsimp only | split

theorem keep_accessNoBytes {r s : State} (h : Keep r s) :
    Keep r (accessNoBytes s) := by
  unfold accessNoBytes
  repeat' first | with_reducible assumption | with_reducible apply keep_skipCycle | with_reducible apply keep_skipEvent | intro _ | with_reducible apply keep_ite | dsimp only | split

theorem keep_accessStarved {r s : State} (h : Keep r s) :
    Keep r (accessStarved s) := by
  unfold accessStarved
  repeat' first | with_reducible assumption | with_reducible apply keep_accessNoBytes | with_reducible apply keep_atDue | with_reducible apply keep_modGrain | intro _ | with_reducible apply keep_ite | dsimp only | split

theorem keep_runCheck {r s : State} {x0 : TokCheck} (h : Keep r s) :
    Keep r (runCheck s x0) := by
  unfold runCheck
  repeat' first | with_reducible assumption | with_reducible apply keep_checkButton | with_reducible apply keep_checkResponse | with_reducible apply keep_checkLearnAck | intro _ | with_reducible apply keep_ite | dsimp only | split

theorem keep_runChecks {r s : State} (h : Keep r s) :
    Keep r (runChecks s) := by
  unfold runChecks
  repeat' first | with_reducible assumption | with_reducible apply keep_modAccess | with_reducible apply keep_runCheck | with_reducible apply keep_foldl | with_reducible apply keep_foldlFst | intro _ | with_reducible apply keep_ite | dsimp only | split

theorem keep_endLocate {r s : State} (h : Keep r s) :
    Keep r (endLocate s) := by
  unfold endLocate
  repeat' first | with_reducible assumption | with_reducible apply keep_completeTiles | with_reducible apply keep_modAccess | intro _ | with_reducible apply keep_ite | dsimp only | split

theorem keep_endLearning {r s : State} (h : Keep r s) :
    Keep r (endLearning s) := by
  unfold endLearning
  repeat' first | with_reducible assumption | with_reducible apply keep_eraseSlot | with_reducible apply keep_learnEnd | intro _ | with_reducible apply keep_ite | dsimp only | split

theorem keep_abandonAll {r s : State} (h : Keep r s) :
    Keep r (abandonAll s) := by
  unfold abandonAll
  repeat' first | with_reducible assumption | with_reducible apply keep_disarm | with_reducible apply keep_modAccess | with_reducible apply keep_start | intro _ | with_reducible apply keep_ite | dsimp only | split

theorem keep_enterPoll {r s : State} {x0 : Bool} (h : Keep r s) :
    Keep r (enterPoll x0 s) := by
  unfold enterPoll
  repeat' first | with_reducible assumption | with_reducible apply keep_armFirm | with_reducible apply keep_disarm | with_reducible apply keep_modAccess | with_reducible apply keep_modUhf | with_reducible apply keep_power | with_reducible apply keep_start | intro _ | with_reducible apply keep_ite | dsimp only | split

theorem keep_storeSlots {r s : State} (h : Keep r s) :
    Keep r (storeSlots s) := by
  unfold storeSlots
  repeat' first | with_reducible assumption | with_reducible apply keep_storeTok | with_reducible apply keep_foldl

theorem keep_accessMode {r s : State} {x0 : Mode} {x1 : Nat} (h : Keep r s) :
    Keep r (accessMode x0 x1 s) := by
  unfold accessMode
  repeat' first | with_reducible assumption | with_reducible apply keep_abandonAll | with_reducible apply keep_armFirm | with_reducible apply keep_closePoll | with_reducible apply keep_disarm | with_reducible apply keep_endLearning | with_reducible apply keep_endLocate | with_reducible apply keep_endRelease | with_reducible apply keep_enterPoll | with_reducible apply keep_modAccess | with_reducible apply keep_modUhf | with_reducible apply keep_power | with_reducible apply keep_start | with_reducible apply keep_storeSlots | with_reducible apply keep_unsettle | with_reducible apply keep_foldl | with_reducible apply keep_foldlFst | intro _ | with_reducible apply keep_ite | dsimp only | split

theorem keep_abandonStart {r s : State} (h : Keep r s) :
    Keep r (abandonStart s) := by
  unfold abandonStart
  repeat' first | with_reducible assumption | with_reducible apply keep_modAccess

theorem keep_askPoll {r s : State} {x0 : Nat} (h : Keep r s) :
    Keep r (askPoll x0 s) := by
  unfold askPoll
  repeat' first | with_reducible assumption | with_reducible apply keep_modAccess | intro _ | with_reducible apply keep_ite | dsimp only | split

theorem keep_accessIgn {r s : State} {x0 : Bool} (h : Keep r s) :
    Keep r (accessIgn x0 s) := by
  unfold accessIgn
  repeat' first | with_reducible assumption | with_reducible apply keep_abandonStart | with_reducible apply keep_askPoll | with_reducible apply keep_endRelease | with_reducible apply keep_modAccess | with_reducible apply keep_start | intro _ | with_reducible apply keep_ite | dsimp only | split

theorem keep_accessDoor {r s : State} {x0 : Nat} (h : Keep r s) :
    Keep r (accessDoor x0 s) := by
  unfold accessDoor
  repeat' first | with_reducible assumption | with_reducible apply keep_askPoll | with_reducible apply keep_modAccess | with_reducible apply keep_tryUnlock | intro _ | with_reducible apply keep_ite | dsimp only | split

theorem keep_accessExposed {r s : State} (h : Keep r s) :
    Keep r (accessExposed s) := by
  unfold accessExposed
  repeat' first | with_reducible assumption | with_reducible apply keep_disarm | with_reducible apply keep_modAccess | intro _ | with_reducible apply keep_ite

end Sys2Proof.Machine
end

