-- ==== Sys2Proof/Laws/KeepDevice.lean ====
section
/-! SUPPORT. What the operations and commands of the host path, exposures, the M side of the lane and on-chip memory keep: one lemma per
definition, each following the calls of its body. -/

namespace Sys2Proof.Machine

theorem keep_fillMailbox {r s : State} {x0 : Nat} {x1 : Bytes} {x2 : Held} (h : Keep r s) :
    Keep r (fillMailbox x0 x1 x2 s) := by
  unfold fillMailbox
  repeat' first | with_reducible assumption | with_reducible apply keep_modHost | with_reducible apply keep_modStew | with_reducible exact hostOk_same rfl rfl rfl | with_reducible exact hostOk_raise | with_reducible exact hostOk_writeBytes rfl rfl rfl

theorem keep_afterFrag {r s : State} {x0 : Nat} {x1 : Nat} (h : Keep r s) :
    Keep r (afterFrag x0 x1 s) := by
  unfold afterFrag
  repeat' first | with_reducible assumption | with_reducible apply keep_modWork | with_reducible apply keep_modStew | intro _ | with_reducible apply keep_ite

theorem keep_t1SendOne {r s : State} {x0 : Nat} {x1 : Bytes} (h : Keep r s) :
    Keep r (t1SendOne x0 x1 s).1 := by
  unfold t1SendOne
  repeat' first | with_reducible assumption | with_reducible apply keep_bumpCounter | with_reducible apply keep_modHost | with_reducible apply keep_modSheet | with_reducible apply keep_power | with_reducible exact hostOk_same rfl rfl rfl | with_reducible exact hostOk_raise | with_reducible exact hostOk_writeBytes rfl rfl rfl | with_reducible exact hostOk_ringWrite | with_reducible exact hostOk_ringPut | with_reducible exact hostOk_take | intro _ | with_reducible apply keep_ite | dsimp only | split

theorem keep_t1Batches {r s : State} {x0 : Nat} (h : Keep r s) :
    Keep r (t1Batches x0 s) := by
  induction x0 generalizing s with
  | zero => exact h
  | succ m ih =>
  unfold t1Batches
  repeat' first | with_reducible assumption | with_reducible exact hostOk_take | with_reducible apply ih | with_reducible apply keep_t1SendOne | with_reducible apply keep_modHost | with_reducible exact hostOk_same rfl rfl rfl | with_reducible exact hostOk_raise | with_reducible exact hostOk_writeBytes rfl rfl rfl | with_reducible exact hostOk_ringWrite | with_reducible exact hostOk_ringPut | intro _ | with_reducible apply keep_ite | dsimp only

theorem keep_t1Send {r s : State} {x0 : Nat} {x1 : Bytes} (h : Keep r s) :
    Keep r (t1Send x0 x1 s).1 := by
  unfold t1Send
  repeat' first | with_reducible assumption | with_reducible apply keep_t1Batches | with_reducible apply keep_modHost | with_reducible apply keep_t1SendOne | with_reducible exact hostOk_same rfl rfl rfl | with_reducible exact hostOk_raise | with_reducible exact hostOk_writeBytes rfl rfl rfl | with_reducible exact hostOk_ringWrite | with_reducible exact hostOk_ringPut | intro _ | with_reducible apply keep_ite | dsimp only | split

theorem keep_postTicket {r s : State} {x0 : Nat} (h : Keep r s) :
    Keep r (postTicket x0 s) := by
  unfold postTicket
  repeat' first | with_reducible assumption | with_reducible apply keep_modStew | with_reducible apply keep_modWork | with_reducible apply keep_afterFrag | with_reducible apply keep_fillMailbox | with_reducible apply keep_t1Send | intro _ | with_reducible apply keep_ite | dsimp only | split

theorem keep_execResponsePost {r s : State} (h : Keep r s) :
    KeepOut r (execResponsePost s) := by
  unfold execResponsePost
  repeat' first | with_reducible assumption | with_reducible exact hostOk_take | with_reducible apply keepOut_next | with_reducible apply keep_postTicket | with_reducible apply keep_modStew | with_reducible apply keep_t1Send | with_reducible apply keep_fillMailbox | with_reducible apply keep_t1Batches | with_reducible apply keep_modHost | with_reducible exact hostOk_same rfl rfl rfl | with_reducible exact hostOk_raise | with_reducible exact hostOk_writeBytes rfl rfl rfl | with_reducible exact hostOk_ringWrite | with_reducible exact hostOk_ringPut | intro _ | with_reducible apply keep_ite | dsimp only | split

theorem keep_t1Refuse {r s : State} (h : Keep r s) :
    Keep r (t1Refuse s) := by
  unfold t1Refuse
  repeat' first | with_reducible assumption | with_reducible apply keep_emit | with_reducible apply keep_modHost | with_reducible exact hostOk_same rfl rfl rfl

theorem keep_t1Release {r s : State} {x0 : Nat} {x1 : Nat} (h : Keep r s) :
    Keep r (t1Release x0 x1 s) := by
  unfold t1Release
  repeat' first | with_reducible assumption | with_reducible exact hostOk_take | with_reducible apply keep_modHost | with_reducible exact hostOk_same rfl rfl rfl | with_reducible exact hostOk_raise | with_reducible exact hostOk_writeBytes rfl rfl rfl | with_reducible exact hostOk_ringWrite | with_reducible exact hostOk_ringPut | with_reducible apply keep_releaseFragment | with_reducible apply keep_foldl | with_reducible apply keep_foldlFst | intro _ | with_reducible apply keep_ite | dsimp only | split

theorem keep_t1Apply {r s : State} {x0 : Nat} {x1 : Bytes} (h : Keep r s) :
    Keep r (t1Apply x0 x1 s) := by
  unfold t1Apply
  repeat' first | with_reducible assumption | with_reducible apply keep_t1Release | with_reducible apply keep_duplicate | with_reducible apply keep_accept | intro _ | with_reducible apply keep_ite

theorem keep_t1Drain {r s : State} {x0 : Nat} (h : Keep r s) :
    Keep r (t1Drain x0 s) := by
  induction x0 generalizing s with
  | zero => exact h
  | succ m ih =>
  unfold t1Drain
  repeat' first | with_reducible assumption | with_reducible apply ih | with_reducible apply keep_t1Apply | with_reducible apply keep_modSheet | with_reducible apply keep_bumpCounter | with_reducible apply keep_modHost | with_reducible apply keep_foldl | with_reducible apply keep_foldlFst | with_reducible exact hostOk_same rfl rfl rfl | with_reducible exact hostOk_raise | with_reducible exact hostOk_writeBytes rfl rfl rfl | with_reducible exact hostOk_ringWrite | with_reducible exact hostOk_ringPut | intro _ | with_reducible apply keep_ite | dsimp only | split

theorem keep_t1Reached {r s : State} (h : Keep r s) :
    Keep r (t1Reached s) := by
  unfold t1Reached
  repeat' first | with_reducible assumption | with_reducible apply keep_t1Drain

theorem keep_t1Take {r s : State} {x0 : Nat} {x1 : Bytes} {x2 : Bool} (h : Keep r s) :
    Keep r (t1Take x0 x1 x2 s) := by
  unfold t1Take
  repeat' first | with_reducible assumption | with_reducible apply keep_modHost | with_reducible apply keep_power | with_reducible apply keep_t1Reached | with_reducible apply keep_t1Refuse | with_reducible exact hostOk_same rfl rfl rfl | with_reducible exact hostOk_raise | with_reducible exact hostOk_writeBytes rfl rfl rfl | with_reducible exact hostOk_ringWrite | with_reducible exact hostOk_ringPut | with_reducible exact hostOk_take | intro _ | with_reducible apply keep_ite | dsimp only | split

theorem keep_t1Resume {r s : State} (h : Keep r s) :
    Keep r (t1Resume s) := by
  unfold t1Resume
  repeat' first | with_reducible assumption | with_reducible apply keep_modHost | with_reducible apply keep_t1Take | with_reducible apply keep_foldl | with_reducible apply keep_foldlFst | with_reducible exact hostOk_same rfl rfl rfl | with_reducible exact hostOk_raise | with_reducible exact hostOk_writeBytes rfl rfl rfl | with_reducible exact hostOk_ringWrite | with_reducible exact hostOk_ringPut | with_reducible exact hostOk_take | intro _ | with_reducible apply keep_ite | dsimp only | split

theorem keep_execT1CommandFrame {r s : State} {x0 : Fin 28} {x1 : Bytes} {x2 : Bytes} (h : Keep r s) :
    KeepOut r (execT1CommandFrame x0 x1 x2 s) := by
  unfold execT1CommandFrame
  repeat' first | with_reducible assumption | with_reducible apply keepOut_next | with_reducible apply keep_t1Take | intro _ | with_reducible apply keep_ite | dsimp only | split

theorem keep_execT1ReleaseFrame {r s : State} {x0 : Fin 28} {x1 : Bytes} {x2 : Bytes} (h : Keep r s) :
    KeepOut r (execT1ReleaseFrame x0 x1 x2 s) := by
  unfold execT1ReleaseFrame
  repeat' first | with_reducible assumption | with_reducible apply keepOut_next | with_reducible apply keep_t1Take | intro _ | with_reducible apply keep_ite | dsimp only | split

theorem keep_t1RetryDup {r s : State} {x0 : DupRsp} {x1 : Nat} (h : Keep r s) :
    Keep r (t1RetryDup x0 x1 s) := by
  unfold t1RetryDup
  repeat' first | with_reducible assumption | with_reducible exact hostOk_take | with_reducible apply keep_atDue | with_reducible apply keep_modHost | with_reducible apply keep_t1SendOne | with_reducible exact hostOk_same rfl rfl rfl | with_reducible exact hostOk_raise | with_reducible exact hostOk_writeBytes rfl rfl rfl | with_reducible exact hostOk_ringWrite | with_reducible exact hostOk_ringPut | intro _ | with_reducible apply keep_ite | dsimp only | split

theorem keep_execT1Retry {r s : State} (h : Keep r s) :
    KeepOut r (execT1Retry s) := by
  unfold execT1Retry
  repeat' first | with_reducible assumption | with_reducible apply keepOut_next | with_reducible apply keep_atDue | with_reducible apply keep_modHost | with_reducible apply keep_modWork | with_reducible apply keep_power | with_reducible apply keep_t1RetryDup | with_reducible apply keep_t1SendOne | with_reducible apply keep_foldl | with_reducible apply keep_foldlFst | with_reducible exact hostOk_same rfl rfl rfl | with_reducible exact hostOk_raise | with_reducible exact hostOk_writeBytes rfl rfl rfl | with_reducible exact hostOk_ringWrite | with_reducible exact hostOk_ringPut | with_reducible exact hostOk_take | intro _ | with_reducible apply keep_ite | dsimp only | split

theorem keep_moveDups {r s : State} (h : Keep r s) :
    Keep r (moveDups s) := by
  unfold moveDups
  repeat' first | with_reducible assumption | with_reducible exact hostOk_take | with_reducible apply keep_modHost | with_reducible apply keep_modStew | with_reducible exact hostOk_same rfl rfl rfl | with_reducible exact hostOk_raise | with_reducible exact hostOk_writeBytes rfl rfl rfl | with_reducible exact hostOk_ringWrite | with_reducible exact hostOk_ringPut | intro _ | with_reducible apply keep_ite | dsimp only | split

theorem keep_movePaths {r s : State} {x0 : Bool} (h : Keep r s) :
    Keep r (movePaths x0 s) := by
  unfold movePaths
  repeat' first | with_reducible assumption | with_reducible apply keep_modWork | with_reducible apply keep_modStew | with_reducible apply keep_foldl | with_reducible apply keep_foldlFst | intro _ | with_reducible apply keep_ite

theorem keep_execT1ReplayTimeout {r s : State} (h : Keep r s) :
    KeepOut r (execT1ReplayTimeout s) := by
  unfold execT1ReplayTimeout
  repeat' first | with_reducible assumption | with_reducible apply keepOut_next | with_reducible apply keep_atDue | with_reducible apply keep_movePaths | with_reducible apply keep_modHost | with_reducible exact hostOk_same rfl rfl rfl | with_reducible exact hostOk_raise | with_reducible exact hostOk_writeBytes rfl rfl rfl | with_reducible exact hostOk_ringWrite | with_reducible exact hostOk_ringPut | intro _ | with_reducible apply keep_ite | dsimp only | split

theorem keep_execDeviceIdentify {r s : State} {x0 : Fin 128} (h : Keep r s) :
    KeepOut r (execDeviceIdentify x0 s) := by
  unfold execDeviceIdentify
  repeat' first | with_reducible assumption | with_reducible apply keepOut_next | with_reducible apply keep_command | with_reducible apply keep_complete | intro _

theorem keep_execDeviceTicketQuery {r s : State} {x0 : Fin 128} (h : Keep r s) :
    KeepOut r (execDeviceTicketQuery x0 s) := by
  unfold execDeviceTicketQuery
  repeat' first | with_reducible assumption | with_reducible apply keepOut_next | with_reducible apply keep_command | with_reducible apply keep_complete | intro _

theorem keep_execNodeProbe {r s : State} {x0 : Fin 128} (h : Keep r s) :
    KeepOut r (execNodeProbe x0 s) := by
  unfold execNodeProbe
  repeat' first | with_reducible assumption | with_reducible apply keepOut_next | with_reducible apply keep_command | with_reducible apply keep_completeTiles | intro _

theorem keep_execNodeRead {r s : State} {x0 : Fin 128} (h : Keep r s) :
    KeepOut r (execNodeRead x0 s) := by
  unfold execNodeRead
  repeat' first | with_reducible assumption | with_reducible apply keepOut_next | with_reducible apply keep_command | with_reducible apply keep_complete | intro _

theorem keep_execNodeList {r s : State} {x0 : Fin 128} (h : Keep r s) :
    KeepOut r (execNodeList x0 s) := by
  unfold execNodeList
  repeat' first | with_reducible assumption | with_reducible apply keepOut_next | with_reducible apply keep_command | with_reducible apply keep_complete | intro _

theorem keep_execNodeCourseStage {r s : State} {x0 : Fin 128} (h : Keep r s) :
    KeepOut r (execNodeCourseStage x0 s) := by
  unfold execNodeCourseStage
  repeat' first | with_reducible assumption | with_reducible apply keepOut_next | with_reducible apply keep_command | with_reducible apply keep_complete | with_reducible apply keep_stageObject | intro _ | with_reducible apply keep_ite | dsimp only | split

theorem keep_execNodeCourseDeleteStage {r s : State} {x0 : Fin 128} (h : Keep r s) :
    KeepOut r (execNodeCourseDeleteStage x0 s) := by
  unfold execNodeCourseDeleteStage
  repeat' first | with_reducible assumption | with_reducible apply keepOut_next | with_reducible apply keep_command | with_reducible apply keep_complete | with_reducible apply keep_stageItems | with_reducible apply keep_id | intro _ | with_reducible apply keep_ite

theorem keep_modSess {r s : State} {x1 : Nat} {x2 : Session → Session} (h : Keep r s) :
    Keep r (State.modSess s x1 x2) := by
  unfold State.modSess
  repeat' first | with_reducible assumption | with_reducible apply keep_modExpo

theorem keep_modPend {r s : State} {x1 : Pending → Pending} (h : Keep r s) :
    Keep r (State.modPend s x1) := by
  unfold State.modPend
  repeat' first | with_reducible assumption | with_reducible apply keep_modExpo

theorem keep_execExposeOpen {r s : State} {x0 : Fin 128} (h : Keep r s) :
    KeepOut r (execExposeOpen x0 s) := by
  unfold execExposeOpen
  repeat' first | with_reducible assumption | with_reducible apply keepOut_next | with_reducible apply keep_command | with_reducible apply keep_complete | with_reducible apply keep_modSess | intro _ | with_reducible apply keep_ite | dsimp only | split

theorem keep_execExposeDiscard {r s : State} {x0 : Fin 128} (h : Keep r s) :
    KeepOut r (execExposeDiscard x0 s) := by
  unfold execExposeDiscard
  repeat' first | with_reducible assumption | with_reducible apply keepOut_next | with_reducible apply keep_command | with_reducible apply keep_complete | with_reducible apply keep_abandonSet | with_reducible apply keep_modSess | intro _ | with_reducible apply keep_ite

theorem keep_execExposeSetStage {r s : State} {x0 : Fin 128} (h : Keep r s) :
    KeepOut r (execExposeSetStage x0 s) := by
  unfold execExposeSetStage
  repeat' first | with_reducible assumption | with_reducible apply keepOut_next | with_reducible apply keep_command | with_reducible apply keep_complete | with_reducible apply keep_stageItems | intro _ | with_reducible apply keep_ite | dsimp only | split

theorem keep_execExposeStatus {r s : State} {x0 : Fin 128} (h : Keep r s) :
    KeepOut r (execExposeStatus x0 s) := by
  unfold execExposeStatus
  repeat' first | with_reducible assumption | with_reducible apply keepOut_next | with_reducible apply keep_command | with_reducible apply keep_complete | intro _

theorem keep_execExposeSettingRead {r s : State} {x0 : Fin 128} (h : Keep r s) :
    KeepOut r (execExposeSettingRead x0 s) := by
  unfold execExposeSettingRead
  repeat' first | with_reducible assumption | with_reducible apply keepOut_next | with_reducible apply keep_command | with_reducible apply keep_complete | with_reducible apply keep_id | intro _ | with_reducible apply keep_ite | dsimp only | split

theorem keep_prepareSet {r s : State} {x0 : Nat} (h : Keep r s) :
    Keep r (prepareSet x0 s) := by
  unfold prepareSet
  repeat' first | with_reducible assumption | with_reducible apply keep_enqueue | with_reducible apply keep_modStore | exact ⟨id, id, fun _ => rfl, id, Nat.le_succ _⟩

theorem keep_execExposeCheck {r s : State} {x0 : Fin 128} (h : Keep r s) :
    KeepOut r (execExposeCheck x0 s) := by
  unfold execExposeCheck
  repeat' first | with_reducible assumption | with_reducible apply keepOut_next | with_reducible apply keep_command | with_reducible apply keep_complete | with_reducible apply keep_abandonSet | with_reducible apply keep_modSess | with_reducible apply keep_prepareSet | intro _ | with_reducible apply keep_ite | dsimp only | split

theorem keep_acceptExpose {r s : State} {x0 : Nat} {x1 : Nat} {x2 : Nat} {x3 : Nat} (h : Keep r s) :
    Keep r (acceptExpose x0 x1 x2 x3 s) := by
  unfold acceptExpose
  repeat' first | with_reducible assumption | with_reducible apply keep_laneSend | with_reducible apply keep_modExpo | with_reducible apply keep_modSess | with_reducible apply keep_modTicket | with_reducible apply keep_prepareSet | with_reducible apply keep_putRecord | with_reducible apply keep_start | with_reducible apply keep_id | intro _ | with_reducible apply keep_ite | dsimp only | split

theorem keep_execExposeExpose {r s : State} {x0 : Fin 128} (h : Keep r s) :
    KeepOut r (execExposeExpose x0 s) := by
  unfold execExposeExpose
  repeat' first | with_reducible assumption | with_reducible apply keepOut_next | with_reducible apply keep_command | with_reducible apply keep_complete | with_reducible apply keep_modSess | with_reducible apply keep_acceptExpose | intro _ | with_reducible apply keep_ite

theorem keep_dropUser {r s : State} (h : Keep r s) :
    Keep r (dropUser s) := by
  unfold dropUser
  repeat' first | with_reducible assumption | with_reducible apply keep_modLane

theorem keep_sendRollback {r s : State} {x0 : Nat} (h : Keep r s) :
    Keep r (sendRollback x0 s) := by
  unfold sendRollback
  repeat' first | with_reducible assumption | with_reducible apply keep_modSheet | with_reducible apply keep_laneSend | intro _ | with_reducible apply keep_ite

theorem keep_voidSet {r s : State} {x0 : Nat} {x1 : Nat} (h : Keep r s) :
    Keep r (voidSet x0 x1 s) := by
  unfold voidSet
  repeat' first | with_reducible assumption | with_reducible apply keep_putRecord | with_reducible apply keep_modStore | with_reducible exact storeKeep_newCounter | with_reducible exact storeKeep_setCounter | with_reducible exact storeKeep_rollOver | with_reducible exact StoreKeep.refl _ | with_reducible exact storeKeep_same rfl rfl rfl rfl rfl

theorem keep_endPending {r s : State} {x0 : Nat} {x1 : Nat} {x2 : SessState} (h : Keep r s) :
    Keep r (endPending x0 x1 x2 s) := by
  unfold endPending
  repeat' first | with_reducible assumption | with_reducible apply keep_sendRollback | with_reducible apply keep_dropUser | with_reducible apply keep_voidSet | with_reducible apply keep_modExpo | with_reducible apply keep_modSess | with_reducible apply keep_complete | with_reducible apply keep_emit | intro _ | with_reducible apply keep_ite | dsimp only | split

theorem keep_execExposeCancel {r s : State} {x0 : Fin 128} (h : Keep r s) :
    KeepOut r (execExposeCancel x0 s) := by
  unfold execExposeCancel
  repeat' first | with_reducible assumption | with_reducible apply keepOut_next | with_reducible apply keep_command | with_reducible apply keep_complete | with_reducible apply keep_endPending | intro _ | with_reducible apply keep_ite | dsimp only | split

theorem keep_decide_ {r s : State} (h : Keep r s) :
    Keep r (decide_ s) := by
  unfold decide_
  repeat' first | with_reducible assumption | with_reducible apply keep_armFirm | with_reducible apply keep_modShut | with_reducible apply keep_modTicket | with_reducible apply keep_modPend | with_reducible apply keep_endPending | intro _ | with_reducible apply keep_ite | dsimp only | split

theorem keep_execDecisionPoint {r s : State} (h : Keep r s) :
    KeepOut r (execDecisionPoint s) := by
  unfold execDecisionPoint
  repeat' first | with_reducible assumption | with_reducible apply keepOut_next | with_reducible apply keep_atDue | with_reducible apply keep_decide_ | intro _ | with_reducible apply keep_ite | dsimp only | split

theorem keep_execExposeCommitSend {r s : State} (h : Keep r s) :
    KeepOut r (execExposeCommitSend s) := by
  unfold execExposeCommitSend
  repeat' first | with_reducible assumption | with_reducible apply keepOut_next | with_reducible apply keep_atDue | with_reducible apply keep_endPending | with_reducible apply keep_laneSend | with_reducible apply keep_modPend | intro _ | with_reducible apply keep_ite | dsimp only | split

theorem keep_execFixerPrepareTimeout {r s : State} (h : Keep r s) :
    KeepOut r (execFixerPrepareTimeout s) := by
  unfold execFixerPrepareTimeout
  repeat' first | with_reducible assumption | with_reducible apply keepOut_next | with_reducible apply keep_atDue | with_reducible apply keep_endPending | intro _ | with_reducible apply keep_ite | dsimp only | split

theorem keep_loadShutter {r s : State} {x0 : Nat} {x2 : Item} (h : Keep r s) :
    Keep r (loadShutter x0 s x2) := by
  unfold loadShutter
  repeat' first | with_reducible assumption | with_reducible apply keep_nextCycle | with_reducible apply keep_modShut | with_reducible apply keep_fire | with_reducible apply keep_id | intro _ | with_reducible apply keep_ite | dsimp only | split

theorem keep_inputsChanged {r s : State} {x0 : Conf} (h : Keep r s) :
    Keep r (inputsChanged x0 s) := by
  unfold inputsChanged
  repeat' first | with_reducible assumption | with_reducible apply keep_modCap | with_reducible apply keep_modMem | with_reducible apply keep_foldl | with_reducible apply keep_foldlFst | intro _ | with_reducible apply keep_ite

theorem keep_windowExposed {r s : State} {x0 : Conf} (h : Keep r s) :
    Keep r (windowExposed x0 s) := by
  unfold windowExposed
  repeat' first | with_reducible assumption | with_reducible apply keep_trigger | intro _ | with_reducible apply keep_ite

theorem keep_pathExposed {r s : State} {x0 : Conf} (h : Keep r s) :
    Keep r (pathExposed x0 s) := by
  unfold pathExposed
  repeat' first | with_reducible assumption | with_reducible apply keep_moveDups | with_reducible apply keep_movePaths | intro _ | with_reducible apply keep_ite

theorem keep_irqExposed {r s : State} {x0 : Conf} (h : Keep r s) :
    Keep r (irqExposed x0 s) := by
  unfold irqExposed
  repeat' first | with_reducible assumption | with_reducible exact hostOk_take | with_reducible apply keep_modHost | with_reducible exact hostOk_same rfl rfl rfl | with_reducible exact hostOk_raise | with_reducible exact hostOk_writeBytes rfl rfl rfl | with_reducible exact hostOk_ringWrite | with_reducible exact hostOk_ringPut | intro _ | with_reducible apply keep_ite | dsimp only | split

theorem keep_bootExposed {r s : State} {x0 : Conf} (h : Keep r s) :
    Keep r (bootExposed x0 s) := by
  unfold bootExposed
  repeat' first | with_reducible assumption | with_reducible apply keep_modSafe | with_reducible exact id | with_reducible exact sort_log | with_reducible exact fun _ => Nat.zero_le _ | with_reducible exact fun k => Nat.le_trans (List.length_filter_le _ _) k | intro _ | with_reducible apply keep_ite

theorem keep_exposeSet {r s : State} {x0 : Nat} {x1 : Nat} {x2 : List Item} {x3 : Nat} {x4 : Nat} {x5 : Bool} (h : Keep r s) :
    Keep r (exposeSet x0 x1 x2 x3 x4 x5 s) := by
  unfold exposeSet
  repeat' first | with_reducible assumption | with_reducible apply keep_raiseRoute | with_reducible apply keep_runRoutes | with_reducible apply keep_irqExposed | with_reducible apply keep_modConf | with_reducible apply keep_switchExposed | with_reducible apply keep_inputsChanged | with_reducible apply keep_loadShutter | with_reducible apply keep_bootExposed | with_reducible apply keep_pathExposed | with_reducible apply keep_accessExposed | with_reducible apply keep_windowExposed | with_reducible apply keep_emitAs | with_reducible apply keep_foldl | with_reducible apply keep_foldlFst | with_reducible apply keep_id | intro _ | dsimp only

theorem keep_atInstant {r s : State} {x0 : Pending} (h : Keep r s) :
    Keep r (atInstant x0 s) := by
  unfold atInstant
  repeat' first | with_reducible assumption | with_reducible apply keep_recordRead | with_reducible apply keep_exposeSet | with_reducible apply keep_fire | with_reducible apply keep_modPend | with_reducible apply keep_modSheet | with_reducible apply keep_modLane | with_reducible apply keep_laneSend | with_reducible apply keep_putRecord | intro _ | with_reducible apply keep_ite | dsimp only

theorem keep_exposureFires {r s : State} (h : Keep r s) :
    Keep r (exposureFires s) := by
  unfold exposureFires
  repeat' first | with_reducible assumption | exact keep_firmStart (by with_reducible assumption) _ (by with_reducible assumption) | with_reducible apply keep_atInstant | with_reducible apply keep_fire | exact keep_firmFire (by with_reducible assumption) _ (by with_reducible assumption) | exact keep_reachCompare (by with_reducible assumption) _ (by with_reducible assumption) | intro _ | with_reducible apply keep_ite | dsimp only | split

theorem keep_execExposureInstant {r s : State} (h : Keep r s) :
    KeepOut r (execExposureInstant s) := by
  unfold execExposureInstant
  repeat' first | with_reducible assumption | with_reducible apply keep_exposureFires | with_reducible apply keepOut_next | exact keep_reachCompare (by with_reducible assumption) _ (by with_reducible assumption) | with_reducible apply keep_atInstant | intro _ | with_reducible apply keep_ite | dsimp only | split

theorem keep_exposeCommitted {r s : State} (h : Keep r s) :
    Keep r (exposeCommitted s) := by
  unfold exposeCommitted
  repeat' first | with_reducible assumption | with_reducible apply keep_modStore | with_reducible apply keep_modExpo | with_reducible apply keep_modSess | with_reducible apply keep_complete | with_reducible apply keep_modSafe | with_reducible exact storeKeep_newCounter | with_reducible exact storeKeep_setCounter | with_reducible exact storeKeep_rollOver | with_reducible exact StoreKeep.refl _ | with_reducible exact storeKeep_same rfl rfl rfl rfl rfl | with_reducible exact id | with_reducible exact sort_log | with_reducible exact fun _ => Nat.zero_le _ | with_reducible exact fun k => Nat.le_trans (List.length_filter_le _ _) k | intro _ | with_reducible apply keep_ite | dsimp only | split

theorem keep_pendingWritten {r s : State} (h : Keep r s) :
    Keep r (pendingWritten s) := by
  unfold pendingWritten
  repeat' first | with_reducible assumption | with_reducible apply keep_modStore | with_reducible apply keep_modPend | with_reducible exact storeKeep_newCounter | with_reducible exact storeKeep_setCounter | with_reducible exact storeKeep_rollOver | with_reducible exact StoreKeep.refl _ | with_reducible exact storeKeep_same rfl rfl rfl rfl rfl | intro _ | with_reducible apply keep_ite | dsimp only | split

theorem keep_sendSample {r s : State} (h : Keep r s) :
    Keep r (sendSample s) := by
  unfold sendSample
  repeat' first | with_reducible assumption | with_reducible apply keep_epochSample | with_reducible apply keep_laneSend | with_reducible apply keep_modEave | with_reducible apply keep_modLane | intro _ | with_reducible apply keep_ite | dsimp only | split

theorem keep_sampleDue {r s : State} (h : Keep r s) :
    Keep r (sampleDue s) := by
  unfold sampleDue
  repeat' first | with_reducible assumption | with_reducible apply keep_atDue | with_reducible apply keep_sendSample | with_reducible apply keep_beginWake | intro _ | with_reducible apply keep_ite

theorem keep_execEpochSampleTimer {r s : State} (h : Keep r s) :
    KeepOut r (execEpochSampleTimer s) := by
  unfold execEpochSampleTimer
  repeat' first | with_reducible assumption | with_reducible apply keepOut_next | with_reducible apply keep_sampleDue | intro _ | with_reducible apply keep_ite

theorem keep_execLaneProbe {r s : State} (h : Keep r s) :
    KeepOut r (execLaneProbe s) := by
  unfold execLaneProbe
  repeat' first | with_reducible assumption | with_reducible apply keepOut_next | with_reducible apply keep_sampleDue | intro _ | with_reducible apply keep_ite

theorem keep_execWakeStrobe {r s : State} (h : Keep r s) :
    KeepOut r (execWakeStrobe s) := by
  unfold execWakeStrobe
  repeat' first | with_reducible assumption | with_reducible apply keepOut_next | with_reducible apply keep_modLane | with_reducible apply keep_beginWake | intro _ | with_reducible apply keep_ite

theorem keep_takeRecord {r s : State} {x0 : Nat} {x1 : Bytes} (h : Keep r s) :
    Keep r (takeRecord x0 x1 s) := by
  unfold takeRecord
  repeat' first | with_reducible assumption | with_reducible apply keep_modVault | with_reducible apply keep_emit | with_reducible apply keep_appendRecord | with_reducible exact Nat.le_refl _ | with_reducible exact Nat.le_succ _ | intro _ | with_reducible apply keep_ite

theorem keep_execRecordAppend {r s : State} (h : Keep r s) :
    KeepOut r (execRecordAppend s) := by
  unfold execRecordAppend
  repeat' first | with_reducible assumption | with_reducible apply keepOut_next | with_reducible apply keep_takeRecord | with_reducible apply keep_modLane | intro _ | with_reducible apply keep_ite | dsimp only | split

theorem keep_execFixerEvent {r s : State} (h : Keep r s) :
    KeepOut r (execFixerEvent s) := by
  unfold execFixerEvent
  repeat' first | with_reducible assumption | with_reducible apply keepOut_next | with_reducible apply keep_modLane | with_reducible apply keep_putEvent | intro _ | with_reducible apply keep_ite | dsimp only | split

theorem keep_recordPartial {r s : State} {x0 : Nat} (h : Keep r s) :
    Keep r (recordPartial x0 s) := by
  unfold recordPartial
  repeat' first | with_reducible assumption | with_reducible apply keep_complete | intro _ | with_reducible apply keep_ite

theorem keep_cardStatusNext {r s : State} {x0 : Nat} (h : Keep r s) :
    Keep r (cardStatusNext x0 s) := by
  unfold cardStatusNext
  repeat' first | with_reducible assumption | with_reducible apply keep_completeTiles | with_reducible apply keep_laneSend | intro _ | with_reducible apply keep_ite | dsimp only | split

theorem keep_tileAnswer {r s : State} {x0 : Nat} {x1 : Nat} {x2 : Bytes} (h : Keep r s) :
    Keep r (tileAnswer x0 x1 x2 s) := by
  unfold tileAnswer
  repeat' first | with_reducible assumption | with_reducible apply keep_modWork

theorem keep_fixerAnswered {r s : State} {x0 : Nat} {x1 : LaneRsp} (h : Keep r s) :
    Keep r (fixerAnswered x0 x1 s) := by
  unfold fixerAnswered
  repeat' first | with_reducible assumption | with_reducible apply keep_complete | with_reducible apply keep_cardStatusNext | with_reducible apply keep_tileAnswer | with_reducible apply keep_completeTiles | intro _ | with_reducible apply keep_ite | dsimp only | split

theorem keep_exposureAnswered {r s : State} {x0 : LaneReq} {x1 : LaneRsp} (h : Keep r s) :
    Keep r (exposureAnswered x0 x1 s) := by
  unfold exposureAnswered
  repeat' first | with_reducible assumption | with_reducible apply keep_decide_ | with_reducible apply keep_endPending | with_reducible apply keep_modPend | intro _ | with_reducible apply keep_ite | dsimp only | split

theorem keep_settleDebt {r s : State} {x0 : LaneReq} {x1 : LaneRsp} (h : Keep r s) :
    Keep r (settleDebt x0 x1 s) := by
  unfold settleDebt
  repeat' first | with_reducible assumption | with_reducible apply keep_modSheet | with_reducible apply keep_emit | intro _ | with_reducible apply keep_ite | dsimp only | split

theorem keep_laneRecovered {r s : State} (h : Keep r s) :
    Keep r (laneRecovered s) := by
  unfold laneRecovered
  repeat' first | with_reducible assumption | with_reducible apply keep_emit | with_reducible apply keep_modLane | with_reducible apply keep_laneSend | with_reducible apply keep_sendSample | intro _ | with_reducible apply keep_ite | dsimp only | split

theorem keep_learnResponse {r s : State} {x0 : LaneRsp} (h : Keep r s) :
    Keep r (learnResponse x0 s) := by
  unfold learnResponse
  repeat' first | with_reducible assumption | with_reducible apply keep_modHost | with_reducible apply keep_modLane | with_reducible exact hostOk_same rfl rfl rfl

theorem keep_userAnswered {r s : State} {x0 : LaneOut} {x1 : LaneRsp} (h : Keep r s) :
    Keep r (userAnswered x0 x1 s) := by
  unfold userAnswered
  repeat' first | with_reducible assumption | with_reducible apply keep_modLane | with_reducible apply keep_fixerAnswered | with_reducible apply keep_exposureAnswered | intro _ | with_reducible apply keep_ite | dsimp only | split

theorem keep_sendAgain {r s : State} {x0 : List (LaneReq × LaneUser)} (h : Keep r s) :
    Keep r (sendAgain x0 s) := by
  unfold sendAgain
  repeat' first | with_reducible assumption | with_reducible apply keep_laneSend | with_reducible apply keep_foldl | with_reducible apply keep_foldlFst | intro _

theorem keep_cardGone {r s : State} {x0 : Bool} (h : Keep r s) :
    Keep r (cardGone x0 s) := by
  unfold cardGone
  repeat' first | with_reducible assumption | with_reducible apply keep_trigger | intro _ | with_reducible apply keep_ite | dsimp only | split

theorem keep_takeResponse {r s : State} {x0 : LaneOut} {x1 : LaneRsp} (h : Keep r s) :
    Keep r (takeResponse x0 x1 s) := by
  unfold takeResponse
  repeat' first | with_reducible assumption | with_reducible apply keep_cardGone | with_reducible apply keep_epochSample | with_reducible apply keep_laneRecovered | with_reducible apply keep_learnResponse | with_reducible apply keep_modLane | with_reducible apply keep_sendAgain | with_reducible apply keep_settleDebt | with_reducible apply keep_userAnswered | intro _ | with_reducible apply keep_ite | dsimp only | split

theorem keep_execLaneResponse {r s : State} (h : Keep r s) :
    KeepOut r (execLaneResponse s) := by
  unfold execLaneResponse
  repeat' first | with_reducible assumption | with_reducible apply keepOut_next | with_reducible apply keep_modLane | with_reducible apply keep_takeResponse | intro _ | with_reducible apply keep_ite | dsimp only | split

theorem keep_laneLost {r s : State} {x0 : LaneUser} (h : Keep r s) :
    Keep r (laneLost x0 s) := by
  unfold laneLost
  repeat' first | with_reducible assumption | with_reducible apply keep_recordPartial | with_reducible apply keep_complete | with_reducible apply keep_completeTiles | with_reducible apply keep_cardStatusNext | intro _ | with_reducible apply keep_ite | dsimp only | split

theorem keep_laneDown {r s : State} (h : Keep r s) :
    Keep r (laneDown s) := by
  unfold laneDown
  repeat' first | with_reducible assumption | with_reducible apply keep_modEave | with_reducible apply keep_modLane | with_reducible apply keep_emit | with_reducible apply keep_laneLost | with_reducible apply keep_foldl

theorem keep_execLaneRequestTimeout {r s : State} (h : Keep r s) :
    KeepOut r (execLaneRequestTimeout s) := by
  unfold execLaneRequestTimeout
  repeat' first | with_reducible assumption | with_reducible apply keepOut_next | with_reducible apply keep_atDue | with_reducible apply keep_modLane | with_reducible apply keep_laneDown | intro _ | with_reducible apply keep_ite | dsimp only | split

theorem keep_laneCommand {r s : State} {tk op : Nat} {q : Work → State → LaneReq} (h : Keep r s) :
    Keep r (laneCommand tk op q s) :=
  keep_command (fun _ _ ht => keep_ite (keep_laneSend (keep_start ht)) (keep_complete ht)) h

theorem keep_execFixerStatus {r s : State} {x0 : Fin 128} (h : Keep r s) :
    KeepOut r (execFixerStatus x0 s) := by
  unfold execFixerStatus
  repeat' first | with_reducible assumption | with_reducible apply keepOut_next | with_reducible apply keep_laneCommand

theorem keep_execFixerRecordRead {r s : State} {x0 : Fin 128} (h : Keep r s) :
    KeepOut r (execFixerRecordRead x0 s) := by
  unfold execFixerRecordRead
  repeat' first | with_reducible assumption | with_reducible apply keepOut_next | with_reducible apply keep_command | with_reducible apply keep_laneSend | with_reducible apply keep_start | with_reducible apply keep_recordPartial | intro _ | with_reducible apply keep_ite

theorem keep_execFixerSpeedRead {r s : State} {x0 : Fin 128} (h : Keep r s) :
    KeepOut r (execFixerSpeedRead x0 s) := by
  unfold execFixerSpeedRead
  repeat' first | with_reducible assumption | with_reducible apply keepOut_next | with_reducible apply keep_laneCommand

theorem keep_execFixerKeyRead {r s : State} {x0 : Fin 128} (h : Keep r s) :
    KeepOut r (execFixerKeyRead x0 s) := by
  unfold execFixerKeyRead
  repeat' first | with_reducible assumption | with_reducible apply keepOut_next | with_reducible apply keep_laneCommand

theorem keep_execFixerTimePropose {r s : State} {x0 : Fin 128} (h : Keep r s) :
    KeepOut r (execFixerTimePropose x0 s) := by
  unfold execFixerTimePropose
  repeat' first | with_reducible assumption | with_reducible apply keepOut_next | with_reducible apply keep_laneCommand

theorem keep_execFixerCardStatus {r s : State} {x0 : Fin 128} (h : Keep r s) :
    KeepOut r (execFixerCardStatus x0 s) := by
  unfold execFixerCardStatus
  repeat' first | with_reducible assumption | with_reducible apply keepOut_next | with_reducible apply keep_command | with_reducible apply keep_cardStatusNext | with_reducible apply keep_start | intro _

theorem keep_execFixerCardApdu {r s : State} {x0 : Fin 128} (h : Keep r s) :
    KeepOut r (execFixerCardApdu x0 s) := by
  unfold execFixerCardApdu
  repeat' first | with_reducible assumption | with_reducible apply keepOut_next | with_reducible apply keep_laneCommand

theorem keep_execFixerCardReset {r s : State} {x0 : Fin 128} (h : Keep r s) :
    KeepOut r (execFixerCardReset x0 s) := by
  unfold execFixerCardReset
  repeat' first | with_reducible assumption | with_reducible apply keepOut_next | with_reducible apply keep_laneCommand

theorem keep_execFixerPairStage {r s : State} {x0 : Fin 128} (h : Keep r s) :
    KeepOut r (execFixerPairStage x0 s) := by
  unfold execFixerPairStage
  repeat' first | with_reducible assumption | with_reducible apply keepOut_next | with_reducible apply keep_command | with_reducible apply keep_stageObject | intro _

theorem keep_execCardApduDeadline {r s : State} {x0 : Fin 128} (h : Keep r s) :
    KeepOut r (execCardApduDeadline x0 s) := by
  unfold execCardApduDeadline
  repeat' first | with_reducible assumption | with_reducible apply keepOut_next | with_reducible apply keep_atDue | with_reducible apply keep_modLane | with_reducible apply keep_completeTiles | intro _ | with_reducible apply keep_ite | dsimp only | split

theorem keep_sessNoBytes {r s : State} (h : Keep r s) :
    Keep r (sessNoBytes s) := by
  unfold sessNoBytes
  repeat' first | with_reducible assumption | with_reducible apply keep_rangeNext | with_reducible apply keep_calibCount | with_reducible apply keep_noVerdict | with_reducible apply keep_id | intro _ | with_reducible apply keep_ite | dsimp only | split

theorem keep_failConsumers {r s : State} (h : Keep r s) :
    Keep r (failConsumers s) := by
  unfold failConsumers
  repeat' first | with_reducible assumption | with_reducible apply keep_modGrain | with_reducible apply keep_sessNoBytes | with_reducible apply keep_accessNoBytes | with_reducible apply keep_drainRanging | intro _ | with_reducible apply keep_ite

theorem keep_giveConsumer {r s : State} {x1 : QueueReq} (h : Keep r s) :
    Keep r (giveConsumer s x1) := by
  unfold giveConsumer
  repeat' first | with_reducible assumption | with_reducible apply keep_sessDrawn | with_reducible apply keep_accessGot | intro _ | with_reducible apply keep_ite

theorem keep_serveQueue {r s : State} (h : Keep r s) :
    Keep r (serveQueue s) := by
  unfold serveQueue
  repeat' first | with_reducible assumption | with_reducible apply keep_serveHost | with_reducible apply keep_drainRanging | with_reducible apply keep_giveConsumer | with_reducible apply keep_modGrain | with_reducible apply keep_foldl

theorem keep_execGrainConsumerWaitExpire {r s : State} {x0 : Nat} (h : Keep r s) :
    KeepOut r (execGrainConsumerWaitExpire x0 s) := by
  unfold execGrainConsumerWaitExpire
  repeat' first | with_reducible assumption | with_reducible apply keepOut_next | with_reducible apply keep_drainRanging | with_reducible apply keep_sessStarved | with_reducible apply keep_accessStarved | intro _ | with_reducible apply keep_ite

theorem keep_giveWire {r s : State} {x0 : WireReq} {x1 : Bytes} (h : Keep r s) :
    Keep r (giveWire x0 x1 s) := by
  unfold giveWire
  repeat' first | with_reducible assumption | with_reducible apply keep_keyWord | with_reducible apply keep_modCtx | intro _ | with_reducible apply keep_ite | dsimp only | split

theorem keep_giveWord {r s : State} {x0 : Bytes} (h : Keep r s) :
    Keep r (giveWord x0 s) := by
  unfold giveWord
  repeat' first | with_reducible assumption | with_reducible apply keep_giveWire | with_reducible apply keep_modGrain | with_reducible apply keep_serveQueue | with_reducible apply keep_start | intro _ | with_reducible apply keep_ite | dsimp only | split

theorem keep_endReads {r s : State} {x0 : Nat} (h : Keep r s) :
    Keep r (endReads x0 s) := by
  unfold endReads
  repeat' first | with_reducible assumption | with_reducible apply keep_endRead | with_reducible apply keep_foldl | with_reducible apply keep_foldlFst | intro _

theorem keep_strobe {r s : State} {x1 : WireReq} (h : Keep r s) :
    Keep r (strobe s x1) := by
  unfold strobe
  repeat' first | with_reducible assumption | with_reducible apply keep_endJob | with_reducible apply keep_foldl | with_reducible apply keep_foldlFst | intro _ | with_reducible apply keep_ite | dsimp only | split

theorem keep_latchGrain {r s : State} {x0 : Nat} (h : Keep r s) :
    Keep r (latchGrain x0 s) := by
  unfold latchGrain
  repeat' first | with_reducible assumption | with_reducible apply keep_emit | with_reducible apply keep_modGrain | intro _ | with_reducible apply keep_ite

theorem keep_healthFailure {r s : State} {x0 : Nat} {x1 : Nat} {x2 : Nat} (h : Keep r s) :
    Keep r (healthFailure x0 x1 x2 s) := by
  unfold healthFailure
  repeat' first | with_reducible assumption | with_reducible apply keep_count | with_reducible apply keep_emit | with_reducible apply keep_endJob | with_reducible apply keep_endReads | with_reducible apply keep_failConsumers | with_reducible apply keep_latchGrain | with_reducible apply keep_modGrain | with_reducible apply keep_strobe | with_reducible apply keep_foldl | with_reducible apply keep_foldlFst | intro _ | with_reducible apply keep_ite | dsimp only | split

theorem keep_execHealthFailure {r s : State} {x0 : Nat} {x1 : Nat} {x2 : Nat} {x3 : Nat} (h : Keep r s) :
    KeepOut r (execHealthFailure x0 x1 x2 x3 s) := by
  unfold execHealthFailure
  repeat' first | with_reducible assumption | with_reducible apply keepOut_next | with_reducible apply keep_count | with_reducible apply keep_healthFailure | intro _ | with_reducible apply keep_ite | dsimp only | split

theorem keep_takeWord {r s : State} {x0 : BitVec 512} (h : Keep r s) :
    Keep r (takeWord x0 s) := by
  unfold takeWord
  repeat' first | with_reducible assumption | with_reducible apply keep_giveWord | with_reducible apply keep_healthFailure | with_reducible apply keep_modGrain | intro _ | with_reducible apply keep_ite | dsimp only | split

theorem keep_execGrainWord {r s : State} {x0 : BitVec 512} (h : Keep r s) :
    KeepOut r (execGrainWord x0 s) := by
  unfold execGrainWord
  repeat' first | with_reducible assumption | with_reducible apply keep_giveWord | with_reducible apply keep_modGrain | with_reducible apply keepOut_next | with_reducible apply keep_atDue | with_reducible apply keep_takeWord | intro _ | with_reducible apply keep_ite | dsimp only | split

theorem keep_execGrainReseed {r s : State} {x0 : BitVec 512} (h : Keep r s) :
    KeepOut r (execGrainReseed x0 s) := by
  unfold execGrainReseed
  repeat' first | with_reducible assumption | with_reducible apply keep_modGrain | with_reducible apply keepOut_next | with_reducible apply keep_atDue | with_reducible apply keep_takeWord | intro _ | with_reducible apply keep_ite | dsimp only | split

theorem keep_execStartupTestPass {r s : State} (h : Keep r s) :
    KeepOut r (execStartupTestPass s) := by
  unfold execStartupTestPass
  repeat' first | with_reducible assumption | with_reducible apply keepOut_next | with_reducible apply keep_atDue | with_reducible apply keep_emit | with_reducible apply keep_modGrain | intro _ | with_reducible apply keep_ite | dsimp only | split

theorem keep_execGrainRawRead {r s : State} {x0 : Fin 128} (h : Keep r s) :
    KeepOut r (execGrainRawRead x0 s) := by
  unfold execGrainRawRead
  repeat' first | with_reducible assumption | with_reducible apply keepOut_next | with_reducible apply keep_command | with_reducible apply keep_complete | with_reducible apply keep_failConsumers | with_reducible apply keep_modGrain | with_reducible apply keep_start | with_reducible apply keep_endReads | with_reducible apply keep_emit | intro _ | with_reducible apply keep_ite

theorem keep_execGrainRawRunEnd {r s : State} {x0 : Bytes} (h : Keep r s) :
    KeepOut r (execGrainRawRunEnd x0 s) := by
  unfold execGrainRawRunEnd
  repeat' first | with_reducible assumption | with_reducible apply keepOut_next | with_reducible apply keep_atDue | with_reducible apply keep_complete | with_reducible apply keep_count | with_reducible apply keep_emit | with_reducible apply keep_modGrain | with_reducible apply keep_start | intro _ | with_reducible apply keep_ite | dsimp only | split

theorem keep_secOn {r s : State} (h : Keep r s) :
    Keep r (secOn s) := by
  unfold secOn
  repeat' first | with_reducible assumption | with_reducible apply keep_modGrain | intro _ | with_reducible apply keep_ite | dsimp only | split

theorem keep_secOff {r s : State} {x0 : Nat} (h : Keep r s) :
    Keep r (secOff x0 s) := by
  unfold secOff
  repeat' first | with_reducible assumption | with_reducible apply keep_complete | with_reducible apply keep_endJob | with_reducible apply keep_endReads | with_reducible apply keep_failConsumers | with_reducible apply keep_modAccess | with_reducible apply keep_modGrain | with_reducible apply keep_foldl | with_reducible apply keep_foldlFst | intro _ | with_reducible apply keep_ite | dsimp only | split

theorem keep_execKeyLanding {r s : State} {x0 : Fin 64} (h : Keep r s) :
    KeepOut r (execKeyLanding x0 s) := by
  unfold execKeyLanding
  repeat' first | with_reducible assumption | with_reducible apply keepOut_next | with_reducible apply keep_accessLanded | with_reducible apply keep_finishInstall | with_reducible apply keep_landShadow | intro _ | with_reducible apply keep_ite | dsimp only | split

theorem keep_latchCipher {r s : State} {x0 : Nat} (h : Keep r s) :
    Keep r (latchCipher x0 s) := by
  unfold latchCipher
  repeat' first | with_reducible assumption | with_reducible apply keep_endJob | with_reducible apply keep_modCiph | with_reducible apply keep_emit | with_reducible apply keep_foldl | with_reducible apply keep_foldlFst | intro _ | with_reducible apply keep_ite | dsimp only | split

theorem keep_execCheckMismatch {r s : State} {x0 : Fin 8} {x1 : Nat} {x2 : Nat} (h : Keep r s) :
    KeepOut r (execCheckMismatch x0 x1 x2 s) := by
  unfold execCheckMismatch
  repeat' first | with_reducible assumption | with_reducible apply keepOut_next | with_reducible apply keep_endJob | with_reducible apply keep_modCiph | with_reducible apply keep_emit | with_reducible apply keep_latchCipher | intro _ | with_reducible apply keep_ite | dsimp only | split

theorem keep_execVlfDisable {r s : State} {x0 : VlfDrop} (h : Keep r s) :
    KeepOut r (execVlfDisable x0 s) := by
  unfold execVlfDisable
  repeat' first | with_reducible assumption | with_reducible apply keep_skipCycle | with_reducible apply keep_skipEvent | with_reducible apply keep_modAccess | with_reducible apply keepOut_next | with_reducible apply keep_skipAccess | with_reducible apply keep_vlfOff | intro _ | with_reducible apply keep_ite | dsimp only | split

theorem keep_execDutyBucketRoll {r s : State} (h : Keep r s) :
    KeepOut r (execDutyBucketRoll s) := by
  unfold execDutyBucketRoll
  repeat' first | with_reducible assumption | with_reducible apply keepOut_next | with_reducible apply keep_atDue | with_reducible apply keep_modUhf | intro _

theorem keep_logViolation {r s : State} {x0 : Nat} {x1 : GuardHit} (h : Keep r s) :
    Keep r (logViolation x0 x1 s) := by
  unfold logViolation
  repeat' first | with_reducible assumption | with_reducible apply keep_emit | with_reducible apply keep_modMem

theorem keep_dmaViolation {r s : State} (h : Keep r s) :
    Keep r (dmaViolation s) := by
  unfold dmaViolation
  repeat' first | with_reducible assumption | with_reducible apply keep_modMem | with_reducible apply keep_useFree

theorem keep_execCorrectedWord {r s : State} {x0 : Fin 24} {x1 : Nat} (h : Keep r s) :
    KeepOut r (execCorrectedWord x0 x1 s) := by
  unfold execCorrectedWord
  repeat' first | with_reducible assumption | with_reducible apply keepOut_next | with_reducible apply keep_modMem | with_reducible apply keep_emit | intro _ | with_reducible apply keep_ite

theorem keep_borrow {r s : State} (h : Keep r s) :
    Keep r (borrow s) := by
  unfold borrow
  repeat' first | with_reducible assumption | with_reducible apply keep_modMem | intro _ | with_reducible apply keep_ite | dsimp only | split

theorem keep_repairStrip {r s : State} {x0 : Nat} {x1 : Nat} (h : Keep r s) :
    Keep r (repairStrip x0 x1 s) := by
  unfold repairStrip
  repeat' first | with_reducible assumption | with_reducible apply keep_emit | with_reducible apply keep_modMem | intro _ | with_reducible apply keep_ite

theorem keep_runStep {r s : State} {x0 : Nat} {x1 : Bool} {x2 : Bool} (h : Keep r s) :
    Keep r (runStep x0 x1 x2 s) := by
  unfold runStep
  repeat' first | with_reducible assumption | with_reducible apply keep_modMem | with_reducible apply keep_complete | intro _ | with_reducible apply keep_ite | dsimp only | split

theorem keep_marchEnd {r s : State} {x0 : Bool} (h : Keep r s) :
    Keep r (marchEnd x0 s) := by
  unfold marchEnd
  repeat' first | with_reducible assumption | with_reducible apply keep_modMem | with_reducible apply keep_runStep | with_reducible apply keep_repairStrip | intro _ | with_reducible apply keep_ite | dsimp only | split

theorem keep_execTestStrip {r s : State} {x0 : Option (Bool × Bool)} (h : Keep r s) :
    KeepOut r (execTestStrip x0 s) := by
  unfold execTestStrip
  repeat' first | with_reducible assumption | with_reducible apply keepOut_next | with_reducible apply keep_borrow | with_reducible apply keep_atDue | with_reducible apply keep_marchEnd | intro _ | with_reducible apply keep_ite | dsimp only | split

theorem keep_yieldStrip {r s : State} (h : Keep r s) :
    Keep r (yieldStrip s) := by
  unfold yieldStrip
  repeat' first | with_reducible assumption | with_reducible apply keep_modMem | intro _ | with_reducible apply keep_ite | dsimp only | split

theorem keep_execStripYield {r s : State} (h : Keep r s) :
    KeepOut r (execStripYield s) := by
  unfold execStripYield
  repeat' first | with_reducible assumption | with_reducible apply keepOut_next | with_reducible apply keep_yieldStrip

theorem keep_yieldFor {r s : State} {x0 : GuardHit} (h : Keep r s) :
    Keep r (yieldFor x0 s) := by
  unfold yieldFor
  repeat' first | with_reducible assumption | with_reducible apply keep_yieldStrip | intro _ | with_reducible apply keep_ite

theorem keep_execMemStatus {r s : State} {x0 : Fin 128} (h : Keep r s) :
    KeepOut r (execMemStatus x0 s) := by
  unfold execMemStatus
  repeat' first | with_reducible assumption | with_reducible apply keepOut_next | with_reducible apply keep_command | with_reducible apply keep_complete | intro _

theorem keep_execMemGuardLogRead {r s : State} {x0 : Fin 128} (h : Keep r s) :
    KeepOut r (execMemGuardLogRead x0 s) := by
  unfold execMemGuardLogRead
  repeat' first | with_reducible assumption | with_reducible apply keepOut_next | with_reducible apply keep_command | with_reducible apply keep_complete | intro _

theorem keep_execMemStripRun {r s : State} {x0 : Fin 128} (h : Keep r s) :
    KeepOut r (execMemStripRun x0 s) := by
  unfold execMemStripRun
  repeat' first | with_reducible assumption | with_reducible apply keepOut_next | with_reducible apply keep_command | with_reducible apply keep_complete | with_reducible apply keep_modMem | with_reducible apply keep_start | intro _ | with_reducible apply keep_ite

theorem keep_execMemDmaRead {r s : State} {x0 : Fin 128} (h : Keep r s) :
    KeepOut r (execMemDmaRead x0 s) := by
  unfold execMemDmaRead
  repeat' first | with_reducible assumption | with_reducible apply keepOut_next | with_reducible apply keep_command | with_reducible apply keep_modMem | with_reducible apply keep_complete | intro _

end Sys2Proof.Machine
end

