-- ==== Sys2Proof/Laws/KeepStart.lean ====
section
/-! SUPPORT. What the operations and commands of resets, the Safelight, the storage controller, power and start-up keep: one lemma per
definition, each following the calls of its body. -/

namespace Sys2Proof.Machine

theorem keep_finishRunning {r s : State} (h : Keep r s) :
    Keep r (finishRunning s) := by
  unfold finishRunning
  repeat' first | with_reducible assumption | with_reducible apply keep_applyAct | with_reducible apply keep_modStore | with_reducible apply keep_modSafe | with_reducible exact storeKeep_newCounter | with_reducible exact storeKeep_setCounter | with_reducible exact storeKeep_rollOver | with_reducible exact StoreKeep.refl _ | with_reducible exact storeKeep_same rfl rfl rfl rfl rfl | with_reducible exact id | with_reducible exact sort_log | with_reducible exact fun _ => Nat.zero_le _ | with_reducible exact fun k => Nat.le_trans (List.length_filter_le _ _) k | intro _ | with_reducible apply keep_ite | dsimp only | split

theorem keep_drainSort {r s : State} (h : Keep r s) :
    Keep r (drainSort s) := by
  unfold drainSort
  repeat' first | with_reducible assumption | with_reducible apply keep_modVault | with_reducible apply keep_modSafe | with_reducible apply keep_foldl | with_reducible apply keep_foldlFst | exact fun _ => Nat.zero_le _ | with_reducible exact Nat.le_refl _ | with_reducible exact Nat.le_succ _ | with_reducible exact id | with_reducible exact sort_log | with_reducible exact fun _ => Nat.zero_le _ | with_reducible exact fun k => Nat.le_trans (List.length_filter_le _ _) k | intro _

theorem keep_flushRecords {r s : State} {x0 : List (Nat × Bytes)} {x1 : Nat} {x2 : Nat} (h : Keep r s) :
    Keep r (flushRecords x0 x1 x2 s).1 := by
  induction x0 generalizing s x1 x2 with
  | nil => exact h
  | cons m ms ih =>
  unfold flushRecords
  repeat' first | with_reducible assumption | with_reducible apply ih | with_reducible apply keep_applyAct | intro _ | with_reducible apply keep_ite | dsimp only | split

theorem keep_flushPages {r s : State} {x0 : Nat} {x1 : Nat} (h : Keep r s) :
    Keep r (flushPages x0 x1 s).1 := by
  induction x0 generalizing s x1 with
  | zero => exact h
  | succ m ih =>
  unfold flushPages
  repeat' first | with_reducible assumption | with_reducible apply ih | with_reducible apply keep_applyAct | intro _ | with_reducible apply keep_ite | dsimp only | split

theorem keep_flush {r s : State} {x0 : List (Nat × Bytes)} {x1 : Bool} (h : Keep r s) :
    Keep r (flush x0 x1 s) := by
  unfold flush
  repeat' first | with_reducible assumption | with_reducible apply keep_modStore | with_reducible apply keep_drainSort | with_reducible apply keep_flushRecords | with_reducible apply keep_flushPages | with_reducible apply keep_modSheet | with_reducible exact storeKeep_newCounter | with_reducible exact storeKeep_setCounter | with_reducible exact storeKeep_rollOver | with_reducible exact StoreKeep.refl _ | with_reducible exact storeKeep_same rfl rfl rfl rfl rfl | intro _ | with_reducible apply keep_ite | dsimp only | split

theorem keep_enterMode {r s : State} {x0 : Mode} {x1 : Nat} (h : Keep r s) :
    Keep r (enterMode x0 x1 s) := by
  unfold enterMode
  repeat' first | with_reducible assumption | with_reducible apply keep_emit | with_reducible apply keep_modSheet | with_reducible apply keep_modHost | with_reducible apply keep_modPower | with_reducible exact hostOk_same rfl rfl rfl

theorem keep_holdoverBy {r s : State} {x0 : Nat} (h : Keep r s) :
    Keep r (holdoverBy x0 s) := by
  unfold holdoverBy
  repeat' first | with_reducible assumption | with_reducible apply keep_endSessions | with_reducible apply keep_enterMode | with_reducible apply keep_modSheet | with_reducible apply keep_power | intro _ | with_reducible apply keep_ite | dsimp only | split

theorem keep_mdieReset {r s : State} {x0 : Nat} (h : Keep r s) :
    Keep r (mdieReset x0 s) := by
  unfold mdieReset
  replace h : Keep r (endSessions s) := keep_endSessions h
  dsimp only
  exact ⟨h.pending, fun _ => hostOk_empty rfl rfl rfl, h.store.trans (storeKeep_same rfl rfl rfl rfl rfl), h.vault,
    h.sort⟩

theorem keep_writeNow {r s : State} {x0 : Nat} {x1 : Bytes} (h : Keep r s) :
    Keep r (writeNow x0 x1 s) := by
  unfold writeNow
  repeat' first | with_reducible assumption | with_reducible apply keep_applyAct

theorem keep_setImage {r s : State} {x0 : Nat} {x1 : Image → Image} (h : Keep r s) :
    Keep r (setImage x0 x1 s) := by
  unfold setImage
  repeat' first | with_reducible assumption | with_reducible apply keep_modVault | with_reducible apply keep_modSafe | with_reducible exact Nat.le_refl _ | with_reducible exact Nat.le_succ _ | with_reducible exact id

theorem keep_imageEvent {r s : State} {x0 : Nat} (h : Keep r s) :
    Keep r (imageEvent x0 s) := by
  unfold imageEvent
  repeat' first | with_reducible assumption | with_reducible apply keep_emit

theorem keep_bootReturn {r s : State} {x0 : Nat} (h : Keep r s) :
    Keep r (bootReturn x0 s) := by
  unfold bootReturn
  repeat' first | with_reducible assumption | with_reducible apply keep_writeNow | with_reducible apply keep_modConf | with_reducible apply keep_foldl | with_reducible apply keep_foldlFst | with_reducible apply keep_id | intro _ | with_reducible apply keep_ite

theorem keep_rejectTrial {r s : State} (h : Keep r s) :
    Keep r (rejectTrial s) := by
  unfold rejectTrial
  repeat' first | with_reducible assumption | with_reducible apply keep_bootReturn | with_reducible apply keep_imageEvent | with_reducible apply keep_setImage | with_reducible apply keep_modSafe | with_reducible exact id

theorem keep_stewardFault {r s : State} {x0 : Nat} {x1 : Nat} (h : Keep r s) :
    Keep r (stewardFault x0 x1 s) := by
  unfold stewardFault
  repeat' first | with_reducible assumption | with_reducible apply keep_holdoverBy | with_reducible apply keep_emit | with_reducible apply keep_rejectTrial | with_reducible apply keep_flush | with_reducible apply keep_finishRunning | with_reducible apply keep_mdieReset | with_reducible apply keep_modSheet | intro _ | with_reducible apply keep_ite

theorem keep_sensorEvent {r s : State} {x0 : Nat} {x1 : Nat} {x2 : Nat} {x3 : Int} (h : Keep r s) :
    Keep r (sensorEvent x0 x1 x2 x3 s) := by
  unfold sensorEvent
  repeat' first | with_reducible assumption | with_reducible apply keep_emit

theorem keep_lfHotOff {r s : State} (h : Keep r s) :
    Keep r (lfHotOff s) := by
  unfold lfHotOff
  repeat' first | with_reducible assumption | with_reducible apply keep_skipCycle | with_reducible apply keep_skipEvent | with_reducible apply keep_modAccess | with_reducible apply keep_cutJob | with_reducible apply keep_cutSeq | with_reducible apply keep_modLf | with_reducible apply keep_skipAccess | intro _ | with_reducible apply keep_ite | dsimp only | split

theorem keep_paHotOff {r s : State} (h : Keep r s) :
    Keep r (paHotOff s) := by
  unfold paHotOff
  repeat' first | with_reducible assumption | with_reducible apply keep_emit | with_reducible apply keep_modUhf | with_reducible apply keep_power | with_reducible apply keep_signalEdge | with_reducible apply keep_uhfDone | intro _ | with_reducible apply keep_ite | dsimp only | split

theorem keep_fixedAction {r s : State} {x0 : Nat} {x1 : Int} {x2 : Int} (h : Keep r s) :
    Keep r (fixedAction x0 x1 x2 s) := by
  unfold fixedAction
  repeat' first | with_reducible assumption | with_reducible apply keep_modSafe | with_reducible apply keep_sensorEvent | with_reducible apply keep_lfHotOff | with_reducible apply keep_paHotOff | with_reducible exact id | with_reducible exact sort_log | with_reducible exact fun _ => Nat.zero_le _ | with_reducible exact fun k => Nat.le_trans (List.length_filter_le _ _) k | intro _ | with_reducible apply keep_ite

theorem keep_convert {r s : State} {x0 : Nat} {x1 : Int} {x2 : Nat} (h : Keep r s) :
    Keep r (convert x0 x1 x2 s) := by
  unfold convert
  repeat' first | with_reducible assumption | with_reducible apply keep_modSafe | with_reducible apply keep_sensorEvent | with_reducible apply keep_modStore | with_reducible apply keep_modBoot | with_reducible apply keep_fixedAction | with_reducible apply keep_uhfTemperature | with_reducible apply keep_lfTemperature | with_reducible exact storeKeep_newCounter | with_reducible exact storeKeep_setCounter | with_reducible exact storeKeep_rollOver | with_reducible exact StoreKeep.refl _ | with_reducible exact storeKeep_same rfl rfl rfl rfl rfl | with_reducible exact id | with_reducible exact sort_log | with_reducible exact fun _ => Nat.zero_le _ | with_reducible exact fun k => Nat.le_trans (List.length_filter_le _ _) k | intro _ | with_reducible apply keep_ite

theorem keep_execSensorConversion {r s : State} {x0 : Fin 16} {x1 : Int} {x2 : Bool} (h : Keep r s) :
    KeepOut r (execSensorConversion x0 x1 x2 s) := by
  unfold execSensorConversion
  repeat' first | with_reducible assumption | with_reducible apply keepOut_next | with_reducible apply keep_atDue | with_reducible apply keep_convert | with_reducible apply keep_count | intro _ | with_reducible apply keep_ite | dsimp only | split

theorem keep_execStowCheck {r s : State} (h : Keep r s) :
    KeepOut r (execStowCheck s) := by
  unfold execStowCheck
  repeat' first | with_reducible assumption | with_reducible apply keepOut_next | with_reducible apply keep_atDue | with_reducible apply keep_requestAll | with_reducible apply keep_modSafe | with_reducible exact id | with_reducible exact sort_log | with_reducible exact fun _ => Nat.zero_le _ | with_reducible exact fun k => Nat.le_trans (List.length_filter_le _ _) k | intro _ | with_reducible apply keep_ite

theorem keep_tamper {r s : State} (h : Keep r s) :
    Keep r (tamper s) := by
  unfold tamper
  repeat' first | with_reducible assumption | with_reducible apply keep_eraseSlot | with_reducible apply keep_modSafe | with_reducible apply keep_useFree | with_reducible apply keep_endRelease | with_reducible apply keep_foldl | with_reducible apply keep_foldlFst | with_reducible exact id | with_reducible exact sort_log | with_reducible exact fun _ => Nat.zero_le _ | with_reducible exact fun k => Nat.le_trans (List.length_filter_le _ _) k | intro _ | with_reducible apply keep_ite | dsimp only | split

theorem keep_comparator {r s : State} {x0 : Nat} (h : Keep r s) :
    Keep r (comparator x0 s) := by
  unfold comparator
  repeat' first | with_reducible assumption | with_reducible apply keep_report | with_reducible apply keep_tamper | with_reducible apply keep_emit | intro _ | with_reducible apply keep_ite | dsimp only

theorem keep_lidOpens {r s : State} (h : Keep r s) :
    Keep r (lidOpens s) := by
  unfold lidOpens
  repeat' first | with_reducible assumption | with_reducible apply keep_modSafe | with_reducible apply keep_comparator | with_reducible exact id | with_reducible exact sort_log | with_reducible exact fun _ => Nat.zero_le _ | with_reducible exact fun k => Nat.le_trans (List.length_filter_le _ _) k | intro _ | with_reducible apply keep_ite

theorem keep_meshBreaks {r s : State} (h : Keep r s) :
    Keep r (meshBreaks s) := by
  unfold meshBreaks
  repeat' first | with_reducible assumption | with_reducible apply keep_comparator | with_reducible apply keep_modStore | with_reducible apply keep_modSafe | exact ⟨id, id, fun _ => rfl, fun _ => rfl, Nat.le_refl _⟩ | with_reducible exact storeKeep_newCounter | with_reducible exact storeKeep_setCounter | with_reducible exact storeKeep_rollOver | with_reducible exact StoreKeep.refl _ | with_reducible exact storeKeep_same rfl rfl rfl rfl rfl | with_reducible exact id

theorem keep_execLidMesh {r s : State} {x0 : Nat} (h : Keep r s) :
    KeepOut r (execLidMesh x0 s) := by
  unfold execLidMesh
  repeat' first | with_reducible assumption | with_reducible apply keep_report | with_reducible apply keepOut_next | with_reducible apply keep_requestAll | with_reducible apply keep_lidOpens | with_reducible apply keep_emit | with_reducible apply keep_modSafe | with_reducible apply keep_meshBreaks | with_reducible exact id | with_reducible exact sort_log | with_reducible exact fun _ => Nat.zero_le _ | with_reducible exact fun k => Nat.le_trans (List.length_filter_le _ _) k | intro _ | with_reducible apply keep_ite | dsimp only | split

theorem keep_reportLoss {r s : State} (h : Keep r s) :
    Keep r (reportLoss s) := by
  unfold reportLoss
  repeat' first | with_reducible assumption | with_reducible apply keep_emit | with_reducible apply keep_modSafe | with_reducible exact id | with_reducible exact sort_log | with_reducible exact fun _ => Nat.zero_le _ | with_reducible exact fun k => Nat.le_trans (List.length_filter_le _ _) k | intro _ | with_reducible apply keep_ite

theorem keep_moveLog {r s : State} {x0 : EvRec} (h : Keep r s) :
    Keep r (moveLog x0 s) := by
  unfold moveLog
  repeat' first | with_reducible assumption | with_reducible apply keep_modSafe | with_reducible apply keep_reportLoss | with_reducible apply keep_appendRecord | with_reducible apply keep_foldl | with_reducible apply keep_foldlFst | with_reducible exact id | with_reducible exact sort_log | with_reducible exact fun _ => Nat.zero_le _ | with_reducible exact fun k => Nat.le_trans (List.length_filter_le _ _) k | intro _

theorem keep_moveLate {r s : State} {x0 : Nat × EvRec} (h : Keep r s) :
    Keep r (moveLate x0 s) := by
  unfold moveLate
  repeat' first | with_reducible assumption | with_reducible apply keep_reportLoss | with_reducible apply keep_appendRecord | with_reducible apply keep_modSafe | with_reducible exact id | with_reducible exact sort_log | with_reducible exact fun _ => Nat.zero_le _ | with_reducible exact fun k => Nat.le_trans (List.length_filter_le _ _) k

theorem keep_execLogSortExpire {r s : State} (h : Keep r s) :
    KeepOut r (execLogSortExpire s) := by
  unfold execLogSortExpire
  repeat' first | with_reducible assumption | with_reducible apply keepOut_next | with_reducible apply keep_moveLate | with_reducible apply keep_atDue | with_reducible apply keep_moveLog | intro _ | with_reducible apply keep_ite | dsimp only | split

theorem keep_safeRestart {r s : State} {x0 : Nat} {x1 : Nat} (h : Keep r s) :
    Keep r (safeRestart x0 x1 s) := by
  unfold safeRestart
  repeat' first | with_reducible assumption | with_reducible apply keep_modSafe | with_reducible apply keep_emit | with_reducible apply keep_reportLoss | with_reducible exact id

theorem keep_execSafelightRestart {r s : State} {x0 : Nat} {x1 : Nat} (h : Keep r s) :
    KeepOut r (execSafelightRestart x0 x1 s) := by
  unfold execSafelightRestart
  repeat' first | with_reducible assumption | with_reducible apply keepOut_next | with_reducible apply keep_safeRestart | intro _ | with_reducible apply keep_ite

theorem keep_guardOutcome {r s : State} {x0 : GuardHit} (h : Keep r s) :
    Keep r (guardOutcome x0 s) := by
  unfold guardOutcome
  repeat' first | with_reducible assumption | with_reducible apply keep_drainRanging | with_reducible apply keep_noVerdict | with_reducible apply keep_skipCycle | with_reducible apply keep_endJob | with_reducible apply keep_count | with_reducible apply keep_dropHead | with_reducible apply keep_stewardFault | with_reducible apply keep_safeRestart | with_reducible apply keep_modStore | with_reducible apply keep_complete | with_reducible apply keep_modSlot | with_reducible apply keep_endPending | with_reducible apply keep_dmaViolation | with_reducible exact storeKeep_newCounter | with_reducible exact storeKeep_setCounter | with_reducible exact storeKeep_rollOver | with_reducible exact StoreKeep.refl _ | with_reducible exact storeKeep_same rfl rfl rfl rfl rfl | intro _ | with_reducible apply keep_ite | dsimp only | split

theorem keep_execGuardViolation {r s : State} {x0 : GuardHit} (h : Keep r s) :
    KeepOut r (execGuardViolation x0 s) := by
  unfold execGuardViolation
  repeat' first | with_reducible assumption | with_reducible apply keepOut_next | with_reducible apply keep_yieldFor | with_reducible apply keep_guardOutcome | with_reducible apply keep_logViolation | intro _ | with_reducible apply keep_ite | dsimp only | split

theorem keep_confirmTrial {r s : State} (h : Keep r s) :
    Keep r (confirmTrial s) := by
  unfold confirmTrial
  repeat' first | with_reducible assumption | with_reducible apply keep_imageEvent | with_reducible apply keep_setImage | with_reducible apply keep_modSafe | with_reducible apply keep_bumpCounter | with_reducible apply keep_foldl | with_reducible apply keep_foldlFst | with_reducible exact id | with_reducible exact sort_log | with_reducible exact fun _ => Nat.zero_le _ | with_reducible exact fun k => Nat.le_trans (List.length_filter_le _ _) k | intro _

theorem keep_failTrial {r s : State} (h : Keep r s) :
    Keep r (failTrial s) := by
  unfold failTrial
  repeat' first | with_reducible assumption | with_reducible apply keep_mdieReset | with_reducible apply keep_finishRunning | with_reducible apply keep_rejectTrial

theorem keep_execTrialWindowExpire {r s : State} (h : Keep r s) :
    KeepOut r (execTrialWindowExpire s) := by
  unfold execTrialWindowExpire
  repeat' first | with_reducible assumption | with_reducible apply keepOut_next | with_reducible apply keep_atDue | with_reducible apply keep_confirmTrial | with_reducible apply keep_failTrial | intro _ | with_reducible apply keep_ite | dsimp only | split

theorem keep_execHeartbeatTimeout {r s : State} (h : Keep r s) :
    KeepOut r (execHeartbeatTimeout s) := by
  unfold execHeartbeatTimeout
  repeat' first | with_reducible assumption | with_reducible apply keepOut_next | with_reducible apply keep_atDue | with_reducible apply keep_failTrial | intro _ | with_reducible apply keep_ite | dsimp only | split

theorem keep_execUpdateBegin {r s : State} {x0 : Fin 128} (h : Keep r s) :
    KeepOut r (execUpdateBegin x0 s) := by
  unfold execUpdateBegin
  repeat' first | with_reducible assumption | with_reducible apply keepOut_next | with_reducible apply keep_command | with_reducible apply keep_complete | with_reducible apply keep_enqueue | with_reducible apply keep_start | intro _ | with_reducible apply keep_ite

theorem keep_execUpdateWrite {r s : State} {x0 : Fin 128} (h : Keep r s) :
    KeepOut r (execUpdateWrite x0 s) := by
  unfold execUpdateWrite
  repeat' first | with_reducible assumption | with_reducible apply keepOut_next | with_reducible apply keep_command | with_reducible apply keep_complete | with_reducible apply keep_setImage | with_reducible apply keep_modSafe | with_reducible apply keep_enqueue | with_reducible exact id | with_reducible exact sort_log | with_reducible exact fun _ => Nat.zero_le _ | with_reducible exact fun k => Nat.le_trans (List.length_filter_le _ _) k | intro _ | with_reducible apply keep_ite

theorem keep_imageInvalid {r s : State} {x0 : Nat} {x1 : Nat} {x2 : Nat} (h : Keep r s) :
    Keep r (imageInvalid x0 x1 x2 s) := by
  unfold imageInvalid
  repeat' first | with_reducible assumption | with_reducible apply keep_complete | with_reducible apply keep_imageEvent | with_reducible apply keep_setImage

theorem keep_execUpdateVerify {r s : State} {x0 : Fin 128} (h : Keep r s) :
    KeepOut r (execUpdateVerify x0 s) := by
  unfold execUpdateVerify
  repeat' first | with_reducible assumption | with_reducible apply keepOut_next | with_reducible apply keep_command | with_reducible apply keep_complete | with_reducible apply keep_imageEvent | with_reducible apply keep_imageInvalid | with_reducible apply keep_setImage | intro _ | with_reducible apply keep_ite | dsimp only | split

theorem keep_execUpdateStatus {r s : State} {x0 : Fin 128} (h : Keep r s) :
    KeepOut r (execUpdateStatus x0 s) := by
  unfold execUpdateStatus
  repeat' first | with_reducible assumption | with_reducible apply keepOut_next | with_reducible apply keep_command | with_reducible apply keep_complete | intro _

theorem keep_execUpdateConfirm {r s : State} {x0 : Fin 128} (h : Keep r s) :
    KeepOut r (execUpdateConfirm x0 s) := by
  unfold execUpdateConfirm
  repeat' first | with_reducible assumption | with_reducible apply keepOut_next | with_reducible apply keep_command | with_reducible apply keep_complete | with_reducible apply keep_confirmTrial | intro _ | with_reducible apply keep_ite

theorem keep_execSafeStatus {r s : State} {x0 : Fin 128} (h : Keep r s) :
    KeepOut r (execSafeStatus x0 s) := by
  unfold execSafeStatus
  repeat' first | with_reducible assumption | with_reducible apply keepOut_next | with_reducible apply keep_command | with_reducible apply keep_complete | intro _

theorem keep_execSafeSensorRead {r s : State} {x0 : Fin 128} (h : Keep r s) :
    KeepOut r (execSafeSensorRead x0 s) := by
  unfold execSafeSensorRead
  repeat' first | with_reducible assumption | with_reducible apply keepOut_next | with_reducible apply keep_fanOut | intro _

theorem keep_execSafeLogRead {r s : State} {x0 : Fin 128} (h : Keep r s) :
    KeepOut r (execSafeLogRead x0 s) := by
  unfold execSafeLogRead
  repeat' first | with_reducible assumption | with_reducible apply keepOut_next | with_reducible apply keep_command | with_reducible apply keep_complete | intro _ | with_reducible apply keep_ite

theorem storeKeep_startCompaction {t : Store} {i : Nat} : StoreKeep t (t.startCompaction i) := by
  refine storeKeep_same ?_ ?_ ?_ ?_ ?_ <;> unfold Store.startCompaction <;> dsimp only <;> repeat' first | rfl | split

theorem keep_refreshSector {r s : State} {x0 : Nat} {x1 : Nat} (h : Keep r s) :
    Keep r (refreshSector x0 x1 s) := by
  unfold refreshSector
  repeat' first | with_reducible assumption | with_reducible apply keep_emit | with_reducible apply keep_modStore | with_reducible apply keep_enqueue | with_reducible exact storeKeep_startCompaction | with_reducible exact storeKeep_newCounter | with_reducible exact storeKeep_setCounter | with_reducible exact storeKeep_rollOver | with_reducible exact StoreKeep.refl _ | with_reducible exact storeKeep_same rfl rfl rfl rfl rfl | intro _ | with_reducible apply keep_ite | dsimp only | split

theorem storeKeep_modSlotAt {t : Store} {i j : Nat} {f : Slot → Slot} : StoreKeep t (t.modSlotAt i j f) := by
  refine storeKeep_same ?_ ?_ ?_ ?_ ?_ <;> unfold Store.modSlotAt <;> dsimp only <;> repeat' first | rfl | split

theorem keep_paramScan {r s : State} {x0 : List (Nat × Nat)} {x1 : List (Nat × Nat)} (h : Keep r s) :
    Keep r (paramScan x0 x1 s) := by
  unfold paramScan
  repeat' first | with_reducible assumption | with_reducible apply keep_modStore | with_reducible apply keep_refreshSector | with_reducible apply keep_foldl | with_reducible apply keep_foldlFst | with_reducible exact storeKeep_modSlotAt | with_reducible exact storeKeep_newCounter | with_reducible exact storeKeep_setCounter | with_reducible exact storeKeep_rollOver | with_reducible exact StoreKeep.refl _ | with_reducible exact storeKeep_same rfl rfl rfl rfl rfl | intro _

theorem keep_execParameterScan {r s : State} {x0 : List (Nat × Nat)} {x1 : List (Nat × Nat)} (h : Keep r s) :
    KeepOut r (execParameterScan x0 x1 s) := by
  unfold execParameterScan
  repeat' first | with_reducible assumption | with_reducible apply keepOut_next | with_reducible apply keep_paramScan | with_reducible apply keep_atDue | intro _ | with_reducible apply keep_ite

theorem keep_refreshBlock {r s : State} {x0 : Nat} {x1 : Nat} {x2 : Nat} {x3 : Nat} (h : Keep r s) :
    Keep r (refreshBlock x0 x1 x2 x3 s) := by
  unfold refreshBlock
  repeat' first | with_reducible assumption | with_reducible apply keep_enqueue | with_reducible apply keep_emit | intro _ | with_reducible apply keep_ite

theorem keep_scanHit {r s : State} {x0 : ScanHit} (h : Keep r s) :
    Keep r (scanHit x0 s) := by
  unfold scanHit
  repeat' first | with_reducible assumption | with_reducible apply keep_emit | with_reducible apply keep_modVault | with_reducible apply keep_refreshBlock | with_reducible exact Nat.le_succ _ | with_reducible exact Nat.le_refl _ | intro _ | with_reducible apply keep_ite | dsimp only | split

theorem keep_vaultScan {r s : State} {x0 : List ScanHit} (h : Keep r s) :
    Keep r (vaultScan x0 s) := by
  unfold vaultScan
  repeat' first | with_reducible assumption | with_reducible apply keep_scanHit | with_reducible apply keep_modVault | with_reducible apply keep_refreshBlock | with_reducible apply keep_foldl | with_reducible apply keep_foldlFst | with_reducible exact Nat.le_refl _ | with_reducible exact Nat.le_succ _ | intro _

theorem keep_execVaultScan {r s : State} {x0 : List ScanHit} (h : Keep r s) :
    KeepOut r (execVaultScan x0 s) := by
  unfold execVaultScan
  repeat' first | with_reducible assumption | with_reducible apply keepOut_next | with_reducible apply keep_vaultScan | with_reducible apply keep_atDue | intro _ | with_reducible apply keep_ite

theorem keep_flushAged {r s : State} {x0 : Nat} {x1 : Nat} (h : Keep r s) :
    Keep r (flushAged x0 x1 s) := by
  unfold flushAged
  repeat' first | with_reducible assumption | with_reducible apply keep_atDue | with_reducible apply keep_flushPart | intro _ | with_reducible apply keep_ite

theorem keep_execLogFlush {r s : State} (h : Keep r s) :
    KeepOut r (execLogFlush s) := by
  unfold execLogFlush
  repeat' first | with_reducible assumption | with_reducible apply keepOut_next | with_reducible apply keep_flushAged

theorem keep_execCaptureFlush {r s : State} (h : Keep r s) :
    KeepOut r (execCaptureFlush s) := by
  unfold execCaptureFlush
  repeat' first | with_reducible assumption | with_reducible apply keepOut_next | with_reducible apply keep_flushAged

theorem keep_execHostFlush {r s : State} (h : Keep r s) :
    KeepOut r (execHostFlush s) := by
  unfold execHostFlush
  repeat' first | with_reducible assumption | with_reducible apply keepOut_next | with_reducible apply keep_flushAged

theorem keep_execWearCreditGain {r s : State} {x0 : Fin 6} (h : Keep r s) :
    KeepOut r (execWearCreditGain x0 s) := by
  unfold execWearCreditGain
  repeat' first | with_reducible assumption | with_reducible apply keepOut_next | with_reducible apply keep_atDue | with_reducible apply keep_flushPart | intro _ | with_reducible apply keep_ite

theorem keep_execSupplyCheckRelease {r s : State} {x0 : Nat} (h : Keep r s) :
    KeepOut r (execSupplyCheckRelease x0 s) := by
  unfold execSupplyCheckRelease
  repeat' first | with_reducible assumption | with_reducible apply keepOut_next | with_reducible apply keep_pump | with_reducible apply keep_modStore | with_reducible exact storeKeep_newCounter | with_reducible exact storeKeep_setCounter | with_reducible exact storeKeep_rollOver | with_reducible exact StoreKeep.refl _ | with_reducible exact storeKeep_same rfl rfl rfl rfl rfl | intro _ | with_reducible apply keep_ite

theorem keep_execBlockRetired {r s : State} {x0 : Nat} (h : Keep r s) :
    KeepOut r (execBlockRetired x0 s) := by
  unfold execBlockRetired
  repeat' first | with_reducible assumption | exact Vault.retire_writeSeq _ _ _ _  | with_reducible apply keepOut_next | with_reducible apply keep_emit | with_reducible apply keep_modVault | with_reducible exact Nat.le_succ _ | with_reducible exact Nat.le_refl _ | intro _ | with_reducible apply keep_ite | dsimp only | split

theorem keep_interrupted {r s : State} {x0 : Nat} {x1 : Nat} {x2 : Nat} (h : Keep r s) :
    Keep r (interrupted x0 x1 x2 s) := by
  unfold interrupted
  repeat' first | with_reducible assumption | with_reducible apply keep_emit

theorem keep_tornEvent {r s : State} {x0 : Nat} {x1 : Nat} (h : Keep r s) :
    Keep r (tornEvent x0 x1 s) := by
  unfold tornEvent
  repeat' first | with_reducible assumption | with_reducible apply keep_emit

theorem storeKeep_appendDead {t : Store} {b : Bool} : StoreKeep t (t.appendDead b) := by
  refine storeKeep_same ?_ ?_ ?_ ?_ ?_ <;> unfold Store.appendDead <;> dsimp only <;> repeat' first | rfl | split

theorem keep_recoverCut {r s : State} (h : Keep r s) :
    Keep r (recoverCut s) := by
  unfold recoverCut
  repeat' first | with_reducible assumption | exact Vault.refresh_writeSeq _ _ _ _ | exact Vault.undo_writeSeq _ _ | exact Vault.clear_writeSeq _ _ | exact Nat.le_of_eq (Vault.openPage_writeSeq _ _).symm | with_reducible exact storeKeep_appendDead | with_reducible exact storeKeep_bump | with_reducible exact storeKeep_eraseLog | with_reducible exact storeKeep_swapRing | with_reducible exact storeKeep_putCharter | with_reducible exact storeKeep_lock (fun _ => rfl) id rfl rfl rfl | with_reducible apply keep_applyAct | with_reducible apply keep_interrupted | with_reducible apply keep_modStore | with_reducible apply keep_modVault | with_reducible apply keep_tornEvent | with_reducible apply keep_useFree | with_reducible exact storeKeep_newCounter | with_reducible exact StoreKeep.refl _ | with_reducible exact storeKeep_setCounter | with_reducible exact storeKeep_same rfl rfl rfl rfl rfl | with_reducible exact storeKeep_rollOver | with_reducible exact Nat.le_succ _ | with_reducible exact Nat.le_refl _ | intro _ | with_reducible apply keep_ite | dsimp only | split

theorem storeKeep_foldl {α : Type} {f : Store → α → Store} (hf : ∀ t x, StoreKeep t (f t x)) : ∀ (l : List α) (t : Store),
    StoreKeep t (l.foldl f t)
  | [], _ => StoreKeep.refl _
  | x :: xs, t => (hf t x).trans (storeKeep_foldl hf xs _)

theorem storeKeep_copies {t u : Store} {l : List Rec} {n j : Nat} (h : StoreKeep t u) :
    StoreKeep t ((l.foldl (fun v r => v.appendLog { r with copy := true }) u).eraseLog n j) :=
  (h.trans (storeKeep_foldl (fun _ _ => storeKeep_appendLog) l u)).trans storeKeep_eraseLog

theorem keep_recoverCompaction {r s : State} (h : Keep r s) : Keep r (recoverCompaction s) := by
  unfold recoverCompaction
  split
  · dsimp only
    split
    · refine keep_interrupted (keep_modStore ?_ h)
      with_reducible refine storeKeep_copies ?_
      with_reducible exact storeKeep_same rfl rfl rfl rfl rfl
    · exact h
  · exact h

theorem keep_recoverCounterErase {r s : State} (h : Keep r s) :
    Keep r (recoverCounterErase s) := by
  unfold recoverCounterErase
  repeat' first | with_reducible assumption | with_reducible apply keep_interrupted | with_reducible apply keep_applyAct | intro _ | with_reducible apply keep_ite | dsimp only | split

theorem keep_recoverCounters {r s : State} (h : Keep r s) :
    Keep r (recoverCounters s) := by
  unfold recoverCounters
  repeat' first | with_reducible assumption | with_reducible apply keep_interrupted | with_reducible apply keep_applyAct | with_reducible apply keep_modStore | with_reducible apply keep_foldl | with_reducible apply keep_foldlFst | with_reducible exact storeKeep_newCounter | with_reducible exact storeKeep_setCounter | with_reducible exact storeKeep_rollOver | with_reducible exact StoreKeep.refl _ | with_reducible exact storeKeep_same rfl rfl rfl rfl rfl | intro _ | with_reducible apply keep_ite

theorem keep_recoverSets {r s : State} (h : Keep r s) :
    Keep r (recoverSets s) := by
  unfold recoverSets
  repeat' first | with_reducible assumption | with_reducible apply keep_modStore | with_reducible apply keep_interrupted | with_reducible apply keep_foldl | with_reducible apply keep_foldlFst | with_reducible exact storeKeep_newCounter | with_reducible exact storeKeep_setCounter | with_reducible exact storeKeep_rollOver | with_reducible exact StoreKeep.refl _ | with_reducible exact storeKeep_same rfl rfl rfl rfl rfl | intro _

theorem storeKeep_locks {t : Store} : StoreKeep t { t with lockA := t.lockA || t.lockB, lockB := t.lockA || t.lockB } :=
  ⟨fun h => by simp [h], fun h => by simp [h], fun _ => rfl, id, Nat.le_refl _⟩

theorem keep_recoverCharter {r s : State} (h : Keep r s) :
    Keep r (recoverCharter s) := by
  unfold recoverCharter
  repeat' first | with_reducible assumption | with_reducible apply keep_interrupted | with_reducible apply keep_modStore | with_reducible exact storeKeep_putCharter | with_reducible exact storeKeep_locks | with_reducible exact storeKeep_newCounter | with_reducible exact storeKeep_setCounter | with_reducible exact storeKeep_rollOver | with_reducible exact StoreKeep.refl _ | with_reducible exact storeKeep_same rfl rfl rfl rfl rfl | intro _ | with_reducible apply keep_ite | dsimp only | split

theorem keep_recoverConflicts {r s : State} (h : Keep r s) :
    Keep r (recoverConflicts s) := by
  unfold recoverConflicts
  repeat' first | with_reducible assumption | with_reducible apply keep_emit | with_reducible apply keep_applyAct | with_reducible apply keep_foldl | with_reducible apply keep_foldlFst | intro _

theorem keep_recoverStore {r s : State} (h : Keep r s) :
    Keep r (recoverStore s) := by
  unfold recoverStore
  repeat' first | with_reducible assumption | with_reducible apply keep_recoverCharter | with_reducible apply keep_recoverSets | with_reducible apply keep_recoverCounters | with_reducible apply keep_recoverCounterErase | with_reducible apply keep_recoverCompaction | with_reducible apply keep_recoverConflicts | with_reducible apply keep_recoverCut | with_reducible apply keep_modStore | with_reducible exact storeKeep_newCounter | with_reducible exact storeKeep_setCounter | with_reducible exact storeKeep_rollOver | with_reducible exact StoreKeep.refl _ | with_reducible exact storeKeep_same rfl rfl rfl rfl rfl

theorem keep_granted_ {r s : State} {x0 : Nat} (h : Keep r s) :
    Keep r (granted_ x0 s) := by
  unfold granted_
  repeat' first | with_reducible assumption | with_reducible apply keep_modAccess | with_reducible apply keep_nonceGranted | with_reducible apply keep_modSw | with_reducible apply keep_t1Reached | intro _ | with_reducible apply keep_ite

theorem keep_charterWritten {r s : State} (h : Keep r s) :
    Keep r (charterWritten s) := by
  unfold charterWritten
  repeat' first | with_reducible assumption | with_reducible apply keep_loadCharter | with_reducible apply keep_modStore | with_reducible apply keep_putTombstone | with_reducible apply keep_complete | with_reducible apply keep_emit | with_reducible apply keep_foldl | with_reducible apply keep_foldlFst | with_reducible exact storeKeep_newCounter | with_reducible exact storeKeep_setCounter | with_reducible exact storeKeep_rollOver | with_reducible exact StoreKeep.refl _ | with_reducible exact storeKeep_same rfl rfl rfl rfl rfl | intro _ | with_reducible apply keep_ite | dsimp only | split

theorem keep_hostAppended {r s : State} (h : Keep r s) :
    Keep r (hostAppended s) := by
  unfold hostAppended
  repeat' first | with_reducible assumption | with_reducible apply keep_complete | with_reducible apply keep_modVault | with_reducible apply keep_foldl | with_reducible apply keep_foldlFst | with_reducible exact Nat.le_refl _ | with_reducible exact Nat.le_succ _ | intro _ | with_reducible apply keep_ite | dsimp only | split

theorem keep_updateReset {r s : State} (h : Keep r s) :
    Keep r (updateReset s) := by
  unfold updateReset
  repeat' first | with_reducible assumption | with_reducible apply keep_mdieReset | intro _ | with_reducible apply keep_ite

theorem keep_pageDone {r s : State} {x0 : Nat} (h : Keep r s) :
    Keep r (pageDone x0 s) := by
  unfold pageDone
  repeat' first | with_reducible assumption | with_reducible apply keep_hostAppended | with_reducible apply keep_flushPart | intro _ | with_reducible apply keep_ite

theorem keep_afterOp {r s : State} {x0 : StoreOp} (h : Keep r s) :
    Keep r (afterOp x0 s) := by
  unfold afterOp
  repeat' first | with_reducible assumption | with_reducible apply keep_pageDone | with_reducible apply keep_slotStored | with_reducible apply keep_keyErased | with_reducible apply keep_granted_ | with_reducible apply keep_pendingWritten | with_reducible apply keep_updateReset | with_reducible apply keep_exposeCommitted | with_reducible apply keep_charterWritten | with_reducible apply keep_complete | with_reducible apply keep_emit | with_reducible apply keep_modSafe | with_reducible exact id | with_reducible exact sort_log | with_reducible exact fun _ => Nat.zero_le _ | with_reducible exact fun k => Nat.le_trans (List.length_filter_le _ _) k | intro _ | with_reducible apply keep_ite | dsimp only | split

theorem keep_execStoreOperationDone {r s : State} (h : Keep r s) :
    KeepOut r (execStoreOperationDone s) := by
  unfold execStoreOperationDone
  repeat' first | with_reducible assumption | with_reducible apply keepOut_next | with_reducible apply keep_pump | with_reducible apply keep_afterOp | with_reducible apply keep_applyAct | with_reducible apply keep_modStore | with_reducible exact storeKeep_newCounter | with_reducible exact storeKeep_setCounter | with_reducible exact storeKeep_rollOver | with_reducible exact StoreKeep.refl _ | with_reducible exact storeKeep_same rfl rfl rfl rfl rfl | intro _ | with_reducible apply keep_ite | dsimp only | split

theorem keep_execStoreStatus {r s : State} {x0 : Fin 128} (h : Keep r s) :
    KeepOut r (execStoreStatus x0 s) := by
  unfold execStoreStatus
  repeat' first | with_reducible assumption | with_reducible apply keepOut_next | with_reducible apply keep_command | with_reducible apply keep_complete | intro _

theorem keep_readRing {r s : State} {x0 : Nat} {x1 : Nat} {x2 : Work} (h : Keep r s) :
    Keep r (readRing x0 x1 x2 s) := by
  unfold readRing
  repeat' first | with_reducible assumption | with_reducible apply keep_complete | intro _ | with_reducible apply keep_ite

theorem keep_execStoreCaptureRead {r s : State} {x0 : Fin 128} (h : Keep r s) :
    KeepOut r (execStoreCaptureRead x0 s) := by
  unfold execStoreCaptureRead
  repeat' first | with_reducible assumption | with_reducible apply keepOut_next | with_reducible apply keep_command | with_reducible apply keep_readRing | intro _

theorem keep_execStoreHostRead {r s : State} {x0 : Fin 128} (h : Keep r s) :
    KeepOut r (execStoreHostRead x0 s) := by
  unfold execStoreHostRead
  repeat' first | with_reducible assumption | with_reducible apply keepOut_next | with_reducible apply keep_command | with_reducible apply keep_readRing | intro _

theorem keep_execStoreHostAppend {r s : State} {x0 : Fin 128} (h : Keep r s) :
    KeepOut r (execStoreHostAppend x0 s) := by
  unfold execStoreHostAppend
  repeat' first | with_reducible assumption | with_reducible apply keepOut_next | with_reducible apply keep_command | with_reducible apply keep_modTicket | with_reducible apply keep_start | with_reducible apply keep_appendRecord | with_reducible apply keep_modVault | with_reducible apply keep_flushPart | with_reducible exact Nat.le_refl _ | with_reducible exact Nat.le_succ _ | intro _ | with_reducible apply keep_ite

theorem keep_execStoreHostClear {r s : State} {x0 : Fin 128} (h : Keep r s) :
    KeepOut r (execStoreHostClear x0 s) := by
  unfold execStoreHostClear
  repeat' first | with_reducible assumption | with_reducible apply keepOut_next | with_reducible apply keep_command | with_reducible apply keep_enqueue | with_reducible apply keep_modTicket | with_reducible apply keep_start | intro _

theorem keep_beginCharter {r s : State} {x0 : Nat} {x1 : Bytes} (h : Keep r s) :
    Keep r (beginCharter x0 x1 s) := by
  unfold beginCharter
  repeat' first | with_reducible assumption | with_reducible apply keep_enqueue | with_reducible apply keep_modStore | with_reducible apply keep_modTicket | with_reducible apply keep_start | with_reducible exact storeKeep_newCounter | with_reducible exact storeKeep_setCounter | with_reducible exact storeKeep_rollOver | with_reducible exact StoreKeep.refl _ | with_reducible exact storeKeep_same rfl rfl rfl rfl rfl

theorem keep_execStoreCharterWrite {r s : State} {x0 : Fin 128} (h : Keep r s) :
    KeepOut r (execStoreCharterWrite x0 s) := by
  unfold execStoreCharterWrite
  repeat' first | with_reducible assumption | with_reducible apply keepOut_next | with_reducible apply keep_command | with_reducible apply keep_complete | with_reducible apply keep_modStore | with_reducible apply keep_beginCharter | with_reducible exact storeKeep_newCounter | with_reducible exact storeKeep_setCounter | with_reducible exact storeKeep_rollOver | with_reducible exact StoreKeep.refl _ | with_reducible exact storeKeep_same rfl rfl rfl rfl rfl | intro _ | with_reducible apply keep_ite

theorem keep_execStoreCharterLock {r s : State} {x0 : Fin 128} (h : Keep r s) :
    KeepOut r (execStoreCharterLock x0 s) := by
  unfold execStoreCharterLock
  repeat' first | with_reducible assumption | with_reducible apply keepOut_next | with_reducible apply keep_command | with_reducible apply keep_complete | with_reducible apply keep_enqueue | with_reducible apply keep_start | intro _ | with_reducible apply keep_ite

theorem keep_onHook {r s : State} {x0 : Nat} (h : Keep r s) :
    Keep r (onHook x0 s) := by
  unfold onHook
  repeat' first | with_reducible assumption | with_reducible apply keep_secOn | with_reducible apply keep_uhfOn | with_reducible apply keep_rangeOn | with_reducible apply keep_netOn | with_reducible apply keep_pump | with_reducible apply keep_recoverStore | intro _ | with_reducible apply keep_ite | dsimp only | split

theorem keep_offHook {r s : State} {x0 : Nat} {x1 : Nat} (h : Keep r s) :
    Keep r (offHook x0 x1 s) := by
  unfold offHook
  repeat' first | with_reducible assumption | with_reducible apply keep_secOff | with_reducible apply keep_uhfOff | with_reducible apply keep_drainRanging | with_reducible apply keep_rangeOff | with_reducible apply keep_lfOff | with_reducible apply keep_netOff | intro _ | with_reducible apply keep_ite | dsimp only | split

theorem keep_domainOff {r s : State} {x0 : Nat} {x1 : Nat} (h : Keep r s) :
    Keep r (domainOff x0 x1 s) := by
  unfold domainOff
  repeat' first | with_reducible assumption | with_reducible apply keep_modPower | with_reducible apply keep_offHook | intro _ | with_reducible apply keep_ite

theorem keep_execDomainReady {r s : State} {x0 : Fin 10} (h : Keep r s) :
    KeepOut r (execDomainReady x0 s) := by
  unfold execDomainReady
  repeat' first | with_reducible assumption | with_reducible apply keepOut_next | with_reducible apply keep_modPower | with_reducible apply keep_onHook | with_reducible apply keep_power | intro _ | with_reducible apply keep_ite | dsimp only | split

theorem keep_domainFault {r s : State} {x0 : Nat} {x1 : Bool} {x2 : Nat} (h : Keep r s) :
    Keep r (domainFault x0 x1 x2 s) := by
  unfold domainFault
  repeat' first | with_reducible assumption | with_reducible apply keep_emit | with_reducible apply keep_modPower | with_reducible apply keep_report | intro _ | with_reducible apply keep_ite | dsimp only | split

theorem keep_failTicket {r s : State} {x0 : Nat} {x1 : Bool} {x2 : Nat} (h : Keep r s) :
    Keep r (failTicket x0 x1 x2 s) := by
  unfold failTicket
  repeat' first | with_reducible assumption | with_reducible apply keep_domainFault | with_reducible apply keep_refuseWaiting | intro _ | with_reducible apply keep_ite | dsimp only | split

theorem keep_noteFault {r s : State} {x0 : Nat} {x1 : Bool} {x2 : List Nat} (h : Keep r s) :
    Keep r (noteFault x0 x1 x2 s) := by
  unfold noteFault
  repeat' first | with_reducible assumption | with_reducible apply keep_domainFault | with_reducible apply keep_failTicket | with_reducible apply keep_foldl | with_reducible apply keep_foldlFst | intro _ | with_reducible apply keep_ite | dsimp only | split

theorem keep_coreOff {r s : State} (h : Keep r s) :
    Keep r (coreOff s) := by
  unfold coreOff
  repeat' first | with_reducible assumption | with_reducible apply keep_domainOff | with_reducible apply keep_modEave | with_reducible apply keep_modPower | with_reducible apply keep_modTime | with_reducible apply keep_foldl | with_reducible apply keep_foldlFst | intro _ | with_reducible apply keep_ite | dsimp only | split

theorem keep_execDomainFault {r s : State} {x0 : Fin 10} {x1 : Bool} (h : Keep r s) :
    KeepOut r (execDomainFault x0 x1 s) := by
  unfold execDomainFault
  repeat' first | with_reducible assumption | with_reducible apply keep_report | with_reducible apply keep_emit | with_reducible apply keep_modPower | with_reducible apply keep_complete | with_reducible apply keepOut_next | with_reducible apply keep_coreOff | with_reducible apply keep_domainFault | with_reducible apply keep_domainOff | with_reducible apply keep_noteFault | with_reducible apply keep_power | with_reducible apply keep_foldl | with_reducible apply keep_foldlFst | intro _ | with_reducible apply keep_ite | dsimp only | split

theorem keep_rerun {r s : State} {x0 : Nat} (h : Keep r s) :
    Keep r (rerun x0 s) := by
  unfold rerun
  repeat' first | with_reducible assumption | with_reducible apply keep_accept | with_reducible apply keep_complete | with_reducible apply keep_modStew | with_reducible apply keep_modTicket | with_reducible apply keep_requestAll | intro _ | with_reducible apply keep_ite | dsimp only | split

theorem keep_startReruns {r s : State} (h : Keep r s) :
    Keep r (startReruns s) := by
  unfold startReruns
  repeat' first | with_reducible assumption | with_reducible apply keep_rerun | with_reducible apply keep_foldl

theorem keep_entryTimes {r s : State} {x0 : Mode} {x1 : Nat} (h : Keep r s) :
    Keep r (entryTimes x0 x1 s) := by
  unfold entryTimes
  repeat' first | with_reducible assumption | with_reducible apply keep_modPower | with_reducible apply keep_modSheet | intro _ | with_reducible apply keep_ite | dsimp only | split

theorem keep_requestDone {r s : State} {x0 : Nat} (h : Keep r s) :
    Keep r (requestDone x0 s) := by
  unfold requestDone
  repeat' first | with_reducible assumption | with_reducible apply keep_judgeRequest | with_reducible apply keep_complete | with_reducible apply keep_modPower | with_reducible apply keep_power | intro _ | with_reducible apply keep_ite | dsimp only | split

theorem keep_finishTransition {r s : State} {x0 : Transition} (h : Keep r s) :
    Keep r (finishTransition x0 s) := by
  unfold finishTransition
  repeat' first | with_reducible assumption | with_reducible apply keep_accessMode | with_reducible apply keep_denyWithdrawn | with_reducible apply keep_domainOff | with_reducible apply keep_enterMode | with_reducible apply keep_entryTimes | with_reducible apply keep_modPower | with_reducible apply keep_nextTrigger | with_reducible apply keep_power | with_reducible apply keep_requestDone | with_reducible apply keep_startReruns | with_reducible apply keep_trigger | with_reducible apply keep_writeFloor | with_reducible apply keep_foldl | with_reducible apply keep_foldlFst | intro _ | with_reducible apply keep_ite | dsimp only | split

theorem keep_execModeTransitionComplete {r s : State} (h : Keep r s) :
    KeepOut r (execModeTransitionComplete s) := by
  unfold execModeTransitionComplete
  repeat' first | with_reducible assumption | with_reducible apply keepOut_next | with_reducible apply keep_finishTransition | intro _ | with_reducible apply keep_ite | dsimp only | split

theorem keep_execDrainTimeout {r s : State} (h : Keep r s) :
    KeepOut r (execDrainTimeout s) := by
  unfold execDrainTimeout
  repeat' first | with_reducible assumption | with_reducible apply keepOut_next | with_reducible apply keep_atDue | with_reducible apply keep_complete | with_reducible apply keep_denyWithdrawn | with_reducible apply keep_offHook | with_reducible apply keep_power | with_reducible apply keep_foldl | with_reducible apply keep_foldlFst | intro _ | with_reducible apply keep_ite | dsimp only | split

theorem keep_execWatchWindowExpire {r s : State} (h : Keep r s) :
    KeepOut r (execWatchWindowExpire s) := by
  unfold execWatchWindowExpire
  repeat' first | with_reducible assumption | with_reducible apply keepOut_next | with_reducible apply keep_atDue | with_reducible apply keep_trigger | intro _ | with_reducible apply keep_ite

theorem keep_execHoldoverExit {r s : State} (h : Keep r s) :
    KeepOut r (execHoldoverExit s) := by
  unfold execHoldoverExit
  repeat' first | with_reducible assumption | with_reducible apply keepOut_next | with_reducible apply keep_trigger | with_reducible apply keep_sendSample | with_reducible apply keep_modHost | with_reducible exact hostOk_same rfl rfl rfl | with_reducible exact hostOk_raise | with_reducible exact hostOk_writeBytes rfl rfl rfl | with_reducible exact hostOk_ringWrite | with_reducible exact hostOk_ringPut | intro _ | with_reducible apply keep_ite

theorem keep_execStandingTimeMinute {r s : State} (h : Keep r s) :
    KeepOut r (execStandingTimeMinute s) := by
  unfold execStandingTimeMinute
  repeat' first | with_reducible assumption | with_reducible apply keepOut_next | with_reducible apply keep_atDue | with_reducible apply keep_modSheet | intro _ | with_reducible apply keep_ite

theorem keep_setPin {r s : State} {x0 : Nat} {x1 : Bool} (h : Keep r s) :
    Keep r (setPin x0 x1 s) := by
  unfold setPin
  repeat' first | with_reducible assumption | with_reducible apply keep_modPower

theorem keep_pinEvent {r s : State} {x0 : Nat} (h : Keep r s) :
    Keep r (pinEvent x0 s) := by
  unfold pinEvent
  repeat' first | with_reducible assumption | with_reducible apply keep_emit

theorem keep_pinChange {r s : State} {x0 : Nat} {x1 : Bool} (h : Keep r s) :
    Keep r (pinChange x0 x1 s) := by
  unfold pinChange
  repeat' first | with_reducible assumption | with_reducible apply keep_accessDoor | with_reducible apply keep_accessIgn | with_reducible apply keep_beginWake | with_reducible apply keep_pinEvent | with_reducible apply keep_power | with_reducible apply keep_trigger | intro _ | with_reducible apply keep_ite | dsimp only | split

theorem keep_execWakePinChange {r s : State} {x0 : Fin 5} {x1 : Bool} (h : Keep r s) :
    KeepOut r (execWakePinChange x0 x1 s) := by
  unfold execWakePinChange
  repeat' first | with_reducible assumption | with_reducible apply keepOut_next | with_reducible apply keep_setPin | with_reducible apply keep_pinChange | intro _ | with_reducible apply keep_ite

theorem keep_execWorkshopStrapChange {r s : State} {x0 : Bool} (h : Keep r s) :
    KeepOut r (execWorkshopStrapChange x0 s) := by
  unfold execWorkshopStrapChange
  repeat' first | with_reducible assumption | with_reducible apply keepOut_next | with_reducible apply keep_beginWake | with_reducible apply keep_modPower | with_reducible apply keep_power | with_reducible apply keep_trigger | intro _ | with_reducible apply keep_ite | dsimp only | split

theorem keep_execCanWake {r s : State} {x0 : BitVec 12} (h : Keep r s) :
    KeepOut r (execCanWake x0 s) := by
  unfold execCanWake
  repeat' first | with_reducible assumption | with_reducible apply keepOut_next | with_reducible apply keep_requestAll | with_reducible apply keep_emit | with_reducible apply keep_beginWake | with_reducible apply keep_modPower | intro _ | with_reducible apply keep_ite

theorem keep_dropIdle {r s : State} {x0 : Nat} (h : Keep r s) :
    Keep r (dropIdle x0 s) := by
  unfold dropIdle
  repeat' first | with_reducible assumption | with_reducible apply keep_domainOff | with_reducible apply keep_power | intro _ | with_reducible apply keep_ite | dsimp only | split

theorem keep_dropAll {r s : State} (h : Keep r s) :
    Keep r (dropAll s) := by
  unfold dropAll
  repeat' first | with_reducible assumption | with_reducible apply keep_dropIdle | with_reducible apply keep_foldl | with_reducible apply keep_foldlFst | intro _ | with_reducible apply keep_ite | dsimp only | split

theorem keep_execNetIdleExpire {r s : State} (h : Keep r s) :
    KeepOut r (execNetIdleExpire s) := by
  unfold execNetIdleExpire
  repeat' first | with_reducible assumption | with_reducible apply keepOut_next | with_reducible apply keep_atDue | with_reducible apply keep_dropIdle | with_reducible apply keep_modPower | intro _ | with_reducible apply keep_ite | dsimp only | split

theorem keep_enterDepth {r s : State} {x0 : Nat} {x1 : Option Nat} (h : Keep r s) :
    Keep r (enterDepth x0 x1 s) := by
  unfold enterDepth
  repeat' first | with_reducible assumption | with_reducible apply keep_modTime | with_reducible apply keep_reach | with_reducible apply keep_modEave | with_reducible apply keep_modRange | with_reducible apply keep_modPower | intro _ | with_reducible apply keep_ite | dsimp only

theorem keep_rebook {r s : State} (h : Keep r s) :
    Keep r (rebook s) := by
  unfold rebook
  repeat' first | with_reducible assumption | with_reducible apply keep_beginWake | with_reducible apply keep_enterDepth | with_reducible apply keep_modEave | intro _ | with_reducible apply keep_ite | dsimp only | split

theorem keep_execDepthChoice {r s : State} (h : Keep r s) :
    KeepOut r (execDepthChoice s) := by
  unfold execDepthChoice
  repeat' first | with_reducible assumption | with_reducible apply keep_dropIdle | with_reducible apply keep_foldl | with_reducible apply keep_foldlFst | with_reducible apply keepOut_next | with_reducible apply keep_dropAll | with_reducible apply keep_enterDepth | with_reducible apply keep_modEave | with_reducible apply keep_rebook | intro _ | with_reducible apply keep_ite | dsimp only | split

theorem keep_switchBooked {r s : State} (h : Keep r s) :
    Keep r (switchBooked s) := by
  unfold switchBooked
  repeat' first | with_reducible assumption | with_reducible apply keep_beginWake | with_reducible apply keep_requestAll | intro _ | with_reducible apply keep_ite | dsimp only | split

theorem keep_wakeNow {r s : State} (h : Keep r s) :
    Keep r (execEaveWake.wakeNow s) := by
  unfold execEaveWake.wakeNow
  repeat' first | with_reducible assumption | with_reducible apply keep_beginWake | with_reducible apply keep_modEave | intro _ | with_reducible apply keep_ite | dsimp only | split

theorem keep_execEaveWake {r s : State} (h : Keep r s) :
    KeepOut r (execEaveWake s) := by
  unfold execEaveWake
  repeat' first | with_reducible assumption | with_reducible apply keep_wakeNow | with_reducible apply keep_requestAll | with_reducible apply keepOut_next | with_reducible apply keep_atDue | with_reducible apply keep_beginWake | with_reducible apply keep_modEave | with_reducible apply keep_switchBooked | intro _ | with_reducible apply keep_ite | dsimp only | split

theorem keep_entryEvent {r s : State} {x0 : Nat} {x1 : Latency} (h : Keep r s) :
    Keep r (entryEvent x0 x1 s) := by
  unfold entryEvent
  repeat' first | with_reducible assumption | with_reducible apply keep_emit | intro _ | with_reducible apply keep_ite

theorem keep_measure {r s : State} {x0 : Nat} {x1 : Nat} {x2 : Bool} (h : Keep r s) :
    Keep r (measure x0 x1 x2 s) := by
  unfold measure
  repeat' first | with_reducible assumption | with_reducible apply keep_modEave | with_reducible apply keep_entryEvent | with_reducible apply keep_emit | with_reducible apply keep_foldl | with_reducible apply keep_foldlFst | intro _ | with_reducible apply keep_ite

theorem keep_realign {r s : State} (h : Keep r s) : Keep r (realign s) := by
  unfold realign
  split
  · exact h
  · exact keep_useFree (keep_modTime h)

theorem keep_execWakeMeasured {r s : State} {x0 : Nat} (h : Keep r s) :
    KeepOut r (execWakeMeasured x0 s) := by
  unfold execWakeMeasured
  repeat' first | with_reducible assumption | with_reducible exact hostOk_take | with_reducible apply keepOut_next | with_reducible apply keep_atDue | with_reducible apply keep_realign | with_reducible apply keep_modPower | with_reducible apply keep_modEave | with_reducible apply keep_modHost | with_reducible apply keep_measure | (intro k; split <;> exact hostOk_from k rfl rfl rfl) | with_reducible exact hostOk_same rfl rfl rfl | with_reducible exact hostOk_raise | with_reducible exact hostOk_writeBytes rfl rfl rfl | with_reducible exact hostOk_ringWrite | with_reducible exact hostOk_ringPut | intro _ | with_reducible apply keep_ite | dsimp only | split

theorem keep_execXsStable {r s : State} (h : Keep r s) :
    KeepOut r (execXsStable s) := by
  unfold execXsStable
  repeat' first | with_reducible assumption | with_reducible apply keep_modTime | with_reducible apply keepOut_next | with_reducible apply keep_modEave | intro _ | with_reducible apply keep_ite

theorem keep_execPowerModeRead {r s : State} {x0 : Fin 128} (h : Keep r s) :
    KeepOut r (execPowerModeRead x0 s) := by
  unfold execPowerModeRead
  repeat' first | with_reducible assumption | with_reducible apply keepOut_next | with_reducible apply keep_command | with_reducible apply keep_complete | intro _

theorem keep_requestWaits {r s : State} {x0 : Nat} (h : Keep r s) :
    Keep r (requestWaits x0 s) := by
  unfold requestWaits
  repeat' first | with_reducible assumption | with_reducible apply keep_modPower | with_reducible apply keep_start | intro _ | with_reducible apply keep_ite | dsimp only | split

theorem keep_execPowerModeRequest {r s : State} {x0 : Fin 128} (h : Keep r s) :
    KeepOut r (execPowerModeRequest x0 s) := by
  unfold execPowerModeRequest
  repeat' first | with_reducible assumption | with_reducible apply keep_modPower | with_reducible apply keepOut_next | with_reducible apply keep_command | with_reducible apply keep_complete | with_reducible apply keep_judgeRequest | with_reducible apply keep_power | with_reducible apply keep_requestWaits | with_reducible apply keep_start | with_reducible apply keep_trigger | intro _ | with_reducible apply keep_ite | dsimp only | split

theorem keep_execPowerDomainRead {r s : State} {x0 : Fin 128} (h : Keep r s) :
    KeepOut r (execPowerDomainRead x0 s) := by
  unfold execPowerDomainRead
  repeat' first | with_reducible assumption | with_reducible apply keepOut_next | with_reducible apply keep_command | with_reducible apply keep_complete | intro _

theorem keep_execPowerEaveRead {r s : State} {x0 : Fin 128} (h : Keep r s) :
    KeepOut r (execPowerEaveRead x0 s) := by
  unfold execPowerEaveRead
  repeat' first | with_reducible assumption | with_reducible apply keepOut_next | with_reducible apply keep_command | with_reducible apply keep_complete | intro _

theorem keep_loadEpoch {r s : State} (h : Keep r s) :
    Keep r (loadEpoch s) := by
  unfold loadEpoch
  repeat' first | with_reducible assumption | with_reducible apply keep_emit | with_reducible apply keep_modPower | with_reducible apply keep_modSheet | with_reducible apply keep_modTime

theorem keep_writeHeld {r s : State} (h : Keep r s) :
    Keep r (writeHeld s) := by
  unfold writeHeld
  repeat' first | with_reducible assumption | with_reducible apply keep_emit | with_reducible apply keep_modBoot | with_reducible apply keep_foldl | with_reducible apply keep_foldlFst | intro _ | with_reducible apply keep_ite | dsimp only | split

theorem keep_restoreAccess {r s : State} (h : Keep r s) :
    Keep r (restoreAccess s) := by
  unfold restoreAccess
  repeat' first | with_reducible assumption | with_reducible apply keep_modAccess | intro _ | with_reducible apply keep_ite | dsimp only | split

theorem keep_restoreLoops {r s : State} (h : Keep r s) :
    Keep r (restoreLoops s) := by
  unfold restoreLoops
  repeat' first | with_reducible assumption | with_reducible apply keep_modSw

theorem keep_restoreSlots {r s : State} (h : Keep r s) :
    Keep r (restoreSlots s) := by
  unfold restoreSlots
  repeat' first | with_reducible assumption | with_reducible apply keep_modCiph

theorem keep_keepSlots {r s : State} (h : Keep r s) :
    Keep r (keepSlots s) := by
  unfold keepSlots
  repeat' first | with_reducible assumption | with_reducible apply keep_modSlot | with_reducible apply keep_landShadow | with_reducible apply keep_foldl | with_reducible apply keep_foldlFst | intro _ | with_reducible apply keep_ite | dsimp only | split

theorem keep_restoreT1 {r s : State} {x0 : Bool} (h : Keep r s) :
    Keep r (restoreT1 x0 s) := by
  unfold restoreT1
  repeat' first | with_reducible assumption | with_reducible apply keep_modSheet

theorem keep_reserveFresh {r s : State} {x0 : Nat} (h : Keep r s) :
    Keep r (reserveFresh x0 s) := by
  unfold reserveFresh
  repeat' first | with_reducible assumption | with_reducible apply keep_bumpCounter | with_reducible apply keep_modSw | intro _ | with_reducible apply keep_ite

theorem keep_reserveAll {r s : State} (h : Keep r s) :
    Keep r (reserveAll s) := by
  unfold reserveAll
  repeat' first | with_reducible assumption | with_reducible apply keep_reserveBody | with_reducible apply keep_reserveRelease | with_reducible apply keep_reserveFresh | with_reducible apply keep_foldl | with_reducible apply keep_foldlFst | intro _ | with_reducible apply keep_ite

theorem keep_restoreBanks {r s : State} (h : Keep r s) :
    Keep r (restoreBanks s) := by
  unfold restoreBanks
  repeat' first | with_reducible assumption | with_reducible apply keep_modMem

theorem keep_lockGuards {r s : State} (h : Keep r s) :
    Keep r (lockGuards s) := by
  unfold lockGuards
  repeat' first | with_reducible assumption | with_reducible apply keep_modMem

theorem keep_loadConfirmed {r s : State} {x0 : Bool} (h : Keep r s) :
    Keep r (loadConfirmed x0 s).1 := by
  unfold loadConfirmed
  repeat' first | with_reducible assumption | intro _ | with_reducible apply keep_ite | dsimp only | split

theorem keep_chooseImage {r s : State} (h : Keep r s) :
    Keep r (chooseImage s).1 := by
  unfold chooseImage
  repeat' first | with_reducible assumption | with_reducible apply keep_setImage | with_reducible apply keep_loadConfirmed | with_reducible apply keep_bootReturn | with_reducible apply keep_imageEvent | intro _ | with_reducible apply keep_ite | dsimp only | split

theorem keep_postOutcome {r s : State} {x0 : Nat} {x1 : Bytes} (h : Keep r s) :
    Keep r (postOutcome x0 x1 s) := by
  unfold postOutcome
  repeat' first | with_reducible assumption | with_reducible apply keep_useFree | with_reducible apply keep_modStew | with_reducible apply keep_modTicket

theorem keep_postRecorded {r s : State} {x0 : Nat} (h : Keep r s) :
    Keep r (postRecorded x0 s) := by
  unfold postRecorded
  repeat' first | with_reducible assumption | with_reducible apply keep_postOutcome | with_reducible apply keep_modTicket

theorem keep_postNew {r s : State} {x0 : Nat} {x1 : Nat} {x2 : Bytes} (h : Keep r s) :
    Keep r (postNew x0 x1 x2 s) := by
  unfold postNew
  repeat' first | with_reducible assumption | with_reducible apply keep_postOutcome | with_reducible apply keep_modTicket

theorem keep_queueRerun {r s : State} {x0 : Nat} (h : Keep r s) :
    Keep r (queueRerun x0 s) := by
  unfold queueRerun
  repeat' first | with_reducible assumption | with_reducible apply keep_modTicket

theorem keep_replayWrite {r s : State} {x0 : Nat} (h : Keep r s) :
    Keep r (replayWrite x0 s).1 := by
  unfold replayWrite
  repeat' first | with_reducible assumption | with_reducible apply keep_postNew | with_reducible apply keep_applyAct | with_reducible apply keep_loadCharter | with_reducible apply keep_modStore | with_reducible apply keep_putTombstone | with_reducible apply keep_emitAs | with_reducible apply keep_foldl | with_reducible apply keep_foldlFst | with_reducible exact storeKeep_putCharter | with_reducible exact storeKeep_newCounter | with_reducible exact storeKeep_setCounter | with_reducible exact storeKeep_rollOver | with_reducible exact StoreKeep.refl _ | with_reducible exact storeKeep_same rfl rfl rfl rfl rfl | intro _ | with_reducible apply keep_ite | dsimp only | split

theorem keep_closeExposing {r s : State} (h : Keep r s) :
    Keep r (closeExposing s) := by
  unfold closeExposing
  repeat' first | with_reducible assumption | with_reducible apply keep_modExpo

theorem keep_replayExpose {r s : State} {x0 : Nat} (h : Keep r s) :
    Keep r (replayExpose x0 s).1 := by
  unfold replayExpose
  repeat' first | with_reducible assumption | with_reducible apply keep_postNew | with_reducible apply keep_closeExposing | with_reducible apply keep_exposeSet | with_reducible apply keep_modStore | with_reducible apply keep_writeNow | with_reducible apply keep_modSheet | with_reducible apply keep_modSafe | with_reducible apply keep_emitAs | with_reducible apply keep_sendRollback | with_reducible apply keep_voidSet | with_reducible exact storeKeep_newCounter | with_reducible exact storeKeep_setCounter | with_reducible exact storeKeep_rollOver | with_reducible exact StoreKeep.refl _ | with_reducible exact storeKeep_same rfl rfl rfl rfl rfl | with_reducible exact id | with_reducible exact sort_log | with_reducible exact fun _ => Nat.zero_le _ | with_reducible exact fun k => Nat.le_trans (List.length_filter_le _ _) k | intro _ | with_reducible apply keep_ite | dsimp only | split

theorem keep_replayTicket {r s : State} {x0 : Nat} (h : Keep r s) :
    Keep r (replayTicket x0 s).1 := by
  unfold replayTicket
  repeat' first | with_reducible assumption | with_reducible apply keep_postRecorded | with_reducible apply keep_replayExpose | with_reducible apply keep_replayWrite | with_reducible apply keep_queueRerun | with_reducible apply keep_postNew | intro _ | with_reducible apply keep_ite | dsimp only | split

theorem keep_voidOrphans {r s : State} (h : Keep r s) :
    Keep r (voidOrphans s) := by
  unfold voidOrphans
  repeat' first | with_reducible assumption | with_reducible apply keep_voidSet | with_reducible apply keep_foldl | with_reducible apply keep_foldlFst | intro _

theorem keep_replay {r s : State} (h : Keep r s) :
    Keep r (replay s) := by
  unfold replay
  repeat' first | with_reducible assumption | with_reducible apply keep_replayTicket | with_reducible apply keep_closeExposing | with_reducible apply keep_voidOrphans | with_reducible apply keep_emitAs | with_reducible apply keep_modBoot | with_reducible apply keep_foldl | with_reducible apply keep_foldlFst | intro _

theorem keep_applyEnv {r s : State} {x0 : StartEnv} (h : Keep r s) :
    Keep r (applyEnv x0 s) := by
  unfold applyEnv
  repeat' first | with_reducible assumption | with_reducible apply keep_modSafe | with_reducible apply keep_modBoot | with_reducible apply keep_modVault | with_reducible apply keep_modStore | with_reducible apply keep_modPower | with_reducible exact storeKeep_newCounter | with_reducible exact storeKeep_setCounter | with_reducible exact storeKeep_rollOver | with_reducible exact StoreKeep.refl _ | with_reducible exact storeKeep_same rfl rfl rfl rfl rfl | with_reducible exact Nat.le_refl _ | with_reducible exact Nat.le_succ _ | with_reducible exact id

theorem keep_releaseHost {r s : State} (h : Keep r s) : Keep r (releaseHost s) := by
  unfold releaseHost
  dsimp only
  generalize leBytes 2 1 ++ leBytes 1 16 ++ leBytes 1 4 ++ zeros 4 ++ leBytes 8 s.sheet.resetStamp ++
    leBytes 1 s.sheet.resetCause ++ zeros 1 ++ leBytes 2 512 = d
  refine keep_modHost ?_ h
  with_reducible exact hostOk_writeBytes rfl rfl rfl

theorem keep_flushEarly {r s : State} (h : Keep r s) :
    Keep r (flushEarly s) := by
  unfold flushEarly
  repeat' first | with_reducible assumption | with_reducible exact hostOk_take | with_reducible apply keep_modHost | with_reducible apply keep_foldl | with_reducible apply keep_foldlFst | with_reducible exact hostOk_same rfl rfl rfl | with_reducible exact hostOk_raise | with_reducible exact hostOk_writeBytes rfl rfl rfl | with_reducible exact hostOk_ringWrite | with_reducible exact hostOk_ringPut | intro _ | with_reducible apply keep_ite | dsimp only | split

theorem keep_startEvent {r s : State} (h : Keep r s) :
    Keep r (startEvent s) := by
  unfold startEvent
  repeat' first | with_reducible assumption | with_reducible apply keep_modHost | with_reducible apply keep_emit | with_reducible exact hostOk_same rfl rfl rfl

theorem keep_findTamper {r s : State} {x0 : StartEnv} (h : Keep r s) :
    Keep r (findTamper x0 s) := by
  unfold findTamper
  repeat' first | with_reducible assumption | with_reducible apply keep_lidOpens | with_reducible apply keep_emit | with_reducible apply keep_modSafe | with_reducible apply keep_meshBreaks | with_reducible exact id | with_reducible exact sort_log | with_reducible exact fun _ => Nat.zero_le _ | with_reducible exact fun k => Nat.le_trans (List.length_filter_le _ _) k | intro _ | with_reducible apply keep_ite

theorem keep_stopStart {r s : State} (h : Keep r s) :
    Keep r (stopStart s) := by
  unfold stopStart
  repeat' first | with_reducible assumption | with_reducible apply keep_emit | with_reducible apply keep_modBoot | with_reducible apply keep_modTime | with_reducible apply keep_modEave | with_reducible apply keep_modPower | intro _

theorem keep_runSteward {r s : State} {x0 : Bool} {x1 : StartEnv} {x2 : Nat} {x3 : Nat} (h : Keep r s) :
    Keep r (runSteward x0 x1 x2 x3 s) := by
  unfold runSteward
  repeat' first | with_reducible assumption | with_reducible apply keep_flushEarly | with_reducible apply keep_modSafe | with_reducible apply keep_emit | with_reducible apply keep_restoreT1 | with_reducible apply keep_restoreLoops | with_reducible apply keep_restoreAccess | with_reducible apply keep_loadCharter | with_reducible apply keep_lockGuards | with_reducible apply keep_restoreSlots | with_reducible apply keep_modUhf | with_reducible apply keep_keepSlots | with_reducible apply keep_releaseHost | with_reducible apply keep_modBoot | with_reducible apply keep_modStew | with_reducible apply keep_enterMode | with_reducible apply keep_findTamper | with_reducible apply keep_startEvent | with_reducible apply keep_reserveAll | with_reducible apply keep_secOn | with_reducible apply keep_modPower | with_reducible apply keep_updateReset | with_reducible apply keep_replay | with_reducible exact id | with_reducible exact sort_log | with_reducible exact fun _ => Nat.zero_le _ | with_reducible exact fun k => Nat.le_trans (List.length_filter_le _ _) k | intro _ | with_reducible apply keep_ite | dsimp only

theorem keep_prepareStart {r s : State} {x0 : Bool} {x1 : StartEnv} (h : Keep r s) :
    Keep r (prepareStart x0 x1 s) := by
  unfold prepareStart
  repeat' first | with_reducible assumption | with_reducible apply keep_writeHeld | with_reducible apply keep_applyEnv | with_reducible apply keep_modPower | with_reducible apply keep_restoreBanks | with_reducible apply keep_recoverStore | with_reducible apply keep_loadEpoch | with_reducible apply keep_reach | with_reducible apply keep_modConf | with_reducible apply keep_realign | with_reducible apply keep_modEave | with_reducible apply keep_modSheet | intro _ | with_reducible apply keep_ite | dsimp only

theorem keep_startFrom {r s : State} {c : Bool} {env : StartEnv} (h : Keep r s) : Keep r (startFrom c env s) := by
  unfold startFrom
  split <;> rename_i e
  · exact keep_runSteward (keep_ofFst e (keep_chooseImage (keep_prepareStart h)))
  · exact keep_stopStart (keep_ofFst e (keep_chooseImage (keep_prepareStart h)))

theorem keep_execColdStart {r s : State} {x0 : StartEnv} (h : Keep r s) :
    KeepOut r (execColdStart x0 s) := by
  unfold execColdStart
  repeat' first | with_reducible assumption | with_reducible apply keepOut_next | with_reducible apply keep_startFrom | with_reducible apply keep_modPower | intro _ | with_reducible apply keep_ite

theorem keep_execWarmStart {r s : State} {x0 : StartEnv} (h : Keep r s) :
    KeepOut r (execWarmStart x0 s) := by
  unfold execWarmStart
  repeat' first | with_reducible assumption | with_reducible apply keepOut_next | with_reducible apply keep_startFrom | intro _ | with_reducible apply keep_ite

theorem keep_supplyReset {r s : State} (h : Keep r s) :
    Keep r (supplyReset s) := by
  unfold supplyReset
  repeat' first | with_reducible assumption | with_reducible apply keep_modBoot | with_reducible apply keep_mdieReset

theorem keep_execSupplyFault {r s : State} {x0 : Nat} {x1 : Nat} (h : Keep r s) :
    KeepOut r (execSupplyFault x0 x1 s) := by
  unfold execSupplyFault
  repeat' first | with_reducible assumption | with_reducible apply keep_report | with_reducible apply keepOut_next | with_reducible apply keep_modStore | with_reducible apply keep_modBoot | with_reducible apply keep_holdoverBy | with_reducible apply keep_emit | with_reducible apply keep_finishRunning | with_reducible apply keep_supplyReset | with_reducible apply keep_flush | with_reducible exact storeKeep_newCounter | with_reducible exact storeKeep_setCounter | with_reducible exact storeKeep_rollOver | with_reducible exact StoreKeep.refl _ | with_reducible exact storeKeep_same rfl rfl rfl rfl rfl | intro _ | with_reducible apply keep_ite | dsimp only | split

theorem keep_execVbatReturn {r s : State} (h : Keep r s) :
    KeepOut r (execVbatReturn s) := by
  unfold execVbatReturn
  repeat' first | with_reducible assumption | with_reducible apply keepOut_next | with_reducible apply keep_modBoot | intro _ | with_reducible apply keep_ite

theorem keep_execWatchdog {r s : State} (h : Keep r s) :
    KeepOut r (execWatchdog s) := by
  unfold execWatchdog
  repeat' first | with_reducible assumption | with_reducible apply keepOut_next | with_reducible apply keep_stewardFault | intro _ | with_reducible apply keep_ite

theorem keep_execLockstep {r s : State} (h : Keep r s) :
    KeepOut r (execLockstep s) := by
  unfold execLockstep
  repeat' first | with_reducible assumption | with_reducible apply keepOut_next | with_reducible apply keep_stewardFault | intro _ | with_reducible apply keep_ite

theorem keep_execDieLink {r s : State} (h : Keep r s) :
    KeepOut r (execDieLink s) := by
  unfold execDieLink
  repeat' first | with_reducible assumption | with_reducible apply keepOut_next | with_reducible apply keep_stewardFault | intro _ | with_reducible apply keep_ite

theorem keep_execPd0AonPowerLoss {r s : State} (h : Keep r s) : KeepOut r (execPd0AonPowerLoss s) := by
  unfold execPd0AonPowerLoss
  dsimp only
  exact keepOut_next ⟨h.pending, fun _ => hostOk_empty rfl rfl rfl,
    h.store.trans (storeKeep_same rfl rfl rfl rfl rfl), h.vault, fun _ => Nat.zero_le _⟩

/-- What a tick does once due things have happened. -/
theorem keep_settle {r s : State} (h : Keep r s) :
    Keep r (settle s) := by
  unfold settle
  repeat' first | with_reducible assumption | with_reducible apply keep_reportWaiting | with_reducible apply keep_denyWithdrawn | with_reducible apply keep_dropAll | with_reducible apply keep_flushOutbox | with_reducible apply keep_runChecks | with_reducible apply keep_t1Resume | with_reducible apply keep_uhfTurn | intro _ | with_reducible apply keep_ite | dsimp only | split

end Sys2Proof.Machine
end

