-- ==== Sys2Proof/Laws/Exec.lean ====
section
/-! SUPPORT. What one command and one step of the block keep. -/

namespace Sys2Proof.Machine

/-- Every command keeps what `Keep` names: the case split over the commands, made once. -/
theorem exec_keep (c : Instr) (s : State) : KeepOut s (exec c s) := by
  cases c with
  | read _ _ => exact keep_execRead (Keep.refl s)
  | write _ _ _ => exact keep_execWrite (Keep.refl s)
  | quadRead _ _ => exact keep_execQuadRead (Keep.refl s)
  | quadWrite _ _ _ => exact keep_execQuadWrite (Keep.refl s)
  | invalidInstruction _ => exact keep_execInvalidInstruction (Keep.refl s)
  | cmdDoorbell _ => exact keep_execCmdDoorbell (Keep.refl s)
  | rspReady _ => exact keep_execRspReady (Keep.refl s)
  | evtTail _ => exact keep_execEvtTail (Keep.refl s)
  | intStatus _ => exact keep_execIntStatus (Keep.refl s)
  | frontStatus _ => exact keep_execFrontStatus (Keep.refl s)
  | frontRegisterWrite _ _ => exact keep_execFrontRegisterWrite (Keep.refl s)
  | t1CommandFrame _ _ _ => exact keep_execT1CommandFrame (Keep.refl s)
  | t1ReleaseFrame _ _ _ => exact keep_execT1ReleaseFrame (Keep.refl s)
  | deviceIdentify _ => exact keep_execDeviceIdentify (Keep.refl s)
  | deviceTicketQuery _ => exact keep_execDeviceTicketQuery (Keep.refl s)
  | nodeProbe _ => exact keep_execNodeProbe (Keep.refl s)
  | nodeRead _ => exact keep_execNodeRead (Keep.refl s)
  | nodeList _ => exact keep_execNodeList (Keep.refl s)
  | nodeCourseStage _ => exact keep_execNodeCourseStage (Keep.refl s)
  | nodeCourseDeleteStage _ => exact keep_execNodeCourseDeleteStage (Keep.refl s)
  | timeRead _ => exact keep_execTimeRead (Keep.refl s)
  | timeSet _ => exact keep_execTimeSet (Keep.refl s)
  | timeSlew _ => exact keep_execTimeSlew (Keep.refl s)
  | timeShutterArm _ => exact keep_execTimeShutterArm (Keep.refl s)
  | timeShutterDisarm _ => exact keep_execTimeShutterDisarm (Keep.refl s)
  | timeShutterRead _ => exact keep_execTimeShutterRead (Keep.refl s)
  | timeShutterStage _ => exact keep_execTimeShutterStage (Keep.refl s)
  | timeCaptureRead _ => exact keep_execTimeCaptureRead (Keep.refl s)
  | shutterFire _ => exact keep_execShutterFire (Keep.refl s)
  | captureEdge _ _ _ => exact keep_execCaptureEdge (Keep.refl s)
  | xsTrimMeasure _ => exact keep_execXsTrimMeasure (Keep.refl s)
  | wakePinChange _ _ => exact keep_execWakePinChange (Keep.refl s)
  | workshopStrapChange _ => exact keep_execWorkshopStrapChange (Keep.refl s)
  | canWake _ => exact keep_execCanWake (Keep.refl s)
  | domainFault _ _ => exact keep_execDomainFault (Keep.refl s)
  | domainReady _ => exact keep_execDomainReady (Keep.refl s)
  | wakeMeasured _ => exact keep_execWakeMeasured (Keep.refl s)
  | powerModeRead _ => exact keep_execPowerModeRead (Keep.refl s)
  | powerModeRequest _ => exact keep_execPowerModeRequest (Keep.refl s)
  | powerDomainRead _ => exact keep_execPowerDomainRead (Keep.refl s)
  | powerEaveRead _ => exact keep_execPowerEaveRead (Keep.refl s)
  | exposeOpen _ => exact keep_execExposeOpen (Keep.refl s)
  | exposeDiscard _ => exact keep_execExposeDiscard (Keep.refl s)
  | exposeSetStage _ => exact keep_execExposeSetStage (Keep.refl s)
  | exposeCheck _ => exact keep_execExposeCheck (Keep.refl s)
  | exposeExpose _ => exact keep_execExposeExpose (Keep.refl s)
  | exposeCancel _ => exact keep_execExposeCancel (Keep.refl s)
  | exposeStatus _ => exact keep_execExposeStatus (Keep.refl s)
  | exposeSettingRead _ => exact keep_execExposeSettingRead (Keep.refl s)
  | syncEdge _ => exact keep_execSyncEdge (Keep.refl s)
  | laneUnknownMessage ty => exact keep_execLaneUnknownMessage (x0 := ty) (Keep.refl s)
  | pollCycle _ => exact keep_execPollCycle (Keep.refl s)
  | answer _ _ _ => exact keep_execAnswer (Keep.refl s)
  | button _ => exact keep_execButton (Keep.refl s)
  | responseTelegram _ => exact keep_execResponseTelegram (Keep.refl s)
  | learnAck _ => exact keep_execLearnAck (Keep.refl s)
  | accessCycle _ => exact keep_execAccessCycle (Keep.refl s)
  | sniffWindow _ => exact keep_execSniffWindow (Keep.refl s)
  | learnRetry _ => exact keep_execLearnRetry (Keep.refl s)
  | accessStatus _ => exact keep_execAccessStatus (Keep.refl s)
  | accessSlotRead _ => exact keep_execAccessSlotRead (Keep.refl s)
  | accessLocate _ => exact keep_execAccessLocate (Keep.refl s)
  | accessLock _ => exact keep_execAccessLock (Keep.refl s)
  | accessLearnSet _ => exact keep_execAccessLearnSet (Keep.refl s)
  | accessReleasePair _ => exact keep_execAccessReleasePair (Keep.refl s)
  | accessZonemapStage _ => exact keep_execAccessZonemapStage (Keep.refl s)
  | accessZonemapRead _ => exact keep_execAccessZonemapRead (Keep.refl s)
  | lfOvercurrent _ _ _ => exact keep_execLfOvercurrent (Keep.refl s)
  | vlfDisable _ => exact keep_execVlfDisable (Keep.refl s)
  | vlfEnable _ => exact keep_execVlfEnable (Keep.refl s)
  | lfCommandDeadline _ => exact keep_execLfCommandDeadline (Keep.refl s)
  | lfChannelRead _ => exact keep_execLfChannelRead (Keep.refl s)
  | lfDiag _ => exact keep_execLfDiag (Keep.refl s)
  | lfBurst _ => exact keep_execLfBurst (Keep.refl s)
  | lfClearFault _ => exact keep_execLfClearFault (Keep.refl s)
  | uhfCalDone _ _ _ => exact keep_execUhfCalDone (Keep.refl s)
  | uhfPacketReceived _ => exact keep_execUhfPacketReceived (Keep.refl s)
  | rfGntChange _ => exact keep_execRfGntChange (Keep.refl s)
  | uhfStatus _ => exact keep_execUhfStatus (Keep.refl s)
  | uhfTx _ => exact keep_execUhfTx (Keep.refl s)
  | uhfRx _ => exact keep_execUhfRx (Keep.refl s)
  | uhfCalibrate _ => exact keep_execUhfCalibrate (Keep.refl s)
  | uhfCharterRead _ => exact keep_execUhfCharterRead (Keep.refl s)
  | uhfDutyRead _ => exact keep_execUhfDutyRead (Keep.refl s)
  | rangingResponse _ => exact keep_execRangingResponse (Keep.refl s)
  | fastExchangeRound _ => exact keep_execFastExchangeRound (Keep.refl s)
  | rangingReport _ => exact keep_execRangingReport (Keep.refl s)
  | tdcCalibration _ _ => exact keep_execTdcCalibration (Keep.refl s)
  | cableSegment _ => exact keep_execCableSegment (Keep.refl s)
  | rangeStatus _ => exact keep_execRangeStatus (Keep.refl s)
  | rangePortRead _ => exact keep_execRangePortRead (Keep.refl s)
  | rangePortCalibrate _ => exact keep_execRangePortCalibrate (Keep.refl s)
  | rangeSessionRead _ => exact keep_execRangeSessionRead (Keep.refl s)
  | rangeCable _ => exact keep_execRangeCable (Keep.refl s)
  | rangeCableTraceRead _ => exact keep_execRangeCableTraceRead (Keep.refl s)
  | msPulseEdge _ _ => exact keep_execMsPulseEdge (Keep.refl s)
  | sensorCount _ => exact keep_execSensorCount (Keep.refl s)
  | cardInserted _ => exact keep_execCardInserted (Keep.refl s)
  | cardRemoved _ => exact keep_execCardRemoved (Keep.refl s)
  | fSupplyToVfb _ => exact keep_execFSupplyToVfb (Keep.refl s)
  | fSupplyToVfix _ => exact keep_execFSupplyToVfix (Keep.refl s)
  | fLidMesh _ => exact keep_execFLidMesh (Keep.refl s)
  | xmTempCorrection _ => exact keep_execXmTempCorrection (Keep.refl s)
  | fixerStatus _ => exact keep_execFixerStatus (Keep.refl s)
  | fixerRecordRead _ => exact keep_execFixerRecordRead (Keep.refl s)
  | fixerSpeedRead _ => exact keep_execFixerSpeedRead (Keep.refl s)
  | fixerKeyRead _ => exact keep_execFixerKeyRead (Keep.refl s)
  | fixerTimePropose _ => exact keep_execFixerTimePropose (Keep.refl s)
  | fixerCardStatus _ => exact keep_execFixerCardStatus (Keep.refl s)
  | fixerCardApdu _ => exact keep_execFixerCardApdu (Keep.refl s)
  | fixerCardReset _ => exact keep_execFixerCardReset (Keep.refl s)
  | fixerPairStage _ => exact keep_execFixerPairStage (Keep.refl s)
  | frameReceived _ _ => exact keep_execFrameReceived (Keep.refl s)
  | copySent _ => exact keep_execCopySent (Keep.refl s)
  | heldOut _ => exact keep_execHeldOut (Keep.refl s)
  | aged _ => exact keep_execAged (Keep.refl s)
  | portDown _ => exact keep_execPortDown (Keep.refl s)
  | portUp _ => exact keep_execPortUp (Keep.refl s)
  | canBusOff _ => exact keep_execCanBusOff (Keep.refl s)
  | canBusOffRecovered _ => exact keep_execCanBusOffRecovered (Keep.refl s)
  | canAttemptLost _ _ => exact keep_execCanAttemptLost (Keep.refl s)
  | pauseReceived _ _ => exact keep_execPauseReceived (Keep.refl s)
  | pauseExpire _ => exact keep_execPauseExpire (Keep.refl s)
  | pauseRepeat _ => exact keep_execPauseRepeat (Keep.refl s)
  | linSlot _ => exact keep_execLinSlot (Keep.refl s)
  | linResponseReceived _ _ => exact keep_execLinResponseReceived (Keep.refl s)
  | switchStatus _ => exact keep_execSwitchStatus (Keep.refl s)
  | switchPortRead _ => exact keep_execSwitchPortRead (Keep.refl s)
  | switchCountersRead _ => exact keep_execSwitchCountersRead (Keep.refl s)
  | switchTableStage _ => exact keep_execSwitchTableStage (Keep.refl s)
  | switchTableRead _ => exact keep_execSwitchTableRead (Keep.refl s)
  | switchLinScheduleStage _ => exact keep_execSwitchLinScheduleStage (Keep.refl s)
  | switchLinScheduleRead _ => exact keep_execSwitchLinScheduleRead (Keep.refl s)
  | switchAudit _ => exact keep_execSwitchAudit (Keep.refl s)
  | keyLanding _ => exact keep_execKeyLanding (Keep.refl s)
  | checkMismatch _ _ _ => exact keep_execCheckMismatch (Keep.refl s)
  | cipherStatus _ => exact keep_execCipherStatus (Keep.refl s)
  | cipherKeyRead _ => exact keep_execCipherKeyRead (Keep.refl s)
  | cipherKeyLoad _ => exact keep_execCipherKeyLoad (Keep.refl s)
  | cipherKeyGenerate _ => exact keep_execCipherKeyGenerate (Keep.refl s)
  | cipherKeyErase _ => exact keep_execCipherKeyErase (Keep.refl s)
  | cipherJob _ => exact keep_execCipherJob (Keep.refl s)
  | grainWord _ => exact keep_execGrainWord (Keep.refl s)
  | grainReseed _ => exact keep_execGrainReseed (Keep.refl s)
  | healthFailure _ _ _ _ => exact keep_execHealthFailure (Keep.refl s)
  | grainRawRunEnd _ => exact keep_execGrainRawRunEnd (Keep.refl s)
  | grainStatus _ => exact keep_execGrainStatus (Keep.refl s)
  | grainRead _ => exact keep_execGrainRead (Keep.refl s)
  | grainRawRead _ => exact keep_execGrainRawRead (Keep.refl s)
  | supplyCheckRelease _ => exact keep_execSupplyCheckRelease (Keep.refl s)
  | blockRetired _ => exact keep_execBlockRetired (Keep.refl s)
  | parameterScan _ _ => exact keep_execParameterScan (Keep.refl s)
  | vaultScan _ => exact keep_execVaultScan (Keep.refl s)
  | storeStatus _ => exact keep_execStoreStatus (Keep.refl s)
  | storeCaptureRead _ => exact keep_execStoreCaptureRead (Keep.refl s)
  | storeHostAppend _ => exact keep_execStoreHostAppend (Keep.refl s)
  | storeHostRead _ => exact keep_execStoreHostRead (Keep.refl s)
  | storeHostClear _ => exact keep_execStoreHostClear (Keep.refl s)
  | storeCharterWrite _ => exact keep_execStoreCharterWrite (Keep.refl s)
  | storeCharterLock _ => exact keep_execStoreCharterLock (Keep.refl s)
  | testStrip _ => exact keep_execTestStrip (Keep.refl s)
  | guardViolation _ => exact keep_execGuardViolation (Keep.refl s)
  | correctedWord _ _ => exact keep_execCorrectedWord (Keep.refl s)
  | memStatus _ => exact keep_execMemStatus (Keep.refl s)
  | memGuardLogRead _ => exact keep_execMemGuardLogRead (Keep.refl s)
  | memStripRun _ => exact keep_execMemStripRun (Keep.refl s)
  | memDmaRead _ => exact keep_execMemDmaRead (Keep.refl s)
  | sensorConversion _ _ _ => exact keep_execSensorConversion (Keep.refl s)
  | lidMesh _ => exact keep_execLidMesh (Keep.refl s)
  | safelightRestart _ _ => exact keep_execSafelightRestart (Keep.refl s)
  | safeStatus _ => exact keep_execSafeStatus (Keep.refl s)
  | safeSensorRead _ => exact keep_execSafeSensorRead (Keep.refl s)
  | safeLogRead _ => exact keep_execSafeLogRead (Keep.refl s)
  | updateBegin _ => exact keep_execUpdateBegin (Keep.refl s)
  | updateWrite _ => exact keep_execUpdateWrite (Keep.refl s)
  | updateVerify _ => exact keep_execUpdateVerify (Keep.refl s)
  | updateStatus _ => exact keep_execUpdateStatus (Keep.refl s)
  | updateConfirm _ => exact keep_execUpdateConfirm (Keep.refl s)
  | coldStart _ => exact keep_execColdStart (Keep.refl s)
  | warmStart _ => exact keep_execWarmStart (Keep.refl s)
  | supplyFault _ _ => exact keep_execSupplyFault (Keep.refl s)
  | lfSequenceEnd _ => exact keep_execLfSequenceEnd (Keep.refl s)
  | cipherJobComplete _ => exact keep_execCipherJobComplete (Keep.refl s)
  | grainReadDeadline _ => exact keep_execGrainReadDeadline (Keep.refl s)
  | grainConsumerWaitExpire _ => exact keep_execGrainConsumerWaitExpire (Keep.refl s)
  | rangeCableDeadline _ => exact keep_execRangeCableDeadline (Keep.refl s)
  | cardApduDeadline _ => exact keep_execCardApduDeadline (Keep.refl s)
  | cardReply _ _ => exact keep_execCardReply (Keep.refl s)
  | cardWaitingTimeExceeded _ => exact keep_execCardWaitingTimeExceeded (Keep.refl s)
  | wearCreditGain _ => exact keep_execWearCreditGain (Keep.refl s)
  | fBrownOut _ => exact keep_execFBrownOut (Keep.refl s)
  | readStatus => exact keep_execReadStatus (Keep.refl s)
  | hostCsNWake => exact keep_execHostCsNWake (Keep.refl s)
  | mailboxTake => exact keep_execMailboxTake (Keep.refl s)
  | responsePost => exact keep_execResponsePost (Keep.refl s)
  | evtIrqDelayExpire => exact keep_execEvtIrqDelayExpire (Keep.refl s)
  | heartbeat => exact keep_execHeartbeat (Keep.refl s)
  | hostHoldExpire => exact keep_execHostHoldExpire (Keep.refl s)
  | t1Retry => exact keep_execT1Retry (Keep.refl s)
  | t1ReplayTimeout => exact keep_execT1ReplayTimeout (Keep.refl s)
  | slewEnd => exact keep_execSlewEnd (Keep.refl s)
  | epochFloorWrite => exact keep_execEpochFloorWrite (Keep.refl s)
  | modeTransitionComplete => exact keep_execModeTransitionComplete (Keep.refl s)
  | drainTimeout => exact keep_execDrainTimeout (Keep.refl s)
  | watchWindowExpire => exact keep_execWatchWindowExpire (Keep.refl s)
  | holdoverExit => exact keep_execHoldoverExit (Keep.refl s)
  | netIdleExpire => exact keep_execNetIdleExpire (Keep.refl s)
  | depthChoice => exact keep_execDepthChoice (Keep.refl s)
  | eaveWake => exact keep_execEaveWake (Keep.refl s)
  | xsStable => exact keep_execXsStable (Keep.refl s)
  | decisionPoint => exact keep_execDecisionPoint (Keep.refl s)
  | exposeCommitSend => exact keep_execExposeCommitSend (Keep.refl s)
  | fixerPrepareTimeout => exact keep_execFixerPrepareTimeout (Keep.refl s)
  | exposureInstant => exact keep_execExposureInstant (Keep.refl s)
  | recordRead => exact keep_execRecordRead (Keep.refl s)
  | timePropose => exact keep_execTimePropose (Keep.refl s)
  | tokenIdentity => exact keep_execTokenIdentity (Keep.refl s)
  | cardRequest => exact keep_execCardRequest (Keep.refl s)
  | epochSample => exact keep_execEpochSample (Keep.refl s)
  | exposePrepare => exact keep_execExposePrepare (Keep.refl s)
  | exposeCommit => exact keep_execExposeCommit (Keep.refl s)
  | exposeRollback => exact keep_execExposeRollback (Keep.refl s)
  | laneResponse => exact keep_execLaneResponse (Keep.refl s)
  | recordAppend => exact keep_execRecordAppend (Keep.refl s)
  | fixerEvent => exact keep_execFixerEvent (Keep.refl s)
  | wakeStrobe => exact keep_execWakeStrobe (Keep.refl s)
  | epochSampleTimer => exact keep_execEpochSampleTimer (Keep.refl s)
  | laneProbe => exact keep_execLaneProbe (Keep.refl s)
  | laneRequestTimeout => exact keep_execLaneRequestTimeout (Keep.refl s)
  | cycleVerdict => exact keep_execCycleVerdict (Keep.refl s)
  | suspectHoldExpire => exact keep_execSuspectHoldExpire (Keep.refl s)
  | approachMaxExpire => exact keep_execApproachMaxExpire (Keep.refl s)
  | parkPollStop => exact keep_execParkPollStop (Keep.refl s)
  | cabAbsentExpire => exact keep_execCabAbsentExpire (Keep.refl s)
  | walkawayExpire => exact keep_execWalkawayExpire (Keep.refl s)
  | releaseFrame => exact keep_execReleaseFrame (Keep.refl s)
  | releaseFrameTransmitted => exact keep_execReleaseFrameTransmitted (Keep.refl s)
  | learnTimeout => exact keep_execLearnTimeout (Keep.refl s)
  | lfAutoDiag => exact keep_execLfAutoDiag (Keep.refl s)
  | lfCommandSequenceStart => exact keep_execLfCommandSequenceStart (Keep.refl s)
  | uhfLock => exact keep_execUhfLock (Keep.refl s)
  | uhfLockTimeout => exact keep_execUhfLockTimeout (Keep.refl s)
  | uhfLockLost => exact keep_execUhfLockLost (Keep.refl s)
  | uhfRampUpDone => exact keep_execUhfRampUpDone (Keep.refl s)
  | uhfTxEnd => exact keep_execUhfTxEnd (Keep.refl s)
  | uhfRampDownDone => exact keep_execUhfRampDownDone (Keep.refl s)
  | uhfRxWindowEnd => exact keep_execUhfRxWindowEnd (Keep.refl s)
  | uhfTxDeadline => exact keep_execUhfTxDeadline (Keep.refl s)
  | dutyBucketRoll => exact keep_execDutyBucketRoll (Keep.refl s)
  | rangingVerdict => exact keep_execRangingVerdict (Keep.refl s)
  | speedSample => exact keep_execSpeedSample (Keep.refl s)
  | activityRecord => exact keep_execActivityRecord (Keep.refl s)
  | sensorCheck => exact keep_execSensorCheck (Keep.refl s)
  | sensorReplyTimeout => exact keep_execSensorReplyTimeout (Keep.refl s)
  | supplyLossWarning => exact keep_execSupplyLossWarning (Keep.refl s)
  | fixerSlewEnd => exact keep_execFixerSlewEnd (Keep.refl s)
  | fDieStart => exact keep_execFDieStart (Keep.refl s)
  | generationRetire => exact keep_execGenerationRetire (Keep.refl s)
  | p27TxScan => exact keep_execP27TxScan (Keep.refl s)
  | cipherLoopResult => exact keep_execCipherLoopResult (Keep.refl s)
  | auditPass => exact keep_execAuditPass (Keep.refl s)
  | startupTestPass => exact keep_execStartupTestPass (Keep.refl s)
  | storeOperationDone => exact keep_execStoreOperationDone (Keep.refl s)
  | logFlush => exact keep_execLogFlush (Keep.refl s)
  | captureFlush => exact keep_execCaptureFlush (Keep.refl s)
  | hostFlush => exact keep_execHostFlush (Keep.refl s)
  | stripYield => exact keep_execStripYield (Keep.refl s)
  | logSortExpire => exact keep_execLogSortExpire (Keep.refl s)
  | stowCheck => exact keep_execStowCheck (Keep.refl s)
  | trialWindowExpire => exact keep_execTrialWindowExpire (Keep.refl s)
  | heartbeatTimeout => exact keep_execHeartbeatTimeout (Keep.refl s)
  | vbatReturn => exact keep_execVbatReturn (Keep.refl s)
  | watchdog => exact keep_execWatchdog (Keep.refl s)
  | lockstep => exact keep_execLockstep (Keep.refl s)
  | dieLink => exact keep_execDieLink (Keep.refl s)
  | lockFrameTimeout => exact keep_execLockFrameTimeout (Keep.refl s)
  | coexLeadExpire => exact keep_execCoexLeadExpire (Keep.refl s)
  | pd0AonPowerLoss => exact keep_execPd0AonPowerLoss (Keep.refl s)
  | standingTimeMinute => exact keep_execStandingTimeMinute (Keep.refl s)

/-- The fire that a clock period reaches keeps it. -/
theorem keep_tickFire {r s : State} {n : Nat} (h : Keep r s) : Keep r (tickFire n s) := by
  unfold tickFire
  refine keep_ite ?_ (keep_ite (keep_ite (keep_exposureFires h) ?_) h)
  · split
    · rename_i t e; exact keep_fireRouted (keep_reachCompare h _ e)
    · exact h
  · cases e : firmFire 12 s with
    | none => exact h
    | some t => exact keep_firmFire h _ e

/-- A clock tick keeps it too. -/
theorem keep_tick {r s : State} (h : Keep r s) : Keep r (tick s) := by
  unfold tick
  replace h : Keep r (settle s) := keep_settle h
  dsimp only
  generalize settle s = u at h ⊢
  have h1 : Keep r (if u.boot.phase = .dark then u else match nextFire u with
      | some n => tickFire n u
      | none => if u.time.routing = [] then advance 1 u else runRoutes routeDepth (advance 1 u)) := by
    refine keep_ite h ?_
    split
    · exact keep_tickFire h
    · exact keep_ite (keep_advance h) (keep_runRoutes (keep_advance h))
  exact keep_ite (keep_useFree (keep_modFix (keep_ownEdges h1))) (keep_ownEdges h1)

end Sys2Proof.Machine
end

