-- ==== Sys2Proof/Laws/State.lean ====
section
/-! SUPPORT. One lemma per field of `State` and per update of one of its parts, so that no later proof unfolds an update. -/

namespace Sys2Proof.Machine

variable (s : State)

@[simp] theorem State.modHost_pending (f : HostLink → HostLink) : (s.modHost f).pending = s.pending := rfl
@[simp] theorem State.modHost_free (f : HostLink → HostLink) : (s.modHost f).free = s.free := rfl
@[simp] theorem State.modHost_host (f : HostLink → HostLink) : (s.modHost f).host = f s.host := rfl
@[simp] theorem State.modHost_ev (f : HostLink → HostLink) : (s.modHost f).ev = s.ev := rfl
@[simp] theorem State.modHost_sheet (f : HostLink → HostLink) : (s.modHost f).sheet = s.sheet := rfl
@[simp] theorem State.modHost_stew (f : HostLink → HostLink) : (s.modHost f).stew = s.stew := rfl
@[simp] theorem State.modHost_conf (f : HostLink → HostLink) : (s.modHost f).conf = s.conf := rfl
@[simp] theorem State.modHost_expo (f : HostLink → HostLink) : (s.modHost f).expo = s.expo := rfl
@[simp] theorem State.modHost_time (f : HostLink → HostLink) : (s.modHost f).time = s.time := rfl
@[simp] theorem State.modHost_power (f : HostLink → HostLink) : (s.modHost f).power = s.power := rfl
@[simp] theorem State.modHost_eave (f : HostLink → HostLink) : (s.modHost f).eave = s.eave := rfl
@[simp] theorem State.modHost_store (f : HostLink → HostLink) : (s.modHost f).store = s.store := rfl
@[simp] theorem State.modHost_vault (f : HostLink → HostLink) : (s.modHost f).vault = s.vault := rfl
@[simp] theorem State.modHost_safe (f : HostLink → HostLink) : (s.modHost f).safe = s.safe := rfl
@[simp] theorem State.modHost_lane (f : HostLink → HostLink) : (s.modHost f).lane = s.lane := rfl
@[simp] theorem State.modHost_mem (f : HostLink → HostLink) : (s.modHost f).mem = s.mem := rfl
@[simp] theorem State.modHost_access (f : HostLink → HostLink) : (s.modHost f).access = s.access := rfl
@[simp] theorem State.modHost_lf (f : HostLink → HostLink) : (s.modHost f).lf = s.lf := rfl
@[simp] theorem State.modHost_uhf (f : HostLink → HostLink) : (s.modHost f).uhf = s.uhf := rfl
@[simp] theorem State.modHost_range (f : HostLink → HostLink) : (s.modHost f).range = s.range := rfl
@[simp] theorem State.modHost_sw (f : HostLink → HostLink) : (s.modHost f).sw = s.sw := rfl
@[simp] theorem State.modHost_ciph (f : HostLink → HostLink) : (s.modHost f).ciph = s.ciph := rfl
@[simp] theorem State.modHost_grain (f : HostLink → HostLink) : (s.modHost f).grain = s.grain := rfl
@[simp] theorem State.modHost_fix (f : HostLink → HostLink) : (s.modHost f).fix = s.fix := rfl
@[simp] theorem State.modHost_boot (f : HostLink → HostLink) : (s.modHost f).boot = s.boot := rfl

@[simp] theorem State.modEv_pending (f : EvUnit → EvUnit) : (s.modEv f).pending = s.pending := rfl
@[simp] theorem State.modEv_free (f : EvUnit → EvUnit) : (s.modEv f).free = s.free := rfl
@[simp] theorem State.modEv_host (f : EvUnit → EvUnit) : (s.modEv f).host = s.host := rfl
@[simp] theorem State.modEv_ev (f : EvUnit → EvUnit) : (s.modEv f).ev = f s.ev := rfl
@[simp] theorem State.modEv_sheet (f : EvUnit → EvUnit) : (s.modEv f).sheet = s.sheet := rfl
@[simp] theorem State.modEv_stew (f : EvUnit → EvUnit) : (s.modEv f).stew = s.stew := rfl
@[simp] theorem State.modEv_conf (f : EvUnit → EvUnit) : (s.modEv f).conf = s.conf := rfl
@[simp] theorem State.modEv_expo (f : EvUnit → EvUnit) : (s.modEv f).expo = s.expo := rfl
@[simp] theorem State.modEv_time (f : EvUnit → EvUnit) : (s.modEv f).time = s.time := rfl
@[simp] theorem State.modEv_power (f : EvUnit → EvUnit) : (s.modEv f).power = s.power := rfl
@[simp] theorem State.modEv_eave (f : EvUnit → EvUnit) : (s.modEv f).eave = s.eave := rfl
@[simp] theorem State.modEv_store (f : EvUnit → EvUnit) : (s.modEv f).store = s.store := rfl
@[simp] theorem State.modEv_vault (f : EvUnit → EvUnit) : (s.modEv f).vault = s.vault := rfl
@[simp] theorem State.modEv_safe (f : EvUnit → EvUnit) : (s.modEv f).safe = s.safe := rfl
@[simp] theorem State.modEv_lane (f : EvUnit → EvUnit) : (s.modEv f).lane = s.lane := rfl
@[simp] theorem State.modEv_mem (f : EvUnit → EvUnit) : (s.modEv f).mem = s.mem := rfl
@[simp] theorem State.modEv_access (f : EvUnit → EvUnit) : (s.modEv f).access = s.access := rfl
@[simp] theorem State.modEv_lf (f : EvUnit → EvUnit) : (s.modEv f).lf = s.lf := rfl
@[simp] theorem State.modEv_uhf (f : EvUnit → EvUnit) : (s.modEv f).uhf = s.uhf := rfl
@[simp] theorem State.modEv_range (f : EvUnit → EvUnit) : (s.modEv f).range = s.range := rfl
@[simp] theorem State.modEv_sw (f : EvUnit → EvUnit) : (s.modEv f).sw = s.sw := rfl
@[simp] theorem State.modEv_ciph (f : EvUnit → EvUnit) : (s.modEv f).ciph = s.ciph := rfl
@[simp] theorem State.modEv_grain (f : EvUnit → EvUnit) : (s.modEv f).grain = s.grain := rfl
@[simp] theorem State.modEv_fix (f : EvUnit → EvUnit) : (s.modEv f).fix = s.fix := rfl
@[simp] theorem State.modEv_boot (f : EvUnit → EvUnit) : (s.modEv f).boot = s.boot := rfl

@[simp] theorem State.modSheet_pending (f : Sheet → Sheet) : (s.modSheet f).pending = s.pending := rfl
@[simp] theorem State.modSheet_free (f : Sheet → Sheet) : (s.modSheet f).free = s.free := rfl
@[simp] theorem State.modSheet_host (f : Sheet → Sheet) : (s.modSheet f).host = s.host := rfl
@[simp] theorem State.modSheet_ev (f : Sheet → Sheet) : (s.modSheet f).ev = s.ev := rfl
@[simp] theorem State.modSheet_sheet (f : Sheet → Sheet) : (s.modSheet f).sheet = f s.sheet := rfl
@[simp] theorem State.modSheet_stew (f : Sheet → Sheet) : (s.modSheet f).stew = s.stew := rfl
@[simp] theorem State.modSheet_conf (f : Sheet → Sheet) : (s.modSheet f).conf = s.conf := rfl
@[simp] theorem State.modSheet_expo (f : Sheet → Sheet) : (s.modSheet f).expo = s.expo := rfl
@[simp] theorem State.modSheet_time (f : Sheet → Sheet) : (s.modSheet f).time = s.time := rfl
@[simp] theorem State.modSheet_power (f : Sheet → Sheet) : (s.modSheet f).power = s.power := rfl
@[simp] theorem State.modSheet_eave (f : Sheet → Sheet) : (s.modSheet f).eave = s.eave := rfl
@[simp] theorem State.modSheet_store (f : Sheet → Sheet) : (s.modSheet f).store = s.store := rfl
@[simp] theorem State.modSheet_vault (f : Sheet → Sheet) : (s.modSheet f).vault = s.vault := rfl
@[simp] theorem State.modSheet_safe (f : Sheet → Sheet) : (s.modSheet f).safe = s.safe := rfl
@[simp] theorem State.modSheet_lane (f : Sheet → Sheet) : (s.modSheet f).lane = s.lane := rfl
@[simp] theorem State.modSheet_mem (f : Sheet → Sheet) : (s.modSheet f).mem = s.mem := rfl
@[simp] theorem State.modSheet_access (f : Sheet → Sheet) : (s.modSheet f).access = s.access := rfl
@[simp] theorem State.modSheet_lf (f : Sheet → Sheet) : (s.modSheet f).lf = s.lf := rfl
@[simp] theorem State.modSheet_uhf (f : Sheet → Sheet) : (s.modSheet f).uhf = s.uhf := rfl
@[simp] theorem State.modSheet_range (f : Sheet → Sheet) : (s.modSheet f).range = s.range := rfl
@[simp] theorem State.modSheet_sw (f : Sheet → Sheet) : (s.modSheet f).sw = s.sw := rfl
@[simp] theorem State.modSheet_ciph (f : Sheet → Sheet) : (s.modSheet f).ciph = s.ciph := rfl
@[simp] theorem State.modSheet_grain (f : Sheet → Sheet) : (s.modSheet f).grain = s.grain := rfl
@[simp] theorem State.modSheet_fix (f : Sheet → Sheet) : (s.modSheet f).fix = s.fix := rfl
@[simp] theorem State.modSheet_boot (f : Sheet → Sheet) : (s.modSheet f).boot = s.boot := rfl

@[simp] theorem State.modStew_pending (f : Steward → Steward) : (s.modStew f).pending = s.pending := rfl
@[simp] theorem State.modStew_free (f : Steward → Steward) : (s.modStew f).free = s.free := rfl
@[simp] theorem State.modStew_host (f : Steward → Steward) : (s.modStew f).host = s.host := rfl
@[simp] theorem State.modStew_ev (f : Steward → Steward) : (s.modStew f).ev = s.ev := rfl
@[simp] theorem State.modStew_sheet (f : Steward → Steward) : (s.modStew f).sheet = s.sheet := rfl
@[simp] theorem State.modStew_stew (f : Steward → Steward) : (s.modStew f).stew = f s.stew := rfl
@[simp] theorem State.modStew_conf (f : Steward → Steward) : (s.modStew f).conf = s.conf := rfl
@[simp] theorem State.modStew_expo (f : Steward → Steward) : (s.modStew f).expo = s.expo := rfl
@[simp] theorem State.modStew_time (f : Steward → Steward) : (s.modStew f).time = s.time := rfl
@[simp] theorem State.modStew_power (f : Steward → Steward) : (s.modStew f).power = s.power := rfl
@[simp] theorem State.modStew_eave (f : Steward → Steward) : (s.modStew f).eave = s.eave := rfl
@[simp] theorem State.modStew_store (f : Steward → Steward) : (s.modStew f).store = s.store := rfl
@[simp] theorem State.modStew_vault (f : Steward → Steward) : (s.modStew f).vault = s.vault := rfl
@[simp] theorem State.modStew_safe (f : Steward → Steward) : (s.modStew f).safe = s.safe := rfl
@[simp] theorem State.modStew_lane (f : Steward → Steward) : (s.modStew f).lane = s.lane := rfl
@[simp] theorem State.modStew_mem (f : Steward → Steward) : (s.modStew f).mem = s.mem := rfl
@[simp] theorem State.modStew_access (f : Steward → Steward) : (s.modStew f).access = s.access := rfl
@[simp] theorem State.modStew_lf (f : Steward → Steward) : (s.modStew f).lf = s.lf := rfl
@[simp] theorem State.modStew_uhf (f : Steward → Steward) : (s.modStew f).uhf = s.uhf := rfl
@[simp] theorem State.modStew_range (f : Steward → Steward) : (s.modStew f).range = s.range := rfl
@[simp] theorem State.modStew_sw (f : Steward → Steward) : (s.modStew f).sw = s.sw := rfl
@[simp] theorem State.modStew_ciph (f : Steward → Steward) : (s.modStew f).ciph = s.ciph := rfl
@[simp] theorem State.modStew_grain (f : Steward → Steward) : (s.modStew f).grain = s.grain := rfl
@[simp] theorem State.modStew_fix (f : Steward → Steward) : (s.modStew f).fix = s.fix := rfl
@[simp] theorem State.modStew_boot (f : Steward → Steward) : (s.modStew f).boot = s.boot := rfl

@[simp] theorem State.modConf_pending (f : Conf → Conf) : (s.modConf f).pending = s.pending := rfl
@[simp] theorem State.modConf_free (f : Conf → Conf) : (s.modConf f).free = s.free := rfl
@[simp] theorem State.modConf_host (f : Conf → Conf) : (s.modConf f).host = s.host := rfl
@[simp] theorem State.modConf_ev (f : Conf → Conf) : (s.modConf f).ev = s.ev := rfl
@[simp] theorem State.modConf_sheet (f : Conf → Conf) : (s.modConf f).sheet = s.sheet := rfl
@[simp] theorem State.modConf_stew (f : Conf → Conf) : (s.modConf f).stew = s.stew := rfl
@[simp] theorem State.modConf_conf (f : Conf → Conf) : (s.modConf f).conf = f s.conf := rfl
@[simp] theorem State.modConf_expo (f : Conf → Conf) : (s.modConf f).expo = s.expo := rfl
@[simp] theorem State.modConf_time (f : Conf → Conf) : (s.modConf f).time = s.time := rfl
@[simp] theorem State.modConf_power (f : Conf → Conf) : (s.modConf f).power = s.power := rfl
@[simp] theorem State.modConf_eave (f : Conf → Conf) : (s.modConf f).eave = s.eave := rfl
@[simp] theorem State.modConf_store (f : Conf → Conf) : (s.modConf f).store = s.store := rfl
@[simp] theorem State.modConf_vault (f : Conf → Conf) : (s.modConf f).vault = s.vault := rfl
@[simp] theorem State.modConf_safe (f : Conf → Conf) : (s.modConf f).safe = s.safe := rfl
@[simp] theorem State.modConf_lane (f : Conf → Conf) : (s.modConf f).lane = s.lane := rfl
@[simp] theorem State.modConf_mem (f : Conf → Conf) : (s.modConf f).mem = s.mem := rfl
@[simp] theorem State.modConf_access (f : Conf → Conf) : (s.modConf f).access = s.access := rfl
@[simp] theorem State.modConf_lf (f : Conf → Conf) : (s.modConf f).lf = s.lf := rfl
@[simp] theorem State.modConf_uhf (f : Conf → Conf) : (s.modConf f).uhf = s.uhf := rfl
@[simp] theorem State.modConf_range (f : Conf → Conf) : (s.modConf f).range = s.range := rfl
@[simp] theorem State.modConf_sw (f : Conf → Conf) : (s.modConf f).sw = s.sw := rfl
@[simp] theorem State.modConf_ciph (f : Conf → Conf) : (s.modConf f).ciph = s.ciph := rfl
@[simp] theorem State.modConf_grain (f : Conf → Conf) : (s.modConf f).grain = s.grain := rfl
@[simp] theorem State.modConf_fix (f : Conf → Conf) : (s.modConf f).fix = s.fix := rfl
@[simp] theorem State.modConf_boot (f : Conf → Conf) : (s.modConf f).boot = s.boot := rfl

@[simp] theorem State.modExpo_pending (f : Expo → Expo) : (s.modExpo f).pending = s.pending := rfl
@[simp] theorem State.modExpo_free (f : Expo → Expo) : (s.modExpo f).free = s.free := rfl
@[simp] theorem State.modExpo_host (f : Expo → Expo) : (s.modExpo f).host = s.host := rfl
@[simp] theorem State.modExpo_ev (f : Expo → Expo) : (s.modExpo f).ev = s.ev := rfl
@[simp] theorem State.modExpo_sheet (f : Expo → Expo) : (s.modExpo f).sheet = s.sheet := rfl
@[simp] theorem State.modExpo_stew (f : Expo → Expo) : (s.modExpo f).stew = s.stew := rfl
@[simp] theorem State.modExpo_conf (f : Expo → Expo) : (s.modExpo f).conf = s.conf := rfl
@[simp] theorem State.modExpo_expo (f : Expo → Expo) : (s.modExpo f).expo = f s.expo := rfl
@[simp] theorem State.modExpo_time (f : Expo → Expo) : (s.modExpo f).time = s.time := rfl
@[simp] theorem State.modExpo_power (f : Expo → Expo) : (s.modExpo f).power = s.power := rfl
@[simp] theorem State.modExpo_eave (f : Expo → Expo) : (s.modExpo f).eave = s.eave := rfl
@[simp] theorem State.modExpo_store (f : Expo → Expo) : (s.modExpo f).store = s.store := rfl
@[simp] theorem State.modExpo_vault (f : Expo → Expo) : (s.modExpo f).vault = s.vault := rfl
@[simp] theorem State.modExpo_safe (f : Expo → Expo) : (s.modExpo f).safe = s.safe := rfl
@[simp] theorem State.modExpo_lane (f : Expo → Expo) : (s.modExpo f).lane = s.lane := rfl
@[simp] theorem State.modExpo_mem (f : Expo → Expo) : (s.modExpo f).mem = s.mem := rfl
@[simp] theorem State.modExpo_access (f : Expo → Expo) : (s.modExpo f).access = s.access := rfl
@[simp] theorem State.modExpo_lf (f : Expo → Expo) : (s.modExpo f).lf = s.lf := rfl
@[simp] theorem State.modExpo_uhf (f : Expo → Expo) : (s.modExpo f).uhf = s.uhf := rfl
@[simp] theorem State.modExpo_range (f : Expo → Expo) : (s.modExpo f).range = s.range := rfl
@[simp] theorem State.modExpo_sw (f : Expo → Expo) : (s.modExpo f).sw = s.sw := rfl
@[simp] theorem State.modExpo_ciph (f : Expo → Expo) : (s.modExpo f).ciph = s.ciph := rfl
@[simp] theorem State.modExpo_grain (f : Expo → Expo) : (s.modExpo f).grain = s.grain := rfl
@[simp] theorem State.modExpo_fix (f : Expo → Expo) : (s.modExpo f).fix = s.fix := rfl
@[simp] theorem State.modExpo_boot (f : Expo → Expo) : (s.modExpo f).boot = s.boot := rfl

@[simp] theorem State.modTime_pending (f : TimeBase → TimeBase) : (s.modTime f).pending = s.pending := rfl
@[simp] theorem State.modTime_free (f : TimeBase → TimeBase) : (s.modTime f).free = s.free := rfl
@[simp] theorem State.modTime_host (f : TimeBase → TimeBase) : (s.modTime f).host = s.host := rfl
@[simp] theorem State.modTime_ev (f : TimeBase → TimeBase) : (s.modTime f).ev = s.ev := rfl
@[simp] theorem State.modTime_sheet (f : TimeBase → TimeBase) : (s.modTime f).sheet = s.sheet := rfl
@[simp] theorem State.modTime_stew (f : TimeBase → TimeBase) : (s.modTime f).stew = s.stew := rfl
@[simp] theorem State.modTime_conf (f : TimeBase → TimeBase) : (s.modTime f).conf = s.conf := rfl
@[simp] theorem State.modTime_expo (f : TimeBase → TimeBase) : (s.modTime f).expo = s.expo := rfl
@[simp] theorem State.modTime_time (f : TimeBase → TimeBase) : (s.modTime f).time = f s.time := rfl
@[simp] theorem State.modTime_power (f : TimeBase → TimeBase) : (s.modTime f).power = s.power := rfl
@[simp] theorem State.modTime_eave (f : TimeBase → TimeBase) : (s.modTime f).eave = s.eave := rfl
@[simp] theorem State.modTime_store (f : TimeBase → TimeBase) : (s.modTime f).store = s.store := rfl
@[simp] theorem State.modTime_vault (f : TimeBase → TimeBase) : (s.modTime f).vault = s.vault := rfl
@[simp] theorem State.modTime_safe (f : TimeBase → TimeBase) : (s.modTime f).safe = s.safe := rfl
@[simp] theorem State.modTime_lane (f : TimeBase → TimeBase) : (s.modTime f).lane = s.lane := rfl
@[simp] theorem State.modTime_mem (f : TimeBase → TimeBase) : (s.modTime f).mem = s.mem := rfl
@[simp] theorem State.modTime_access (f : TimeBase → TimeBase) : (s.modTime f).access = s.access := rfl
@[simp] theorem State.modTime_lf (f : TimeBase → TimeBase) : (s.modTime f).lf = s.lf := rfl
@[simp] theorem State.modTime_uhf (f : TimeBase → TimeBase) : (s.modTime f).uhf = s.uhf := rfl
@[simp] theorem State.modTime_range (f : TimeBase → TimeBase) : (s.modTime f).range = s.range := rfl
@[simp] theorem State.modTime_sw (f : TimeBase → TimeBase) : (s.modTime f).sw = s.sw := rfl
@[simp] theorem State.modTime_ciph (f : TimeBase → TimeBase) : (s.modTime f).ciph = s.ciph := rfl
@[simp] theorem State.modTime_grain (f : TimeBase → TimeBase) : (s.modTime f).grain = s.grain := rfl
@[simp] theorem State.modTime_fix (f : TimeBase → TimeBase) : (s.modTime f).fix = s.fix := rfl
@[simp] theorem State.modTime_boot (f : TimeBase → TimeBase) : (s.modTime f).boot = s.boot := rfl

@[simp] theorem State.modPower_pending (f : Power → Power) : (s.modPower f).pending = s.pending := rfl
@[simp] theorem State.modPower_free (f : Power → Power) : (s.modPower f).free = s.free := rfl
@[simp] theorem State.modPower_host (f : Power → Power) : (s.modPower f).host = s.host := rfl
@[simp] theorem State.modPower_ev (f : Power → Power) : (s.modPower f).ev = s.ev := rfl
@[simp] theorem State.modPower_sheet (f : Power → Power) : (s.modPower f).sheet = s.sheet := rfl
@[simp] theorem State.modPower_stew (f : Power → Power) : (s.modPower f).stew = s.stew := rfl
@[simp] theorem State.modPower_conf (f : Power → Power) : (s.modPower f).conf = s.conf := rfl
@[simp] theorem State.modPower_expo (f : Power → Power) : (s.modPower f).expo = s.expo := rfl
@[simp] theorem State.modPower_time (f : Power → Power) : (s.modPower f).time = s.time := rfl
@[simp] theorem State.modPower_power (f : Power → Power) : (s.modPower f).power = f s.power := rfl
@[simp] theorem State.modPower_eave (f : Power → Power) : (s.modPower f).eave = s.eave := rfl
@[simp] theorem State.modPower_store (f : Power → Power) : (s.modPower f).store = s.store := rfl
@[simp] theorem State.modPower_vault (f : Power → Power) : (s.modPower f).vault = s.vault := rfl
@[simp] theorem State.modPower_safe (f : Power → Power) : (s.modPower f).safe = s.safe := rfl
@[simp] theorem State.modPower_lane (f : Power → Power) : (s.modPower f).lane = s.lane := rfl
@[simp] theorem State.modPower_mem (f : Power → Power) : (s.modPower f).mem = s.mem := rfl
@[simp] theorem State.modPower_access (f : Power → Power) : (s.modPower f).access = s.access := rfl
@[simp] theorem State.modPower_lf (f : Power → Power) : (s.modPower f).lf = s.lf := rfl
@[simp] theorem State.modPower_uhf (f : Power → Power) : (s.modPower f).uhf = s.uhf := rfl
@[simp] theorem State.modPower_range (f : Power → Power) : (s.modPower f).range = s.range := rfl
@[simp] theorem State.modPower_sw (f : Power → Power) : (s.modPower f).sw = s.sw := rfl
@[simp] theorem State.modPower_ciph (f : Power → Power) : (s.modPower f).ciph = s.ciph := rfl
@[simp] theorem State.modPower_grain (f : Power → Power) : (s.modPower f).grain = s.grain := rfl
@[simp] theorem State.modPower_fix (f : Power → Power) : (s.modPower f).fix = s.fix := rfl
@[simp] theorem State.modPower_boot (f : Power → Power) : (s.modPower f).boot = s.boot := rfl

@[simp] theorem State.modEave_pending (f : Eave → Eave) : (s.modEave f).pending = s.pending := rfl
@[simp] theorem State.modEave_free (f : Eave → Eave) : (s.modEave f).free = s.free := rfl
@[simp] theorem State.modEave_host (f : Eave → Eave) : (s.modEave f).host = s.host := rfl
@[simp] theorem State.modEave_ev (f : Eave → Eave) : (s.modEave f).ev = s.ev := rfl
@[simp] theorem State.modEave_sheet (f : Eave → Eave) : (s.modEave f).sheet = s.sheet := rfl
@[simp] theorem State.modEave_stew (f : Eave → Eave) : (s.modEave f).stew = s.stew := rfl
@[simp] theorem State.modEave_conf (f : Eave → Eave) : (s.modEave f).conf = s.conf := rfl
@[simp] theorem State.modEave_expo (f : Eave → Eave) : (s.modEave f).expo = s.expo := rfl
@[simp] theorem State.modEave_time (f : Eave → Eave) : (s.modEave f).time = s.time := rfl
@[simp] theorem State.modEave_power (f : Eave → Eave) : (s.modEave f).power = s.power := rfl
@[simp] theorem State.modEave_eave (f : Eave → Eave) : (s.modEave f).eave = f s.eave := rfl
@[simp] theorem State.modEave_store (f : Eave → Eave) : (s.modEave f).store = s.store := rfl
@[simp] theorem State.modEave_vault (f : Eave → Eave) : (s.modEave f).vault = s.vault := rfl
@[simp] theorem State.modEave_safe (f : Eave → Eave) : (s.modEave f).safe = s.safe := rfl
@[simp] theorem State.modEave_lane (f : Eave → Eave) : (s.modEave f).lane = s.lane := rfl
@[simp] theorem State.modEave_mem (f : Eave → Eave) : (s.modEave f).mem = s.mem := rfl
@[simp] theorem State.modEave_access (f : Eave → Eave) : (s.modEave f).access = s.access := rfl
@[simp] theorem State.modEave_lf (f : Eave → Eave) : (s.modEave f).lf = s.lf := rfl
@[simp] theorem State.modEave_uhf (f : Eave → Eave) : (s.modEave f).uhf = s.uhf := rfl
@[simp] theorem State.modEave_range (f : Eave → Eave) : (s.modEave f).range = s.range := rfl
@[simp] theorem State.modEave_sw (f : Eave → Eave) : (s.modEave f).sw = s.sw := rfl
@[simp] theorem State.modEave_ciph (f : Eave → Eave) : (s.modEave f).ciph = s.ciph := rfl
@[simp] theorem State.modEave_grain (f : Eave → Eave) : (s.modEave f).grain = s.grain := rfl
@[simp] theorem State.modEave_fix (f : Eave → Eave) : (s.modEave f).fix = s.fix := rfl
@[simp] theorem State.modEave_boot (f : Eave → Eave) : (s.modEave f).boot = s.boot := rfl

@[simp] theorem State.modStore_pending (f : Store → Store) : (s.modStore f).pending = s.pending := rfl
@[simp] theorem State.modStore_free (f : Store → Store) : (s.modStore f).free = s.free := rfl
@[simp] theorem State.modStore_host (f : Store → Store) : (s.modStore f).host = s.host := rfl
@[simp] theorem State.modStore_ev (f : Store → Store) : (s.modStore f).ev = s.ev := rfl
@[simp] theorem State.modStore_sheet (f : Store → Store) : (s.modStore f).sheet = s.sheet := rfl
@[simp] theorem State.modStore_stew (f : Store → Store) : (s.modStore f).stew = s.stew := rfl
@[simp] theorem State.modStore_conf (f : Store → Store) : (s.modStore f).conf = s.conf := rfl
@[simp] theorem State.modStore_expo (f : Store → Store) : (s.modStore f).expo = s.expo := rfl
@[simp] theorem State.modStore_time (f : Store → Store) : (s.modStore f).time = s.time := rfl
@[simp] theorem State.modStore_power (f : Store → Store) : (s.modStore f).power = s.power := rfl
@[simp] theorem State.modStore_eave (f : Store → Store) : (s.modStore f).eave = s.eave := rfl
@[simp] theorem State.modStore_store (f : Store → Store) : (s.modStore f).store = f s.store := rfl
@[simp] theorem State.modStore_vault (f : Store → Store) : (s.modStore f).vault = s.vault := rfl
@[simp] theorem State.modStore_safe (f : Store → Store) : (s.modStore f).safe = s.safe := rfl
@[simp] theorem State.modStore_lane (f : Store → Store) : (s.modStore f).lane = s.lane := rfl
@[simp] theorem State.modStore_mem (f : Store → Store) : (s.modStore f).mem = s.mem := rfl
@[simp] theorem State.modStore_access (f : Store → Store) : (s.modStore f).access = s.access := rfl
@[simp] theorem State.modStore_lf (f : Store → Store) : (s.modStore f).lf = s.lf := rfl
@[simp] theorem State.modStore_uhf (f : Store → Store) : (s.modStore f).uhf = s.uhf := rfl
@[simp] theorem State.modStore_range (f : Store → Store) : (s.modStore f).range = s.range := rfl
@[simp] theorem State.modStore_sw (f : Store → Store) : (s.modStore f).sw = s.sw := rfl
@[simp] theorem State.modStore_ciph (f : Store → Store) : (s.modStore f).ciph = s.ciph := rfl
@[simp] theorem State.modStore_grain (f : Store → Store) : (s.modStore f).grain = s.grain := rfl
@[simp] theorem State.modStore_fix (f : Store → Store) : (s.modStore f).fix = s.fix := rfl
@[simp] theorem State.modStore_boot (f : Store → Store) : (s.modStore f).boot = s.boot := rfl

@[simp] theorem State.modVault_pending (f : Vault → Vault) : (s.modVault f).pending = s.pending := rfl
@[simp] theorem State.modVault_free (f : Vault → Vault) : (s.modVault f).free = s.free := rfl
@[simp] theorem State.modVault_host (f : Vault → Vault) : (s.modVault f).host = s.host := rfl
@[simp] theorem State.modVault_ev (f : Vault → Vault) : (s.modVault f).ev = s.ev := rfl
@[simp] theorem State.modVault_sheet (f : Vault → Vault) : (s.modVault f).sheet = s.sheet := rfl
@[simp] theorem State.modVault_stew (f : Vault → Vault) : (s.modVault f).stew = s.stew := rfl
@[simp] theorem State.modVault_conf (f : Vault → Vault) : (s.modVault f).conf = s.conf := rfl
@[simp] theorem State.modVault_expo (f : Vault → Vault) : (s.modVault f).expo = s.expo := rfl
@[simp] theorem State.modVault_time (f : Vault → Vault) : (s.modVault f).time = s.time := rfl
@[simp] theorem State.modVault_power (f : Vault → Vault) : (s.modVault f).power = s.power := rfl
@[simp] theorem State.modVault_eave (f : Vault → Vault) : (s.modVault f).eave = s.eave := rfl
@[simp] theorem State.modVault_store (f : Vault → Vault) : (s.modVault f).store = s.store := rfl
@[simp] theorem State.modVault_vault (f : Vault → Vault) : (s.modVault f).vault = f s.vault := rfl
@[simp] theorem State.modVault_safe (f : Vault → Vault) : (s.modVault f).safe = s.safe := rfl
@[simp] theorem State.modVault_lane (f : Vault → Vault) : (s.modVault f).lane = s.lane := rfl
@[simp] theorem State.modVault_mem (f : Vault → Vault) : (s.modVault f).mem = s.mem := rfl
@[simp] theorem State.modVault_access (f : Vault → Vault) : (s.modVault f).access = s.access := rfl
@[simp] theorem State.modVault_lf (f : Vault → Vault) : (s.modVault f).lf = s.lf := rfl
@[simp] theorem State.modVault_uhf (f : Vault → Vault) : (s.modVault f).uhf = s.uhf := rfl
@[simp] theorem State.modVault_range (f : Vault → Vault) : (s.modVault f).range = s.range := rfl
@[simp] theorem State.modVault_sw (f : Vault → Vault) : (s.modVault f).sw = s.sw := rfl
@[simp] theorem State.modVault_ciph (f : Vault → Vault) : (s.modVault f).ciph = s.ciph := rfl
@[simp] theorem State.modVault_grain (f : Vault → Vault) : (s.modVault f).grain = s.grain := rfl
@[simp] theorem State.modVault_fix (f : Vault → Vault) : (s.modVault f).fix = s.fix := rfl
@[simp] theorem State.modVault_boot (f : Vault → Vault) : (s.modVault f).boot = s.boot := rfl

@[simp] theorem State.modSafe_pending (f : Safe → Safe) : (s.modSafe f).pending = s.pending := rfl
@[simp] theorem State.modSafe_free (f : Safe → Safe) : (s.modSafe f).free = s.free := rfl
@[simp] theorem State.modSafe_host (f : Safe → Safe) : (s.modSafe f).host = s.host := rfl
@[simp] theorem State.modSafe_ev (f : Safe → Safe) : (s.modSafe f).ev = s.ev := rfl
@[simp] theorem State.modSafe_sheet (f : Safe → Safe) : (s.modSafe f).sheet = s.sheet := rfl
@[simp] theorem State.modSafe_stew (f : Safe → Safe) : (s.modSafe f).stew = s.stew := rfl
@[simp] theorem State.modSafe_conf (f : Safe → Safe) : (s.modSafe f).conf = s.conf := rfl
@[simp] theorem State.modSafe_expo (f : Safe → Safe) : (s.modSafe f).expo = s.expo := rfl
@[simp] theorem State.modSafe_time (f : Safe → Safe) : (s.modSafe f).time = s.time := rfl
@[simp] theorem State.modSafe_power (f : Safe → Safe) : (s.modSafe f).power = s.power := rfl
@[simp] theorem State.modSafe_eave (f : Safe → Safe) : (s.modSafe f).eave = s.eave := rfl
@[simp] theorem State.modSafe_store (f : Safe → Safe) : (s.modSafe f).store = s.store := rfl
@[simp] theorem State.modSafe_vault (f : Safe → Safe) : (s.modSafe f).vault = s.vault := rfl
@[simp] theorem State.modSafe_safe (f : Safe → Safe) : (s.modSafe f).safe = f s.safe := rfl
@[simp] theorem State.modSafe_lane (f : Safe → Safe) : (s.modSafe f).lane = s.lane := rfl
@[simp] theorem State.modSafe_mem (f : Safe → Safe) : (s.modSafe f).mem = s.mem := rfl
@[simp] theorem State.modSafe_access (f : Safe → Safe) : (s.modSafe f).access = s.access := rfl
@[simp] theorem State.modSafe_lf (f : Safe → Safe) : (s.modSafe f).lf = s.lf := rfl
@[simp] theorem State.modSafe_uhf (f : Safe → Safe) : (s.modSafe f).uhf = s.uhf := rfl
@[simp] theorem State.modSafe_range (f : Safe → Safe) : (s.modSafe f).range = s.range := rfl
@[simp] theorem State.modSafe_sw (f : Safe → Safe) : (s.modSafe f).sw = s.sw := rfl
@[simp] theorem State.modSafe_ciph (f : Safe → Safe) : (s.modSafe f).ciph = s.ciph := rfl
@[simp] theorem State.modSafe_grain (f : Safe → Safe) : (s.modSafe f).grain = s.grain := rfl
@[simp] theorem State.modSafe_fix (f : Safe → Safe) : (s.modSafe f).fix = s.fix := rfl
@[simp] theorem State.modSafe_boot (f : Safe → Safe) : (s.modSafe f).boot = s.boot := rfl

@[simp] theorem State.modMem_pending (f : Mem → Mem) : (s.modMem f).pending = s.pending := rfl
@[simp] theorem State.modMem_free (f : Mem → Mem) : (s.modMem f).free = s.free := rfl
@[simp] theorem State.modMem_host (f : Mem → Mem) : (s.modMem f).host = s.host := rfl
@[simp] theorem State.modMem_ev (f : Mem → Mem) : (s.modMem f).ev = s.ev := rfl
@[simp] theorem State.modMem_sheet (f : Mem → Mem) : (s.modMem f).sheet = s.sheet := rfl
@[simp] theorem State.modMem_stew (f : Mem → Mem) : (s.modMem f).stew = s.stew := rfl
@[simp] theorem State.modMem_conf (f : Mem → Mem) : (s.modMem f).conf = s.conf := rfl
@[simp] theorem State.modMem_expo (f : Mem → Mem) : (s.modMem f).expo = s.expo := rfl
@[simp] theorem State.modMem_time (f : Mem → Mem) : (s.modMem f).time = s.time := rfl
@[simp] theorem State.modMem_power (f : Mem → Mem) : (s.modMem f).power = s.power := rfl
@[simp] theorem State.modMem_eave (f : Mem → Mem) : (s.modMem f).eave = s.eave := rfl
@[simp] theorem State.modMem_store (f : Mem → Mem) : (s.modMem f).store = s.store := rfl
@[simp] theorem State.modMem_vault (f : Mem → Mem) : (s.modMem f).vault = s.vault := rfl
@[simp] theorem State.modMem_safe (f : Mem → Mem) : (s.modMem f).safe = s.safe := rfl
@[simp] theorem State.modMem_lane (f : Mem → Mem) : (s.modMem f).lane = s.lane := rfl
@[simp] theorem State.modMem_mem (f : Mem → Mem) : (s.modMem f).mem = f s.mem := rfl
@[simp] theorem State.modMem_access (f : Mem → Mem) : (s.modMem f).access = s.access := rfl
@[simp] theorem State.modMem_lf (f : Mem → Mem) : (s.modMem f).lf = s.lf := rfl
@[simp] theorem State.modMem_uhf (f : Mem → Mem) : (s.modMem f).uhf = s.uhf := rfl
@[simp] theorem State.modMem_range (f : Mem → Mem) : (s.modMem f).range = s.range := rfl
@[simp] theorem State.modMem_sw (f : Mem → Mem) : (s.modMem f).sw = s.sw := rfl
@[simp] theorem State.modMem_ciph (f : Mem → Mem) : (s.modMem f).ciph = s.ciph := rfl
@[simp] theorem State.modMem_grain (f : Mem → Mem) : (s.modMem f).grain = s.grain := rfl
@[simp] theorem State.modMem_fix (f : Mem → Mem) : (s.modMem f).fix = s.fix := rfl
@[simp] theorem State.modMem_boot (f : Mem → Mem) : (s.modMem f).boot = s.boot := rfl

@[simp] theorem State.modLane_pending (f : Lane → Lane) : (s.modLane f).pending = s.pending := rfl
@[simp] theorem State.modLane_free (f : Lane → Lane) : (s.modLane f).free = s.free := rfl
@[simp] theorem State.modLane_host (f : Lane → Lane) : (s.modLane f).host = s.host := rfl
@[simp] theorem State.modLane_ev (f : Lane → Lane) : (s.modLane f).ev = s.ev := rfl
@[simp] theorem State.modLane_sheet (f : Lane → Lane) : (s.modLane f).sheet = s.sheet := rfl
@[simp] theorem State.modLane_stew (f : Lane → Lane) : (s.modLane f).stew = s.stew := rfl
@[simp] theorem State.modLane_conf (f : Lane → Lane) : (s.modLane f).conf = s.conf := rfl
@[simp] theorem State.modLane_expo (f : Lane → Lane) : (s.modLane f).expo = s.expo := rfl
@[simp] theorem State.modLane_time (f : Lane → Lane) : (s.modLane f).time = s.time := rfl
@[simp] theorem State.modLane_power (f : Lane → Lane) : (s.modLane f).power = s.power := rfl
@[simp] theorem State.modLane_eave (f : Lane → Lane) : (s.modLane f).eave = s.eave := rfl
@[simp] theorem State.modLane_store (f : Lane → Lane) : (s.modLane f).store = s.store := rfl
@[simp] theorem State.modLane_vault (f : Lane → Lane) : (s.modLane f).vault = s.vault := rfl
@[simp] theorem State.modLane_safe (f : Lane → Lane) : (s.modLane f).safe = s.safe := rfl
@[simp] theorem State.modLane_lane (f : Lane → Lane) : (s.modLane f).lane = f s.lane := rfl
@[simp] theorem State.modLane_mem (f : Lane → Lane) : (s.modLane f).mem = s.mem := rfl
@[simp] theorem State.modLane_access (f : Lane → Lane) : (s.modLane f).access = s.access := rfl
@[simp] theorem State.modLane_lf (f : Lane → Lane) : (s.modLane f).lf = s.lf := rfl
@[simp] theorem State.modLane_uhf (f : Lane → Lane) : (s.modLane f).uhf = s.uhf := rfl
@[simp] theorem State.modLane_range (f : Lane → Lane) : (s.modLane f).range = s.range := rfl
@[simp] theorem State.modLane_sw (f : Lane → Lane) : (s.modLane f).sw = s.sw := rfl
@[simp] theorem State.modLane_ciph (f : Lane → Lane) : (s.modLane f).ciph = s.ciph := rfl
@[simp] theorem State.modLane_grain (f : Lane → Lane) : (s.modLane f).grain = s.grain := rfl
@[simp] theorem State.modLane_fix (f : Lane → Lane) : (s.modLane f).fix = s.fix := rfl
@[simp] theorem State.modLane_boot (f : Lane → Lane) : (s.modLane f).boot = s.boot := rfl

@[simp] theorem State.modAccess_pending (f : Access → Access) : (s.modAccess f).pending = s.pending := rfl
@[simp] theorem State.modAccess_free (f : Access → Access) : (s.modAccess f).free = s.free := rfl
@[simp] theorem State.modAccess_host (f : Access → Access) : (s.modAccess f).host = s.host := rfl
@[simp] theorem State.modAccess_ev (f : Access → Access) : (s.modAccess f).ev = s.ev := rfl
@[simp] theorem State.modAccess_sheet (f : Access → Access) : (s.modAccess f).sheet = s.sheet := rfl
@[simp] theorem State.modAccess_stew (f : Access → Access) : (s.modAccess f).stew = s.stew := rfl
@[simp] theorem State.modAccess_conf (f : Access → Access) : (s.modAccess f).conf = s.conf := rfl
@[simp] theorem State.modAccess_expo (f : Access → Access) : (s.modAccess f).expo = s.expo := rfl
@[simp] theorem State.modAccess_time (f : Access → Access) : (s.modAccess f).time = s.time := rfl
@[simp] theorem State.modAccess_power (f : Access → Access) : (s.modAccess f).power = s.power := rfl
@[simp] theorem State.modAccess_eave (f : Access → Access) : (s.modAccess f).eave = s.eave := rfl
@[simp] theorem State.modAccess_store (f : Access → Access) : (s.modAccess f).store = s.store := rfl
@[simp] theorem State.modAccess_vault (f : Access → Access) : (s.modAccess f).vault = s.vault := rfl
@[simp] theorem State.modAccess_safe (f : Access → Access) : (s.modAccess f).safe = s.safe := rfl
@[simp] theorem State.modAccess_lane (f : Access → Access) : (s.modAccess f).lane = s.lane := rfl
@[simp] theorem State.modAccess_mem (f : Access → Access) : (s.modAccess f).mem = s.mem := rfl
@[simp] theorem State.modAccess_access (f : Access → Access) : (s.modAccess f).access = f s.access := rfl
@[simp] theorem State.modAccess_lf (f : Access → Access) : (s.modAccess f).lf = s.lf := rfl
@[simp] theorem State.modAccess_uhf (f : Access → Access) : (s.modAccess f).uhf = s.uhf := rfl
@[simp] theorem State.modAccess_range (f : Access → Access) : (s.modAccess f).range = s.range := rfl
@[simp] theorem State.modAccess_sw (f : Access → Access) : (s.modAccess f).sw = s.sw := rfl
@[simp] theorem State.modAccess_ciph (f : Access → Access) : (s.modAccess f).ciph = s.ciph := rfl
@[simp] theorem State.modAccess_grain (f : Access → Access) : (s.modAccess f).grain = s.grain := rfl
@[simp] theorem State.modAccess_fix (f : Access → Access) : (s.modAccess f).fix = s.fix := rfl
@[simp] theorem State.modAccess_boot (f : Access → Access) : (s.modAccess f).boot = s.boot := rfl

@[simp] theorem State.modLf_pending (f : Lf → Lf) : (s.modLf f).pending = s.pending := rfl
@[simp] theorem State.modLf_free (f : Lf → Lf) : (s.modLf f).free = s.free := rfl
@[simp] theorem State.modLf_host (f : Lf → Lf) : (s.modLf f).host = s.host := rfl
@[simp] theorem State.modLf_ev (f : Lf → Lf) : (s.modLf f).ev = s.ev := rfl
@[simp] theorem State.modLf_sheet (f : Lf → Lf) : (s.modLf f).sheet = s.sheet := rfl
@[simp] theorem State.modLf_stew (f : Lf → Lf) : (s.modLf f).stew = s.stew := rfl
@[simp] theorem State.modLf_conf (f : Lf → Lf) : (s.modLf f).conf = s.conf := rfl
@[simp] theorem State.modLf_expo (f : Lf → Lf) : (s.modLf f).expo = s.expo := rfl
@[simp] theorem State.modLf_time (f : Lf → Lf) : (s.modLf f).time = s.time := rfl
@[simp] theorem State.modLf_power (f : Lf → Lf) : (s.modLf f).power = s.power := rfl
@[simp] theorem State.modLf_eave (f : Lf → Lf) : (s.modLf f).eave = s.eave := rfl
@[simp] theorem State.modLf_store (f : Lf → Lf) : (s.modLf f).store = s.store := rfl
@[simp] theorem State.modLf_vault (f : Lf → Lf) : (s.modLf f).vault = s.vault := rfl
@[simp] theorem State.modLf_safe (f : Lf → Lf) : (s.modLf f).safe = s.safe := rfl
@[simp] theorem State.modLf_lane (f : Lf → Lf) : (s.modLf f).lane = s.lane := rfl
@[simp] theorem State.modLf_mem (f : Lf → Lf) : (s.modLf f).mem = s.mem := rfl
@[simp] theorem State.modLf_access (f : Lf → Lf) : (s.modLf f).access = s.access := rfl
@[simp] theorem State.modLf_lf (f : Lf → Lf) : (s.modLf f).lf = f s.lf := rfl
@[simp] theorem State.modLf_uhf (f : Lf → Lf) : (s.modLf f).uhf = s.uhf := rfl
@[simp] theorem State.modLf_range (f : Lf → Lf) : (s.modLf f).range = s.range := rfl
@[simp] theorem State.modLf_sw (f : Lf → Lf) : (s.modLf f).sw = s.sw := rfl
@[simp] theorem State.modLf_ciph (f : Lf → Lf) : (s.modLf f).ciph = s.ciph := rfl
@[simp] theorem State.modLf_grain (f : Lf → Lf) : (s.modLf f).grain = s.grain := rfl
@[simp] theorem State.modLf_fix (f : Lf → Lf) : (s.modLf f).fix = s.fix := rfl
@[simp] theorem State.modLf_boot (f : Lf → Lf) : (s.modLf f).boot = s.boot := rfl

@[simp] theorem State.modUhf_pending (f : Uhf → Uhf) : (s.modUhf f).pending = s.pending := rfl
@[simp] theorem State.modUhf_free (f : Uhf → Uhf) : (s.modUhf f).free = s.free := rfl
@[simp] theorem State.modUhf_host (f : Uhf → Uhf) : (s.modUhf f).host = s.host := rfl
@[simp] theorem State.modUhf_ev (f : Uhf → Uhf) : (s.modUhf f).ev = s.ev := rfl
@[simp] theorem State.modUhf_sheet (f : Uhf → Uhf) : (s.modUhf f).sheet = s.sheet := rfl
@[simp] theorem State.modUhf_stew (f : Uhf → Uhf) : (s.modUhf f).stew = s.stew := rfl
@[simp] theorem State.modUhf_conf (f : Uhf → Uhf) : (s.modUhf f).conf = s.conf := rfl
@[simp] theorem State.modUhf_expo (f : Uhf → Uhf) : (s.modUhf f).expo = s.expo := rfl
@[simp] theorem State.modUhf_time (f : Uhf → Uhf) : (s.modUhf f).time = s.time := rfl
@[simp] theorem State.modUhf_power (f : Uhf → Uhf) : (s.modUhf f).power = s.power := rfl
@[simp] theorem State.modUhf_eave (f : Uhf → Uhf) : (s.modUhf f).eave = s.eave := rfl
@[simp] theorem State.modUhf_store (f : Uhf → Uhf) : (s.modUhf f).store = s.store := rfl
@[simp] theorem State.modUhf_vault (f : Uhf → Uhf) : (s.modUhf f).vault = s.vault := rfl
@[simp] theorem State.modUhf_safe (f : Uhf → Uhf) : (s.modUhf f).safe = s.safe := rfl
@[simp] theorem State.modUhf_lane (f : Uhf → Uhf) : (s.modUhf f).lane = s.lane := rfl
@[simp] theorem State.modUhf_mem (f : Uhf → Uhf) : (s.modUhf f).mem = s.mem := rfl
@[simp] theorem State.modUhf_access (f : Uhf → Uhf) : (s.modUhf f).access = s.access := rfl
@[simp] theorem State.modUhf_lf (f : Uhf → Uhf) : (s.modUhf f).lf = s.lf := rfl
@[simp] theorem State.modUhf_uhf (f : Uhf → Uhf) : (s.modUhf f).uhf = f s.uhf := rfl
@[simp] theorem State.modUhf_range (f : Uhf → Uhf) : (s.modUhf f).range = s.range := rfl
@[simp] theorem State.modUhf_sw (f : Uhf → Uhf) : (s.modUhf f).sw = s.sw := rfl
@[simp] theorem State.modUhf_ciph (f : Uhf → Uhf) : (s.modUhf f).ciph = s.ciph := rfl
@[simp] theorem State.modUhf_grain (f : Uhf → Uhf) : (s.modUhf f).grain = s.grain := rfl
@[simp] theorem State.modUhf_fix (f : Uhf → Uhf) : (s.modUhf f).fix = s.fix := rfl
@[simp] theorem State.modUhf_boot (f : Uhf → Uhf) : (s.modUhf f).boot = s.boot := rfl

@[simp] theorem State.modRange_pending (f : Range → Range) : (s.modRange f).pending = s.pending := rfl
@[simp] theorem State.modRange_free (f : Range → Range) : (s.modRange f).free = s.free := rfl
@[simp] theorem State.modRange_host (f : Range → Range) : (s.modRange f).host = s.host := rfl
@[simp] theorem State.modRange_ev (f : Range → Range) : (s.modRange f).ev = s.ev := rfl
@[simp] theorem State.modRange_sheet (f : Range → Range) : (s.modRange f).sheet = s.sheet := rfl
@[simp] theorem State.modRange_stew (f : Range → Range) : (s.modRange f).stew = s.stew := rfl
@[simp] theorem State.modRange_conf (f : Range → Range) : (s.modRange f).conf = s.conf := rfl
@[simp] theorem State.modRange_expo (f : Range → Range) : (s.modRange f).expo = s.expo := rfl
@[simp] theorem State.modRange_time (f : Range → Range) : (s.modRange f).time = s.time := rfl
@[simp] theorem State.modRange_power (f : Range → Range) : (s.modRange f).power = s.power := rfl
@[simp] theorem State.modRange_eave (f : Range → Range) : (s.modRange f).eave = s.eave := rfl
@[simp] theorem State.modRange_store (f : Range → Range) : (s.modRange f).store = s.store := rfl
@[simp] theorem State.modRange_vault (f : Range → Range) : (s.modRange f).vault = s.vault := rfl
@[simp] theorem State.modRange_safe (f : Range → Range) : (s.modRange f).safe = s.safe := rfl
@[simp] theorem State.modRange_lane (f : Range → Range) : (s.modRange f).lane = s.lane := rfl
@[simp] theorem State.modRange_mem (f : Range → Range) : (s.modRange f).mem = s.mem := rfl
@[simp] theorem State.modRange_access (f : Range → Range) : (s.modRange f).access = s.access := rfl
@[simp] theorem State.modRange_lf (f : Range → Range) : (s.modRange f).lf = s.lf := rfl
@[simp] theorem State.modRange_uhf (f : Range → Range) : (s.modRange f).uhf = s.uhf := rfl
@[simp] theorem State.modRange_range (f : Range → Range) : (s.modRange f).range = f s.range := rfl
@[simp] theorem State.modRange_sw (f : Range → Range) : (s.modRange f).sw = s.sw := rfl
@[simp] theorem State.modRange_ciph (f : Range → Range) : (s.modRange f).ciph = s.ciph := rfl
@[simp] theorem State.modRange_grain (f : Range → Range) : (s.modRange f).grain = s.grain := rfl
@[simp] theorem State.modRange_fix (f : Range → Range) : (s.modRange f).fix = s.fix := rfl
@[simp] theorem State.modRange_boot (f : Range → Range) : (s.modRange f).boot = s.boot := rfl

@[simp] theorem State.modSw_pending (f : Switch → Switch) : (s.modSw f).pending = s.pending := rfl
@[simp] theorem State.modSw_free (f : Switch → Switch) : (s.modSw f).free = s.free := rfl
@[simp] theorem State.modSw_host (f : Switch → Switch) : (s.modSw f).host = s.host := rfl
@[simp] theorem State.modSw_ev (f : Switch → Switch) : (s.modSw f).ev = s.ev := rfl
@[simp] theorem State.modSw_sheet (f : Switch → Switch) : (s.modSw f).sheet = s.sheet := rfl
@[simp] theorem State.modSw_stew (f : Switch → Switch) : (s.modSw f).stew = s.stew := rfl
@[simp] theorem State.modSw_conf (f : Switch → Switch) : (s.modSw f).conf = s.conf := rfl
@[simp] theorem State.modSw_expo (f : Switch → Switch) : (s.modSw f).expo = s.expo := rfl
@[simp] theorem State.modSw_time (f : Switch → Switch) : (s.modSw f).time = s.time := rfl
@[simp] theorem State.modSw_power (f : Switch → Switch) : (s.modSw f).power = s.power := rfl
@[simp] theorem State.modSw_eave (f : Switch → Switch) : (s.modSw f).eave = s.eave := rfl
@[simp] theorem State.modSw_store (f : Switch → Switch) : (s.modSw f).store = s.store := rfl
@[simp] theorem State.modSw_vault (f : Switch → Switch) : (s.modSw f).vault = s.vault := rfl
@[simp] theorem State.modSw_safe (f : Switch → Switch) : (s.modSw f).safe = s.safe := rfl
@[simp] theorem State.modSw_lane (f : Switch → Switch) : (s.modSw f).lane = s.lane := rfl
@[simp] theorem State.modSw_mem (f : Switch → Switch) : (s.modSw f).mem = s.mem := rfl
@[simp] theorem State.modSw_access (f : Switch → Switch) : (s.modSw f).access = s.access := rfl
@[simp] theorem State.modSw_lf (f : Switch → Switch) : (s.modSw f).lf = s.lf := rfl
@[simp] theorem State.modSw_uhf (f : Switch → Switch) : (s.modSw f).uhf = s.uhf := rfl
@[simp] theorem State.modSw_range (f : Switch → Switch) : (s.modSw f).range = s.range := rfl
@[simp] theorem State.modSw_sw (f : Switch → Switch) : (s.modSw f).sw = f s.sw := rfl
@[simp] theorem State.modSw_ciph (f : Switch → Switch) : (s.modSw f).ciph = s.ciph := rfl
@[simp] theorem State.modSw_grain (f : Switch → Switch) : (s.modSw f).grain = s.grain := rfl
@[simp] theorem State.modSw_fix (f : Switch → Switch) : (s.modSw f).fix = s.fix := rfl
@[simp] theorem State.modSw_boot (f : Switch → Switch) : (s.modSw f).boot = s.boot := rfl

@[simp] theorem State.modCiph_pending (f : Cipher → Cipher) : (s.modCiph f).pending = s.pending := rfl
@[simp] theorem State.modCiph_free (f : Cipher → Cipher) : (s.modCiph f).free = s.free := rfl
@[simp] theorem State.modCiph_host (f : Cipher → Cipher) : (s.modCiph f).host = s.host := rfl
@[simp] theorem State.modCiph_ev (f : Cipher → Cipher) : (s.modCiph f).ev = s.ev := rfl
@[simp] theorem State.modCiph_sheet (f : Cipher → Cipher) : (s.modCiph f).sheet = s.sheet := rfl
@[simp] theorem State.modCiph_stew (f : Cipher → Cipher) : (s.modCiph f).stew = s.stew := rfl
@[simp] theorem State.modCiph_conf (f : Cipher → Cipher) : (s.modCiph f).conf = s.conf := rfl
@[simp] theorem State.modCiph_expo (f : Cipher → Cipher) : (s.modCiph f).expo = s.expo := rfl
@[simp] theorem State.modCiph_time (f : Cipher → Cipher) : (s.modCiph f).time = s.time := rfl
@[simp] theorem State.modCiph_power (f : Cipher → Cipher) : (s.modCiph f).power = s.power := rfl
@[simp] theorem State.modCiph_eave (f : Cipher → Cipher) : (s.modCiph f).eave = s.eave := rfl
@[simp] theorem State.modCiph_store (f : Cipher → Cipher) : (s.modCiph f).store = s.store := rfl
@[simp] theorem State.modCiph_vault (f : Cipher → Cipher) : (s.modCiph f).vault = s.vault := rfl
@[simp] theorem State.modCiph_safe (f : Cipher → Cipher) : (s.modCiph f).safe = s.safe := rfl
@[simp] theorem State.modCiph_lane (f : Cipher → Cipher) : (s.modCiph f).lane = s.lane := rfl
@[simp] theorem State.modCiph_mem (f : Cipher → Cipher) : (s.modCiph f).mem = s.mem := rfl
@[simp] theorem State.modCiph_access (f : Cipher → Cipher) : (s.modCiph f).access = s.access := rfl
@[simp] theorem State.modCiph_lf (f : Cipher → Cipher) : (s.modCiph f).lf = s.lf := rfl
@[simp] theorem State.modCiph_uhf (f : Cipher → Cipher) : (s.modCiph f).uhf = s.uhf := rfl
@[simp] theorem State.modCiph_range (f : Cipher → Cipher) : (s.modCiph f).range = s.range := rfl
@[simp] theorem State.modCiph_sw (f : Cipher → Cipher) : (s.modCiph f).sw = s.sw := rfl
@[simp] theorem State.modCiph_ciph (f : Cipher → Cipher) : (s.modCiph f).ciph = f s.ciph := rfl
@[simp] theorem State.modCiph_grain (f : Cipher → Cipher) : (s.modCiph f).grain = s.grain := rfl
@[simp] theorem State.modCiph_fix (f : Cipher → Cipher) : (s.modCiph f).fix = s.fix := rfl
@[simp] theorem State.modCiph_boot (f : Cipher → Cipher) : (s.modCiph f).boot = s.boot := rfl

@[simp] theorem State.modGrain_pending (f : Grain → Grain) : (s.modGrain f).pending = s.pending := rfl
@[simp] theorem State.modGrain_free (f : Grain → Grain) : (s.modGrain f).free = s.free := rfl
@[simp] theorem State.modGrain_host (f : Grain → Grain) : (s.modGrain f).host = s.host := rfl
@[simp] theorem State.modGrain_ev (f : Grain → Grain) : (s.modGrain f).ev = s.ev := rfl
@[simp] theorem State.modGrain_sheet (f : Grain → Grain) : (s.modGrain f).sheet = s.sheet := rfl
@[simp] theorem State.modGrain_stew (f : Grain → Grain) : (s.modGrain f).stew = s.stew := rfl
@[simp] theorem State.modGrain_conf (f : Grain → Grain) : (s.modGrain f).conf = s.conf := rfl
@[simp] theorem State.modGrain_expo (f : Grain → Grain) : (s.modGrain f).expo = s.expo := rfl
@[simp] theorem State.modGrain_time (f : Grain → Grain) : (s.modGrain f).time = s.time := rfl
@[simp] theorem State.modGrain_power (f : Grain → Grain) : (s.modGrain f).power = s.power := rfl
@[simp] theorem State.modGrain_eave (f : Grain → Grain) : (s.modGrain f).eave = s.eave := rfl
@[simp] theorem State.modGrain_store (f : Grain → Grain) : (s.modGrain f).store = s.store := rfl
@[simp] theorem State.modGrain_vault (f : Grain → Grain) : (s.modGrain f).vault = s.vault := rfl
@[simp] theorem State.modGrain_safe (f : Grain → Grain) : (s.modGrain f).safe = s.safe := rfl
@[simp] theorem State.modGrain_lane (f : Grain → Grain) : (s.modGrain f).lane = s.lane := rfl
@[simp] theorem State.modGrain_mem (f : Grain → Grain) : (s.modGrain f).mem = s.mem := rfl
@[simp] theorem State.modGrain_access (f : Grain → Grain) : (s.modGrain f).access = s.access := rfl
@[simp] theorem State.modGrain_lf (f : Grain → Grain) : (s.modGrain f).lf = s.lf := rfl
@[simp] theorem State.modGrain_uhf (f : Grain → Grain) : (s.modGrain f).uhf = s.uhf := rfl
@[simp] theorem State.modGrain_range (f : Grain → Grain) : (s.modGrain f).range = s.range := rfl
@[simp] theorem State.modGrain_sw (f : Grain → Grain) : (s.modGrain f).sw = s.sw := rfl
@[simp] theorem State.modGrain_ciph (f : Grain → Grain) : (s.modGrain f).ciph = s.ciph := rfl
@[simp] theorem State.modGrain_grain (f : Grain → Grain) : (s.modGrain f).grain = f s.grain := rfl
@[simp] theorem State.modGrain_fix (f : Grain → Grain) : (s.modGrain f).fix = s.fix := rfl
@[simp] theorem State.modGrain_boot (f : Grain → Grain) : (s.modGrain f).boot = s.boot := rfl

@[simp] theorem State.modFix_pending (f : Fixer → Fixer) : (s.modFix f).pending = s.pending := rfl
@[simp] theorem State.modFix_free (f : Fixer → Fixer) : (s.modFix f).free = s.free := rfl
@[simp] theorem State.modFix_host (f : Fixer → Fixer) : (s.modFix f).host = s.host := rfl
@[simp] theorem State.modFix_ev (f : Fixer → Fixer) : (s.modFix f).ev = s.ev := rfl
@[simp] theorem State.modFix_sheet (f : Fixer → Fixer) : (s.modFix f).sheet = s.sheet := rfl
@[simp] theorem State.modFix_stew (f : Fixer → Fixer) : (s.modFix f).stew = s.stew := rfl
@[simp] theorem State.modFix_conf (f : Fixer → Fixer) : (s.modFix f).conf = s.conf := rfl
@[simp] theorem State.modFix_expo (f : Fixer → Fixer) : (s.modFix f).expo = s.expo := rfl
@[simp] theorem State.modFix_time (f : Fixer → Fixer) : (s.modFix f).time = s.time := rfl
@[simp] theorem State.modFix_power (f : Fixer → Fixer) : (s.modFix f).power = s.power := rfl
@[simp] theorem State.modFix_eave (f : Fixer → Fixer) : (s.modFix f).eave = s.eave := rfl
@[simp] theorem State.modFix_store (f : Fixer → Fixer) : (s.modFix f).store = s.store := rfl
@[simp] theorem State.modFix_vault (f : Fixer → Fixer) : (s.modFix f).vault = s.vault := rfl
@[simp] theorem State.modFix_safe (f : Fixer → Fixer) : (s.modFix f).safe = s.safe := rfl
@[simp] theorem State.modFix_lane (f : Fixer → Fixer) : (s.modFix f).lane = s.lane := rfl
@[simp] theorem State.modFix_mem (f : Fixer → Fixer) : (s.modFix f).mem = s.mem := rfl
@[simp] theorem State.modFix_access (f : Fixer → Fixer) : (s.modFix f).access = s.access := rfl
@[simp] theorem State.modFix_lf (f : Fixer → Fixer) : (s.modFix f).lf = s.lf := rfl
@[simp] theorem State.modFix_uhf (f : Fixer → Fixer) : (s.modFix f).uhf = s.uhf := rfl
@[simp] theorem State.modFix_range (f : Fixer → Fixer) : (s.modFix f).range = s.range := rfl
@[simp] theorem State.modFix_sw (f : Fixer → Fixer) : (s.modFix f).sw = s.sw := rfl
@[simp] theorem State.modFix_ciph (f : Fixer → Fixer) : (s.modFix f).ciph = s.ciph := rfl
@[simp] theorem State.modFix_grain (f : Fixer → Fixer) : (s.modFix f).grain = s.grain := rfl
@[simp] theorem State.modFix_fix (f : Fixer → Fixer) : (s.modFix f).fix = f s.fix := rfl
@[simp] theorem State.modFix_boot (f : Fixer → Fixer) : (s.modFix f).boot = s.boot := rfl

@[simp] theorem State.modBoot_pending (f : Boot → Boot) : (s.modBoot f).pending = s.pending := rfl
@[simp] theorem State.modBoot_free (f : Boot → Boot) : (s.modBoot f).free = s.free := rfl
@[simp] theorem State.modBoot_host (f : Boot → Boot) : (s.modBoot f).host = s.host := rfl
@[simp] theorem State.modBoot_ev (f : Boot → Boot) : (s.modBoot f).ev = s.ev := rfl
@[simp] theorem State.modBoot_sheet (f : Boot → Boot) : (s.modBoot f).sheet = s.sheet := rfl
@[simp] theorem State.modBoot_stew (f : Boot → Boot) : (s.modBoot f).stew = s.stew := rfl
@[simp] theorem State.modBoot_conf (f : Boot → Boot) : (s.modBoot f).conf = s.conf := rfl
@[simp] theorem State.modBoot_expo (f : Boot → Boot) : (s.modBoot f).expo = s.expo := rfl
@[simp] theorem State.modBoot_time (f : Boot → Boot) : (s.modBoot f).time = s.time := rfl
@[simp] theorem State.modBoot_power (f : Boot → Boot) : (s.modBoot f).power = s.power := rfl
@[simp] theorem State.modBoot_eave (f : Boot → Boot) : (s.modBoot f).eave = s.eave := rfl
@[simp] theorem State.modBoot_store (f : Boot → Boot) : (s.modBoot f).store = s.store := rfl
@[simp] theorem State.modBoot_vault (f : Boot → Boot) : (s.modBoot f).vault = s.vault := rfl
@[simp] theorem State.modBoot_safe (f : Boot → Boot) : (s.modBoot f).safe = s.safe := rfl
@[simp] theorem State.modBoot_lane (f : Boot → Boot) : (s.modBoot f).lane = s.lane := rfl
@[simp] theorem State.modBoot_mem (f : Boot → Boot) : (s.modBoot f).mem = s.mem := rfl
@[simp] theorem State.modBoot_access (f : Boot → Boot) : (s.modBoot f).access = s.access := rfl
@[simp] theorem State.modBoot_lf (f : Boot → Boot) : (s.modBoot f).lf = s.lf := rfl
@[simp] theorem State.modBoot_uhf (f : Boot → Boot) : (s.modBoot f).uhf = s.uhf := rfl
@[simp] theorem State.modBoot_range (f : Boot → Boot) : (s.modBoot f).range = s.range := rfl
@[simp] theorem State.modBoot_sw (f : Boot → Boot) : (s.modBoot f).sw = s.sw := rfl
@[simp] theorem State.modBoot_ciph (f : Boot → Boot) : (s.modBoot f).ciph = s.ciph := rfl
@[simp] theorem State.modBoot_grain (f : Boot → Boot) : (s.modBoot f).grain = s.grain := rfl
@[simp] theorem State.modBoot_fix (f : Boot → Boot) : (s.modBoot f).fix = s.fix := rfl
@[simp] theorem State.modBoot_boot (f : Boot → Boot) : (s.modBoot f).boot = f s.boot := rfl

@[simp] theorem State.useFree_pending : s.useFree.pending = s.pending := rfl
@[simp] theorem State.useFree_free : s.useFree.free = s.free + 1 := rfl
@[simp] theorem State.useFree_host : s.useFree.host = s.host := rfl
@[simp] theorem State.useFree_ev : s.useFree.ev = s.ev := rfl
@[simp] theorem State.useFree_sheet : s.useFree.sheet = s.sheet := rfl
@[simp] theorem State.useFree_stew : s.useFree.stew = s.stew := rfl
@[simp] theorem State.useFree_conf : s.useFree.conf = s.conf := rfl
@[simp] theorem State.useFree_expo : s.useFree.expo = s.expo := rfl
@[simp] theorem State.useFree_time : s.useFree.time = s.time := rfl
@[simp] theorem State.useFree_power : s.useFree.power = s.power := rfl
@[simp] theorem State.useFree_eave : s.useFree.eave = s.eave := rfl
@[simp] theorem State.useFree_store : s.useFree.store = s.store := rfl
@[simp] theorem State.useFree_vault : s.useFree.vault = s.vault := rfl
@[simp] theorem State.useFree_safe : s.useFree.safe = s.safe := rfl
@[simp] theorem State.useFree_lane : s.useFree.lane = s.lane := rfl
@[simp] theorem State.useFree_mem : s.useFree.mem = s.mem := rfl
@[simp] theorem State.useFree_access : s.useFree.access = s.access := rfl
@[simp] theorem State.useFree_lf : s.useFree.lf = s.lf := rfl
@[simp] theorem State.useFree_uhf : s.useFree.uhf = s.uhf := rfl
@[simp] theorem State.useFree_range : s.useFree.range = s.range := rfl
@[simp] theorem State.useFree_sw : s.useFree.sw = s.sw := rfl
@[simp] theorem State.useFree_ciph : s.useFree.ciph = s.ciph := rfl
@[simp] theorem State.useFree_grain : s.useFree.grain = s.grain := rfl
@[simp] theorem State.useFree_fix : s.useFree.fix = s.fix := rfl
@[simp] theorem State.useFree_boot : s.useFree.boot = s.boot := rfl

end Sys2Proof.Machine
end

