-- ==== Sys2Proof/Laws/Ops.lean ====
section
/-! SUPPORT. What the shared operations can do: which parts of the state they leave alone, and one lemma per operation that
says its effect, so that no later proof unfolds it. -/

namespace Sys2Proof.Machine

variable (s : State)

/-! ### Frames -/

@[simp] theorem modTicket_pending (k : Nat) (f : TicketEntry → TicketEntry) : (s.modTicket k f).pending = s.pending := rfl
@[simp] theorem modTicket_free (k : Nat) (f : TicketEntry → TicketEntry) : (s.modTicket k f).free = s.free := rfl
@[simp] theorem modTicket_host (k : Nat) (f : TicketEntry → TicketEntry) : (s.modTicket k f).host = s.host := rfl
@[simp] theorem modTicket_ev (k : Nat) (f : TicketEntry → TicketEntry) : (s.modTicket k f).ev = s.ev := rfl
@[simp] theorem modTicket_stew (k : Nat) (f : TicketEntry → TicketEntry) : (s.modTicket k f).stew = s.stew := rfl
@[simp] theorem modTicket_conf (k : Nat) (f : TicketEntry → TicketEntry) : (s.modTicket k f).conf = s.conf := rfl
@[simp] theorem modTicket_expo (k : Nat) (f : TicketEntry → TicketEntry) : (s.modTicket k f).expo = s.expo := rfl
@[simp] theorem modTicket_time (k : Nat) (f : TicketEntry → TicketEntry) : (s.modTicket k f).time = s.time := rfl
@[simp] theorem modTicket_power (k : Nat) (f : TicketEntry → TicketEntry) : (s.modTicket k f).power = s.power := rfl
@[simp] theorem modTicket_eave (k : Nat) (f : TicketEntry → TicketEntry) : (s.modTicket k f).eave = s.eave := rfl
@[simp] theorem modTicket_store (k : Nat) (f : TicketEntry → TicketEntry) : (s.modTicket k f).store = s.store := rfl
@[simp] theorem modTicket_vault (k : Nat) (f : TicketEntry → TicketEntry) : (s.modTicket k f).vault = s.vault := rfl
@[simp] theorem modTicket_safe (k : Nat) (f : TicketEntry → TicketEntry) : (s.modTicket k f).safe = s.safe := rfl
@[simp] theorem modTicket_lane (k : Nat) (f : TicketEntry → TicketEntry) : (s.modTicket k f).lane = s.lane := rfl
@[simp] theorem modTicket_mem (k : Nat) (f : TicketEntry → TicketEntry) : (s.modTicket k f).mem = s.mem := rfl
@[simp] theorem modTicket_access (k : Nat) (f : TicketEntry → TicketEntry) : (s.modTicket k f).access = s.access := rfl
@[simp] theorem modTicket_lf (k : Nat) (f : TicketEntry → TicketEntry) : (s.modTicket k f).lf = s.lf := rfl
@[simp] theorem modTicket_uhf (k : Nat) (f : TicketEntry → TicketEntry) : (s.modTicket k f).uhf = s.uhf := rfl
@[simp] theorem modTicket_range (k : Nat) (f : TicketEntry → TicketEntry) : (s.modTicket k f).range = s.range := rfl
@[simp] theorem modTicket_sw (k : Nat) (f : TicketEntry → TicketEntry) : (s.modTicket k f).sw = s.sw := rfl
@[simp] theorem modTicket_ciph (k : Nat) (f : TicketEntry → TicketEntry) : (s.modTicket k f).ciph = s.ciph := rfl
@[simp] theorem modTicket_grain (k : Nat) (f : TicketEntry → TicketEntry) : (s.modTicket k f).grain = s.grain := rfl
@[simp] theorem modTicket_fix (k : Nat) (f : TicketEntry → TicketEntry) : (s.modTicket k f).fix = s.fix := rfl
@[simp] theorem modTicket_boot (k : Nat) (f : TicketEntry → TicketEntry) : (s.modTicket k f).boot = s.boot := rfl

@[simp] theorem modWork_pending (k : Nat) (f : Work → Work) : (s.modWork k f).pending = s.pending := rfl
@[simp] theorem modWork_free (k : Nat) (f : Work → Work) : (s.modWork k f).free = s.free := rfl
@[simp] theorem modWork_host (k : Nat) (f : Work → Work) : (s.modWork k f).host = s.host := rfl
@[simp] theorem modWork_ev (k : Nat) (f : Work → Work) : (s.modWork k f).ev = s.ev := rfl
@[simp] theorem modWork_sheet (k : Nat) (f : Work → Work) : (s.modWork k f).sheet = s.sheet := rfl
@[simp] theorem modWork_conf (k : Nat) (f : Work → Work) : (s.modWork k f).conf = s.conf := rfl
@[simp] theorem modWork_expo (k : Nat) (f : Work → Work) : (s.modWork k f).expo = s.expo := rfl
@[simp] theorem modWork_time (k : Nat) (f : Work → Work) : (s.modWork k f).time = s.time := rfl
@[simp] theorem modWork_power (k : Nat) (f : Work → Work) : (s.modWork k f).power = s.power := rfl
@[simp] theorem modWork_eave (k : Nat) (f : Work → Work) : (s.modWork k f).eave = s.eave := rfl
@[simp] theorem modWork_store (k : Nat) (f : Work → Work) : (s.modWork k f).store = s.store := rfl
@[simp] theorem modWork_vault (k : Nat) (f : Work → Work) : (s.modWork k f).vault = s.vault := rfl
@[simp] theorem modWork_safe (k : Nat) (f : Work → Work) : (s.modWork k f).safe = s.safe := rfl
@[simp] theorem modWork_lane (k : Nat) (f : Work → Work) : (s.modWork k f).lane = s.lane := rfl
@[simp] theorem modWork_mem (k : Nat) (f : Work → Work) : (s.modWork k f).mem = s.mem := rfl
@[simp] theorem modWork_access (k : Nat) (f : Work → Work) : (s.modWork k f).access = s.access := rfl
@[simp] theorem modWork_lf (k : Nat) (f : Work → Work) : (s.modWork k f).lf = s.lf := rfl
@[simp] theorem modWork_uhf (k : Nat) (f : Work → Work) : (s.modWork k f).uhf = s.uhf := rfl
@[simp] theorem modWork_range (k : Nat) (f : Work → Work) : (s.modWork k f).range = s.range := rfl
@[simp] theorem modWork_sw (k : Nat) (f : Work → Work) : (s.modWork k f).sw = s.sw := rfl
@[simp] theorem modWork_ciph (k : Nat) (f : Work → Work) : (s.modWork k f).ciph = s.ciph := rfl
@[simp] theorem modWork_grain (k : Nat) (f : Work → Work) : (s.modWork k f).grain = s.grain := rfl
@[simp] theorem modWork_fix (k : Nat) (f : Work → Work) : (s.modWork k f).fix = s.fix := rfl
@[simp] theorem modWork_boot (k : Nat) (f : Work → Work) : (s.modWork k f).boot = s.boot := rfl

@[simp] theorem advance_pending (k : Nat) : (advance k s).pending = s.pending := by unfold advance; split <;> rfl
@[simp] theorem advance_free (k : Nat) : (advance k s).free = s.free := by unfold advance; split <;> rfl
@[simp] theorem advance_host (k : Nat) : (advance k s).host = s.host := by unfold advance; split <;> rfl
@[simp] theorem advance_ev (k : Nat) : (advance k s).ev = s.ev := by unfold advance; split <;> rfl
@[simp] theorem advance_sheet (k : Nat) : (advance k s).sheet = s.sheet := by unfold advance; split <;> rfl
@[simp] theorem advance_stew (k : Nat) : (advance k s).stew = s.stew := by unfold advance; split <;> rfl
@[simp] theorem advance_conf (k : Nat) : (advance k s).conf = s.conf := by unfold advance; split <;> rfl
@[simp] theorem advance_expo (k : Nat) : (advance k s).expo = s.expo := by unfold advance; split <;> rfl
@[simp] theorem advance_power (k : Nat) : (advance k s).power = s.power := by unfold advance; split <;> rfl
@[simp] theorem advance_eave (k : Nat) : (advance k s).eave = s.eave := by unfold advance; split <;> rfl
@[simp] theorem advance_store (k : Nat) : (advance k s).store = s.store := by unfold advance; split <;> rfl
@[simp] theorem advance_vault (k : Nat) : (advance k s).vault = s.vault := by unfold advance; split <;> rfl
@[simp] theorem advance_safe (k : Nat) : (advance k s).safe = s.safe := by unfold advance; split <;> rfl
@[simp] theorem advance_lane (k : Nat) : (advance k s).lane = s.lane := by unfold advance; split <;> rfl
@[simp] theorem advance_mem (k : Nat) : (advance k s).mem = s.mem := by unfold advance; split <;> rfl
@[simp] theorem advance_access (k : Nat) : (advance k s).access = s.access := by unfold advance; split <;> rfl
@[simp] theorem advance_lf (k : Nat) : (advance k s).lf = s.lf := by unfold advance; split <;> rfl
@[simp] theorem advance_uhf (k : Nat) : (advance k s).uhf = s.uhf := by unfold advance; split <;> rfl
@[simp] theorem advance_range (k : Nat) : (advance k s).range = s.range := by unfold advance; split <;> rfl
@[simp] theorem advance_sw (k : Nat) : (advance k s).sw = s.sw := by unfold advance; split <;> rfl
@[simp] theorem advance_ciph (k : Nat) : (advance k s).ciph = s.ciph := by unfold advance; split <;> rfl
@[simp] theorem advance_grain (k : Nat) : (advance k s).grain = s.grain := by unfold advance; split <;> rfl
@[simp] theorem advance_fix (k : Nat) : (advance k s).fix = s.fix := by unfold advance; split <;> rfl
@[simp] theorem advance_boot (k : Nat) : (advance k s).boot = s.boot := by unfold advance; split <;> rfl

@[simp] theorem reach_pending (k : Nat) : (reach k s).pending = s.pending := by simp [reach]
@[simp] theorem reach_free (k : Nat) : (reach k s).free = s.free := by simp [reach]
@[simp] theorem reach_host (k : Nat) : (reach k s).host = s.host := by simp [reach]
@[simp] theorem reach_ev (k : Nat) : (reach k s).ev = s.ev := by simp [reach]
@[simp] theorem reach_sheet (k : Nat) : (reach k s).sheet = s.sheet := by simp [reach]
@[simp] theorem reach_stew (k : Nat) : (reach k s).stew = s.stew := by simp [reach]
@[simp] theorem reach_conf (k : Nat) : (reach k s).conf = s.conf := by simp [reach]
@[simp] theorem reach_expo (k : Nat) : (reach k s).expo = s.expo := by simp [reach]
@[simp] theorem reach_power (k : Nat) : (reach k s).power = s.power := by simp [reach]
@[simp] theorem reach_eave (k : Nat) : (reach k s).eave = s.eave := by simp [reach]
@[simp] theorem reach_store (k : Nat) : (reach k s).store = s.store := by simp [reach]
@[simp] theorem reach_vault (k : Nat) : (reach k s).vault = s.vault := by simp [reach]
@[simp] theorem reach_safe (k : Nat) : (reach k s).safe = s.safe := by simp [reach]
@[simp] theorem reach_lane (k : Nat) : (reach k s).lane = s.lane := by simp [reach]
@[simp] theorem reach_mem (k : Nat) : (reach k s).mem = s.mem := by simp [reach]
@[simp] theorem reach_access (k : Nat) : (reach k s).access = s.access := by simp [reach]
@[simp] theorem reach_lf (k : Nat) : (reach k s).lf = s.lf := by simp [reach]
@[simp] theorem reach_uhf (k : Nat) : (reach k s).uhf = s.uhf := by simp [reach]
@[simp] theorem reach_range (k : Nat) : (reach k s).range = s.range := by simp [reach]
@[simp] theorem reach_sw (k : Nat) : (reach k s).sw = s.sw := by simp [reach]
@[simp] theorem reach_ciph (k : Nat) : (reach k s).ciph = s.ciph := by simp [reach]
@[simp] theorem reach_grain (k : Nat) : (reach k s).grain = s.grain := by simp [reach]
@[simp] theorem reach_fix (k : Nat) : (reach k s).fix = s.fix := by simp [reach]
@[simp] theorem reach_boot (k : Nat) : (reach k s).boot = s.boot := by simp [reach]

@[simp] theorem putEvent_pending (r : EvRec) : (putEvent r s).pending = s.pending := by unfold putEvent; dsimp only; split <;> rfl
@[simp] theorem putEvent_free (r : EvRec) : (putEvent r s).free = s.free := by unfold putEvent; dsimp only; split <;> rfl
@[simp] theorem putEvent_ev (r : EvRec) : (putEvent r s).ev = s.ev := by unfold putEvent; dsimp only; split <;> rfl
@[simp] theorem putEvent_sheet (r : EvRec) : (putEvent r s).sheet = s.sheet := by unfold putEvent; dsimp only; split <;> rfl
@[simp] theorem putEvent_stew (r : EvRec) : (putEvent r s).stew = s.stew := by unfold putEvent; dsimp only; split <;> rfl
@[simp] theorem putEvent_conf (r : EvRec) : (putEvent r s).conf = s.conf := by unfold putEvent; dsimp only; split <;> rfl
@[simp] theorem putEvent_expo (r : EvRec) : (putEvent r s).expo = s.expo := by unfold putEvent; dsimp only; split <;> rfl
@[simp] theorem putEvent_time (r : EvRec) : (putEvent r s).time = s.time := by unfold putEvent; dsimp only; split <;> rfl
@[simp] theorem putEvent_power (r : EvRec) : (putEvent r s).power = s.power := by unfold putEvent; dsimp only; split <;> rfl
@[simp] theorem putEvent_eave (r : EvRec) : (putEvent r s).eave = s.eave := by unfold putEvent; dsimp only; split <;> rfl
@[simp] theorem putEvent_store (r : EvRec) : (putEvent r s).store = s.store := by unfold putEvent; dsimp only; split <;> rfl
@[simp] theorem putEvent_vault (r : EvRec) : (putEvent r s).vault = s.vault := by unfold putEvent; dsimp only; split <;> rfl
@[simp] theorem putEvent_lane (r : EvRec) : (putEvent r s).lane = s.lane := by unfold putEvent; dsimp only; split <;> rfl
@[simp] theorem putEvent_mem (r : EvRec) : (putEvent r s).mem = s.mem := by unfold putEvent; dsimp only; split <;> rfl
@[simp] theorem putEvent_access (r : EvRec) : (putEvent r s).access = s.access := by unfold putEvent; dsimp only; split <;> rfl
@[simp] theorem putEvent_lf (r : EvRec) : (putEvent r s).lf = s.lf := by unfold putEvent; dsimp only; split <;> rfl
@[simp] theorem putEvent_uhf (r : EvRec) : (putEvent r s).uhf = s.uhf := by unfold putEvent; dsimp only; split <;> rfl
@[simp] theorem putEvent_range (r : EvRec) : (putEvent r s).range = s.range := by unfold putEvent; dsimp only; split <;> rfl
@[simp] theorem putEvent_sw (r : EvRec) : (putEvent r s).sw = s.sw := by unfold putEvent; dsimp only; split <;> rfl
@[simp] theorem putEvent_ciph (r : EvRec) : (putEvent r s).ciph = s.ciph := by unfold putEvent; dsimp only; split <;> rfl
@[simp] theorem putEvent_grain (r : EvRec) : (putEvent r s).grain = s.grain := by unfold putEvent; dsimp only; split <;> rfl
@[simp] theorem putEvent_fix (r : EvRec) : (putEvent r s).fix = s.fix := by unfold putEvent; dsimp only; split <;> rfl
@[simp] theorem putEvent_boot (r : EvRec) : (putEvent r s).boot = s.boot := by unfold putEvent; dsimp only; split <;> rfl

@[simp] theorem emitAs_pending (q t c d n k : Nat) (b : Bytes) : (emitAs q t c d n k b s).pending = s.pending := by simp [emitAs]
@[simp] theorem emitAs_free (q t c d n k : Nat) (b : Bytes) : (emitAs q t c d n k b s).free = s.free := by simp [emitAs]
@[simp] theorem emitAs_sheet (q t c d n k : Nat) (b : Bytes) : (emitAs q t c d n k b s).sheet = s.sheet := by simp [emitAs]
@[simp] theorem emitAs_stew (q t c d n k : Nat) (b : Bytes) : (emitAs q t c d n k b s).stew = s.stew := by simp [emitAs]
@[simp] theorem emitAs_conf (q t c d n k : Nat) (b : Bytes) : (emitAs q t c d n k b s).conf = s.conf := by simp [emitAs]
@[simp] theorem emitAs_expo (q t c d n k : Nat) (b : Bytes) : (emitAs q t c d n k b s).expo = s.expo := by simp [emitAs]
@[simp] theorem emitAs_time (q t c d n k : Nat) (b : Bytes) : (emitAs q t c d n k b s).time = s.time := by simp [emitAs]
@[simp] theorem emitAs_power (q t c d n k : Nat) (b : Bytes) : (emitAs q t c d n k b s).power = s.power := by simp [emitAs]
@[simp] theorem emitAs_eave (q t c d n k : Nat) (b : Bytes) : (emitAs q t c d n k b s).eave = s.eave := by simp [emitAs]
@[simp] theorem emitAs_store (q t c d n k : Nat) (b : Bytes) : (emitAs q t c d n k b s).store = s.store := by simp [emitAs]
@[simp] theorem emitAs_vault (q t c d n k : Nat) (b : Bytes) : (emitAs q t c d n k b s).vault = s.vault := by simp [emitAs]
@[simp] theorem emitAs_lane (q t c d n k : Nat) (b : Bytes) : (emitAs q t c d n k b s).lane = s.lane := by simp [emitAs]
@[simp] theorem emitAs_mem (q t c d n k : Nat) (b : Bytes) : (emitAs q t c d n k b s).mem = s.mem := by simp [emitAs]
@[simp] theorem emitAs_access (q t c d n k : Nat) (b : Bytes) : (emitAs q t c d n k b s).access = s.access := by simp [emitAs]
@[simp] theorem emitAs_lf (q t c d n k : Nat) (b : Bytes) : (emitAs q t c d n k b s).lf = s.lf := by simp [emitAs]
@[simp] theorem emitAs_uhf (q t c d n k : Nat) (b : Bytes) : (emitAs q t c d n k b s).uhf = s.uhf := by simp [emitAs]
@[simp] theorem emitAs_range (q t c d n k : Nat) (b : Bytes) : (emitAs q t c d n k b s).range = s.range := by simp [emitAs]
@[simp] theorem emitAs_sw (q t c d n k : Nat) (b : Bytes) : (emitAs q t c d n k b s).sw = s.sw := by simp [emitAs]
@[simp] theorem emitAs_ciph (q t c d n k : Nat) (b : Bytes) : (emitAs q t c d n k b s).ciph = s.ciph := by simp [emitAs]
@[simp] theorem emitAs_grain (q t c d n k : Nat) (b : Bytes) : (emitAs q t c d n k b s).grain = s.grain := by simp [emitAs]
@[simp] theorem emitAs_fix (q t c d n k : Nat) (b : Bytes) : (emitAs q t c d n k b s).fix = s.fix := by simp [emitAs]
@[simp] theorem emitAs_boot (q t c d n k : Nat) (b : Bytes) : (emitAs q t c d n k b s).boot = s.boot := by simp [emitAs]

@[simp] theorem emit_pending (c d n k : Nat) (b : Bytes) : (emit c d b n k s).pending = s.pending := by simp [emit]
@[simp] theorem emit_free (c d n k : Nat) (b : Bytes) : (emit c d b n k s).free = s.free := by simp [emit]
@[simp] theorem emit_sheet (c d n k : Nat) (b : Bytes) : (emit c d b n k s).sheet = s.sheet := by simp [emit]
@[simp] theorem emit_stew (c d n k : Nat) (b : Bytes) : (emit c d b n k s).stew = s.stew := by simp [emit]
@[simp] theorem emit_conf (c d n k : Nat) (b : Bytes) : (emit c d b n k s).conf = s.conf := by simp [emit]
@[simp] theorem emit_expo (c d n k : Nat) (b : Bytes) : (emit c d b n k s).expo = s.expo := by simp [emit]
@[simp] theorem emit_time (c d n k : Nat) (b : Bytes) : (emit c d b n k s).time = s.time := by simp [emit]
@[simp] theorem emit_power (c d n k : Nat) (b : Bytes) : (emit c d b n k s).power = s.power := by simp [emit]
@[simp] theorem emit_eave (c d n k : Nat) (b : Bytes) : (emit c d b n k s).eave = s.eave := by simp [emit]
@[simp] theorem emit_store (c d n k : Nat) (b : Bytes) : (emit c d b n k s).store = s.store := by simp [emit]
@[simp] theorem emit_vault (c d n k : Nat) (b : Bytes) : (emit c d b n k s).vault = s.vault := by simp [emit]
@[simp] theorem emit_lane (c d n k : Nat) (b : Bytes) : (emit c d b n k s).lane = s.lane := by simp [emit]
@[simp] theorem emit_mem (c d n k : Nat) (b : Bytes) : (emit c d b n k s).mem = s.mem := by simp [emit]
@[simp] theorem emit_access (c d n k : Nat) (b : Bytes) : (emit c d b n k s).access = s.access := by simp [emit]
@[simp] theorem emit_lf (c d n k : Nat) (b : Bytes) : (emit c d b n k s).lf = s.lf := by simp [emit]
@[simp] theorem emit_uhf (c d n k : Nat) (b : Bytes) : (emit c d b n k s).uhf = s.uhf := by simp [emit]
@[simp] theorem emit_range (c d n k : Nat) (b : Bytes) : (emit c d b n k s).range = s.range := by simp [emit]
@[simp] theorem emit_sw (c d n k : Nat) (b : Bytes) : (emit c d b n k s).sw = s.sw := by simp [emit]
@[simp] theorem emit_ciph (c d n k : Nat) (b : Bytes) : (emit c d b n k s).ciph = s.ciph := by simp [emit]
@[simp] theorem emit_grain (c d n k : Nat) (b : Bytes) : (emit c d b n k s).grain = s.grain := by simp [emit]
@[simp] theorem emit_fix (c d n k : Nat) (b : Bytes) : (emit c d b n k s).fix = s.fix := by simp [emit]
@[simp] theorem emit_boot (c d n k : Nat) (b : Bytes) : (emit c d b n k s).boot = s.boot := by simp [emit]

@[simp] theorem requestAll_pending (l : List Nat) : (requestAll l s).pending = s.pending := rfl
@[simp] theorem requestAll_free (l : List Nat) : (requestAll l s).free = s.free := rfl
@[simp] theorem requestAll_host (l : List Nat) : (requestAll l s).host = s.host := rfl
@[simp] theorem requestAll_ev (l : List Nat) : (requestAll l s).ev = s.ev := rfl
@[simp] theorem requestAll_sheet (l : List Nat) : (requestAll l s).sheet = s.sheet := rfl
@[simp] theorem requestAll_stew (l : List Nat) : (requestAll l s).stew = s.stew := rfl
@[simp] theorem requestAll_conf (l : List Nat) : (requestAll l s).conf = s.conf := rfl
@[simp] theorem requestAll_expo (l : List Nat) : (requestAll l s).expo = s.expo := rfl
@[simp] theorem requestAll_time (l : List Nat) : (requestAll l s).time = s.time := rfl
@[simp] theorem requestAll_eave (l : List Nat) : (requestAll l s).eave = s.eave := rfl
@[simp] theorem requestAll_store (l : List Nat) : (requestAll l s).store = s.store := rfl
@[simp] theorem requestAll_vault (l : List Nat) : (requestAll l s).vault = s.vault := rfl
@[simp] theorem requestAll_safe (l : List Nat) : (requestAll l s).safe = s.safe := rfl
@[simp] theorem requestAll_lane (l : List Nat) : (requestAll l s).lane = s.lane := rfl
@[simp] theorem requestAll_mem (l : List Nat) : (requestAll l s).mem = s.mem := rfl
@[simp] theorem requestAll_access (l : List Nat) : (requestAll l s).access = s.access := rfl
@[simp] theorem requestAll_lf (l : List Nat) : (requestAll l s).lf = s.lf := rfl
@[simp] theorem requestAll_uhf (l : List Nat) : (requestAll l s).uhf = s.uhf := rfl
@[simp] theorem requestAll_range (l : List Nat) : (requestAll l s).range = s.range := rfl
@[simp] theorem requestAll_sw (l : List Nat) : (requestAll l s).sw = s.sw := rfl
@[simp] theorem requestAll_ciph (l : List Nat) : (requestAll l s).ciph = s.ciph := rfl
@[simp] theorem requestAll_grain (l : List Nat) : (requestAll l s).grain = s.grain := rfl
@[simp] theorem requestAll_fix (l : List Nat) : (requestAll l s).fix = s.fix := rfl
@[simp] theorem requestAll_boot (l : List Nat) : (requestAll l s).boot = s.boot := rfl

@[simp] theorem start_pending (k : Nat) : (start k s).pending = s.pending := rfl
@[simp] theorem start_free (k : Nat) : (start k s).free = s.free := rfl
@[simp] theorem start_host (k : Nat) : (start k s).host = s.host := rfl
@[simp] theorem start_ev (k : Nat) : (start k s).ev = s.ev := rfl
@[simp] theorem start_stew (k : Nat) : (start k s).stew = s.stew := rfl
@[simp] theorem start_conf (k : Nat) : (start k s).conf = s.conf := rfl
@[simp] theorem start_expo (k : Nat) : (start k s).expo = s.expo := rfl
@[simp] theorem start_time (k : Nat) : (start k s).time = s.time := rfl
@[simp] theorem start_power (k : Nat) : (start k s).power = s.power := rfl
@[simp] theorem start_eave (k : Nat) : (start k s).eave = s.eave := rfl
@[simp] theorem start_store (k : Nat) : (start k s).store = s.store := rfl
@[simp] theorem start_vault (k : Nat) : (start k s).vault = s.vault := rfl
@[simp] theorem start_safe (k : Nat) : (start k s).safe = s.safe := rfl
@[simp] theorem start_lane (k : Nat) : (start k s).lane = s.lane := rfl
@[simp] theorem start_mem (k : Nat) : (start k s).mem = s.mem := rfl
@[simp] theorem start_access (k : Nat) : (start k s).access = s.access := rfl
@[simp] theorem start_lf (k : Nat) : (start k s).lf = s.lf := rfl
@[simp] theorem start_uhf (k : Nat) : (start k s).uhf = s.uhf := rfl
@[simp] theorem start_range (k : Nat) : (start k s).range = s.range := rfl
@[simp] theorem start_sw (k : Nat) : (start k s).sw = s.sw := rfl
@[simp] theorem start_ciph (k : Nat) : (start k s).ciph = s.ciph := rfl
@[simp] theorem start_grain (k : Nat) : (start k s).grain = s.grain := rfl
@[simp] theorem start_fix (k : Nat) : (start k s).fix = s.fix := rfl
@[simp] theorem start_boot (k : Nat) : (start k s).boot = s.boot := rfl

@[simp] theorem finishWith_pending (k st fl : Nat) (d : Bytes) (fr : List Bytes) : (finishWith k st d fr fl s).pending = s.pending := rfl
@[simp] theorem finishWith_free (k st fl : Nat) (d : Bytes) (fr : List Bytes) : (finishWith k st d fr fl s).free = s.free := rfl
@[simp] theorem finishWith_host (k st fl : Nat) (d : Bytes) (fr : List Bytes) : (finishWith k st d fr fl s).host = s.host := rfl
@[simp] theorem finishWith_ev (k st fl : Nat) (d : Bytes) (fr : List Bytes) : (finishWith k st d fr fl s).ev = s.ev := rfl
@[simp] theorem finishWith_conf (k st fl : Nat) (d : Bytes) (fr : List Bytes) : (finishWith k st d fr fl s).conf = s.conf := rfl
@[simp] theorem finishWith_expo (k st fl : Nat) (d : Bytes) (fr : List Bytes) : (finishWith k st d fr fl s).expo = s.expo := rfl
@[simp] theorem finishWith_time (k st fl : Nat) (d : Bytes) (fr : List Bytes) : (finishWith k st d fr fl s).time = s.time := rfl
@[simp] theorem finishWith_power (k st fl : Nat) (d : Bytes) (fr : List Bytes) : (finishWith k st d fr fl s).power = s.power := rfl
@[simp] theorem finishWith_eave (k st fl : Nat) (d : Bytes) (fr : List Bytes) : (finishWith k st d fr fl s).eave = s.eave := rfl
@[simp] theorem finishWith_store (k st fl : Nat) (d : Bytes) (fr : List Bytes) : (finishWith k st d fr fl s).store = s.store := rfl
@[simp] theorem finishWith_vault (k st fl : Nat) (d : Bytes) (fr : List Bytes) : (finishWith k st d fr fl s).vault = s.vault := rfl
@[simp] theorem finishWith_safe (k st fl : Nat) (d : Bytes) (fr : List Bytes) : (finishWith k st d fr fl s).safe = s.safe := rfl
@[simp] theorem finishWith_lane (k st fl : Nat) (d : Bytes) (fr : List Bytes) : (finishWith k st d fr fl s).lane = s.lane := rfl
@[simp] theorem finishWith_mem (k st fl : Nat) (d : Bytes) (fr : List Bytes) : (finishWith k st d fr fl s).mem = s.mem := rfl
@[simp] theorem finishWith_access (k st fl : Nat) (d : Bytes) (fr : List Bytes) : (finishWith k st d fr fl s).access = s.access := rfl
@[simp] theorem finishWith_lf (k st fl : Nat) (d : Bytes) (fr : List Bytes) : (finishWith k st d fr fl s).lf = s.lf := rfl
@[simp] theorem finishWith_uhf (k st fl : Nat) (d : Bytes) (fr : List Bytes) : (finishWith k st d fr fl s).uhf = s.uhf := rfl
@[simp] theorem finishWith_range (k st fl : Nat) (d : Bytes) (fr : List Bytes) : (finishWith k st d fr fl s).range = s.range := rfl
@[simp] theorem finishWith_sw (k st fl : Nat) (d : Bytes) (fr : List Bytes) : (finishWith k st d fr fl s).sw = s.sw := rfl
@[simp] theorem finishWith_ciph (k st fl : Nat) (d : Bytes) (fr : List Bytes) : (finishWith k st d fr fl s).ciph = s.ciph := rfl
@[simp] theorem finishWith_grain (k st fl : Nat) (d : Bytes) (fr : List Bytes) : (finishWith k st d fr fl s).grain = s.grain := rfl
@[simp] theorem finishWith_fix (k st fl : Nat) (d : Bytes) (fr : List Bytes) : (finishWith k st d fr fl s).fix = s.fix := rfl
@[simp] theorem finishWith_boot (k st fl : Nat) (d : Bytes) (fr : List Bytes) : (finishWith k st d fr fl s).boot = s.boot := rfl

@[simp] theorem complete_pending (k st : Nat) (d : Bytes) : (complete k st d s).pending = s.pending := rfl
@[simp] theorem complete_free (k st : Nat) (d : Bytes) : (complete k st d s).free = s.free := rfl
@[simp] theorem complete_host (k st : Nat) (d : Bytes) : (complete k st d s).host = s.host := rfl
@[simp] theorem complete_ev (k st : Nat) (d : Bytes) : (complete k st d s).ev = s.ev := rfl
@[simp] theorem complete_conf (k st : Nat) (d : Bytes) : (complete k st d s).conf = s.conf := rfl
@[simp] theorem complete_expo (k st : Nat) (d : Bytes) : (complete k st d s).expo = s.expo := rfl
@[simp] theorem complete_time (k st : Nat) (d : Bytes) : (complete k st d s).time = s.time := rfl
@[simp] theorem complete_power (k st : Nat) (d : Bytes) : (complete k st d s).power = s.power := rfl
@[simp] theorem complete_eave (k st : Nat) (d : Bytes) : (complete k st d s).eave = s.eave := rfl
@[simp] theorem complete_store (k st : Nat) (d : Bytes) : (complete k st d s).store = s.store := rfl
@[simp] theorem complete_vault (k st : Nat) (d : Bytes) : (complete k st d s).vault = s.vault := rfl
@[simp] theorem complete_safe (k st : Nat) (d : Bytes) : (complete k st d s).safe = s.safe := rfl
@[simp] theorem complete_lane (k st : Nat) (d : Bytes) : (complete k st d s).lane = s.lane := rfl
@[simp] theorem complete_mem (k st : Nat) (d : Bytes) : (complete k st d s).mem = s.mem := rfl
@[simp] theorem complete_access (k st : Nat) (d : Bytes) : (complete k st d s).access = s.access := rfl
@[simp] theorem complete_lf (k st : Nat) (d : Bytes) : (complete k st d s).lf = s.lf := rfl
@[simp] theorem complete_uhf (k st : Nat) (d : Bytes) : (complete k st d s).uhf = s.uhf := rfl
@[simp] theorem complete_range (k st : Nat) (d : Bytes) : (complete k st d s).range = s.range := rfl
@[simp] theorem complete_sw (k st : Nat) (d : Bytes) : (complete k st d s).sw = s.sw := rfl
@[simp] theorem complete_ciph (k st : Nat) (d : Bytes) : (complete k st d s).ciph = s.ciph := rfl
@[simp] theorem complete_grain (k st : Nat) (d : Bytes) : (complete k st d s).grain = s.grain := rfl
@[simp] theorem complete_fix (k st : Nat) (d : Bytes) : (complete k st d s).fix = s.fix := rfl
@[simp] theorem complete_boot (k st : Nat) (d : Bytes) : (complete k st d s).boot = s.boot := rfl

/-! ### Effects -/

@[simp] theorem ticket_modTicket_same {k : Nat} {f : TicketEntry → TicketEntry} (h : k < 128) :
    (s.modTicket k f).ticket k = f (s.ticket k) := tget_tmod_same _ _ _ h

@[simp] theorem ticket_modTicket_other {k j : Nat} {f : TicketEntry → TicketEntry} (h : k ≠ j) :
    (s.modTicket k f).ticket j = s.ticket j := tget_tmod_other _ _ _ _ h

@[simp] theorem work_modWork_same {k : Nat} {f : Work → Work} (h : k < 128) :
    (s.modWork k f).work k = (s.work k).map f := tget_tmod_same _ _ _ h

@[simp] theorem work_modWork_other {k j : Nat} {f : Work → Work} (h : k ≠ j) :
    (s.modWork k f).work j = s.work j := tget_tmod_other _ _ _ _ h

/-- A command that may start runs its request. -/
theorem command_start {tk op : Nat} {f : Work → State → State} {s : State} {w : Work} (h : startable tk op s = some w) :
    command tk op f s = f w s := by simp [command, h]

/-- A timer that falls due before any armed shutter runs its effect. -/
theorem atDue_clear {due : Nat} {s : State} {k : State → State} (h : clearUntil due s = true) :
    atDue due s k = k (reach due s) := by simp [atDue, h]

/-- What a finished operation leaves. -/
theorem finished_finishWith {tk st fl : Nat} {d : Bytes} {fr : List Bytes} (s : State) (h : tk < 128) :
    Finished tk st d fr fl s (finishWith tk st d fr fl s) where
  completed := by
    have := ticket_modTicket_same s (f := fun e => e.finish st d) h
    exact congrArg TicketEntry.state this
  status := congrArg TicketEntry.status (ticket_modTicket_same s (f := fun e => e.finish st d) h)
  keepValid := congrArg TicketEntry.keepValid (ticket_modTicket_same s (f := fun e => e.finish st d) h)
  keep := congrArg TicketEntry.keep (ticket_modTicket_same s (f := fun e => e.finish st d) h)
  keepLen := congrArg TicketEntry.keepLen (ticket_modTicket_same s (f := fun e => e.finish st d) h)
  response := work_modWork_same (s.modTicket tk (fun e => e.finish st d)) h
  queued := rfl
  others := fun k hk => ⟨tget_tmod_other _ _ _ _ (Ne.symm hk), tget_tmod_other _ _ _ _ (Ne.symm hk)⟩
  frame := rfl

/-- What a completed command leaves. -/
theorem answered_complete {tk st : Nat} {d : Bytes} (s : State) (h : tk < 128) :
    Answered tk st d s (complete tk st d s) := finished_finishWith s h

/-- A fan-out whose tiles only read answers every tile from the one state. -/
theorem walkTiles_read {f : Nat → State → Nat × Bytes} {r : Req} (l : List Nat) (s : State) :
    walkTiles (fun n _ s => (s, f n s)) r l s =
      (s, l.map (fun n => { node := n, status := (f n s).1, data := (f n s).2 })) := by
  induction l with
  | nil => rfl
  | cons n ns ih => simp only [walkTiles, ih, List.map_cons]

/-- What a completed tile command leaves. -/
theorem tilesAnswered_completeTiles {tk : Nat} (walk : List WalkItem) (rs : List TileRes) (s : State) (h : tk < 128) :
    TilesAnswered tk walk rs s (completeTiles tk walk rs s) := by
  unfold TilesAnswered completeTiles
  cases walk with
  | nil => exact answered_complete s h
  | cons w ws =>
    by_cases k : w.kind = 1
    · simp only [k, if_true]; exact finished_finishWith s h
    · simp only [k, if_false]; exact answered_complete s h

end Sys2Proof.Machine
end

