-- ==== Sys2Proof/Machine/Pins.lean ====
section
/-! DEFINITION. The output balls of the package: what each group holds now, and while its domain is off or the M die is in reset
(R62, R204, R485, R486). -/

namespace Sys2Proof.Machine

/-- A ball, or the balls of one group that hold the same state (R486). -/
inductive Ball where
  /-- LF_A and LF_B of a channel. -/
  | lf (ch : Fin 32)
  /-- CAN_TX or LIN_TX of a port. -/
  | busTx
  /-- CAN_RX or LIN_RX of a port. -/
  | busRx
  /-- T1_P and T1_N of a port. -/
  | t1
  /-- HOST_IO[3:0] and HOST_SCK. -/
  | hostData
  /-- HOST_CS_N. -/
  | hostCs
  /-- HOST_IRQ_N. -/
  | hostIrq
  /-- RF_REQ. -/
  | rfReq
  /-- RF_PRI. -/
  | rfPri
  /-- UHF_RFP and UHF_RFN. -/
  | uhf
  /-- RG_ANT of a port. -/
  | rangeAnt
  /-- DBG_CK, DBG_IO, DBG_RST_N, TEST_EN and TST[2:0]. -/
  | service
  /-- VCC, IO, CLK and RST of a card slot. -/
  | card (slot : Fin 2)
  deriving DecidableEq, Repr

/-- What a ball holds. -/
inductive BallState where
  /-- Pulled to ground by a resistor. -/
  | pulledLow
  /-- Pulled up to its bank by a resistor: recessive on a bus. -/
  | pulledHigh
  /-- An input without a pull. -/
  | input
  /-- High impedance. -/
  | open_
  /-- Driven to a level. -/
  | driven (high : Bool)
  /-- Shunted to ground through 50 Ω. -/
  | shunted
  /-- As the unit behind it works. -/
  | active
  deriving DecidableEq, Repr

/-- A domain's balls rest: it is off, or the M die is in reset up to READY (R486). -/
def ballsRest (s : State) (d : Nat) : Bool := !s.powered d || !s.stew.running

/-- What a ball holds between two commands, HOST_CS_N then being high. The F_FIELD balls follow PD1 FIX, and rest while the F die
is off, in reset or on VFB (R272, R486). -/
def ballState (s : State) : Ball → BallState
  | .lf n => if ballsRest s 7 then .pulledLow else match bridge s n.val with
      | .off => .pulledLow
      | .hold => .driven false
      | .drive | .quench => .active
  | .busTx => if ballsRest s 8 then .pulledHigh else .active
  | .busRx => .input
  | .t1 => if ballsRest s 8 then .open_ else .active
  | .hostData => .open_
  | .hostCs => .pulledHigh
  | .hostIrq => .driven (!s.host.irq)
  | .rfReq => .driven (!ballsRest s 5 && (s.uhf.req || windowReq s))
  | .rfPri => .driven (!ballsRest s 5 && (s.uhf.pri || accessReqAt s.now s))
  | .uhf => if ballsRest s 5 then .open_ else .active
  | .rangeAnt => if ballsRest s 6 then .shunted else .active
  | .service => .pulledLow
  | .card n =>
    let unpowered := match (tget s.fix.cards n.val).step with
      | .idle | .waiting => true
      | _ => false
    if s.fix.running = false ∨ s.fix.onVfb = true ∨ unpowered = true then .driven false else .active

end Sys2Proof.Machine
end

