-- ==== Sys2Proof/WellFormed.lean ====
section
/-! DEFINITION. Well-formed commands: what the block can be given from outside at all, by the formats of the spec. -/

namespace Sys2Proof

/-- A stamp of the epoch or of the Fixer clock has 64 bits (R82, R283). -/
def stampOk (t : Nat) : Bool := decide (t < 2 ^ 64)

/-- Bytes that another agent writes in the same cycle lie in the DP window (R43). -/
def otherOk (l : List (Nat × Byte)) : Bool := l.all (fun p => decide (p.1 < 65536))

/-- An ANSWER's fields fit their widths (R166). -/
def AnswerTel.wf (t : AnswerTel) : Bool :=
  decide (t.token < 2 ^ 32) && decide (t.slot < 256) && decide (t.flags < 256) && decide (t.seq < 65536)
/-- A BUTTON's fields fit their widths (R166). -/
def ButtonTel.wf (t : ButtonTel) : Bool :=
  decide (t.token < 2 ^ 32) && decide (t.slot < 256) && decide (t.button < 256) && decide (t.counter < 2 ^ 32) && t.mac.length == 8
/-- A RESPONSE's fields fit their widths (R166). -/
def ResponseTel.wf (t : ResponseTel) : Bool :=
  decide (t.token < 2 ^ 32) && decide (t.slot < 256) && decide (t.flags < 256) && decide (t.counter < 2 ^ 32) && t.mac.length == 8
    && t.meas.length % 3 == 0
/-- A LEARN_ACK's fields fit their widths (R166). -/
def LearnAckTel.wf (t : LearnAckTel) : Bool :=
  decide (t.token < 2 ^ 32) && decide (t.slot < 256) && decide (t.counter < 2 ^ 32) && t.mac.length == 8
/-- Channels exist and are listed once; SCALE and the static code are in range (R214, R217). -/
def LfMeas.wf (m : LfMeas) : Bool :=
  m.chans.all (fun c => decide (c.ch < 32)) && decide ((m.chans.map (·.ch)).Nodup) && decide (m.scale ≤ 255) && decide (m.limit < 32)
    && [0, 2, 3, 4].contains m.static
/-- A received packet's body has at most 255 bytes (R236). -/
def UhfPacket.wf (p : UhfPacket) : Bool := stampOk p.stamp && decide (p.body.length ≤ 255)
/-- First paths of ports 0–3, each at most once (R250). -/
def FastRound.wf (r : FastRound) : Bool := decide (r.rem < 3) && r.hits.all (fun h => decide (h.port < 4) && decide (h.fine < 42)) && decide ((r.hits.map (·.port)).Nodup)
/-- Cable points are Q1.14, at most 31 of them (R264). -/
def CableRx.wf (c : CableRx) : Bool :=
  decide (c.samples.length ≤ 31) && c.samples.all (fun x => decide (-32768 ≤ x) && decide (x ≤ 32767))
/-- A sensor frame is stamped by the Fixer clock (R280). -/
def SensorFrame.wf (c : SensorFrame) : Bool := stampOk c.stamp
/-- A received frame's stamps fit and its lookup does not come before it (R314, R318). -/
def RxFrame.wf (f : RxFrame) : Bool := stampOk f.stamp && stampOk f.lookup && decide (f.stamp ≤ f.lookup)
/-- An access has a kind, at least one byte, and an address of 32 bits (R426). -/
def GuardHit.wf (g : GuardHit) : Bool := decide (g.access ≤ 2) && decide (1 ≤ g.len) && decide (g.addr + g.len ≤ 2 ^ 32)
/-- A scan hit names a page and at most the bits of a codeword (R415). -/
def ScanHit.wf (h : ScanHit) : Bool :=
  (h.errors.toList.mapIdx (fun i e => decide (e ≤ 8 * (1024 + 42 + (if i = 3 then 48 else 0))))).all id
/-- Places of a parameter-store scan: sectors 0–31, slots 1–255 (R388). -/
def scanOk (l : List (Nat × Nat)) : Bool := l.all (fun p => decide (p.1 < 32) && decide (1 ≤ p.2) && decide (p.2 < 256))
/-- Four doors exist (R121). -/
def StartEnv.wf (e : StartEnv) : Bool := decide (e.doors < 16)

/-- A command is well formed: each operand lies in the range its format gives it. -/
def Instr.wf : Instr → Bool
  | .read _ n => decide (n ≤ 65536)
  | .write _ data other => decide (data.length ≤ 65536) && otherOk other
  | .quadRead _ n => decide (n ≤ 65536)
  | .quadWrite _ data other => decide (data.length ≤ 65536) && otherOk other
  | .invalidInstruction op => !([0x05, 0x0B, 0x02, 0xEB, 0x38] : List Byte).contains op
  | .cmdDoorbell _ => true
  | .rspReady _ => true
  | .evtTail _ => true
  | .intStatus _ => true
  | .frontStatus _ => true
  | .frontRegisterWrite off _ => off.toNat % 4 == 0
  | .t1CommandFrame _ header body => header.length == 14 && decide (body.length ≤ 65535)
  | .t1ReleaseFrame _ header body => header.length == 14 && decide (body.length ≤ 65535)
  | .deviceIdentify _ => true
  | .deviceTicketQuery _ => true
  | .nodeProbe _ => true
  | .nodeRead _ => true
  | .nodeList _ => true
  | .nodeCourseStage _ => true
  | .nodeCourseDeleteStage _ => true
  | .timeRead _ => true
  | .timeSet _ => true
  | .timeSlew _ => true
  | .timeShutterArm _ => true
  | .timeShutterDisarm _ => true
  | .timeShutterRead _ => true
  | .timeShutterStage _ => true
  | .timeCaptureRead _ => true
  | .shutterFire _ => true
  | .captureEdge _ _ stamp => stampOk stamp
  | .xsTrimMeasure _ => true
  | .wakePinChange _ _ => true
  | .workshopStrapChange _ => true
  | .canWake _ => true
  | .domainFault _ _ => true
  | .domainReady _ => true
  | .wakeMeasured _ => true
  | .powerModeRead _ => true
  | .powerModeRequest _ => true
  | .powerDomainRead _ => true
  | .powerEaveRead _ => true
  | .exposeOpen _ => true
  | .exposeDiscard _ => true
  | .exposeSetStage _ => true
  | .exposeCheck _ => true
  | .exposeExpose _ => true
  | .exposeCancel _ => true
  | .exposeStatus _ => true
  | .exposeSettingRead _ => true
  | .syncEdge stamp => stampOk stamp
  | .laneUnknownMessage _ => true
  | .pollCycle meas => meas.all LfMeas.wf
  | .answer _ _ rx => rx.meas.all LfMeas.wf && rx.tel.all AnswerTel.wf
  | .button tel => tel.wf
  | .responseTelegram tel => tel.wf
  | .learnAck tel => tel.wf
  | .accessCycle meas => meas.all LfMeas.wf
  | .sniffWindow _ => true
  | .learnRetry meas => meas.wf
  | .accessStatus _ => true
  | .accessSlotRead _ => true
  | .accessLocate _ => true
  | .accessLock _ => true
  | .accessLearnSet _ => true
  | .accessReleasePair _ => true
  | .accessZonemapStage _ => true
  | .accessZonemapRead _ => true
  | .lfOvercurrent _ trip meas => decide (trip.peak < 65536) && decide (trip.phase < 65536) && meas.wf
  | .vlfDisable drop => drop.meas.wf
  | .vlfEnable _ => true
  | .lfCommandDeadline _ => true
  | .lfChannelRead _ => true
  | .lfDiag _ => true
  | .lfBurst _ => true
  | .lfClearFault _ => true
  | .uhfCalDone _ tune dur => decide (tune.band < 256) && decide (tune.codes < 2 ^ 32) && decide (dur < 65536)
  | .uhfPacketReceived p => p.wf
  | .rfGntChange _ => true
  | .uhfStatus _ => true
  | .uhfTx _ => true
  | .uhfRx _ => true
  | .uhfCalibrate _ => true
  | .uhfCharterRead _ => true
  | .uhfDutyRead _ => true
  | .rangingResponse r => decide (r.sts.length = 512)
  | .fastExchangeRound r => r.wf
  | .rangingReport _ => true
  | .tdcCalibration _ _ => true
  | .cableSegment c => c.wf
  | .rangeStatus _ => true
  | .rangePortRead _ => true
  | .rangePortCalibrate _ => true
  | .rangeSessionRead _ => true
  | .rangeCable _ => true
  | .rangeCableTraceRead _ => true
  | .msPulseEdge stamp _ => stampOk stamp
  | .sensorCount c => c.wf
  | .cardInserted _ => true
  | .cardRemoved _ => true
  | .fSupplyToVfb _ => true
  | .fSupplyToVfix _ => true
  | .fLidMesh kind => decide (kind ≤ 2)
  | .xmTempCorrection _ => true
  | .fixerStatus _ => true
  | .fixerRecordRead _ => true
  | .fixerSpeedRead _ => true
  | .fixerKeyRead _ => true
  | .fixerTimePropose _ => true
  | .fixerCardStatus _ => true
  | .fixerCardApdu _ => true
  | .fixerCardReset _ => true
  | .fixerPairStage _ => true
  | .frameReceived _ f => f.wf
  | .copySent _ => true
  | .heldOut _ => true
  | .aged _ => true
  | .portDown _ => true
  | .portUp _ => true
  | .canBusOff _ => true
  | .canBusOffRecovered _ => true
  | .canAttemptLost _ _ => true
  | .pauseReceived _ _ => true
  | .pauseExpire _ => true
  | .pauseRepeat _ => true
  | .linSlot _ => true
  | .linResponseReceived _ _ => true
  | .switchStatus _ => true
  | .switchPortRead _ => true
  | .switchCountersRead _ => true
  | .switchTableStage _ => true
  | .switchTableRead _ => true
  | .switchLinScheduleStage _ => true
  | .switchLinScheduleRead _ => true
  | .switchAudit _ => true
  | .keyLanding _ => true
  | .checkMismatch _ kind _ => decide (kind < 256)
  | .cipherStatus _ => true
  | .cipherKeyRead _ => true
  | .cipherKeyLoad _ => true
  | .cipherKeyGenerate _ => true
  | .cipherKeyErase _ => true
  | .cipherJob _ => true
  | .grainWord _ => true
  | .grainReseed _ => true
  | .healthFailure src test phase _ => decide (src ≤ 3) && decide (test ≤ 1) && decide (phase ≤ 1)
  | .grainRawRunEnd _ => true
  | .grainStatus _ => true
  | .grainRead _ => true
  | .grainRawRead _ => true
  | .supplyCheckRelease _ => true
  | .blockRetired _ => true
  | .parameterScan found lost => scanOk found && scanOk lost
  | .vaultScan found => found.all ScanHit.wf
  | .storeStatus _ => true
  | .storeCaptureRead _ => true
  | .storeHostAppend _ => true
  | .storeHostRead _ => true
  | .storeHostClear _ => true
  | .storeCharterWrite _ => true
  | .storeCharterLock _ => true
  | .testStrip _ => true
  | .guardViolation g => g.wf
  | .correctedWord _ _ => true
  | .memStatus _ => true
  | .memGuardLogRead _ => true
  | .memStripRun _ => true
  | .memDmaRead _ => true
  | .sensorConversion _ _ _ => true
  | .lidMesh kind => decide (kind ≤ 2)
  | .safelightRestart cause _ => decide (cause ≤ 1)
  | .safeStatus _ => true
  | .safeSensorRead _ => true
  | .safeLogRead _ => true
  | .updateBegin _ => true
  | .updateWrite _ => true
  | .updateVerify _ => true
  | .updateStatus _ => true
  | .updateConfirm _ => true
  | .coldStart env => env.wf
  | .warmStart env => env.wf
  | .supplyFault _ _ => true
  | .lfSequenceEnd meas => meas.wf
  | .cipherJobComplete _ => true
  | .grainReadDeadline _ => true
  | .grainConsumerWaitExpire consumer => decide (1 ≤ consumer) && decide (consumer ≤ 3)
  | .rangeCableDeadline _ => true
  | .cardApduDeadline _ => true
  | .cardReply _ bytes => decide (bytes.length ≤ 65535)
  | .cardWaitingTimeExceeded _ => true
  | .wearCreditGain _ => true
  | .fBrownOut _ => true
  | .readStatus => true
  | .hostCsNWake => true
  | .mailboxTake => true
  | .responsePost => true
  | .evtIrqDelayExpire => true
  | .heartbeat => true
  | .hostHoldExpire => true
  | .t1Retry => true
  | .t1ReplayTimeout => true
  | .slewEnd => true
  | .epochFloorWrite => true
  | .modeTransitionComplete => true
  | .drainTimeout => true
  | .watchWindowExpire => true
  | .holdoverExit => true
  | .netIdleExpire => true
  | .depthChoice => true
  | .eaveWake => true
  | .xsStable => true
  | .decisionPoint => true
  | .exposeCommitSend => true
  | .fixerPrepareTimeout => true
  | .exposureInstant => true
  | .recordRead => true
  | .timePropose => true
  | .tokenIdentity => true
  | .cardRequest => true
  | .epochSample => true
  | .exposePrepare => true
  | .exposeCommit => true
  | .exposeRollback => true
  | .laneResponse => true
  | .recordAppend => true
  | .fixerEvent => true
  | .wakeStrobe => true
  | .epochSampleTimer => true
  | .laneProbe => true
  | .laneRequestTimeout => true
  | .cycleVerdict => true
  | .suspectHoldExpire => true
  | .approachMaxExpire => true
  | .parkPollStop => true
  | .cabAbsentExpire => true
  | .walkawayExpire => true
  | .releaseFrame => true
  | .releaseFrameTransmitted => true
  | .learnTimeout => true
  | .lfAutoDiag => true
  | .lfCommandSequenceStart => true
  | .uhfLock => true
  | .uhfLockTimeout => true
  | .uhfLockLost => true
  | .uhfRampUpDone => true
  | .uhfTxEnd => true
  | .uhfRampDownDone => true
  | .uhfRxWindowEnd => true
  | .uhfTxDeadline => true
  | .dutyBucketRoll => true
  | .rangingVerdict => true
  | .speedSample => true
  | .activityRecord => true
  | .sensorCheck => true
  | .sensorReplyTimeout => true
  | .supplyLossWarning => true
  | .fixerSlewEnd => true
  | .fDieStart => true
  | .generationRetire => true
  | .p27TxScan => true
  | .cipherLoopResult => true
  | .auditPass => true
  | .startupTestPass => true
  | .storeOperationDone => true
  | .logFlush => true
  | .captureFlush => true
  | .hostFlush => true
  | .stripYield => true
  | .logSortExpire => true
  | .stowCheck => true
  | .trialWindowExpire => true
  | .heartbeatTimeout => true
  | .vbatReturn => true
  | .watchdog => true
  | .lockstep => true
  | .dieLink => true
  | .lockFrameTimeout => true
  | .coexLeadExpire => true
  | .pd0AonPowerLoss => true
  | .standingTimeMinute => true

end Sys2Proof
end

