-- ==== Sys2Proof/Tests/Slice0.lean ====
section
/-! SUPPORT. Tests: a refused term for each check of WellFormed, states that meet the hypotheses of every statement
together, and single steps whose outcome the spec gives. -/

namespace Sys2Proof.Tests
open Sys2Proof Sys2Proof.Machine
set_option Elab.async false

/-- A block whose Steward runs at L0 with every domain on. -/
def live : State :=
  { stew := { running := true }, host := { ready := true }, eave := { depth := 0 }, boot := { phase := .run }
    time := { fine := true, epoch := 1099511627776 }, power := { domains := Vector.replicate 10 { state := .on } }
    store := { recoverDue := false } }

/-- No command at work. -/
def idle : Vector (Option Work) 128 := Vector.replicate 128 none

theorem tget_idle (t : Nat) : tget idle t = none := by
  unfold tget idle
  by_cases h : t < 128 <;> simp [Vector.getD, h]
  rfl

/-- The state with one accepted command, in ticket 0, whose domains are on and which no other command holds back. -/
def give (r : Req) (walk : List WalkItem) (s : State) : State :=
  { s with
    stew := { s.stew with running := true, works := tmod idle 0 (fun _ => some { req := r, walk }) }
    sheet := { s.sheet with tickets := tmod s.sheet.tickets 0 (fun e => { e with state := .accepted }) } }

theorem startable_give (r : Req) (walk : List WalkItem) (s : State) :
    startable 0 r.opcode (give r walk s) = some { req := r, walk } := by
  have hw : (give r walk s).work 0 = some { req := r, walk } :=
    tget_tmod_same idle 0 (fun _ => some { req := r, walk }) (by decide)
  have ht : ((give r walk s).ticket 0).state = .accepted :=
    congrArg TicketEntry.state (tget_tmod_same s.sheet.tickets 0 (fun e => { e with state := .accepted }) (by decide))
  have hb : (give r walk s).tileBusy 0 { req := r, walk } = false := by
    unfold State.tileBusy
    rw [List.any_eq_false]
    intro t _
    by_cases k : t = 0
    · simp [k]
    · have : (give r walk s).work t = none :=
        (tget_tmod_other idle 0 t (fun _ => some { req := r, walk }) (Ne.symm k)).trans (tget_idle t)
      simp [this]
  unfold startable
  rw [hw]
  simp only [ht, hb, true_and, or_true, and_true]
  exact if_pos ⟨rfl, rfl⟩

/-! ### Hypotheses that are met -/

/-- For every opcode and request some state lets the command start. -/
theorem test_witness_startable (r : Req) (walk : List WalkItem) :
    ∃ s w, startable 0 r.opcode s = some w ∧ w.req = r ∧ w.walk = walk :=
  ⟨give r walk {}, _, startable_give r walk {}, rfl, rfl⟩

/-- A command of this opcode may start in some state, with a request and a state for which `P` holds. -/
def Met (op : Nat) (P : State → Work → Bool) : Prop := ∃ s w, startable 0 op s = some w ∧ P s w = true

theorem met (r : Req) (walk : List WalkItem) (s : State) {P : State → Work → Bool} (h : P (give r walk s) { req := r, walk } = true) :
    Met r.opcode P := ⟨give r walk s, _, startable_give r walk s, h⟩

/-- A setting in force. -/
def setTo (cls row idx : Nat) (v : Int) (s : State) : State := { s with conf := s.conf.put (settingId cls row idx) v }

/-- A session in a state, with items. -/
def sessAs (n : Nat) (x : Session) (s : State) : State := { s with expo := { s.expo with sessions := tmod s.expo.sessions n (fun _ => x) } }

/-- A key of 16 bytes in a slot, usable for everything. -/
def keyed (n : Nat) (s : State) : State :=
  { s with ciph := { s.ciph with slots := tmod s.ciph.slots n (fun k => { k with ver := some { key := zeros 16, length := 0, usage := 0xFF } }) } }

/-- The time base changed. -/
def timed (f : TimeBase → TimeBase) (s : State) : State := { s with time := f s.time }
/-- Modes and domains changed. -/
def powered (f : Power → Power) (s : State) : State := { s with power := f s.power }

/-- The live block at a depth, with PD0, PD1 and PD3 on. -/
def quiet (d : Nat) : State :=
  { live with
    eave := { depth := d }
    power := { domains := [0, 1, 3].foldl (fun v e => tmod v e (fun x => { x with state := .on })) (Vector.replicate 10 {}) } }

/-- Nothing of the device's own waits in it. -/
theorem settle_quiet (d : Nat) : settle (quiet d) = quiet d := by
  have h1 : denyWithdrawn (quiet d) = quiet d := rfl
  have h2 : runChecks (quiet d) = quiet d := if_pos (.inl rfl)
  have h3 : t1Resume (quiet d) = quiet d := if_pos (.inl rfl)
  have h4 : flushOutbox (quiet d) = quiet d := if_pos (.inl rfl)
  have h5 : uhfTurn (quiet d) = quiet d := if_pos rfl
  have h7 : reportWaiting (quiet d) = quiet d := by
    have h : (List.range 28).filter (fun n => ((quiet d).port n).ended.1 != 0 || ((quiet d).port n).agedEnds.1 != 0) = [] :=
      show (List.range 28).filter (fun n => ((quiet 0).port n).ended.1 != 0 || ((quiet 0).port n).agedEnds.1 != 0) = [] by
        decide +kernel
    unfold reportWaiting
    rw [h, List.foldl_nil]
  have h6 : ∀ e ∈ [6, 5, 4, 7, 8, 9, 2], dropIdle e (quiet d) = quiet d := by
    intro e he
    have hl : (quiet d).lit e = false := by
      have : ∀ e ∈ [6, 5, 4, 7, 8, 9, 2], (quiet 0).lit e = false := by decide +kernel
      exact this e he
    unfold dropIdle
    rw [if_neg (by simp [hl])]
  unfold settle dropAll
  rw [h1, h2, h3, h4, h5, h7, if_pos ⟨rfl, rfl⟩]
  simp only [List.mem_cons, forall_eq_or_imp] at h6
  obtain ⟨a, b, c, e, f, g, h, -⟩ := h6
  simp only [List.foldl, a, b, c, e, f, g, h]

theorem test_witness_IdleStepIsOneClockPeriod :
    (∀ d, settle (quiet d) = quiet d) ∧ ∀ d ∈ [1, 2, 3], let s := quiet d;
      s.pending = [] ∧ s.boot.phase ≠ .dark ∧ s.fix.running = false ∧ s.time.slewPpb = 0 ∧
      s.time.rem < 3000000 ∧ s.now + 40000 < 2 ^ 64 ∧ s.eave.depth = d ∧ s.time.fine = true ∧ s.time.xsRem < 256 ∧
      -8388608 ≤ s.time.xsTrim ∧ s.time.xsTrim ≤ 1000000 ∧ s.time.routing = [] ∧ s.lf.seqs = [] ∧
      s.range.session = none ∧
      (∀ n, n < 16 → (s.shut n).owed = false ∧ ((s.shut n).state = .idle ∨ s.now + 40000 < (s.shut n).active)) :=
  ⟨settle_quiet, by decide +kernel⟩

theorem test_witness_HostReadsAnswer :
    (live.isReady = true ∧ regionEnd (0x10000 : BitVec 24).toNat = some 0x10100) ∧
    (let s : State := { live with eave := { depth := 4 } };
      s.isReady = false ∧ s.eave.depth ≠ 0 ∧ s.eave.waking = none ∧ s.stew.running = true) ∧
    spiInstructions.contains 0xFF = false := by decide

theorem test_witness_HostWritesObeyOwnership :
    live.isReady = true ∧ live.host.cmdOwner.getLsbD ((0x43FC - 0x400) / 0x400) = false ∧
    ({ live with host := { live.host with cmdOwner := 1 } } : State).host.cmdOwner.getLsbD ((0x400 - 0x400) / 0x400) = true ∧
    live.host.rspReady.getLsbD ((0x83FC - 0x4400) / 0x400) = false := by decide

theorem test_witness_EventTailMovesForwardOnly :
    let s : State := { live with host := { live.host with evtHead := 3, evtTail := 1 } };
    s.isReady = true ∧ s.host.evtLost = 0 ∧ (3 + 512 - s.host.evtTail) % 512 ≤ s.host.unread ∧
      s.host.unread < (4 + 512 - s.host.evtTail) % 512 := by decide

/-- A command frame with its CRC. -/
def framed (op ticket : Nat) (payload : Bytes) : Bytes :=
  let head := leBytes 2 op ++ leBytes 1 ticket ++ zeros 5 ++ leBytes 2 payload.length
  let crc := crc16 (head ++ zeros 2 ++ zeros 4 ++ payload)
  head ++ leBytes 2 crc ++ zeros 4 ++ payload

/-- The frame in mailbox 0, doorbelled. -/
def posted (b : Bytes) (s : State) : State :=
  { s with host := { s.host with window := Memory.writeBytes [] 0x400 b, cmdOwner := 1, doorbell := [0] } }

theorem test_witness_TakingACommandMailbox :
    (let s := posted (framed 0x0101 5 []) live;
      (mailboxFrame s 0).sound = true ∧ (mailboxFrame s 0).ticket = 5 ∧ (s.ticket 5).state = .free ∧
        judge (mailboxFrame s 0) s = none ∧ s.host.doorbell = [0] ∧ s.eave.depth = 0) ∧
    (let s := posted (framed 0x00FF 5 []) live;
      (mailboxFrame s 0).sound = true ∧ judge (mailboxFrame s 0) s = some St.badArg) ∧
    (let s := give { opcode := 0x0101 } [] (posted (framed 0x0101 0 []) live);
      (mailboxFrame s 0).sound = true ∧ (s.ticket (mailboxFrame s 0).ticket).state ≠ .free) ∧
    (mailboxFrame (posted (List.replicate 16 0xFF) live) 0).sound = false := by decide +kernel

/-- Ticket 0 completed, with its response cut into one fragment. -/
def answered (w : Work) (s : State) : State :=
  { s with
    stew := { s.stew with works := tmod s.stew.works 0 (fun _ => some w), postQ := [.ticket 0], rmb := tmod s.stew.rmb 0 (fun _ => some (.frag 0 0)) }
    sheet := { s.sheet with tickets := tmod s.sheet.tickets 0 (fun e => { e with state := .completed }) } }

theorem test_witness_ReleasingAResponseMailbox :
    let s := answered { frags := [[]], posted := 1 } { live with host := { live.host with rspReady := 1 } };
    s.isReady = true ∧ s.host.rspReady.getLsbD 0 = true ∧ tget s.stew.rmb 0 = some (.frag 0 0) ∧
      s.work 0 = some { frags := [[]], posted := 1 } ∧ (s.ticket 0).state = .completed ∧
      s.host.rspReady.getLsbD 1 = false := by decide +kernel

theorem test_witness_PostingAResponseFragment :
    let w : Work := { frags := [zeros 1000] }
    let s := answered w live
    s.stew.running = true ∧ s.stew.postQ = [.ticket 0] ∧ s.work 0 = some w ∧ w.t1 = false ∧ w.nextFrag = some 0 ∧
      freeMailbox s = some 0 ∧ (fragBytes 0 0 w).length ≤ 1024 := by decide +kernel

theorem test_witness_HostLinkTimers :
    let s : State := { live with host := { live.host with holdUntil := some (1099511627776 + 5), ringSince := [1099511627776] },
                                  conf := live.conf.put (settingId 1 7 0) (3 : Int) };
    s.host.holdUntil = some (1099511627776 + 5) ∧ clearUntil (1099511627776 + 5) s = true ∧ s.nat 1 7 ≠ 0 ∧
      clearUntil (1099511627776 + lsbOfMs (s.nat 1 7)) s = true ∧ s.stew.running = true ∧ s.eave.depth ≤ 1 ∧
      clearUntil s.host.beatAt s = true := by decide +kernel

/-- A live block whose T1 path on port 18 is up, with a key of the path in slot 1 (R63, R64). -/
def onT1 : State :=
  keyed 1 (setTo 1 2 0 1 (setTo 1 1 0 0xA0B0C0 (setTo 1 0 0 18 { live with
    sw := { ports := tmod (Vector.replicate 28 {}) 18 (fun p => { p with state := .up }) }
    grain := { live.grain with state := .ready, seeds := [zeros 16, zeros 16] } })))

/-- A T1 host frame without its MAC, and with it (R64). -/
def t1Head (kind count : Nat) (body : Bytes) : Bytes :=
  leBytes 1 1 ++ leBytes 1 kind ++ leBytes 2 body.length ++ leBytes 8 count ++ body
/-- The body of the frame. -/
def t1Sealed (kind count : Nat) (body : Bytes) : Bytes :=
  t1Head kind count body ++ (cmac (zeros 16) (t1Head kind count body)).take 8

/-- The MAC of such a frame is the one that R64 asks for. -/
theorem t1Sealed_mac (kind count n : Nat) (body : Bytes) (h : (t1Head kind count body).length = n) :
    (cmac (zeros 16) ((t1Sealed kind count body).take n)).take 8 = (t1Sealed kind count body).drop n := by
  subst h
  simp only [t1Sealed, List.take_left', List.drop_left']

/-- The Ethernet header of a host frame on port 18 from the peer of `onT1` (R63). -/
def t1Header : Bytes := beBytes 6 (Config.portMac 18) ++ leBytes 6 0xA0B0C0 ++ t1EtherType

/-- A frame with it is addressed as R63 asks. -/
theorem t1Header_addressed (b : Bytes) (s : State) (h : s.nat 1 1 = 0xA0B0C0) :
    t1Addressed 18 (t1Header ++ b) s = true ∧ t1Header.length = 14 := by
  have hl : (beBytes 6 (Config.portMac 18)).length = 6 := by simp [beBytes, leBytes_length]
  have hm : (leBytes 6 0xA0B0C0).length = 6 := leBytes_length 6 _
  refine ⟨?_, ?_⟩
  · simp [t1Addressed, t1Header, slice, h, List.take_append, List.drop_append, hl, hm, t1EtherType]
  · simp [t1Header, hl, hm, t1EtherType]

/-- The other checks of R64 pass. -/
def t1Sound (s : State) (b : Bytes) : Bool :=
  t1Key s 3 == some (zeros 16) && keyReady s (s.nat 1 2) && u8At b 0 == 1 && decide (20 + u16At b 2 ≤ b.length) && s.host.t1Hold.isEmpty &&
    decide (s.sheet.t1Rx < u64At b 4) && decide (u64At b 4 ≤ s.sheet.t1Rx + 2 ^ 20) &&
    decide (u64At b 4 / 1024 ≤ s.store.counterValue 0x1062)

theorem test_witness_T1HostPath :
    (live.t1Port ≠ some 18) ∧
    (onT1.t1Port = some 18 ∧ onT1.t1Up = true ∧ onT1.nat 1 1 = 0xA0B0C0 ∧ t1Key { onT1 with ciph := {} } 3 = none ∧
      keyReady { onT1 with ciph := {} } (onT1.nat 1 2) = true ∧ keyReady { onT1 with grain := {} } (onT1.nat 1 2) = false) ∧
    (let b := t1Sealed 1 1 (framed 0x0101 5 []);
      t1Sound onT1 b = true ∧ (t1Head 1 1 (framed 0x0101 5 [])).length = 12 + u16At b 2 ∧ (⟨slice b 12 (u16At b 2)⟩ : Frame).sound = true ∧ 16 ≤ u16At b 2 ∧
        (⟨slice b 12 (u16At b 2)⟩ : Frame).ticket = 5 ∧ judge ⟨slice b 12 (u16At b 2)⟩ onT1 = none) ∧
    (let b := t1Sealed 4 1 (zeros 4);
      let s := answered { frags := [[]], posted := 1, t1 := true } onT1;
      t1Sound s b = true ∧ (t1Head 4 1 (zeros 4)).length = 12 + u16At b 2 ∧ u8At b 1 = 4 ∧ u16At b 2 = 4 ∧ u8At (slice b 12 4) 0 = 0 ∧
        s.work 0 = some { frags := [[]], posted := 1, t1 := true } ∧ (s.ticket 0).state = .completed ∧
        t1Unreleased s = [(0, { frags := [[]], posted := 1, t1 := true })] ∧
        s.host.t1Dups = [] ∧ clearUntil (0 + lsbOfMs (s.nat 1 3)) s = true) ∧
    (let s : State := { onT1 with host := { onT1.host with t1Dups := [({}, 0)] } };
      t1Unreleased s = [] ∧ s.t1Up = true ∧ keyReady s (s.nat 1 2) = true ∧ clearUntil (0 + lsbOfMs (s.nat 1 3)) s = true) ∧
    clearUntil (5 + 5 * oneSec) { live with host := { live.host with trigger12At := some 5 } } = true := by decide +kernel

theorem test_witness_SourceReadsAnswer :
    (∀ src ∈ [0xFF, 3], Met 0x0308 (fun s w => (rowOfId (u32At w.req.payload 0)).isSome && u8At w.req.payload 4 == src &&
      (s.sess 3).state == .closed)) ∧
    (∀ op ∈ [0x0508, 0x0A05, 0x0A07], ∀ src ∈ [0xFF, 0xFE, 3], Met op (fun s w => u8At w.req.payload 0 == src &&
      s.sw.retiring.isNone && sessionClosed 3 s)) := by
  refine ⟨?_, ?_⟩ <;> intro a ha <;> fin_cases ha
  · exact met { opcode := 0x0308, payload := leBytes 4 (settingId 1 0 0) ++ leBytes 1 0xFF } [] live (by decide +kernel)
  · exact met { opcode := 0x0308, payload := leBytes 4 (settingId 1 0 0) ++ leBytes 1 3 } [] live (by decide +kernel)
  all_goals (intro b hb; fin_cases hb)
  · exact met { opcode := 0x0508, payload := leBytes 1 0xFF } [] live (by decide +kernel)
  · exact met { opcode := 0x0508, payload := leBytes 1 0xFE } [] live (by decide +kernel)
  · exact met { opcode := 0x0508, payload := leBytes 1 3 } [] live (by decide +kernel)
  · exact met { opcode := 0x0A05, payload := leBytes 1 0xFF } [] live (by decide +kernel)
  · exact met { opcode := 0x0A05, payload := leBytes 1 0xFE } [] live (by decide +kernel)
  · exact met { opcode := 0x0A05, payload := leBytes 1 3 } [] live (by decide +kernel)
  · exact met { opcode := 0x0A07, payload := leBytes 1 0xFF } [] live (by decide +kernel)
  · exact met { opcode := 0x0A07, payload := leBytes 1 0xFE } [] live (by decide +kernel)
  · exact met { opcode := 0x0A07, payload := leBytes 1 3 } [] live (by decide +kernel)

/-- Payload of NODE.COURSE_STAGE: course 0x100 with token slot 0. -/
def courseBytes : Bytes := leBytes 2 0x100 ++ leBytes 2 1 ++ leBytes 2 0x50

theorem test_witness_StagingCommandsStage :
    (∀ st ∈ [SessState.opened, .checked, .closed, .exposing],
      Met 0x0120 (fun s w => (courseRefusal w.req.payload).isNone && (s.sess w.req.session).state == st &&
        decide (w.req.session = 3))) ∧
    Met 0x0121 (fun _ w => u16At w.req.payload 0 == 0x100) ∧
    Met 0x0213 (fun _ w => w.req.node - 0x60 == 11 && u8At w.req.payload 16 / 2 % 2 == 0) ∧
    Met 0x0A04 (fun _ w => u8At w.req.payload 2 == 1) := by
  refine ⟨fun st _ => ?_, ?_, ?_, ?_⟩
  · cases st
    · exact met { opcode := 0x0120, session := 3, payload := courseBytes } [] (sessAs 3 { state := .closed } live) (by decide +kernel)
    · exact met { opcode := 0x0120, session := 3, payload := courseBytes } [] (sessAs 3 { state := .opened } live) (by decide +kernel)
    · exact met { opcode := 0x0120, session := 3, payload := courseBytes } [] (sessAs 3 { state := .checked } live) (by decide +kernel)
    · exact met { opcode := 0x0120, session := 3, payload := courseBytes } [] (sessAs 3 { state := .exposing } live) (by decide +kernel)
  · exact met { opcode := 0x0121, payload := leBytes 2 0x100 } [] live (by decide +kernel)
  · exact met { opcode := 0x0213, node := 0x6B, payload := zeros 20 } [] live (by decide +kernel)
  · exact met { opcode := 0x0A04, payload := leBytes 2 0 ++ leBytes 1 1 } [] live (by decide +kernel)

/-- The stamp at which the live block stands. -/
def now0 : Nat := 1099511627776

theorem test_witness_SettingAndSlewingTheEpoch :
    Met 0x0202 (fun s w => decide (u64At w.req.payload 0 = s.now)) ∧
    Met 0x0202 (fun s w => !s.time.unset && decide (u64At w.req.payload 0 - s.now = lsbOfS 86400 + 1) && s.power.mode != .workshop) ∧
    Met 0x0202 (fun s w => decide (s.now < u64At w.req.payload 0) && decide (u64At w.req.payload 0 - s.now = lsbOfS 86400) &&
      s.time.routing.isEmpty && (List.range 16).all (fun n => (s.shut n).state == .idle)) ∧
    Met 0x0203 (fun _ w => u32At w.req.payload 4 == 0) ∧
    clearUntil (now0 + 9) (timed (fun t => { t with slewEnd := some (now0 + 9) }) live) = true :=
  ⟨met { opcode := 0x0202, payload := leBytes 8 now0 } [] live (by decide +kernel),
    met { opcode := 0x0202, payload := leBytes 8 (now0 + lsbOfS 86400 + 1) } [] live (by decide +kernel),
    met { opcode := 0x0202, payload := leBytes 8 (now0 + lsbOfS 86400) } [] live (by decide +kernel),
    met { opcode := 0x0203, payload := zeros 8 } [] live (by decide +kernel), by decide +kernel⟩

/-- Payload of TIME.SHUTTER_ARM. -/
def armBytes (compare period flags : Nat) : Bytes := leBytes 8 compare ++ leBytes 8 period ++ leBytes 1 flags ++ zeros 7

/-- One shutter set. -/
def shutAs (n : Nat) (h : Shutter) (s : State) : State := timed (fun t => { t with shutters := tmod t.shutters n (fun _ => h) }) s

theorem test_witness_ShuttersArmAndFire :
    Met 0x0210 (fun _ w => commandTiles w == [0x60 + 12]) ∧
    Met 0x0210 (fun s w => commandTiles w == [0x60 + 11] && u8At w.req.payload 16 / 2 % 2 == 0 && (s.shut 11).state == .idle &&
      decide (u64At w.req.payload 0 = s.now + 1)) ∧
    Met 0x0210 (fun s w => commandTiles w == [0x60 + 11] && u8At w.req.payload 16 / 2 % 2 == 0 && (s.shut 11).state == .idle &&
      decide (u64At w.req.payload 0 = s.now) && !(s.shut 11).preValid && s.time.routing.isEmpty && (routesFrom s 12).isEmpty) ∧
    Met 0x0210 (fun s w => commandTiles w == [0x60] && u8At w.req.payload 16 / 2 % 2 == 0 && (s.shut 0).state == .oneShot &&
      decide (s.now < (s.shut 0).active)) ∧
    Met 0x0210 (fun s w => commandTiles w == [0x60] && u8At w.req.payload 16 / 2 % 2 == 1 && (s.shut 0).state == .periodic &&
      decide (s.now < (s.shut 0).active) &&
      (s.shut 0).lastCompare == some now0 && decide (s.now < now0 + u64At w.req.payload 8) && u64At w.req.payload 8 == 1) ∧
    Met 0x0211 (fun _ w => commandTiles w == [0x60 + 12]) ∧ Met 0x0211 (fun s w => commandTiles w == [0x60 + 11] && (s.shut 11).state == .idle) ∧
    Met 0x0211 (fun s w => commandTiles w == [0x60 + 11] && decide (s.now < (s.shut 11).active)) ∧
    (let s := shutAs 11 { state := .periodic, active := now0 + 5, period := 7 } live;
      (reachCompare 11 s).isSome = true ∧ s.time.routing = [] ∧ routesFrom s 12 = [] ∧ (s.shut 11).preValid = false) :=
  ⟨met { opcode := 0x0210, payload := armBytes 0 0 0 } [{ node := 0x6C }] live (by decide +kernel),
    met { opcode := 0x0210, payload := armBytes (now0 + 1) 0 0 } [{ node := 0x6B }] live (by decide +kernel),
    met { opcode := 0x0210, payload := armBytes now0 0 0 } [{ node := 0x6B }] live (by decide +kernel),
    met { opcode := 0x0210, payload := armBytes now0 0 0 } [{ node := 0x60 }] (shutAs 0 { state := .oneShot, active := now0 + 5 } live) (by decide +kernel),
    met { opcode := 0x0210, payload := armBytes now0 1 2 } [{ node := 0x60 }]
      (shutAs 0 { state := .periodic, active := now0 + 5, lastCompare := some now0 } live) (by decide +kernel),
    met { opcode := 0x0211 } [{ node := 0x6C }] live (by decide +kernel),
    met { opcode := 0x0211 } [{ node := 0x6B }] live (by decide +kernel),
    met { opcode := 0x0211 } [{ node := 0x6B }] (shutAs 11 { state := .oneShot, active := now0 + 5 } live) (by decide +kernel),
    by decide +kernel⟩

theorem test_witness_CapturePairsStampEdges :
    (let s := timed (fun t => { t with captures := tmod t.captures 7 (fun c => { c with rise := some (now0, false), open_ := true }) })
        (setTo 2 4 7 1 live);
      s.nat 2 4 7 ≠ 0 ∧ s.nat 2 4 7 < 7 ∧ clearUntil (now0 + 9) s = true ∧ s.nat 2 6 7 = 0 ∧ s.nat 2 5 7 = 0 ∧
        s.time.routing = [] ∧ now0 ≤ (reach (now0 + 9) s).now ∧ (reach (now0 + 9) s).now - now0 < 2 ^ 32 ∧ routesFrom s (0x11 + 7) = [] ∧
        routesFrom s (0x19 + 7) = [] ∧ (s.cap 7).rise = some (now0, false) ∧ (s.cap 7).open_ = true) ∧
    Met 0x0220 (fun s w => commandTiles w == [0x80 + 7] && u8At w.req.payload 4 % 2 == 1 && u32At w.req.payload 0 == (s.cap 7).capSeq &&
      decide (s.lf.seqs = [] ∧ s.range.session = none)) ∧
    Met 0x0220 (fun s w => commandTiles w == [0x80 + 7] && u8At w.req.payload 4 % 2 == 1 && u32At w.req.payload 0 != (s.cap 7).capSeq &&
      decide (s.lf.seqs = [] ∧ s.range.session = none)) ∧
    ownEdges live = live :=
  ⟨by decide +kernel, met { opcode := 0x0220, payload := zeros 4 ++ leBytes 4 1 } [{ node := 0x87 }] live (by decide +kernel),
    met { opcode := 0x0220, payload := leBytes 4 1 ++ leBytes 4 1 } [{ node := 0x87 }] live (by decide +kernel), rfl⟩

theorem test_witness_TrimAndFloor :
    (let s := timed (fun t => { t with trimFrom := some (now0 - 9) }) live;
      s.time.trimFrom = some (now0 - 9) ∧ clearUntil (now0 - 9 + lsbOfS 64) s = true) ∧
    (let s := timed (fun t => { t with floor := some (now0 + lsbOfS 3600) }) live;
      s.power.mode ≠ .stowed ∧ s.boot.phase = .run ∧ s.time.floor = some (now0 + lsbOfS 3600) ∧
        clearUntil (now0 + lsbOfS 3600 - lsbOfS 3600) s = true) := by decide +kernel

/-- The live block in a mode. -/
def inMode (m : Mode) : State := powered (fun p => { p with mode := m }) live

theorem test_witness_ModeRequestsAreJudged :
    Met 0x0402 (fun s w => s.power.moving == some {} && decide (({} : Transition).since ≠ s.now) &&
      !requestStands (u8At w.req.payload 0) s) ∧
    Met 0x0402 (fun s w => s.power.moving == some { target := .cab, trigger := 2, since := s.now } && s.power.modeTicket.isNone &&
      requestStands (u8At w.req.payload 0) s) ∧
    Met 0x0402 (fun s w => s.power.moving.isNone && windowOver s && requestStands (u8At w.req.payload 0) s) ∧
    Met 0x0402 (fun s w => s.power.moving.isNone && !windowOver s && s.power.mode.code == u8At w.req.payload 0) ∧
    Met 0x0402 (fun s w => s.power.moving.isNone && !windowOver s && s.power.mode.code != u8At w.req.payload 0 &&
      (requestTarget s.power.mode (u8At w.req.payload 0)).isNone) ∧
    Met 0x0402 (fun s w => s.power.moving.isNone && !windowOver s && requestTarget s.power.mode (u8At w.req.payload 0) == some .workshop &&
      !s.power.strap) ∧
    Met 0x0402 (fun s w => s.power.moving.isNone && !windowOver s && requestTarget s.power.mode (u8At w.req.payload 0) == some .workshop &&
      s.power.strap && !s.shopCard) ∧
    Met 0x0402 (fun s w => s.power.moving.isNone && !windowOver s && requestTarget s.power.mode (u8At w.req.payload 0) == some .parked) :=
  ⟨met { opcode := 0x0402 } [] (powered (fun p => { p with moving := some {} }) live) (by decide +kernel),
    met { opcode := 0x0402, payload := leBytes 1 Mode.parked.code } []
      (powered (fun p => { p with moving := some { target := .cab, trigger := 2, since := now0 } }) (inMode .watch)) (by decide +kernel),
    met { opcode := 0x0402, payload := leBytes 1 Mode.parked.code } []
      (setTo 4 0 0 1 (powered (fun p => { p with watchFrom := 0 }) (inMode .watch))) (by decide +kernel),
    met { opcode := 0x0402, payload := leBytes 1 Mode.cab.code } [] (inMode .cab) (by decide +kernel),
    met { opcode := 0x0402, payload := leBytes 1 Mode.holdover.code } [] (inMode .cab) (by decide +kernel),
    met { opcode := 0x0402, payload := leBytes 1 Mode.workshop.code } [] (inMode .watch) (by decide +kernel),
    met { opcode := 0x0402, payload := leBytes 1 Mode.workshop.code } [] (powered (fun p => { p with strap := true }) (inMode .watch)) (by decide +kernel),
    met { opcode := 0x0402, payload := leBytes 1 Mode.parked.code } [] (inMode .watch) (by decide +kernel)⟩

theorem test_witness_TransitionsRunTheirCourse :
    (let s := powered (fun p => { p with moving := some { target := .parked, trigger := 7, since := now0 } }) (inMode .watch);
      s.stew.running = true ∧ transitionReady { target := .parked, trigger := 7, since := now0 } s = true ∧
        clearUntil (now0 + lsbOfMs 20) s = true) ∧
    (let s := powered (fun p => { p with moving := some { target := .approach, since := now0 }, domains := (inMode .stowed).power.domains.map (fun d => { d with state := .off }) }) (inMode .stowed);
      transitionReady { target := .approach, since := now0 } s = false) ∧
    (let s := powered (fun p => { p with watchFrom := now0 }) (inMode .watch);
      s.power.waiting.contains 7 = false ∧ clearUntil (s.power.watchFrom + lsbOfS (60 * s.nat 4 0)) s = true ∧ s.power.moving = none) ∧
    (live.power.mode = .holdover ∧ live.stew.running = true ∧ live.boot.phase = .run ∧ live.power.moving = none) ∧
    (let s := powered (fun p => { p with standingFrom := now0 }) (inMode .parked);
      clearUntil (s.power.standingFrom + lsbOfS ((s.sheet.standing / 60 + 1) * 60)) s = true) := by decide +kernel

theorem test_witness_WakePinsTakeEffect :
    (live.boot.phase ≠ .dark ∧ live.boot.phase = .run ∧ pinLevel live.power 4 ≠ true ∧ live.power.mode ≠ .stowed) ∧
    ({ live with boot := { phase := .warm } } : State).boot.phase ≠ .run ∧
    ((inMode .stowed).boot.phase = .run ∧ ((inMode .stowed).nat 4 4).testBit 0 = true ∧ pinLevel (inMode .stowed).power 0 ≠ true) ∧
    (setTo 4 4 0 0 (inMode .stowed)).nat 4 4 = 0 ∧
    (live.power.strap ≠ true ∧ live.heads .workshop = false) ∧
    (let s := powered (fun p => { p with strap := true }) (inMode .workshop); s.power.strap ≠ false ∧ s.power.moving = none) ∧
    (let s := setTo 4 5 0 0xFFF (inMode .watch); ((1 : BitVec 12) &&& BitVec.ofNat 12 (s.nat 4 5)).toNat ≠ 0) ∧
    clearUntil (now0 + 9) (powered (fun p => { p with canWakeUntil := some (now0 + 9) }) live) = true := by decide +kernel

theorem test_witness_DomainsSwitch :
    let s (d : Nat) (x : DomState) := powered (fun p => { p with domains := tmod p.domains d (fun y => { y with state := x }) }) live
    (∀ d ∈ [9, 6, 2], (tget (s d .switching).power.domains d).state = .switching ∧
      ((domainNeeds d).all (fun e => (s d .switching).powered e)) = true ∧ ((s d .switching).powered 2 = true ∨ (s d .switching).powered 3 = true) ∧
      (s d .switching).eave.depth ≤ depthFor d) ∧
    (depthFor 6 < ({ live with eave := { depth := 2 } } : State).eave.depth) ∧
    (needing .accepted [4] (s 4 .switching) = [] ∧ (s 4 .switching).boot.phase ≠ .cold) ∧
    (let t : State := { give {} [] (s 4 .switching) with stew := { live.stew with works := tmod idle 0 (fun _ => some { needs := [4] }) } };
      needing .accepted [4] t = [0] ∧ t.safe.sort.length + 1 ≤ 2048) ∧
    (tget live.power.domains 9).state = .on ∧ live.boot.phase = .run ∧ live.powered 3 = true := by decide +kernel

theorem test_witness_SleepDepthAndWakes :
    (let s := powered (fun p => { p with domains := (({} : Power).domains) }) { live with boot := { phase := .run } };
      s.stew.running = true ∧ s.eave.depth ≤ 1 ∧ s.eave.waking = none ∧
        ([2, 4, 5, 6, 7, 8, 9].all (fun d => permit s.power.mode d != .booked || !s.lit d)) = true ∧ heldAwake s = false) ∧
    heldAwake (give {} [] live) = true ∧ heldAwake (inMode .parked) = false ∧
    (chooseDepth (inMode .parked)).1 ≠ (inMode .parked).eave.depth ∧ (chooseDepth (inMode .parked)).1 ≤ 4 ∧
    (let dark (d : Nat) (w : Option Nat) : State := powered (fun p => { p with domains := Vector.replicate 10 {} })
        { inMode .parked with eave := { depth := d, wakeAt := w, xsStable := true, sampleAt := now0 + 2 ^ 60 } };
      (∀ d ∈ [2, 4], heldAwake (dark d none) = false ∧ d ≤ depthAllowed (dark d none)) ∧
      (dark 2 none).eave.depth < (chooseDepth (dark 2 none)).1 ∧
      (let s : State := { dark 3 none with host := { live.host with holdUntil := some (now0 + 5) } };
        heldAwake s = false ∧ depthAllowed s < s.eave.depth) ∧
      (let s (at_ : Nat) := timed (fun t => { t with shutters := tmod t.shutters 0 (fun h => { h with state := .oneShot, active := at_ }) }) (dark 4 none);
        (nextBooking (s (now0 + lsbOfS 9))).isSome = true ∧ heldAwake (s (now0 + lsbOfS 9)) = false ∧
          4 ≤ depthAllowed (s (now0 + lsbOfS 9)) ∧ (chooseDepth (s (now0 + lsbOfS 9))).1 ≤ 4 ∧
          (nextBooking (s (now0 + lsbOfUs 1001))).isSome = true ∧ 4 ≤ depthAllowed (s (now0 + lsbOfUs 1001)) ∧
          (chooseDepth (s (now0 + lsbOfUs 1001))).1 ≤ 4) ∧
      clearUntil ((now0 + 40000) - (now0 + 40000) % 32768) (dark 4 (some (now0 + 40000))) = true ∧
      (dark 4 (some (now0 + 40000))).eave.waking = none ∧
      (switchDue (dark 4 (some (now0 + 40000)))).all (fun d => decide (now0 + 40000 - (now0 + 40000) % 32768 ≤ d)) = true ∧
      (switchDue (dark 4 none)).isSome = true ∧ wakeDue (dark 4 none) = none ∧
      (switchDue (dark 4 none)).all (fun d => clearUntil d (dark 4 none)) = true) ∧
    (let s : State := { live with eave := { depth := 2, waking := some { depth := 2, since := now0 } } };
      clearUntil (now0 + lsbOfUs 5000) s = true ∧ (s.latency 2).entry + s.nat 4 2 < 5000 ∧ 1 ≤ (s.latency 2).entry + s.nat 4 2) := by decide +kernel

/-- A staged value. -/
def item (cls row : Nat) (v : Int) : Item := { id := settingId cls row 0, val := .value v }

/-- Payload of EXPOSE.SET_STAGE with one item. -/
def stageBytes (id : Nat) (v : Nat) : Bytes := leBytes 2 1 ++ zeros 2 ++ leBytes 4 id ++ zeros 4 ++ leBytes 8 v

theorem test_witness_SessionsStageAllOrNothing :
    Met 0x0301 (fun s w => u8At w.req.payload 0 == 3 && (s.sess 3).state == .closed) ∧
    Met 0x0301 (fun s w => u8At w.req.payload 0 == 0xFF && (s.sess 0).state != .closed && (s.sess 1).state == .closed) ∧
    Met 0x0301 (fun s w => u8At w.req.payload 0 == 3 && (s.sess 3).state != .closed) ∧
    (∀ st ∈ [SessState.exposing, .checked], Met 0x0302 (fun s w => u8At w.req.payload 0 == 3 && (s.sess 3).state == st)) ∧
    (∀ st ∈ [SessState.closed, .exposing], Met 0x0303 (fun s w => w.req.session == 3 && (s.sess 3).state == st)) ∧
    Met 0x0303 (fun s w => (s.sess 0).state == .opened &&
      (match stageAll s.power.mode w.req.payload (u16At w.req.payload 0) 0 with | .error e => e.1 == 0 | .ok _ => false) &&
      u16At w.req.payload 0 == 1 && ((rowOfId (u32At w.req.payload 4)).map (·.stage)) == some .no && u32At w.req.payload 8 == 0) ∧
    Met 0x0303 (fun s w => (s.sess 0).state == .opened && u16At w.req.payload 0 == 1 && u32At w.req.payload 8 == 0 &&
      (match rowOfId (u32At w.req.payload 4) with
        | some r => r.stage == .workshop && r.ok (u32At w.req.payload 4 % 0x10000) (readValue r (slice w.req.payload 12 8)) && s.power.mode != .workshop
        | none => false)) ∧
    Met 0x0303 (fun s w => (s.sess 0).state == .opened && u16At w.req.payload 0 == 1 && u32At w.req.payload 8 == 0 &&
      (match rowOfId (u32At w.req.payload 4) with
        | some r => r.stage == .yes && !r.ok (u32At w.req.payload 4 % 0x10000) (readValue r (slice w.req.payload 12 8))
        | none => false)) ∧
    Met 0x0303 (fun s w => (s.sess 0).state == .checked && u16At w.req.payload 0 == 1 && u32At w.req.payload 8 == 0 &&
      (match rowOfId (u32At w.req.payload 4) with
        | some r => r.stage == .yes && r.ok (u32At w.req.payload 4 % 0x10000) (readValue r (slice w.req.payload 12 8))
        | none => false)) := by
  refine ⟨met { opcode := 0x0301, payload := leBytes 1 3 } [] live (by decide +kernel),
    met { opcode := 0x0301, payload := leBytes 1 0xFF } [] (sessAs 0 { state := .opened } live) (by decide +kernel),
    met { opcode := 0x0301, payload := leBytes 1 3 } [] (sessAs 3 { state := .opened } live) (by decide +kernel),
    fun st h => ?_, fun st h => ?_,
    met { opcode := 0x0303, payload := stageBytes (settingId 2 1 0) 0 } [] (sessAs 0 { state := .opened } live) (by decide +kernel),
    met { opcode := 0x0303, payload := stageBytes (settingId 1 0 0) 18 } [] (sessAs 0 { state := .opened } live) (by decide +kernel),
    met { opcode := 0x0303, payload := stageBytes (settingId 3 0 0) 0xFFFFFFFF } [] (sessAs 0 { state := .opened } live) (by decide +kernel),
    met { opcode := 0x0303, payload := stageBytes (settingId 4 0 0) 5 } [] (sessAs 0 { state := .checked } live) (by decide +kernel)⟩
  · rcases List.mem_pair.1 h with h | h <;> subst h
    · exact met { opcode := 0x0302, payload := leBytes 1 3 } [] (sessAs 3 { state := .exposing } live) (by decide +kernel)
    · exact met { opcode := 0x0302, payload := leBytes 1 3 } [] (sessAs 3 { state := .checked } live) (by decide +kernel)
  · rcases List.mem_pair.1 h with h | h <;> subst h
    · exact met { opcode := 0x0303, session := 3 } [] (sessAs 3 { state := .closed } live) (by decide +kernel)
    · exact met { opcode := 0x0303, session := 3 } [] (sessAs 3 { state := .exposing } live) (by decide +kernel)

/-- Payload of EXPOSE.EXPOSE. -/
def exposeBytes (sess flags instant : Nat) : Bytes := leBytes 1 sess ++ leBytes 1 flags ++ zeros 6 ++ leBytes 8 instant

/-- No session is EXPOSING. -/
def noneExposing (s : State) : Bool := (List.range 4).all (fun m => (s.sess m).state != .exposing)

/-- EARLIEST of an exposure of session 3. -/
def earliest3 (s : State) (instant : Nat) : Nat := earliestOf (leadsAfter (s.sess 3) instant s.conf.gen (leads (s.sess 3).items s)) s.now

/-- Session 3 CHECKED, with its prepared set. -/
def checked3 (items : List Item) (s : State) : State :=
  { sessAs 3 { state := .checked, items } s with store := { s.store with sets := [{ no := 1, session := 3, items }] } }

theorem test_witness_ExposeTakesTheFirstRow :
    Met 0x0305 (fun s w => u8At w.req.payload 0 == 3 && (s.sess 3).state != .checked) ∧
    Met 0x0305 (fun s w => u8At w.req.payload 0 == 3 && (s.sess 3).state == .checked && !noneExposing s) ∧
    Met 0x0305 (fun s w => u8At w.req.payload 0 == 3 && (s.sess 3).state == .checked && noneExposing s && s.conf.gen != (s.sess 3).baseGen) ∧
    Met 0x0305 (fun s w => u8At w.req.payload 0 == 3 && (s.sess 3).state == .checked && noneExposing s && s.conf.gen == (s.sess 3).baseGen &&
      !modeHolds s (s.sess 3).items) ∧
    Met 0x0305 (fun s w => u8At w.req.payload 0 == 3 && (s.sess 3).state == .checked && noneExposing s && s.conf.gen == (s.sess 3).baseGen &&
      modeHolds s (s.sess 3).items && !(fixItems (s.sess 3).items).isEmpty && !s.lane.up) ∧
    Met 0x0305 (fun s w => u8At w.req.payload 0 == 3 && (s.sess 3).state == .checked && noneExposing s && s.conf.gen == (s.sess 3).baseGen &&
      modeHolds s (s.sess 3).items && (fixItems (s.sess 3).items).isEmpty && decide (s.now + lsbOfS (s.nat 3 0) + 1 = u64At w.req.payload 8)) ∧
    Met 0x0305 (fun s w => u8At w.req.payload 0 == 3 && (s.sess 3).state == .checked && noneExposing s && s.conf.gen == (s.sess 3).baseGen &&
      modeHolds s (s.sess 3).items && (fixItems (s.sess 3).items).isEmpty && decide (u64At w.req.payload 8 ≤ s.now + lsbOfS (s.nat 3 0)) &&
      decide (u64At w.req.payload 8 ≠ 0) && decide (u64At w.req.payload 8 < earliest3 s (u64At w.req.payload 8)) &&
      !(u8At w.req.payload 1).testBit 0) ∧
    (∀ flag ∈ [0, 1], Met 0x0305 (fun s w => u8At w.req.payload 0 == 3 && (s.sess 3).state == .checked && noneExposing s &&
      s.conf.gen == (s.sess 3).baseGen && modeHolds s (s.sess 3).items && (fixItems (s.sess 3).items).isEmpty &&
      u64At w.req.payload 8 == 0 && (u8At w.req.payload 1).testBit 0 == (flag == 1) && (preparedSet 3 s).isSome)) := by
  refine ⟨met { opcode := 0x0305, payload := exposeBytes 3 0 0 } [] live (by decide +kernel),
    met { opcode := 0x0305, payload := exposeBytes 3 0 0 } [] (sessAs 0 { state := .exposing } (checked3 [] live)) (by decide +kernel),
    met { opcode := 0x0305, payload := exposeBytes 3 0 0 } [] (sessAs 3 { state := .checked, baseGen := 1 } live) (by decide +kernel),
    met { opcode := 0x0305, payload := exposeBytes 3 0 0 } [] (checked3 [item 9 1 1] live) (by decide +kernel),
    met { opcode := 0x0305, payload := exposeBytes 3 0 0 } [] (checked3 [item 9 1 1] (inMode .workshop)) (by decide +kernel),
    met { opcode := 0x0305, payload := exposeBytes 3 0 (now0 + lsbOfS (live.nat 3 0) + 1) } [] (checked3 [] live) (by decide +kernel),
    met { opcode := 0x0305, payload := exposeBytes 3 0 1 } [] (checked3 [] live) (by decide +kernel), fun flag h => ?_⟩
  rcases List.mem_pair.1 h with h | h <;> subst h
  · exact met { opcode := 0x0305, payload := exposeBytes 3 0 0 } [] (checked3 [] live) (by decide +kernel)
  · exact met { opcode := 0x0305, payload := exposeBytes 3 1 0 } [] (checked3 [] live) (by decide +kernel)

/-- An exposure of session 3 under way, whose ticket is 1. -/
def exposing3 (items : List Item) (p : Pending) (s : State) : State :=
  let t := sessAs 3 { state := .exposing, items } s
  { t with expo := { t.expo with pending := some p } }

theorem test_witness_ExposureRunsToItsInstant :
    (∀ d ∈ [true, false], Met 0x0306 (fun s w => u8At w.req.payload 0 == 3 && (s.sess 3).state == .exposing &&
      s.expo.pending == some { session := 3, ticket := 1, decided := d })) ∧
    Met 0x0306 (fun s w => u8At w.req.payload 0 == 3 && (s.sess 3).state == .closed) ∧
    Met 0x0306 (fun s w => u8At w.req.payload 0 == 3 && (s.sess 3).state == .checked) ∧
    (let p : Pending := { session := 3, ticket := 1, instant := now0 + lsbOfMs 5, loaded := true };
      clearUntil (p.instant - lsbOfUs 100) (exposing3 [] p live) = true ∧
        modeHolds (exposing3 [] p live) ((exposing3 [] p live).sess 3).items = true ∧
        bootHolds (exposing3 [] p live) ((exposing3 [] p live).sess 3).items = true ∧
        modeHolds (exposing3 [item 9 1 1] p live) ((exposing3 [item 9 1 1] p live).sess 3).items = false) ∧
    (let p : Pending := { session := 3, ticket := 1, instant := now0 + lsbOfMs 5, loaded := true, fix := .prepared };
      clearUntil (p.instant - lsbOfMs 2) (exposing3 [] p live) = true ∧
        (reach (p.instant - lsbOfMs 2) (exposing3 [] p live)).now ≤ p.instant - lsbOfMs 1 ∧
        clearUntil (p.instant - lsbOfMs 1) (exposing3 [] p live) = true) ∧
    (let p : Pending := { session := 3, ticket := 1, instant := now0 + 9, loaded := true, fix := .prepared };
      clearUntil (p.instant - lsbOfMs 2) (exposing3 [] p live) = true ∧
        p.instant - lsbOfMs 1 < (reach (p.instant - lsbOfMs 2) (exposing3 [] p live)).now) ∧
    (let p : Pending := { session := 3, ticket := 1, instant := now0 + lsbOfMs 9, fix := .preparing, sentAt := now0 };
      clearUntil (min (p.sentAt + lsbOfMs 5) (p.instant - lsbOfMs 2)) (exposing3 [] p live) = true) ∧
    (let p : Pending := { session := 3, ticket := 1, instant := now0 + 5, decided := true };
      let s := shutAs 12 { state := .oneShot, active := now0 + 5 } (exposing3 [] p live);
      (firmStart 12 s).isSome = true ∧ p.applied = none ∧ s.expo.pending = some p ∧ (s.shut 12).owed = false ∧ s.quality = 0) := by
  refine ⟨fun d h => ?_, met { opcode := 0x0306, payload := leBytes 1 3 } [] live (by decide +kernel),
    met { opcode := 0x0306, payload := leBytes 1 3 } [] (checked3 [] live) (by decide +kernel), by decide +kernel⟩
  rcases List.mem_pair.1 h with h | h <;> subst h
  · exact met { opcode := 0x0306, payload := leBytes 1 3 } [] (exposing3 [] { session := 3, ticket := 1, decided := true } live) (by decide +kernel)
  · exact met { opcode := 0x0306, payload := leBytes 1 3 } [] (exposing3 [] { session := 3, ticket := 1 } live) (by decide +kernel)
/-- Sectors without a record hold no key. -/
theorem slotsOf_empty (l : List Sector) (h : ∀ x ∈ l, x.slots = []) : slotsOf l = [] := by
  unfold slotsOf
  rw [List.flatten_eq_nil_iff]
  intro y hy
  obtain ⟨p, hp, rfl⟩ := List.mem_map.1 hy
  have hp := List.mem_mergeSort.1 hp
  obtain ⟨i, hi, rfl⟩ := List.mem_mapIdx.1 hp
  exact h _ (List.getElem_mem _)

/-- The live block with session 3 OPEN and no record in the log. -/
def open3 (items : List Item) : State := give { opcode := 0x0304, payload := leBytes 1 3 } [] (sessAs 3 { state := .opened, items }
  { live with store := { live.store with log := Vector.ofFn (fun i => { seq := i.val }) } })

theorem startable_open3 (items : List Item) :
    startable 0 0x0304 (open3 items) = some { req := { opcode := 0x0304, payload := leBytes 1 3 } } := by
  unfold open3
  exact startable_give { opcode := 0x0304, payload := leBytes 1 3 } [] _

/-- It passes every check of EXPOSE.CHECK. -/
theorem checkAll_open3 : checkAll (open3 []) [] = [] := by
  have hb : (bandOf factoryCharter (live.conf.nat 5 14 * 1000)).isSome = true := by
    unfold factoryCharter
    rw [bandOf_factoryPage]
    decide +kernel
  have h2 : checkAccess live.conf factoryCharter = [] := by
    unfold checkAccess
    rw [charterOk_factory, hb]
    decide +kernel
  have h3 : checkStore (open3 []) [] = [] := by
    unfold checkStore
    have : liveConf (open3 []).store = [] := by
      unfold liveConf
      rw [slotsOf_empty _ (by decide +kernel)]
      rfl
    rw [this]
    decide +kernel
  have e : (open3 []).conf.applyItems [] = live.conf := by decide +kernel
  unfold checkAll
  rw [h3, e]
  show _ ++ _ ++ checkAccess live.conf factoryCharter ++ _ ++ _ ++ _ ++ _ ++ _ ++ _ = []
  rw [h2]
  decide +kernel

/-- A port pair without a usable cable run fails. -/
theorem checkAll_fails (s : State) (items : List Item)
    (h : (s.conf.applyItems items).nat 8 3 ((s.conf.applyItems items).nat 8 1) = 0) : checkAll s items ≠ [] := by
  intro e
  unfold checkAll at e
  simp only [List.append_eq_nil_iff] at e
  have := e.1.1.1.1.2
  rw [h] at this
  exact absurd this (by decide)

theorem test_witness_CheckPreparesTheSet :
    Met 0x0304 (fun s w => u8At w.req.payload 0 == 3 && (s.sess 3).state == .closed) ∧
    Met 0x0304 (fun s w => u8At w.req.payload 0 == 3 && (s.sess 3).state == .exposing) ∧
    (∃ w, startable 0 0x0304 (open3 []) = some w ∧ u8At w.req.payload 0 = 3 ∧ ((open3 []).sess 3).state = .opened ∧
      checkAll (open3 []) ((open3 []).sess 3).items = []) ∧
    (∃ w, startable 0 0x0304 (open3 [item 8 3 0]) = some w ∧ u8At w.req.payload 0 = 3 ∧ ((open3 [item 8 3 0]).sess 3).state = .opened ∧
      checkAll (open3 [item 8 3 0]) ((open3 [item 8 3 0]).sess 3).items ≠ []) :=
  ⟨met { opcode := 0x0304, payload := leBytes 1 3 } [] live (by decide +kernel),
    met { opcode := 0x0304, payload := leBytes 1 3 } [] (sessAs 3 { state := .exposing } live) (by decide +kernel),
    ⟨_, startable_open3 [], by decide +kernel, by decide +kernel, by
      rw [show ((open3 []).sess 3).items = [] by decide +kernel]; exact checkAll_open3⟩,
    ⟨_, startable_open3 _, by decide +kernel, by decide +kernel, checkAll_fails _ _ (by decide +kernel)⟩⟩


/-- The live block with its lane up. -/
def laned (s : State) : State := { s with lane := { s.lane with up := true } }

/-- The store's partitions changed. -/
def parted (n : Nat) (f : Part → Part) (s : State) : State := { s with vault := { s.vault with parts := tmod s.vault.parts n f } }

/-- What waits on the lane for the M die. -/
def toM (m : LaneMsg) (s : State) : State := { s with lane := { s.lane with toM := [m] } }

theorem test_witness_LaneTraffic :
    (clearUntil (laned live).eave.sampleAt (laned live) = true ∧ (laned live).lane.up = true ∧ live.lane.up = false ∧
      live.eave.depth ≤ 2 ∧ ({ live with eave := { depth := 4 } } : State).eave.waking = none) ∧
    ({ live with lane := { strobe := true } } : State).lane.strobe = true ∧
    (let s := parted 0 (fun p => { p with nextNo := 5 }) (toM (.record 4 []) live);
      4 < (tget s.vault.parts 0).endNo ∧ (tget s.vault.parts 0).pages.length < (tget s.vault.parts 0).capacity ∧
        (tget s.vault.parts 0).buffer.length < 127) ∧
    (let s := parted 0 (fun p => { p with blocks := 0 }) (toM (.record 4 []) live);
      (tget s.vault.parts 0).capacity ≤ (tget s.vault.parts 0).pages.length ∧ (tget s.vault.parts 0).endNo ≤ 4) ∧
    (live.lane.seen.contains 0 = false ∧ ({ live with lane := { seen := [0] } } : State).lane.seen.contains 0 = true) ∧
    (let o : LaneOut := { seq := 7, user := .ticket 0 };
      let s := give { opcode := 0x0905 } [] { toM (.response { seq := 7 }) live with lane := { (toM (.response { seq := 7 }) live).lane with out := [o] } };
      s.lane.out.find? (fun x => x.seq == 7) = some o ∧ (s.work 0).isSome = true ∧ (LaneRsp.mk 7 0 [] 0 0 [] 0 0).status ≠ St.fixerBusy) ∧
    (∀ n ∈ [0, 2], let o : LaneOut := { sent := now0 };
      let s : State := { live with lane := { up := true, out := [o], missed := n } };
      s.lane.out.find? (fun x => !x.late) = some o ∧ clearUntil (o.sent + lsbOfMs 50) s = true) := by decide +kernel

theorem test_witness_FixerCommandsUseTheLane :
    (∀ op ∈ [0x0901, 0x0902, 0x0903, 0x0904, 0x0905, 0x0907, 0x0908], Met op (fun s _ => s.lane.up) ∧ Met op (fun s _ => !s.lane.up)) ∧
    Met 0x0906 (fun s w => s.lane.up && !w.remaining.isEmpty) ∧
    Met 0x0906 (fun s w => !s.lane.up && !w.remaining.isEmpty && w.results.isEmpty) ∧
    Met 0x0902 (fun s w => decide (s.lane.head < u32At w.req.payload 0)) ∧ Met 0x0902 (fun s w => decide (u32At w.req.payload 0 ≤ s.lane.head)) ∧
    (let s := answered { req := { opcode := 0x0907 }, accept := now0 } live;
      let t : State := { s with sheet := { s.sheet with tickets := tmod s.sheet.tickets 0 (fun e => { e with state := .running }) } };
      t.work 0 = some { req := { opcode := 0x0907 }, accept := now0 } ∧ (t.ticket 0).state = .running ∧
        clearUntil (now0 + lsbOfMs 2000) t = true) := by
  refine ⟨fun op _ => ⟨met { opcode := op } [] (laned live) rfl, met { opcode := op } [] live rfl⟩,
    met { opcode := 0x0906 } [{ node := 0xD0 }] (laned live) (by decide +kernel),
    met { opcode := 0x0906 } [{ node := 0xD0 }] live (by decide +kernel),
    met { opcode := 0x0902, payload := leBytes 4 1 } [] live (by decide +kernel),
    met { opcode := 0x0902, payload := leBytes 4 0 } [] live (by decide +kernel), by decide +kernel⟩

/-- The F die runs, with a request at the head of the lane, and the M die hears. -/
def asked (q : LaneReq) (f : Fixer → Fixer) : State :=
  { live with fix := f { running := true, nextSec := 2 ^ 33, nextMin := 2 ^ 36 }, lane := { up := true, toF := [(0, q)] } }

/-- A card of a state and role in slot 1. -/
def carded (state role : Nat) (f : Fixer) : Fixer :=
  { f with cards := tmod f.cards 1 (fun c => { c with present := true, info := { c.info with state, role }, step := .ready }) }

theorem test_witness_FixerServesTheLane :
    (∀ q, (asked q id).fix.running = true ∧ (asked q id).stew.running = true ∧ (asked q id).eave.depth ≤ 2 ∧
      (asked q id).lane.toF = [(0, q)]) ∧
    (asked (.recordRead 0 1 1) id).fix.head < 1 ∧
    (let s := asked (.timePropose 5 false) (fun f => { f with unset := false });
      s.fix.unset = false ∧ s.fix.slew = 0 ∧ (5 : Int).natAbs ≤ s.fix.allowance ∧ s.fix.allowance < (2 ^ 40 : Int).natAbs ∧ s.fix.shop = false) ∧
    (asked (.timePropose 5 true) (carded 2 2)).fix.shop = true ∧
    (((asked (.cardApdu 1 []) id).card 1).info.state ≠ 2 ∧ ((asked (.cardApdu 1 []) id).card 1).reset = none) ∧
    (((asked (.cardApdu 1 []) (carded 2 1)).card 1).serves = true ∧ ((asked (.cardApdu 1 []) (carded 2 1)).card 1).info.state = 2 ∧
      ((asked (.cardApdu 1 []) (carded 2 1)).card 1).reset = none ∧ apduOk [] = false ∧ apduOk [0, 0xB0, 0, 0] = true ∧
      ((asked (.cardApdu 1 []) (carded 2 1)).card 1).reqs = [] ∧ ((asked (.cardReset 1) (carded 2 2)).card 1).info.role = 2) ∧
    (let s := asked (.epochSample 0 true 5 0) (fun f => { f with latches := [(0, 9)] });
      s.lane.edges.contains (.sample 0) = false ∧ s.fix.gap = none ∧ s.fix.tail = 0xFFFFFFFF ∧ s.fix.adjusted = false ∧
        assoc s.fix.latches 0 = some 9 ∧ assoc (asked (.epochSample 0 true 5 0) id).fix.latches 0 = none) ∧
    ((asked (.tokenIdentity 1 7) id).fix.buffer.length < 3068 ∧ (asked (.tokenIdentity 1 7) id).fix.driver ≠ (1, 7)) ∧
    ((asked (.exposePrepare [(1, 10)] none 1 9 0) (carded 2 2)).fix.set = none ∧ (asked (.exposePrepare [(1, 10)] none 1 9 0) (carded 2 2)).fix.shop = true ∧
      (asked (.exposePrepare [(1, 10)] none 1 9 0) id).fix.shop = false ∧
      ((rowOf 9 1).map (fun r => r.ok 0 10)) = some true ∧ ((rowOf 9 1).map (fun r => r.ok 0 (-1))) = some false) ∧
    ((asked (.exposeCommit 1) (fun f => { f with applied := 1 })).fix.set = none ∧ (asked (.exposeCommit 1) id).fix.applied ≠ 1 ∧
      (asked (.exposeCommit 1) (fun f => { carded 2 2 f with set := some { gen := 1 } })).fix.shop = true) ∧
    (∀ a ∈ [true, false], (asked (.exposeCommit 1) (fun f => { f with set := some { gen := 1, armed := a } })).fix.set = some { gen := 1, armed := a }) := by
  refine ⟨fun q => ⟨rfl, rfl, Nat.zero_le _, rfl⟩, by decide +kernel⟩

/-- A timer of the F die may fall due at this stamp. -/
theorem due_asked (q : LaneReq) (n : Nat) (h : n ≤ 2 ^ 33) : FixerDue n (asked q id) :=
  ⟨rfl, Nat.zero_le _, h, Nat.le_trans h (show 2 ^ 33 ≤ 2 ^ 36 by decide)⟩

theorem test_witness_FixerKeepsTimeAndDistance :
    (let s : State := { asked (.exposeCommit 1) (fun f => { f with set := some { gen := 1, armed := true } }) with lane := { edges := [.exposure] } };
      s.fix.running = true ∧ s.lane.edges = [.exposure] ∧ s.fix.set = some { gen := 1, armed := true } ∧ s.fix.clock ≤ 2 ^ 33 ∧
        2 ^ 33 ≤ s.fix.nextSec ∧ 2 ^ 33 ≤ s.fix.nextMin) ∧
    (∀ e ∈ [SyncKind.sample 3, .exposure], ({ asked (.exposeCommit 1) id with lane := { edges := [e] } } : State).lane.edges = [e] ∧
      ({ asked (.exposeCommit 1) id with lane := { edges := [e] } } : State).fix.set = none) ∧
    (let s := asked (.exposeCommit 1) (fun f => { f with kChange := some { edge := 5, k := 8000 } });
      s.fix.kChange = some { edge := 5, k := 8000 } ∧ 4 < 5 ∧ 4 < s.fix.nextSec ∧ 4 < s.fix.nextMin) ∧
    (let s := asked (.exposeCommit 1) id; s.fix.kChange = none ∧ 1 < s.fix.nextSec ∧ 1 < s.fix.nextMin ∧ s.fix.edges = [] ∧ s.fix.val 1 ≤ 1000 ∧ 0 < s.fix.val 1 ∧
      s.fix.nextSec ≤ s.fix.nextMin ∧ s.fix.gap = none ∧ s.fix.buffer.length < 3008 ∧ s.fix.total < 3) ∧
    (let s := asked (.exposeCommit 1) (fun f => { f with nextMin := 5, gap := some {} }); s.fix.nextMin ≤ s.fix.nextSec ∧ s.fix.gap ≠ none) ∧
    (let s := asked (.exposeCommit 1) (fun f => { f with slew := 100 });
      s.fix.slew ≠ 0 ∧ s.fix.clock + (s.fix.slew * 99 + 99) / 100 ≤ s.fix.nextSec) ∧
    (asked (.exposeCommit 1) id).fix.trimAt ≤ (asked (.exposeCommit 1) id).fix.nextSec := by decide +kernel

theorem crcShift_lt : ∀ (k c : Nat), c < 2 ^ 8 → crcShift 8 0x1D k c < 2 ^ 8
  | 0, _, h => h
  | k + 1, c, h => by
    unfold crcShift
    apply crcShift_lt
    split <;> first | exact Nat.xor_lt_two_pow (Nat.mod_lt _ (by decide)) (by decide) | exact Nat.mod_lt _ (by decide)

theorem crc8_lt (b : Bytes) : crc8 b < 256 := by
  unfold crc8 crcMsb
  refine Nat.xor_lt_two_pow (n := 8) ?_ (by decide)
  suffices h : ∀ c, c < 2 ^ 8 → b.foldl (fun c x => crcShift 8 0x1D 8 (c ^^^ (x.toNat * 2 ^ (8 - 8)))) c < 2 ^ 8 from h _ (by decide)
  induction b with
  | nil => exact fun _ h => h
  | cons x xs ih =>
    intro c h
    exact ih _ (crcShift_lt _ _ (Nat.xor_lt_two_pow h (by have := x.isLt; omega)))

/-- The MAC of a COUNT of sensor 0 with count 0, for the nonce of zeros (R281). -/
def countMac : Bytes := (cmac (zeros 16) (zeros 8 ++ zeros 8)).take 8
/-- That COUNT but for its CRC. -/
def countBody : Bytes := ([0xA5] ++ zeros 8) ++ countMac
/-- That COUNT. -/
def countFrame : Bytes := countBody ++ [BitVec.ofNat 8 (crc8 countBody)]

theorem test_witness_FixerSensorAndCards :
    (countFrame.length = 18 ∧ u8At countFrame 0 = 0xA5 ∧ u8At countFrame 17 = crc8 (countFrame.take 17) ∧
      slice countFrame 1 8 = zeros 8 ∧ (cmac (zeros 16) (zeros 8 ++ slice countFrame 1 8)).take 8 = slice countFrame 9 8 ∧
      beNat (slice countFrame 1 4) = 0) ∧
    (∀ n ∈ [1, 3], let s := asked (.exposeCommit 1) (fun f => { f with motion := { paired := some (0, zeros 16), check := some (zeros 8, n, 0) } });
      s.fix.motion.check = some (zeros 8, n, 0) ∧ s.fix.motion.paired = some (0, zeros 16) ∧ s.fix.motion.pairing = none ∧
        s.fix.motion.base = none ∧ s.fix.motion.failed = false ∧ 0 + lsbOfMs 20 ≤ s.fix.nextSec) ∧
    (let s := asked (.exposeCommit 1) (fun f => { f with motion := { paired := some (0, zeros 16) } });
      s.fix.motion.paired ≠ none ∧ s.fix.onVfb = false ∧ s.fix.motion.check = none ∧ s.fix.motion.next ≤ s.fix.nextSec) ∧
    (asked (.exposeCommit 1) id |>.card 1).present = false ∧ (asked (.exposeCommit 1) (carded 2 1) |>.card 1).present = true ∧
    (swOk [0x90, 0] = true ∧ swOk [0x69, 0] = false ∧ parseAtr [] = none) ∧
    (∀ st ∈ [CardStep.ifs, .selectAid, .selectEf, .readCert, .auth, .ready],
      let c (tx : Bytes) : Card := { step := st, link := { tx } };
      (c []).heard [0x90, 0] = .done [0x90, 0] {} ∧ (c []).heard [0x69, 0] = .done [0x69, 0] {} ∧
        (c []).heard [0x60] = .wait { rx := [0x60] } ∧ (c [0x33]).heard [0] = .send [0x33] {} ∧ (c []).heard [0x12] = .bad) ∧
    (∀ st ∈ [CardStep.idle, .waiting, .selectAid, .selectEf, .readCert, .atr, .ready],
      let s := asked (.exposeCommit 1) (fun f => { f with cards := tmod f.cards 1 (fun c => { c with step := st, cls := 2, reqs := [(0, [])] }) });
      (s.card 1).step = st ∧ (s.card 1).cls = 2 ∧ (s.card 1).reqs = [(0, [])] ∧ s.fix.onVfb = false) := by
  have h1 : countMac.length = 8 := by decide +kernel
  have h2 : countBody.length = 17 := by decide +kernel
  refine ⟨⟨by decide +kernel, by decide +kernel, ?_, by decide +kernel, ?_, by decide +kernel⟩, by decide +kernel⟩
  · unfold countFrame
    rw [List.take_left' h2, u8At, List.getD_append_right _ _ _ _ (by omega), h2]
    simp only [Nat.sub_self, List.getD_cons_zero, BitVec.toNat_ofNat]
    exact Nat.mod_eq_of_lt (crc8_lt _)
  · have e : slice countFrame 1 8 = zeros 8 := by decide +kernel
    rw [e]
    unfold slice countFrame countBody
    rw [List.append_assoc, List.drop_left' (by decide), List.take_left' h1]
    rfl

theorem test_witness_FixerSuppliesAndStart :
    let s := asked (.exposeCommit 1) id
    (s.fix.running = true ∧ s.fix.onVfb = false ∧ s.fix.lidOpen = false ∧ s.fix.lidClosed = none ∧ s.fix.mesh = false ∧
      MeshSensed s ∧ LidSensed s ∧ s.fix.lidSeen = false ∧ s.fix.meshSeen = false) ∧
    (let u := asked (.exposeCommit 1) (fun f => { f with lidOpen := true, lidSeen := true, lidClosed := some 1 });
      u.fix.lidSeen = true ∧ MeshSensed u ∧ LidSensed u ∧ u.fix.clock < 1 + oneSec) ∧
    (let u := asked (.exposeCommit 1) (fun f => { f with running := false, retained := true, lidOpen := true });
      u.fix.running = false ∧ u.fix.retained = true ∧ MeshSensed u ∧ u.fix.lidOpen = true ∧ u.fix.lidSeen = false ∧ u.fix.lidClosed = none) ∧
    (asked (.exposeCommit 1) (fun f => { f with onVfb := true, lidOpen := true, mesh := true })).fix.onVfb = true ∧
    (∀ r ∈ [true, false], (asked (.exposeCommit 1) (fun f => { f with running := false, retained := r })).fix.running = false ∧
      (asked (.exposeCommit 1) (fun f => { f with running := false, retained := r })).fix.retained = r) := by decide +kernel

/-- A token slot in a state. -/
def tokAs (n : Nat) (x : TokSlot) (s : State) : State := { s with access := { s.access with slots := tmod s.access.slots n (fun _ => x) } }

/-- The access engine changed. -/
def engaged (f : Access → Access) (s : State) : State := { s with access := f s.access }

/-- The radio receives in an access window that is open. -/
def hearing (s : State) : State := { s with uhf := { s.uhf with state := .rx, access := some { end_ := now0 + 2 ^ 40, begun := true } } }

/-- Grain is ready and the countermeasure stream is seeded. -/
def seeded (s : State) : State := { s with grain := { s.grain with state := .ready, seeds := [zeros 16, zeros 16] } }

/-- A slot with a learned token and its key. -/
def learnt (n : Nat) (s : State) : State := keyed (16 + n) (tokAs n { state := 1, token := 7 } (seeded s))

/-- A telegram of that token whose MAC is right and whose counter is new is valid (R171). -/
theorem judge_valid {slot token counter : Nat} {msg k : Bytes} {s : State} (h1 : slot < 16) (h2 : (s.tok slot).state = 1)
    (h3 : (s.tok slot).token = token) (h4 : tokKey s slot = some k) (h5 : counterOk (s.tok slot).s counter = true)
    (h6 : unwrapReady s = true) : judgeToken slot token counter msg ((cmac k msg).take 8) s = .valid := by
  unfold judgeToken tokenMac
  rw [if_neg (by omega), if_neg (by simp [h2]), if_neg (by simp [h3]), if_neg (by simp [h6]), h4]
  simp [h5]

/-- A BUTTON of slot 1 with its MAC (R167). -/
def button1 : ButtonTel :=
  let b : ButtonTel := { token := 7, slot := 1, button := 1, counter := 5, mac := [] }
  { b with mac := (cmac (zeros 16) (buttonMsg b)).take 8 }

/-- The radio has read the factory charter. -/
def chartered (s : State) : State := { s with uhf := { s.uhf with charter := factoryCharter } }

theorem bandOf_factory (f : Nat) : bandOf factoryCharter f =
    if bandAdmits (factoryBand 433050000 100 175 40 360000) f then some 0
    else if bandAdmits (factoryBand 868050000 1000 6 56 36000) f then some 1 else none := by
  unfold factoryCharter
  exact bandOf_factoryPage _ _

/-- A receiver that the factory charter lets on the frequency hears a BUTTON in CABIN. -/
theorem hears_chartered (s : State) (h1 : s.access.state = .cabin) (h2 : s.uhf.state = .rx) (h3 : s.uhf.charter = factoryCharter)
    (h4 : accessFreq s = 433920000) : hearsButton s = true := by
  have h5 : s.inMask (accessFreq s) = true := by
    unfold State.inMask State.charterValid
    rw [h3, charterOk_factory, bandOf_factory, h4]
    decide +kernel
  simp [hearsButton, h1, h2, h5]

theorem test_witness_PollsAndButtons :
    (let s := engaged (fun a => { a with state := .poll }) (inMode .parked);
      s.access.state = .poll ∧ s.power.mode = .parked ∧ pollStopped (setTo 5 0 0 0 s) = true) ∧
    (let s := shutAs 13 { state := .oneShot, active := now0 + 5 } (engaged (fun a => { a with state := .poll })
        { inMode .watch with lf := { enabled := true } });
      ((firmFire 13 s).any (fun v => !(decide (v.power.mode = .parked) && pollStopped v) && ready [7] v &&
        let mask := maskOf ((learned s).filter (fun n => !(s.tok n).settled))
        let u := repace 13 (pollPeriod v) v
        (accessRun true (carrierNow u) (pollTeles u 5 mask) [] (u.modAccess (fun x => { x with lfSent := [] }))).2 == none)) = true ∧
        s.stew.running = true ∧ s.access.polls = [] ∧ s.access.poll = none ∧ (s.shut 13).owed = false ∧ s.time.routing = [] ∧
        (s.shut 13).preValid = false ∧ routesFrom s 14 = [] ∧
        (firmFire 13 { s with eave := { depth := 2 } }).any (fun v => !ready [7] v) = true) ∧
    (let c : PollCyc := { mask := 2, first := now0 }
      let s := hearing (learnt 1 (engaged (fun a => { a with state := .poll, poll := some c }) (inMode .watch)));
      s.access.poll = some c ∧ c.opens 1 = some (c.first + lsbOfMs 4) ∧ (s.tok 1).state = 1 ∧
        clearUntil (c.first + lsbOfMs 4) s = true ∧ accessHears (reach (c.first + lsbOfMs 4) s) = true ∧
        (reach (c.first + lsbOfMs 4) s).now < c.first + lsbOfMs 4 + lsbOfMs 4 ∧ (0 : Int) ≤ s.get 5 13 + 200 ∧
        c.door = false ∧ (s.tok 1).settled = false ∧ s.power.moving = none ∧
        ((tokAs 1 { state := 1, settled := true } s).tok 1).settled = true) ∧
    (let s := engaged (fun a => { a with state := .cabin }) live; s.access.state ≠ .poll ∧ s.access.state ≠ .dormant ∧ hearsButton s = false) ∧
    (∀ p ∈ [(Engine.poll, Mode.watch), (.cabin, .cab)],
      let s := hearing (learnt 1 (engaged (fun a => { a with state := p.1 }) (inMode p.2)))
      judgeToken button1.slot button1.token button1.counter (buttonMsg button1) button1.mac s = .valid) ∧
    (let s := hearing (learnt 1 (engaged (fun a => { a with state := .poll }) (inMode .watch)));
      s.access.state = .poll ∧ (s.uhf.access.any (fun x => clearUntil x.open_ s && accessHears (reach x.open_ s))) = true ∧
        s.power.mode = .watch ∧ s.power.moving = none) ∧
    hearsButton (chartered (hearing (engaged (fun a => { a with state := .cabin }) (inMode .cab)))) = true ∧
    judgeToken button1.slot button1.token button1.counter (buttonMsg button1) button1.mac live = .invalid 6 ∧
    judgeToken button1.slot button1.token button1.counter (buttonMsg button1) button1.mac { learnt 1 live with grain := {} } = .waits ∧
    (let s := engaged (fun a => { a with state := .poll }) { inMode .watch with uhf := { sniffAt := some (now0 + lsbOfUs 300) } };
      let due := now0 + lsbOfUs 300 - lsbOfUs (if calValidAt (now0 + lsbOfUs 300) (accessFreq s) s then 73 else 225)
      s.uhf.sniffAt = some (now0 + lsbOfUs 300) ∧ clearUntil due s = true ∧ (reach due s).usable 5 = true ∧
        (reach due s).eave.depth ≤ 2 ∧ (reach due { s with power := ({} : Power) }).usable 5 = false) := by
  refine ⟨by decide +kernel, by decide +kernel, by decide +kernel, by decide +kernel, fun p hp => ?_,
    by decide +kernel, ?_, by decide +kernel, by decide +kernel, by decide +kernel⟩
  rotate_left
  · exact hears_chartered _ rfl rfl rfl (by decide +kernel)
  have h : ∀ p ∈ [(Engine.poll, Mode.watch), (.cabin, .cab)],
      let s := hearing (learnt 1 (engaged (fun a => { a with state := p.1 }) (inMode p.2)));
      (s.tok 1).state = 1 ∧ (s.tok 1).token = 7 ∧ tokKey s 1 = some (zeros 16) ∧ counterOk (s.tok 1).s 5 = true ∧ unwrapReady s = true := by
    decide +kernel
  obtain ⟨a, b, c, d, e⟩ := h p hp
  exact judge_valid (by decide) a b c d e

/-- The access engine in a state, with domains and modes as they are in a mode. -/
def engineAs (e : Engine) (m : Mode) : State := engaged (fun a => { a with state := e }) (inMode m)

/-- A cycle whose CHALLENGE of zeros has gone out. -/
def cycle1 (kind : CycKind) : AccCyc := { kind, stamp := now0, challenge := some (zeros 12), mask := 2, due := now0 + 2000 }

/-- The radio hears the answers to that cycle, with token 7 in slot 1. -/
def cycling : State := hearing (learnt 1 (engaged (fun a => { a with state := .cabin, cyc := some (cycle1 .cab) }) (inMode .cab)))

/-- A RESPONSE of slot 1 with its MAC (R166). -/
def response1 : ResponseTel :=
  let r : ResponseTel := { token := 7, slot := 1, flags := 0, counter := 5, mac := [], meas := zeros 3 }
  { r with mac := (cmac (zeros 16) (responseMsg (zeros 12) now0 r)).take 8 }

theorem test_witness_CyclesAndVerdicts :
    (∀ e ∈ [Engine.acquire, .cabin, .release],
      let s := shutAs 15 { state := .oneShot, active := now0 + 5 } (engineAs e .cab);
      (firmFire 15 s).any (ready [7]) = true ∧ s.stew.running = true ∧ s.access.cyc = none ∧ s.access.locate = none ∧
        s.access.start = none ∧ s.access.cycleDue = none ∧ s.access.state = e ∧ (s.shut 15).owed = false ∧
        (s.shut 15).preValid = false ∧ s.time.routing = [] ∧ routesFrom s 16 = [] ∧
        (firmFire 15 { s with eave := { depth := 2 } }).any (fun v => !ready [7] v) = true) ∧
    (let s := engaged (fun a => { a with cycleDue := some now0 }) (engineAs .cabin .cab);
      s.access.cycleDue = some now0 ∧ s.access.cyc = none ∧ s.access.locate = none ∧ s.access.start = none ∧ lfBusy s = false ∧
        ready [7] s = true ∧ lfBusy { s with lf := { seqs := [{ end_ := now0 + 1 }] } } = true) ∧
    (let s := engaged (fun a => { a with locate := some (0, [1], true) }) (engineAs .cabin .cab);
      s.access.cyc = none ∧ lfBusy s = false ∧ ready [7] s = true) ∧
    (Met 0x0503 (fun s _ => s.access.learning.isSome) ∧ Met 0x0503 (fun s _ => s.access.locate.isSome) ∧
      Met 0x0503 (fun s _ => s.access.learning.isNone && s.access.locate.isNone && s.access.cyc.isNone)) ∧
    (∃ c ch x, ∃ win : AccWin, cycling.access.cyc = some c ∧ c.challenge = some ch ∧ c.judged = false ∧ cycling.uhf.access = some win ∧
      win.open_ = x ∧ clearUntil x cycling = true ∧ accessHears (reach x cycling) = true ∧
      (let tel := { response1 with flags := 1 }; tel.flags % 2 = 1 ∧ tel.slot < 16 ∧ (cycling.tok tel.slot).state = 1 ∧
        (cycling.tok tel.slot).token = tel.token) ∧
      judgeToken response1.slot response1.token response1.counter (responseMsg ch c.stamp response1) response1.mac (reach x cycling) = .valid ∧
      response1.flags % 2 = 0 ∧ c.mask.testBit response1.slot = true ∧ c.resps.all (fun r => r.slot != response1.slot) = true ∧
      (∀ tel ∈ [{ response1 with slot := 2 }], tel.flags % 2 = 0 ∧
        judgeToken tel.slot tel.token tel.counter (responseMsg ch c.stamp tel) tel.mac (reach x cycling) = .invalid 6) ∧
      judgeToken response1.slot response1.token response1.counter (responseMsg ch c.stamp response1) response1.mac
        (reach x { cycling with grain := {} }) = .waits ∧
      [({} : Resp)].any (fun r => r.slot == 0) = true) ∧
    (∀ k ∈ [CycKind.acquire, .cab], let s := engaged (fun a => { a with cyc := some (cycle1 k) }) (engineAs .acquire .approach);
      s.access.cyc = some (cycle1 k) ∧ (cycle1 k).judged = false ∧ (cycle1 k).challenge ≠ none ∧ clearUntil (cycle1 k).due s = true ∧
        (cycle1 k).resps = [] ∧ s.access.lostCycles + 1 < s.nat 5 2 ∧ (setTo 5 2 0 1 s).nat 5 2 ≤ s.access.lostCycles + 1 ∧
        s.power.mode = .approach ∧ s.power.moving = none) ∧
    (let r : Resp := { slot := 1, meas := zeros 3 }
      let c : AccCyc := { cycle1 .cab with resps := [r] }
      let s := engaged (fun a => { a with cyc := some c }) cycling;
      let v := reach c.due s;
      s.access.cyc = some c ∧ clearUntil c.due s = true ∧ c.resps = [r] ∧ needsRanging v c
        (zoneVerdict c.map (mapMargin c.map + (if baselineReady v = true then 0 else 12)) (baseline c.map v) (notDriven c r.slot) r.meas) = false) ∧
    (let s := tokAs 1 { answered := true } (engineAs .acquire .approach);
      s.access.state = .acquire ∧ s.power.mode = .approach ∧ s.power.moving = none ∧ (s.tok 1).answered = true ∧
        (s.tok 2).answered = false ∧
        clearUntil ((engaged (fun a => { a with approachAt := now0 }) s).access.approachAt + lsbOfS (s.nat 5 3)) s = true) := by
  refine ⟨by decide +kernel, by decide +kernel, by decide +kernel,
    ⟨met { opcode := 0x0503 } [] (engaged (fun a => { a with learning := some {} }) live) rfl,
      met { opcode := 0x0503 } [] (engaged (fun a => { a with locate := some (1, [], false) }) live) rfl,
      met { opcode := 0x0503 } [] live rfl⟩,
    ⟨cycle1 .cab, zeros 12, 0, { end_ := now0 + 2 ^ 40, begun := true }, by decide +kernel, by decide +kernel, by decide +kernel,
      by decide +kernel, by decide +kernel, by decide +kernel, by decide +kernel, by decide +kernel,
      judge_valid (k := zeros 16) (by decide) (by decide +kernel) (by decide +kernel) (by decide +kernel) (by decide +kernel)
        (by decide +kernel),
      by decide, by decide, by decide, ?_, by decide +kernel, rfl⟩, by decide +kernel, by decide +kernel, by decide +kernel⟩
  intro tel h
  rcases List.mem_singleton.1 h with rfl
  exact ⟨rfl, by decide +kernel⟩

/-- A frame whose head copy waits on port 0. -/
def queued (f : SwFrame) (s : State) : State := { s with sw := { s.sw with frames := [{ f with copies := [{ port := 0 }] }] } }

/-- A port in a state. -/
def portAs (n : Nat) (x : Port) (s : State) : State := { s with sw := { s.sw with ports := tmod s.sw.ports n (fun _ => x) } }

theorem test_witness_ReleaseAndBodyFrames :
    (let s0 := shutAs 14 { state := .oneShot, active := now0 + 5 } (engineAs .release .drive);
      let s := keyed s0.releaseSlot (seeded s0);
      s.access.state = .release ∧ (firmFire 14 s).isSome = true ∧ (s.shut 14).owed = false ∧ (s.shut 14).preValid = false ∧
        s.time.routing = [] ∧ routesFrom s 15 = [] ∧
        s.access.relUsedUp = false ∧ (s.kslot s.releaseSlot).ver ≠ none ∧ (s.kslot s.releaseSlot).exhausted = false ∧
        s.access.relReserved ≤ s.access.relNext ∧ usableKey s s.releaseSlot 0 = some (zeros 16) ∧ s.cipherUp = true ∧
        (let u := engaged (fun a => { a with relReserved := 1024 }) s;
          (u.kslot u.releaseSlot).nonceNext ≤ u.access.relNext ∧ u.access.relNext < u.access.relReserved ∧
            u.access.relNext < 0xFFFFFFFF ∧ waitingRelease u = none) ∧
        (engaged (fun a => { a with relUsedUp := true }) s).access.relUsedUp = true ∧
        s.power.mode = .drive ∧ s.power.moving = none) ∧
    (∀ b ∈ [0, 1], let s := portAs 0 { state := .up } (queued { built := b } (setTo 5 20 0 0 (engineAs .release .cab)));
      ∃ f c, headCopy s (s.nat 5 20) = some (f, c) ∧ s.nat 5 20 < 12 ∧ f.built = b ∧ maySend s (s.nat 5 20) = true ∧
        (s.port (s.nat 5 20)).pauseUntil = none ∧ s.access.firstSent = false ∧ s.access.state = .release ∧ s.power.mode = .cab ∧
        s.power.moving = none) ∧
    (let s := engaged (fun a => { a with driver := some 1, cabSeen := now0, heldSeen := now0, suspect := true, lastInvalid := now0 })
        (setTo 5 11 0 30 (engineAs .cabin .cab));
      s.access.driver ≠ none ∧ s.access.state = .cabin ∧ clearUntil (s.access.cabSeen + lsbOfS (s.nat 5 10)) s = true ∧
        s.nat 5 11 ≠ 0 ∧ s.power.ign = false ∧ s.access.walked = false ∧ s.power.mode = .cab ∧ s.power.moving = none ∧
        clearUntil (s.access.heldSeen + lsbOfS (s.nat 5 11)) s = true ∧ s.access.suspect = true ∧
        clearUntil (s.access.lastInvalid + lsbOfS (60 * s.nat 5 12)) s = true) ∧
    (Met 0x0504 (fun s _ => s.access.lock.isSome) ∧
      Met 0x0504 (fun s _ => s.access.lock.isNone && s.power.mode != .cab && (usableKey s (s.nat 5 19) 2).isNone && !leavesDrive s) ∧
      Met 0x0504 (fun s _ => s.access.lock.isNone && s.cipherUp && keyReady s (s.nat 5 19) && usableKey s (s.nat 5 19) 2 == some (zeros 16) &&
        decide (s.access.bodyNext < s.access.bodyReserved) && s.access.state == .cabin && s.power.mode == .cab && s.power.moving.isNone)) ∧
    (let s0 := engaged (fun a => { a with lock := some (0, 0, now0) }) (engineAs .cabin .cab)
      let s : State := { s0 with sheet := { s0.sheet with tickets := tmod s0.sheet.tickets 0 (fun e => { e with state := .running }) } };
      s.access.lock = some (0, 0, now0) ∧ clearUntil (now0 + lsbOfMs 100) s = true ∧ (s.ticket 0).state = .running) := by
  refine ⟨by decide +kernel, fun b h => ?_, by decide +kernel,
    ⟨met { opcode := 0x0504 } [] (engaged (fun a => { a with lock := some (1, 0, 0) }) live) rfl,
      met { opcode := 0x0504 } [] (inMode .watch) (by decide +kernel),
      met { opcode := 0x0504 } [] (keyed 0 (seeded (setTo 5 19 0 0 (engaged (fun a => { a with bodyReserved := 1024 }) (engineAs .cabin .cab)))))
        (by decide +kernel)⟩, by decide +kernel⟩
  rcases List.mem_pair.1 h with h | h <;> subst h
  · exact ⟨{ built := 0, copies := [{ port := 0 }] }, { port := 0 }, by decide +kernel⟩
  · exact ⟨{ built := 1, copies := [{ port := 0 }] }, { port := 0 }, by decide +kernel⟩

/-- A learning that waits for the answer of token 7 in slot 0. -/
def learning1 : Learning := { entries := [(7, zeros 16)], since := now0, nonce := some (zeros 8), lastSent := some now0 }

/-- Learning, with the radio open. -/
def learns (l : Learning) : State :=
  hearing (keyed 16 (seeded (engaged (fun a => { a with learning := some l }) (engineAs .learn .cab))))

/-- A LEARN_ACK of token 7 with its MAC (R195). -/
def learnAck1 : LearnAckTel :=
  let t : LearnAckTel := { token := 7, slot := 0, counter := 5, mac := [] }
  { t with mac := (cmac (zeros 16) (learnMsg (zeros 8) t)).take 8 }
/-! ### RFC 3394, section 4.1: the worked example of a 128-bit key under a 128-bit key -/

/-- Its key-encryption key. -/
def rfcKek : Bytes := beBytes 16 0x000102030405060708090a0b0c0d0e0f
/-- The ciphertext. -/
def rfcWrapped : Bytes := beBytes 8 0x1fa68b0a8112b447 ++ beBytes 8 0xaef34bd8fb5a7b82 ++ beBytes 8 0x9d3e862371d2cfe5
/-- The key data. -/
def rfcKey : Bytes := beBytes 8 0x0011223344556677 ++ beBytes 8 0x8899aabbccddeeff
/-- A and both registers between two steps. -/
def rfcState (a r1 r2 : Nat) : Bytes × List Bytes := (beBytes 8 a, [beBytes 8 r1, beBytes 8 r2])

theorem rfc_step12 : unwrapStep rfcKek 2 (rfcState 0x1fa68b0a8112b447 0xaef34bd8fb5a7b82 0x9d3e862371d2cfe5) 12 = rfcState 0x93b71967eed41ff7 0xaef34bd8fb5a7b82 0x4fd3d2b7d74fbb42 := by decide +kernel
theorem rfc_step11 : unwrapStep rfcKek 2 (rfcState 0x93b71967eed41ff7 0xaef34bd8fb5a7b82 0x4fd3d2b7d74fbb42) 11 = rfcState 0x5a9c7b1f5b1c3b4c 0xbe114b343eb00981 0x4fd3d2b7d74fbb42 := by decide +kernel
theorem rfc_step10 : unwrapStep rfcKek 2 (rfcState 0x5a9c7b1f5b1c3b4c 0xbe114b343eb00981 0x4fd3d2b7d74fbb42) 10 = rfcState 0xebe1ce91067024fa 0xbe114b343eb00981 0x64bae5818d0570bb := by decide +kernel
theorem rfc_step9 : unwrapStep rfcKek 2 (rfcState 0xebe1ce91067024fa 0xbe114b343eb00981 0x64bae5818d0570bb) 9 = rfcState 0x4be8ce99c0a43a75 0xb556d35ed8cef052 0x64bae5818d0570bb := by decide +kernel
theorem rfc_step8 : unwrapStep rfcKek 2 (rfcState 0x4be8ce99c0a43a75 0xb556d35ed8cef052 0x64bae5818d0570bb) 8 = rfcState 0x2bfc21b2c20e4001 0xb556d35ed8cef052 0xf14863bb1e9ca90a := by decide +kernel
theorem rfc_step7 : unwrapStep rfcKek 2 (rfcState 0x2bfc21b2c20e4001 0xb556d35ed8cef052 0xf14863bb1e9ca90a) 7 = rfcState 0xe3ee986344d878f1 0x25f5a3adc2195401 0xf14863bb1e9ca90a := by decide +kernel
theorem rfc_step6 : unwrapStep rfcKek 2 (rfcState 0xe3ee986344d878f1 0x25f5a3adc2195401 0xf14863bb1e9ca90a) 6 = rfcState 0x93aea71b258d90c6 0x25f5a3adc2195401 0x7b2bd973e36a6fc := by decide +kernel
theorem rfc_step5 : unwrapStep rfcKek 2 (rfcState 0x93aea71b258d90c6 0x25f5a3adc2195401 0x7b2bd973e36a6fc) 5 = rfcState 0x5896ea9028ee203f 0xfe6e8d679c5d3460 0x7b2bd973e36a6fc := by decide +kernel
theorem rfc_step4 : unwrapStep rfcKek 2 (rfcState 0x5896ea9028ee203f 0xfe6e8d679c5d3460 0x7b2bd973e36a6fc) 4 = rfcState 0xfc967627be93720b 0xfe6e8d679c5d3460 0xd132ee38147e76f8 := by decide +kernel
theorem rfc_step3 : unwrapStep rfcKek 2 (rfcState 0xfc967627be93720b 0xfe6e8d679c5d3460 0xd132ee38147e76f8) 3 = rfcState 0x6ba4ebde7768d09 0x74ce86fbd7b805e7 0xd132ee38147e76f8 := by decide +kernel
theorem rfc_step2 : unwrapStep rfcKek 2 (rfcState 0x6ba4ebde7768d09 0x74ce86fbd7b805e7 0xd132ee38147e76f8) 2 = rfcState 0xf4740052e82a2250 0x74ce86fbd7b805e7 0x8899aabbccddeeff := by decide +kernel
theorem rfc_step1 : unwrapStep rfcKek 2 (rfcState 0xf4740052e82a2250 0x74ce86fbd7b805e7 0x8899aabbccddeeff) 1 = rfcState 0xa6a6a6a6a6a6a6a6 0x11223344556677 0x8899aabbccddeeff := by decide +kernel

theorem rfc_fold : List.foldl (unwrapStep rfcKek 2) (rfcState 0x1fa68b0a8112b447 0xaef34bd8fb5a7b82 0x9d3e862371d2cfe5)
    [12, 11, 10, 9, 8, 7, 6, 5, 4, 3, 2, 1] = rfcState 0xa6a6a6a6a6a6a6a6 0x11223344556677 0x8899aabbccddeeff := by
  rw [List.foldl_cons, rfc_step12, List.foldl_cons, rfc_step11, List.foldl_cons, rfc_step10, List.foldl_cons, rfc_step9,
    List.foldl_cons, rfc_step8, List.foldl_cons, rfc_step7, List.foldl_cons, rfc_step6, List.foldl_cons, rfc_step5,
    List.foldl_cons, rfc_step4, List.foldl_cons, rfc_step3, List.foldl_cons, rfc_step2, List.foldl_cons, rfc_step1,
    List.foldl_nil]

theorem test_rfc3394_unwrap : keyUnwrap rfcKek rfcWrapped = some rfcKey := by
  have h1 : rfcWrapped.take 8 = beBytes 8 0x1fa68b0a8112b447 := by decide +kernel
  have h2 : halves (rfcWrapped.drop 8) = [beBytes 8 0xaef34bd8fb5a7b82, beBytes 8 0x9d3e862371d2cfe5] := by decide +kernel
  have h3 : (upFrom 1 12).reverse = [12, 11, 10, 9, 8, 7, 6, 5, 4, 3, 2, 1] := by decide +kernel
  unfold keyUnwrap
  rw [h1, h2]
  show (let out := List.foldl (unwrapStep rfcKek 2) (rfcState 0x1fa68b0a8112b447 0xaef34bd8fb5a7b82 0x9d3e862371d2cfe5) (upFrom 1 12).reverse; _) = _
  rw [h3]
  rw [rfc_fold]
  decide +kernel

/-- The live block with a seeded Grain and the example's key-encryption key in key slot 1. -/
def wrapping (s : State) : State :=
  { s with
    grain := { s.grain with state := .ready, seeds := [zeros 16, zeros 16] }
    ciph := { s.ciph with slots := tmod s.ciph.slots 1 (fun k => { k with ver := some { key := rfcKek, length := 0, usage := 0x10 } }) } }

/-- A request that carries it at an offset, with the slot of the key-encryption key. -/
def learnBytes : Bytes := [1, 1] ++ zeros 2 ++ leBytes 4 7 ++ zeros 4 ++ rfcWrapped ++ zeros 4
/-- ACCESS.RELEASE_PAIR with it. -/
def pairBytes : Bytes := zeros 4 ++ [1] ++ zeros 3 ++ rfcWrapped

theorem unwrap16_wrapping (s : State) (h1 : s.cipherUp = true) (h2 : usableKey s 1 4 = some rfcKek) : unwrap16 s 1 rfcWrapped = some rfcKey := by
  simp only [unwrap16, h1, h2, if_true, Option.bind_some, test_rfc3394_unwrap, Option.filter_some]
  rw [if_pos (by decide +kernel)]

theorem test_witness_LearningAndPairing :
    (∀ op ∈ [0x0505, 0x0506],
      Met op (fun s _ => accessBusy s) ∧ Met op (fun s _ => !accessBusy s && !unwrapReady s)) ∧
    Met 0x0505 (fun s w => !accessBusy s && unwrapReady s && unwrapSet s w.req.payload == none) ∧
    Met 0x0505 (fun s w => !accessBusy s && unwrapReady s && unwrapSet s w.req.payload == some [(7, rfcKey)]) ∧
    Met 0x0506 (fun s w => !accessBusy s && unwrapReady s &&
      unwrap16 s (u8At w.req.payload 4) (slice w.req.payload 8 24) == none) ∧
    Met 0x0506 (fun s w => !accessBusy s && unwrapReady s && decide (s.releaseSlot < 64) &&
      unwrap16 s (u8At w.req.payload 4) (slice w.req.payload 8 24) == some rfcKey) ∧
    (let s := learns learning1;
      s.access.learning = some learning1 ∧ learning1.entries[learning1.at_]? = some (7, zeros 16) ∧ s.access.state = .learn ∧
        learning1.since ≠ 0 ∧ lfBusy s = false ∧
        clearUntil ((learning1.lastSent.map (· + lsbOfMs 500)).getD learning1.since) s = true ∧
        ready [7] (reach ((learning1.lastSent.map (· + lsbOfMs 500)).getD learning1.since) s) = true ∧
        ready [7] (reach ((learning1.lastSent.map (· + lsbOfMs 500)).getD learning1.since) { s with eave := { depth := 2 } }) = false ∧
        s.uhf.access = some { end_ := now0 + 2 ^ 40, begun := true } ∧ clearUntil 0 s = true ∧ accessHears (reach 0 s) = true ∧
        clearUntil (learning1.since + lsbOfS (s.nat 5 16)) s = true ∧ learning1.entries.length ≤ learning1.at_ + 1) ∧
    (learnAck1.slot = learning1.at_ ∧ learnAck1.token = 7 ∧ learnAck1.counter ≠ 0xFFFFFFFF ∧
      tokenMac 0 (learnMsg (zeros 8) learnAck1) learnAck1.mac (reach 0 (learns learning1)) = some true ∧
      tokenMac 0 (learnMsg (zeros 8) { learnAck1 with mac := zeros 9 }) (zeros 9) (reach 0 (learns learning1)) = some false) := by
  have hk : tokKey (reach 0 (learns learning1)) 0 = some (zeros 16) := by decide +kernel
  have hl : ∀ m, ((cmac (zeros 16) m).take 8 == zeros 9) = false := by
    intro m
    have h : (cmac (zeros 16) m).take 8 ≠ zeros 9 := fun e => by
      have := congrArg List.length e
      rw [List.length_take, show (zeros 9).length = 9 from rfl] at this
      omega
    simpa using h
  refine ⟨fun op _ => ⟨met { opcode := op } [] (engaged (fun a => { a with learning := some {} }) live) rfl,
      met { opcode := op } [] live rfl⟩,
    met { opcode := 0x0505, payload := [1] } [] { live with ciph := { off := true } } (by decide +kernel),
    met { opcode := 0x0505, payload := learnBytes } [] (wrapping live) ?_,
    met { opcode := 0x0506 } [] { live with ciph := { off := true } } (by decide +kernel),
    met { opcode := 0x0506, payload := pairBytes } [] (wrapping live) ?_, by decide +kernel,
    rfl, rfl, by decide, ?_, ?_⟩
  · have h : ∀ s : State, unwrap16 s 1 rfcWrapped = some rfcKey → unwrapSet s learnBytes = some [(7, rfcKey)] := by
      intro s e
      show (do let y ← (unwrap16 s (u8At learnBytes 1) (slice learnBytes (12 + 32 * 0) 24)).map _; _) = _
      rw [show u8At learnBytes 1 = 1 by decide +kernel, show slice learnBytes (12 + 32 * 0) 24 = rfcWrapped by decide +kernel, e]
      rfl
    rw [h _ (unwrap16_wrapping _ (by decide +kernel) (by decide +kernel)), beq_self_eq_true]
    decide +kernel
  · show (_ && unwrap16 _ (u8At pairBytes 4) (slice pairBytes 8 24) == some rfcKey) = true
    rw [show u8At pairBytes 4 = 1 by decide +kernel, show slice pairBytes 8 24 = rfcWrapped by decide +kernel,
      unwrap16_wrapping _ (by decide +kernel) (by decide +kernel), beq_self_eq_true, Bool.and_true]
    decide +kernel
  · unfold tokenMac
    rw [hk]
    exact congrArg some (beq_self_eq_true _)
  · unfold tokenMac
    rw [hk]
    exact congrArg some (hl _)

/-- A command at work in ticket 0 that has started. -/
def runs (r : Req) (walk : List WalkItem) (s : State) : State :=
  let t := give r walk s
  { t with sheet := { t.sheet with tickets := tmod t.sheet.tickets 0 (fun e => { e with state := .running }) } }

/-- The LF array changed. -/
def fielded (f : Lf → Lf) (s : State) : State := { s with lf := f s.lf }

/-- LF.BURST of channel 3 for 500 µs (R223). -/
def burstBytes : Bytes := [1, 1, 0, 0] ++ leBytes 4 500 ++ [3, 0xFF, 0xFF, 0xFF] ++ [1, 0, 0, 0] ++ zeros 4

/-- The array has its supply. -/
def burstable (s : State) : State := fielded (fun l => { l with enabled := true }) (setTo 6 1 3 1 s)

/-- A sequence on channel 3 that runs. -/
def seq3 (who : Nat) : LfSeq := { who, parts := [{ shape := .step, us := 500, drives := [{ ch := 3, target := 200 }] }], start := now0, end_ := now0 + 500 }

/-- A command of ticket 0 whose job waits, or whose sequence runs. -/
def jobbed (payload : Bytes) (j : LfJob) (qs : List LfSeq) : State :=
  runs { opcode := if j.diag then 0x0602 else 0x0603, payload } [{ node := 0x13 }]
    (fielded (fun l => { l with jobs := [j], seqs := qs }) (burstable (inMode .cab)))

theorem test_witness_LfCommandSequences :
    (Met 0x0603 (fun s w => !burstOk w.req.payload s) ∧
      Met 0x0603 (fun s w => burstOk w.req.payload s && (burstChans w.req.payload).any (fun e => !lfUsable s e.1)) ∧
      Met 0x0603 (fun s w => burstOk w.req.payload s && (burstChans w.req.payload).all (fun e => lfUsable s e.1) && (lfJobs s).isEmpty) ∧
      Met 0x0602 (fun s _ => (lfJobs s).isEmpty) ∧
      Met 0x0603 (fun s w => burstOk w.req.payload s && (burstChans w.req.payload).all (fun e => lfUsable s e.1) &&
        lfJobs s == [{ ticket := some 1, order := 5 }] && decide (w.order ≤ 5)) ∧
      Met 0x0604 (fun s w => commandTiles w == [0x13] && !(s.lfc 3).latched) ∧
      Met 0x0604 (fun s w => commandTiles w == [0x13] && (s.lfc 3).latched)) ∧
    (∀ d ∈ [true, false],
      let j : LfJob := { ticket := some 0, diag := d, latest := now0 + 500 }
      let s := jobbed burstBytes j [];
      (lfJobs s).find? (fun j => j.ticket == some 0 && !j.begun) = some j ∧ clearUntil j.latest s = true ∧ (s.work 0).isSome = true ∧
        ((s.work 0).map (·.results)) = some [] ∧ lfJobs s = [j] ∧ lfOpen s = true ∧ lfBusy s = false ∧ lfBefore s j = false ∧
        s.now ≤ j.latest ∧ lfGap (jobLength s j) s = true ∧ (jobBurst s j).all (fun e => lfUsable s e.1) = true ∧ jobFits s j = true ∧
        lfRefusal false (partsEstimate (jobParts s j)) s = none ∧ carrierDiv s ≠ 0 ∧
        lfGap (jobLength s j) (shutAs 13 { state := .oneShot, active := now0 + 1 } s) = false ∧
        lfRefusal false (partsEstimate (jobParts s j)) (fielded (fun l => { l with enabled := false }) s) = some 0 ∧
        (d = false → (jobBurst (setTo 6 1 3 0 s) j).any (fun e => !lfUsable (setTo 6 1 3 0 s) e.1) = true ∧
          jobFits (jobbed [] j []) j = false ∧ (jobBurst (jobbed [] j []) j).all (fun e => lfUsable (jobbed [] j []) e.1) = true) ∧
        (let b := { j with begun := true };
          let u := jobbed burstBytes b [seq3 1];
          commandSeq u = some (seq3 1) ∧ jobOf u (seq3 1) = some b ∧ clearUntil (seq3 1).end_ u = true ∧ capturedChans u = [] ∧
            lfJobs u = [b] ∧ b.seg = 0 ∧ b.static = false ∧ u.allows 7 = true ∧ u.lf.enabled = true ∧ liveSeqs u = [seq3 1] ∧
            lfRunning u = some (seq3 1) ∧ (seq3 1).chans.contains 3 = true)) ∧
    (let s := burstable live; s.lf.enabled = true ∧ lfBusy s = false ∧ live.lf.enabled = false) ∧
    (let s := fielded (fun l => { l with seqs := [seq3 0] }) (burstable live);
      lfRunning s = some (seq3 0) ∧ (seq3 0).chans.contains 3 = true ∧ capturedChans s = [] ∧ (s.lfc 3).latched = false) ∧
    (∃ ns, autoDue (burstable (inMode .cab)) = 3 :: ns ∧ (inMode .cab).nat 6 8 ≠ 0 ∧ (lfJobs (burstable (inMode .cab))) = []) := by
  refine ⟨⟨met { opcode := 0x0603 } [] live (by decide +kernel), met { opcode := 0x0603, payload := burstBytes } [] live (by decide +kernel),
      met { opcode := 0x0603, payload := burstBytes } [] (burstable live) (by decide +kernel), met { opcode := 0x0602 } [] live (by decide +kernel),
      met { opcode := 0x0603, payload := burstBytes } []
        (fielded (fun l => { l with jobs := [{ ticket := some 1, order := 5 }] }) (burstable { live with
          sheet := { live.sheet with tickets := tmod live.sheet.tickets 1 (fun e => { e with state := .accepted }) } })) (by decide +kernel),
      met { opcode := 0x0604 } [{ node := 0x13 }] live (by decide +kernel),
      met { opcode := 0x0604 } [{ node := 0x13 }] (fielded (fun l => { l with chans := tmod l.chans 3 (fun c => { c with latched := true }) }) live)
        (by decide +kernel)⟩, fun d h => ?_, by decide +kernel, by decide +kernel, [], by decide +kernel⟩
  rcases List.mem_pair.1 h with h | h <;> subst h <;> decide +kernel

/-- The transceiver in a state, serving a request. -/
def served (st : UhfState) (r : Option UhfReq) (f : Uhf → Uhf) (s : State) : State :=
  { s with uhf := f { s.uhf with state := st, serving := r } }

/-- A request of a kind that waits for nothing but lock. -/
def req1 (k : UhfKind) : UhfReq := { kind := k, deadline := now0 + 500, airtime := 1000 }

theorem test_witness_FrontEndStates :
    live.uhf.state ≠ .cal ∧
    (∀ k ∈ [UhfKind.tx, .rx, .cal], let s := served .cal (some (req1 k)) id live;
      s.uhf.state = .cal ∧ s.uhf.serving = some (req1 k) ∧ (req1 k).ticket < 128 ∧ s.uhf.queue = [] ∧ s.uhf.access = none ∧
        accessTaken s = false) ∧
    (∀ st ∈ [UhfState.cal, .settle],
      let s := served st none (fun u => { u with access := some { begun := true }, failed := true }) live;
      s.uhf.access = some { begun := true } ∧ s.uhf.state = st ∧ s.uhf.locked = false ∧ s.uhf.failed = true) ∧
    (let s := served .settle none id live; s.uhf.state = .settle ∧ s.uhf.access = none ∧ s.uhf.locked = false ∧ s.uhf.failed = false) ∧
    (∀ k ∈ [UhfKind.tx, .rx], let s := served .settle (some (req1 k)) id live;
      s.uhf.access = none ∧ s.uhf.locked = false ∧ s.uhf.window = none ∧ s.uhf.queue = [] ∧
        s.now ≤ (req1 k).deadline ∧ leadOver (req1 k) s = true ∧ gntOk (req1 k) s = true ∧
        txFits (req1 k).airtime s = true ∧ (served .settle (some (req1 k)) (fun u => { u with failed := true }) live).uhf.failed = true) ∧
    (∀ st ∈ [UhfState.rx, .tx], (served st none id live).uhf.state = st ∧ accessOpen (served st none id live) = false) ∧
    (let s (st : UhfState) := served st (some (req1 .tx)) (fun u => { u with started := now0, downAt := now0 + 9 }) live;
      clearUntil ((s .txRamp).uhf.started + lsbOfUs 16) (s .txRamp) = true ∧
        clearUntil ((s .tx).uhf.started + lsbOfUs ((req1 .tx).airtime - 16)) (s .tx) = true ∧
        clearUntil (s .txDown).uhf.downAt (s .txDown) = true ∧ (req1 .tx).band < 16 ∧ (s .txDown).uhf.queue = [] ∧
        (∀ n : Fin 8, (s .txDown).nat 2 4 n.val ≠ 0x60)) := by decide +kernel

/-- UHF.TX at a frequency with 1 kbit/s and no packet (R236). -/
def txBytes (f : Nat) : Bytes := leBytes 4 f ++ leBytes 4 1000 ++ zeros 40

/-- Its state at work. -/
def sends (f : Nat) (s : State) : State := give { opcode := 0x0702, payload := txBytes f } [] (chartered s)

theorem dutyWait_sends (v : State) (h : v.uhf.charter = factoryCharter) (us : Nat) : dutyWait 0 us v =
    (let e := factoryBand 433050000 100 175 40 360000
     let last := tget v.uhf.lastEnd 0
     let off := if last = 0 then 0 else last + lsbOfMs (bandOff e) - v.now
     if bandMaxTx e * 1000 < us then some (Config.freeNat v.free)
     else match minutesUntil (tget v.uhf.ledger 0) us (bandDuty e * 1000) with
       | none => some (Config.freeNat v.free)
       | some k =>
         let d := if k = 0 then 0 else (v.uhf.minute + k) * (60 * oneSec) - v.now
         if max d off = 0 then none else some (msUp (max d off))) := by
  unfold dutyWait
  rw [h, show bandAt factoryCharter 0 = factoryBand 433050000 100 175 40 360000 from (bandAt_factoryPage _).1]
  all_goals rfl

/-- The radio command in ticket 0 is the next to be admitted. -/
def NextRadio (s : State) (w : Work) : Prop :=
  s.stew.running = true ∧ s.work 0 = some w ∧ (s.flight.filter (fun x => decide (x.2.order ≤ w.order))).filter (uhfNew s) = [(0, w)]

theorem test_witness_RadioRequests :
    (∀ op ∈ [0x0702, 0x0703, 0x0704], NextRadio (give { opcode := op } [] live) { req := { opcode := op } } ∧
      (give { opcode := op } [] live).charterValid = false) ∧
    (∀ f ∈ [1, 433050000], NextRadio (sends f { live with store := { live.store with lockA := true } })
      { req := { opcode := 0x0702, payload := txBytes f } }) ∧
    NextRadio (give { opcode := 0x0703 } [] (chartered live)) { req := { opcode := 0x0703 } } ∧
    (let s := sends 1 { live with store := { live.store with lockA := true } };
      s.charterValid = true ∧ s.charterLocked = true ∧ bandOf s.uhf.charter 1 = none) ∧
    (let s := sends 433050000 { live with store := { live.store with lockA := true } }
      let air := airtimeUs (txBytes 433050000) + 32;
      s.charterValid = true ∧ bandOf s.uhf.charter 433050000 = some 0 ∧ (bandFlags (bandAt s.uhf.charter 0)).testBit 0 = false ∧
        (bandFlags (bandAt s.uhf.charter 0)).testBit 1 = false ∧ u32At (txBytes 433050000) 0 = 433050000 ∧
        dutyWait 0 air (s.modUhf (fun u => u.roll s.now)) = none ∧
        (dutyWait 0 air ((timed (fun t => { t with epoch := now0 + 1 }) s).modUhf (fun u =>
          { u.roll s.now with lastEnd := tmod u.lastEnd 0 (fun _ => now0) , ledger := tmod u.ledger 0 (fun _ => [360000000]) })) ≠ none)) ∧
    (let s := give { opcode := 0x0704 } [] (served .idle none id (inMode .cab));
      NextRadio s { req := { opcode := 0x0704 } } ∧ s.uhf.state = .idle ∧ s.uhf.serving = none ∧ s.uhf.queue = [] ∧
        accessTaken s = false ∧ s.usable 5 = true) ∧
    Met 0x0706 (fun _ _ => true) ∧
    ((chartered live).charterValid = true ∧ (chartered live).inMask 1 = false ∧ (chartered live).inMask 433050000 = true) ∧
    (let r : UhfReq := { req1 .tx with coex := 1, reqAt := now0 };
      let s := served .settle (some r) (fun u => { u with locked := true, gnt := true }) live;
      firstDeadline s = some r ∧ clearUntil r.deadline s = true ∧ r.ticket < 128 ∧ s.uhf.queue = [] ∧ s.uhf.window = none ∧
        (uhfStartAt s).all (fun x => decide (r.deadline < x)) = true ∧
        (let q := { r with deadline := now0 + 2 ^ 40 };
          let s' := served .settle (some q) (fun u => { u with locked := true, gnt := true }) live;
          (∃ x, firstDeadline s' = some q ∧ uhfStartAt s' = some x ∧ x ≤ q.deadline ∧ clearUntil x s' = true) ∧
          clearUntil (leadEnd q s') s' = true ∧
          (let v := reach (leadEnd q s') s';
            accessTaken v = false ∧ v.now ≤ q.deadline ∧ leadOver q v = true ∧ gntOk q v = true ∧ txFits q.airtime v = true)) ∧
        (∀ n : Fin 8, live.nat 2 4 n.val ≠ 7) ∧
        (served .tx (some r) (fun u => { u with gnt := true }) live).uhf.gnt = true ∧ live.uhf.serving = none) ∧
    (let x : UhfWindow := { end_ := now0 + 500 };
      let s := served .rx (some (req1 .rx)) (fun u => { u with window := some x }) (runs { opcode := 0x0703, payload := zeros 15 ++ [1] } [] live);
      s.uhf.window = some x ∧ s.uhf.access = none ∧ s.work (req1 .rx).ticket = some { req := { opcode := 0x0703, payload := zeros 15 ++ [1] } } ∧
        x.packets.length < u8At (zeros 15 ++ [1]) 15 ∧ u8At (zeros 15 ++ [1]) 13 ≠ 2 ∧ clearUntil x.end_ s = true ∧ accessTaken s = false ∧
        s.uhf.queue = [] ∧ s.now < x.end_) ∧
    (accessHears (hearing live) = true ∧ (hearing live).uhf.window = none) ∧
    (let s : State := { live with uhf := { minute := minuteOf now0 } }; clearUntil ((s.uhf.minute + 1) * lsbOfS 60) s = true) := by
  have hv : charterOk factoryCharter = true := charterOk_factory
  have hb : bandAt factoryCharter 0 = factoryBand 433050000 100 175 40 360000 := (bandAt_factoryPage _).1
  refine ⟨by unfold NextRadio; decide +kernel, by unfold NextRadio; decide +kernel, by unfold NextRadio; decide +kernel, ⟨hv, by decide +kernel, (bandOf_factory 1).trans (by decide +kernel)⟩,
    ⟨hv, (bandOf_factory 433050000).trans (by decide +kernel), ?_, ?_, by decide +kernel, ?_, ?_⟩,
    by unfold NextRadio; decide +kernel, met { opcode := 0x0706 } [] live rfl,
    ⟨hv, ?_, ?_⟩, ⟨by decide +kernel, by decide +kernel, by decide +kernel, by decide +kernel, by decide +kernel, by decide +kernel,
      ⟨⟨now0 + lsbOfUs 100, by decide +kernel⟩, by decide +kernel⟩, by decide +kernel⟩, by decide +kernel, by decide +kernel, by decide +kernel⟩
  · show (bandFlags (bandAt factoryCharter 0)).testBit 0 = false
    rw [hb]
    decide +kernel
  · show (bandFlags (bandAt factoryCharter 0)).testBit 1 = false
    rw [hb]
    decide +kernel
  · rw [dutyWait_sends _ (by rfl)]
    decide +kernel
  · rw [dutyWait_sends _ (by rfl)]
    decide +kernel
  · show (charterOk factoryCharter && (bandOf factoryCharter 1).isSome) = false
    rw [bandOf_factory]
    exact Bool.and_eq_false_imp.2 (fun _ => by decide +kernel)
  · show (charterOk factoryCharter && (bandOf factoryCharter 433050000).isSome) = true
    rw [hv, bandOf_factory]
    decide +kernel

/-- The Rangefinder changed. -/
def ranged (f : Range → Range) (s : State) : State := { s with range := f s.range }

/-- A session of slot 1 that runs. -/
def sess1 : Sess := { slot := 1, ports := [0], delays := [0, 0, 0, 0], since := now0, ks := some (zeros 16) }

theorem test_witness_RangingSessions :
    (sess1.ks ≠ none ∧ sess1.response = none ∧ sess1.calib = false ∧ sess1.slot < 16 ∧ sess1.report = none) ∧
    (let s := ranged (fun r => { r with session := some sess1 }) live;
      s.range.session = some sess1 ∧ s.range.waiting = [] ∧ s.range.calib = none ∧ clearUntil (sess1.since + lsbOfUs (verdictDue sess1)) s = true ∧
        verdictOf sess1 ≠ 0) ∧
    (let x := { sess1 with response := some (true, true) };
      x.response = some (true, true) ∧ x.report = none ∧ x.rounds.length < 32 ∧ earliestHit x { hits := [] } = none ∧
        earliestHit x { hits := [{ port := 0, ticks := 307, fine := 9, bit := true }] } = some { port := 0, ticks := 307, fine := 9, bit := true } ∧
        earliestHit x { hits := [{ port := 0, ticks := 307, fine := 10, bit := true }] } = none) ∧
    (let s := ranged (fun r => { r with tdcDue := true }) live; ∃ d, tdcTurn s = some d ∧ clearUntil d s = true ∧ s.range.calib = none ∧
      s.range.waiting = []) := by
  refine ⟨by decide +kernel, by decide +kernel, by decide +kernel, now0, by decide +kernel⟩

theorem test_witness_PortCalibrationAndCable :
    (Met 0x0803 (fun s w => s.range.calib.isNone && decide (16 ≤ u8At w.req.payload 0)) ∧
      Met 0x0803 (fun s w => (tget s.access.slots (u8At w.req.payload 0)).state != 1 && decide (u8At w.req.payload 0 < 16)) ∧
      Met 0x0803 (fun s w => (tget s.access.slots (u8At w.req.payload 0)).state == 1 && s.nat 8 3 (w.req.node - 0x88) == 0) ∧
      Met 0x0803 (fun s w => (tget s.access.slots (u8At w.req.payload 0)).state == 1 && s.nat 8 3 (w.req.node - 0x88) != 0 &&
        s.range.calib.any (fun c => c.ticket != 0)) ∧
      Met 0x0803 (fun s w => (tget s.access.slots (u8At w.req.payload 0)).state == 1 && s.nat 8 3 (w.req.node - 0x88) != 0 &&
        s.range.calib.isNone && s.range.waiting.isEmpty)) ∧
    (∀ op : Nat, Met op (fun s w => (tget s.range.last (u8At w.req.payload 0)).isNone && (tget s.range.traces (u8At w.req.payload 0 - 18)).isNone)) ∧
    Met 0x0804 (fun s w => (tget s.range.last (u8At w.req.payload 0)).isSome) ∧
    Met 0x0811 (fun s w => (tget s.range.traces (u8At w.req.payload 0 - 18)).isSome) ∧
    Met 0x0810 (fun s w => s.range.cables.isEmpty && w.walkTileNodes == [0x42] && cableRefusal false (cablePort 0x42) s == none) ∧
    Met 0x0810 (fun s w => s.range.cables.isEmpty && w.walkTileNodes == [0x42] && w.walk == [{ node := 0x42 }] && w.results.isEmpty &&
      cableRefusal false (cablePort 0x42) s == some St.cablePortUp) ∧
    (∀ n ∈ [2168, 2169],
      let x : CableRun := { begun := true, held := true, tiles := [0x42], samples := List.replicate n 0 };
      let s := ranged (fun r => { r with cables := [x], tdcOk := true }) (runs { opcode := 0x0810 } [{ node := 0x42 }] live);
      s.range.cables = [x] ∧ cableTurn s = true ∧ s.range.tdcOk = true ∧ s.work 0 = some { req := { opcode := 0x0810 }, walk := [{ node := 0x42 }] }) ∧
    (let c : CableRun := { latest := now0 + 5, tiles := [0x42] };
      let s := ranged (fun r => { r with cables := [c] }) (runs { opcode := 0x0810 } [{ node := 0x42 }] live);
      s.range.cables.find? (fun c => c.ticket == 0 && !c.begun) = some c ∧ clearUntil c.latest s = true) := by
  refine ⟨⟨met { opcode := 0x0803, payload := [16] } [] live (by decide +kernel), met { opcode := 0x0803, payload := [15] } [] live (by decide +kernel),
      met { opcode := 0x0803, node := 0x88, payload := [1] } [] (setTo 8 3 0 0 (learnt 1 live)) (by decide +kernel),
      met { opcode := 0x0803, node := 0x88, payload := [1] } [] (setTo 8 3 0 1 (ranged (fun r => { r with calib := some { ticket := 5 } }) (learnt 1 live)))
        (by decide +kernel),
      met { opcode := 0x0803, node := 0x88, payload := [1] } [] (setTo 8 3 0 1 (learnt 1 live)) (by decide +kernel)⟩,
    fun op => ⟨_, _, startable_give { opcode := op } [] live, Bool.and_eq_true_iff.2 ⟨rfl, rfl⟩⟩,
    met { opcode := 0x0804 } [] (ranged (fun r => { r with last := tmod r.last 0 (fun _ => some {}) }) live) (by decide +kernel),
    met { opcode := 0x0811 } [] (ranged (fun r => { r with traces := tmod r.traces 0 (fun _ => some (0, [])) }) live) (by decide +kernel),
    met { opcode := 0x0810 } [{ node := 0x42 }] live (by decide +kernel),
    met { opcode := 0x0810 } [{ node := 0x42 }] (portAs 18 { state := .up } (setTo 1 0 0 19 live)) (by decide +kernel), by decide +kernel, by decide +kernel⟩

/-- The switch changed. -/
def switched (f : Switch → Switch) (s : State) : State := { s with sw := f s.sw }

/-- An entry that takes every frame to a set of ports, queue 0 (R319). -/
def entryTo (ports : Nat) : Bytes := zeros 24 ++ leBytes 4 ports ++ [0, 1] ++ zeros 10

/-- That entry in force, with CAN ports 0 and 1 up. -/
def table (ports : Nat) : State :=
  let t := setTo 10 0 1 1 (setTo 10 0 0 1 (portAs 1 { state := .up } (portAs 0 { state := .up } live)))
  { t with conf := { t.conf with objects := [(0x0AF00000, entryTo ports)] } }

/-- A classic CAN frame without data. -/
def can0 : RxFrame := { kind := 0, bytes := zeros 16, stamp := now0, lookup := now0, ok := true }

/-- A PAUSE frame of time 1 to T1 port 18 (R331). -/
def pause1 : RxFrame :=
  { kind := 4, stamp := now0, lookup := now0, ok := true
    bytes := [0x01, 0x80, 0xC2, 0x00, 0x00, 0x01] ++ zeros 6 ++ [0x88, 0x08, 0x00, 0x01, 0x00, 0x01] ++ zeros 42 }

/-- The settings, the entry and the egress of that frame on port 0. -/
def can0Way (s : State) : Conf × Option Bytes × List (Nat × Nat) :=
  let c := (tableAt (reach can0.lookup s) can0.lookup).1
  let e := lookup c (classKey 0 0 can0.bytes (c.nat 10 11 0))
  (c, e, egressOf c 0 e)

/-- The switch with no cell left for a CAN port. -/
def fullTable : State :=
  switched (fun w => { w with frames := [{ cells := 20000 }, { cells := 20000, pool := .reserve, port := 0 }] }) (table 2)

theorem test_witness_FramesEnterTheSwitch :
    (live.port 0).state ≠ .up ∧ ((portAs 0 { busOff := true } live).port 0).busOff = true ∧
    (let s := table 2
      let v := reach can0.lookup s
      let w := can0Way s
      let g : SwFrame := {
        stamp := can0.stamp, tag := tagOf v.quality 0x60 (tget s.ev.seqs 0x60), kind := 0, port := 0
        gen := (tableAt v can0.lookup).2, bytes := can0.bytes, tr := (w.2.1.map (transformOf w.1)).getD {}, pool := .shared
        cells := cellsOf 16, age := can0.stamp + lsbOfMs (w.1.nat 10 16) };
      (s.port 0).state = .up ∧ (s.port 0).busOff = false ∧ isCan 0 = true ∧ clearUntil can0.lookup s = true ∧ can0.ok = true ∧ rxFits s 0 can0 = true ∧
        formOk can0.kind can0.bytes = true ∧ pauseTime 0 can0 = none ∧ w.2.2 = [(1, 0)] ∧
        admission s w.1 0 (cellsOf 16) false = some .shared ∧ (s.port 1).state = .up ∧
        blockedId s g 1 = none ∧ formCopy s g 1 ≠ none) ∧
    ((can0Way (table 0)).2.2 = [] ∧ rxFits (table 0) 0 can0 = true ∧ (can0Way live).2 = (none, []) ∧
      (can0Way live).1.nat 10 13 0 = 0) ∧
    ((can0Way fullTable).2.2 ≠ [] ∧ admission fullTable (can0Way fullTable).1 0 (cellsOf 16) false = none ∧
      (fullTable.port 0).state = .up) ∧
    (let s := portAs 18 { state := .up } live;
      rxFits s 18 pause1 = true ∧ formOk 4 pause1.bytes = true ∧ pauseTime 18 pause1 = some 1 ∧
        clearUntil pause1.lookup s = true) := by decide +kernel

/-- A LIN schedule that publishes an empty frame of identifier 0 and then asks for the same (R311). -/
def lin0 : Bytes := [2, 0, 0, 0] ++ [0, 1, 0, 10] ++ [0, 0, 0, 10]

/-- A frame in a loop profile's context. -/
def looped (f : SwFrame) (s : State) : State :=
  { switched (fun w => { w with frames := [{ f with copies := [{ port := 26, taken := true }] }] }) s with
    grain := { s.grain with state := .ready, seeds := [zeros 16, zeros 16] }
    ciph := { s.ciph with ctx := tmod s.ciph.ctx 3 (fun _ => some {}) } }

theorem test_witness_CopiesLeaveTheSwitch :
    (let s := queued { bytes := zeros 16 } (table 2);
      maySend s 0 = true ∧ (s.port 0).pauseUntil = none ∧ (headCopy s 0).isSome = true ∧
        ((headCopy s 0).any (fun p => p.1.built == 0 && (formCopy s p.1 0).isSome)) = true) ∧
    (let s := portAs 12 { state := .up, sched := lin0 } (switched (fun w => { w with frames := [{ bytes := zeros 16, copies := [{ port := 12 }] }] }) live);
      maySend s 12 = true ∧ ((headCopy s 12).any (fun p => (formCopy s p.1 12).isSome)) = true) ∧
    (let s := portAs 27 { state := .up } (switched (fun w => { w with frames := [{ copies := [{ port := 27 }] }] }) live);
      maySend s 27 = true ∧ ((headCopy s 27).any (fun p => (formCopy s p.1 27).isSome)) = true ∧ HostOk s ∧ s.sw.p27Next ≤ 1) ∧
    maySend live 0 = false ∧
    (let f : SwFrame := { age := now0 + 9, copies := [{ port := 0, hold := some (now0 + 5) }] };
      let s := switched (fun w => { w with frames := [f] }) live;
      ((s.sw.frames.map (fun f => f.copies.filterMap (fun c => if c.port = 0 ∧ c.taken = false then c.hold else none))).flatten).min? = some (now0 + 5) ∧
        clearUntil (now0 + 5) s = true ∧
        (s.sw.frames.filterMap (fun f => if f.copies.any (fun c => c.port == 0 && !c.taken) then some f.age else none)).min? = some (now0 + 9)) ∧
    (let s := portAs 27 { state := .up } live;
      s.eave.depth ≤ 1 ∧ s.powered 8 = true ∧ (s.port 27).state = .up ∧ HostOk s ∧ clearUntil s.sw.scanAt s = true ∧
        Memory.read s.host.window 0xC400 ≠ 1 ∧
        Memory.read s.host.window 0xCC00 ≠ 1 ∧ (s.port 27).held = false ∧
        (let t : State := { s with host := { s.host with window := Memory.write [] 0xC400 1 } };
          HostOk t ∧ Memory.read t.host.window 0xC400 = 1 ∧ Memory.read t.host.window 0xCC00 ≠ 1 ∧
            (txVerdict (Memory.readBytes t.host.window 0xC410 2032)).2 = none)) ∧
    loopFrame live = none ∧
    (let s := looped { bytes := zeros 16 } live; (loopFrame s).isSome = true ∧ (s.port 26).held = false ∧ s.cipherUp = true ∧ tget s.ciph.ctx 3 ≠ none ∧
      ((loopFrame s).any (fun g => match loopJob s g with | .failed _ => true | .ok _ => false)) = true) ∧
    (let s := { looped { bytes := zeros 16 } live with ciph := { off := true } };
      (loopFrame s).isSome = true ∧ (s.port 26).held = false ∧ tget s.ciph.ctx 3 = none ∧ s.cipherUp = false ∧ s.ciph.off = true) ∧
    (let s := looped { bytes := zeros 16 } { live with sw := { live.sw with ports := tmod live.sw.ports 26 (fun p => { p with held := true }) } };
      (s.port 26).held = true) ∧
    (let s := looped { bytes := zeros 16 } (keyed 0 (switched (fun w => { w with loops := tmod w.loops 0 (fun l => { l with reserved := 1 }) }) live));
      (loopFrame s).any (fun g => match loopJob s g with | .ok _ => g.tr.loop_.1 == 0 | .failed _ => false) = true) ∧
    (∀ fs ∈ [[], [({ copies := [{}] } : SwFrame)]],
      let r : Retiring := { gen := 0, bound := now0 + 5 }
      let s := switched (fun w => { w with retiring := some r, frames := fs, gen := 1 }) live;
      s.sw.retiring = some r ∧ framesOfGen s r.gen = fs.length ∧ clearUntil r.bound s = true) := by decide +kernel

theorem test_witness_PortsFollowTheirMedia :
    (isT1 18 = true ∧ isT1 23 = true ∧ isCan 11 = true ∧ isLin 17 = true ∧ isT1 17 = false) ∧
    (let s := portAs 18 { state := .up, held := true, pauseSent := now0 } live;
      (s.port 18).state = .up ∧ (s.port 18).held = true ∧ clearUntil ((s.port 18).pauseSent + lsbOfMs 100) s = true) ∧
    (let s := portAs 18 { pauseUntil := some (now0 + 5) } live; (s.port 18).pauseUntil = some (now0 + 5) ∧ clearUntil (now0 + 5) s = true) ∧
    (mayComeUp (setTo 10 0 0 1 live) 0 = true ∧ mayComeUp (table 0) 0 = false) ∧
    live.access.outbox = [] ∧
    (let s := portAs 0 { state := .up, tec := 248 } live; (s.port 0).state = .up ∧ (s.port 0).busOff = false ∧ 255 < (s.port 0).tec + 8) ∧
    ((table 0).port 0).tec + 8 ≤ 255 ∧
    ((portAs 0 { busOff := true } live).port 0).busOff = true ∧
    (let s := queued { bytes := zeros 16 } (table 2); maySend s 0 = true ∧ headCopy s 0 ≠ none ∧ (s.port 0).tec + 8 ≤ 255 ∧
      (let t := queued { bytes := zeros 16 } (portAs 0 { state := .up, tec := 248 } live); maySend t 0 = true ∧ headCopy t 0 ≠ none ∧ 255 < (t.port 0).tec + 8)) ∧
    (∀ i ∈ [0, 1], let t := portAs 12 { state := .up, sched := lin0, slot := i, slotAt := now0, publish := [(0, zeros 0, true)] } live
      let s : State := { t with conf := { t.conf with objects := [(objectId 10 0xF1 12, lin0)] } };
      (s.port 12).state = .up ∧ clearUntil (s.port 12).slotAt s = true ∧ (s.port 12).sched = (s.conf.object (objectId 10 0xF1 12)).getD [] ∧
        (s.port 12).awaiting = none ∧ u8At lin0 0 ≠ 0 ∧ u8At lin0 (5 + 4 * i) % 2 = 1 - i ∧
        assoc (s.port 12).publish (u8At lin0 (4 + 4 * i)) = some (zeros 0, true) ∧ (s.port 12).held = false) ∧
    (let s := portAs 12 { state := .up, sched := lin0, awaiting := some 1 } live;
      (s.port 12).awaiting = some 1 ∧ (zeros 0).length = u8At (s.port 12).sched (6 + 4 * 1) ∧ (s.port 12).state = .up ∧
        ([] : Bytes) ≠ [] ++ linChecksum false 0 [] ∧ (live.port 12).awaiting = none) ∧
    (live.nat 10 19 ≠ 0 ∧ live.powered 8 = true ∧ clearUntil (live.sw.lastAudit + lsbOfS (live.nat 10 19)) live = true) ∧
    Met 0x0A08 (fun _ _ => true) := by
  refine ⟨by decide +kernel, by decide +kernel, by decide +kernel, by decide +kernel, by decide +kernel, by decide +kernel, by decide +kernel,
    by decide +kernel, by decide +kernel, by decide +kernel, by decide +kernel, by decide +kernel, met { opcode := 0x0A08 } [] live rfl⟩

/-- The key of the examples of RFC 4493. -/
def macKey : Bytes := beBytes 16 0x2b7e151628aed2a6abf7158809cf4f3c

/-- RFC 4493, section 4, example 1. -/
theorem test_rfc4493_empty : cmac macKey [] = beBytes 16 0xbb1d6929e95937287fa37d129b756746 := by decide +kernel

/-- CIPHER.JOB with an operation, 8 bytes of tag and no data (R369). -/
def jobBytes (op : Nat) : Bytes := leBytes 1 op ++ [16] ++ zeros 38

/-- The engine with a job of slot 50 in context 5. -/
def cipherJob (p : Bytes) : State :=
  let s := runs { opcode := 0x0B10, node := 0x90 + 50, payload := p } [] live
  { s with
    grain := { s.grain with state := .ready, seeds := [zeros 16, zeros 16] }
    ciph := { s.ciph with ctx := tmod s.ciph.ctx 5 (fun _ => some { ticket := some 0, slot := 50, ver := { key := macKey } }) } }

/-- All three host contexts hold a job. -/
def full (s : State) : State :=
  { s with ciph := { s.ciph with ctx := tmod (tmod (tmod s.ciph.ctx 5 (fun _ => some {})) 6 (fun _ => some {})) 7 (fun _ => some {}) } }

/-- The reservation of slot 50 is written. -/
def reserved50 (s : State) : State :=
  { s with ciph := { s.ciph with slots := tmod s.ciph.slots 50 (fun k => { k with reserved := 1024 }) } }

theorem test_witness_CipherJobs :
    (Met 0x0B10 (fun s w => s.ciph.off && (jobRefusal (w.req.node - 0x90) w.req.payload s).isSome) ∧
      Met 0x0B10 (fun s w => (s.kslot (w.req.node - 0x90)).shadow.isNone && (jobRefusal (w.req.node - 0x90) w.req.payload s).isNone &&
        (freeCtx s).isEmpty) ∧
      Met 0x0B10 (fun s w => (s.kslot (w.req.node - 0x90)).shadow.isNone && (jobRefusal (w.req.node - 0x90) w.req.payload s).isNone &&
        freeCtx s == [5, 6, 7] && !queuedBefore 0 w s && !opNonce (u8At w.req.payload 0)) ∧
      Met 0x0B10 (fun s w => (s.kslot (w.req.node - 0x90)).shadow.isNone && (jobRefusal (w.req.node - 0x90) w.req.payload s).isNone &&
        freeCtx s == [5, 6, 7] && !queuedBefore 0 w s && opNonce (u8At w.req.payload 0) &&
        decide ((s.kslot (w.req.node - 0x90)).nonceNext < (s.kslot (w.req.node - 0x90)).reserved))) ∧
    (∀ p ∈ [jobBytes 9, jobBytes 10], let s := cipherJob p;
      tget s.ciph.ctx 5 = some { ticket := some 0, slot := 50, ver := { key := macKey } } ∧ s.cipherUp = true ∧
        s.work 0 = some { req := { opcode := 0x0B10, node := 0x90 + 50, payload := p } } ∧
        (recentMismatches s).length + 1 < s.nat 11 1 ∧ (setTo 11 1 0 1 s).nat 11 1 = 1) ∧
    (jobCompute 9 macKey [] [] [] (zeros 16) 16).2.2 = true ∧ (jobCompute 10 macKey [] [] [] (zeros 16) 16).2.2 = false := by
  refine ⟨⟨met { opcode := 0x0B10, node := 0x90 + 50 } [] { live with ciph := { off := true } } (by decide +kernel),
      met { opcode := 0x0B10, node := 0x90 + 50, payload := jobBytes 1 } [] (full (keyed 50 live)) (by decide +kernel),
      met { opcode := 0x0B10, node := 0x90 + 50, payload := jobBytes 9 } [] (keyed 50 live) (by decide +kernel),
      met { opcode := 0x0B10, node := 0x90 + 50, payload := jobBytes 5 } [] (reserved50 (keyed 50 live)) (by decide +kernel)⟩, by decide +kernel, rfl, ?_⟩
  show ((cmac macKey []).take 16 == (zeros 16).take 16) = false
  rw [test_rfc4493_empty]
  decide +kernel

/-- CIPHER.KEY_LOAD of the wrapped example under slot 1 (R369). -/
def loadBytes : Bytes := [0, 1] ++ zeros 2 ++ [0, 3, 0, 0, 0, 0, 0, 0] ++ leBytes 2 24 ++ zeros 2 ++ rfcWrapped

/-- A slot with a shadow. -/
def shadowed (n : Nat) (stored : Bool) (s : State) : State :=
  { s with ciph := { s.ciph with slots := tmod s.ciph.slots n (fun k => { k with shadow := some { ver := { gen := 1 }, stored } }) } }

theorem unwrapLoad_example : unwrapLoad loadBytes rfcKek = .ok (verOf rfcKey (slice loadBytes 4 8)) := by
  unfold unwrapLoad
  rw [show slice loadBytes 16 (u16At loadBytes 12) = rfcWrapped by decide +kernel, test_rfc3394_unwrap]
  exact if_pos (by decide +kernel)

theorem test_witness_KeySlotsChange :
    (∀ op ∈ [0x0B03, 0x0B04], Met op (fun _ w => w.req.node == 0x90 + 16 && slotHeld 16) ∧
      Met op (fun s w => w.req.node == 0x90 + s.releaseSlot && !slotHeld s.releaseSlot && keyBoundFor s.releaseSlot s) ∧
      Met op (fun s w => w.req.node == 0x90 + 50 && !slotHeld 50 && !keyBoundFor 50 s && s.ciph.off)) ∧
    Met 0x0B03 (fun s w => !keyBoundFor 50 s && !s.ciph.off && (s.kslot (u8At w.req.payload 1)).shadow.isSome) ∧
    Met 0x0B03 (fun s w => !keyBoundFor 50 s && !s.ciph.off && (s.kslot (u8At w.req.payload 1)).shadow.isNone &&
      (s.kslot (u8At w.req.payload 1)).ver.isNone) ∧
    (let v : KeyVer := { key := rfcKek, length := 0, usage := 0x10 };
      let s := wrapping live;
      !keyBoundFor 50 s ∧ (s.kslot 1).shadow = none ∧ (s.kslot 1).ver = some v ∧ s.cipherUp = true ∧ freeCtx s ≠ [] ∧ v.usage.testBit 4 = true ∧
        ((keyed 1 s).kslot 1).ver ≠ none ∧ ({ v with usage := 0 } : KeyVer).usage.testBit 4 = false) ∧
    (unwrapLoad loadBytes rfcKek = .ok (verOf rfcKey (slice loadBytes 4 8)) ∧ (∃ st, unwrapLoad [] rfcKek = .error st)) ∧
    Met 0x0B04 (fun s _ => !keyBoundFor 50 s && !s.ciph.off && s.grain.state == .latched) ∧
    Met 0x0B04 (fun s _ => !keyBoundFor 50 s && !s.ciph.off && s.grain.state != .latched && freeCtx s == [5, 6, 7]) ∧
    Met 0x0B05 (fun _ w => commandTiles w == [0x90 + 16]) ∧
    Met 0x0B05 (fun s w => commandTiles w == [0x90 + s.releaseSlot] && keyBoundFor s.releaseSlot s && (s.kslot s.releaseSlot).ver.isNone) ∧
    Met 0x0B05 (fun s w => commandTiles w == [0x90 + 50] && !keyBoundFor 50 s && (s.kslot 50).ver.isSome &&
      !((s.kslot 50).ver.map (·.eraseWorkshop)).getD false) ∧
    (mayLand live 50 = false ∧ mayLand (shadowed 50 true live) 50 = true ∧ ((shadowed 50 true live).kslot 50).shadow.isSome = true) := by
  refine ⟨fun op h => ?_, met { opcode := 0x0B03, node := 0x90 + 50, payload := loadBytes } [] (shadowed 1 false live) (by decide +kernel),
    met { opcode := 0x0B03, node := 0x90 + 50, payload := loadBytes } [] live (by decide +kernel), by decide +kernel,
    ⟨unwrapLoad_example, St.cipherUnwrapFail, by rfl⟩,
    met { opcode := 0x0B04 } [] { live with grain := { state := .latched } } (by decide +kernel), met { opcode := 0x0B04 } [] live (by decide +kernel),
    met { opcode := 0x0B05 } [{ node := 0x90 + 16 }] live (by decide +kernel),
    met { opcode := 0x0B05 } [{ node := 0x90 + live.releaseSlot }] live (by decide +kernel),
    met { opcode := 0x0B05 } [{ node := 0x90 + 50 }] (keyed 50 live) (by decide +kernel), by decide +kernel⟩
  rcases List.mem_pair.1 h with h | h <;> subst h
  · exact ⟨met { opcode := 0x0B03, node := 0x90 + 16 } [] live (by decide +kernel),
      met { opcode := 0x0B03, node := 0x90 + live.releaseSlot } [] live (by decide +kernel),
      met { opcode := 0x0B03, node := 0x90 + 50 } [] { live with ciph := { off := true } } (by decide +kernel)⟩
  · exact ⟨met { opcode := 0x0B04, node := 0x90 + 16 } [] live (by decide +kernel),
      met { opcode := 0x0B04, node := 0x90 + live.releaseSlot } [] live (by decide +kernel),
      met { opcode := 0x0B04, node := 0x90 + 50 } [] { live with ciph := { off := true } } (by decide +kernel)⟩

/-- Grain in a state. -/
def grained (f : Grain → Grain) (s : State) : State := { s with grain := f s.grain }

theorem grainReads_none (s : State) (h : s.stew.works = idle) : s.grainReads = [] := by
  have e : (List.range 128).filterMap (fun t => match s.work t with
      | some w => if w.req.opcode = 0x0C02 ∧ ((s.ticket t).state = .accepted ∨ (s.ticket t).state = .running) then some (t, w) else none
      | none => none) = [] := by
    rw [List.filterMap_eq_nil_iff]
    intro t _
    have : s.work t = none := by unfold State.work; rw [h]; exact tget_idle t
    rw [this]
  unfold State.grainReads
  exact (congrArg (fun l => List.mergeSort l _) e).trans List.mergeSort_nil

/-- GRAIN.READ of 4 bytes. -/
def read4 : Req := { opcode := 0x0C02, payload := leBytes 2 4 }
/-- It waits with bytes in the queue. -/
def reads4 : State := give read4 [] (grained (fun g => { g with state := .ready, queue := zeros 4096 }) live)

theorem grainReads_one (s : State) (x : Nat × Work) (e : (List.range 128).filterMap (fun t => match s.work t with
      | some w => if w.req.opcode = 0x0C02 ∧ ((s.ticket t).state = .accepted ∨ (s.ticket t).state = .running) then some (t, w) else none
      | none => none) = [x]) : s.grainReads = [x] := by
  unfold State.grainReads
  exact (congrArg (fun l => List.mergeSort l _) e).trans (List.mergeSort_singleton _)

theorem grainReads_reads4 : reads4.grainReads = [(0, { req := read4 })] := grainReads_one _ _ (by decide +kernel)

/-- Raw bits in which every source alternates. -/
def raw4 : BitVec 512 := BitVec.ofNat 512 (leNat (List.replicate 64 0x0F))

theorem test_witness_GrainFeedsItsConsumers :
    live.grain.state ≠ .ready ∧ live.grain.seeded = false ∧
    (let s := grained (fun g => { g with state := .ready, since := now0 }) live;
      s.grain.state = .ready ∧ clearUntil s.grain.wordDue s = true ∧ s.grain.seeds.length < 2 ∧ (s.grain.test raw4).2 = none ∧
        (s.grain.test 0).2 = some (0, 0, 41)) ∧
    (let s := grained (fun g => { g with state := .ready, seeds := [zeros 16, zeros 16], since := now0 }) live;
      s.grain.reseedDue (max s.now s.grain.wordDue) = true ∧ s.grain.reseedDue (reach s.grain.wordDue s).now = true) ∧
    (let s := grained (fun g => { g with state := .ready, seeds := [zeros 16, zeros 16], since := now0, seededAt := now0 }) live;
      s.grain.seeded = true ∧ s.grain.reseedDue (max s.now s.grain.wordDue) = false ∧
      s.grain.reseedDue (reach s.grain.wordDue s).now = false ∧ 2 ≤ s.grain.seeds.length ∧ s.grain.seeds.length = 2 ∧ s.grain.wires = [] ∧ s.grain.reserve = none ∧ s.grain.remask = false) ∧
    (let s := grained (fun g => { g with state := .ready, seeds := [zeros 16, zeros 16], reserve := some (zeros 16), queue := zeros 4080 })
        { live with stew := { live.stew with works := idle } };
      s.grain.reserve ≠ none ∧ s.grain.queue.length + 16 ≤ 4096 ∧ s.grain.reqs = [] ∧ s.stew.works = idle) ∧
    (testFails 3 0 41 = true ∧ testFails 0 1 793 = true ∧ testFails 4 0 41 = false ∧
      clearUntil (now0 + lsbOfUs 500) (grained (fun g => { g with state := .startup, since := now0 }) live) = true) ∧
    (∀ n ∈ [0, 2], (recentFails live.now (grained (fun g => { g with state := .startup, fails := List.replicate n now0 }) live).grain.fails).length + 1 = n + 1) ∧
    (∀ r ∈ [none, some 1], (grained (fun g => { g with state := .startup, resume := r }) live).grain.resume = r) ∧
    (∀ st ∈ [GrainState.latched, .raw], Met 0x0C02 (fun s _ => s.grain.state == st)) ∧
    (startable 0 0x0C02 reads4 = some { req := read4 } ∧ reads4.grain.state = .ready ∧ reads4.grain.reqs = [] ∧
      reads4.grainReads = [(0, { req := read4 })] ∧ u16At read4.payload 0 ≤ reads4.grain.queue.length - reads4.nat 12 0) ∧
    (let s := runs { opcode := 0x0C02 } [] live;
      s.work 0 = some { req := { opcode := 0x0C02 } } ∧ (s.ticket 0).state = .running ∧ clearUntil (0 + lsbOfUs (readDeadline 0)) s = true) ∧
    (let q : QueueReq := { consumer := 2, since := now0 };
      let s := grained (fun g => { g with reqs := [q] }) (engaged (fun a => { a with cyc := some {} }) live);
      s.grain.reqs.find? (fun q => q.consumer == 2) = some q ∧ s.access.cyc = some {} ∧ clearUntil (q.since + lsbOfMs 1) s = true) ∧
    (∀ e ∈ [Engine.release, .learn], Met 0x0C03 (fun s _ => s.access.state == e)) ∧
    Met 0x0C03 (fun s _ => s.access.state == .off && s.grain.state == .latched) ∧
    Met 0x0C03 (fun s _ => s.access.state == .off && s.grain.state == .off) ∧
    (let r : RawRun := { count := 1, start := now0 };
      let s := grained (fun g => { g with state := .raw, run := some r }) live;
      s.grain.run = some r ∧ s.grain.state = .raw ∧ (zeros 128).length = 128 * r.count ∧ r.ticket < 128 ∧
        clearUntil (r.start + lsbOfUs (500 * r.count)) s = true) := by
  refine ⟨by decide +kernel, by decide +kernel, by decide +kernel, by decide +kernel, by decide +kernel,
    ⟨by decide +kernel, by decide +kernel, by decide +kernel, rfl⟩, by decide +kernel, by decide +kernel, by decide +kernel, fun st h => ?_,
    ⟨startable_give read4 [] _, by decide +kernel, by decide +kernel, grainReads_reads4, by decide +kernel⟩, by decide +kernel, by decide +kernel, fun e h => ?_,
    met { opcode := 0x0C03 } [] { live with grain := { state := .latched } } rfl, met { opcode := 0x0C03 } [] live rfl, by decide +kernel⟩
  · rcases List.mem_pair.1 h with h | h <;> subst h
    · exact met { opcode := 0x0C02 } [] { live with grain := { state := .latched } } rfl
    · exact met { opcode := 0x0C02 } [] { live with grain := { state := .raw } } rfl
  · rcases List.mem_pair.1 h with h | h <;> subst h
    · exact met { opcode := 0x0C03 } [] (engaged (fun a => { a with state := .release }) live) rfl
    · exact met { opcode := 0x0C03 } [] (engaged (fun a => { a with state := .learn }) live) rfl

/-- The store changed. -/
def stored (f : Store → Store) (s : State) : State := { s with store := f s.store }
/-- The vault changed. -/
def vaulted (f : Vault → Vault) (s : State) : State := { s with vault := f s.vault }

/-- A request to write the last part of a charter and commit it (R406). -/
def charterBytes (c : Bytes) : Bytes := [7, 1, 0, 0] ++ slice c 3584 512

/-- Its first seven parts staged. -/
def parts7 (c : Bytes) : List (Nat × Bytes) := (List.range 7).map (fun i => (i, slice c (512 * i) 512))

theorem slices8 (c : Bytes) (h : c.length = 4096) : ((List.range 8).map (fun i => slice c (512 * i) 512)).flatten = c := by
  have k : ∀ n m : Nat, ((List.range m).map (fun i => slice c (n + 512 * i) 512)).flatten = (c.drop n).take (512 * m) := by
    intro n m
    induction m generalizing n with
    | zero => simp
    | succ m ih =>
      rw [List.range_succ_eq_map, List.map_cons, List.map_map, List.flatten_cons]
      have e : ((fun i => slice c (n + 512 * i) 512) ∘ Nat.succ) = (fun i => slice c (n + 512 + 512 * i) 512) := by
        funext i
        show slice c (n + 512 * (i + 1)) 512 = _
        congr 1
        omega
      rw [e, ih, Nat.mul_zero, Nat.add_zero, slice, show 512 * (m + 1) = 512 + 512 * m by omega, List.take_add, List.drop_drop]
  have := k 0 8
  simp only [Nat.zero_add] at this
  rw [this, List.drop_zero, List.take_of_length_le (by omega)]

theorem charterPage_example (c : Bytes) (h : c.length = 4096) :
    ((List.range 8).map (fun i => (assoc (assocSet (parts7 c) (u8At (charterBytes c) 0) (slice (charterBytes c) 4 512)) i).getD [])).flatten = c := by
  have e : slice (charterBytes c) 4 512 = slice c 3584 512 := by
    show ((slice c 3584 512).take 512) = _
    exact List.take_of_length_le (by rw [slice, List.length_take]; omega)
  rw [e]
  exact slices8 c h

theorem factoryCharter_length : factoryCharter.length = 4096 := factoryPage_length _

theorem charterLock_example : u32At (slice factoryCharter 12 4) 0 = u32At factoryCharter 12 := by
  have h : ∀ c : Bytes, u32At (slice c 12 4) 0 = u32At c 12 := by
    intro c
    simp only [u32At, slice, List.drop_zero, List.take_take, Nat.min_self]
  exact h _

theorem test_witness_StorageWork :
    (live.powered 9 = true ∧ live.store.recoverDue = false ∧ live.store.paramAt = 0 ∧ live.vault.lastScan = 0 ∧
      (stored (fun t => { t with recoverDue := true }) live).store.recoverDue = true) ∧
    (let s := vaulted (fun v => { v with lastScan := now0 }) (stored (fun t => { t with paramAt := now0 }) live);
      s.store.paramAt ≠ 0 ∧ clearUntil (s.store.paramAt + lsbOfS 86400) s = true ∧ s.vault.lastScan ≠ 0 ∧
        clearUntil (s.vault.lastScan + lsbOfS (86400 * s.nat 13 4)) s = true) ∧
    (let s := stored (fun t => { t with log := tmod t.log 27 (fun b => { b with slots := [.valid {} false] }) }) live;
      (tget s.store.log 27).slots[0]? = some (.valid {} false)) ∧
    (let s := parted 4 (fun p => { p with pages := [{}] }) live;
      (tget s.vault.parts 4).pages[0]?.map (·.lost) = some false ∧
        (∀ e ∈ [13, 25], let h : ScanHit := { part := 4, page := 0, errors := #v[e, 0, 0, 0] }; h.lost = decide (24 < e) ∧ (e = 13 → 13 ≤ h.bits)) ∧
        s.store.queue.any (fun o => o.act == .relocate 4 0) = false) ∧
    (∀ x ∈ [(1, lsbOfS (live.nat 13 1)), (4, lsbOfMs (live.nat 13 2)), (5, lsbOfMs (live.nat 13 3))],
      let s := parted x.1 (fun p => { p with buffer := [zeros 32], since := now0 }) live
      let p := tget s.vault.parts x.1;
      freshRecords x.1 live = [] ∧ freshRecords x.1 s ≠ [] ∧ p.starved = false ∧ s.store.queue.any (fun o => o.act == .page x.1) = false ∧
        clearUntil (p.since + x.2) s = true ∧ (p.gain (reach (p.since + x.2) s).now).mayProgram x.1 = true ∧
        ({ p with credit := 0, creditAt := 2 ^ 60, fresh := p.last } : Part).mayProgram x.1 = false) ∧
    (let s := parted 4 (fun p => { p with buffer := [zeros 32], starved := true, creditAt := now0 }) live
      let p := tget s.vault.parts 4;
      p.starved = true ∧ isRing 4 = true ∧ p.blocks ≠ 0 ∧ freshRecords 4 s ≠ [] ∧ s.store.queue.any (fun o => o.act == .page 4) = false ∧
        clearUntil (creditDue p) s = true ∧ (p.gain (reach (creditDue p) s).now).mayProgram 4 = true) ∧
    (let o : StoreOp := { act := .lockBits };
      let s := stored (fun t => { t with holding := true, queue := [o] }) live;
      s.store.holding = true ∧ s.powered 9 = true ∧ s.store.running = none ∧ pickOp s.store.queue = some o ∧
        energy o.act + 10000 ≤ usable (s.nat 13 0) 20000 ∧ usable (s.nat 13 0) 8000 < energy o.act + 10000 ∧ live.store.holding = false) ∧
    (let s := stored (fun t => { t with running := some { act := .page 4 } }) live;
      touched s = [(4, 8192)] ∧ touched live = [] ∧ 0 < s.vault.spares ∧ (tget s.vault.parts 4).holds 8192 = true ∧
      touched (stored (fun t => { t with running := some { act := .relocate 4 8192 } }) live) = [(4, 8192), (4, 16384)] ∧
      (tget (parted 4 (fun p => { p with map := [8192] }) s).vault.parts 4).map.contains 8192 = true ∧
      ({} : Rec).data.length ≤ 56 ∧
      (tget (parted 4 (fun p => { p with buffer := [zeros 32] }) s).vault.parts 4).buffer ≠ []) ∧
    (∀ a ∈ [StoreAct.record {}, .record { key := 0xE001 }, .unit 0x40, .lockBits, .blockErase 5],
      (stored (fun t => { t with running := some { act := a } }) live).store.running = some { act := a }) ∧
    (ringKey 0x1 = false ∧ (live.store.counter 0x40).units + 1 < 128 ∧ (tget live.store.log live.store.at_).slots.length < 255 ∧ live.store.ringActive < 2) ∧
    (∀ x ∈ [(0x0D02, 4), (0x0D04, 5)], Met x.1 (fun s w => decide ((tget s.vault.parts x.2).endNo ≤ u64At w.req.payload 0)) ∧
      Met x.1 (fun s w => decide ((tget s.vault.parts x.2).oldest ≤ u64At w.req.payload 0) && decide (u64At w.req.payload 0 < (tget s.vault.parts x.2).endNo))) ∧
    Met 0x0D03 (fun s w => (u8At w.req.payload 4).testBit 0 && ((tget s.vault.parts 5).gain s.now).mayProgram 5 && s.store.running.isNone) ∧
    Met 0x0D05 (fun _ _ => true) ∧
    (∀ op ∈ [0x0D06, 0x0D07], Met op (fun s _ => s.charterLocked)) ∧
    Met 0x0D06 (fun s w => !s.charterLocked && !(u8At w.req.payload 1).testBit 0) ∧
    Met 0x0D06 (fun s w => !s.charterLocked && (u8At w.req.payload 1).testBit 0 && s.store.charterNew.isNone &&
      decide ((assocSet s.store.parts (u8At w.req.payload 0) (slice w.req.payload 4 512)).length < 8)) ∧
    (let s := stored (fun t => { t with parts := parts7 factoryCharter }) live
      let q := charterBytes factoryCharter
      (u8At q 1).testBit 0 = true ∧ s.store.charterNew = none ∧
        charterOk ((List.range 8).map (fun i => (assoc (assocSet s.store.parts (u8At q 0) (slice q 4 512)) i).getD [])).flatten = true) ∧
    (let s := stored (fun t => { t with parts := (List.range 8).map (fun i => (i, [])) }) live;
      8 ≤ (assocSet s.store.parts 0 []).length ∧
        charterOk ((List.range 8).map (fun i => (assoc (assocSet s.store.parts 0 []) i).getD [])).flatten = false) ∧
    Met 0x0D07 (fun s _ => !s.charterLocked && !charterOk { s with store := { s.store with charter := [] } }.store.charter) ∧
    (live.charterLocked = false ∧ charterOk live.store.charter = true ∧
      u32At live.store.charter 12 = u32At (slice factoryCharter 12 4) 0) := by
  refine ⟨by decide +kernel, by decide +kernel, by decide +kernel, by decide +kernel, by decide +kernel, by decide +kernel, by decide +kernel,
    by decide +kernel, by decide +kernel, by decide +kernel, fun x h => ?_,
    met { opcode := 0x0D03, payload := [0, 0, 0, 0, 1] } [] live (by decide +kernel), met { opcode := 0x0D05 } [] live rfl, fun op _ => ?_,
    met { opcode := 0x0D06 } [] live (by decide +kernel), met { opcode := 0x0D06, payload := [0, 1] } [] live (by decide +kernel),
    ⟨by rfl, rfl, ?_⟩, by decide +kernel, met { opcode := 0x0D07 } [] live (by decide +kernel), by decide +kernel, charterOk_factory,
    charterLock_example.symm⟩
  · rcases List.mem_pair.1 h with h | h <;> subst h
    · exact ⟨met { opcode := 0x0D02, payload := leBytes 8 5 } [] live (by decide +kernel),
        met { opcode := 0x0D02, payload := leBytes 8 5 } [] (parted 4 (fun p => { p with pages := [default], nextNo := 6 }) live) (by decide +kernel)⟩
    · exact ⟨met { opcode := 0x0D04, payload := leBytes 8 5 } [] live (by decide +kernel),
        met { opcode := 0x0D04, payload := leBytes 8 5 } [] (parted 5 (fun p => { p with pages := [default], nextNo := 6 }) live) (by decide +kernel)⟩
  · exact met { opcode := op } [] (stored (fun t => { t with lockB := true }) live) rfl
  · exact (congrArg charterOk (charterPage_example factoryCharter factoryCharter_length)).trans charterOk_factory

/-- The memory changed. -/
def remembered (f : Mem → Mem) (s : State) : State := { s with mem := f s.mem }

theorem test_witness_MemoryGuardsAndStrip :
    (bankState live 20 ≠ 0 ∧ bankState live 0 = 0 ∧ bankState live 8 = 0) ∧
    (let s := remembered (fun m => { m with banks := tmod m.banks 0 (fun b => { b with lastEvent := some now0 }) }) live;
      (tget s.mem.banks 0).lastEvent = some now0 ∧ s.now < now0 + oneSec ∧ (tget live.mem.banks 0).lastEvent = none) ∧
    (live.mem.borrowed = none ∧ live.powered 3 = true ∧ live.eave.depth ≤ 1 ∧ live.mem.run = none ∧
      (let s := remembered (fun m => { m with run := some { bank := 0 } }) live; s.mem.run = some { bank := 0 } ∧ stripIn s 0 0 = some 0) ∧
      (let s := setTo 14 0 0 1 live; s.nat 14 0 ≠ 0 ∧ clearUntil (s.mem.stripAt + lsbOfUs (s.nat 14 1)) s = true ∧
        walkNext (reach (s.mem.stripAt + lsbOfUs (s.nat 14 1)) s) = some (0, 0, false)) ∧ (setTo 14 0 0 0 live).nat 14 0 = 0) ∧
    (let s := remembered (fun m => { m with borrowed := some (23, 1023), stripAt := now0 }) live;
      s.mem.borrowed = some (23, 1023) ∧ clearUntil (s.mem.stripAt + 2 * stripHold) s = true ∧ s.mem.run = none ∧
        clearUntil (s.mem.stripAt + stripHold) s = true ∧ 0 < (tget s.mem.banks 23).spares ∧
        (tget (tmod s.mem.banks 23 (fun b => { b with spares := 0 })) 23).spares = 0 ∧
        (let t := remembered (fun m => { m with run := some { bank := 23, strip := 1023 } }) s;
          t.mem.run = some { bank := 23, strip := 1023 } ∧ ({ bank := 23, strip := 1023 } : StripRun).ticket < 128)) ∧
    (Met 0x0E03 (fun s _ => s.mem.run.isSome) ∧ Met 0x0E03 (fun s w => s.mem.run.isNone && bankState s (u8At w.req.payload 0) != 0) ∧
      Met 0x0E03 (fun s w => s.mem.run.isNone && bankState s (u8At w.req.payload 0) == 0) ∧
      Met 0x0E04 (fun _ w => u8At w.req.payload 0 == 7)) ∧
    (∀ m ∈ [0, 4, 5, 7], violation live { master := m, addr := 0, len := 4, access := 0, bad := false } = some 1) ∧
    (let s := remembered (fun m => { m with guards := tmod m.guards 1 (fun g => tmod g 0 (fun r => { r with base := 0x20280000, limit := 0x20300000, perm := 15 })) }) live;
      violation s { master := 1, addr := 0x20280000, len := 4, access := 0, bad := false } = none ∧
        violation s { master := 1, addr := 0x20280000, len := 4, access := 0, bad := true } = some 3) ∧
    (live.stew.running = true ∧ live.powered 2 = true) := by
  refine ⟨by decide +kernel, by decide +kernel, by decide +kernel, by decide +kernel,
    ⟨met { opcode := 0x0E03 } [] (remembered (fun m => { m with run := some {} }) live) rfl,
      met { opcode := 0x0E03, payload := [20] } [] live (by decide +kernel), met { opcode := 0x0E03, payload := [0] } [] live (by decide +kernel),
      met { opcode := 0x0E04, payload := [7] } [] live rfl⟩, by decide +kernel, by decide +kernel, by decide +kernel⟩

/-- The Safelight changed. -/
def safed (f : Safe → Safe) (s : State) : State := { s with safe := f s.safe }

/-- An image whose header is right, of 16 bytes of payload (R448). -/
def image1 : Bytes :=
  [0x50, 0x52, 0x53, 0x46] ++ leBytes 2 1 ++ zeros 2 ++ leBytes 4 (4 * 2 ^ 24) ++ zeros 4 ++ leBytes 4 16 ++ leBytes 2 0xFFFF ++ zeros 250

theorem headerOk_image1 : headerOk image1 = true := by
  have h : ∀ n : Fin 16, (u16At image1 20).testBit n.val = true := by decide +kernel
  unfold headerOk
  rw [show (u16At image1 20).testBit Config.dieRevision.toNat = true from h ⟨_, Config.dieRevision.isLt⟩]
  decide +kernel

/-- Image 1 in a state. -/
def imaged (i : Image) (s : State) : State := safed (fun f => { f with images := tmod f.images 1 (fun _ => i) }) s

theorem test_witness_SafelightAndUpdates :
    (mayConvert 12 live = false ∧ mayConvert 9 live = true ∧ mayConvert 15 live = true ∧
      (let s := setTo 15 0 9 1000 live; s.nat 15 0 9 ≠ 0 ∧ s.time.fineAt + lsbOfMs (s.nat 15 0 9) ≤ s.now ∧
        clearUntil (convertFrom 9 s + lsbOfMs (s.nat 15 0 9)) s = true) ∧
      (let s := setTo 15 0 3 1000 (safed (fun f => { f with sensors := tmod f.sensors 3 (fun x => { x with stamp := now0, count := 1, trig := some now0 }) }) live);
        mayConvert 3 s = true ∧ s.powered 2 = true ∧ (tget s.safe.sensors 3).trig = some now0 ∧ s.nat 15 0 3 ≠ 0 ∧ (tget s.safe.sensors 3).count ≠ 0 ∧
          clearUntil (convertFrom 3 s + lsbOfMs (s.nat 15 0 3)) s = true ∧ (tget live.safe.sensors 3).count = 0)) ∧
    (live.power.mode ≠ .stowed ∧
      (let s := inMode .stowed; s.power.mode = .stowed ∧ s.boot.phase = .run ∧
        clearUntil (max s.safe.stowAt (powered (fun p => { p with entry := now0 }) s).power.entry + lsbOfS (s.nat 15 4)) s = true)) ∧
    (live.safe.lidOpen = false ∧ live.safe.lidClosed = none ∧ live.safe.meshOpen = false ∧ (setTo 15 3 0 1 live).nat 15 3 = 1 ∧
      (setTo 15 3 0 0 live).nat 15 3 ≠ 1 ∧ (safed (fun f => { f with lidOpen := true }) live).safe.lidOpen = true) ∧
    (let s := safed (fun f => { f with sort := [(now0, {})] }) live;
      s.powered 2 = true ∧ s.safe.sort = [(now0, {})] ∧ (∀ z ∈ s.safe.sort, s.safe.moved ≤ z.2.key) ∧
        clearUntil (now0 + lsbOfMs (s.nat 15 5)) s = true ∧ s.safe.lostNow = 0) ∧
    (Met 0x0F03 (fun s w => decide ((tget s.vault.parts 1).endNo ≤ u64At w.req.payload 0)) ∧
      Met 0x0F03 (fun s w => decide ((tget s.vault.parts 1).oldest ≤ u64At w.req.payload 0) && decide (u64At w.req.payload 0 < (tget s.vault.parts 1).endNo))) ∧
    (∀ op ∈ [0x0F04, 0x0F05, 0x0F06, 0x0F08], Met op (fun s _ => s.safe.trialEnd.isSome && decide (s.safe.runs < 2)) ∧ Met op (fun s _ => s.safe.trialEnd.isNone)) ∧
    (Met 0x0F04 (fun s w => s.safe.trialEnd.isNone && u8At w.req.payload 0 == s.safe.runs) ∧
      Met 0x0F04 (fun s w => s.safe.trialEnd.isNone && u8At w.req.payload 0 != s.safe.runs && !loadable s (tget s.safe.images (u8At w.req.payload 0)))) ∧
    (Met 0x0F05 (fun s w => s.safe.trialEnd.isNone && decide (1 < (tget s.safe.images (u8At w.req.payload 0)).state)) ∧
      Met 0x0F05 (fun s w => s.safe.trialEnd.isNone && u8At w.req.payload 0 == 1 && decide ((tget s.safe.images 1).state ≤ 1) &&
        u32At w.req.payload 4 == (tget s.safe.images 1).bytes.length)) ∧
    (Met 0x0F06 (fun s w => s.safe.trialEnd.isNone && (tget s.safe.images (u8At w.req.payload 0)).state != 1) ∧
      (let s := imaged { state := 1, bytes := zeros 256 } live;
        (tget s.safe.images 1).state = 1 ∧ 256 ≤ (tget s.safe.images 1).bytes.length ∧ headerOk (tget s.safe.images 1).bytes = false)) ∧
    (headerOk image1 = true ∧ imageLength image1 ≤ image1.length ∧ 256 ≤ image1.length ∧
      (live.kslot (live.nat 15 7)).ver = none ∧
      (let s : State := { live with ciph := { live.ciph with slots := tmod live.ciph.slots (live.nat 15 7) (fun k =>
            { k with ver := some { key := zeros 32, length := 2, usage := 2 } }) } };
        (s.kslot (s.nat 15 7)).ver = some { key := zeros 32, length := 2, usage := 2 } ∧ (2 : Nat).testBit 1 = true ∧ (zeros 32).length = 32 ∧
          s.ciph.off = false ∧ s.grain.state ≠ .latched ∧ keyReady s (s.nat 15 7) = false ∧
          keyReady (grained (fun g => { g with state := .ready, seeds := [zeros 16, zeros 16] }) s) (s.nat 15 7) = true)) ∧
    (let s := setTo 15 9 0 1 (safed (fun f => { f with trialEnd := some (now0 + 5), released := now0 }) live);
      s.safe.trialEnd = some (now0 + 5) ∧ s.stew.running = true ∧ s.safe.runs < 2 ∧ clearUntil (now0 + 5) s = true ∧ s.nat 15 9 = 1 ∧
        (setTo 15 9 0 0 s).nat 15 9 ≠ 1 ∧ s.store.running = none ∧ s.host.heartbeatSeen = false ∧
        clearUntil (s.safe.released + 5 * oneSec) s = true ∧ live.safe.trialEnd = none ∧
        ({ live with boot := { live.boot with phase := .cold } } : State).boot.phase = .cold) := by
  refine ⟨by decide +kernel, by decide +kernel, by decide +kernel, by decide +kernel,
    ⟨met { opcode := 0x0F03, payload := leBytes 8 5 } [] live (by decide +kernel),
      met { opcode := 0x0F03, payload := leBytes 8 5 } [] (parted 1 (fun p => { p with pages := [default], nextNo := 6 }) live) (by decide +kernel)⟩,
    fun op _ => ⟨met { opcode := op } [] (safed (fun f => { f with trialEnd := some 0 }) live) rfl, met { opcode := op } [] live rfl⟩,
    ⟨met { opcode := 0x0F04, payload := [0] } [] live rfl, met { opcode := 0x0F04, payload := [1] } [] live (by decide +kernel)⟩,
    ⟨met { opcode := 0x0F05, payload := [0] } [] live (by decide +kernel), met { opcode := 0x0F05, payload := [1] } [] live (by decide +kernel)⟩,
    ⟨met { opcode := 0x0F06, payload := [0] } [] live (by decide +kernel), by decide +kernel⟩,
    ⟨headerOk_image1, by decide +kernel, by decide +kernel, by decide +kernel, by decide +kernel⟩, by decide +kernel⟩

/-- A start at 12 V with the V die. -/
def env0 (vbat : Nat) (vdie : Bool) : StartEnv :=
  { us := 126000, vbat, vhold := 12000, ign := false, doors := 0, strap := false, lidOpen := false, meshOpen := false, vdie, loads := (true, true) }

/-- A block in a phase of its start, with or without a valid contact sheet. -/
def phased (p : BootPhase) (valid : Bool) (s : State) : State := { s with boot := { s.boot with phase := p }, sheet := { s.sheet with valid } }

/-- A trial image in slot 0. -/
def onTrial (s : State) : State := safed (fun f => { f with images := tmod f.images 0 (fun i => { i with state := 3, boots := 2 }) }) s

theorem test_witness_StartsFaultsAndLosses :
    (∀ p ∈ [BootPhase.cold, .dark], let s := phased p false live; s.boot.phase = p ∧ s.sheet.valid = false ∧ (∀ k : Fin 128, (s.ticket k.val).state = .free)) ∧
    (let s := phased .warm true live; s.boot.phase = .warm ∧ s.sheet.valid = true) ∧
    ((env0 6499 true).vbat < 6500 ∧ 6500 ≤ (env0 6500 true).vbat ∧ (env0 6500 true).us ≤ 126000 ∧ (env0 6500 false).vdie = false ∧ (env0 6500 true).vdie = true ∧
      (env0 6500 true).loads.1 = true) ∧
    ((tget (onTrial live).safe.images 0).state = 3 ∧ (tget (onTrial live).safe.images 0).boots < 3) ∧
    (live.vault.alive = true ∧ ({ live with vault := { live.vault with alive := false } } : State).vault.alive = false) ∧
    ((tget live.safe.images 0).state = 4 ∧ live.rollback ≤ (tget live.safe.images 0).rollback ∧ (tget live.safe.images 1).state ≠ 3 ∧
      (tget live.safe.images 1).state ≠ 4 ∧ (tget live.safe.images 0).loads = true) ∧
    (∀ p ∈ [BootPhase.dark, .cold, .waitVbat, .warm, .run, .noImage], (phased p true live).boot.phase = p) ∧
    (live.stew.running = true ∧ live.eave.depth ≤ 2 ∧ ({ live with stew := {} } : State).stew.running = false) := by decide +kernel

/-! ### Ill-formed commands are refused -/

/-- A front-end measurement without channels. -/
def meas0 : LfMeas := { chans := [], scale := 255, limit := 0, static := 0 }
/-- A channel's measurement. -/
def chan (n : Nat) : LfChMeas := { ch := n, peak := 0, phase := 0, noCurrent := false, diff := 0 }

theorem test_wf_host_interface :
    (Instr.read 0 65536).wf = true ∧ (Instr.read 0 65537).wf = false ∧ (Instr.quadRead 0 65537).wf = false ∧
      (Instr.write 0 (List.replicate 65537 0) []).wf = false ∧ (Instr.write 0 [] [(65536, 0)]).wf = false ∧
      (Instr.quadWrite 0 (List.replicate 65537 0) []).wf = false ∧ (Instr.quadWrite 0 [] [(65536, 0)]).wf = false ∧
      (Instr.invalidInstruction 0x0B).wf = false ∧ (Instr.invalidInstruction 0x9F).wf = true ∧
      (Instr.frontRegisterWrite 0x16 0).wf = false := by decide +kernel

theorem test_wf_stamps :
    (Instr.captureEdge 0 true (2 ^ 64)).wf = false ∧ (Instr.syncEdge (2 ^ 64)).wf = false ∧ (Instr.msPulseEdge (2 ^ 64) 0).wf = false ∧
      (Instr.sensorCount { stamp := 2 ^ 64, bytes := [] }).wf = false ∧
      (Instr.frameReceived 0 { kind := 0, bytes := [], stamp := 1, lookup := 0, ok := true }).wf = false ∧
      (Instr.uhfPacketReceived { stamp := 2 ^ 64, rssi := 0, freqErr := 0, body := [], crcOk := true }).wf = false := by decide +kernel

theorem test_wf_telegrams :
    (Instr.answer 0 0 { tel := some { token := 2 ^ 32, slot := 0, flags := 0, seq := 0 } }).wf = false ∧
      (Instr.answer 0 0 { tel := none, meas := [{ scale := 256 }] }).wf = false ∧
      (Instr.button { token := 0, slot := 256, button := 0, counter := 0, mac := zeros 8 }).wf = false ∧
      (Instr.responseTelegram { token := 0, slot := 0, flags := 0, counter := 0, mac := zeros 8, meas := [0] }).wf = false ∧
      (Instr.learnAck { token := 0, slot := 0, counter := 0, mac := [] }).wf = false := by decide +kernel

theorem test_wf_measurements :
    (Instr.pollCycle [{ meas0 with chans := [chan 32] }]).wf = false ∧ (Instr.accessCycle [meas0, { meas0 with chans := [chan 1, chan 1] }]).wf = false ∧
      (Instr.learnRetry { meas0 with scale := 256 }).wf = false ∧ (Instr.lfSequenceEnd { meas0 with static := 1 }).wf = false ∧
      (Instr.lfOvercurrent 0 { peak := 65536, phase := 0 } meas0).wf = false ∧
      (Instr.lfOvercurrent 0 { peak := 0, phase := 65536 } meas0).wf = false ∧
      (Instr.vlfDisable { mv := 0, meas := { meas0 with limit := 32 } }).wf = false ∧
      (Instr.uhfCalDone true { band := 256, codes := 0 } 0).wf = false ∧
      (Instr.uhfCalDone true { band := 0, codes := 2 ^ 32 } 0).wf = false ∧ (Instr.rangingResponse { stamped := true, sts := [] }).wf = false ∧
      (Instr.fastExchangeRound { rem := 3, hits := [] }).wf = false ∧
      (Instr.fastExchangeRound { hits := [{ port := 4, ticks := 0, fine := 0, bit := true }] }).wf = false ∧
      (Instr.cableSegment { samples := List.replicate 32 0, retaken := 0 }).wf = false := by decide +kernel

theorem test_wf_rest :
    (Instr.t1CommandFrame 0 (zeros 14) (List.replicate 65536 0)).wf = false ∧ (Instr.t1CommandFrame 0 (zeros 13) []).wf = false ∧
      (Instr.t1ReleaseFrame 0 (zeros 14) (List.replicate 65536 0)).wf = false ∧ (Instr.t1ReleaseFrame 0 (zeros 13) []).wf = false ∧
      (Instr.cardReply 0 (List.replicate 65536 0)).wf = false ∧ (Instr.fLidMesh 3).wf = false ∧ (Instr.lidMesh 3).wf = false ∧
      (Instr.checkMismatch 0 256 0).wf = false ∧ (Instr.healthFailure 4 0 0 0).wf = false ∧ (Instr.parameterScan [(0, 0)] []).wf = false ∧
      (Instr.vaultScan [{ part := 0, page := 0, errors := #v[8529, 0, 0, 0] }]).wf = false ∧
      (Instr.vaultScan [{ part := 0, page := 0, errors := #v[8528, 0, 0, 8912] }]).wf = true ∧
      (Instr.guardViolation { master := 0, addr := 0, len := 0, access := 0, bad := false }).wf = false ∧
      (Instr.safelightRestart 2 0).wf = false ∧ (Instr.grainConsumerWaitExpire 4).wf = false ∧
      (Instr.coldStart { env0 6500 true with doors := 16 }).wf = false := by decide +kernel

/-! ### Numbers that the spec gives -/

/-- The ASCII string "123456789". -/
def digits : Bytes := [0x31, 0x32, 0x33, 0x34, 0x35, 0x36, 0x37, 0x38, 0x39]

/-- R50. -/
theorem test_crc16 : crc16 digits = 0x29B1 := by decide +kernel
/-- 06_access_immobiliser.md, R164. -/
theorem test_crc8 : crc8 digits = 0x4B := by decide +kernel
/-- R239. -/
theorem test_crc32 : crc32 digits = 0xCBF43926 := by decide +kernel
/-- 00_scope.md, R12. -/
theorem test_seconds : lsbOfS 790000000 = 0x0BC59C6000000000 := by decide
/-- R398: 28.2 mJ at 220 µF and 24 V. -/
theorem test_usable_energy : usable 220 24000 / 100 = 281 ∧ usable 220 24000 = 28160 := by decide
/-- 09_rangefinder.md, two verdicts: L is 20,014 ps for 300 cm. -/
theorem test_limit : limitPs 300 = 20014 := by decide
/-- 09_rangefinder.md, two verdicts: t[0] and t[1] of the genuine token, in quarter picoseconds; no reply has no time. -/
theorem test_round_times :
    let x : Sess := { txPort := 0, delays := [2150, 2400, 0, 0] }
    roundTime x 128 { raw := some 453, port := 1 } = some 22425 ∧ roundTime x 128 { raw := some 451, port := 1 } = some 22175 ∧
      roundTime x 128 { raw := some 4672, port := 1 } = some (4 * 137450) ∧ roundTime x 128 { raw := none } = none := by decide +kernel
/-- 09_rangefinder.md, two verdicts: 5,606.25 ps are 84 cm. -/
theorem test_distance : distanceMm 22425 = 840 := by decide
/-- 09_rangefinder.md, a broken rear camera harness: crossings at 2,082.4 and 4,880.3 LSB with ZERO 77 and VF 660. -/
theorem test_cable_distance :
    cableMm 660 77 { kind := 4, rho := 0, num := 20824, den := 10, sample := 189 } = 6200 ∧
      cableMm 660 77 { kind := 1, rho := 0, num := 48803, den := 10, sample := 443 } = 14850 := by decide
/-- 08_subghz_radio.md, a held transmission: FORMAT 0 with a 10-byte body at 50 kbit/s is 3,360 µs on air. -/
theorem test_airtime : airtimeUs (leBytes 4 433920000 ++ leBytes 4 50000 ++ zeros 10 ++ leBytes 2 10 ++ zeros 14) = 3360 := by decide +kernel
/-- 10_fixer_metrology.md, the first pulses: 14 periods in 0.926 s at K 8,000 are 6.80 km/h, ring 7. -/
theorem test_speed : speedOf 14 8000 (926 * 2 ^ 30 / 1000) = 680 ∧ ({} : Fixer).ringByte (some 680) = 7 := by decide +kernel
/-- 16_safelight.md, an over-the-air update: a payload of 1,310,720 bytes makes an image of 1,310,976. -/
theorem test_image_length : imageLength (zeros 16 ++ leBytes 4 1310720) = 1310976 := by decide +kernel
/-- 14_storage.md, a cut reservation: HIGH 25 with 127 units is 3,327. -/
theorem test_counter_value :
    ({ counters := [{ key := 0x1000, high := 25, units := 127 }] } : Store).counterValue 0x1000 = 3327 := by decide
/-- 04_modes_power_wake.md, the first wakes: the eighth measurement makes the L4 entry 2,533 µs. -/
theorem test_wake_entry :
    let s : State := { live with eave := { live.eave with
      rows := tmod live.eave.rows 3 (fun r => { r with entry := 3000, samples := [2244, 2207, 2230, 2251, 2198, 2236, 2214] }) } };
    ((measure 4 2219 false s).latency 4).entry = 2533 := by decide +kernel

/-! ### Single steps -/

/-- The state that an outcome holds. -/
def after (o : Host.Outcome State Fault Refusal) : State := match o with
  | .next t => t
  | _ => {}

/-- 03_time_base.md, shortening a running period: a fire of shutter 5 moves its compare by the period. -/
theorem test_shutter_fire :
    let s := shutAs 5 { state := .periodic, active := now0 + 8388608, period := 8388608, event := true } live
    let t := after (exec (.shutterFire 5) s);
    (t.shut 5).active = now0 + 2 * 8388608 ∧ (t.shut 5).fireCount = 1 ∧ (t.shut 5).lastFire = now0 + 8388608 := by decide +kernel

/-- R82: a tick that would pass the last epoch value is a fault. -/
theorem test_last_epoch : (match step { live with time := { live.time with epoch := 2 ^ 64 - 1 } } with
    | .fault .epochEnd => true
    | _ => false) = true := by decide +kernel

/-- The command in front runs with the queue's rest. -/
theorem test_step_front : (after (step { live with pending := [.readStatus, .heartbeat] })).pending = [.heartbeat] := by decide +kernel

/-- No row of the table gives bits. -/
theorem test_no_word (n w : Nat) : decodeTableWord n w = none := rfl

/-- R95: TIME.SET moves the epoch and ends UNSET. -/
theorem test_time_set :
    let s := give { opcode := 0x0202, payload := leBytes 8 (now0 + 5) ++ zeros 8 } [] (timed (fun t => { t with unset := true }) live)
    let t := after (exec (.timeSet 0) s);
    t.now = now0 + 5 ∧ t.time.unset = false ∧ (t.ticket 0).state = .completed := by decide +kernel

/-- R246: RF_GNT is what the wire says. -/
theorem test_rf_gnt : (after (exec (.rfGntChange true) live)).uhf.gnt = true := by decide +kernel

/-- R406: a locked charter refuses a lock. -/
theorem test_charter_locked :
    let t := after (exec (.storeCharterLock 0) (give { opcode := 0x0D07 } [] (stored (fun x => { x with lockA := true }) live)));
    (t.ticket 0).status = St.charterLocked ∧ t.store.lockB = false := by decide +kernel

/-- R407, R410: the first page of CAPTURE stands on the first of its blocks. -/
theorem test_first_page_block :
    let t := after (exec .storeOperationDone (parted 4 (fun p => { p with buffer := [zeros 32] })
      (stored (fun x => { x with running := some { act := .page 4 } }) live)));
    (tget t.vault.parts 4).map = [8192] ∧ (tget t.vault.parts 4).pages.map (·.block) = [8192] := by decide +kernel

/-- R414: a refreshed block goes to the first spare, is erased and comes back as a spare. -/
theorem test_refresh_block :
    let t := after (exec .storeOperationDone (parted 4 (fun p => { p with map := [8192], pages := [{ block := 8192 }], programmed := 1 })
      (stored (fun x => { x with running := some { act := .relocate 4 8192 } }) live)));
    (tget t.vault.parts 4).pages.map (·.block) = [16384] ∧ t.vault.spareBack = [8192] ∧ t.vault.wearOf 8192 = 1 ∧
      t.vault.journal = [(8192, 16384)] := by decide +kernel

/-- R470: the contact sheet begins with MAGIC and FORMAT. -/
theorem test_sheet_header : ({ valid := true } : Sheet).header.take 8 = [0x50, 0x52, 0x43, 0x53, 1, 0, 0, 0] := by decide +kernel

/-- R430: the Test strip borrows strip 0 of bank 0 first. -/
theorem test_strip_borrows : (after (exec (.testStrip none) (setTo 14 0 0 1 live))).mem.borrowed = some (0, 0) := by decide +kernel

/-- R373, R376: the first word of a ready Grain is a seed. -/
theorem test_grain_seed : (after (exec (.grainWord raw4) (grained (fun g => { g with state := .ready, since := now0 }) live))).grain.seeds.length = 1 := by decide +kernel

/-- R331: a PAUSE time of 0 ends an earlier one. -/
theorem test_pause_zero :
    ((after (exec (.pauseReceived 18 0) (portAs 18 { state := .up, pauseUntil := some (now0 + 5) } live))).port 18).pauseUntil = none := by
  decide +kernel

/-- R309: bus-off counts once and holds the port. -/
theorem test_bus_off :
    let t := after (exec (.canBusOff 0) (portAs 0 { state := .up, tec := 248 } live));
    (t.port 0).busOff = true ∧ tget (t.port 0).counters 14 = 1 ∧ ((after (exec (.canBusOff 0) t)).port 0).counters = (t.port 0).counters := by
  decide +kernel

/-- R216: VLF of 7.9 V disables the drivers, one of 8 V does not. -/
theorem test_vlf :
    (after (exec (.vlfDisable { mv := 7999 }) (burstable live))).lf.enabled = false ∧ (after (exec (.vlfDisable { mv := 8000 }) (burstable live))).lf.enabled = true := by
  decide +kernel

/-- R446: the lid opens once. -/
theorem test_lid : (after (exec (.lidMesh 0) live)).safe.lidOpen = true ∧ (after (exec (.lidMesh 2) live)).safe.meshOpen = true := by decide +kernel

/-- R465: a supply of 5.5 V is no fault, one below is, and the M die waits for VBAT. -/
theorem test_supply_fault :
    (after (exec (.supplyFault 5500 12000) live)).boot.phase = .run ∧ (after (exec (.supplyFault 5499 12000) live)).boot.phase = .waitVbat := by
  decide +kernel

/-! ### Statements about every step, and the reads -/

theorem test_witness_StepRunsTheFrontCommand :
    (∃ (c : Instr) (rest : List Instr) (s : State), s.pending = c :: rest ∧ (after (step s)).pending = rest ∧ rest ≠ []) :=
  ⟨.readStatus, [.heartbeat], { live with pending := [.readStatus, .heartbeat] }, rfl, by decide +kernel, by decide⟩

theorem test_witness_StepsKeepTheHostWindow : ∃ s t : State, HostOk s ∧ s.host.evtHead = 511 ∧ step s = .next t :=
  ⟨{ live with host := { live.host with evtHead := 511, evtTail := 511 }, pending := [.readStatus] }, _, by decide +kernel, rfl, rfl⟩

theorem test_witness_CharterLockIsPermanent : ∃ s t : State, step s = .next t ∧ s.store.lockA = true ∧ s.store.lockB = true :=
  ⟨{ live with store := { live.store with lockA := true, lockB := true }, pending := [.readStatus] }, _, rfl, rfl, rfl⟩

theorem test_witness_LatchesAndCountsNeverGoBack : ∃ s t : State, step s = .next t ∧ s.store.meshBroken = true :=
  ⟨{ live with store := { live.store with meshBroken := true }, pending := [.readStatus] }, _, rfl, rfl⟩

theorem test_witness_StepsKeepTheSortBuffer : ∃ s t : State, SortOk s ∧ s.safe.sort.length = 2048 ∧ step s = .next t :=
  ⟨{ live with safe := { live.safe with sort := List.replicate 2048 (0, {}) }, pending := [.readStatus] }, _,
    Nat.le_of_eq List.length_replicate, List.length_replicate, rfl⟩

theorem test_witness_FrontRegisterWrites :
    live.isReady = true ∧ live.eave.depth = 0 ∧ (0x0C : Byte) ∉ [(0x20 : Byte), 0x28, 0x30, 0x40, 0x44, 0x48] := by decide +kernel

theorem test_witness_NodeReadsAnswer :
    ∀ op ∈ [0x0101, 0x0102, 0x0110, 0x0111, 0x0112], ∃ s w, startable 0 op s = some w :=
  fun op _ => ⟨_, _, startable_give { opcode := op } [] {}⟩

theorem test_witness_StatusReadsAnswer :
    ∀ op ∈ [0x0201, 0x0401, 0x0403, 0x0404, 0x0307, 0x0501, 0x0701, 0x0705, 0x0801, 0x0A01, 0x0B01, 0x0C01, 0x0D01, 0x0E01, 0x0E02,
      0x0F01, 0x0F07], ∃ s w, startable 0 op s = some w :=
  fun op _ => ⟨_, _, startable_give { opcode := op } [] {}⟩

theorem test_witness_TileReadsAnswer :
    ∀ op ∈ [0x0212, 0x0502, 0x0601, 0x0802, 0x0A02, 0x0A03, 0x0B02, 0x0F02], ∃ s w, startable 0 op s = some w ∧ w.walk ≠ [] :=
  fun op _ => ⟨_, _, startable_give { opcode := op } [{ kind := 0, depth := 0, node := 0x10 }] {}, by simp⟩

/-- In reset every ball of R486 rests, and HOST_IRQ_N is asserted (R42, R486). -/
theorem test_balls_in_reset : ballState State.reset (.lf 3) = .pulledLow ∧ ballState State.reset .busTx = .pulledHigh ∧
    ballState State.reset .rangeAnt = .shunted ∧ ballState State.reset .hostIrq = .driven false ∧
    ballState State.reset (.card 1) = .driven false := by decide

/-- With PD7 LF on an idle channel holds both low-side switches on (R204). -/
theorem test_idle_channel_damps : ballState live (.lf 3) = .driven false := by decide

end Sys2Proof.Tests
end

section
/-! What is claimed of every command of the block (R16, R17). -/

namespace Sys2Proof.Machine

/-- Every arm of the dispatch is the meaning of one command, and that meaning is `.next` of a state whatever its conditions
say: they choose between states, inside `.next`, and never between outcomes. -/
theorem exec_answers_next (c : Instr) (s : State) : ∃ t, exec c s = .next t := by
  cases c with
  | _ => exact ⟨_, rfl⟩

/-- Settles O2: every command answers a next state (`exec_answers_next`), and the queue is part of what every next state
keeps (`exec_keep`). -/
theorem everyCommandHasANextState : Obligations.EveryCommandHasANextState := by
  unfold Obligations.EveryCommandHasANextState
  intro c s
  obtain ⟨t, ht⟩ := exec_answers_next c s
  have hkeep : Keep s t := (exec_keep c s).next t ht
  exact ⟨t, ht, hkeep.pending⟩

end Sys2Proof.Machine
end

section
/-! SUPPORT. What leaves the host link's own fields, what the M die has learned over the lane and the log's records alone:
events, the storage queue, the router, requests on the lane and the completion of commands. -/

namespace Sys2Proof.Machine

/-! ### Events -/

/-- Only what events change of a host link: the ring with its counts, INT_STATUS, the records raised before the Steward runs
and the event batch (R59–R61, R66). -/
def HostLink.withRing (h g : HostLink) : HostLink :=
  { h with window := g.window, evtHead := g.evtHead, evtLost := g.evtLost, firstLost := g.firstLost, ringSince := g.ringSince,
           intStatus := g.intStatus, early := g.early, t1Events := g.t1Events }

theorem HostLink.ringWrite_eq_withRing (h : HostLink) (n c : Nat) (r : EvRec) :
    h.ringWrite n c r = h.withRing (h.ringWrite n c r) := by
  unfold HostLink.ringWrite
  generalize (if r.code = 0x0101 then 0 else h.overtaken n r.key) = k
  dsimp only
  generalize Memory.writeBytes (h.ringShift k) (ringOff ((h.evtHead + 512 - k) % 512)) r.bytes = m
  generalize (h.evtHead + 1) % 512 = i
  split <;> rfl

theorem HostLink.take_eq_withRing (h : HostLink) (p i : Bool) (n c : Nat) (r : EvRec) :
    h.take p i n c r = h.withRing (h.take p i n c r) := by
  unfold HostLink.take HostLink.ringPut
  split
  · split
    · split
      · exact h.ringWrite_eq_withRing n c r
      · rfl
    · rfl
  · rfl

theorem putEvent_host (r : EvRec) (s : State) : (putEvent r s).host = s.host.withRing (putEvent r s).host := by
  have h := s.host.take_eq_withRing s.stew.running ((s.nat 1 5).testBit (r.code / 256)) s.now (s.nat 1 6) r
  unfold putEvent
  dsimp only
  split
  · exact congrArg (fun g : HostLink => { g with t1Events := g.t1Events ++ [r] }) h
  · exact h

/-- Besides the log and the host link a record touches nothing. -/
theorem putEvent_frame (r : EvRec) (s : State) : putEvent r s = withEvents s (putEvent r s) := by
  unfold putEvent
  dsimp only
  split <;> rfl

/-- An event touches the sequence of its source, the log and the host link alone. -/
theorem emit_frame (src code node tk : Nat) (d : Bytes) (s : State) :
    emit src code d node tk s = withEvents s (emit src code d node tk s) := by
  rw [emit, emitAs, putEvent_frame]
  rfl

/-- The log takes a record at its end, or counts it as lost (R447, R448). -/
theorem putEvent_sort (r : EvRec) (s : State) :
    (putEvent r s).safe.sort = if s.safe.sort.length < 2048 then s.safe.sort ++ [(s.now, r)] else s.safe.sort := by
  have h : (putEvent r s).safe = s.safe.log s.now r := by unfold putEvent; dsimp only; split <;> rfl
  rw [h]
  unfold Safe.log
  split <;> rfl

/-- A record that finds room is in the log. -/
theorem putEvent_logged {r : EvRec} {s : State} (h : s.safe.sort.length < 2048) : (s.now, r) ∈ (putEvent r s).safe.sort := by
  simp [putEvent_sort, h]

/-- An event is logged under the present stamp. -/
theorem emit_logged (src code node tk : Nat) (d : Bytes) (s : State) :
    Logged s.now code node tk d s (emit src code d node tk s) := by
  intro h
  exact ⟨_, putEvent_logged (s := s.modEv _) h, rfl, rfl, rfl, rfl, rfl⟩

/-! ### What is left alone -/

/-- Only what requests and messages change of the M die's side of the lane: neither whether the lane is up nor what the last
RESPONSE reported. -/
def Lane.withTraffic (l m : Lane) : Lane :=
  { l with seq := m.seq, out := m.out, toF := m.toF, toM := m.toM, edges := m.edges, again := m.again, hold := m.hold,
           owedToken := m.owedToken }

/-- From `s` to `t` the host link changes by events only, the lane by its traffic only, and no record leaves the log. -/
structure Undisturbed (s t : State) : Prop where
  host : t.host = s.host.withRing t.host
  lane : t.lane = s.lane.withTraffic t.lane
  log : ∀ e ∈ s.safe.sort, e ∈ t.safe.sort

theorem Undisturbed.refl (s : State) : Undisturbed s s := ⟨rfl, rfl, fun _ => id⟩

theorem Undisturbed.trans {r s t : State} (h : Undisturbed r s) (k : Undisturbed s t) : Undisturbed r t where
  host := k.host.trans (congrArg (·.withRing t.host) h.host)
  lane := k.lane.trans (congrArg (·.withTraffic t.lane) h.lane)
  log e he := k.log e (h.log e he)

/-- A change elsewhere. -/
theorem Undisturbed.elsewhere {r s t : State} (h : Undisturbed r s) (hh : t.host = s.host) (hl : t.lane = s.lane)
    (hs : t.safe.sort = s.safe.sort) : Undisturbed r t :=
  h.trans ⟨by rw [hh]; rfl, by rw [hl]; rfl, fun e he => by rw [hs]; exact he⟩

/-- Traffic on the lane and a change elsewhere. -/
theorem Undisturbed.traffic {r s t : State} (h : Undisturbed r s) (hh : t.host = s.host)
    (hl : t.lane = s.lane.withTraffic t.lane) (hs : t.safe.sort = s.safe.sort) : Undisturbed r t :=
  h.trans ⟨by rw [hh]; rfl, hl, fun e he => by rw [hs]; exact he⟩

theorem Undisturbed.ite {r s t : State} {c : Prop} [Decidable c] (hs : Undisturbed r s) (ht : Undisturbed r t) :
    Undisturbed r (if c then s else t) := by split <;> assumption

theorem Undisturbed.foldl {r : State} {α : Type} {f : State → α → State}
    (hf : ∀ s x, Undisturbed r s → Undisturbed r (f s x)) :
    ∀ (l : List α) {s : State}, Undisturbed r s → Undisturbed r (l.foldl f s)
  | [], _, h => h
  | x :: xs, _, h => Undisturbed.foldl hf xs (hf _ x h)

variable {r s : State}

theorem Undisturbed.putEvent (e : EvRec) (h : Undisturbed r s) : Undisturbed r (putEvent e s) :=
  h.trans ⟨putEvent_host e s, by rw [putEvent_lane]; rfl, fun x hx => by
    rw [putEvent_sort]; split
    · exact List.mem_append_left _ hx
    · exact hx⟩

theorem Undisturbed.emitAs (q st src code n k : Nat) (d : Bytes) (h : Undisturbed r s) :
    Undisturbed r (emitAs q st src code n k d s) :=
  (h.elsewhere (t := s.modEv _) rfl rfl rfl).putEvent _

theorem Undisturbed.emit (src code n k : Nat) (d : Bytes) (h : Undisturbed r s) : Undisturbed r (emit src code d n k s) :=
  h.emitAs ..

/-! ### The storage queue -/

theorem Undisturbed.pump (h : Undisturbed r s) : Undisturbed r (pump s) := by
  unfold Machine.pump
  split
  · exact h
  · split
    · exact h
    · dsimp only
      split
      · split
        · exact (h.elsewhere (t := s.modStore _) rfl rfl rfl).emit ..
        · exact h.elsewhere rfl rfl rfl
      · split
        · exact h
        · exact (h.elsewhere (t := s.modStore _) rfl rfl rfl).emit ..

theorem Undisturbed.enqueue (os : List StoreOp) (h : Undisturbed r s) : Undisturbed r (enqueue os s) :=
  (h.elsewhere (t := requestAll [9] (s.modStore _)) rfl rfl rfl).pump

theorem Undisturbed.putRecord (k : Nat) (d : Bytes) (a : After) (h : Undisturbed r s) : Undisturbed r (putRecord k d a s) :=
  .ite h (h.enqueue _)

theorem Undisturbed.bumpCounter (k : Nat) (a : After) (h : Undisturbed r s) : Undisturbed r (bumpCounter k a s) :=
  .enqueue _ (.ite h (h.elsewhere rfl rfl rfl))

@[simp] theorem pump_stew (s : State) : (pump s).stew = s.stew := by
  unfold pump
  split
  · rfl
  · split
    · rfl
    · simp only [apply_ite State.stew, emit_stew, State.modStore_stew, ite_self]

@[simp] theorem enqueue_stew (os : List StoreOp) (s : State) : (enqueue os s).stew = s.stew := by simp [enqueue]

@[simp] theorem bumpCounter_stew (k : Nat) (a : After) (s : State) : (bumpCounter k a s).stew = s.stew := by
  unfold bumpCounter
  split <;> simp

/-! ### Wakes and domains -/

/-- A wake that begins changes Eave alone. -/
theorem beginWake_frame (e : Bool) (s : State) : beginWake e s = { s with eave := (beginWake e s).eave } := by
  unfold beginWake
  split <;> rfl

/-- Powering a domain touches neither the host link nor the tickets. -/
theorem power_frame (ds : List Nat) (s : State) :
    power ds s = { s with power := (power ds s).power, eave := (power ds s).eave } := by
  have h := beginWake_frame true (requestAll (ds.filter s.allows) s)
  exact h.trans (by rw [show power ds s = _ from h]; rfl)

end Sys2Proof.Machine
end

section
/-! SUPPORT. What the router, requests on the lane, the exposure engine and the completion of commands leave alone of the host
link, the lane and the log. -/

namespace Sys2Proof.Machine

/-! ### Requests on the lane -/

theorem toMaster_frame (m : LaneMsg) (s : State) :
    toMaster m s = { s with lane := { s.lane with toM := (toMaster m s).lane.toM } } := by
  unfold toMaster
  split <;> rfl

/-- A request changes the lane's two directions and nothing else. -/
theorem deliver_frame (q : Nat) (r : LaneReq) (s : State) : deliver q r s =
    { s with lane := { s.lane with toF := (deliver q r s).lane.toF, toM := (deliver q r s).lane.toM } } := by
  unfold deliver
  split
  · rfl
  · split
    · unfold answer
      rw [toMaster_frame]
    · rfl

/-- A request goes out under the next lane sequence number and waits for its RESPONSE; besides the lane nothing changes. -/
theorem laneSend_frame (r : LaneReq) (u : LaneUser) (s : State) : laneSend r u s =
    { s with lane := { s.lane with
        seq := wrapAdd 32 s.lane.seq 1, out := s.lane.out ++ [{ seq := s.lane.seq, req := r, user := u, sent := s.now }]
        toF := (laneSend r u s).lane.toF, toM := (laneSend r u s).lane.toM } } :=
  deliver_frame s.lane.seq r (s.modLane _)

@[simp] theorem laneSend_stew (r : LaneReq) (u : LaneUser) (s : State) : (laneSend r u s).stew = s.stew := by
  rw [laneSend_frame]

@[simp] theorem laneSend_time (r : LaneReq) (u : LaneUser) (s : State) : (laneSend r u s).time = s.time := by
  rw [laneSend_frame]

@[simp] theorem laneSend_out (r : LaneReq) (u : LaneUser) (s : State) :
    (laneSend r u s).lane.out = s.lane.out ++ [{ seq := s.lane.seq, req := r, user := u, sent := s.now }] := by
  rw [laneSend_frame]

@[simp] theorem laneSend_edges (r : LaneReq) (u : LaneUser) (s : State) : (laneSend r u s).lane.edges = s.lane.edges := by
  rw [laneSend_frame]

@[simp] theorem laneSend_hold (r : LaneReq) (u : LaneUser) (s : State) : (laneSend r u s).lane.hold = s.lane.hold := by
  rw [laneSend_frame]

@[simp] theorem sendSample_stew (s : State) : (sendSample s).stew = s.stew :=
  (State.modEave_stew _ _).trans (laneSend_stew ..)

/-- EPOCH_SAMPLE goes out with its sync edge, and PD3 CORE is held awake for its RESPONSE (R20, R273). -/
theorem sendSample_spec (s : State) :
    { seq := s.lane.seq, req := .epochSample s.now s.time.unset (tailSeq s) (confirmKey s), sent := s.now } ∈
        (sendSample s).lane.out ∧
      (sendSample s).lane.hold = true ∧ (sendSample s).lane.edges = s.lane.edges ++ [.sample s.lane.seq] ∧
      (sendSample s).eave.sampleAt = s.now + lsbOfS (if s.lane.up then 60 else 1) ∧ (sendSample s).now = s.now := by
  unfold sendSample
  dsimp only
  refine ⟨?_, ?_, ?_, ?_, ?_⟩
  · rw [State.modEave_lane, laneSend_out]
    exact List.mem_append_right _ (List.mem_singleton.mpr rfl)
  · rw [State.modEave_lane, laneSend_hold, State.modLane_lane]
  · rw [State.modEave_lane, laneSend_edges, State.modLane_lane]
  · rw [State.modEave_eave]
  · rw [State.now, State.modEave_time, laneSend_time, State.modLane_time, State.now]

variable {r s : State}

theorem Undisturbed.laneSend (q : LaneReq) (u : LaneUser) (h : Undisturbed r s) : Undisturbed r (laneSend q u s) :=
  h.traffic (by rw [laneSend_frame]) (by rw [laneSend_frame]; rfl) (by rw [laneSend_frame])

theorem Undisturbed.sendSample (h : Undisturbed r s) : Undisturbed r (sendSample s) := by
  have hedge : Undisturbed r (s.modLane (fun l => { l with edges := l.edges ++ [.sample l.seq], hold := true })) :=
    h.traffic rfl rfl rfl
  exact (hedge.laneSend (.epochSample s.now s.time.unset (tailSeq s) (confirmKey s)) .none).elsewhere
    (State.modEave_host _ _) (State.modEave_lane _ _) (congrArg Safe.sort (State.modEave_safe _ _))

theorem Undisturbed.oweToken (k : Option (Nat × Nat)) (h : Undisturbed r s) :
    Undisturbed r (s.modLane (fun l => { l with owedToken := k })) := h.traffic rfl rfl rfl

theorem Undisturbed.sendAgain (l : List (LaneReq × LaneUser)) (h : Undisturbed r s) : Undisturbed r (sendAgain l s) :=
  .foldl (fun _ a h => h.laneSend a.1 a.2) l h

@[simp] theorem sendAgain_stew (l : List (LaneReq × LaneUser)) (s : State) : (sendAgain l s).stew = s.stew := by
  unfold sendAgain
  induction l generalizing s with
  | nil => rfl
  | cons a l ih => exact (ih _).trans (laneSend_stew ..)

/-! ### The router and the firmware shutters -/

theorem Undisturbed.advance (k : Nat) (h : Undisturbed r s) : Undisturbed r (advance k s) :=
  h.elsewhere (by simp) (by simp) (by simp)

theorem Undisturbed.captureEdge (n st : Nat) (rising coarse : Bool) (h : Undisturbed r s) :
    Undisturbed r (captureEdge n rising st coarse s) := by
  have hedge : Undisturbed r (recordEdge n rising st coarse s) := h.elsewhere rfl rfl rfl
  exact .ite (hedge.emitAs ..) hedge

theorem Undisturbed.dmaTrigger (n st : Nat) (coarse : Bool) (h : Undisturbed r s) :
    Undisturbed r (dmaTrigger n st coarse s) :=
  .ite h (.ite (h.elsewhere rfl rfl rfl)
    (.ite (.emit _ _ _ _ _ (h.elsewhere (t := s.modMem _) rfl rfl rfl)) (h.elsewhere rfl rfl rfl)))

theorem Undisturbed.fireOnce (n f : Nat) (late coarse further : Bool) (h : Undisturbed r s) :
    Undisturbed r (fireOnce n f late coarse further s) :=
  .ite (.emitAs _ _ _ _ _ _ _ (h.elsewhere (t := raiseRoute _ f coarse (s.modShut n _)) rfl rfl rfl)) (h.elsewhere rfl rfl rfl)

theorem Undisturbed.arrive (d st : Nat) (coarse : Bool) (h : Undisturbed r s) : Undisturbed r (arrive d st coarse s) := by
  have hload (f : Shutter → Shutter) : Undisturbed r (s.modShut (d - 1) f) := h.elsewhere rfl rfl rfl
  have hedge : Undisturbed r (raiseRoute d st coarse (Machine.captureEdge (d - 0x11) true st coarse s)) :=
    (h.captureEdge (d - 0x11) st true coarse).elsewhere rfl rfl rfl
  exact .ite (.ite (.ite ((hload _).fireOnce ..) (hload _)) (hload _))
    (.ite (.ite hedge h) (.ite (h.elsewhere rfl rfl rfl) (.ite (h.dmaTrigger ..) h)))

theorem Undisturbed.routeWave (evs : List (Nat × Nat × Bool)) (h : Undisturbed r s) : Undisturbed r (routeWave evs s) :=
  .foldl (fun _ _ h => .foldl (fun _ e h => h.arrive _ e.2.1 e.2.2) _ h) _ h

theorem Undisturbed.runRoutes : ∀ (k : Nat) {s : State}, Undisturbed r s → Undisturbed r (runRoutes k s)
  | 0, _, h => h
  | k + 1, s, h => by
    unfold Machine.runRoutes
    split
    · exact h
    · exact .runRoutes k (.routeWave _ (h.elsewhere rfl rfl rfl))

theorem Undisturbed.fireRouted (n f : Nat) (late : Bool) (h : Undisturbed r s) : Undisturbed r (fireRouted n f late s) := by
  have honce : Undisturbed r (Machine.fireOnce n f late s.coarse false s) := h.fireOnce ..
  exact .runRoutes _ (.ite (.fireOnce _ _ _ _ _ (honce.advance _)) honce)

theorem Undisturbed.armFirm (n c p : Nat) (h : Undisturbed r s) : Undisturbed r (armFirm n c p s) := by
  have hload : Undisturbed r (s.modShut n (fun x => x.load c p)) := h.elsewhere rfl rfl rfl
  exact .ite ((hload.fireRouted n s.now true).elsewhere rfl rfl rfl) hload

/-! ### Modes -/

/-- A trigger touches the modes, the domains and Eave alone. -/
theorem trigger_frame (c : Nat) (s : State) :
    trigger c s = { s with power := (trigger c s).power, eave := (trigger c s).eave } := by
  have hbegin (m : Mode) (u : State) : beginTransition c m u =
      { u with power := (beginTransition c m u).power, eave := (beginTransition c m u).eave } := by
    unfold beginTransition
    rw [beginWake_frame]
    rfl
  unfold trigger
  split
  · split
    · exact hbegin _ _
    · rfl
  · split
    · exact hbegin _ _
    · rfl

/-! ### The exposure engine -/

theorem Undisturbed.sendRollback (g : Nat) (h : Undisturbed r s) : Undisturbed r (sendRollback g s) := by
  have howed : Undisturbed r (s.modSheet (fun h => { h with owed := .rollback, owedGen := g })) := h.elsewhere rfl rfl rfl
  exact .ite (howed.laneSend _ _) howed

theorem Undisturbed.modExpo (f : Expo → Expo) (h : Undisturbed r s) : Undisturbed r (s.modExpo f) := h.elsewhere rfl rfl rfl

theorem Undisturbed.modSess (n : Nat) (f : Session → Session) (h : Undisturbed r s) : Undisturbed r (s.modSess n f) :=
  h.modExpo _

theorem Undisturbed.complete (tk st : Nat) (d : Bytes) (h : Undisturbed r s) : Undisturbed r (complete tk st d s) :=
  h.elsewhere rfl rfl rfl

theorem Undisturbed.voidSet (no cause : Nat) (h : Undisturbed r s) : Undisturbed r (voidSet no cause s) :=
  .putRecord _ _ _ (h.elsewhere rfl rfl rfl)

theorem Undisturbed.endPending (st fx : Nat) (a : SessState) (h : Undisturbed r s) : Undisturbed r (endPending st fx a s) := by
  unfold Machine.endPending
  split
  · exact h
  · next p _ =>
    have hdrop : Undisturbed r (dropUser s) := h.traffic rfl rfl rfl
    have hroll : Undisturbed r (if p.fix = .unused then s else Machine.sendRollback p.gen (dropUser s)) :=
      .ite h (hdrop.sendRollback p.gen)
    have hvoid := hroll.voidSet p.setNo (if st = St.exposeCancelled then 1 else 0)
    exact .complete _ _ _ (.emit _ _ _ _ _ (.modExpo _ (.modSess _ _ hvoid)))

theorem Undisturbed.decide_ (h : Undisturbed r s) : Undisturbed r (decide_ s) := by
  unfold Machine.decide_
  split
  · exact h
  · exact .ite (.armFirm _ _ _ (h.elsewhere rfl rfl rfl)) (h.endPending ..)

theorem Undisturbed.exposureAnswered (q : LaneReq) (p : LaneRsp) (h : Undisturbed r s) :
    Undisturbed r (exposureAnswered q p s) := by
  unfold Machine.exposureAnswered
  split
  · exact h.endPending ..
  · split
    · exact .ite (h.elsewhere rfl rfl rfl) (h.endPending ..)
    · exact .ite (.decide_ (h.elsewhere rfl rfl rfl)) (h.endPending ..)
    · exact h

/-! ### Commands that complete -/

/-- `t` is `s` but for its tickets and the Steward's memory. -/
def OnlyTickets (s t : State) : Prop := t = { s with sheet := t.sheet, stew := t.stew }

theorem OnlyTickets.trans {r s t : State} (h : OnlyTickets r s) (k : OnlyTickets s t) : OnlyTickets r t := by
  unfold OnlyTickets at *
  rw [k, h]

theorem onlyTickets_complete (tk st : Nat) (d : Bytes) (s : State) : OnlyTickets s (complete tk st d s) := rfl

theorem onlyTickets_completeTiles (tk : Nat) (walk : List WalkItem) (rs : List TileRes) (s : State) :
    OnlyTickets s (completeTiles tk walk rs s) := by
  unfold completeTiles
  split
  · split <;> rfl
  · rfl

theorem onlyTickets_recordPartial (tk : Nat) (s : State) : OnlyTickets s (recordPartial tk s) := by
  unfold recordPartial
  dsimp only
  split <;> rfl

/-- With the lane down FIXER.CARD_STATUS completes (R303). -/
theorem onlyTickets_cardStatusNext (tk : Nat) {s : State} (h : s.lane.up = false) : OnlyTickets s (cardStatusNext tk s) := by
  unfold cardStatusNext
  split
  · rfl
  · split
    · exact onlyTickets_completeTiles ..
    · rw [h]
      exact onlyTickets_completeTiles ..

/-- A change of tickets is a change elsewhere. -/
theorem Undisturbed.tickets {t : State} (h : Undisturbed r s) (k : OnlyTickets s t) : Undisturbed r t :=
  h.elsewhere (by rw [k]) (by rw [k]) (by rw [k])

theorem Undisturbed.cardStatusNext (tk : Nat) (h : Undisturbed r s) : Undisturbed r (cardStatusNext tk s) := by
  unfold Machine.cardStatusNext
  split
  · exact h
  · split
    · exact h.tickets (onlyTickets_completeTiles ..)
    · exact .ite (h.laneSend _ _) (h.tickets (onlyTickets_completeTiles ..))

theorem Undisturbed.fixerAnswered (tk : Nat) (p : LaneRsp) (h : Undisturbed r s) : Undisturbed r (fixerAnswered tk p s) := by
  unfold Machine.fixerAnswered
  split
  · exact h
  · dsimp only
    split
    · exact .ite (h.tickets (onlyTickets_complete ..)) (h.tickets (onlyTickets_complete ..))
    · exact .cardStatusNext tk (h.elsewhere (t := s.modWork tk _) rfl rfl rfl)
    · exact h.tickets (onlyTickets_completeTiles ..)
    · exact h.tickets (onlyTickets_completeTiles ..)
    · exact h.tickets (onlyTickets_complete ..)

end Sys2Proof.Machine
end

section
/-! SUPPORT. The T1 host path: what becomes of a host frame, of one that waits for its units and of what is sent again
(R28, R63–R66, R475). -/

namespace Sys2Proof.Machine

/-! ### Frames of the host -/

/-- A frame with envelope `b` on the port of the path, which is up, from the peer and addressed as R63 asks, of the kind that its
command brings. -/
structure T1Heard (port : Nat) (frame b : Bytes) (release : Bool) (s : State) : Prop where
  onPort : s.t1Port = some port
  up : s.t1Up = true
  peer : s.nat 1 1 ≠ 0
  addressed : t1Addressed port frame s = true
  envelope : frame.drop 14 = b
  kind : (u8At b 1 == 4) = release

/-- A frame with envelope `b` passes R64 under key `k` while no frame waits, and the stored host counter covers its COUNTER
(R65). -/
structure T1Genuine (k b : Bytes) (s : State) : Prop where
  ready : keyReady s (s.nat 1 2) = true
  key : t1Key s 3 = some k
  version : u8At b 0 = 1
  length : 20 + u16At b 2 ≤ b.length
  tag : (cmac k (b.take (12 + u16At b 2))).take 8 = slice b (12 + u16At b 2) 8
  unheld : s.host.t1Hold = []
  above : s.sheet.t1Rx < u64At b 4
  within : u64At b 4 ≤ s.sheet.t1Rx + 2 ^ 20
  covered : u64At b 4 / 1024 ≤ s.store.counterValue 0x1062

/-- The body fits its kind: a sound command, or the four bytes of a release (R64, R66). -/
def t1Fits (b : Bytes) : Bool :=
  if u8At b 1 = 1 then decide (16 ≤ u16At b 2) && (Frame.mk (slice b 12 (u16At b 2))).sound
  else u8At b 1 == 4 && u16At b 2 == 4

/-- The state in which a frame takes effect: none waits, and its COUNTER is the last one taken (R64, R65). -/
def t1Taken (c : Nat) (s : State) : State :=
  (s.modHost (fun l => { l with t1Hold := [] })).modSheet (fun l => { l with t1Rx := c })

section
variable {port : Nat} {frame b : Bytes} {release : Bool} {s : State}

/-- A frame on another port, or one that R63 does not address to the path, changes nothing. -/
theorem t1Take_unaddressed (h : s.t1Port ≠ some port ∨ t1Addressed port frame s = false) :
    t1Take port frame release s = s :=
  if_pos (h.imp_right fun h => .inr (.inr (.inl h)))

theorem T1Heard.not_ignored (h : T1Heard port frame b release s) :
    ¬(s.t1Port ≠ some port ∨ s.t1Up = false ∨ s.nat 1 1 = 0 ∨ t1Addressed port frame s = false ∨
      (u8At (frame.drop 14) 1 == 4) ≠ release) := by
  obtain ⟨hport, hup, hpeer, haddr, henv, hkind⟩ := h
  simp [hport, hup, hpeer, haddr, henv, hkind]

/-- Before the cipher engine works a frame waits for it (R28). -/
theorem t1Take_waits (h : T1Heard port frame b release s) (hk : keyReady s (s.nat 1 2) = false) :
    t1Take port frame release s =
      power [4] (s.modHost (fun l => { l with t1Wait := l.t1Wait ++ [(port, frame, release)] })) :=
  (if_neg h.not_ignored).trans (if_pos hk)

/-- Without a key that may check it a frame is discarded (R64). -/
theorem t1Take_keyless (h : T1Heard port frame b release s) (hk : keyReady s (s.nat 1 2) = true) (hn : t1Key s 3 = none) :
    t1Take port frame release s = t1Refuse s := by
  refine (if_neg h.not_ignored).trans ((if_neg (by simp [hk])).trans ?_)
  simp [hn]

/-- A genuine frame joins those whose COUNTER the stored host counter must cover (R65). -/
theorem t1Take_joins {k : Bytes} (h : T1Heard port frame b release s) (hg : T1Genuine k b s) (hf : t1Fits b = true) :
    t1Take port frame release s =
      t1Reached (s.modHost (fun l => { l with t1Hold := [(u64At b 4, u8At b 1, slice b 12 (u16At b 2))] })) := by
  obtain ⟨hready, hkey, hver, hlen, htag, hheld, habove, hwithin, -⟩ := hg
  have hlast : t1Last s = s.sheet.t1Rx := by simp [t1Last, hheld]
  refine (if_neg h.not_ignored).trans ((if_neg (by simp [hready])).trans ((if_pos ?_).trans ?_))
  · simp only [h.envelope, hkey, hver, hlen, htag, hlast, habove, hwithin, true_and]
    exact ⟨by simp, hf⟩
  · simp only [State.modHost, h.envelope, hheld, List.nil_append]

/-- Where the one frame that waits has its COUNTER covered and its effect leaves none behind, that effect is all (R65). -/
theorem t1Reached_covered {c kind : Nat} {body : Bytes} (hc : c / 1024 ≤ s.store.counterValue 0x1062)
    (hn : (t1Apply kind body (t1Taken c s)).host.t1Hold = []) :
    t1Reached (s.modHost (fun l => { l with t1Hold := [(c, kind, body)] })) = t1Apply kind body (t1Taken c s) := by
  have hidle : t1Drain 1 (t1Apply kind body (t1Taken c s)) = t1Apply kind body (t1Taken c s) := by simp only [t1Drain, hn]
  exact (if_pos hc).trans hidle

/-- A genuine frame whose COUNTER is covered takes effect at once (R65). -/
theorem t1Take_covered {k : Bytes} (h : T1Heard port frame b release s) (hg : T1Genuine k b s) (hf : t1Fits b = true)
    (hn : (t1Apply (u8At b 1) (slice b 12 (u16At b 2)) (t1Taken (u64At b 4) s)).host.t1Hold = []) :
    t1Take port frame release s = t1Apply (u8At b 1) (slice b 12 (u16At b 2)) (t1Taken (u64At b 4) s) :=
  (t1Take_joins h hg hf).trans (t1Reached_covered hg.covered hn)

end

/-! ### Refusal, acceptance and release -/

/-- A discarded frame is counted, logged with event 0x0102, and touches no ticket (R64). -/
theorem t1Refuse_spec (s : State) :
    (t1Refuse s).host.t1Refused = s.host.t1Refused + 1 ∧ Logged s.now 0x0102 0 0xFF [] s (t1Refuse s) ∧
      (t1Refuse s).sheet = s.sheet ∧ (t1Refuse s).stew = s.stew := by
  refine ⟨?_, emit_logged 1 0x0102 0 0xFF [] (s.modHost _), ?_, ?_⟩
  · exact congrArg HostLink.t1Refused ((Undisturbed.refl (s.modHost _)).emit 1 0x0102 0 0xFF []).host
  · simp [t1Refuse]
  · simp [t1Refuse]

@[simp] theorem accept_host (f : Frame) (t1 : Bool) (s : State) : (accept f t1 s).host = s.host := by
  unfold accept
  dsimp only
  split
  · rfl
  · split <;> rfl

@[simp] theorem accept_t1Rx (f : Frame) (t1 : Bool) (s : State) : (accept f t1 s).sheet.t1Rx = s.sheet.t1Rx := by
  unfold accept
  dsimp only
  split
  · rfl
  · split <;> rfl

theorem accept_ticketEntry {f : Frame} {t1 : Bool} {s : State} (hj : judge f s = none) (ht : f.ticket < 128) :
    ∃ cls, (accept f t1 s).ticket f.ticket = acceptEntry s f t1 cls := by
  unfold accept
  simp only [hj]
  exact ⟨_, by split <;> exact ticket_modTicket_same s ht⟩

/-- The release of the last fragment of a posted response frees its ticket (R53). -/
theorem releaseFragment_last {tk frag : Nat} {s : State} {w : Work} (hw : s.work tk = some w)
    (hc : (s.ticket tk).state = .completed) (hnew : frag ∉ w.released) (hp : w.posted = w.frags.length)
    (hl : w.released.length + 1 = w.frags.length) :
    releaseFragment tk frag s =
      (s.modTicket tk (fun _ => {})).modStew (fun st => { st with works := tmod st.works tk (fun _ => none) }) := by
  unfold releaseFragment
  simp [hw, hc, hnew, hp, hl]

/-- A release frame releases the only fragment of a response that went out on the T1 path (R66). -/
theorem t1Release_single {tk f : Nat} {s : State} {w : Work} (hw : s.work tk = some w) (ht : w.t1 = true) (hp : w.posted = 1) :
    t1Release tk f s =
      releaseFragment tk 0 (s.modHost (fun h => { h with t1Dups := h.t1Dups.filter (fun p => p.1.ticket != tk) })) := by
  have hw1 : (s.modHost (fun h => { h with t1Dups := h.t1Dups.filter (fun p => p.1.ticket != tk) })).work tk = some w := hw
  have hmin : min (f + 1) 1 = 1 := by omega
  simp only [t1Release, hw1, ht, if_true, hp, hmin, List.range_one, List.foldl_cons, List.foldl_nil]

/-- The response of a completed ticket is one fragment, which went out on the T1 path and is not released. -/
structure T1Answered (tk : Nat) (w : Work) (s : State) : Prop where
  ticket : tk < 128
  work : s.work tk = some w
  path : w.t1 = true
  posted : w.posted = 1
  single : w.frags.length = 1
  unreleased : w.released = []
  completed : (s.ticket tk).state = .completed

/-- Its release makes the ticket FREE (R53, R66). -/
theorem t1Release_only {tk f : Nat} {s : State} {w : Work} (h : T1Answered tk w s) :
    ((t1Release tk f s).ticket tk).state = .free ∧ (t1Release tk f s).host.t1Hold = s.host.t1Hold ∧
      (t1Release tk f s).sheet.t1Rx = s.sheet.t1Rx := by
  obtain ⟨ht, hw, ht1, hp, hl, hr, hc⟩ := h
  rw [t1Release_single hw ht1 hp,
    releaseFragment_last (s := s.modHost _) hw hc (by simp [hr]) (hp.trans hl.symm) (by simp [hr, hl])]
  exact ⟨congrArg TicketEntry.state (ticket_modTicket_same _ ht), rfl, rfl⟩

/-! ### What goes out again -/

theorem Undisturbed.t1Dups {s t : State} (h : Undisturbed s t) : t.host.t1Dups = s.host.t1Dups := by
  rw [h.host]; rfl

/-- A frame that goes out, or waits, leaves the Steward's memory and the refusals that wait for a release alone. -/
theorem t1SendOne_keeps (kind : Nat) (body : Bytes) (s : State) :
    (t1SendOne kind body s).1.stew = s.stew ∧ (t1SendOne kind body s).1.host.t1Dups = s.host.t1Dups := by
  unfold t1SendOne
  dsimp only
  generalize hu : (if s.store.counterValue 0x1061 * 1024 ≤ s.sheet.t1TxCount + 1 + 256 ∧ unitWaits 0x1061 s = false then
    bumpCounter 0x1061 .nothing s else s) = u
  have hstew : u.stew = s.stew := by rw [← hu]; split <;> simp
  have hdups : u.host.t1Dups = s.host.t1Dups := by
    rw [← hu]
    exact (Undisturbed.ite ((Undisturbed.refl s).bumpCounter _ _) (.refl s)).t1Dups
  split
  · rw [power_frame]; exact ⟨rfl, rfl⟩
  · split
    · split
      · exact ⟨hstew, hdups⟩
      · exact ⟨hstew, hdups⟩
    · exact ⟨rfl, rfl⟩

/-- A refusal that goes out again is the last one then (R66). -/
theorem t1RetryDup_t1Dups {d : DupRsp} {t0 : Nat} {s : State} (hc : clearUntil (t0 + lsbOfMs (s.nat 1 3)) s = true) :
    (t1RetryDup d t0 s).host.t1Dups = s.host.t1Dups.drop 1 ++ [(d, (reach (t0 + lsbOfMs (s.nat 1 3)) s).now)] := by
  have hkeeps := (t1SendOne_keeps 2 (dupBytes false d)
    ((reach (t0 + lsbOfMs (s.nat 1 3)) s).modHost (fun h => { h with t1Tx := [] }))).2
  rw [State.modHost_host, reach_host] at hkeeps
  rw [t1RetryDup, atDue_clear hc]
  exact congrArg (fun l => l.drop 1 ++ [(d, (reach (t0 + lsbOfMs (s.nat 1 3)) s).now)]) hkeeps

/-- Several fragments sent again leave the Steward's memory alone. -/
theorem t1SendOne_foldl_stew (body : Nat → Bytes) (l : List Nat) (s : State) :
    (l.foldl (fun u f => (t1SendOne 2 (body f) u).1) s).stew = s.stew := by
  induction l generalizing s with
  | nil => rfl
  | cons f fs ih => exact (ih _).trans (t1SendOne_keeps 2 (body f) s).1

/-- Moving responses to the mailboxes touches the Steward's memory alone (R67, R475). -/
@[simp] theorem movePaths_host (b : Bool) (s : State) : (movePaths b s).host = s.host := by
  unfold movePaths
  suffices h : ∀ (l : List (Nat × Work)) (f : State → Nat × Work → State), (∀ t p, (f t p).host = t.host) →
      ∀ t, (l.foldl f t).host = t.host by
    refine h _ _ (fun t p => ?_) s
    split
    · dsimp only; split <;> rfl
    · rfl
  intro l f hf
  induction l with
  | nil => exact fun _ => rfl
  | cons p ps ih => exact fun t => (ih (f t p)).trans (hf t p)

/-! ### The two frames and the two timers -/

/-- A frame that comes before the cipher engine works joins those that wait for it, and no ticket changes. -/
theorem t1Take_waits_spec {port : Nat} {frame b : Bytes} {release : Bool} {s : State} (h : T1Heard port frame b release s)
    (hk : keyReady s (s.nat 1 2) = false) :
    (t1Take port frame release s).host.t1Wait = s.host.t1Wait ++ [(port, frame, release)] ∧
      (t1Take port frame release s).sheet = s.sheet ∧ (t1Take port frame release s).stew = s.stew := by
  rw [t1Take_waits h hk, power_frame]
  exact ⟨rfl, rfl, rfl⟩

/-- A genuine command frame is accepted on its FREE ticket (R54, R65). -/
theorem t1Take_command {port : Nat} {frame b k : Bytes} {f : Frame} {s : State} (h : T1Heard port frame b false s)
    (hg : T1Genuine k b s) (hf : f = ⟨slice b 12 (u16At b 2)⟩) (hkind : u8At b 1 = 1) (hfits : t1Fits b = true)
    (ht : f.ticket < 128) (hfree : (s.ticket f.ticket).state = .free) (hj : judge f s = none) :
    ∃ t, t1Take port frame false s = t ∧ (t.ticket f.ticket).state = .accepted ∧ (t.ticket f.ticket).t1 = true ∧
      t.sheet.t1Rx = u64At b 4 ∧ t.host.t1Hold = [] := by
  have happly : t1Apply (u8At b 1) (slice b 12 (u16At b 2)) (t1Taken (u64At b 4) s) = accept f true (t1Taken (u64At b 4) s) := by
    subst hf
    rw [hkind]
    exact (if_neg (by decide)).trans (if_neg (not_not.mpr hfree))
  have hhold : (accept f true (t1Taken (u64At b 4) s)).host.t1Hold = [] := by rw [accept_host]; rfl
  obtain ⟨cls, hentry⟩ := accept_ticketEntry (t1 := true) (s := t1Taken (u64At b 4) s) hj ht
  refine ⟨_, (t1Take_covered h hg hfits (happly ▸ hhold)).trans happly, ?_, ?_, accept_t1Rx .., hhold⟩
  · rw [hentry]; rfl
  · rw [hentry]; rfl

/-- A genuine release frame frees the ticket whose only fragment it names (R53, R66). -/
theorem t1Take_release {port : Nat} {frame b k : Bytes} {tk : Nat} {s : State} {w : Work} (h : T1Heard port frame b true s)
    (hg : T1Genuine k b s) (hkind : u8At b 1 = 4) (hlen : u16At b 2 = 4) (htk : u8At (slice b 12 4) 0 = tk)
    (hw : T1Answered tk w s) :
    ∃ t, t1Take port frame true s = t ∧ (t.ticket tk).state = .free ∧ t.sheet.t1Rx = u64At b 4 := by
  have happly : t1Apply (u8At b 1) (slice b 12 (u16At b 2)) (t1Taken (u64At b 4) s) =
      t1Release tk (u8At (slice b 12 4) 1) (t1Taken (u64At b 4) s) := by
    rw [hkind, hlen, ← Nat.mod_eq_of_lt hw.ticket, ← htk]
    exact if_pos rfl
  have hfits : t1Fits b = true := by simp [t1Fits, hkind, hlen]
  have htaken : T1Answered tk w (t1Taken (u64At b 4) s) := { hw with }
  obtain ⟨hfree, hhold, hrx⟩ := t1Release_only (f := u8At (slice b 12 4) 1) htaken
  exact ⟨_, (t1Take_covered h hg hfits (happly ▸ hhold)).trans happly, hfree, hrx⟩

/-- The wait of the T1 replay ends five seconds after trigger 12 (R475). -/
theorem execT1ReplayTimeout_ends {s : State} {t0 : Nat} (h : s.host.trigger12At = some t0)
    (hc : clearUntil (t0 + 5 * oneSec) s = true) : ∃ t, execT1ReplayTimeout s = .next t ∧ t.host.trigger12At = none := by
  refine ⟨_, rfl, ?_⟩
  simp only [h, atDue_clear hc, movePaths_host, State.modHost_host]

section
variable {s : State} (hup : s.t1Up = true) (hk : keyReady s (s.nat 1 2) = true)
include hup hk

/-- The refusal that went out longest ago goes out again, and is the last one then (R66). -/
theorem execT1Retry_refusal {d : DupRsp} {t0 : Nat} {l : List (DupRsp × Nat)} (hd : s.host.t1Dups = (d, t0) :: l)
    (hu : t1Unreleased s = []) (hc : clearUntil (t0 + lsbOfMs (s.nat 1 3)) s = true) :
    ∃ t, execT1Retry s = .next t ∧ t.host.t1Dups = l ++ [(d, (reach (t0 + lsbOfMs (s.nat 1 3)) s).now)] := by
  have hexec : execT1Retry s = .next (t1RetryDup d t0 s) := by
    simp only [execT1Retry, hd, hu, hup, hk, Bool.true_eq_false, if_false]
  exact ⟨_, hexec, by rw [t1RetryDup_t1Dups hc, hd, List.drop_one, List.tail_cons]⟩

/-- The fragments of the response that went out longest ago go out again, which its SENT stamp tells (R66). -/
theorem execT1Retry_response {tk : Nat} {w : Work} {l : List (Nat × Work)} (hd : s.host.t1Dups = [])
    (hu : t1Unreleased s = (tk, w) :: l) (ht : tk < 128) (hw : s.work tk = some w)
    (hc : clearUntil (w.sentAt + lsbOfMs (s.nat 1 3)) s = true) :
    ∃ t, execT1Retry s = .next t ∧
      (t.work tk).map (·.sentAt) = some (reach (w.sentAt + lsbOfMs (s.nat 1 3)) s).now := by
  refine ⟨_, rfl, ?_⟩
  simp only [hd, hu, hup, hk, atDue_clear hc, Bool.true_eq_false, Bool.false_eq_true, if_false]
  rw [work_modWork_same _ ht, State.work, t1SendOne_foldl_stew (fun f => fragBytes tk f w), State.modHost_stew, reach_stew]
  rw [show tget s.stew.works tk = some w from hw]
  rfl

end

/-- Settles O17: what becomes of a frame follows the checks of `t1Take` in their order, and a frame that passes them takes
effect through `t1Take_covered`; a retransmission leaves the Steward's memory and the refusals alone (`t1SendOne_keeps`). -/
theorem t1HostPath : Obligations.T1HostPath := by
  unfold Obligations.T1HostPath
  intro port h b fr s hfr hlen
  subst hfr
  have henv : (h ++ b).drop 14 = b := List.drop_left' hlen
  have heard (release : Bool) (hport : s.t1Port = some port.val) (hup : s.t1Up = true) (hpeer : s.nat 1 1 ≠ 0)
      (haddr : t1Addressed port.val (h ++ b) s = true) (hkind : (u8At b 1 == 4) = release) :
      T1Heard port.val (h ++ b) b release s := ⟨hport, hup, hpeer, haddr, henv, hkind⟩
  refine ⟨fun hn => ?unaddressed, fun hport hup hpeer haddr hk => ?early, fun hport hup hpeer haddr hk hnone => ?keyless,
    fun k hport hup hpeer haddr hk hkey hver hlong htag hheld habove hwithin hcov => ?genuine, fun t0 ht hc => ?replay,
    fun d t0 l hd hu hup hk hc => ?refusal, fun tk w l hd hu ht hup hk hw hc => ?response⟩
  case unaddressed =>
    exact ⟨congrArg Host.Outcome.next (t1Take_unaddressed hn), congrArg Host.Outcome.next (t1Take_unaddressed hn)⟩
  case early =>
    exact ⟨fun hkind => ⟨_, rfl, t1Take_waits_spec (heard false hport hup hpeer haddr (beq_false_of_ne hkind)) hk⟩,
      fun hkind => ⟨_, rfl, t1Take_waits_spec (heard true hport hup hpeer haddr (beq_iff_eq.mpr hkind)) hk⟩⟩
  case keyless =>
    have hspec := t1Refuse_spec s
    refine ⟨fun hkind => ⟨t1Refuse s, congrArg Host.Outcome.next ?_, hspec⟩,
      fun hkind => ⟨t1Refuse s, congrArg Host.Outcome.next ?_, hspec⟩⟩
    · exact t1Take_keyless (heard false hport hup hpeer haddr (beq_false_of_ne hkind)) hk hnone
    · exact t1Take_keyless (heard true hport hup hpeer haddr (beq_iff_eq.mpr hkind)) hk hnone
  case genuine =>
    have hg : T1Genuine k b s := ⟨hk, hkey, hver, hlong, htag, hheld, habove, hwithin, hcov⟩
    refine ⟨fun f hf hkind hsize hsound ht hfree hj => ?_, fun w hkind hfour ht hw ht1 hp hl hr hc => ?_⟩
    · have hfits : t1Fits b = true := by subst hf; simp [t1Fits, hkind, hsize, hsound]
      obtain ⟨t, htake, hspec⟩ :=
        t1Take_command (heard false hport hup hpeer haddr (by rw [hkind]; rfl)) hg hf hkind hfits ht hfree hj
      exact ⟨t, congrArg Host.Outcome.next htake, hspec⟩
    · obtain ⟨t, htake, hspec⟩ :=
        t1Take_release (heard true hport hup hpeer haddr (beq_iff_eq.mpr hkind)) hg hkind hfour rfl
          ⟨ht, hw, ht1, hp, hl, hr, hc⟩
      exact ⟨t, congrArg Host.Outcome.next htake, hspec⟩
  case replay => exact execT1ReplayTimeout_ends ht hc
  case refusal => exact execT1Retry_refusal hup hk hd hu hc
  case response => exact execT1Retry_response hup hk hd hu ht hw hc

end Sys2Proof.Machine
end

section
/-! SUPPORT. The M die on the inter-die lane: samples, records and events of the F die, the RESPONSE and the loss of the lane
(R20, R273, R411, R476, R507). -/

namespace Sys2Proof.Machine

/-! ### Samples and the strobe -/

/-- Passing time is a change of the time base alone. -/
theorem reach_frame (k : Nat) (s : State) : reach k s = { s with time := (reach k s).time } := by
  unfold reach advance
  split <;> rfl

/-- UNSET is not touched by passing time. -/
theorem reach_unset (k : Nat) (s : State) : (reach k s).time.unset = s.time.unset := by
  unfold reach advance
  split <;> rfl

/-- A wake of a PD3 CORE that sleeps begins (R121, R126). -/
theorem beginWake_asleep {e : Bool} {s : State} (hd : 3 ≤ s.eave.depth) (hw : s.eave.waking = none) (hr : s.stew.running = true) :
    beginWake e s = s.modEave (fun v => { v with waking := some { depth := v.depth, since := s.now, excused := e } }) :=
  if_pos ⟨by omega, hw, hr⟩

/-- The command whose timer sends samples in this state, with its period in seconds (R20). -/
def SampleTimer (i : Instr) (period : Nat) (s : State) : Prop :=
  i = .epochSampleTimer ∧ s.lane.up = true ∧ period = 60 ∨ i = .laneProbe ∧ s.lane.up = false ∧ period = 1

/-- EPOCH_SAMPLE_TIMER acts while the lane is up, LANE_PROBE while it is down (R20). -/
theorem exec_sampleDue {i : Instr} {period : Nat} {s : State} (hr : s.stew.running = true)
    (hi : SampleTimer i period s) :
    exec i s = .next (sampleDue s) ∧ (if s.lane.up then 60 else 1) = period := by
  obtain ⟨rfl, hup, rfl⟩ | ⟨rfl, hup, rfl⟩ := hi
  · exact ⟨congrArg Host.Outcome.next (if_pos ⟨hr, hup⟩), if_pos hup⟩
  · exact ⟨congrArg Host.Outcome.next (if_pos ⟨hr, hup⟩), if_neg (by simp [hup])⟩

section
variable {s : State} (hc : clearUntil s.eave.sampleAt s = true)
include hc

theorem sampleDue_awake (hd : s.eave.depth ≤ 2) : sampleDue s = sendSample (reach s.eave.sampleAt s) := by
  rw [sampleDue, atDue_clear hc]
  exact if_pos (by rw [reach_eave]; exact hd)

/-- At L3 and L4 PD3 CORE is woken for a sample that falls due (R20). -/
theorem sampleDue_asleep (hd : 3 ≤ s.eave.depth) (hw : s.eave.waking = none) (hr : s.stew.running = true) :
    sampleDue s = (reach s.eave.sampleAt s).modEave (fun v => { v with
      waking := some { depth := v.depth, since := (reach s.eave.sampleAt s).now, excused := false } }) := by
  rw [sampleDue, atDue_clear hc]
  refine (if_neg ?_).trans (beginWake_asleep ?_ ?_ ?_)
  · rw [reach_eave]; omega
  · rw [reach_eave]; exact hd
  · rw [reach_eave]; exact hw
  · rw [reach_stew]; exact hr

end

/-- The strobe ends, and PD3 CORE wakes where it sleeps at L3 or L4 (R273). -/
theorem execWakeStrobe_spec {s : State} (hr : s.stew.running = true) (hs : s.lane.strobe = true) :
    ∃ t, execWakeStrobe s = .next t ∧ t.lane = { s.lane with strobe := false } ∧ (s.eave.depth ≤ 2 → t.eave = s.eave) ∧
      (3 ≤ s.eave.depth → s.eave.waking = none → t.eave.waking = some { depth := s.eave.depth, since := s.now }) ∧
      t = { s with lane := t.lane, eave := t.eave } := by
  have hexec : execWakeStrobe s = .next (
      if 3 ≤ s.eave.depth then beginWake false (s.modLane (fun l => { l with strobe := false }))
      else s.modLane (fun l => { l with strobe := false })) := congrArg Host.Outcome.next (if_pos ⟨hs, hr⟩)
  refine ⟨_, hexec, ?_⟩
  by_cases hd : 3 ≤ s.eave.depth
  · rw [if_pos hd]
    refine ⟨by rw [beginWake_frame]; rfl, fun _ => by omega, fun _ hw => ?_, by rw [beginWake_frame]; rfl⟩
    rw [beginWake_asleep (s := s.modLane _) hd hw hr]
    rfl
  · rw [if_neg hd]
    exact ⟨rfl, fun _ => rfl, fun h => absurd h hd, rfl⟩

/-! ### Records (R411) -/

section
variable {q : Nat} {b : Bytes} {s : State}

/-- A record that is in a programmed page already is dropped. -/
theorem takeRecord_programmed (h : q < (tget s.vault.parts 0).endNo) : takeRecord q b s = s := if_pos h

/-- With its partition full the M die takes no record, and FIXER_FULL stands. -/
theorem takeRecord_full (hq : (tget s.vault.parts 0).endNo ≤ q)
    (hc : (tget s.vault.parts 0).capacity ≤ (tget s.vault.parts 0).pages.length) :
    (takeRecord q b s).vault = { s.vault with fixerFull := true } := by
  unfold takeRecord
  dsimp only
  rw [if_neg (Nat.not_lt.mpr hq), if_pos hc]
  split
  · next hf => rw [← hf]
  · rw [emit_vault]; rfl

/-- A record beyond the next one is refused and counted, with event 0x0D0B. -/
theorem takeRecord_gap (hc : (tget s.vault.parts 0).pages.length < (tget s.vault.parts 0).capacity)
    (hq : (tget s.vault.parts 0).nextNo < q) : let t := takeRecord q b s
    t.vault = { s.vault with refused := s.vault.refused + 1 } ∧
      Logged s.now 0x0D0B 0 0xFF (leBytes 4 q ++ leBytes 4 (tget s.vault.parts 0).nextNo) s t ∧
      t = { withEvents s t with vault := t.vault } := by
  have hend : (tget s.vault.parts 0).endNo ≤ (tget s.vault.parts 0).nextNo := Nat.sub_le _ _
  have htake : takeRecord q b s = emit 5 0x0D0B (leBytes 4 q ++ leBytes 4 (tget s.vault.parts 0).nextNo) 0 0xFF
      (s.modVault (fun v => { v with refused := v.refused + 1 })) := by
    unfold takeRecord
    dsimp only
    rw [if_neg (by omega), if_neg (by omega), if_neg (by omega), if_neg (by omega)]
  rw [htake]
  refine ⟨?_, emit_logged 5 0x0D0B 0 0xFF _ (s.modVault (fun v => { v with refused := v.refused + 1 })), ?_⟩
  · rw [emit_vault, State.modVault_vault]
  · rw [emit_frame]
    rfl

/-- A record that does not fill the page buffer joins it under the next number. -/
theorem appendRecord_fixer (hl : (tget s.vault.parts 0).buffer.length < 127) :
    appendRecord 0 b s = s.modVault (fun v => { v with parts := tmod v.parts 0 (fun p =>
      { p with buffer := p.buffer ++ [b], nextNo := p.nextNo + 1, since := if p.buffer.isEmpty then s.now else p.since }) }) := by
  refine if_neg ?_
  have hfresh (u : State) (hu : (tget u.vault.parts 0).buffer.length < 128) : pageFull 0 (freshRecords 0 u) = false := by
    have hle : (freshRecords 0 u).length ≤ (tget u.vault.parts 0).buffer.length := by
      unfold freshRecords
      dsimp only
      split
      · simp
      · exact Nat.le_refl _
    simp [pageFull]
    omega
  rw [hfresh]
  · decide
  · rw [State.modVault_vault, tget_tmod_same _ _ _ (by decide)]
    simp
    omega

/-- The next record in sequence joins the page buffer. -/
theorem takeRecord_next (hc : (tget s.vault.parts 0).pages.length < (tget s.vault.parts 0).capacity)
    (hq : q = (tget s.vault.parts 0).nextNo) (hl : (tget s.vault.parts 0).buffer.length < 127) : let t := takeRecord q b s
    (tget t.vault.parts 0).buffer = (tget s.vault.parts 0).buffer ++ [b] ∧ (tget t.vault.parts 0).nextNo = q + 1 ∧
      (∀ k, k ≠ 0 → tget t.vault.parts k = tget s.vault.parts k) ∧
      t = { s with vault := { s.vault with parts := t.vault.parts } } := by
  have hend : (tget s.vault.parts 0).endNo ≤ (tget s.vault.parts 0).nextNo := Nat.sub_le _ _
  have htake : takeRecord q b s = appendRecord 0 b s := by
    unfold takeRecord
    dsimp only
    rw [if_neg (by omega), if_neg (by omega), if_neg (by omega), if_pos hq]
  rw [htake, appendRecord_fixer hl]
  refine ⟨?_, ?_, fun k hk => tget_tmod_other _ _ _ _ (Ne.symm hk), rfl⟩
  · rw [State.modVault_vault, tget_tmod_same _ _ _ (by decide)]
  · rw [State.modVault_vault, tget_tmod_same _ _ _ (by decide), hq]

end

/-! ### The RESPONSE -/

theorem Undisturbed.up {s t : State} (h : Undisturbed s t) : t.lane.up = s.lane.up := by rw [h.lane]; rfl

/-- What the last RESPONSE reported stands. -/
theorem Undisturbed.learned {s t : State} (h : Undisturbed s t) : t.lane.head = s.lane.head ∧ t.lane.applied = s.lane.applied ∧
    t.lane.cards = s.lane.cards ∧ t.lane.missed = s.lane.missed ∧ t.host.idFixer = s.host.idFixer := by
  rw [h.lane, h.host]
  exact ⟨rfl, rfl, rfl, rfl, rfl⟩

section
variable {r s : State}

theorem Undisturbed.cardGone (before : Bool) (h : Undisturbed r s) : Undisturbed r (cardGone before s) :=
  .ite (h.elsewhere (by rw [trigger_frame]) (by rw [trigger_frame]) (by rw [trigger_frame])) h

theorem Undisturbed.settleDebt (q : LaneReq) (p : LaneRsp) (h : Undisturbed r s) : Undisturbed r (settleDebt q p s) := by
  unfold Machine.settleDebt
  dsimp only
  have hset (u : State) (f : Sheet → Sheet) (hu : Undisturbed r u) : Undisturbed r (u.modSheet f) := hu.elsewhere rfl rfl rfl
  have hcommit := Undisturbed.ite (c := s.sheet.owed = .commit ∧ p.applied = s.sheet.owedGen)
    (hset s (fun h => { h with owed := .none }) h) h
  split
  · exact .ite (hset _ _ hcommit) hcommit
  · exact .ite (hcommit.emit ..) hcommit
  · exact hcommit

theorem Undisturbed.userAnswered (o : LaneOut) (p : LaneRsp) (h : Undisturbed r s) : Undisturbed r (userAnswered o p s) := by
  refine .ite (h.traffic rfl rfl rfl) ?_
  split
  · exact h.fixerAnswered ..
  · exact h.exposureAnswered ..
  · exact h

end

@[simp] theorem cardGone_stew (before : Bool) (s : State) : (cardGone before s).stew = s.stew := by
  unfold cardGone
  dsimp only
  split
  · rw [trigger_frame]
  · rfl

@[simp] theorem settleDebt_stew (q : LaneReq) (p : LaneRsp) (s : State) : (settleDebt q p s).stew = s.stew := by
  unfold settleDebt
  dsimp only
  have hcommit : (if s.sheet.owed = .commit ∧ p.applied = s.sheet.owedGen then
      s.modSheet (fun h => { h with owed := .none }) else s).stew = s.stew := by split <;> rfl
  generalize (if s.sheet.owed = .commit ∧ p.applied = s.sheet.owedGen then
      s.modSheet (fun h => { h with owed := .none }) else s) = v at hcommit ⊢
  split
  · split
    · exact hcommit
    · exact hcommit
  · split
    · exact (emit_stew ..).trans hcommit
    · exact hcommit
  · exact hcommit

/-- The lane is up again, with event 0x0909 and nothing sent yet (R476). -/
def laneRaised (s : State) : State :=
  emit 1 0x0909 (leBytes 1 1 ++ zeros 3 ++ leBytes 4 (tailSeq s)) 0 0xFF (s.modLane (fun l => { l with up := true }))

/-- What goes out first on a recovered lane is traffic (R476, R478). -/
theorem laneRecovered_undisturbed (s : State) : Undisturbed (laneRaised s) (laneRecovered s) := by
  unfold laneRecovered
  refine .emit _ _ _ _ _ ?_
  have hsample : Undisturbed (laneRaised s) (sendSample (laneSend (if decide (s.sheet.owed = .commit) then
      .exposeCommit s.sheet.owedGen else .exposeRollback s.sheet.owedGen) .owed (laneRaised s))) :=
    ((Undisturbed.refl _).laneSend _ _).sendSample
  split
  · exact .laneSend _ _ (hsample.oweToken none)
  · exact hsample

@[simp] theorem laneRecovered_stew (s : State) : (laneRecovered s).stew = s.stew := by
  unfold laneRecovered
  dsimp only
  rw [emit_stew]
  split
  · rw [laneSend_stew, State.modLane_stew, sendSample_stew, laneSend_stew, emit_stew, State.modLane_stew]
  · rw [sendSample_stew, laneSend_stew, emit_stew, State.modLane_stew]

/-- The request has its RESPONSE, and the M die has learned from it (R41, R151, R289, R303). -/
def responseLearned (o : LaneOut) (p : LaneRsp) (s : State) : State :=
  learnResponse p (s.modLane (fun l => { l with
    out := l.out.filter (fun x => x.seq != o.seq), again := []
    hold := l.hold && !(match o.req with | .epochSample .. => p.status != St.fixerBusy | _ => false) }))

/-- What follows from a RESPONSE leaves alone what was learned from it, and the lane up. -/
theorem takeResponse_undisturbed (o : LaneOut) (p : LaneRsp) (s : State) :
    Undisturbed (if s.lane.up then responseLearned o p s else laneRaised (responseLearned o p s)) (takeResponse o p s) := by
  have hup : Undisturbed (if s.lane.up then responseLearned o p s else laneRaised (responseLearned o p s))
      (if s.lane.up then responseLearned o p s else laneRecovered (responseLearned o p s)) := by
    split
    · exact .refl _
    · exact laneRecovered_undisturbed _
  exact (((hup.cardGone _).settleDebt _ _).sendAgain _).userAnswered _ _

/-- A RESPONSE takes the lane up and teaches the F die's state (R41, R273, R289). -/
theorem takeResponse_learns (o : LaneOut) (p : LaneRsp) (s : State) : let t := takeResponse o p s
    t.lane.up = true ∧ t.lane.head = p.head ∧ t.lane.applied = p.applied ∧ t.lane.cards = p.cards ∧ t.lane.missed = 0 ∧
      t.host.idFixer = BitVec.ofNat 32 p.release := by
  have h := takeResponse_undisturbed o p s
  split at h
  · next hup => exact ⟨h.up.trans hup, h.learned⟩
  · have hraise : Undisturbed ((responseLearned o p s).modLane (fun l => { l with up := true })) (takeResponse o p s) :=
      ((Undisturbed.refl _).emit ..).trans h
    exact ⟨hraise.up, hraise.learned⟩

/-- The recovery of the lane is logged with event 0x0909 (R476). -/
theorem takeResponse_logged (o : LaneOut) (p : LaneRsp) {s : State} (hup : s.lane.up = false) :
    Logged s.now 0x0909 0 0xFF (leBytes 1 1 ++ zeros 3 ++ leBytes 4 (tailSeq s)) s (takeResponse o p s) := by
  have h := takeResponse_undisturbed o p s
  rw [hup] at h
  intro hroom
  obtain ⟨e, he, hspec⟩ := emit_logged 1 0x0909 0 0xFF (leBytes 1 1 ++ zeros 3 ++ leBytes 4 (tailSeq s))
    ((responseLearned o p s).modLane (fun l => { l with up := true })) hroom
  exact ⟨e, h.log e he, hspec⟩

/-- Commands whose RESPONSE is their answer complete with its status (R303, R304). -/
theorem fixerAnswered_completes {tk : Nat} {p : LaneRsp} {s : State} {w : Work} (hw : s.work tk = some w)
    (hop : w.req.opcode ∈ [0x0901, 0x0903, 0x0904, 0x0905]) : fixerAnswered tk p s = complete tk p.status p.data s := by
  simp only [List.mem_cons, List.not_mem_nil, or_false] at hop
  obtain h | h | h | h := hop <;> simp only [fixerAnswered, hw, h]

/-- So does such a command once its request is answered other than FIXER_BUSY. -/
theorem takeResponse_completes {o : LaneOut} {p : LaneRsp} {tk : Nat} {w : Work} {s : State} (hu : o.user = .ticket tk)
    (ht : tk < 128) (hw : s.work tk = some w) (hop : w.req.opcode ∈ [0x0901, 0x0903, 0x0904, 0x0905])
    (hb : p.status ≠ St.fixerBusy) :
    ((takeResponse o p s).ticket tk).state = .completed ∧ ((takeResponse o p s).ticket tk).status = p.status := by
  obtain ⟨u, hstew, htake⟩ : ∃ u : State, u.stew = s.stew ∧ takeResponse o p s = userAnswered o p u := by
    refine ⟨_, ?_, rfl⟩
    rw [sendAgain_stew, settleDebt_stew, cardGone_stew]
    split
    · rfl
    · exact laneRecovered_stew _
  have hwu : u.work tk = some w := by rw [State.work, hstew]; exact hw
  have hanswer : userAnswered o p u = complete tk p.status p.data u := by
    refine (if_neg (fun h => hb h.1)).trans ?_
    rw [hu]
    exact fixerAnswered_completes hwu hop
  have hfin := answered_complete (st := p.status) (d := p.data) u ht
  rw [htake, hanswer]
  exact ⟨hfin.completed, hfin.status⟩

/-! ### Loss of the lane -/

/-- A command whose request was lost completes or goes on waiting (R303, R476). -/
theorem onlyTickets_laneLost (u : LaneUser) {s : State} (h : s.lane.up = false) : OnlyTickets s (laneLost u s) := by
  unfold laneLost
  split
  · split
    · rfl
    · split
      · exact onlyTickets_recordPartial ..
      · exact onlyTickets_complete ..
      · exact onlyTickets_completeTiles ..
      · exact onlyTickets_completeTiles ..
      · exact onlyTickets_cardStatusNext _ h
      · exact onlyTickets_complete ..
  · rfl

theorem onlyTickets_laneLost_foldl (us : List LaneUser) {s : State} (h : s.lane.up = false) :
    OnlyTickets s (us.foldl (fun t u => laneLost u t) s) := by
  induction us generalizing s with
  | nil => rfl
  | cons u us ih =>
    have hlost := onlyTickets_laneLost u h
    exact hlost.trans (ih (by rw [hlost]; exact h))

/-- The lane is down: nothing is on its way to the F die, and event 0x0909 is logged (R273, R476). -/
theorem laneDown_spec (s : State) : (laneDown s).lane.up = false ∧ (laneDown s).lane.toF = [] ∧ (laneDown s).lane.missed = 0 ∧
    (laneDown s).now = s.now ∧ Logged s.now 0x0909 0 0xFF (zeros 4 ++ leBytes 4 (tailSeq s)) s (laneDown s) := by
  obtain ⟨u, hlane, htime, hlog, hticket⟩ : ∃ u : State,
      u.lane = { u.lane with up := false, toF := [], missed := 0 } ∧ u.time = s.time ∧
        Logged s.now 0x0909 0 0xFF (zeros 4 ++ leBytes 4 (tailSeq s)) s u ∧ OnlyTickets u (laneDown s) := by
    refine ⟨_, ?_, ?_, emit_logged 1 0x0909 0 0xFF (zeros 4 ++ leBytes 4 (tailSeq s)) ((s.modLane _).modEave _),
      onlyTickets_laneLost_foldl _ ?_⟩
    · rw [emit_lane]; rfl
    · rw [emit_time]; rfl
    · rw [emit_lane]; rfl
  rw [hticket]
  refine ⟨?_, ?_, ?_, congrArg TimeBase.epoch htime, hlog⟩ <;> dsimp only <;> rw [hlane]

/-! ### The obligation, clause by clause -/

/-- A sample or a probe that falls due while PD3 CORE is at L2 or shallower goes out (R20, R273). -/
theorem exec_sample_awake {i : Instr} {period : Nat} {s : State} (hr : s.stew.running = true)
    (hi : SampleTimer i period s) (hc : clearUntil s.eave.sampleAt s = true) (hd : s.eave.depth ≤ 2) :
    ∃ t o, exec i s = .next t ∧ t.now = (reach s.eave.sampleAt s).now ∧ o ∈ t.lane.out ∧
      o.req = .epochSample t.now s.time.unset (tailSeq s) (confirmKey s) ∧ t.lane.hold = true ∧
      t.lane.edges = s.lane.edges ++ [.sample s.lane.seq] ∧ t.eave.sampleAt = t.now + lsbOfS period := by
  obtain ⟨hexec, hperiod⟩ := exec_sampleDue hr hi
  rw [sampleDue_awake hc hd] at hexec
  obtain ⟨hout, hhold, hedges, hat, hnow⟩ := sendSample_spec (reach s.eave.sampleAt s)
  rw [reach_lane] at hedges hat
  refine ⟨_, _, hexec, hnow, hout, ?_, hhold, hedges, ?_⟩
  · rw [hnow, tailSeq, confirmKey, reach_vault, reach_lane, reach_unset]
    rfl
  · rw [hat, hnow, hperiod]

/-- One that falls due at L3 or L4 begins the wake of PD3 CORE instead (R20). -/
theorem exec_sample_asleep {i : Instr} {period : Nat} {s : State} (hr : s.stew.running = true)
    (hi : SampleTimer i period s) (hc : clearUntil s.eave.sampleAt s = true) (hd : 3 ≤ s.eave.depth) (hw : s.eave.waking = none) :
    ∃ t, exec i s = .next t ∧ t.eave.waking = some { depth := s.eave.depth, since := t.now } ∧
      t = { s with time := t.time, eave := t.eave } := by
  have hexec := (exec_sampleDue hr hi).1
  rw [sampleDue_asleep hc hd hw hr] at hexec
  refine ⟨_, hexec, ?_, ?_⟩
  · rw [State.modEave_eave, reach_eave]
    rfl
  · rw [reach_frame]
    rfl

/-- RECORD_APPEND hands the record in front to the vault (R22, R411). -/
theorem execRecordAppend_front {q : Nat} {b : Bytes} {rest : List LaneMsg} {s : State} (hr : s.stew.running = true)
    (hm : s.lane.toM = .record q b :: rest) :
    execRecordAppend s = .next (takeRecord q b (s.modLane (fun l => { l with toM := rest }))) := by
  simp only [execRecordAppend, hm, hr, if_true]

/-- FIXER_EVENT keeps an event whose key it has not seen, and drops one it has (R507). -/
theorem execFixerEvent_spec {r : EvRec} {rest : List LaneMsg} {s : State} (hr : s.stew.running = true)
    (hm : s.lane.toM = .event r :: rest) :
    (s.lane.seen.contains r.key = true → ∃ t, execFixerEvent s = .next t ∧
        t = { s with lane := { s.lane with toM := rest } }) ∧
      (s.lane.seen.contains r.key = false → ∃ t, execFixerEvent s = .next t ∧
        t.lane = { s.lane with toM := rest, seen := (r.key :: s.lane.seen).take 256 } ∧
        (s.safe.sort.length < 2048 → ∃ e ∈ t.safe.sort, e.2 = r) ∧ t = { withEvents s t with lane := t.lane }) := by
  refine ⟨fun hs => ⟨_, ?_, rfl⟩, fun hs => ⟨putEvent r ((s.modLane (fun l => { l with toM := rest })).modLane
    (fun l => { l with seen := (r.key :: l.seen).take 256 })), ?_, ?_, fun hroom => ⟨_, putEvent_logged hroom, rfl⟩, ?_⟩⟩
  · simp only [execFixerEvent, hm, hr, hs, Bool.true_eq_false, if_false, if_true]
    rfl
  · simp only [execFixerEvent, hm, hr, hs, Bool.true_eq_false, Bool.false_eq_true, if_false]
  · rw [putEvent_lane]
    rfl
  · rw [putEvent_frame]
    rfl

/-- LANE_RESPONSE hands a RESPONSE to the request it answers (R274). -/
theorem execLaneResponse_known {r : LaneRsp} {rest : List LaneMsg} {o : LaneOut} {s : State} (hr : s.stew.running = true)
    (hm : s.lane.toM = .response r :: rest) (ho : s.lane.out.find? (fun x => x.seq == r.seq) = some o) :
    execLaneResponse s = .next (takeResponse o r (s.modLane (fun l => { l with toM := rest }))) := by
  simp only [execLaneResponse, hm, hr, ho, Bool.true_eq_false, if_false]

/-- One that answers no outstanding request is discarded (R274). -/
theorem execLaneResponse_unknown {r : LaneRsp} {rest : List LaneMsg} {s : State} (hr : s.stew.running = true)
    (hm : s.lane.toM = .response r :: rest) (ho : s.lane.out.find? (fun x => x.seq == r.seq) = none) :
    execLaneResponse s = .next (s.modLane (fun l => { l with toM := rest })) := by
  simp only [execLaneResponse, hm, hr, ho, Bool.true_eq_false, if_false]

/-- The M die's side of the lane once 50 ms have passed over the request `o` while the lane is up (R273). -/
def timedOut (o : LaneOut) (s : State) : State :=
  (reach (o.sent + lsbOfMs 50) s).modLane (fun l => { l with
    missed := l.missed + 1, out := l.out.map (fun x => if x.seq = o.seq then { x with late := true } else x) })

/-- LANE_REQUEST_TIMEOUT counts the request, and the third in a row takes the lane down (R273). -/
theorem execLaneRequestTimeout_up {o : LaneOut} {s : State} (hr : s.stew.running = true)
    (ho : s.lane.out.find? (fun x => !x.late) = some o) (hup : s.lane.up = true) (hc : clearUntil (o.sent + lsbOfMs 50) s = true) :
    execLaneRequestTimeout s = .next (if 2 ≤ s.lane.missed then laneDown (timedOut o s) else timedOut o s) := by
  have hup' : (reach (o.sent + lsbOfMs 50) s).lane.up = true := by rw [reach_lane]; exact hup
  have hmissed : (timedOut o s).lane.missed = s.lane.missed + 1 := by rw [timedOut, State.modLane_lane, reach_lane]
  have hthird : (3 ≤ (timedOut o s).lane.missed) = (2 ≤ s.lane.missed) := by rw [hmissed]; exact propext (by omega)
  simp only [execLaneRequestTimeout, ho, hr, Bool.true_eq_false, if_false, atDue_clear hc, hup', if_true]
  rw [← timedOut]
  simp only [hthird]

/-- A late request stays among those that wait (R273). -/
theorem timedOut_spec (o : LaneOut) (s : State) : (timedOut o s).lane.missed = s.lane.missed + 1 ∧
    (timedOut o s).lane.up = s.lane.up ∧ (∀ x ∈ (timedOut o s).lane.out, x.seq = o.seq → x.late = true) ∧
    (timedOut o s).lane.out.length = s.lane.out.length ∧
    timedOut o s = { s with time := (timedOut o s).time, lane := (timedOut o s).lane } := by
  unfold timedOut
  rw [State.modLane_lane, reach_lane]
  refine ⟨rfl, rfl, fun x hx hseq => ?_, List.length_map _, ?_⟩
  · obtain ⟨y, -, rfl⟩ := List.mem_map.mp hx
    by_cases hy : y.seq = o.seq
    · simp [hy]
    · simp [hy] at hseq
  · rw [reach_frame]
    rfl

/-- Settles O36: each command of the lane is one operation of the M die on the message, the request or the sample in front, and
what a RESPONSE has taught stands through all that follows from it (`takeResponse_undisturbed`). -/
theorem laneTraffic : Obligations.LaneTraffic := by
  unfold Obligations.LaneTraffic
  intro s hr
  refine ⟨fun i period hi hc => ⟨fun hd => exec_sample_awake hr hi hc hd, fun hd hw => exec_sample_asleep hr hi hc hd hw⟩,
    fun hs => execWakeStrobe_spec hr hs, fun q b rest p hm hp => ?records, fun r rest hm => execFixerEvent_spec hr hm,
    fun r rest hm => ⟨fun hnone => ?unknown, fun hsome => ?known, fun o tk w ho hu ht hw hop hb => ?completes⟩,
    fun o ho hup hc => ?timeout⟩
  case records =>
    subst hp
    have hexec := execRecordAppend_front hr hm
    refine ⟨fun hq => ?_, fun hroom hq _ hl => ?_, fun hroom hq => ?_, fun hfull hq => ?_⟩
    · exact ⟨_, hexec, takeRecord_programmed hq⟩
    · obtain ⟨hbuffer, hnext, hothers, hframe⟩ :=
        takeRecord_next (b := b) (s := s.modLane (fun l => { l with toM := rest })) hroom hq hl
      exact ⟨_, hexec, hbuffer, hnext, hothers, hframe⟩
    · obtain ⟨hvault, hlog, hframe⟩ := takeRecord_gap (b := b) (s := s.modLane (fun l => { l with toM := rest })) hroom hq
      exact ⟨_, hexec, hvault, hlog, hframe⟩
    · exact ⟨_, hexec, takeRecord_full hq hfull⟩
  case unknown =>
    have ho : s.lane.out.find? (fun x => x.seq == r.seq) = none := List.find?_eq_none.mpr (by simpa using hnone)
    exact ⟨_, execLaneResponse_unknown hr hm ho, rfl⟩
  case known =>
    obtain ⟨o, ho⟩ : ∃ o, s.lane.out.find? (fun x => x.seq == r.seq) = some o :=
      Option.isSome_iff_exists.mp (List.find?_isSome.mpr (by simpa using hsome))
    obtain ⟨hup, hhead, happlied, hcards, hmissed, hid⟩ :=
      takeResponse_learns o r (s.modLane (fun l => { l with toM := rest }))
    exact ⟨_, execLaneResponse_known hr hm ho, hup, hhead, happlied, hcards, hmissed, hid, fun hdown =>
      takeResponse_logged o r (s := s.modLane _) hdown⟩
  case completes =>
    exact ⟨_, execLaneResponse_known hr hm ho, takeResponse_completes (s := s.modLane _) hu ht hw hop hb⟩
  case timeout =>
    have hexec := execLaneRequestTimeout_up hr ho hup hc
    obtain ⟨hmissed, hstill, hlate, hlength, hframe⟩ := timedOut_spec o s
    refine ⟨fun hfew => ?_, fun hthird => ?_⟩
    · rw [if_neg (by omega)] at hexec
      exact ⟨_, hexec, hmissed, hstill.trans hup, hlate, hlength, hframe⟩
    · rw [if_pos hthird] at hexec
      obtain ⟨hdown, hempty, hzero, hnow, hlog⟩ := laneDown_spec (timedOut o s)
      refine ⟨_, hexec, hdown, hempty, hzero, ?_⟩
      have hsafe : (timedOut o s).safe = s.safe := by rw [hframe]
      have hvault : (timedOut o s).vault = s.vault := by rw [hframe]
      rw [tailSeq, hvault, ← tailSeq, ← hnow] at hlog
      exact fun hroom => hlog (by rw [hsafe]; exact hroom)

end Sys2Proof.Machine
end

section
/-! SUPPORT. What every step keeps, what the reset leaves in the host link, and laws of byte strings in the DP window
(R42, R43, R59). -/

namespace Sys2Proof.Machine

/-! ### Steps -/

/-- A step keeps what every command and every clock tick keep, and takes the front command off the queue. -/
theorem step_keep {s t : State} (h : step s = .next t) : Keep { s with pending := s.pending.tail } t := by
  unfold step at h
  split at h
  · next c rest hp =>
    rw [hp]
    exact (exec_keep c _).next t h
  · next hp =>
    split at h
    · cases h
    · cases h
      have hs : { s with pending := s.pending.tail } = s := by rw [hp]; exact congrArg (fun l => { s with pending := l }) hp.symm
      rw [hs]
      exact keep_tick (Keep.refl s)

/-- Settles O4: the window's form and the bounds of the ring indexes are part of what every step keeps (`step_keep`). -/
theorem stepsKeepTheHostWindow : Obligations.StepsKeepTheHostWindow := by
  unfold Obligations.StepsKeepTheHostWindow
  intro s t hok hstep
  exact (step_keep hstep).host hok

/-- Settles O5: the host link, the queue, the sort buffer and the mode of the reset state, read off its definition. -/
theorem resetMeetsTheInvariants : Obligations.ResetMeetsTheInvariants := by
  unfold Obligations.ResetMeetsTheInvariants
  have hhost : State.reset.host.ok := hostOk_empty rfl rfl rfl
  have hsort : SortOk State.reset := Nat.zero_le _
  exact ⟨hhost, hsort, rfl, rfl, rfl, rfl, rfl, rfl, rfl, rfl, rfl⟩

/-! ### Byte strings -/

theorem mem_upFrom {x a n : Nat} : x ∈ upFrom a n ↔ a ≤ x ∧ x < a + n := by
  simp only [upFrom, List.mem_map, List.mem_range]
  exact ⟨fun ⟨k, hk, he⟩ => by omega, fun ⟨h1, h2⟩ => ⟨x - a, by omega, by omega⟩⟩

theorem upFrom_succ (a n : Nat) : upFrom a (n + 1) = a :: upFrom (a + 1) n := by
  simp [upFrom, List.range_succ_eq_map, Function.comp_def, Nat.add_comm, Nat.add_left_comm]

/-- The number that `n` bytes spell is the one they were cut from, modulo their width (R7). -/
theorem leNat_leBytes (n v : Nat) : leNat (leBytes n v) = v % 256 ^ n := by
  induction n generalizing v with
  | zero => simp [leBytes, leNat, Nat.mod_one]
  | succ n ih =>
    rw [leBytes, leNat, ih, BitVec.toNat_ofNat, Nat.pow_succ' (m := 256), Nat.mod_mul (a := 256)]

/-- Every byte of a written string is read back. -/
theorem Memory.read_writeBytes_same (bs : Bytes) : ∀ (m : List Host.Cell) (a i : Nat), Memory.wf m = true → i < bs.length →
    Memory.read (Memory.writeBytes m a bs) (a + i) = bs.getD i 0 := by
  induction bs with
  | nil => exact fun _ _ i _ hi => absurd hi (Nat.not_lt_zero i)
  | cons b bs ih =>
    intro m a i hm hi
    rw [Memory.writeBytes]
    cases i with
    | zero =>
      exact (Memory.read_writeBytes_other bs a _ (a + 1) (Or.inl (Nat.lt_succ_self a))).trans
        (Memory.read_write_same a b m 0 hm)
    | succ i =>
      rw [show a + (i + 1) = a + 1 + i by omega]
      exact ih _ _ i (Memory.wf_write hm a b) (Nat.lt_of_succ_lt_succ hi)

/-- A written string is read back as a whole. -/
theorem Memory.readBytes_writeBytes {m : List Host.Cell} (hm : Memory.wf m = true) (a : Nat) (bs : Bytes) :
    Memory.readBytes (Memory.writeBytes m a bs) a bs.length = bs := by
  refine List.ext_getElem (by simp [Memory.readBytes, upFrom]) fun i _ hi => ?_
  have hread := Memory.read_writeBytes_same bs m a i hm hi
  simp only [Memory.readBytes, upFrom, List.getElem_map, List.getElem_range, Nat.add_comm i a]
  rw [hread, List.getD_eq_getElem _ _ hi]

end Sys2Proof.Machine
end

section
/-! SUPPORT. SPI transactions while READY is 1: what the end of a transaction does, what a read answers and what a write
changes (R35–R41, R45, R126). -/

namespace Sys2Proof.Machine

/-- Equal states are the same answer. -/
theorem next_congr {s t : State} (h : s = t) : (.next s : Out) = .next t := congrArg Host.Outcome.next h

/-! ### Wakes and the end of a transaction -/

/-- At L0 no wake begins (R121). -/
theorem beginWake_awake {e : Bool} {s : State} (h : s.eave.depth = 0) : beginWake e s = s := if_neg (fun hc => hc.1 h)

/-- Below L0 a wake begins where none is running (R121, R126). -/
theorem beginWake_begins {e : Bool} {s : State} (hd : s.eave.depth ≠ 0) (hw : s.eave.waking = none) (hr : s.stew.running = true) :
    beginWake e s = s.modEave (fun v => { v with waking := some { depth := v.depth, since := s.now, excused := e } }) :=
  if_pos ⟨hd, hw, hr⟩

/-- No wake begins while one is running (R126). -/
theorem beginWake_stays {e : Bool} {s : State} (h : ¬(s.eave.waking = none ∧ s.stew.running = true)) : beginWake e s = s :=
  if_neg (fun hc => h hc.2)

/-- The end of a transaction changes HOST.HOLD and Eave alone, in every power state. -/
theorem spiEnd_frame (s : State) : spiEnd s =
    { s with eave := (spiEnd s).eave, host := { s.host with holdUntil := (spiEnd s).host.holdUntil } } := by
  unfold spiEnd
  split
  · dsimp only
    split
    · rw [beginWake_frame]
      rfl
    · rfl
  · rfl

/-- A transaction that changes the host link alone restarts HOST.HOLD and from L2 on wakes PD3 CORE (R40, R126). -/
theorem spiEnd_modHost {s : State} (f : HostLink → HostLink) (hs : s.isReady = true) (hf : (f s.host).ready = s.host.ready) :
    let t := spiEnd (s.modHost f)
    Awakened s t ∧ t = { s with
      eave := t.eave, host := { f s.host with holdUntil := some (s.now + lsbOfMs (s.nat 1 8)) } } := by
  have hr : (s.modHost f).isReady = true := by rw [State.isReady, State.modHost_host, hf, State.modHost_eave]; exact hs
  dsimp only
  rw [spiEnd, if_pos hr]
  by_cases hd : 2 ≤ s.eave.depth
  · rw [if_pos (show 2 ≤ (s.modHost f).eave.depth from hd)]
    refine ⟨?_, by rw [beginWake_frame]; rfl⟩
    by_cases hw : s.eave.waking = none ∧ s.stew.running = true
    · have hd0 : s.eave.depth ≠ 0 := by omega
      rw [beginWake_begins (s := (s.modHost f).modHost _) hd0 hw.1 hw.2, Awakened, if_pos ⟨hd, hw⟩]
      rfl
    · rw [beginWake_stays (s := (s.modHost f).modHost _) hw, Awakened, if_neg (fun h => hw h.2)]
      rfl
  · rw [if_neg (show ¬ 2 ≤ (s.modHost f).eave.depth from hd)]
    exact ⟨(if_neg (fun h => hd h.1)).symm, rfl⟩

/-! ### The error bits of FRONT_STATUS -/

theorem HostLink.raise_getLsbD (h : HostLink) (b : Nat) {i : Nat} (hi : i < 32) :
    (h.raise b).intStatus.getLsbD i = (h.intStatus.getLsbD i || b.testBit i) := by
  simp only [HostLink.raise, BitVec.getLsbD_or, BitVec.getLsbD_ofNat, hi, decide_true, Bool.true_and]

/-- Besides INT_STATUS an error bit changes nothing more. -/
theorem HostLink.flag_frame (h g : HostLink) : h.flag g = { g with intStatus := (h.flag g).intStatus } := by
  unfold HostLink.flag
  split <;> rfl

/-- An error bit changes INT_STATUS and itself alone. -/
theorem frontErr_host (f : HostLink → HostLink) (s : State) :
    (frontErr s f).host = { f s.host with intStatus := (frontErr s f).host.intStatus } := s.host.flag_frame (f s.host)

/-- FRONT_ERR is set where an error bit became 1 (R41). -/
theorem HostLink.flag_frontErr (h g : HostLink) : (h.flag g).intStatus.getLsbD 6 = (g.intStatus.getLsbD 6 ||
    ((!h.collide && g.collide) || (!h.wrIgnored && g.wrIgnored) || (!h.spiErr && g.spiErr) || (!h.badFrame && g.badFrame))) := by
  unfold HostLink.flag
  split
  · next hc =>
    rw [hc, HostLink.raise_getLsbD _ _ (by decide)]
    rfl
  · next hc => rw [Bool.eq_false_iff.mpr hc, Bool.or_false]

/-- A transaction that sets an error bit: FRONT_ERR follows the bits that became 1 (R41). -/
theorem spiEnd_frontErr {s : State} (f : HostLink → HostLink) (hs : s.isReady = true) (hf : (f s.host).ready = s.host.ready) :
    let t := spiEnd (frontErr s f)
    t.host.intStatus.getLsbD 6 = (s.host.flag (f s.host)).intStatus.getLsbD 6 ∧ Awakened s t ∧
      t = { s with eave := t.eave, host := { f s.host with
        intStatus := t.host.intStatus, holdUntil := some (s.now + lsbOfMs (s.nat 1 8)) } } := by
  obtain ⟨hwake, hframe⟩ :=
    spiEnd_modHost (fun h => h.flag (f h)) hs ((congrArg HostLink.ready (s.host.flag_frame (f s.host))).trans hf)
  rw [← frontErr] at hwake hframe
  dsimp only
  generalize spiEnd (frontErr s f) = t at hwake hframe ⊢
  have hint : t.host.intStatus = (s.host.flag (f s.host)).intStatus := by rw [hframe]
  rw [HostLink.flag_frame] at hframe
  rw [hint]
  exact ⟨rfl, hwake, hframe⟩

/-- SPI_ERR set while READY is 1 (R36, R41, R59). -/
theorem spiEnd_spiError {s : State} (hs : s.isReady = true) : let t := spiEnd (spiError s)
    t.host.intStatus.getLsbD 6 = (s.host.intStatus.getLsbD 6 || !s.host.spiErr) ∧ Awakened s t ∧
      t = { s with eave := t.eave, host := { s.host with
        spiErr := true, intStatus := t.host.intStatus, holdUntil := some (s.now + lsbOfMs (s.nat 1 8)) } } := by
  obtain ⟨hbit, hspec⟩ := spiEnd_frontErr (fun h => { h with spiErr := true }) hs rfl
  exact ⟨hbit.trans (by rw [HostLink.flag_frontErr]; simp), hspec⟩

/-- WR_IGNORED set while READY is 1 (R41, R45). -/
theorem spiEnd_wrIgnored {s : State} (hs : s.isReady = true) :
    let t := spiEnd (frontErr s (fun h => { h with wrIgnored := true }))
    t.host.intStatus.getLsbD 6 = (s.host.intStatus.getLsbD 6 || !s.host.wrIgnored) ∧ Awakened s t ∧
      t = { s with eave := t.eave, host := { s.host with
        wrIgnored := true, intStatus := t.host.intStatus, holdUntil := some (s.now + lsbOfMs (s.nat 1 8)) } } := by
  obtain ⟨hbit, hspec⟩ := spiEnd_frontErr (fun h => { h with wrIgnored := true }) hs rfl
  exact ⟨hbit.trans (by rw [HostLink.flag_frontErr]; simp), hspec⟩

end Sys2Proof.Machine
end

section
/-! SUPPORT. Reads and writes of the host over SPI (R36–R40, R45). -/

namespace Sys2Proof.Machine

/-! ### Reads -/

section
variable {a n e : Nat} {s : State}

/-- An aligned read that ends inside its region answers the region's bytes (R37, R38). -/
theorem spiRead_within (hs : s.isReady = true) (ha : a % 4 = 0) (he : regionEnd a = some e) (hn : a + n ≤ e) :
    spiRead a n s = spiEnd (s.modHost (fun h => { h with spiOut := (upFrom a n).map (hostByte s) })) := by
  have hout : (upFrom a n).map (fun x => if x < e then hostByte s x else 0) = (upFrom a n).map (hostByte s) :=
    List.map_congr_left fun x hx => if_pos (Nat.lt_of_lt_of_le (mem_upFrom.mp hx).2 hn)
  simp only [spiRead, hs, ha, he, hn, hout, if_true, ne_eq, not_true_eq_false, if_false]

/-- A read inside the DP window answers its bytes, and zero above the window's own (R37, R38, R43). -/
theorem spiRead_window (hs : s.isReady = true) (ha : a % 4 = 0) (hn : a + n ≤ 0x10000) :
    spiRead a n s = spiEnd (s.modHost (fun h => { h with
      spiOut := (upFrom a n).map (fun x => if x < 0xE400 then Memory.read s.host.window x else 0) })) := by
  have hout : (upFrom a n).map (hostByte s) =
      (upFrom a n).map (fun x => if x < 0xE400 then Memory.read s.host.window x else 0) := by
    refine List.map_congr_left fun x hx => ?_
    have hx := (mem_upFrom.mp hx).2
    rw [hostByte, if_neg (show ¬(0x10000 ≤ x ∧ x < 0x10100) by omega)]
  rw [← hout]
  by_cases hlt : a < 0x10000
  · exact spiRead_within hs ha (if_pos hlt) hn
  · exact spiRead_within hs ha ((if_neg hlt).trans (if_pos (by omega))) (show a + n ≤ 0x10100 by omega)

end

/-- READ_STATUS while READY is 1: the falling edge of HOST_CS_N wakes nothing (R39). -/
theorem execReadStatus_ready {s : State} (hs : s.isReady = true) :
    execReadStatus s = .next (spiEnd (s.modHost (fun h => { h with spiOut := [statusByte s] }))) := by
  rw [execReadStatus, csFall, if_pos hs]

/-- READ_STATUS is answered in every power state (R39). -/
theorem execReadStatus_answers (s : State) : ∃ t, execReadStatus s = .next t ∧ t.host.spiOut = [statusByte s] :=
  ⟨_, rfl, by rw [spiEnd_frame]; rfl⟩

/-- A falling edge of HOST_CS_N before READY begins a wake, and HOST.HOLD is to run from READY (R39, R40). -/
theorem csFall_wakes {s : State} (hs : s.isReady = false) (hd : s.eave.depth ≠ 0) (hw : s.eave.waking = none)
    (hr : s.stew.running = true) :
    (csFall s).eave.waking = some { depth := s.eave.depth, since := s.now } ∧ (csFall s).host.holdOnReady = true := by
  rw [csFall, if_neg (by simp [hs]), beginWake_begins hd hw hr]
  exact ⟨rfl, rfl⟩

/-! ### The instruction byte -/

theorem assoc_eq_none_of_not_contains {α β : Type} [DecidableEq α] {l : List (α × β)} {k : α}
    (h : (l.map (·.1)).contains k = false) : assoc l k = none := by
  have hne : ∀ p ∈ l, ¬(p.1 == k) = true := fun p hp hk => by
    rw [← eq_of_beq hk, List.contains_eq_mem, decide_eq_false_iff_not] at h
    exact h (List.mem_map_of_mem hp)
  rw [assoc, List.find?_eq_none.mpr hne]
  rfl

/-- A byte outside the table of instructions is INVALID_INSTRUCTION (R36). -/
theorem spiCommand_invalid {op : Byte} (h : spiInstructions.contains op = false) (a : BitVec 24) (n : Nat) (d : Bytes)
    (o : List (Nat × Byte)) : spiCommand op a n d o = .invalidInstruction op := by
  rw [spiCommand, assoc_eq_none_of_not_contains h]

/-- INVALID_INSTRUCTION while READY is 1 sets SPI_ERR and has no other effect (R36). -/
theorem execInvalidInstruction_ready {op : Byte} {s : State} (hs : s.isReady = true)
    (h : spiInstructions.contains op = false) : execInvalidInstruction op s = .next (spiEnd (spiError s)) := by
  rw [execInvalidInstruction, if_pos hs, h]
  rfl

/-- Settles O9: a read is one change of the host link (`spiRead_within`), and `spiEnd_modHost` says what the end of its
transaction does. -/
theorem hostReadsAnswer : Obligations.HostReadsAnswer := by
  unfold Obligations.HostReadsAnswer
  intro a n e s
  refine ⟨fun hs ha he hn => ?read, fun hs => ⟨_, execReadStatus_ready hs, spiEnd_modHost _ hs rfl⟩,
    fun hs hd hw hr => ⟨_, rfl, csFall_wakes hs hd hw hr⟩, fun _ => execReadStatus_answers s,
    fun d o => ⟨rfl, rfl, rfl, rfl, rfl, fun op h => spiCommand_invalid h a n d o⟩, fun op hs h => ?invalid⟩
  case read =>
    have hread := next_congr (spiRead_within hs ha he hn)
    exact ⟨_, hread, hread, spiEnd_modHost _ hs rfl⟩
  case invalid =>
    obtain ⟨hbit, -, hframe⟩ := spiEnd_spiError hs
    refine ⟨_, execInvalidInstruction_ready hs h, ?_, hbit, ?_, ?_, ?_⟩ <;> rw [hframe]

/-! ### Writes -/

section
variable {a : Nat} {d : Bytes} {other : List (Nat × Byte)} {s : State}

/-- A write of one aligned word inside the DP window is that word's write (R37, R38). -/
theorem spiWrite_word (hs : s.isReady = true) (ha : a % 4 = 0) (hd : d.length = 4) (hlt : a < 0x10000) :
    spiWrite a d other s = spiEnd (hostWord other a d s) := by
  have hword : hostWords other 0x10000 (d.length / 4 + 1) a d s = hostWord other a d s := by
    rw [hd, hostWords, if_neg (by omega), hostWords, if_pos (Or.inl (by simp [hd])), List.take_of_length_le (Nat.le_of_eq hd)]
  have he : regionEnd a = some 0x10000 := if_pos hlt
  have hend : a + d.length ≤ 0x10000 := by omega
  simp only [spiWrite, hs, ha, he, hword, hend, if_true, ne_eq, not_true_eq_false, if_false]

/-- A word in a command mailbox that the host owns is written (R45). -/
theorem hostWord_owned (h1 : 0x400 ≤ a) (h2 : a < 0x4400) (ho : s.host.cmdOwner.getLsbD ((a - 0x400) / 0x400) = false) :
    hostWord other a d s = s.modHost (fun h => { h with window := Memory.writeBytes h.window a d }) := by
  have hmay : mayWrite s.host a = some true := by
    rw [mayWrite, if_neg (by omega), if_pos h2, ho]
    rfl
  rw [hostWord, if_pos (by omega), hmay]
  exact if_neg (by omega)

/-- Where the host may not write, R45 flags the word and changes no byte. -/
theorem hostWord_flagged (h : a < 0x10000)
    (ho : 0x400 ≤ a ∧ a < 0x4400 ∧ s.host.cmdOwner.getLsbD ((a - 0x400) / 0x400) = true ∨ a < 0x400 ∨
      (0x8400 ≤ a ∧ a < 0xC400) ∨ (0x4400 ≤ a ∧ a < 0x8400 ∧ s.host.rspReady.getLsbD ((a - 0x4400) / 0x400) = false)) :
    hostWord other a d s = frontErr s (fun h => { h with wrIgnored := true }) := by
  have hmay : mayWrite s.host a = none := by
    obtain ⟨h1, h2, hown⟩ | h1 | ⟨h1, h2⟩ | ⟨h1, h2, hrsp⟩ := ho
    · rw [mayWrite, if_neg (by omega), if_pos h2, if_pos hown]
    · rw [mayWrite, if_pos h1]
    · rw [mayWrite, if_neg (by omega), if_neg (by omega), if_neg (by omega), if_pos h2]
    · rw [mayWrite, if_neg (by omega), if_neg (by omega), if_pos h2, hrsp]
      rfl
  rw [hostWord, if_pos h, hmay]

end

/-- Settles O10: a word is one change of the window or one error bit (`hostWord_owned`, `hostWord_flagged`), and a read asks for
no owner (`spiRead_window`). -/
theorem hostWritesObeyOwnership : Obligations.HostWritesObeyOwnership := by
  unfold Obligations.HostWritesObeyOwnership
  intro a d other s hs ha hd
  refine ⟨fun h1 h2 ho => ?owned, fun ho => ?flagged, fun n hn => ?read⟩
  case owned =>
    have hwrite := next_congr ((spiWrite_word (other := other) hs ha hd (by omega)).trans
      (congrArg spiEnd (hostWord_owned h1 h2 ho)))
    obtain ⟨hwake, hframe⟩ := spiEnd_modHost (fun h => { h with window := Memory.writeBytes h.window a.toNat d }) hs rfl
    have hwindow := congrArg (fun t : State => t.host.window) hframe
    refine ⟨_, hwrite, hwrite, fun hok i hi => ?_, fun x hx => ?_, hwake, hwindow ▸ hframe⟩
    · rw [hwindow]
      exact Memory.read_writeBytes_same d _ _ i hok.1 (by omega)
    · rw [hwindow]
      exact Memory.read_writeBytes_other d x _ _ (by omega)
  case flagged =>
    have hwrite := next_congr ((spiWrite_word (other := other) hs ha hd (by omega)).trans
      (congrArg spiEnd (hostWord_flagged (by omega) ho)))
    exact ⟨_, hwrite, hwrite, spiEnd_wrIgnored hs⟩
  case read => exact ⟨_, next_congr (spiRead_window hs ha hn), spiEnd_modHost _ hs rfl⟩

end Sys2Proof.Machine
end

section
/-! SUPPORT. Writes to the front registers while READY is 1: doorbells, the write-one-to-clear registers, EVT_TAIL and the return
of response mailboxes (R41, R46, R47, R53, R59). -/

namespace Sys2Proof.Machine

/-- A register write while READY is 1 is one transaction (R39, R41). -/
theorem registerWrite_ready {off : Nat} {v : BitVec 32} {s : State} (hs : s.isReady = true) :
    registerWrite off v s = spiEnd (frontWrite off v s) := if_pos hs

/-- An offset that no register with an effect has is ignored (R9, R41). -/
theorem frontWrite_unlisted {off : Byte} {v : BitVec 32} {s : State} (h : off ∉ [0x20, 0x28, 0x30, 0x40, 0x44, 0x48]) :
    frontWrite off.toNat v s = s := by
  have hne (n : Byte) (hn : n ∈ ([0x20, 0x28, 0x30, 0x40, 0x44, 0x48] : List Byte)) : off.toNat ≠ n.toNat :=
    fun he => h (BitVec.eq_of_toNat_eq he ▸ hn)
  unfold frontWrite
  split
  · next he => exact absurd he (hne 0x20 (by decide))
  · next he => exact absurd he (hne 0x28 (by decide))
  · next he => exact absurd he (hne 0x30 (by decide))
  · next he => exact absurd he (hne 0x40 (by decide))
  · next he => exact absurd he (hne 0x44 (by decide))
  · next he => exact absurd he (hne 0x48 (by decide))
  · rfl

/-- Settles O11: each register write is one change of the host link, and `spiEnd_modHost` says what the end of its transaction
does. -/
theorem frontRegisterWrites : Obligations.FrontRegisterWrites := by
  unfold Obligations.FrontRegisterWrites
  intro v s hs
  refine ⟨fun hd => ?doorbell, ?intStatus, ?frontStatus, ?intEnable, fun off hoff => ?unlisted⟩
  case doorbell =>
    have hring : frontWrite 0x20 v s = s.modHost (fun h => h.ring v) := beginWake_awake (s := s.modHost _) hd
    obtain ⟨hwake, hframe⟩ := spiEnd_modHost (fun h => h.ring v) hs rfl
    rw [Awakened, if_neg (by omega)] at hwake
    rw [hwake] at hframe
    refine ⟨_, next_congr ((registerWrite_ready hs).trans (congrArg spiEnd hring)), ?_, ?_, ?_⟩ <;> rw [hframe] <;> rfl
  case intStatus =>
    obtain ⟨hwake, hframe⟩ := spiEnd_modHost (fun h => { h with intStatus := h.intStatus &&& ~~~v }) hs rfl
    have hint := congrArg (fun t : State => t.host.intStatus) hframe
    exact ⟨_, next_congr (registerWrite_ready hs), hint, hwake, hint ▸ hframe⟩
  case frontStatus =>
    obtain ⟨hwake, hframe⟩ := spiEnd_modHost (fun h => { h with
      collide := h.collide && !v.getLsbD 0, wrIgnored := h.wrIgnored && !v.getLsbD 1,
      spiErr := h.spiErr && !v.getLsbD 2, badFrame := h.badFrame && !v.getLsbD 3 }) hs rfl
    refine ⟨_, next_congr (registerWrite_ready hs), ?_, ?_, ?_, ?_, ?_, hwake, ?_⟩ <;> exact hframe ▸ rfl
  case intEnable =>
    obtain ⟨hwake, hframe⟩ := spiEnd_modHost (fun h => { h with intEnable := v &&& 0x7F }) hs rfl
    refine ⟨_, next_congr (registerWrite_ready hs), ?_, ?_, hwake, ?_⟩ <;> exact hframe ▸ rfl
  case unlisted =>
    exact ⟨_, next_congr ((registerWrite_ready hs).trans (congrArg spiEnd (frontWrite_unlisted hoff))),
      spiEnd_modHost id hs rfl⟩

/-! ### EVT_TAIL -/

/-- The ring once EVT_TAIL has moved on: the records before it are free (R59). -/
def HostLink.tailMoved (h : HostLink) (v : BitVec 32) : HostLink :=
  { h with evtTail := v.toNat % 512, ringSince := h.ringSince.drop ((v.toNat % 512 + 512 - h.evtTail) % 512) }

/-- With no record lost there is no loss record (R60). -/
theorem writeLoss_none {s : State} (h : s.host.evtLost = 0) : writeLoss s = s := if_pos h

section
variable {v : BitVec 32} {s : State}

/-- With no record lost a value up to EVT_HEAD frees the records before it (R59). -/
theorem moveTail_forward (hl : s.host.evtLost = 0) (h : (v.toNat % 512 + 512 - s.host.evtTail) % 512 ≤ s.host.unread) :
    moveTail v s = s.modHost (·.tailMoved v) :=
  (if_pos h).trans (ite_eq_right_iff.mpr fun _ => writeLoss_none hl)

/-- A value beyond EVT_HEAD is ignored and sets SPI_ERR (R59). -/
theorem moveTail_beyond (h : s.host.unread < (v.toNat % 512 + 512 - s.host.evtTail) % 512) : moveTail v s = spiError s :=
  if_neg (Nat.not_le.mpr h)

end

/-- Settles O12: a value up to EVT_HEAD is one change of the ring's tail (`moveTail_forward`), any other one the error bit
(`moveTail_beyond`). -/
theorem eventTailMovesForwardOnly : Obligations.EventTailMovesForwardOnly := by
  unfold Obligations.EventTailMovesForwardOnly
  intro v s hs hl
  refine ⟨fun h => ?forward, fun h => ?beyond⟩
  case forward =>
    obtain ⟨hwake, hframe⟩ := spiEnd_modHost (·.tailMoved v) hs rfl
    refine ⟨_, next_congr ((registerWrite_ready hs).trans (congrArg spiEnd (moveTail_forward hl h))), ?_, ?_, ?_, hwake, ?_⟩ <;>
      exact hframe ▸ rfl
  case beyond =>
    obtain ⟨hbit, hwake, hframe⟩ := spiEnd_spiError hs
    refine ⟨_, next_congr ((registerWrite_ready hs).trans (congrArg spiEnd (moveTail_beyond h))), ?_, ?_, hbit, hwake, ?_⟩ <;>
      exact hframe ▸ rfl

/-! ### Response mailboxes -/

/-- A word with one bit set returns one mailbox (R41, R47). -/
theorem releaseAll_twoPow (n : Fin 16) (s : State) : releaseAll (BitVec.twoPow 32 n.val) s = releaseMailbox n.val s := by
  have hone : ∀ n : Fin 16, (List.range 16).filter (fun m => (BitVec.twoPow 32 n.val).getLsbD m) = [n.val] := by decide
  rw [releaseAll, hone]
  rfl

/-- The Steward may use mailbox `n` again (R47). -/
def mailboxReturned (n : Nat) (s : State) : State :=
  (s.modHost (fun h => { h with rspReady := h.rspReady &&& ~~~BitVec.twoPow 16 n })).modStew
    (fun w => { w with rmb := tmod w.rmb n (fun _ => none) })

/-- Returning a mailbox that holds a fragment releases the fragment (R47, R53). -/
theorem releaseMailbox_frag {n tk f : Nat} {s : State} (hb : s.host.rspReady.getLsbD n = true)
    (hf : tget s.stew.rmb n = some (.frag tk f)) : releaseMailbox n s = releaseFragment tk f (mailboxReturned n s) := by
  rw [releaseMailbox, if_pos hb]
  simp only [hf]
  rfl

/-- A bit that is 0 returns nothing (R41). -/
theorem releaseMailbox_clear {n : Nat} {s : State} (hb : s.host.rspReady.getLsbD n = false) : releaseMailbox n s = s :=
  if_neg (by simp [hb])

/-- Settles O13: the mailbox's fragment is the ticket's last, which `releaseFragment_last` frees; the end of the transaction
touches neither tickets nor mailboxes (`spiEnd_frame`). -/
theorem releasingAResponseMailbox : Obligations.ReleasingAResponseMailbox := by
  unfold Obligations.ReleasingAResponseMailbox
  intro n s hs
  refine ⟨fun tk f w ht hb hf hw hc hp hnew hl => ?last, fun hb => ?clear⟩
  case last =>
    have hnew' : f ∉ w.released := fun hmem => by rw [List.contains_eq_mem, decide_eq_false_iff_not] at hnew; exact hnew hmem
    have hfree := releaseFragment_last (s := mailboxReturned n.val s) hw hc hnew' hp hl
    refine ⟨_, next_congr ((registerWrite_ready hs).trans (congrArg spiEnd
      ((releaseAll_twoPow n s).trans ((releaseMailbox_frag hb hf).trans hfree)))), ?_, ?_, ?_, ?_, fun k hk => ⟨?_, ?_⟩⟩ <;>
      rw [spiEnd_frame]
    · rfl
    · exact tget_tmod_same _ _ _ n.isLt
    · exact congrArg TicketEntry.state (tget_tmod_same _ _ _ ht)
    · exact tget_tmod_same _ _ _ ht
    · exact tget_tmod_other _ _ _ _ (Ne.symm hk)
    · exact tget_tmod_other _ _ _ _ (Ne.symm hk)
  case clear =>
    exact ⟨_, next_congr ((registerWrite_ready hs).trans (congrArg spiEnd
      ((releaseAll_twoPow n s).trans (releaseMailbox_clear hb)))), spiEnd_modHost id hs rfl⟩

end Sys2Proof.Machine
end

section
/-! SUPPORT. The Steward's side of the host link: taking a command mailbox, posting a response fragment, and the timers
(R40, R44, R46, R47, R52–R54, R61). -/

namespace Sys2Proof.Machine

/-! ### Acceptance -/

section
variable {f : Frame} {t1 : Bool} {s : State}

/-- A command that fails a check of R52 completes with the check's status (R54). -/
theorem accept_refused {st : Nat} (hj : judge f s = some st) : ∃ u, accept f t1 s = complete f.ticket st [] u := by
  unfold accept
  simp only [hj]
  exact ⟨_, rfl⟩

/-- The Steward's working state of an accepted command (R57, R72). -/
theorem accept_work (hj : judge f s = none) (ht : f.ticket < 128) :
    (accept f t1 s).work f.ticket = some (acceptWork s f t1) := by
  unfold accept
  simp only [hj]
  split <;> exact tget_tmod_same _ _ _ ht

/-- Acceptance touches no other ticket. -/
theorem accept_ticket_other (hj : judge f s = none) {k : Nat} (hk : k ≠ f.ticket) :
    (accept f t1 s).ticket k = s.ticket k := by
  unfold accept
  simp only [hj]
  split <;> exact tget_tmod_other _ _ _ _ (Ne.symm hk)

end

/-! ### Taking a command mailbox -/

section
variable {n : Nat} {s : State}

/-- An unsound frame sets BAD_FRAME (R52). -/
theorem takeMailbox_unsound (h : (mailboxFrame s n).sound = false) :
    takeMailbox n s = returnMailbox n (frontErr s (fun h => { h with badFrame := true, badFrameMb := n })) := by
  simp [takeMailbox, h]

/-- A sound frame whose ticket is in flight is answered NO_TICKET (R52). -/
theorem takeMailbox_inFlight (h : (mailboxFrame s n).sound = true) (ht : (s.ticket (mailboxFrame s n).ticket).state ≠ .free) :
    takeMailbox n s = returnMailbox n (duplicate (mailboxFrame s n) false s) := by
  simp [takeMailbox, h, ht]

/-- A sound frame with a FREE ticket is judged (R52, R54). -/
theorem takeMailbox_free (h : (mailboxFrame s n).sound = true) (ht : (s.ticket (mailboxFrame s n).ticket).state = .free) :
    takeMailbox n s = returnMailbox n (accept (mailboxFrame s n) false s) := by
  simp [takeMailbox, h, ht]

/-- Whatever its frame, the mailbox goes back, and its frame touches neither the window nor who owns what (R46). -/
theorem takeMailbox_returns (n : Nat) (s : State) : ∃ u, takeMailbox n s = returnMailbox n u ∧
    u.host.cmdOwner = s.host.cmdOwner ∧ u.host.doorbell = s.host.doorbell ∧ u.host.window = s.host.window := by
  cases hsound : (mailboxFrame s n).sound with
  | false =>
    refine ⟨_, takeMailbox_unsound hsound, ?_⟩
    rw [frontErr_host]
    exact ⟨rfl, rfl, rfl⟩
  | true =>
    by_cases hfree : (s.ticket (mailboxFrame s n).ticket).state = .free
    · refine ⟨_, takeMailbox_free hsound hfree, ?_⟩
      rw [accept_host]
      exact ⟨rfl, rfl, rfl⟩
    · exact ⟨_, takeMailbox_inFlight hsound hfree, rfl, rfl, rfl⟩

theorem returnMailbox_ticket (n k : Nat) (s : State) : (returnMailbox n s).ticket k = s.ticket k := rfl

theorem returnMailbox_work (n k : Nat) (s : State) : (returnMailbox n s).work k = s.work k := rfl

theorem returnMailbox_cmdFree (n : Nat) (s : State) : (returnMailbox n s).host.intStatus.getLsbD 1 = true := by
  rw [returnMailbox, State.modHost_host, HostLink.raise_getLsbD _ _ (by decide)]
  exact Bool.or_true _

/-- Besides CMD_FREE the return of a mailbox sets no bit of INT_STATUS. -/
theorem returnMailbox_intStatus (n : Nat) (s : State) {i : Nat} (hi : i < 32) (hne : irqCmdFree.testBit i = false) :
    (returnMailbox n s).host.intStatus.getLsbD i = s.host.intStatus.getLsbD i := by
  rw [returnMailbox, State.modHost_host, HostLink.raise_getLsbD _ _ hi, hne, Bool.or_false]

/-- MAILBOX_TAKE at L0 takes the mailbox that was doorbelled first (R46). -/
theorem execMailboxTake_first {rest : List Nat} (hd : s.host.doorbell = n :: rest) (hr : s.stew.running = true)
    (h0 : s.eave.depth = 0) : execMailboxTake s = .next (takeMailbox n s) := by
  simp only [execMailboxTake, hd, hr, h0, and_self, if_true]

end

/-- Settles O14: the three fates of a frame (`takeMailbox_free`, `takeMailbox_inFlight`, `takeMailbox_unsound`), of which each
ends in the mailbox's return. -/
theorem takingACommandMailbox : Obligations.TakingACommandMailbox := by
  unfold Obligations.TakingACommandMailbox
  intro n rest s hd _ hr h0
  have hexec := execMailboxTake_first hd hr h0
  refine ⟨?returned, fun f hf hsound ht hfree hj => ?accepted, fun f st hf hsound ht hfree hj => ?refused,
    fun f hf hsound hbusy => ?inFlight, fun hsound => ?unsound⟩
  case returned =>
    obtain ⟨u, htake, howner, hbell, hwindow⟩ := takeMailbox_returns n s
    rw [htake] at hexec
    refine ⟨_, hexec, congrArg (· &&& ~~~BitVec.twoPow 16 n) howner, ?_, returnMailbox_cmdFree n u, hwindow⟩
    exact (congrArg (List.drop 1) hbell).trans (by rw [hd]; rfl)
  case accepted =>
    subst hf
    obtain ⟨cls, hentry⟩ := accept_ticketEntry (t1 := false) hj ht
    rw [takeMailbox_free hsound hfree] at hexec
    refine ⟨_, hexec, ?_, ?_, ?_, ?_, fun k hk => ?_⟩
    · rw [returnMailbox_ticket, hentry]; rfl
    · rw [returnMailbox_ticket, hentry]; rfl
    · rw [returnMailbox_ticket, hentry]; rfl
    · rw [returnMailbox_work, accept_work hj ht]; rfl
    · rw [returnMailbox_ticket, accept_ticket_other hj hk]
  case refused =>
    subst hf
    obtain ⟨u, hu⟩ := accept_refused (t1 := false) hj
    rw [takeMailbox_free hsound hfree, hu] at hexec
    have hfin := answered_complete (st := st) (d := []) u ht
    exact ⟨_, hexec, hfin.completed, hfin.status⟩
  case inFlight =>
    subst hf
    rw [takeMailbox_inFlight hsound hbusy] at hexec
    exact ⟨_, hexec, rfl, rfl⟩
  case unsound =>
    rw [takeMailbox_unsound hsound] at hexec
    refine ⟨_, hexec, rfl, rfl, ?_, ?_, ?_⟩
    · exact congrArg HostLink.badFrame (frontErr_host _ s)
    · exact congrArg HostLink.badFrameMb (frontErr_host _ s)
    · rw [returnMailbox_intStatus _ _ (by decide) (by decide), frontErr, State.modHost_host, HostLink.flag_frontErr]
      simp

/-! ### Posting a response fragment -/

/-- Fragments that have gone out change the Steward's memory of the ticket and its queue alone. -/
theorem afterFrag_frame (tk f : Nat) (s : State) : afterFrag tk f s = { s with stew := { s.stew with
    works := (afterFrag tk f s).stew.works, postQ := (afterFrag tk f s).stew.postQ } } := by
  unfold afterFrag
  dsimp only
  split <;> split <;> rfl

theorem afterFrag_host (tk f : Nat) (s : State) : (afterFrag tk f s).host = s.host := by rw [afterFrag_frame]

theorem afterFrag_rmb (tk f : Nat) (s : State) : (afterFrag tk f s).stew.rmb = s.stew.rmb := by rw [afterFrag_frame]

section
variable (n : Nat) (b : Bytes) (h : Held) (s : State)

theorem fillMailbox_window : (fillMailbox n b h s).host.window = Memory.writeBytes s.host.window (0x4400 + n * 0x400) b := rfl

theorem fillMailbox_rspReady : (fillMailbox n b h s).host.rspReady = s.host.rspReady ||| BitVec.twoPow 16 n := rfl

/-- RSP is set when a response mailbox is handed to the host (R47). -/
theorem fillMailbox_rsp : (fillMailbox n b h s).host.intStatus.getLsbD 0 = true := by
  rw [fillMailbox, State.modHost_host, HostLink.raise_getLsbD _ _ (by decide)]
  exact Bool.or_true _

theorem fillMailbox_rmb (hn : n < 16) : tget (fillMailbox n b h s).stew.rmb n = some h := tget_tmod_same _ _ _ hn

end

section
variable {tk n f : Nat} {w : Work} {s : State} (hw : s.work tk = some w) (ht : w.t1 = false) (hn : freeMailbox s = some n)
include hw ht hn

/-- A response of the SPI path can go out while a response mailbox is free (R47). -/
theorem postable_mailbox : postable s (.ticket tk) = true := by
  simp [postable, hw, viaMailbox, ht, hn]

/-- Its next fragment fills the lowest-numbered free mailbox (R47). -/
theorem postTicket_mailbox (hf : w.nextFrag = some f) :
    postTicket tk s = afterFrag tk f (fillMailbox n (fragBytes tk f w) (.frag tk f) (s.modWork tk (fun _ => w))) := by
  simp [postTicket, hw, viaMailbox, ht, hf, hn]

end

/-- RESPONSE_POST takes the front item where that can go out (R47). -/
theorem execResponsePost_front {tk : Nat} {rest : List PostItem} {s : State} (hr : s.stew.running = true)
    (hq : s.stew.postQ = .ticket tk :: rest) (hp : postable s (.ticket tk) = true) :
    execResponsePost s = .next (postTicket tk s) := by
  simp [execResponsePost, hr, hq, hp]

/-- Settles O15: the fragment in front fills the mailbox (`postTicket_mailbox`), and what follows touches neither the window
nor the mailboxes (`afterFrag_frame`). -/
theorem postingAResponseFragment : Obligations.PostingAResponseFragment := by
  unfold Obligations.PostingAResponseFragment
  intro tk n f w rest s _ hn16 hr hq hw ht hf hn hlen
  refine ⟨_, (execResponsePost_front hr hq (postable_mailbox hw ht hn)).trans (next_congr (postTicket_mailbox hw ht hn hf)),
    ?_, ?_, ?_, ?_, fun x hx => ?_⟩
  · rw [afterFrag_host, fillMailbox_rspReady, modWork_host]
  · rw [afterFrag_host, fillMailbox_rsp]
  · rw [afterFrag_host, fillMailbox_window, modWork_host]
  · rw [afterFrag_rmb, fillMailbox_rmb _ _ _ _ hn16]
  · rw [afterFrag_host, fillMailbox_window, modWork_host]
    exact Memory.read_writeBytes_other _ x _ _ (by omega)

/-! ### Timers of the host link -/

/-- HEARTBEAT at 0x0004 of the window (R44). -/
def heartbeatOf (h : HostLink) : Nat := leNat (Memory.readBytes h.window 4 4)

/-- The host link after a beat at the epoch `now` (R44). -/
def HostLink.beaten (h : HostLink) (now : Nat) : HostLink :=
  { h with window := Memory.writeBytes h.window 4 (leBytes 4 (wrapAdd 32 (heartbeatOf h) 1))
           heartbeatSeen := true
           beatAt := now + lsbOfMs 1 }

/-- A beat counts HEARTBEAT on, modulo its 32 bits (R44). -/
theorem heartbeatOf_beaten {h : HostLink} (hw : Memory.wf h.window = true) (now : Nat) :
    heartbeatOf (h.beaten now) = (heartbeatOf h + 1) % 2 ^ 32 := by
  have hback := Memory.readBytes_writeBytes hw 4 (leBytes 4 (wrapAdd 32 (heartbeatOf h) 1))
  rw [leBytes_length] at hback
  rw [heartbeatOf, HostLink.beaten, hback, leNat_leBytes, wrapAdd]
  exact Nat.mod_mod _ _

theorem execHeartbeat_beats {s : State} (hr : s.stew.running = true) (hd : s.eave.depth ≤ 1)
    (hc : clearUntil s.host.beatAt s = true) :
    execHeartbeat s = .next ((reach s.host.beatAt s).modHost (·.beaten (reach s.host.beatAt s).now)) := by
  rw [execHeartbeat, if_pos ⟨hr, hd⟩, atDue_clear hc]
  rfl

/-- Settles O16: each timer is one change of the host link at the stamp it falls due (`atDue_clear`), and passing time changes
the time base alone (`reach_frame`). -/
theorem hostLinkTimers : Obligations.HostLinkTimers := by
  unfold Obligations.HostLinkTimers
  intro s
  refine ⟨fun d hd hc => ?hold, fun t0 l hl hn hc => ?delay, fun hr hd hc => ?beat⟩
  case hold =>
    have hexec : execHostHoldExpire s = .next ((reach d s).modHost (fun h => { h with holdUntil := none })) := by
      simp only [execHostHoldExpire, hd, atDue_clear hc]
    exact ⟨_, hexec, rfl, by rw [reach_frame]; rfl⟩
  case delay =>
    have hexec : execEvtIrqDelayExpire s =
        .next ((reach (t0 + lsbOfMs (s.nat 1 7)) s).modHost (fun h => h.raise irqEvt)) := by
      simp only [execEvtIrqDelayExpire, hl, hn, if_false, atDue_clear hc]
    refine ⟨_, hexec, ?_, by rw [reach_frame]; rfl⟩
    rw [State.modHost_host, HostLink.raise_getLsbD _ _ (by decide)]
    exact Bool.or_true _
  case beat =>
    have hbytes : (leBytes 4 (wrapAdd 32 (heartbeatOf s.host) 1)).length = 4 := leBytes_length _ _
    refine ⟨_, execHeartbeat_beats hr hd hc, rfl, rfl, fun hok => ?_, fun x hx => ?_, by rw [reach_frame]; rfl⟩ <;>
      rw [State.modHost_host, reach_host]
    · exact heartbeatOf_beaten hok.1 _
    · exact Memory.read_writeBytes_other _ x _ _ (by omega)

end Sys2Proof.Machine
end

section
/-! SUPPORT. Commands that read: a command that only reads answers from the state as it stands (R72, R73, R79). -/

namespace Sys2Proof.Machine

/-- A command that may start and only reads is answered OK, and nothing else changes. -/
theorem command_reads {tk op : Nat} {d : Work → State → Bytes} {s : State} {w : Work} (ht : tk < 128)
    (h : startable tk op s = some w) :
    ∃ t, (.next (command tk op (fun w s => complete tk St.ok (d w s) s) s) : Out) = .next t ∧
      Answered tk St.ok (d w s) s t :=
  ⟨_, next_congr (command_start h), answered_complete s ht⟩

/-- A fan-out that only reads answers every tile of the walk from the one state (R72, R73). -/
theorem fanOut_reads {tk op : Nat} {d : Nat → State → Bytes} {s : State} {w : Work} (ht : tk < 128)
    (h : startable tk op s = some w) :
    ∃ t, (.next (fanOut tk op (fun n _ s => (s, St.ok, d n s)) s) : Out) = .next t ∧ TilesAnswered tk w.walk
      ((commandTiles w).map (fun n => { node := n, status := St.ok, data := d n s })) s t := by
  refine ⟨_, next_congr (command_start h), ?_⟩
  rw [walkTiles_read (f := fun n s => (St.ok, d n s))]
  exact tilesAnswered_completeTiles _ _ s ht

theorem leNat_take_leBytes_append (n v : Nat) (b : Bytes) : leNat ((leBytes n v ++ b).take n) = v % 256 ^ n := by
  rw [List.take_append_of_le_length (Nat.le_of_eq (leBytes_length n v).symm),
    List.take_of_length_le (Nat.le_of_eq (leBytes_length n v)), leNat_leBytes]

theorem flatMap_leBytes_length (k : Nat) (l : List Nat) : (l.flatMap (leBytes k)).length = k * l.length := by
  simp [List.length_flatMap, leBytes_length, Nat.mul_comm]

/-- Settles O18: each command is one `command_reads`, NODE.PROBE a fan-out whose entries come from the one state. -/
theorem nodeReadsAnswer : Obligations.NodeReadsAnswer := by
  unfold Obligations.NodeReadsAnswer
  intro tk s w
  refine ⟨command_reads tk.isLt, fun h => ⟨_, _, next_congr (command_start h), answered_complete s tk.isLt, rfl⟩,
    fun h => ⟨_, _, next_congr (command_start h), rfl, answered_complete s tk.isLt⟩,
    fun h => ⟨_, _, next_congr (command_start h), answered_complete s tk.isLt, ?node, ?length⟩,
    fun h => ⟨_, next_congr (command_start h), tilesAnswered_completeTiles _ _ s tk.isLt⟩⟩
  case node =>
    simp only [u16At, slice, List.drop_zero, List.append_assoc, leNat_take_leBytes_append]
    rfl
  case length =>
    simp only [List.length_append, leBytes_length, flatMap_leBytes_length, zeros, List.length_replicate]

/-- Settles O20: each of these commands is a fan-out whose tiles only read (`fanOut_reads`). -/
theorem tileReadsAnswer : Obligations.TileReadsAnswer := by
  unfold Obligations.TileReadsAnswer
  intro tk s w
  exact ⟨fanOut_reads tk.isLt, fanOut_reads tk.isLt, fanOut_reads tk.isLt, fanOut_reads tk.isLt, fanOut_reads tk.isLt,
    fanOut_reads tk.isLt, fanOut_reads tk.isLt, fanOut_reads tk.isLt⟩

end Sys2Proof.Machine
end

section
/-! SUPPORT. Domains that come on and that fail: what begins with a domain leaves the domains alone, and what the note of a fault
does to domains, tickets and the log (R77, R124, R125, R132). -/

namespace Sys2Proof.Machine

/-! ### What leaves the domains alone -/

/-- A fold of operations that leave modes and domains alone does so too. -/
theorem foldl_power {α : Type} {f : State → α → State} (hf : ∀ s x, (f s x).power = s.power) (l : List α) (s : State) :
    (l.foldl f s).power = s.power := by
  induction l generalizing s with
  | nil => rfl
  | cons x xs ih => exact (ih _).trans (hf s x)

section
variable (s : State)

theorem enterSettle_power (f : Nat) : (enterSettle f s).power = s.power := by
  unfold enterSettle
  split <;> rfl

theorem leaveRx_power (f : Nat) : (leaveRx f s).power = s.power := by
  unfold leaveRx
  split
  · rfl
  · rw [enterSettle_power, State.modUhf_power]

theorem accessBegin_power : (accessBegin s).power = s.power := by
  unfold accessBegin
  split
  · dsimp only
    split
    · rfl
    · split
      · split
        · rfl
        · rw [leaveRx_power, State.modUhf_power]
      · rw [enterSettle_power, State.modUhf_power]
      · rw [enterSettle_power, State.modUhf_power]
      · rfl
  · rfl

theorem uhfPick_power : (uhfPick s).power = s.power := by
  unfold uhfPick
  split
  · rfl
  · split
    · dsimp only
      split
      · rfl
      · rw [enterSettle_power, start_power, State.modUhf_power]
    · rfl

theorem uhfIdle_power : (uhfIdle s).power = s.power := by
  unfold uhfIdle
  dsimp only
  split
  · split
    · rw [uhfPick_power, accessBegin_power, State.modUhf_power]
    · rfl
  · rw [uhfPick_power, accessBegin_power, State.modUhf_power]

theorem updateHold_power (n : Nat) : (updateHold n s).power = s.power := by
  unfold updateHold
  dsimp only
  split
  · split
    · split <;> rfl
    · rfl
  · split
    · split <;> rfl
    · rfl

theorem bringUp_power (n c : Nat) : (bringUp n c s).power = s.power := by
  rw [bringUp, updateHold_power, emit_power]
  rfl

theorem netOn_power : (netOn s).power = s.power :=
  foldl_power (fun t n => by split; exacts [rfl, bringUp_power t n 6]) _ s

theorem pump_power : (pump s).power = s.power := by
  unfold pump
  split
  · rfl
  · split
    · rfl
    · simp only [apply_ite State.power, emit_power, State.modStore_power, ite_self]

/-! ### Recovery -/

theorem applyAct_power (a : StoreAct) : (applyAct a s).power = s.power := by
  cases a with
  | page p => unfold applyAct; dsimp only; split <;> rfl
  | _ => rfl

theorem interrupted_power (k b n : Nat) : (interrupted k b n s).power = s.power := emit_power ..

theorem tornEvent_power (a n : Nat) : (tornEvent a n s).power = s.power := emit_power ..

theorem recoverCut_power : (recoverCut s).power = s.power := by
  unfold recoverCut
  dsimp only
  cases s.store.cut with
  | none => rfl
  | some a =>
    cases a with
    | record r => exact tornEvent_power ..
    | unit k => dsimp only; split; exacts [tornEvent_power .., rfl]
    | logErase i => exact interrupted_power ..
    | ringErase => exact interrupted_power ..
    | counterErase i => exact (interrupted_power ..).trans (applyAct_power ..)
    | charterErase => rfl
    | charterProgram => rfl
    | lockBits => dsimp only; split <;> rfl
    | page p => exact tornEvent_power ..
    | blockErase p => rfl
    | relocate p b => dsimp only; split <;> exact interrupted_power ..

theorem recoverConflicts_power : (recoverConflicts s).power = s.power :=
  foldl_power (fun t p => by rw [emit_power, applyAct_power]) _ s

theorem recoverCompaction_power : (recoverCompaction s).power = s.power := by
  unfold recoverCompaction
  split
  · dsimp only
    split
    · rw [interrupted_power, State.modStore_power]
    · rfl
  · rfl

theorem recoverCounterErase_power : (recoverCounterErase s).power = s.power := by
  unfold recoverCounterErase
  split
  · split
    · dsimp only
      rw [interrupted_power, applyAct_power, applyAct_power]
    · rfl
  · rfl

theorem recoverCounters_power : (recoverCounters s).power = s.power :=
  foldl_power (fun t c => by rw [interrupted_power]; split; exacts [applyAct_power .., rfl]) _ s

theorem recoverSets_power : (recoverSets s).power = s.power :=
  (foldl_power (fun t _ => interrupted_power t ..) _ _).trans rfl

theorem recoverCharter_power : (recoverCharter s).power = s.power := by
  unfold recoverCharter
  dsimp only
  rw [State.modStore_power]
  split
  · rfl
  · split
    · rw [interrupted_power, State.modStore_power]
    · rfl

theorem recoverStore_power : (recoverStore s).power = s.power := by
  rw [recoverStore, recoverCharter_power, recoverSets_power, recoverCounters_power, recoverCounterErase_power,
    recoverCompaction_power, recoverConflicts_power, recoverCut_power, State.modStore_power]

/-- What begins when a domain reaches its working state leaves the domains alone (R124). -/
theorem onHook_power (d : Nat) : (onHook d s).power = s.power := by
  unfold onHook
  split
  · rfl
  · unfold uhfOn
    split
    · exact uhfIdle_power s
    · rfl
  · rfl
  · exact netOn_power s
  · rw [pump_power]
    split
    · exact recoverStore_power s
    · rfl
  · rfl

end

/-! ### One domain switched -/

section
variable {d : Nat} (hd : d < 10)
include hd

/-- A domain that comes on is counted and stamped (R124, R132). -/
theorem Power.switchOn_same {p : Power} (now : Nat) (h : (tget p.domains d).state ≠ .on) :
    tget (p.switchOn now d).domains d = { tget p.domains d with
      state := .on, onCount := wrapAdd 32 (tget p.domains d).onCount 1, since := now } :=
  (tget_tmod_same _ _ _ hd).trans (if_neg h)

theorem Power.switchOff_state (p : Power) (now : Nat) : (tget (p.switchOff now d).domains d).state = .off := by
  rw [Power.switchOff, tget_tmod_same _ _ _ hd]
  split <;> rfl

theorem Power.switchOff_faults (p : Power) (now : Nat) :
    (tget (p.switchOff now d).domains d).faults = (tget p.domains d).faults := by
  rw [Power.switchOff, tget_tmod_same _ _ _ hd]
  split <;> rfl

/-- A domain switched off is off, whatever its withdrawal ends. -/
theorem domainOff_state (st : Nat) (s : State) : (tget (domainOff st d s).power.domains d).state = .off := by
  unfold domainOff
  split <;> exact Power.switchOff_state hd _ _

end

/-- So is one that goes off after those that need it (R125). -/
theorem dependentsOff_state {d : Nat} (hd : d < 10) (st : Nat) (s : State) :
    (tget ((dependents d).foldl (fun t e => domainOff st e t) s).power.domains d).state = .off := by
  rw [dependents, List.foldl_append]
  exact domainOff_state hd st _

theorem Power.switchOff_other {d e : Nat} (h : e ≠ d) (p : Power) (now : Nat) :
    tget (p.switchOff now d).domains e = tget p.domains e := tget_tmod_other _ _ _ _ (Ne.symm h)

/-- A domain that is not on is switched off with nothing to end. -/
theorem domainOff_unpowered {st d : Nat} {s : State} (h : s.powered d = false) :
    domainOff st d s = s.modPower (fun p => p.switchOff s.now d) := if_neg (by simp [h])

/-! ### DOMAIN_READY -/

theorem needsMet_iff {s : State} {d : Nat} : needsMet s d = true ↔
    (∀ e ∈ domainNeeds d, s.powered e = true) ∧ s.eave.depth ≤ depthFor d ∧
      (d = 9 → s.powered 2 = true ∨ s.powered 3 = true) := by
  simp only [needsMet, Bool.and_eq_true, List.all_eq_true, decide_eq_true_eq, and_assoc]
  by_cases h9 : d = 9 <;> cases s.powered 2 <;> cases s.powered 3 <;> simp [h9]

section
variable {d : Fin 10} {s : State}

/-- A switching domain that has what it needs comes on, and keeps what that makes of it (R124, R132). -/
theorem execDomainReady_on (h : (tget s.power.domains d.val).state = .switching) (h3 : d.val ≠ 3)
    (hn : needsMet s d.val = true) : ∃ t, execDomainReady d s = .next t ∧
      tget t.power.domains d.val = { tget s.power.domains d.val with
        state := .on, onCount := wrapAdd 32 (tget s.power.domains d.val).onCount 1, since := s.now } := by
  refine ⟨_, next_congr (if_pos ⟨h, h3, hn⟩), ?_⟩
  rw [onHook_power]
  exact Power.switchOn_same d.isLt s.now (by rw [h]; decide)

/-- Otherwise nothing happens. -/
theorem execDomainReady_waits
    (h : ¬((tget s.power.domains d.val).state = .switching ∧ d.val ≠ 3 ∧ needsMet s d.val = true)) :
    execDomainReady d s = .next s := next_congr (if_neg h)

end

/-! ### A fault noted -/

/-- From `s` to `t` the fault of domain `d` has been counted `n` times, and neither another domain nor Eave nor the epoch has
changed (R132). -/
structure FaultNoted (d n : Nat) (s t : State) : Prop where
  faults : tget t.power.domains d = { tget s.power.domains d with faults := satAdd 0xFF (tget s.power.domains d).faults n }
  others : ∀ e, e ≠ d → tget t.power.domains e = tget s.power.domains e
  eave : t.eave = s.eave
  time : t.time = s.time
  boot : s.boot.phase ≠ .cold → t.boot = s.boot

theorem FaultNoted.trans {d m n : Nat} {r s t : State} (h : FaultNoted d m r s) (k : FaultNoted d n s t) :
    FaultNoted d (m + n) r t where
  faults := by
    have hsat (v : Nat) : satAdd 0xFF (satAdd 0xFF v m) n = satAdd 0xFF v (m + n) := by unfold satAdd; omega
    rw [k.faults, h.faults, hsat]
  others e he := (k.others e he).trans (h.others e he)
  eave := k.eave.trans h.eave
  time := k.time.trans h.time
  boot hp := (k.boot (by rw [h.boot hp]; exact hp)).trans (h.boot hp)

/-- FAULTS of a domain has risen by one (R132). -/
def faultCounted (d : Nat) (s : State) : State :=
  s.modPower (fun p => { p with domains := tmod p.domains d (fun y => { y with faults := satAdd 0xFF y.faults 1 }) })

section
variable (d : Nat) (rail : Bool) (tk : Nat) (s : State)

/-- Once the epoch is loaded a fault is event 0x0406 (R125). -/
theorem domainFault_warm (hp : s.boot.phase ≠ .cold) : domainFault d rail tk s =
    emit 3 0x0406 (leBytes 1 d ++ leBytes 1 (b1 rail)) 0 tk (faultCounted d s) := if_neg hp

/-- A fault changes FAULTS and the log, or what a cold start is to log (R125, R462). -/
theorem domainFault_frame : domainFault d rail tk s =
    { withEvents (faultCounted d s) (domainFault d rail tk s) with boot := (domainFault d rail tk s).boot } := by
  by_cases hp : s.boot.phase = .cold
  · have hcold : domainFault d rail tk s = report 3 0x0406 (leBytes 1 d ++ leBytes 1 (b1 rail)) 0 (faultCounted d s) := if_pos hp
    rw [hcold, report, if_pos (show (faultCounted d s).boot.phase = .cold from hp)]
    rfl
  · rw [domainFault_warm d rail tk s hp, emit_frame]

theorem domainFault_logged (hp : s.boot.phase ≠ .cold) :
    Logged s.now 0x0406 0 tk (leBytes 1 d ++ leBytes 1 (b1 rail)) s (domainFault d rail tk s) := by
  rw [domainFault_warm d rail tk s hp]
  exact emit_logged 3 0x0406 0 tk _ (faultCounted d s)

theorem domainFault_ticket (k : Nat) : (domainFault d rail tk s).ticket k = s.ticket k := by
  rw [domainFault_frame]
  rfl

theorem domainFault_noted (hd : d < 10) : FaultNoted d 1 s (domainFault d rail tk s) := by
  refine ⟨?_, fun e he => ?_, ?_, ?_, fun hp => by rw [domainFault_warm d rail tk s hp, emit_boot]; rfl⟩ <;>
    rw [domainFault_frame]
  · exact tget_tmod_same _ _ _ hd
  · exact tget_tmod_other _ _ _ _ (Ne.symm he)
  · rfl
  · rfl

/-- A ticket that a fault ends is a change elsewhere. -/
theorem failTicket_noted (hd : d < 10) : FaultNoted d 1 s (failTicket d rail tk s) := by
  unfold failTicket
  split
  · have h := domainFault_noted d rail tk (refuseWaiting tk St.internal s) hd
    exact ⟨h.faults, h.others, h.eave, h.time, h.boot⟩
  · exact domainFault_noted d rail tk s hd

end

section
variable {d : Nat} (rail : Bool)

theorem failTickets_noted (hd : d < 10) (tks : List Nat) {n : Nat} {r s : State} (h : FaultNoted d n r s) :
    FaultNoted d (n + tks.length) r (tks.foldl (fun t tk => failTicket d rail tk t) s) := by
  induction tks generalizing n s with
  | nil => exact h
  | cons tk tks ih =>
    rw [List.length_cons, Nat.add_comm tks.length 1, ← Nat.add_assoc]
    exact ih (h.trans (failTicket_noted d rail tk s hd))

/-- A fault is counted once for each ticket that it ends, and once without a ticket (R125, R132). -/
theorem noteFault_noted (hd : d < 10) (tks : List Nat) (s : State) :
    FaultNoted d (max 1 tks.length) s (noteFault d rail tks s) := by
  cases tks with
  | nil => exact domainFault_noted d rail 0xFF s hd
  | cons tk tks =>
    rw [List.length_cons, show max 1 (tks.length + 1) = 1 + tks.length by omega]
    exact failTickets_noted rail hd tks (failTicket_noted d rail tk s hd)

/-- With tickets to end, the fault is noted ticket by ticket. -/
theorem noteFault_tickets {k : Nat} {tks : List Nat} (h : k ∈ tks) (s : State) :
    noteFault d rail tks s = tks.foldl (fun t tk => failTicket d rail tk t) s := by
  cases tks with
  | nil => cases h
  | cons tk tks => rfl

end

/-! ### The tickets that a fault ends -/

/-- The ticket's command has completed INTERNAL (R77). -/
def EndedInternal (k : Nat) (s : State) : Prop := (s.ticket k).state = .completed ∧ (s.ticket k).status = St.internal

section
variable (d : Nat) (rail : Bool) {k tk : Nat} {s : State}

theorem failTicket_ends (hk : k < 128) (h : (s.ticket k).state = .accepted) : EndedInternal k (failTicket d rail k s) := by
  have hfin := answered_complete (st := St.internal) (d := [])
    (s.modRange (fun r => { r with cables := r.cables.filter (fun c => c.ticket != k) })) hk
  rw [failTicket, if_pos (Or.inl h), EndedInternal, domainFault_ticket]
  exact ⟨hfin.completed, hfin.status⟩

theorem failTicket_other (h : k ≠ tk) : (failTicket d rail tk s).ticket k = s.ticket k := by
  rw [failTicket, domainFault_ticket]
  split
  · exact tget_tmod_other _ _ _ _ (Ne.symm h)
  · rfl

theorem failTicket_ended (h : EndedInternal k s) : EndedInternal k (failTicket d rail tk s) := by
  by_cases hk : k = tk
  · subst hk
    rw [failTicket, if_neg (by simp [h.1]), EndedInternal, domainFault_ticket]
    exact h
  · rw [EndedInternal, failTicket_other d rail hk]
    exact h

theorem failTickets_ended (tks : List Nat) (h : EndedInternal k s) :
    EndedInternal k (tks.foldl (fun t tk => failTicket d rail tk t) s) := by
  induction tks generalizing s with
  | nil => exact h
  | cons tk tks ih => exact ih (failTicket_ended d rail h)

/-- Every waiting ticket that the fault names ends INTERNAL (R77, R125). -/
theorem failTickets_end {tks : List Nat} (hm : k ∈ tks) (hk : k < 128) (h : (s.ticket k).state = .accepted) :
    EndedInternal k (tks.foldl (fun t tk => failTicket d rail tk t) s) := by
  induction tks generalizing s with
  | nil => cases hm
  | cons tk tks ih =>
    by_cases he : k = tk
    · subst he
      exact failTickets_ended d rail tks (failTicket_ends d rail hk h)
    · exact ih (List.mem_of_ne_of_mem he hm) (by rw [failTicket_other d rail he]; exact h)

end

/-! ### The log of a fault -/

/-- An event 0x0406 of a fault of domain `d`, with this stamp and ticket (R125). -/
def FaultRecord (stamp d : Nat) (rail : Bool) (k : Nat) (e : Nat × EvRec) : Prop :=
  e.2.stamp = stamp ∧ e.2.code = 0x0406 ∧ e.2.ticket = k ∧
    e.2.data = (leBytes 1 d ++ leBytes 1 (b1 rail) ++ zeros 12).take 12

section
variable {d : Nat} {rail : Bool} {k : Nat} {s : State}

/-- Each ticket that a fault ends is one record, while the log has room (R447, R448). -/
theorem failTicket_sort (tk : Nat) (hp : s.boot.phase ≠ .cold) : ∃ e, FaultRecord s.now d rail tk e ∧
    (failTicket d rail tk s).safe.sort = if s.safe.sort.length < 2048 then s.safe.sort ++ [e] else s.safe.sort := by
  have hfault (u : State) (hu : u.boot.phase ≠ .cold) : ∃ e, FaultRecord u.now d rail tk e ∧
      (domainFault d rail tk u).safe.sort = if u.safe.sort.length < 2048 then u.safe.sort ++ [e] else u.safe.sort := by
    rw [domainFault_warm d rail tk u hu, emit, emitAs, putEvent_sort]
    exact ⟨_, ⟨rfl, rfl, rfl, rfl⟩, rfl⟩
  unfold failTicket
  split
  · exact hfault (refuseWaiting tk St.internal s) hp
  · exact hfault s hp

theorem failTickets_log_keeps {e : Nat × EvRec} (hd : d < 10) (tks : List Nat) (hp : s.boot.phase ≠ .cold)
    (he : e ∈ s.safe.sort) : e ∈ (tks.foldl (fun t tk => failTicket d rail tk t) s).safe.sort := by
  induction tks generalizing s with
  | nil => exact he
  | cons tk tks ih =>
    obtain ⟨r, -, hsort⟩ := failTicket_sort (d := d) (rail := rail) tk hp
    refine ih (by rw [(failTicket_noted d rail tk s hd).boot hp]; exact hp) ?_
    rw [hsort]
    split
    · exact List.mem_append_left _ he
    · exact he

/-- While the log has room for them all, every ticket that a fault ends has its record (R77, R125). -/
theorem failTickets_logged {tks : List Nat} (hd : d < 10) (hm : k ∈ tks) (hp : s.boot.phase ≠ .cold)
    (hroom : s.safe.sort.length + tks.length ≤ 2048) :
    ∃ e ∈ (tks.foldl (fun t tk => failTicket d rail tk t) s).safe.sort, FaultRecord s.now d rail k e := by
  induction tks generalizing s with
  | nil => cases hm
  | cons tk tks ih =>
    rw [List.length_cons] at hroom
    obtain ⟨r, hr, hsort⟩ := failTicket_sort (d := d) (rail := rail) tk hp
    rw [if_pos (by omega)] at hsort
    have hnoted := failTicket_noted d rail tk s hd
    have hp' : (failTicket d rail tk s).boot.phase ≠ .cold := by rw [hnoted.boot hp]; exact hp
    by_cases he : k = tk
    · subst he
      exact ⟨r, failTickets_log_keeps hd tks hp' (by rw [hsort]; simp), hr⟩
    · obtain ⟨e, hmem, hrec⟩ := ih (s := failTicket d rail tk s) (List.mem_of_ne_of_mem he hm) hp'
        (by rw [hsort, List.length_append, List.length_singleton]; omega)
      rw [State.now, hnoted.time] at hrec
      exact ⟨e, hmem, hrec⟩

end

/-! ### DOMAIN_FAULT -/

/-- A command that waits for a domain is of a ticket in that state. -/
theorem mem_needing {k : Nat} {st : TicketState} {ds : List Nat} {s : State} (h : k ∈ needing st ds s) :
    k < 128 ∧ (s.ticket k).state = st := by
  obtain ⟨p, hp, rfl⟩ := List.mem_map.mp h
  obtain ⟨hflight, hcond⟩ := List.mem_filter.mp hp
  obtain ⟨t, ht, hw⟩ := List.mem_filterMap.mp (List.mem_mergeSort.mp hflight)
  obtain ⟨w, -, rfl⟩ := Option.map_eq_some_iff.mp hw
  exact ⟨List.mem_range.mp ht, eq_of_beq (Bool.and_eq_true_iff.mp hcond).1⟩

section
variable {d : Fin 10} {s : State} (h2 : 2 ≤ d.val) (h3 : d.val ≠ 3)
include h2 h3

/-- A switching domain that misses its on-time goes off, and the fault is noted with the commands that wait for it (R125). -/
theorem execDomainFault_switching (rail : Bool) (h : (tget s.power.domains d.val).state = .switching) :
    execDomainFault d rail s = .next (noteFault d.val rail (needing .accepted [d.val] s)
      (s.modPower (fun p => p.switchOff s.now d.val))) := by
  have hoff : s.powered d.val = false := by rw [State.powered, h]; rfl
  simp [execDomainFault, h3, h, show ¬d.val < 2 by omega, domainOff_unpowered hoff]

/-- A domain that loses its rail goes off after those that need it, and the fault is noted (R125). -/
theorem execDomainFault_on (h : (tget s.power.domains d.val).state = .on) :
    execDomainFault d true s = .next (noteFault d.val true (needing .accepted [d.val] s ++ needing .running [d.val] s)
      ((dependents d.val).foldl (fun t e => domainOff St.internal e t) s)) := by
  simp [execDomainFault, h3, h, show ¬d.val < 2 by omega]

omit h2 in
/-- A domain that is on misses no on-time (R125). -/
theorem execDomainFault_onTime (h : (tget s.power.domains d.val).state = .on) : execDomainFault d false s = .next s :=
  next_congr ((if_neg h3).trans (if_pos (Or.inr (Or.inr ⟨rfl, by rw [h]; decide⟩))))

end

/-- A fault of PD3 CORE's rail switches it off and is noted (R125). -/
theorem execDomainFault_core {s : State} (hp : s.boot.phase = .run) (h3 : s.powered 3 = true) :
    ∃ tks, execDomainFault 3 true s = .next (noteFault 3 true tks (coreOff s)) := by
  refine ⟨_, next_congr ((if_pos rfl).trans ((if_neg ?_).trans (if_pos hp)))⟩
  simp [hp, h3]

/-- PD3 CORE is off, Eave at L4 with no wake running, and the epoch coarse (R125). -/
theorem coreOff_spec (s : State) : (tget (coreOff s).power.domains 3).state = .off ∧ (coreOff s).eave.depth = 4 ∧
    (coreOff s).eave.waking = none ∧ (coreOff s).time.fine = false :=
  ⟨Power.switchOff_state (by decide) _ _, rfl, rfl, rfl⟩

/-- Settles O30: a domain that comes on keeps what that makes of it (`onHook_power`), and the note of a fault changes of the
domains its FAULTS alone (`noteFault_noted`). -/
theorem domainsSwitch : Obligations.DomainsSwitch := by
  unfold Obligations.DomainsSwitch
  intro d s
  refine ⟨fun h h3 hneeds h9 hdepth => ?ready, fun h => ?waits, fun h2 h3 h rail => ?missed, fun h2 h3 h => ⟨?rail, ?onTime⟩,
    fun hp h3 => ?core⟩
  case ready =>
    obtain ⟨t, hexec, hdom⟩ := execDomainReady_on h h3 (needsMet_iff.mpr ⟨hneeds, hdepth, h9⟩)
    refine ⟨t, hexec, ?_, ?_, ?_⟩
    · rw [State.powered, hdom]; rfl
    · rw [hdom]
    · rw [hdom]
  case waits =>
    refine ⟨s, execDomainReady_waits (fun ⟨hsw, hne, hmet⟩ => ?_), rfl⟩
    obtain ⟨hneeds, hdepth, -⟩ := needsMet_iff.mp hmet
    obtain h | h | ⟨e, he, hoff⟩ | h := h
    · exact h hsw
    · exact hne h
    · rw [hneeds e he] at hoff
      cases hoff
    · omega
  case missed =>
    have hnoted := noteFault_noted rail d.isLt (needing .accepted [d.val] s) (s.modPower (fun p => p.switchOff s.now d.val))
    refine ⟨_, execDomainFault_switching h2 h3 rail h, ?_, ?_, fun hnone hp => ?_, fun k hk => ?_, fun e he => ?_⟩
    · rw [hnoted.faults]
      exact Power.switchOff_state d.isLt _ _
    · rw [hnoted.faults]
      exact congrArg (satAdd 0xFF · _) (Power.switchOff_faults d.isLt s.power s.now)
    · rw [hnone]
      exact domainFault_logged d.val rail 0xFF (s.modPower (fun p => p.switchOff s.now d.val)) hp
    · obtain ⟨hlt, hacc⟩ := mem_needing hk
      rw [noteFault_tickets rail hk]
      obtain ⟨hstate, hstatus⟩ := failTickets_end d.val rail (s := s.modPower (fun p => p.switchOff s.now d.val)) hk hlt hacc
      exact ⟨hstate, hstatus, fun hp hroom =>
        failTickets_logged (s := s.modPower (fun p => p.switchOff s.now d.val)) d.isLt hk hp hroom⟩
    · rw [hnoted.others e he]
      exact Power.switchOff_other he _ _
  case rail =>
    refine ⟨_, execDomainFault_on h2 h3 h, ?_⟩
    rw [(noteFault_noted true d.isLt _ _).faults]
    exact dependentsOff_state d.isLt St.internal s
  case onTime => exact ⟨s, execDomainFault_onTime h3 h, rfl⟩
  case core =>
    obtain ⟨tks, hexec⟩ := execDomainFault_core hp h3
    obtain ⟨hoff, hdepth, hwake, hfine⟩ := coreOff_spec s
    have hnoted := noteFault_noted true (d := 3) (by decide) tks (coreOff s)
    refine ⟨_, hexec, ?_, ?_, ?_, ?_⟩
    · rw [State.powered, hnoted.faults, hoff]; rfl
    · rw [hnoted.eave, hdepth]
    · rw [hnoted.eave, hwake]
    · rw [hnoted.time, hfine]

end Sys2Proof.Machine
end

section
/-! SUPPORT. Passing time: what one clock period adds to the epoch, and that a step on an empty queue is one such period
where nothing of the device's own happens (R82, R84, R85). -/

namespace Sys2Proof.Machine

/-! ### Passing time -/

/-- Only what passing time changes of the time base: the epoch and the remainders below one LSB. -/
def TimeBase.passed (b c : TimeBase) : TimeBase := { b with epoch := c.epoch, rem := c.rem, xsRem := c.xsRem }

theorem advance_passed (k : Nat) (s : State) :
    advance k s = { s with time := s.time.passed (advance k s).time } := by
  unfold advance
  split <;> rfl

theorem reach_passed (k : Nat) (s : State) : reach k s = { s with time := s.time.passed (reach k s).time } := advance_passed _ s

/-- Passing time moves no shutter. -/
@[simp] theorem reach_shut (k n : Nat) (s : State) : (reach k s).shut n = s.shut n := by rw [reach_passed]; rfl

/-- Passing time records no edge. -/
@[simp] theorem reach_cap (k n : Nat) (s : State) : (reach k s).cap n = s.cap n := by rw [reach_passed]; rfl

/-- Passing time brings nothing into the router. -/
@[simp] theorem reach_routing (k : Nat) (s : State) : (reach k s).time.routing = s.time.routing := by rw [reach_passed]; rfl

@[simp] theorem reach_fine (k : Nat) (s : State) : (reach k s).time.fine = s.time.fine := by rw [reach_passed]; rfl

section
variable {s : State}

/-- One period of the fine epoch adds its step to the accumulator (R84). -/
theorem advance_fine {st : Nat} (hd : s.eave.depth ≤ 2) (hf : s.time.fine = true)
    (hstep : periodStep s.eave.depth s.time.slewPpb = st) : advance 1 s = s.modTime (fun b => { b with
      epoch := min lastEpoch (b.epoch + (s.time.rem + st) / 3000000), rem := (s.time.rem + st) % 3000000 }) := by
  have hsum : (s.time.rem : Int) + ((1 : Nat) : Int) * (st : Int) = ((s.time.rem + st : Nat) : Int) := by omega
  refine (if_pos ⟨hd, hf⟩).trans ?_
  rw [hstep, hsum]
  rfl

/-- One XS edge adds its step in units of 2⁻⁸ LSB (R85). -/
theorem advance_xs {st : Nat} (hd : 3 ≤ s.eave.depth) (hstep : xsStep s.time.xsTrim s.time.slewPpb = st) :
    advance 1 s = s.modTime (fun b => { b with
      epoch := min lastEpoch (b.epoch + (s.time.xsRem + st) / 256), xsRem := (s.time.xsRem + st) % 256 }) := by
  have hsum : (s.time.xsRem : Int) + ((1 : Nat) : Int) * (st : Int) = ((s.time.xsRem + st : Nat) : Int) := by omega
  refine (if_neg (by omega)).trans ?_
  rw [hstep, hsum]
  rfl

/-- One period of the fine epoch: its whole LSB, and one more where the accumulator overflows (R84). -/
theorem advance_one_fine {st q r : Nat} (hd : s.eave.depth ≤ 2) (hf : s.time.fine = true)
    (hstep : periodStep s.eave.depth s.time.slewPpb = st) (hst : st = q * 3000000 + r) (hr : r < 3000000)
    (hrem : s.time.rem < 3000000) (hlast : s.now + q + 1 ≤ lastEpoch) :
    (advance 1 s).now = s.now + q + (if 3000000 ≤ s.time.rem + r then 1 else 0) ∧
    (advance 1 s).time.rem = (if 3000000 ≤ s.time.rem + r then s.time.rem + r - 3000000 else s.time.rem + r) ∧
    advance 1 s = { s with time := { s.time with epoch := (advance 1 s).now, rem := (advance 1 s).time.rem } } := by
  have hadvance := advance_fine hd hf hstep
  have hnow : (advance 1 s).now = min lastEpoch (s.now + (s.time.rem + st) / 3000000) := by rw [hadvance]; rfl
  have hleft : (advance 1 s).time.rem = (s.time.rem + st) % 3000000 := by rw [hadvance]; rfl
  refine ⟨?_, ?_, by rw [hadvance]; rfl⟩
  · rw [hnow]; split <;> omega
  · rw [hleft]; split <;> omega

/-- Over one XS edge the epoch with its remainder grows by the step, and the remainder stays below one LSB (R85). -/
theorem advance_one_xs {st : Nat} (hd : 3 ≤ s.eave.depth) (hstep : xsStep s.time.xsTrim s.time.slewPpb = st)
    (hlast : s.now + (s.time.xsRem + st) / 256 ≤ lastEpoch) :
    (advance 1 s).now * 256 + (advance 1 s).time.xsRem = s.now * 256 + s.time.xsRem + st ∧
    (advance 1 s).time.xsRem < 256 ∧
    advance 1 s = { s with time := { s.time with epoch := (advance 1 s).now, xsRem := (advance 1 s).time.xsRem } } := by
  have hadvance := advance_xs hd hstep
  have hnow : (advance 1 s).now = min lastEpoch (s.now + (s.time.xsRem + st) / 256) := by rw [hadvance]; rfl
  have hleft : (advance 1 s).time.xsRem = (s.time.xsRem + st) % 256 := by rw [hadvance]; rfl
  refine ⟨?_, ?_, by rw [hadvance]; rfl⟩
  · rw [hnow, hleft]; omega
  · rw [hleft]; omega

/-- Without a slew an XS edge adds one XS period and the trim (R85, R89). -/
theorem xsStep_unslewed (trim : Int) : xsStep trim 0 = 32768 * 256 + trim := by
  unfold xsStep
  omega

/-! ### A step on an empty queue -/

/-- No shutter fires in the next period where every armed compare lies beyond it. -/
theorem nextFire_none {e : Nat} (he : (advance 1 s).now ≤ e)
    (h : ∀ n, n < 16 → (s.shut n).owed = false ∧ ((s.shut n).state = .idle ∨ e < (s.shut n).active)) :
    nextFire s = none := by
  have hnone : (List.range 16).filter (fun n => ((s.shut n).due (advance 1 s).now || (s.shut n).owed) && !firmHeld n s) = [] := by
    refine List.filter_eq_nil_iff.mpr fun n hn => ?_
    obtain ⟨howed, hidle | hbeyond⟩ := h n (List.mem_range.mp hn)
    · simp [Shutter.due, howed, hidle]
    · simp [Shutter.due, howed, show ¬(s.shut n).active ≤ (advance 1 s).now by omega]
  rw [nextFire, hnone]
  rfl

/-- The device's own signals have no edges while no LF sequence and no ranging session runs (R101). -/
theorem ownEdges_quiet (hl : s.lf.seqs = []) (hr : s.range.session = none) : ownEdges s = s := by
  have hfield : fieldEdges s = s := if_pos hl
  rw [ownEdges, hfield, rangeEdges, hr]

/-- A step on an empty queue is one clock period where nothing else happens of its own accord. -/
theorem step_idle {e : Nat} (hp : s.pending = []) (hb : s.boot.phase ≠ .dark) (hx : s.fix.running = false)
    (hlast : s.now < lastEpoch) (hroute : s.time.routing = []) (hsettle : settle s = s) (hl : s.lf.seqs = [])
    (hr : s.range.session = none) (he : (advance 1 s).now ≤ e)
    (h : ∀ n, n < 16 → (s.shut n).owed = false ∧ ((s.shut n).state = .idle ∨ e < (s.shut n).active)) :
    step s = .next (advance 1 s) := by
  have hover : tickOverflows s = false := by simp [tickOverflows, show ¬lastEpoch ≤ s.now by omega]
  have hquiet : ownEdges (advance 1 s) = advance 1 s :=
    ownEdges_quiet (by rw [advance_lf]; exact hl) (by rw [advance_range]; exact hr)
  have htick : tick s = advance 1 s := by
    simp only [tick, hsettle, hb, if_false, nextFire_none he h, hroute, if_true, hquiet, advance_fix, hx, Bool.false_eq_true]
  simp only [step, hp, hover, Bool.false_eq_true, if_false, htick]

end

/-- Settles O3: such a step is one clock period (`step_idle`), whose share of the epoch the depth decides (`advance_one_fine`,
`advance_one_xs`). -/
theorem idleStepIsOneClockPeriod : Obligations.IdleStepIsOneClockPeriod := by
  unfold Obligations.IdleStepIsOneClockPeriod
  intro s hp hb hx hslew hrem hmax hroute hsettle hl hr hsh
  have hidle (hnear : (advance 1 s).now ≤ s.now + 40000) : step s = .next (advance 1 s) :=
    step_idle hp hb hx (by unfold lastEpoch; omega) hroute hsettle hl hr hnear hsh
  refine ⟨fun hd hf => ?awake, fun hd hf => ?light, fun hd hxs hlo hhi => ?deep⟩
  case awake =>
    have hstep : periodStep s.eave.depth s.time.slewPpb = (4194304 : Nat) := by
      rw [hslew, periodStep, if_pos hd]; rfl
    have hspec := advance_one_fine (q := 1) (r := 1194304) (by omega) hf hstep rfl (by decide) hrem (by unfold lastEpoch; omega)
    exact ⟨_, hidle (by rw [hspec.1]; split <;> omega), hspec⟩
  case light =>
    have hstep : periodStep s.eave.depth s.time.slewPpb = (83886080 : Nat) := by
      rw [hslew, periodStep, if_neg (by omega)]; rfl
    have hspec := advance_one_fine (q := 27) (r := 2886080) (by omega) hf hstep rfl (by decide) hrem (by unfold lastEpoch; omega)
    exact ⟨_, hidle (by rw [hspec.1]; split <;> omega), hspec⟩
  case deep =>
    obtain ⟨q, hq⟩ := Int.eq_ofNat_of_zero_le (show 0 ≤ 32768 * 256 + s.time.xsTrim by omega)
    have hstep : xsStep s.time.xsTrim s.time.slewPpb = q := by rw [hslew, xsStep_unslewed, hq]
    obtain ⟨hsum, hlt, hframe⟩ := advance_one_xs hd hstep (by unfold lastEpoch; omega)
    exact ⟨_, hidle (by omega), by omega, hlt, hframe⟩

end Sys2Proof.Machine
end

section
/-! SUPPORT. The commands that read status, TIME.SET, TIME.SLEW and the end of a slew, the trim and the floor of the epoch
(R85, R89, R90, R108). -/

namespace Sys2Proof.Machine

/-- Settles O19: each of these commands only reads (`command_reads`). -/
theorem statusReadsAnswer : Obligations.StatusReadsAnswer := by
  unfold Obligations.StatusReadsAnswer
  intro tk s w
  exact ⟨command_reads tk.isLt, command_reads tk.isLt, command_reads tk.isLt, command_reads tk.isLt, command_reads tk.isLt,
    command_reads tk.isLt, command_reads tk.isLt, command_reads tk.isLt, command_reads tk.isLt, command_reads tk.isLt,
    command_reads tk.isLt, command_reads tk.isLt, command_reads tk.isLt, command_reads tk.isLt, command_reads tk.isLt,
    command_reads tk.isLt, command_reads tk.isLt⟩

/-! ### TIME.SET -/

/-- A fold that leaves its start alone at every element stays there. -/
theorem foldl_stays {α β : Type} {f : β → α → β} {b : β} : ∀ {l : List α}, (∀ a ∈ l, f b a = b) → l.foldl f b = b
  | [], _ => rfl
  | a :: l, h => by
    rw [List.foldl_cons, h a List.mem_cons_self]
    exact foldl_stays fun x hx => h x (List.mem_cons_of_mem a hx)

theorem tget_map {α β : Type} {n : Nat} [Inhabited α] [Inhabited β] (v : Vector α n) (f : α → β) {i : Nat} (h : i < n) :
    tget (v.map f) i = f (tget v i) := by
  simp [tget, Vector.getD, h]

/-- An empty router carries nothing. -/
theorem runRoutes_empty {s : State} (h : s.time.routing = []) (k : Nat) : runRoutes k s = s := by
  cases k with
  | zero => rfl
  | succ k => simp only [runRoutes, h]

/-- A shutter that is idle or whose compare lies beyond is not due (R98). -/
theorem Shutter.not_due {h : Shutter} {now : Nat} (hc : h.state = .idle ∨ now < h.active) : h.due now = false := by
  obtain hidle | hbeyond := hc
  · simp [Shutter.due, hidle]
  · simp [Shutter.due, show ¬h.active ≤ now by omega]

/-- The epoch at `target`: UNSET is clear, and what is measured from a stamp moves with the epoch (R89, R132). -/
def epochMoved (target : Nat) (s : State) : State :=
  keepOnTimes (target - s.now) (s.modTime (fun t => { t with
    epoch := target, unset := false, fineAt := t.fineAt + (target - s.now), trimFrom := t.trimFrom.map (· + (target - s.now)) }))

/-- The time for which a domain has been powered does not take in the step (R132; log entry 164). -/
theorem epochMoved_onTime {target d : Nat} (s : State) (hd : d < 10) (h : s.now < target) :
    s.now - (tget s.power.domains d).since =
      (epochMoved target s).now - (tget (epochMoved target s).power.domains d).since := by
  have hdom : tget (epochMoved target s).power.domains d =
      { tget s.power.domains d with since := (tget s.power.domains d).since + (target - s.now) } := tget_map _ _ hd
  rw [hdom, show (epochMoved target s).now = target from rfl]
  dsimp only
  omega

/-- A step of the epoch that passes no armed compare is its event 0x0202 and nothing more (R89, R109). -/
theorem stepEpoch_clear {target tk : Nat} {s : State} (hroute : s.time.routing = [])
    (h : ∀ n, n < 16 → (s.shut n).state = .idle ∨ target < (s.shut n).active) :
    stepEpoch target tk s = emit 0 0x0202 (leBytes 8 s.now) 0 tk (epochMoved target s) := by
  have hempty : (emit 0 0x0202 (leBytes 8 s.now) 0 tk (epochMoved target s)).time.routing = [] := by
    rw [emit_time]; exact hroute
  refine (congrArg (runRoutes routeDepth) (foldl_stays fun n hn => ?_)).trans (runRoutes_empty hempty _)
  rw [Shutter.not_due (h n (List.mem_range.mp hn))]
  rfl

/-- TIME.SET back is TIME_BACKWARD (R89), with an empty payload (log entry 189). -/
theorem execTimeSet_backward {tk : Fin 128} {s : State} {w : Work} (hs : startable tk.val 0x0202 s = some w)
    (h : u64At w.req.payload 0 ≤ s.now) : execTimeSet tk s = .next (complete tk.val St.timeBackward [] s) :=
  next_congr ((command_start hs).trans (if_pos h))

/-- TIME.SET far ahead while UNSET is clear is for WORKSHOP alone (R89; log entry 189). -/
theorem execTimeSet_far {tk : Fin 128} {s : State} {w : Work} (hs : startable tk.val 0x0202 s = some w)
    (hu : s.time.unset = false) (hfar : lsbOfS 86400 < u64At w.req.payload 0 - s.now) (hm : s.power.mode ≠ .workshop) :
    execTimeSet tk s = .next (complete tk.val St.deniedMode [] s) :=
  next_congr ((command_start hs).trans ((if_neg (by omega)).trans (if_pos ⟨hu, hfar, hm⟩)))

/-- Otherwise the epoch steps (R89). -/
theorem execTimeSet_steps {tk : Fin 128} {s : State} {w : Work} (hs : startable tk.val 0x0202 s = some w)
    (h : s.now < u64At w.req.payload 0)
    (hmay : s.time.unset = true ∨ u64At w.req.payload 0 - s.now ≤ lsbOfS 86400 ∨ s.power.mode = .workshop) :
    execTimeSet tk s = .next (complete tk.val St.ok (leBytes 8 s.now ++ leBytes 8 (u64At w.req.payload 0))
      (stepEpoch (u64At w.req.payload 0) tk.val s)) := by
  refine next_congr ((command_start hs).trans ((if_neg (by omega)).trans (if_neg ?_)))
  rintro ⟨hu, hfar, hm⟩
  obtain hset | hnear | hshop := hmay
  · exact absurd (hset.symm.trans hu) (by decide)
  · omega
  · exact hm hshop

/-! ### TIME.SLEW -/

/-- The slew that a TIME.SLEW of this rate and duration leaves: none for a duration of 0 (R89, R108). -/
def slewSet (ppb : Int) (dur : Nat) (s : State) : State := s.modTime (fun t =>
  { t with slewPpb := if dur = 0 then 0 else ppb, slewEnd := if dur = 0 then none else some (s.now + lsbOfS dur) })

/-- TIME.SLEW replaces the slew that runs, with event 0x0204 (R89, R109). -/
theorem execTimeSlew_replaces {tk : Fin 128} {s : State} {w : Work} (hs : startable tk.val 0x0203 s = some w) :
    execTimeSlew tk s = .next (complete tk.val St.ok [] (emit 0 0x0204 (slice w.req.payload 0 8) 0 tk.val
      (slewSet (sext 32 (u32At w.req.payload 0)) (u32At w.req.payload 4) s))) := by
  have hset : (s.modTime (fun t => if u32At w.req.payload 4 = 0 then { t with slewPpb := 0, slewEnd := none }
        else { t with slewPpb := sext 32 (u32At w.req.payload 0), slewEnd := some (s.now + lsbOfS (u32At w.req.payload 4)) })) =
      slewSet (sext 32 (u32At w.req.payload 0)) (u32At w.req.payload 4) s := by
    unfold slewSet State.modTime
    split <;> rfl
  rw [← hset]
  exact next_congr (command_start hs)

/-- Settles O23: the step of the epoch and the new slew are each one change of the time base with its event
(`stepEpoch_clear`, `execTimeSlew_replaces`), and an event touches the log and the host link alone (`emit_frame`). -/
theorem settingAndSlewingTheEpoch : Obligations.SettingAndSlewingTheEpoch := by
  unfold Obligations.SettingAndSlewingTheEpoch
  intro tk s w
  refine ⟨fun hs => ⟨fun hback => ?backward, fun hu hfar hm => ?far, fun hlt hmay hroute hsh => ?steps⟩, fun hs => ?slew,
    fun e he hc => ?ended⟩
  case backward => exact ⟨_, execTimeSet_backward hs hback, answered_complete s tk.isLt⟩
  case far => exact ⟨_, execTimeSet_far hs hu hfar hm, answered_complete s tk.isLt⟩
  case steps =>
    have hstep := stepEpoch_clear (tk := tk.val) hroute hsh
    have htime := emit_time 0 0x0202 0 tk.val (leBytes 8 s.now) (s := epochMoved (u64At w.req.payload 0) s)
    have hpower := emit_power 0 0x0202 0 tk.val (leBytes 8 s.now) (s := epochMoved (u64At w.req.payload 0) s)
    have hnow := congrArg TimeBase.epoch htime
    rw [← State.now, ← State.now] at hnow
    refine ⟨_, _, execTimeSet_steps hs hlt hmay, answered_complete _ tk.isLt, ?_, ?_, fun n hn => ?_, ?_,
      fun d hd => ?_, ?_⟩ <;>
      rw [hstep]
    · rw [hnow]; rfl
    · rw [htime]; rfl
    · rw [State.shut, htime]; rfl
    · exact emit_logged 0 0x0202 0 tk.val (leBytes 8 s.now) (epochMoved (u64At w.req.payload 0) s)
    · rw [hpower, hnow]
      exact epochMoved_onTime s hd hlt
    · rw [htime, hpower]
      exact emit_frame ..
  case slew =>
    refine ⟨_, _, execTimeSlew_replaces hs, answered_complete _ tk.isLt, ?_, ?_, ?_⟩
    · rw [emit_time]; rfl
    · exact emit_logged 0 0x0204 0 tk.val (slice w.req.payload 0 8) (slewSet _ _ s)
    · rw [emit_time]; exact emit_frame ..
  case ended =>
    have hexec : execSlewEnd s = .next ((reach e s).modTime (fun b => { b with slewPpb := 0, slewEnd := none })) := by
      simp only [execSlewEnd, he, atDue_clear hc]
    exact ⟨_, hexec, rfl, rfl, rfl, by rw [reach_frame]; rfl⟩

/-! ### Trim and floor -/

/-- The trim lies in its range (R85, R110). -/
theorem trimOf_range (ticks : Nat) : -2048 ≤ trimOf ticks ∧ trimOf ticks ≤ 2047 := by
  unfold trimOf
  omega

/-- Within the range the trim is the nearest one: the counts then differ by at most half a unit (R85). -/
theorem trimOf_nearest {ticks : Nat} (hlo : -2048 < trimOf ticks) (hhi : trimOf ticks < 2047) :
    -768000000 ≤ 2 * ((ticks : Int) * 131072 - 768000000 * (trimOf ticks + 8388608)) ∧
      2 * ((ticks : Int) * 131072 - 768000000 * (trimOf ticks + 8388608)) ≤ 768000000 := by
  unfold trimOf at *
  omega

/-- What changes the time base alone once time has passed does so from the start. -/
theorem time_only_of_reach {k : Nat} {s t : State} (h : t = { reach k s with time := t.time }) : t = { s with time := t.time } := by
  rw [reach_frame] at h
  exact h

/-- The state in which a trim has just been measured (R85). -/
def trimmed (ticks : Nat) (s : State) : State :=
  s.modTime (fun b => { b with xsTrim := trimOf ticks, trimSeen := true, trimFrom := some s.now })

/-- The next measurement begins as the trim is taken. -/
theorem trimmed_spec (ticks : Nat) (s : State) : (trimmed ticks s).now = s.now ∧
    (trimmed ticks s).time.trimFrom = some (trimmed ticks s).now ∧ (trimmed ticks s).time.trimSeen = true ∧
    (trimmed ticks s).time.xsTrim = trimOf ticks ∧ trimmed ticks s = { s with time := (trimmed ticks s).time } := by
  have hnow : (trimmed ticks s).now = s.now := by
    rw [State.now, trimmed, State.modTime_time]
    rfl
  refine ⟨hnow, ?_, rfl, rfl, rfl⟩
  rw [hnow]
  rfl

theorem mem_dropOp {o p : StoreOp} {l : List StoreOp} (h : p ∈ l) : p ∈ dropOp o l ∨ p = o := by
  induction l with
  | nil => cases h
  | cons q l ih =>
    unfold dropOp
    split
    · next hq =>
      obtain rfl | hl := List.mem_cons.mp h
      · exact .inr hq
      · exact .inl hl
    · obtain rfl | hl := List.mem_cons.mp h
      · exact .inl List.mem_cons_self
      · exact (ih hl).imp_left (List.mem_cons_of_mem q)

/-- From `s` to `t` the store has changed, and what events change. -/
def StoreWorked (s t : State) : Prop := t = { withEvents s t with store := t.store }

theorem storeWorked_modStore (f : Store → Store) (s : State) : StoreWorked s (s.modStore f) := rfl

theorem storeWorked_emit (src code node tk : Nat) (d : Bytes) (f : Store → Store) (s : State) :
    StoreWorked s (emit src code d node tk (s.modStore f)) := by
  unfold StoreWorked
  rw [emit_store]
  exact emit_frame ..

/-- The pump changes the store and what events change (R398). -/
theorem pump_frame (s : State) : StoreWorked s (pump s) := by
  unfold pump
  split
  · rfl
  · split
    · rfl
    · dsimp only
      split
      · split
        · exact storeWorked_emit ..
        · exact storeWorked_modStore ..
      · split
        · rfl
        · exact storeWorked_emit ..

/-- An operation that waits goes on waiting or is started by the pump (R398). -/
theorem pump_keeps {p : StoreOp} {s : State} (h : p ∈ s.store.queue) :
    p ∈ (pump s).store.queue ∨ (pump s).store.running = some p := by
  unfold pump
  split
  · exact .inl h
  · split
    · exact .inl h
    · next o _ =>
      have hstarted : p ∈ dropOp o s.store.queue ∨ some o = some p := (mem_dropOp h).imp_right fun he => by rw [he]
      simp only [apply_ite State.store, emit_store, State.modStore_store, ite_self]
      split
      · exact hstarted
      · split
        · exact .inl h
        · exact .inl h

/-- Operations that join the queue change the store, the domains and what events change. -/
theorem enqueue_frame (os : List StoreOp) (s : State) : enqueue os s =
    { withEvents s (enqueue os s) with power := (enqueue os s).power, store := (enqueue os s).store } :=
  (pump_frame (requestAll [9] (s.modStore _))).trans (by
    rw [show (enqueue os s).power = _ from pump_power (requestAll [9] (s.modStore _))]
    rfl)

/-- A record changes the store, the domains and what events change. -/
theorem putRecord_frame (k : Nat) (d : Bytes) (a : After) (s : State) : putRecord k d a s =
    { withEvents s (putRecord k d a s) with power := (putRecord k d a s).power, store := (putRecord k d a s).store } := by
  unfold putRecord
  split
  · rfl
  · exact enqueue_frame _ s

/-- The record is handed to the parameter store (R392, R398). -/
theorem putRecord_recorded (k : Nat) (d : Bytes) (a : After) (s : State) : Recorded k d s (putRecord k d a s) := by
  intro hk
  have hworn : ¬ s.store.worn k = true := by simp [Store.worn, hk]
  rw [putRecord, if_neg hworn]
  exact ⟨_, pump_keeps (s := requestAll [9] (s.modStore _)) (List.mem_append_right _ (List.mem_singleton.mpr rfl)), rfl⟩

/-- A new floor is in force and recorded, 7,200 s above the epoch (R90). -/
theorem writeFloor_spec (s : State) : (writeFloor s).time = { s.time with floor := some (s.now + lsbOfS 7200) } ∧
    Recorded 0x0010 (leBytes 8 (s.now + lsbOfS 7200)) s (writeFloor s) ∧
    writeFloor s = { withEvents s (writeFloor s) with
      time := (writeFloor s).time, power := (writeFloor s).power, store := (writeFloor s).store } := by
  have hframe := putRecord_frame 0x0010 (leBytes 8 (s.now + lsbOfS 7200)) .nothing
    (s.modTime (fun t => { t with floor := some (s.now + lsbOfS 7200) }))
  rw [← writeFloor] at hframe
  have htime : (writeFloor s).time = { s.time with floor := some (s.now + lsbOfS 7200) } := congrArg State.time hframe
  exact ⟨htime, putRecord_recorded 0x0010 _ .nothing (s.modTime _), by rw [htime]; exact hframe⟩

/-- Settles O26: the trim is a rounded quotient within its range (`trimOf_range`, `trimOf_nearest`), the floor a record of the
parameter store (`writeFloor_spec`). -/
theorem trimAndFloor : Obligations.TrimAndFloor := by
  unfold Obligations.TrimAndFloor
  intro ticks s
  refine ⟨fun f hf hc => ?trim, fun f hm hb hf hc => ?floor⟩
  case trim =>
    have hexec : execXsTrimMeasure ticks s = .next (trimmed ticks (reach (f + lsbOfS 64) s)) := by
      simp only [execXsTrimMeasure, hf, atDue_clear hc]
      rfl
    obtain ⟨hnow, hfrom, hseen, htrim, hframe⟩ := trimmed_spec ticks (reach (f + lsbOfS 64) s)
    obtain ⟨hlo, hhi⟩ := trimOf_range ticks
    have hnearest := trimOf_nearest (ticks := ticks)
    rw [← htrim] at hlo hhi hnearest
    exact ⟨_, hexec, hnow, hfrom, hseen, hlo, hhi, hnearest, time_only_of_reach hframe⟩
  case floor =>
    have hexec : execEpochFloorWrite s = .next (writeFloor (reach (f - lsbOfS 3600) s)) := by
      simp only [execEpochFloorWrite, hm, hb, hf, ne_eq, not_true_eq_false, or_self, if_false, atDue_clear hc]
    have hreach := reach_frame (f - lsbOfS 3600) s
    generalize reach (f - lsbOfS 3600) s = u at hexec hreach ⊢
    obtain ⟨htime, hrec, hframe⟩ := writeFloor_spec u
    have hnow : (writeFloor u).now = u.now := by
      rw [State.now, htime]
      rfl
    have hstore : u.store = s.store := by rw [hreach]
    generalize writeFloor u = t at hexec htime hrec hframe hnow
    rw [hreach] at hframe
    refine ⟨t, hexec, hnow, by rw [htime, hnow], ?_, hframe⟩
    rw [hnow]
    exact fun hk => by rw [← hstore]; exact hrec (by rw [hstore]; exact hk)

end Sys2Proof.Machine
end

section
/-! SUPPORT. Shutters and capture pairs: what a fire and an edge do where no route takes them on, and the writes of
TIME.SHUTTER_ARM, TIME.SHUTTER_DISARM and TIME.CAPTURE_READ (R97–R105, R108). -/

namespace Sys2Proof.Machine

/-! ### The router -/

theorem routesFrom_congr {s t : State} (h : t.conf = s.conf) (src : Nat) : routesFrom t src = routesFrom s src := by
  simp only [routesFrom, State.nat, h]

section
variable {s : State}

/-- Events whose sources feed no route pass the router without effect (R105). -/
theorem routeWave_unrouted {evs : List (Nat × Nat × Bool)} (h : ∀ e ∈ evs, routesFrom s e.1 = []) : routeWave evs s = s := by
  refine foldl_stays fun r hr => ?_
  have hnone : evs.filter (fun e => e.1 != 0 && e.1 == s.nat 2 7 r) = [] := by
    refine List.filter_eq_nil_iff.mpr fun e he hmatch => ?_
    have hroutes := List.map_eq_nil_iff.mp (h e he)
    have hsource : e.1 = s.nat 2 7 r := eq_of_beq (Bool.and_eq_true_iff.mp hmatch).2
    exact List.filter_eq_nil_iff.mp hroutes r hr (by simp [hsource])
  rw [hnone]
  rfl

/-- One event that feeds no route leaves the router empty (R105). -/
theorem runRoutes_unrouted {e : Nat × Nat × Bool} (hr : s.time.routing = [e]) (h : routesFrom s e.1 = []) :
    runRoutes routeDepth s = s.modTime (fun t => { t with routing := [] }) := by
  have hwave : routeWave [e] (s.modTime (fun t => { t with routing := [] })) = s.modTime (fun t => { t with routing := [] }) :=
    routeWave_unrouted fun x hx => by rw [List.mem_singleton.mp hx]; exact h
  rw [show routeDepth = 31 + 1 from rfl, runRoutes, hr]
  dsimp only
  rw [hwave]
  exact runRoutes_empty (s := s.modTime _) rfl 31

/-- A router that is emptied while it is empty. -/
theorem modTime_routing_nil (hr : s.time.routing = []) : s.modTime (fun t => { t with routing := [] }) = s := by
  rw [← hr]
  rfl

end

/-! ### Shutters -/

section
variable {s : State} {n : Nat}

theorem shut_modShut_same (f : Shutter → Shutter) (h : n < 16) : (s.modShut n f).shut n = f (s.shut n) :=
  tget_tmod_same _ _ _ h

theorem shut_modShut_other (f : Shutter → Shutter) {k : Nat} (h : k ≠ n) : (s.modShut n f).shut k = s.shut k :=
  tget_tmod_other _ _ _ _ (Ne.symm h)

/-- What a fire without a preload does to the shutter's registers (R98, R100). -/
theorem Shutter.fired_spec {h : Shutter} (hp : h.preValid = false) (f : Nat) (late coarse : Bool) :
    let x := h.fired f late coarse false
    x.lastFire = f ∧ (late = true → x.lastLate = true) ∧ x.fireCount = wrapAdd 32 h.fireCount 1 ∧
      x.missedCount = satAdd 0xFFFF h.missedCount (missedPoints h.active h.period f) ∧
      (h.period = 0 → x.state = .idle) ∧
      (h.period ≠ 0 → x.active = h.active + ((f - h.active) / h.period + 1) * h.period) := by
  by_cases h0 : h.period = 0
  · simp +contextual [Shutter.fired, Shutter.missedNow, hp, h0]
  · simp +contextual [Shutter.fired, Shutter.missedNow, missedPoints, hp, h0]

/-- A fire changes its shutter, adds its line to the router, and is an event where EVENT is set (R98, R109). -/
theorem fireOnce_spec (f : Nat) (late coarse further : Bool) :
    let t := fireOnce n f late coarse further s
    t.time = { s.time with
      shutters := tmod s.time.shutters n (fun h => h.fired f late coarse further)
      routing := s.time.routing ++ [(1 + n, f, coarse)] } ∧
    t = { withEvents s t with time := t.time } := by
  unfold fireOnce
  dsimp only
  split
  · rw [emitAs_time]
    refine ⟨rfl, ?_⟩
    rw [emitAs, putEvent_frame]
    rfl
  · exact ⟨rfl, rfl⟩

/-- A fire without a preload and without a route changes its shutter alone, and is an event where EVENT is set (R98). -/
theorem fireRouted_alone (hn : n < 16) (hp : (s.shut n).preValid = false) (hr : s.time.routing = [])
    (hroutes : routesFrom s (1 + n) = []) (f : Nat) (late : Bool) :
    let t := fireRouted n f late s
    t.shut n = (s.shut n).fired f late s.coarse false ∧ (∀ k, k ≠ n → t.shut k = s.shut k) ∧
      t = { withEvents s t with time := t.time } := by
  obtain ⟨htime, hframe⟩ := fireOnce_spec (s := s) (n := n) f late s.coarse false
  have hfire : fire n f late s = fireOnce n f late s.coarse false s := if_neg (by simp [hp])
  unfold fireRouted
  rw [hfire]
  generalize fireOnce n f late s.coarse false s = u at htime hframe
  have hconf : u.conf = s.conf := by rw [hframe]
  have hrun : runRoutes routeDepth u = u.modTime (fun t => { t with routing := [] }) :=
    runRoutes_unrouted (e := (1 + n, f, s.coarse)) (by rw [htime, hr]; rfl) (by rw [routesFrom_congr hconf]; exact hroutes)
  have hshut (k : Nat) : (u.modTime (fun t => { t with routing := [] })).shut k =
      tget (tmod s.time.shutters n (fun h => h.fired f late s.coarse false)) k := by
    rw [State.shut, State.modTime_time, htime]
  rw [hrun]
  refine ⟨(hshut n).trans (tget_tmod_same _ _ _ hn), fun k hk => (hshut k).trans (tget_tmod_other _ _ _ _ (Ne.symm hk)), ?_⟩
  rw [hframe]
  rfl

/-- A shutter that is not due does not fire before a write of the same cycle (R100). -/
theorem fireDue_waits (h : (s.shut n).state = .idle ∨ s.now < (s.shut n).active) : fireDue n s = s := by
  rw [fireDue, Shutter.not_due h]
  rfl

/-- The next point of a periodic grid after `f` (R98, R100). -/
theorem nextPoint_spec {a p f : Nat} (hp : p ≠ 0) : f < a + ((f - a) / p + 1) * p ∧
    (a + ((f - a) / p + 1) * p - a) % p = 0 ∧ (a ≤ f → a + ((f - a) / p + 1) * p ≤ f + p) := by
  have hdiv := Nat.mod_add_div' (f - a) p
  have hmod := Nat.mod_lt (f - a) (Nat.pos_of_ne_zero hp)
  rw [Nat.add_sub_cancel_left, Nat.mul_mod_left, Nat.succ_mul]
  omega

/-! ### Writes to a shutter -/

/-- The shutter with the compare, the period and the EVENT of a TIME.SHUTTER_ARM, and no last compare (R99, R108;
log entries 190 and 192). -/
def armLoad (n : Nat) (r : Req) (s : State) : State :=
  s.modShut n (fun h => { h.load (u64At r.payload 0) (u64At r.payload 8) with event := u8At r.payload 16 % 2 == 1 })

/-- The response of TIME.SHUTTER_ARM: the epoch at the write, and what was written (R108). -/
def armAnswer (k : Nat) (s : State) : Bytes := leBytes 8 s.now ++ leBytes 1 k ++ zeros 7

section
variable {r : Req}

/-- The firmware shutters are refused (R97, R108), with an empty payload (log entry 189). -/
theorem armShutter_held (h : 12 ≤ n) : armShutter (0x60 + n) r s = (s, St.shutterHeld, []) := by
  simp [armShutter, h, Nat.not_lt.mpr h]

variable (hn : n < 12) (hk : u8At r.payload 16 / 2 % 2 = 0)
include hn hk

/-- An IDLE shutter is loaded; a compare that lies ahead is waited for (R99). -/
theorem armShutter_loads (hi : (s.shut n).state = .idle) (hc : s.now < u64At r.payload 0) :
    armShutter (0x60 + n) r s = (armLoad n r s, St.ok, armAnswer 0 s) := by
  simp [armShutter, hn, hk, hi, fireDue_waits (.inl hi), armLoad, armAnswer, show ¬12 ≤ n by omega,
    show ¬u64At r.payload 0 ≤ s.now by omega]

/-- A compare at or below the epoch fires at once, LATE (R99). -/
theorem armShutter_fires (hi : (s.shut n).state = .idle) (hc : u64At r.payload 0 ≤ s.now) :
    armShutter (0x60 + n) r s = (fireRouted n s.now true (armLoad n r s), St.shutterLate, armAnswer 0 s) := by
  simp [armShutter, hn, hk, hi, fireDue_waits (.inl hi), armLoad, armAnswer, show ¬12 ≤ n by omega, hc]

/-- Of an armed shutter the preload is written (R99). -/
theorem armShutter_preloads (ha : (s.shut n).state ≠ .idle) (hc : s.now < (s.shut n).active) :
    armShutter (0x60 + n) r s = (s.modShut n (fun h => { h with
      preValid := true, preCompare := u64At r.payload 0, prePeriod := u64At r.payload 8
      event := u8At r.payload 16 % 2 == 1 }), St.ok, armAnswer 1 s) := by
  simp [armShutter, hn, hk, ha, fireDue_waits (.inr hc), armAnswer, show ¬12 ≤ n by omega]

omit hk in
/-- With KEEP_COMPARE a periodic grid goes on from its last compare with the new period (R99, R100). -/
theorem armShutter_moves {l : Nat} (hk : u8At r.payload 16 / 2 % 2 = 1) (hp : (s.shut n).state = .periodic)
    (hc : s.now < (s.shut n).active) (hl : (s.shut n).lastCompare = some l) (hnext : s.now < l + u64At r.payload 8)
    (h0 : u64At r.payload 8 ≠ 0) : armShutter (0x60 + n) r s = (s.modShut n (fun h => { h with
      active := l + u64At r.payload 8, period := u64At r.payload 8, event := u8At r.payload 16 % 2 == 1 }),
      St.ok, armAnswer 2 s) := by
  simp [armShutter, hn, hk, hp, fireDue_waits (.inr hc), armAnswer, show ¬12 ≤ n by omega, hl, hnext, h0]

end

theorem disarmShutter_held (r : Req) (h : 12 ≤ n) : disarmShutter (0x60 + n) r s = (s, St.shutterHeld, []) := by
  simp [disarmShutter, h]

/-- DISARM makes the shutter IDLE without its preload (R100). -/
theorem disarmShutter_idles (r : Req) (hn : n < 12) (hc : (s.shut n).state = .idle ∨ s.now < (s.shut n).active) :
    disarmShutter (0x60 + n) r s =
      (s.modShut n (fun h => { h with state := .idle, preValid := false }), St.ok, []) := by
  simp [disarmShutter, fireDue_waits hc, show ¬12 ≤ n by omega]

/-- A fan-out over one tile answers what the tile does (R72). -/
theorem fanOut_single {tk op node st : Nat} {f : Nat → Req → State → State × Nat × Bytes} {d : Bytes} {w : Work} {u : State}
    (hs : startable tk op s = some w) (hw : commandTiles w = [node]) (h : f node w.req s = (u, st, d)) :
    fanOut tk op f s = completeTiles tk w.walk [{ node, status := st, data := d }] u := by
  refine (command_start hs).trans ?_
  dsimp only
  rw [show (w.walk.filter (fun x => x.kind == 0)).map (·.node) = [node] from hw]
  simp only [walkTiles, h]

/-- SHUTTER_FIRE fires the shutter at the stamp at which the epoch reaches its compare (R98). -/
theorem reachCompare_some {v : State} (h : reachCompare n s = some v) : v = reach (s.shut n).active s := by
  unfold reachCompare at h
  dsimp only at h
  split at h
  · cases h
  · split at h
    · exact (Option.some.inj h).symm
    · cases h

end

/-- Settles O24: the write of a shutter is one change of its registers (`armShutter_loads`, `armShutter_preloads`,
`armShutter_moves`, `disarmShutter_idles`), and a fire that no route takes on changes its own shutter alone
(`fireRouted_alone`). -/
theorem shuttersArmAndFire : Obligations.ShuttersArmAndFire := by
  unfold Obligations.ShuttersArmAndFire
  intro tk n s w
  refine ⟨fun hs hw => ?arm, fun hs hw => ?disarm, fun k v hv hr hroutes hp => ?fire⟩
  case arm =>
    dsimp only
    refine ⟨fun hn => ?held, fun hn hk hi hc => ?loads, fun hn hk hi hc hp hr hroutes => ?late, fun hn hk ha hc => ?preloads,
      fun l hn hk hperiodic hc hl hnext h0 => ?moves⟩
    case held =>
      exact ⟨_, next_congr (fanOut_single hs hw (armShutter_held hn)), tilesAnswered_completeTiles _ _ s tk.isLt⟩
    case loads =>
      exact ⟨_, _, next_congr (fanOut_single hs hw (armShutter_loads hn hk hi hc)), tilesAnswered_completeTiles _ _ _ tk.isLt,
        shut_modShut_same _ n.isLt, fun k => shut_modShut_other _, rfl⟩
    case late =>
      have hload : (armLoad n.val w.req s).shut n.val = { (s.shut n.val).load (u64At w.req.payload 0) (u64At w.req.payload 8)
          with event := u8At w.req.payload 16 % 2 == 1 } := shut_modShut_same _ n.isLt
      obtain ⟨hshut, hother, hframe⟩ := fireRouted_alone (s := armLoad n.val w.req s) n.isLt (by rw [hload]; exact hp) hr
        hroutes s.now true
      have hexec := next_congr (fanOut_single hs hw (armShutter_fires hn hk hi hc))
      generalize fireRouted n.val s.now true (armLoad n.val w.req s) = u at hexec hshut hother hframe
      rw [hload] at hshut
      obtain ⟨hfire, hlate, hcount, hmissed, hidle, hnext⟩ :=
        Shutter.fired_spec (h := { (s.shut n.val).load (u64At w.req.payload 0) (u64At w.req.payload 8)
          with event := u8At w.req.payload 16 % 2 == 1 }) hp s.now true (armLoad n.val w.req s).coarse
      rw [← hshut] at hfire hlate hcount hmissed hidle hnext
      exact ⟨_, u, hexec, tilesAnswered_completeTiles _ _ u tk.isLt, hfire, hlate rfl, hcount, hmissed, hidle,
        fun h0 => by rw [hnext h0]; exact (nextPoint_spec h0).1, fun k h => (hother k h).trans (shut_modShut_other _ h), hframe⟩
    case preloads =>
      exact ⟨_, _, next_congr (fanOut_single hs hw (armShutter_preloads hn hk ha hc)),
        tilesAnswered_completeTiles _ _ _ tk.isLt, shut_modShut_same _ n.isLt, fun k => shut_modShut_other _, rfl⟩
    case moves =>
      exact ⟨_, _, next_congr (fanOut_single hs hw (armShutter_moves hn hk hperiodic hc hl hnext h0)),
        tilesAnswered_completeTiles _ _ _ tk.isLt, shut_modShut_same _ n.isLt, fun k => shut_modShut_other _, rfl⟩
  case disarm =>
    refine ⟨fun hn => ?held, fun hn hc => ?idles⟩
    case held =>
      exact ⟨_, next_congr (fanOut_single hs hw (disarmShutter_held w.req hn)), tilesAnswered_completeTiles _ _ s tk.isLt⟩
    case idles =>
      exact ⟨_, _, next_congr (fanOut_single hs hw (disarmShutter_idles w.req hn hc)),
        tilesAnswered_completeTiles _ _ _ tk.isLt, shut_modShut_same _ n.isLt, fun k => shut_modShut_other _, rfl⟩
  case fire =>
    have hreach := reachCompare_some hv
    have hexec : execShutterFire k s = .next (fireRouted k.val v.now false v) := by simp only [execShutterFire, hv]
    have hsame (j : Nat) : v.shut j = s.shut j := by rw [hreach, reach_shut]
    have hconf : v.conf = s.conf := by rw [hreach, reach_conf]
    obtain ⟨hshut, hother, hframe⟩ := fireRouted_alone (s := v) (n := k.val) (by omega) (by rw [hsame]; exact hp)
      (by rw [hreach, reach_routing]; exact hr) (by rw [routesFrom_congr hconf]; exact hroutes) v.now false
    generalize fireRouted k.val v.now false v = t at hexec hshut hother hframe
    rw [hsame] at hshut
    obtain ⟨hfire, -, hcount, -, hidle, hnext⟩ := Shutter.fired_spec hp v.now false v.coarse
    rw [← hshut] at hfire hcount hidle hnext
    refine ⟨t, hexec, hfire, by rw [hreach], hcount, hidle, fun h0 => by rw [hnext h0]; exact nextPoint_spec h0,
      fun j hj => (hother j hj).trans (hsame j), ?_⟩
    rw [hreach, reach_frame] at hframe
    exact hframe

/-! ### Capture pairs -/

section
variable {s : State} {n : Nat}

theorem cap_modCap_same (f : Capture → Capture) (h : n < 8) : (s.modCap n f).cap n = f (s.cap n) :=
  tget_tmod_same _ _ _ h

theorem cap_modCap_other (f : Capture → Capture) {k : Nat} (h : k ≠ n) : (s.modCap n f).cap k = s.cap k :=
  tget_tmod_other _ _ _ _ (Ne.symm h)

/-- No clock period of the fine epoch takes no time, where the remainder is below one LSB. -/
theorem advance_zero_fine (hc : s.eave.depth ≤ 2 ∧ s.time.fine = true) (hrem : s.time.rem < 3000000)
    (hlast : s.now ≤ lastEpoch) : advance 0 s = s := by
  have hwhole : (s.time.rem : Int) + ((0 : Nat) : Int) * periodStep s.eave.depth s.time.slewPpb = s.time.rem := by simp
  have hrest : ((s.time.rem : Int) % 3000000).toNat = s.time.rem := by omega
  have hepoch : min lastEpoch (s.time.epoch + ((s.time.rem : Int) / 3000000).toNat) = s.time.epoch := by
    rw [State.now] at hlast
    omega
  refine (if_pos hc).trans ?_
  dsimp only [State.modTime]
  rw [hwhole, hrest, hepoch]

/-- No XS edge takes no time, where the remainder is below one LSB. -/
theorem advance_zero_xs (hc : ¬(s.eave.depth ≤ 2 ∧ s.time.fine = true)) (hrem : s.time.xsRem < 256)
    (hlast : s.now ≤ lastEpoch) : advance 0 s = s := by
  have hwhole : (s.time.xsRem : Int) + ((0 : Nat) : Int) * xsStep s.time.xsTrim s.time.slewPpb = s.time.xsRem := by simp
  have hrest : ((s.time.xsRem : Int) % 256).toNat = s.time.xsRem := by omega
  have hepoch : min lastEpoch (s.time.epoch + ((s.time.xsRem : Int) / 256).toNat) = s.time.epoch := by
    rw [State.now] at hlast
    omega
  refine (if_neg hc).trans ?_
  dsimp only [State.modTime]
  rw [hwhole, hrest, hepoch]

/-- Passing time leaves the epoch at one of its values, with the remainder that counts below one LSB (R82, R84, R85). -/
theorem advance_bounds (k : Nat) (s : State) : (advance k s).now ≤ lastEpoch ∧
    (s.eave.depth ≤ 2 ∧ s.time.fine = true → (advance k s).time.rem < 3000000) ∧
    (¬(s.eave.depth ≤ 2 ∧ s.time.fine = true) → (advance k s).time.xsRem < 256) := by
  have hsmall (x : Int) (m : Nat) (hm : 0 < m) : (x % m).toNat < m := by
    have hlt := Int.emod_lt_of_pos x (Int.natCast_pos.mpr hm)
    omega
  unfold advance
  split
  · next hc => exact ⟨Nat.min_le_left _ _, fun _ => hsmall _ 3000000 (by decide), fun h => absurd hc h⟩
  · next hc => exact ⟨Nat.min_le_left _ _, fun h => absurd h hc, fun _ => hsmall _ 256 (by decide)⟩

/-- After whole periods no further period takes no time. -/
theorem advance_zero_reach (k : Nat) (s : State) : advance 0 (reach k s) = reach k s := by
  obtain ⟨hlast, hrem, hxs⟩ := advance_bounds (periodsTo k s) s
  rw [← reach] at hlast hrem hxs
  by_cases hc : s.eave.depth ≤ 2 ∧ s.time.fine = true
  · exact advance_zero_fine (by rw [reach_eave, reach_fine]; exact hc) (hrem hc) hlast
  · exact advance_zero_xs (by rw [reach_eave, reach_fine]; exact hc) (hxs hc) hlast

/-- A capture filter of no cycles takes no clock period (R102, R104). -/
theorem filterPeriods_zero (s : State) : filterPeriods 0 s = 0 := by
  unfold filterPeriods
  split
  · rfl
  · split <;> rfl

/-- An edge that is no event and that no route takes on is recorded, and nothing more (R102–R105). -/
theorem routedEdge_alone {rising : Bool} (he : s.nat 2 6 n = 0) (hr : s.time.routing = [])
    (hroutes : routesFrom s (if rising then 0x11 + n else 0x19 + n) = []) (stamp : Nat) (coarse : Bool) :
    routedEdge n rising stamp coarse s = recordEdge n rising stamp coarse s := by
  have hedge : captureEdge n rising stamp coarse s = recordEdge n rising stamp coarse s := if_neg (by rw [he]; decide)
  rw [routedEdge, hedge]
  have hrouting : (recordEdge n rising stamp coarse s).time.routing = [] := hr
  refine (runRoutes_unrouted (s := raiseRoute _ stamp coarse (recordEdge n rising stamp coarse s))
    (e := (if rising then 0x11 + n else 0x19 + n, stamp, coarse)) ?_ hroutes).trans ?_
  · rw [raiseRoute, State.modTime_time, hrouting]
    rfl
  · exact modTime_routing_nil hrouting

/-- A rising edge is stamped, counted and waits for its falling edge (R102, R103). -/
theorem recordEdge_rise (hn : n < 8) (stamp : Nat) (coarse : Bool) :
    let c := (recordEdge n true stamp coarse s).cap n
    c.rise = some (stamp, coarse) ∧ c.capSeq = wrapAdd 32 (s.cap n).capSeq 1 ∧ c.width = (s.cap n).width ∧
      c.pulses = (s.cap n).pulses := by
  have hcap : (recordEdge n true stamp coarse s).cap n = _ := cap_modCap_same _ hn
  rw [hcap]
  exact ⟨rfl, rfl, rfl, rfl⟩

/-- A falling edge that ends a pulse gives its width and counts it (R102, R104). -/
theorem recordEdge_fall (hn : n < 8) {r stamp : Nat} {c0 : Bool} (coarse : Bool) (hrise : (s.cap n).rise = some (r, c0))
    (hopen : (s.cap n).open_ = true) (hwidth : stamp - r < 2 ^ 32) :
    let c := (recordEdge n false stamp coarse s).cap n
    c.fall = some (stamp, coarse) ∧ c.capSeq = wrapAdd 32 (s.cap n).capSeq 1 ∧ c.width = stamp - r ∧ c.widthValid = true ∧
      c.pulses = wrapAdd 32 (s.cap n).pulses 1 := by
  have hcap : (recordEdge n false stamp coarse s).cap n = _ := cap_modCap_same _ hn
  rw [hcap]
  simp only [hrise, hopen, Bool.false_eq_true, if_false, if_true, Option.map_some, Option.getD_some, true_and, and_true]
  omega

/-- CAPTURE_EDGE of an input ball without a filter records the edge at the stamp at which the epoch reaches it (R101–R104). -/
theorem execCaptureEdge_records {n : Fin 8} {rising : Bool} {stamp : Nat} (h0 : s.nat 2 4 n.val ≠ 0) (h7 : s.nat 2 4 n.val < 7)
    (hc : clearUntil stamp s = true) (he : s.nat 2 6 n.val = 0) (hf : s.nat 2 5 n.val = 0) (hr : s.time.routing = [])
    (hroutes : routesFrom s (if rising then 0x11 + n.val else 0x19 + n.val) = []) :
    execCaptureEdge n rising stamp s =
      .next (recordEdge n.val rising (reach stamp s).now (reach stamp s).coarse (reach stamp s)) := by
  have hconf : (reach stamp s).conf = s.conf := reach_conf ..
  have hnat (row : Nat) : (reach stamp s).nat 2 row n.val = s.nat 2 row n.val := by rw [State.nat, hconf]; rfl
  have hhere : clearUntil (reach stamp s).now (reach stamp s) = true := by simp [clearUntil]
  refine next_congr ((if_neg (by omega)).trans ((atDue_clear hc).trans ?_))
  dsimp only
  rw [hnat, hf, filterPeriods_zero, advance_zero_reach, if_pos hhere]
  exact routedEdge_alone (by rw [hnat]; exact he) (by rw [reach_routing]; exact hr)
    (by rw [routesFrom_congr hconf]; exact hroutes) _ _

/-- The read of one pair: the state before the acknowledgement, then the acknowledgement (R103, R108). -/
theorem readCapture_eq (r : Req) : readCapture (0x80 + n) r s =
    (if u8At r.payload 4 % 2 = 1 ∧ u32At r.payload 0 = (s.cap n).capSeq then
        s.modCap n (fun c => { c with overrun := 0, riseAck := true, fallAck := true }) else s,
      St.ok, captureData (s.nat 2 4 n) (s.cap n)) := by
  simp [readCapture]

end

/-- Settles O25: an edge that goes no further is one change of its pair (`execCaptureEdge_records`), and so is the
acknowledgement of a read (`readCapture_eq`). -/
theorem capturePairsStampEdges : Obligations.CapturePairsStampEdges := by
  unfold Obligations.CapturePairsStampEdges
  intro tk n stamp s w
  refine ⟨fun h0 h7 hc he hf hr => ⟨fun hroutes => ?rising, fun r c hroutes hrise hopen hle hwidth => ?falling⟩,
    ?read, fun hl hr => ownEdges_quiet hl hr⟩
  case rising =>
    obtain ⟨hrise, hseq, hwidth, hpulses⟩ :=
      recordEdge_rise (s := reach stamp s) n.isLt (reach stamp s).now (reach stamp s).coarse
    rw [reach_cap] at hseq hwidth hpulses
    refine ⟨_, execCaptureEdge_records (rising := true) h0 h7 hc he hf hr hroutes, by rw [hrise]; rfl, rfl, hseq, hwidth, hpulses,
      fun k hk => (cap_modCap_other _ hk).trans (reach_cap ..), ?_⟩
    exact time_only_of_reach rfl
  case falling =>
    obtain ⟨hfall, hseq, hlength, hvalid, hpulses⟩ := recordEdge_fall (s := reach stamp s) n.isLt (stamp := (reach stamp s).now)
      (reach stamp s).coarse (by rw [reach_cap]; exact hrise) (by rw [reach_cap]; exact hopen) hwidth
    rw [reach_cap] at hseq hpulses
    refine ⟨_, execCaptureEdge_records (rising := false) h0 h7 hc he hf hr hroutes, by rw [hfall]; rfl, hseq, hlength, hvalid,
      hpulses, fun k hk => (cap_modCap_other _ hk).trans (reach_cap ..), ?_⟩
    exact time_only_of_reach rfl
  case read =>
    intro v hs hw
    refine ⟨_, _, next_congr (fanOut_single hs hw (readCapture_eq w.req)), tilesAnswered_completeTiles _ _ _ tk.isLt,
      fun hack hseq => ?_, fun hno => if_neg fun ⟨hack, hseq⟩ => ?_⟩
    · rw [if_pos ⟨hack, hseq⟩]
      exact ⟨cap_modCap_same _ n.isLt, fun k => cap_modCap_other _, rfl⟩
    · obtain h | h := hno
      · omega
      · exact h hseq

end Sys2Proof.Machine
end

section
/-! SUPPORT. Sleep and wake: the choice of the depth, the booked wake and what a measured wake teaches (R84, R87, R113,
R126–R130). -/

namespace Sys2Proof.Machine

section
variable {s : State}

/-! ### The choice of the depth -/

/-- A domain that is off, or that the mode does not book, is not switched off as idle (R113). -/
theorem dropIdle_stays {d : Nat} (h : permit s.power.mode d = .booked → s.lit d = false) : dropIdle d s = s := by
  refine if_neg fun ⟨hb, hl, _⟩ => ?_
  rw [h hb] at hl
  cases hl

/-- With every booked domain off none goes off as idle (R113). -/
theorem dropAll_stays (h : ∀ d ∈ [2, 4, 5, 6, 7, 8, 9], permit s.power.mode d = .booked → s.lit d = false) :
    dropAll s = s := by
  unfold dropAll
  split
  · refine foldl_stays fun d hd => dropIdle_stays (h d ?_)
    simp only [List.mem_cons, List.not_mem_nil, or_false] at hd ⊢
    omega
  · rfl

/-- DEPTH_CHOICE while no booked domain is on: below L1 a booking has changed, otherwise an idle Steward goes to the depth
chosen (R126). -/
theorem execDepthChoice_eq (hr : s.stew.running = true) (hw : s.eave.waking = none) (hb : s.boot.phase = .run)
    (h : ∀ d ∈ [2, 4, 5, 6, 7, 8, 9], permit s.power.mode d = .booked → s.lit d = false) :
    execDepthChoice s = .next (if 2 ≤ s.eave.depth then rebook s else if heldAwake s = true then s else
      if (chooseDepth s).1 = s.eave.depth then s.modEave (fun e => { e with wakeAt := (chooseDepth s).2 })
      else enterDepth (chooseDepth s).1 (chooseDepth s).2 s) := by
  refine next_congr ((if_neg (by simp [hr, hw, hb])).trans ?_)
  rw [dropAll_stays h]

/-- A depth that is entered counts; from L3 on the fine epoch stops, and at L4 PD3 CORE goes off (R84, R126). -/
theorem enterDepth_spec {d : Nat} (w : Option Nat) (s : State) : let t := enterDepth d w s
    t.eave = { s.eave with
      depth := d, wakeAt := w
      rows := tmod s.eave.rows (d - 1) (fun r => { r with entries := wrapAdd 32 r.entries 1 }) } ∧
    (3 ≤ d → t.time.fine = false) ∧ (d ≤ 2 → t.time = s.time) ∧
    (d = 4 → t.powered 3 = false) ∧ (d ≠ 4 → t.power = s.power) ∧
    t = { s with eave := t.eave, time := t.time, power := t.power, range := t.range } := by
  have hstart : ∃ u, (if 3 ≤ d then (reach (s.now + xsWait s.now) s).modTime (fun t =>
        { t with fine := false, xsRem := 0, trimFrom := none }) else s) = u ∧
      u = { s with time := u.time } ∧ (3 ≤ d → u.time.fine = false) ∧ (d ≤ 2 → u.time = s.time) := by
    refine ⟨_, rfl, ?_⟩
    split
    · next h3 => exact ⟨time_only_of_reach rfl, fun _ => rfl, fun h => by omega⟩
    · next h3 => exact ⟨rfl, fun h => absurd h h3, fun _ => rfl⟩
  obtain ⟨u, hu, hframe, hdeep, hlight⟩ := hstart
  unfold enterDepth
  rw [hu]
  dsimp only
  by_cases h4 : d = 4
  · rw [if_pos h4]
    refine ⟨by rw [hframe]; rfl, hdeep, hlight, fun _ => ?_, fun h => absurd h4 h, by rw [hframe]; rfl⟩
    exact congrArg (· == DomState.on) (Power.switchOff_state (d := 3) (by decide) u.power u.now)
  · rw [if_neg h4]
    exact ⟨by rw [hframe]; rfl, hdeep, hlight, fun h => absurd h h4, fun _ => by rw [hframe]; rfl, by rw [hframe]; rfl⟩

/-- A depth 1–4 that is entered is one entry more in its latency row (R132). -/
theorem enterDepth_entries {d : Nat} (h1 : 1 ≤ d) (h4 : d ≤ 4) (w : Option Nat) :
    ((enterDepth d w s).latency d).entries = wrapAdd 32 (s.latency d).entries 1 := by
  rw [State.latency, (enterDepth_spec w s).1]
  dsimp only
  rw [tget_tmod_same _ _ _ (by omega)]
  rfl

/-- With a booking, that one decides whether a wake would come too late (R129, R130). -/
theorem bookedNear_iff {b : Booking} (h : nextBooking s = some b) : bookedNear s = true ↔ b.1 < s.now + wakeLead s := by
  rw [bookedNear, h, Option.any_some, decide_eq_true_iff]

/-! ### A booking that changes at a depth of 2 or more (log entry 199) -/

section
variable (hfree : heldAwake s = false)
include hfree

/-- A shallower depth that is needed is reached by a wake (R126). -/
theorem rebook_shallower (h : depthAllowed s < s.eave.depth) : rebook s = beginWake (bookedNear s) s := by
  simp only [rebook, hfree, Bool.false_eq_true, if_false, h, if_true]

variable (hmay : s.eave.depth ≤ depthAllowed s)
include hmay

/-- A deeper depth that is chosen is entered (R126). -/
theorem rebook_deeper (h : s.eave.depth < (chooseDepth s).1) : rebook s = enterDepth (chooseDepth s).1 (chooseDepth s).2 s := by
  simp only [rebook, hfree, Bool.false_eq_true, if_false, h, if_true, Nat.not_lt.mpr hmay]

variable (hstay : (chooseDepth s).1 ≤ s.eave.depth) {b : Booking} (hb : nextBooking s = some b)
include hstay hb

/-- A booking that lies nearer than the lead begins a wake that is no late wake (R129, R130). -/
theorem rebook_near (h : b.1 < s.now + wakeLead s) : rebook s = beginWake true s := by
  simp only [rebook, hfree, Bool.false_eq_true, if_false, Nat.not_lt.mpr hmay, Nat.not_lt.mpr hstay, (bookedNear_iff hb).mpr h,
    if_true]

/-- Otherwise the wake instant follows the booking (R126). -/
theorem rebook_follows (h : s.now + wakeLead s ≤ b.1) :
    rebook s = s.modEave (fun e => { e with wakeAt := some (b.1 - wakeLead s) }) := by
  have hnear : ¬bookedNear s = true := fun hc => Nat.not_lt.mpr h ((bookedNear_iff hb).mp hc)
  simp only [rebook, hfree, Bool.false_eq_true, if_false, Nat.not_lt.mpr hmay, Nat.not_lt.mpr hstay, hnear, hb, Option.map_some]

end

/-! ### The booked wake -/

/-- The wake instant of a sleeping PD3 CORE, rounded down to an XS edge from L3 on (R126). -/
theorem wakeDue_booked {w : Nat} (h : s.eave.wakeAt = some w) (hd : s.eave.depth ≠ 0) (hw : s.eave.waking = none) :
    wakeDue s = some (if 3 ≤ s.eave.depth then w - w % 32768 else w) := by
  simp [wakeDue, h, hd, hw]

/-- EAVE_WAKE begins the wake unless a booked domain is to be switched on before (R126). -/
theorem execEaveWake_wakes {w : Nat} (hw : wakeDue s = some w) (hfirst : ∀ d : Nat, switchDue s = some d → w ≤ d)
    (hc : clearUntil w s = true) : execEaveWake s = .next (execEaveWake.wakeNow (reach w s)) := by
  unfold execEaveWake
  rw [hw]
  cases hs : switchDue s with
  | none => exact next_congr (atDue_clear hc)
  | some d => exact next_congr ((if_neg (Nat.not_lt.mpr (hfirst d hs))).trans (atDue_clear hc))

/-- EAVE_WAKE switches a booked domain on where that comes first (R124). -/
theorem execEaveWake_switches {d : Nat} (hs : switchDue s = some d) (hfirst : ∀ w : Nat, wakeDue s = some w → d < w)
    (hc : clearUntil d s = true) : execEaveWake s = .next (switchBooked (reach d s)) := by
  unfold execEaveWake
  rw [hs]
  cases hw : wakeDue s with
  | none => exact next_congr (atDue_clear hc)
  | some w => exact next_congr ((if_pos (hfirst w hw)).trans (atDue_clear hc))

/-- Requests for domains change the domains alone. -/
theorem requestAll_frame (ds : List Nat) (s : State) :
    requestAll ds s = { s with power := { s.power with domains := (requestAll ds s).power.domains } } := by
  have hfold (l : List Nat) : ∀ p : Power, l.foldl Power.request p = { p with domains := (l.foldl Power.request p).domains } := by
    induction l with
    | nil => exact fun _ => rfl
    | cons d l ih => exact fun p => ih (p.request d)
  exact congrArg (fun p => { s with power := p }) (hfold (withNeeds ds) s.power)

/-- Booked domains that are switched on change the domains and Eave (R114, R124). -/
theorem switchBooked_frame (s : State) : switchBooked s =
    { s with eave := (switchBooked s).eave, power := { s.power with domains := (switchBooked s).power.domains } } := by
  have hrequest := requestAll_frame (((switchOns s).filter (fun x => decide (x.1 ≤ s.now))).map (·.2)) s
  unfold switchBooked
  dsimp only
  generalize requestAll (((switchOns s).filter (fun x => decide (x.1 ≤ s.now))).map (·.2)) s = u at hrequest ⊢
  split
  · have hwake := beginWake_frame true u
    generalize beginWake true u = t at hwake ⊢
    rw [hrequest] at hwake
    rw [hwake]
  · rw [hrequest]

/-! ### What a wake teaches -/

/-- The fine epoch is aligned again above every stamp issued before, by at most one XS period (R87). -/
theorem realign_spec (s : State) : (realign s).time.fine = true ∧ (s.time.fine = true → (realign s).now = s.now) ∧
    (s.time.fine = false → s.now < lastEpoch → s.now < (realign s).now ∧ (realign s).now ≤ s.now + 32767) ∧
    (realign s).eave = s.eave ∧ (realign s).power = s.power ∧ (realign s).conf = s.conf := by
  unfold realign
  split
  · next hf => exact ⟨hf, fun _ => rfl, fun h => absurd (hf.symm.trans h) (by decide), rfl, rfl, rfl⟩
  · next hf =>
    have hgap := Nat.mod_lt (Config.freeNat s.free) (show 0 < 32767 by decide)
    refine ⟨rfl, fun h => absurd h hf, fun _ hlast => ?_, rfl, rfl, rfl⟩
    show s.now < min lastEpoch (s.now + 1 + Config.freeNat s.free % 32767) ∧
      min lastEpoch (s.now + 1 + Config.freeNat s.free % 32767) ≤ s.now + 32767
    omega

/-- The event of a changed latency entry touches neither Eave nor the domains nor the epoch (R128). -/
theorem entryEvent_keeps (d : Nat) (old : Latency) (s : State) : (entryEvent d old s).eave = s.eave ∧
    (entryEvent d old s).power = s.power ∧ (entryEvent d old s).time = s.time := by
  unfold entryEvent
  dsimp only
  split
  · exact ⟨rfl, rfl, rfl⟩
  · exact ⟨emit_eave .., emit_power .., emit_time ..⟩

/-- A measured wake changes one latency row and LATE_WAKES of Eave: a late one counts and sets the row back to its factory
value, another joins the row's measurements (R128–R130). -/
theorem measure_spec (d us : Nat) (excused : Bool) (s : State) : ∃ (r : Latency) (n : Nat),
    (measure d us excused s).eave = { s.eave with rows := tmod s.eave.rows (d - 1) (fun _ => r), lateWakes := n } ∧
    (measure d us excused s).power = s.power ∧ (measure d us excused s).time = s.time ∧
    (excused = false ∧ ((s.latency d).entry + s.nat 4 2 < us ∨ factoryLatency d < us) →
      n = satAdd 0xFFFF s.eave.lateWakes 1 ∧ r.entry = factoryLatency d ∧ r.samples = []) ∧
    (¬(excused = false ∧ ((s.latency d).entry + s.nat 4 2 < us ∨ factoryLatency d < us)) →
      n = s.eave.lateWakes ∧ r.samples = (us :: (s.latency d).samples).take 8) := by
  unfold measure
  dsimp only
  split
  · next hlate =>
    refine ⟨{ s.latency d with entry := factoryLatency d, learned := false, samples := [] }, satAdd 0xFFFF s.eave.lateWakes 1,
      ?_, ?_, ?_, fun _ => ⟨rfl, rfl, rfl⟩, fun h => absurd hlate h⟩
    · rw [(entryEvent_keeps ..).1, emit_eave]
      rfl
    · rw [(entryEvent_keeps ..).2.1, emit_power]
      rfl
    · rw [(entryEvent_keeps ..).2.2, emit_time]
      rfl
  · next hlate =>
    split
    · exact ⟨_, _, rfl, rfl, rfl, fun h => absurd h hlate, fun _ => ⟨rfl, rfl⟩⟩
    · refine ⟨_, s.eave.lateWakes, (entryEvent_keeps ..).1, (entryEvent_keeps ..).2.1, (entryEvent_keeps ..).2.2,
        fun h => absurd h hlate, fun _ => ⟨rfl, rfl⟩⟩

/-- PD3 CORE at L0 with the fine epoch, as a wake from the state `s` ends (R87, R124). -/
def awake (s : State) : State :=
  realign ((s.modEave (fun e => { e with depth := 0, waking := none, wakeAt := none })).modPower (fun p => p.switchOn s.now 3))

/-- WAKE_MEASURED ends the wake and then learns from it (R128, R129); HOST.HOLD may begin meanwhile (R40). -/
theorem execWakeMeasured_learns {us : Nat} {w : Waking} (hw : s.eave.waking = some w)
    (hc : clearUntil (w.since + lsbOfUs us) s = true) : ∃ f : HostLink → HostLink, execWakeMeasured us s =
      .next (measure w.depth us w.excused ((awake (reach (w.since + lsbOfUs us) s)).modHost f)) := by
  unfold execWakeMeasured
  rw [hw]
  exact ⟨_, next_congr (atDue_clear hc)⟩

theorem Power.switchOn_state {d : Nat} (hd : d < 10) (p : Power) (now : Nat) :
    (tget (p.switchOn now d).domains d).state = .on := by
  rw [Power.switchOn, tget_tmod_same _ _ _ hd]
  split
  · assumption
  · rfl

/-- PD3 CORE is on and at L0, no wake runs, the epoch is FINE, and the rest of Eave is as it was. -/
theorem awake_spec (s : State) : (awake s).eave = { s.eave with depth := 0, waking := none, wakeAt := none } ∧
    (awake s).powered 3 = true ∧ (awake s).conf = s.conf ∧ (awake s).time.fine = true ∧
    (s.time.fine = true → (awake s).now = s.now) ∧
    (s.time.fine = false → s.now < lastEpoch → s.now < (awake s).now ∧ (awake s).now ≤ s.now + 32767) := by
  obtain ⟨hfine, hsame, hgap, heave, hpower, hconf⟩ := realign_spec
    ((s.modEave (fun e => { e with depth := 0, waking := none, wakeAt := none })).modPower (fun p => p.switchOn s.now 3))
  refine ⟨heave, ?_, hconf, hfine, hsame, hgap⟩
  rw [State.powered, awake, hpower, State.modPower_power, Power.switchOn_state (by decide)]
  rfl

end

/-- Settles O31: each choice of the depth is one change of Eave (`execDepthChoice_eq`, `enterDepth_spec`, `rebook_follows`), a
wake begins by `beginWake_begins`, and a measured one ends in `awake` and teaches one latency row (`measure_spec`). -/
theorem sleepDepthAndWakes : Obligations.SleepDepthAndWakes := by
  unfold Obligations.SleepDepthAndWakes
  intro us s
  refine ⟨fun hr hd hw hb hlit => ?idle, fun hr hd hw hb hlit => ?rebooked, fun w hw hd hnone hr hfirst hc => ?wakes,
    fun d hs hfirst hc => ?switches, fun w hw h1 h4 hc => ?measured, fun hb => ?stable⟩
  case idle =>
    have hexec := execDepthChoice_eq hr hw hb hlit
    rw [if_neg (by omega)] at hexec
    refine ⟨fun hheld => ?_, fun hheld hsame => ?_, fun d hheld hchosen hne h1 h4 => ?_⟩
    · rw [if_pos hheld] at hexec
      exact ⟨_, hexec, rfl⟩
    · rw [if_neg (by simp [hheld]), if_pos hsame] at hexec
      exact ⟨_, hexec, rfl⟩
    · rw [if_neg (by simp [hheld]), if_neg (by rw [hchosen]; exact hne), hchosen] at hexec
      obtain ⟨heave, hdeep, hlight, hoff, hpower, hframe⟩ := enterDepth_spec (d := d) (chooseDepth s).2 s
      exact ⟨_, hexec, congrArg Eave.depth heave, congrArg Eave.wakeAt heave, enterDepth_entries h1 h4 _, hdeep, hlight, hoff,
        hpower, hframe⟩
  case rebooked =>
    have hexec := execDepthChoice_eq hr hw hb hlit
    rw [if_pos hd] at hexec
    have hd0 : s.eave.depth ≠ 0 := by omega
    refine ⟨fun hheld => ?_, fun hfree hneed => ?_, fun hfree hmay hdeeper => ?_, fun b hfree hmay hstay hbook =>
      ⟨fun hfar => ?_, fun hnear => ?_⟩⟩
    · rw [show rebook s = beginWake false s from if_pos hheld, beginWake_begins hd0 hw hr] at hexec
      exact ⟨_, hexec, rfl⟩
    · rw [rebook_shallower hfree hneed, beginWake_begins hd0 hw hr] at hexec
      exact ⟨_, hexec, rfl⟩
    · rw [rebook_deeper hfree hmay hdeeper] at hexec
      obtain ⟨heave, -⟩ := enterDepth_spec (d := (chooseDepth s).1) (chooseDepth s).2 s
      exact ⟨_, hexec, congrArg Eave.depth heave, congrArg Eave.wakeAt heave, (congrArg Eave.waking heave).trans hw⟩
    · rw [rebook_follows hfree hmay hstay hbook hfar] at hexec
      exact ⟨_, hexec, rfl⟩
    · rw [rebook_near hfree hmay hstay hbook hnear, beginWake_begins hd0 hw hr] at hexec
      exact ⟨_, hexec, rfl⟩
  case wakes =>
    have hexec := execEaveWake_wakes (wakeDue_booked hw hd hnone) hfirst hc
    generalize (if 3 ≤ s.eave.depth then w - w % 32768 else w) = due at hexec ⊢
    have hbegin := beginWake_begins (e := false) (s := (reach due s).modEave (fun e => { e with wakeAt := none }))
      (by rw [State.modEave_eave, reach_eave]; exact hd) (by rw [State.modEave_eave, reach_eave]; exact hnone)
      (by rw [State.modEave_stew, reach_stew]; exact hr)
    rw [execEaveWake.wakeNow, hbegin] at hexec
    refine ⟨_, hexec, rfl, ?_, ?_⟩
    · rw [State.modEave_eave, State.modEave_eave, reach_eave]
      rfl
    · rw [reach_frame]
      rfl
  case switches =>
    have hexec := execEaveWake_switches hs hfirst hc
    have hframe := switchBooked_frame (reach d s)
    generalize switchBooked (reach d s) = t at hexec hframe
    have hnow : t.now = (reach d s).now := by rw [hframe]; rfl
    have htime : t.time = (reach d s).time := by rw [hframe]
    refine ⟨t, hexec, hnow, ?_⟩
    rw [reach_frame, ← htime] at hframe
    exact hframe
  case measured =>
    obtain ⟨f, hexec⟩ := execWakeMeasured_learns hw hc
    have hve : (reach (w.since + lsbOfUs us) s).eave = s.eave := reach_eave ..
    have hvc : (reach (w.since + lsbOfUs us) s).conf = s.conf := reach_conf ..
    have hvf := reach_fine (w.since + lsbOfUs us) s
    generalize reach (w.since + lsbOfUs us) s = v at hexec hve hvc hvf ⊢
    obtain ⟨heave, hon, hconf, hfine, hsame, hgap⟩ := awake_spec v
    rw [hve] at heave
    rw [hvc] at hconf
    rw [hvf] at hsame hgap
    obtain ⟨r, n, hteach, hpower, htime, hlate, hontime⟩ := measure_spec w.depth us w.excused ((awake v).modHost f)
    have hrow : ((awake v).modHost f).latency w.depth = s.latency w.depth := by
      rw [State.latency, State.modHost_eave, heave]
      rfl
    have hmargin : ((awake v).modHost f).nat 4 2 = s.nat 4 2 := by
      rw [State.nat, State.modHost_conf, hconf]
      rfl
    rw [State.modHost_eave, heave] at hteach
    rw [State.modHost_power] at hpower
    rw [State.modHost_time] at htime
    rw [hrow, hmargin, State.modHost_eave, heave] at hlate hontime
    generalize measure w.depth us w.excused ((awake v).modHost f) = t at hexec hteach hpower htime
    have hnow : t.now = (awake v).now := congrArg TimeBase.epoch htime
    have hlearned : t.latency w.depth = r := by
      rw [State.latency, hteach]
      exact tget_tmod_same _ _ _ (by omega)
    have hpowered : t.powered 3 = (awake v).powered 3 := by
      rw [State.powered, hpower]
      rfl
    refine ⟨t, hexec, by rw [hteach], by rw [hteach], by rw [htime, hfine], hpowered.trans hon, fun hf => ?_, fun hf => ?_,
      fun he hover => ?_, fun hin => ?_⟩
    · exact hnow.trans (hsame hf)
    · rw [hnow]
      exact hgap hf
    · obtain ⟨hcount, hentry, hsamples⟩ := hlate ⟨he, hover⟩
      rw [hlearned, hteach]
      exact ⟨hcount, hentry, hsamples⟩
    · obtain ⟨hcount, hsamples⟩ := hontime fun ⟨he, hover⟩ => by
        obtain hex | ⟨hmargin, hfactory⟩ := hin
        · exact absurd (hex.symm.trans he) (by decide)
        · omega
      rw [hlearned, hteach]
      exact ⟨hcount, hsamples⟩
  case stable =>
    by_cases hx : s.eave.xsStable = true
    · refine ⟨s, next_congr (if_pos (.inr hx)), ?_, rfl⟩
      rw [← hx]
    · exact ⟨_, next_congr (if_neg (by simp [hb, hx])), rfl, rfl⟩

end Sys2Proof.Machine
end

section
/-! SUPPORT. Triggers that begin a transition and the judgement of POWER.MODE_REQUEST (R115, R116, R119, R132, R504). -/

namespace Sys2Proof.Machine

variable {s : State}

/-! ### Triggers -/

/-- A transition that begins is the one in progress, and of modes and domains nothing else but the domains changes (R116). -/
theorem beginTransition_power (c : Nat) (m : Mode) (s : State) : (beginTransition c m s).power =
    { s.power with
      moving := some { target := m, trigger := c, since := s.now }, domains := (beginTransition c m s).power.domains } := by
  unfold beginTransition
  rw [beginWake_frame, requestAll_frame]
  rfl

/-- A trigger that applies begins its transition where none is in progress (R115, R116). -/
theorem trigger_begins {c : Nat} {m : Mode} (hnone : s.power.moving = none) (ht : trigTarget c s = some m) :
    (trigger c s).power =
      { s.power with moving := some { target := m, trigger := c, since := s.now }, domains := (trigger c s).power.domains } := by
  have hbegin : trigger c s = beginTransition c m s := by simp only [trigger, hnone, ht]
  rw [hbegin]
  exact beginTransition_power c m s

/-- A trigger touches no ticket. -/
theorem trigger_ticket (c k : Nat) (s : State) : (trigger c s).ticket k = s.ticket k := by
  rw [trigger_frame]
  rfl

theorem trigger_now (c : Nat) (s : State) : (trigger c s).now = s.now := by
  rw [trigger_frame]
  rfl

theorem Power.mem_await (p : Power) (c : Nat) : c ∈ (p.await c).waiting := by
  unfold Power.await
  dsimp only
  split
  · next h => exact List.contains_iff_mem.mp h
  · exact List.mem_append_right _ (List.mem_singleton.mpr rfl)

/-! ### What a request asks for -/

/-- The command of a ticket that may start is the ticket's. -/
theorem startable_work {tk op : Nat} {w : Work} (h : startable tk op s = some w) : s.work tk = some w := by
  unfold startable at h
  split at h
  · next v hv =>
    split at h
    · rw [hv, h]
    · cases h
  · cases h

/-- Trigger 0 leads where the request that waits asks for (R115). -/
theorem trigTarget_request {tk : Nat} {w : Work} (ht : s.power.modeTicket = some tk) (hw : s.work tk = some w) :
    trigTarget 0 s = requestTarget s.power.mode (u8At w.req.payload 0) := by
  simp only [trigTarget, ht, hw]

theorem requestTarget_self (m : Mode) : requestTarget m m.code = none := by cases m <;> rfl

/-- The mode that holds is no target of a request (R115). -/
theorem code_ne_of_requestTarget {m m' : Mode} {t : Nat} (h : requestTarget m t = some m') : m.code ≠ t := by
  rintro rfl
  rw [requestTarget_self] at h
  cases h

theorem requestRefusal_refused {t : Nat} (h : requestTarget s.power.mode t = none) :
    requestRefusal t s = some St.modeRefused := by
  simp only [requestRefusal, h]

theorem requestRefusal_noStrap {t : Nat} (h : requestTarget s.power.mode t = some .workshop) (hs : s.power.strap = false) :
    requestRefusal t s = some St.modeNoStrap := by
  simp only [requestRefusal, h, hs, and_self, if_true]

theorem requestRefusal_noCard {t : Nat} (h : requestTarget s.power.mode t = some .workshop) (hs : s.power.strap = true)
    (hc : s.shopCard = false) : requestRefusal t s = some St.modeNoCard := by
  simp [requestRefusal, h, hs, hc]

theorem requestRefusal_none {t : Nat} {m : Mode} (h : requestTarget s.power.mode t = some m)
    (hm : m ≠ .workshop ∨ s.power.strap = true ∧ s.shopCard = true) : requestRefusal t s = none := by
  obtain hm | ⟨hs, hc⟩ := hm
  · simp only [requestRefusal, h, hm, false_and, if_false]
  · simp [requestRefusal, h, hs, hc]

/-! ### A request judged -/

section
variable {tk : Nat} {w : Work} (hw : s.work tk = some w)
include hw

/-- A request for the mode that holds completes (R132). -/
theorem judgeRequest_holds (h : s.power.mode.code = u8At w.req.payload 0) : judgeRequest tk s =
    complete tk St.ok (modeResult 1 (u8At w.req.payload 0) s.now) (s.modPower (fun p => { p with modeTicket := none })) := by
  simp only [judgeRequest, hw, h, if_true]

/-- A request that fails a check completes with its status (R132). -/
theorem judgeRequest_refuses {st : Nat} (hne : s.power.mode.code ≠ u8At w.req.payload 0)
    (h : requestRefusal (u8At w.req.payload 0) s = some st) :
    judgeRequest tk s = complete tk st [] (s.modPower (fun p => { p with modeTicket := none })) := by
  simp only [judgeRequest, hw, hne, h, if_false]

/-- A request that passes its checks begins the transition of trigger 0, and its ticket waits for the end (R116, R504). -/
theorem judgeRequest_begins {m : Mode} (htk : tk < 128) (hnone : s.power.moving = none)
    (htarget : requestTarget s.power.mode (u8At w.req.payload 0) = some m)
    (hpass : requestRefusal (u8At w.req.payload 0) s = none) :
    (judgeRequest tk s).power = { s.power with
        moving := some { target := m, trigger := 0, since := s.now }, modeTicket := some tk
        domains := (judgeRequest tk s).power.domains } ∧
      (judgeRequest tk s).ticket tk = s.ticket tk := by
  have hjudge : judgeRequest tk s = trigger 0 ((s.modWork tk (fun w => { w with aux := [s.power.mode.code] })).modPower
      (fun p => { p with modeTicket := some tk })) := by
    simp only [judgeRequest, hw, code_ne_of_requestTarget htarget, hpass, if_false]
  rw [hjudge]
  refine ⟨trigger_begins hnone ((trigTarget_request (w := { w with aux := [s.power.mode.code] }) rfl ?_).trans htarget),
    trigger_ticket ..⟩
  exact (work_modWork_same s htk).trans (congrArg (Option.map _) hw)

end

/-! ### POWER.MODE_REQUEST -/

section
variable {tk : Fin 128} {w : Work} (hs : startable tk.val 0x0402 s = some w)
include hs

/-- During a transition a request is refused, but for one of the same cycle that stands (R119, R132). -/
theorem execPowerModeRequest_busy {tr : Transition} (hm : s.power.moving = some tr)
    (h : ¬(tr.since = s.now ∧ s.power.modeTicket = none ∧ requestStands (u8At w.req.payload 0) s = true)) :
    execPowerModeRequest tk s = .next (complete tk.val St.modeBusy [] s) :=
  next_congr ((command_start hs).trans (by simp only [hm, h, if_false]))

/-- A request that stands waits for a transition of its own cycle (R119). -/
theorem execPowerModeRequest_waits {tr : Transition} (hm : s.power.moving = some tr)
    (h : tr.since = s.now ∧ s.power.modeTicket = none ∧ requestStands (u8At w.req.payload 0) s = true) :
    execPowerModeRequest tk s = .next (requestWaits tk.val s) :=
  next_congr ((command_start hs).trans (by simp only [hm, h, and_self, if_true]))

/-- A request that stands waits for the end of WATCH (R119). -/
theorem execPowerModeRequest_afterWatch (hm : s.power.moving = none) (ho : windowOver s = true)
    (h : requestStands (u8At w.req.payload 0) s = true) :
    execPowerModeRequest tk s = .next (trigger 7 (requestWaits tk.val s)) :=
  next_congr ((command_start hs).trans (by simp only [hm, ho, h, and_self, if_true]))

/-- Otherwise it is judged (R132). -/
theorem execPowerModeRequest_judged (hm : s.power.moving = none) (ho : windowOver s = false) :
    execPowerModeRequest tk s = .next (judgeRequest tk.val (start tk.val s)) :=
  next_congr ((command_start hs).trans (by simp [hm, ho]))

end

theorem start_ticket {tk : Nat} (htk : tk < 128) (s : State) : ((start tk s).ticket tk).state = .running :=
  congrArg TicketEntry.state (ticket_modTicket_same s htk)

/-- In WATCH trigger 7 leads to PARKED (R115). -/
theorem trigTarget_watchOver (h : s.power.mode = .watch) : trigTarget 7 s = some .parked := by simp only [trigTarget, h]

/-- The window runs out in WATCH alone (R134). -/
theorem mode_of_windowOver (h : windowOver s = true) : s.power.mode = .watch := by
  simp only [windowOver, Bool.and_eq_true, beq_iff_eq] at h
  exact h.1

/-- Settles O27: each clause is one branch of the command (`execPowerModeRequest_busy`, `…_waits`, `…_afterWatch`, `…_judged`),
and a judged request completes or begins its transition (`judgeRequest_holds`, `…_refuses`, `…_begins`). -/
theorem modeRequestsAreJudged : Obligations.ModeRequestsAreJudged := by
  unfold Obligations.ModeRequestsAreJudged
  intro tk s w hs
  refine ⟨fun tr hm => ⟨fun h => ?busy, fun hsince hfree hstands => ?waits⟩, fun hm ho hstands => ?afterWatch,
    fun hm ho => ?judged⟩
  case busy =>
    refine ⟨_, execPowerModeRequest_busy hs hm fun ⟨h1, h2, h3⟩ => ?_, answered_complete s tk.isLt⟩
    simp [h1, h2, h3] at h
  case waits =>
    exact ⟨_, execPowerModeRequest_waits hs hm ⟨hsince, hfree, hstands⟩, rfl, Power.mem_await _ 0, hm, rfl,
      start_ticket tk.isLt s⟩
  case afterWatch =>
    have hwatch := mode_of_windowOver ho
    have hpower := trigger_begins (s := requestWaits tk.val s) hm (trigTarget_watchOver hwatch)
    refine ⟨_, execPowerModeRequest_afterWatch hs hm ho hstands, ?_, ?_, ?_, ?_, ?_⟩
    · rw [hpower]
      rfl
    · rw [hpower]
      exact Power.mem_await _ 0
    · rw [hpower]
      rfl
    · rw [hpower]
      exact hwatch
    · rw [trigger_ticket]
      exact start_ticket tk.isLt s
  case judged =>
    have hexec := execPowerModeRequest_judged hs hm ho
    have hw : (start tk.val s).work tk.val = some w := show s.work tk.val = some w from startable_work hs
    have hrefused {st : Nat} (hne : s.power.mode.code ≠ u8At w.req.payload 0)
        (h : requestRefusal (u8At w.req.payload 0) s = some st) : ∃ t u, execPowerModeRequest tk s = .next t ∧
          Answered tk.val st [] u t ∧ u.power = { s.power with modeTicket := none } := by
      refine ⟨_, (start tk.val s).modPower (fun p => { p with modeTicket := none }), hexec, ?_, rfl⟩
      rw [judgeRequest_refuses (s := start tk.val s) hw hne h]
      exact answered_complete _ tk.isLt
    refine ⟨fun h => ?holds, fun hne h => ?refused, fun h hstrap => ?strap, fun h hstrap hcard => ?card, fun m h hmay => ?begins⟩
    case holds =>
      refine ⟨_, (start tk.val s).modPower (fun p => { p with modeTicket := none }), hexec, ?_, rfl, rfl⟩
      rw [judgeRequest_holds hw h]
      exact answered_complete _ tk.isLt
    case refused =>
      obtain ⟨t, u, ht, hans, hu⟩ := hrefused hne (requestRefusal_refused h)
      exact ⟨t, u, ht, hans, by rw [hu], by rw [hu]; exact hm⟩
    case strap =>
      obtain ⟨t, u, ht, hans, hu⟩ := hrefused (code_ne_of_requestTarget h) (requestRefusal_noStrap h hstrap)
      exact ⟨t, u, ht, hans, by rw [hu]⟩
    case card =>
      obtain ⟨t, u, ht, hans, hu⟩ := hrefused (code_ne_of_requestTarget h) (requestRefusal_noCard h hstrap hcard)
      exact ⟨t, u, ht, hans, by rw [hu]⟩
    case begins =>
      obtain ⟨hpower, hticket⟩ := judgeRequest_begins (s := start tk.val s) hw tk.isLt hm h (requestRefusal_none h hmay)
      refine ⟨_, hexec, ?_, ?_, ?_, ?_⟩
      · rw [hpower]
        rfl
      · rw [hpower]
        rfl
      · rw [hpower]
      · rw [hticket]
        exact start_ticket tk.isLt s

end Sys2Proof.Machine
end

section
/-! SUPPORT. What withdrawn domains, the access engine and the router leave alone: the mode word and the pins, the bits of
INT_STATUS that are set, the records of the log and the commands that have begun (R41, R116–R118, R121). -/

namespace Sys2Proof.Machine

/-! ### What is kept -/

/-- Only what triggers, requests for domains and withdrawals change of modes and domains. -/
def Power.withMoves (p q : Power) : Power := { p with moving := q.moving, waiting := q.waiting, domains := q.domains }

/-- The command of a ticket has started, and may have completed (R472). -/
def Begun (k : Nat) (s : State) : Prop := (s.ticket k).state = .running ∨ (s.ticket k).state = .completed

/-- The domains that the command of a ticket needs (R28). -/
def needsOf (k : Nat) (s : State) : Option (List Nat) := (s.work k).map (·.needs)

/-- The parts of a state that `Calm` speaks of. -/
def State.watched (s : State) : Power × BitVec 32 × List (Nat × EvRec) × Vector TicketEntry 128 × Vector (Option Work) 128 :=
  (s.power, s.host.intStatus, s.safe.sort, s.sheet.tickets, s.stew.works)

/-- From `s` to `t` modes and domains change by triggers, requests and withdrawals only, no bit of INT_STATUS falls, no record
leaves the log, and a command that has begun stays so and keeps its needs. -/
structure Calm (s t : State) : Prop where
  power : t.power = s.power.withMoves t.power
  irq : ∀ i, s.host.intStatus.getLsbD i = true → t.host.intStatus.getLsbD i = true
  log : ∀ e ∈ s.safe.sort, e ∈ t.safe.sort
  begun : ∀ k, Begun k s → Begun k t
  needs : ∀ k, needsOf k t = needsOf k s

theorem Calm.refl (s : State) : Calm s s := ⟨rfl, fun _ => id, fun _ => id, fun _ => id, fun _ => rfl⟩

theorem Calm.trans {r s t : State} (h : Calm r s) (k : Calm s t) : Calm r t where
  power := k.power.trans (congrArg (·.withMoves t.power) h.power)
  irq i hi := k.irq i (h.irq i hi)
  log e he := k.log e (h.log e he)
  begun n hn := k.begun n (h.begun n hn)
  needs n := (k.needs n).trans (h.needs n)

/-- A change elsewhere. -/
theorem Calm.elsewhere {r s t : State} (h : Calm r s) (hw : t.watched = s.watched) : Calm r t := by
  obtain ⟨hp, hh, hs, ht, hk⟩ : t.power = s.power ∧ t.host.intStatus = s.host.intStatus ∧ t.safe.sort = s.safe.sort ∧
    t.sheet.tickets = s.sheet.tickets ∧ t.stew.works = s.stew.works := by simpa [State.watched] using hw
  refine h.trans ⟨by rw [hp]; rfl, fun i hi => by rw [hh]; exact hi, fun e he => by rw [hs]; exact he, fun k hb => ?_,
    fun k => ?_⟩
  · rw [Begun, State.ticket, ht]
    exact hb
  · rw [needsOf, State.work, hk]
    rfl

/-- Triggers, requests and withdrawals. -/
theorem Calm.moves {r s : State} {f : Power → Power} (h : Calm r s) (hf : f s.power = s.power.withMoves (f s.power)) :
    Calm r (s.modPower f) := h.trans ⟨hf, fun _ => id, fun _ => id, fun _ => id, fun _ => rfl⟩

section
variable {r s : State}

theorem Calm.modEv {f : EvUnit → EvUnit} (h : Calm r s) : Calm r (s.modEv f) := h.elsewhere rfl
theorem Calm.modTime {f : TimeBase → TimeBase} (h : Calm r s) : Calm r (s.modTime f) := h.elsewhere rfl
theorem Calm.modEave {f : Eave → Eave} (h : Calm r s) : Calm r (s.modEave f) := h.elsewhere rfl
theorem Calm.modStore {f : Store → Store} (h : Calm r s) : Calm r (s.modStore f) := h.elsewhere rfl
theorem Calm.modMem {f : Mem → Mem} (h : Calm r s) : Calm r (s.modMem f) := h.elsewhere rfl
theorem Calm.modLane {f : Lane → Lane} (h : Calm r s) : Calm r (s.modLane f) := h.elsewhere rfl
theorem Calm.modAccess {f : Access → Access} (h : Calm r s) : Calm r (s.modAccess f) := h.elsewhere rfl
theorem Calm.modLf {f : Lf → Lf} (h : Calm r s) : Calm r (s.modLf f) := h.elsewhere rfl
theorem Calm.modUhf {f : Uhf → Uhf} (h : Calm r s) : Calm r (s.modUhf f) := h.elsewhere rfl
theorem Calm.modRange {f : Range → Range} (h : Calm r s) : Calm r (s.modRange f) := h.elsewhere rfl
theorem Calm.modSw {f : Switch → Switch} (h : Calm r s) : Calm r (s.modSw f) := h.elsewhere rfl
theorem Calm.modCiph {f : Cipher → Cipher} (h : Calm r s) : Calm r (s.modCiph f) := h.elsewhere rfl
theorem Calm.modGrain {f : Grain → Grain} (h : Calm r s) : Calm r (s.modGrain f) := h.elsewhere rfl
theorem Calm.modShut {n : Nat} {f : Shutter → Shutter} (h : Calm r s) : Calm r (s.modShut n f) := h.elsewhere rfl
theorem Calm.modTok {n : Nat} {f : TokSlot → TokSlot} (h : Calm r s) : Calm r (s.modTok n f) := h.elsewhere rfl
theorem Calm.modLfc {n : Nat} {f : LfChan → LfChan} (h : Calm r s) : Calm r (s.modLfc n f) := h.elsewhere rfl
theorem Calm.modPort {n : Nat} {f : Port → Port} (h : Calm r s) : Calm r (s.modPort n f) := h.elsewhere rfl
theorem Calm.modSlot {n : Nat} {f : KeySlot → KeySlot} (h : Calm r s) : Calm r (s.modSlot n f) := h.elsewhere rfl
theorem Calm.modCtx {n : Nat} {f : Option CJob → Option CJob} (h : Calm r s) : Calm r (s.modCtx n f) := h.elsewhere rfl

end

theorem Calm.ite {r s t : State} {c : Prop} [Decidable c] (hs : Calm r s) (ht : Calm r t) : Calm r (if c then s else t) := by
  split <;> assumption

theorem Calm.foldl {r : State} {α : Type} {f : State → α → State} (hf : ∀ s x, Calm r s → Calm r (f s x)) :
    ∀ (l : List α) {s : State}, Calm r s → Calm r (l.foldl f s)
  | [], _, h => h
  | x :: xs, _, h => Calm.foldl hf xs (hf _ x h)

theorem Calm.foldlFst {r : State} {α β : Type} {f : State × β → α → State × β} (hf : ∀ a x, Calm r a.1 → Calm r (f a x).1) :
    ∀ (l : List α) {a : State × β}, Calm r a.1 → Calm r (l.foldl f a).1
  | [], _, h => h
  | x :: xs, _, h => Calm.foldlFst hf xs (hf _ x h)

variable {r s : State}

/-! ### Events -/

theorem HostLink.raise_irq {h : HostLink} {b i : Nat} (hi : h.intStatus.getLsbD i = true) :
    (h.raise b).intStatus.getLsbD i = true := by
  simp [HostLink.raise, hi]

theorem HostLink.take_irq {h : HostLink} {p q : Bool} {n c i : Nat} {e : EvRec} (hi : h.intStatus.getLsbD i = true) :
    (h.take p q n c e).intStatus.getLsbD i = true := by
  unfold HostLink.take
  split
  · split
    · unfold HostLink.ringPut
      split
      · unfold HostLink.ringWrite
        dsimp only
        split
        · exact HostLink.raise_irq hi
        · exact hi
      · exact HostLink.raise_irq hi
    · exact hi
  · exact hi

theorem putEvent_irq {e : EvRec} {i : Nat} (hi : s.host.intStatus.getLsbD i = true) :
    (putEvent e s).host.intStatus.getLsbD i = true := by
  unfold putEvent
  dsimp only
  split <;> exact HostLink.take_irq hi

theorem Calm.putEvent (e : EvRec) (h : Calm r s) : Calm r (putEvent e s) := by
  refine h.trans ⟨by rw [putEvent_power]; rfl, fun i hi => putEvent_irq hi, fun x hx => ?_, fun k hk => ?_, fun k => ?_⟩
  · rw [putEvent_sort]
    split
    · exact List.mem_append_left _ hx
    · exact hx
  · rw [Begun, State.ticket, putEvent_sheet]
    exact hk
  · rw [needsOf, State.work, putEvent_stew]
    rfl

theorem Calm.emitAs (q st src code n k : Nat) (d : Bytes) (h : Calm r s) : Calm r (emitAs q st src code n k d s) :=
  .putEvent _ h.modEv

theorem Calm.emit (src code n k : Nat) (d : Bytes) (h : Calm r s) : Calm r (emit src code d n k s) := h.emitAs ..

/-! ### Wakes, domains and triggers -/

theorem Calm.beginWake (e : Bool) (h : Calm r s) : Calm r (beginWake e s) := .ite h.modEave h

theorem Calm.requestAll (ds : List Nat) (h : Calm r s) : Calm r (requestAll ds s) :=
  h.trans ⟨by rw [requestAll_frame]; rfl, fun _ => id, fun _ => id, fun _ => id, fun _ => rfl⟩

theorem Calm.powerOn (ds : List Nat) (h : Calm r s) : Calm r (Machine.power ds s) := .beginWake _ (.requestAll _ h)

theorem Calm.beginTransition (c : Nat) (m : Mode) (h : Calm r s) : Calm r (beginTransition c m s) :=
  .beginWake _ (.requestAll _ (h.moves rfl))

theorem Calm.trigger (c : Nat) (h : Calm r s) : Calm r (trigger c s) := by
  unfold Machine.trigger
  split
  · split
    · exact .beginTransition _ _ (h.moves rfl)
    · exact h.moves rfl
  · split
    · exact h.beginTransition _ _
    · exact h

/-! ### Tickets -/

/-- What holds of an entry, changed or not, holds of it in the changed table. -/
theorem tget_tmod_of {α : Type} {n : Nat} [Inhabited α] {P : α → Prop} {v : Vector α n} {i j : Nat} {f : α → α}
    (h : P (tget v j)) (hf : P (f (tget v j))) : P (tget (tmod v i f) j) := by
  by_cases hij : i = j
  · subst hij
    by_cases hi : i < n
    · rw [tget_tmod_same _ _ _ hi]
      exact hf
    · rwa [tmod, Vector.setIfInBounds_eq_of_size_le (by omega)]
  · rwa [tget_tmod_other _ _ _ _ hij]

theorem Calm.modWork (tk : Nat) {f : Work → Work} (h : Calm r s) (hf : ∀ w, (f w).needs = w.needs) :
    Calm r (s.modWork tk f) := by
  refine h.trans ⟨rfl, fun _ => id, fun _ => id, fun _ => id, fun k => ?_⟩
  refine tget_tmod_of (P := fun o : Option Work => o.map Work.needs = needsOf k s) rfl ?_
  simp only [Option.map_map, needsOf, State.work]
  congr 1
  exact funext hf

theorem Calm.finishWith (tk st fl : Nat) (d : Bytes) (fr : List Bytes) (h : Calm r s) : Calm r (finishWith tk st d fr fl s) := by
  have hentry : Calm r (s.modTicket tk (fun e => e.finish st d)) := by
    refine h.trans ⟨rfl, fun _ => id, fun _ => id, fun k hk => ?_, fun _ => rfl⟩
    exact tget_tmod_of (P := fun e : TicketEntry => e.state = .running ∨ e.state = .completed) hk (Or.inr rfl)
  have hwork : Calm r ((s.modTicket tk (fun e => e.finish st d)).modWork tk (fun w =>
      { w with status := st, stamp := s.now, frags := fr, flags := w.flags ||| fl, posted := 0, released := [] })) :=
    hentry.modWork tk fun _ => rfl
  exact hwork.elsewhere rfl

theorem Calm.complete (tk st : Nat) (d : Bytes) (h : Calm r s) : Calm r (complete tk st d s) := h.finishWith ..

theorem Calm.completeTiles (tk : Nat) (walk : List WalkItem) (rs : List TileRes) (h : Calm r s) :
    Calm r (completeTiles tk walk rs s) := by
  unfold Machine.completeTiles
  split
  · exact .ite (h.finishWith ..) (h.complete ..)
  · exact h.complete ..

theorem Calm.refuseWaiting (tk st : Nat) (h : Calm r s) : Calm r (refuseWaiting tk st s) :=
  .complete _ _ _ h.modRange

theorem Calm.denyWithdrawn (h : Calm r s) : Calm r (denyWithdrawn s) := by
  unfold Machine.denyWithdrawn
  split
  · exact .foldl (fun _ _ h => h.refuseWaiting ..) _ h
  · exact h

/-! ### The storage queue -/

theorem Calm.pump (h : Calm r s) : Calm r (pump s) := by
  unfold Machine.pump
  split
  · exact h
  · split
    · exact h
    · exact .ite (.ite (.emit _ _ _ _ _ h.modStore) (h.elsewhere rfl))
        (.ite h (.emit _ _ _ _ _ h.modStore))

theorem Calm.enqueue (os : List StoreOp) (h : Calm r s) : Calm r (enqueue os s) :=
  .pump (.requestAll _ h.modStore)

theorem Calm.putRecord (k : Nat) (d : Bytes) (a : After) (h : Calm r s) : Calm r (putRecord k d a s) := .ite h (h.enqueue _)

theorem Calm.bumpCounter (k : Nat) (a : After) (h : Calm r s) : Calm r (bumpCounter k a s) :=
  .enqueue _ (.ite h h.modStore)

/-! ### The router and the firmware shutters -/

theorem Calm.advance (k : Nat) (h : Calm r s) : Calm r (advance k s) := h.elsewhere (by simp [State.watched])

theorem Calm.captureEdge (n st : Nat) (rising coarse : Bool) (h : Calm r s) : Calm r (captureEdge n rising st coarse s) :=
  .ite (.emitAs _ _ _ _ _ _ _ (h.elsewhere (t := recordEdge n rising st coarse s) rfl)) (h.elsewhere rfl)

theorem Calm.dmaTrigger (n st : Nat) (coarse : Bool) (h : Calm r s) : Calm r (dmaTrigger n st coarse s) :=
  .ite h (.ite (h.elsewhere rfl) (.ite (.emit _ _ _ _ _ h.modMem) (h.elsewhere rfl)))

theorem Calm.fireOnce (n f : Nat) (late coarse further : Bool) (h : Calm r s) : Calm r (fireOnce n f late coarse further s) :=
  .ite (.emitAs _ _ _ _ _ _ _ (h.elsewhere (t := raiseRoute _ f coarse (s.modShut n _)) rfl)) (h.elsewhere rfl)

theorem Calm.arrive (d st : Nat) (coarse : Bool) (h : Calm r s) : Calm r (arrive d st coarse s) := by
  have hload (f : Shutter → Shutter) : Calm r (s.modShut (d - 1) f) := h.elsewhere rfl
  have hedge : Calm r (raiseRoute d st coarse (Machine.captureEdge (d - 0x11) true st coarse s)) :=
    (h.captureEdge (d - 0x11) st true coarse).elsewhere rfl
  exact .ite (.ite (.ite ((hload _).fireOnce ..) (hload _)) (hload _))
    (.ite (.ite hedge h) (.ite (h.elsewhere rfl) (.ite (h.dmaTrigger ..) h)))

theorem Calm.runRoutes : ∀ (k : Nat) {s : State}, Calm r s → Calm r (runRoutes k s)
  | 0, _, h => h
  | k + 1, s, h => by
    unfold Machine.runRoutes
    split
    · exact h
    · exact .runRoutes k (.foldl (fun _ _ h => .foldl (fun _ e h => h.arrive _ e.2.1 e.2.2) _ h) _ h.modTime)

theorem Calm.fireRouted (n f : Nat) (late : Bool) (h : Calm r s) : Calm r (fireRouted n f late s) := by
  have honce : Calm r (Machine.fireOnce n f late s.coarse false s) := h.fireOnce ..
  exact .runRoutes _ (.ite (.fireOnce _ _ _ _ _ (honce.advance _)) honce)

theorem Calm.armFirm (n c p : Nat) (h : Calm r s) : Calm r (armFirm n c p s) := by
  have hload : Calm r (s.modShut n (fun x => x.load c p)) := h.elsewhere rfl
  exact .ite ((hload.fireRouted n s.now true).elsewhere rfl) hload

theorem Calm.routedEdge (n st : Nat) (rising coarse : Bool) (h : Calm r s) : Calm r (routedEdge n rising st coarse s) :=
  .runRoutes _ ((h.captureEdge n st rising coarse).elsewhere (t := raiseRoute _ _ _ _) rfl)

theorem Calm.signalEdge (code : Nat) (rising : Bool) (h : Calm r s) : Calm r (signalEdge code rising s) :=
  .foldl (fun _ _ h => h.routedEdge ..) _ h

theorem Calm.fieldEdges (h : Calm r s) : Calm r (fieldEdges s) :=
  .ite h ((h.foldl (fun _ _ h => h.foldl (fun _ _ h => h.routedEdge ..) _) _).modLf)

theorem Calm.rangeEdges (h : Calm r s) : Calm r (rangeEdges s) := by
  unfold Machine.rangeEdges
  split
  · exact h
  · exact (h.foldl (fun _ _ h => h.foldl (fun _ _ h => h.routedEdge ..) _) _).modRange

end Sys2Proof.Machine
end

section
/-! SUPPORT. What the frame switch, the cipher engine and the frames of the access engine leave alone (R180, R189–R193, R325,
R353). -/

namespace Sys2Proof.Machine

variable {r s : State}

/-! ### The frame switch -/

theorem Calm.countBy (n i k : Nat) (h : Calm r s) : Calm r (countBy n i k s) := h.modPort

theorem Calm.count (n i : Nat) (h : Calm r s) : Calm r (count n i s) := h.countBy ..

theorem Calm.sendPause (n t : Nat) (h : Calm r s) : Calm r (sendPause n t s) := .count _ _ h.modPort

theorem Calm.updateHold (n : Nat) (h : Calm r s) : Calm r (updateHold n s) :=
  .ite (.ite (.ite (.sendPause _ _ h.modPort) h.modPort) h) (.ite (.ite (.sendPause _ _ h.modPort) h.modPort) h)

theorem Calm.updateHolds (h : Calm r s) : Calm r (updateHolds s) := .foldl (fun _ n h => h.updateHold n) _ h

theorem Calm.endCopies (n : Nat) (p : SwFrame → Copy → Bool) (h : Calm r s) : Calm r (endCopies n p s) :=
  .updateHolds h.modSw

theorem Calm.placeCopy (cap : Nat) (f : SwFrame) (c : Copy) {a : State × List Copy} (h : Calm r a.1) :
    Calm r (placeCopy cap f c a).1 := by
  unfold Machine.placeCopy
  dsimp only
  split
  · exact .putEvent _ (h.count ..)
  · simp only [apply_ite Prod.fst]
    exact .ite h.modSw (.ite (h.count ..) (.ite (h.count ..) h))

theorem Calm.storeFrame (c : Conf) (f : SwFrame) (ports : List (Nat × Nat)) (hold : Nat) (h : Calm r s) :
    Calm r (storeFrame c f ports hold s) := by
  unfold Machine.storeFrame
  dsimp only
  generalize hcopies : ports.foldl _ (s, []) = a
  have hplaced : Calm r a.1 := by
    rw [← hcopies]
    exact .foldlFst (fun _ _ h => h.placeCopy ..) ports h
  exact .updateHolds (.modSw (.ite hplaced hplaced.modSw))

theorem Calm.sendFrame (built port id : Nat) (d : Bytes) (h : Calm r s) : Calm r (sendFrame built port id d s) := by
  unfold Machine.sendFrame
  dsimp only
  split
  · exact h
  · exact .storeFrame _ _ _ _ (.countBy _ _ _ (.count _ _ h.modEv))

theorem Calm.accessFrame (built port id : Nat) (d : Bytes) (h : Calm r s) : Calm r (accessFrame built port id d s) :=
  .ite (h.sendFrame ..) (.powerOn _ h.modAccess)

theorem Calm.takeDown (n cause : Nat) (h : Calm r s) : Calm r (takeDown n cause s) := by
  unfold Machine.takeDown
  dsimp only
  generalize (if portDisabled s n = true then PortState.disabled else PortState.down) = st
  exact .ite h.modPort (.emit _ _ _ _ _ (.countBy _ _ _ (.endCopies _ _ h.modPort)))

theorem Calm.netOff (h : Calm r s) : Calm r (netOff s) :=
  .foldl (fun _ n h => h.takeDown n 6) _ h.modCtx

/-! ### The cipher engine -/

theorem Calm.consumeNonce (n c : Nat) (h : Calm r s) : Calm r (consumeNonce n c s) := by
  have hused : Calm r (if c = 0xFFFFFFFF then
      Machine.emit 7 0x0B03 (leBytes 1 n ++ zeros 3 ++ leBytes 4 (((s.kslot n).ver.map (·.gen)).getD 0)) (0x90 + n) 0xFF
        (s.modSlot n (fun k => k.consume c)) else s.modSlot n (fun k => k.consume c)) :=
    .ite (.emit _ _ _ _ _ h.modSlot) h.modSlot
  exact .ite (.emit _ _ _ _ _ (.modSlot hused)) hused

theorem Calm.endJob (st c : Nat) (h : Calm r s) : Calm r (endJob st c s) := by
  unfold Machine.endJob
  split
  · dsimp only
    split
    · exact .complete _ _ _ (.modGrain h.modCtx)
    · exact .modGrain h.modCtx
  · exact h

theorem Calm.eraseSlot (n cause : Nat) (a : After) (h : Calm r s) : Calm r (eraseSlot n cause a s).1 := by
  unfold Machine.eraseSlot
  dsimp only
  refine .putRecord _ _ _ (.emit _ _ _ _ _ (.modGrain (.modCiph (.foldl ?waiting _ (.foldl ?jobs _ h.modSlot)))))
  case waiting => exact fun _ t h => h.complete t St.keyEmpty []
  case jobs => exact fun _ c h => h.endJob St.keyRevoked c

theorem Calm.endRead (st tk : Nat) (h : Calm r s) : Calm r (endRead st tk s) := by
  unfold Machine.endRead
  exact .complete _ _ _ (h.modWork tk fun _ => rfl)

theorem Calm.endReads (st : Nat) (h : Calm r s) : Calm r (endReads st s) := .foldl (fun _ p h => h.endRead st p.1) _ h

/-! ### Frames of the access engine -/

theorem Calm.storeAccess (h : Calm r s) : Calm r (storeAccess s) := h.putRecord ..

theorem Calm.reserveRelease (h : Calm r s) : Calm r (reserveRelease s) :=
  .ite (.bumpCounter _ _ h.modAccess) h

theorem Calm.reserveBody (h : Calm r s) : Calm r (reserveBody s) :=
  .ite (.bumpCounter _ _ h.modAccess) h

theorem Calm.bodyFrame (action zone slot : Nat) (h : Calm r s) : Calm r (bodyFrame action zone slot s).1 := by
  unfold Machine.bodyFrame
  dsimp only
  split
  · split
    · exact .reserveBody (.emit _ _ _ _ _ (.accessFrame _ _ _ _ h.modAccess))
    · exact h.reserveBody
  · exact h

theorem Calm.unlockVerdict (zone slot : Nat) (h : Calm r s) : Calm r (unlockVerdict zone slot s) :=
  .trigger _ (.modAccess (.ite h (h.bodyFrame ..)))

theorem Calm.tryUnlock (h : Calm r s) : Calm r (tryUnlock s) := by
  unfold Machine.tryUnlock
  split
  · split
    · exact h.unlockVerdict ..
    · exact h
  · exact h

/-! ### Release -/

theorem Calm.withdrawRelease (h : Calm r s) : Calm r (withdrawRelease s) := by
  unfold Machine.withdrawRelease
  split
  · exact .emit _ _ _ _ _ (.modAccess (h.endCopies ..))
  · exact h

theorem Calm.releaseWithheld (kind c : Nat) (h : Calm r s) : Calm r (releaseWithheld kind c s) :=
  .emit _ _ _ _ _ h.modAccess

theorem Calm.useRelease (h : Calm r s) : Calm r (useRelease s) :=
  .reserveRelease (.ite (.emit _ _ _ _ _ (.storeAccess (.modAccess h.modAccess))) h.modAccess)

theorem Calm.releaseFrame (live : Bool) (stamp : Nat) (h : Calm r s) : Calm r (releaseFrame live stamp s) := by
  unfold Machine.releaseFrame
  dsimp only
  split
  · exact .reserveRelease (h.releaseWithheld ..)
  · split
    · exact .accessFrame _ _ _ _ (.consumeNonce _ _ h.withdrawRelease.useRelease)
    · exact .useRelease (h.withdrawRelease.releaseWithheld ..)

theorem Calm.disarm (n : Nat) (h : Calm r s) : Calm r (disarm n s) := h.modShut

theorem Calm.endRelease (reason : Nat) (h : Calm r s) : Calm r (endRelease reason s) := by
  have hended (f : Access → Access) (d : Bytes) : Calm r (Machine.emit 9 0x0507 d 0 0xFF ((Machine.disarm 14
      (if reason = 0 ∧ (releaseStop s).isNone = true then Machine.releaseFrame false s.now s else s)).modAccess f)) :=
    .emit _ _ _ _ _ (.modAccess (.disarm _ (.ite (h.releaseFrame ..) h)))
  exact .ite (.trigger _ (hended _ _)) (hended _ _)

theorem Calm.releaseFire (stamp : Nat) (h : Calm r s) : Calm r (releaseFire stamp s) := by
  unfold Machine.releaseFire
  dsimp only
  split
  · exact h.endRelease ..
  · split
    · exact (h.releaseFrame ..).endRelease ..
    · exact h.releaseFrame ..

theorem Calm.authorise (slot used : Nat) (h : Calm r s) : Calm r (authorise slot used s) :=
  .releaseFire _ (.modShut
    (.armFirm _ _ _ (.emit _ _ _ _ _ (.emit _ _ _ _ _ h.modAccess))))

/-! ### The driver -/

theorem Calm.laneSend (q : LaneReq) (u : LaneUser) (h : Calm r s) : Calm r (laneSend q u s) :=
  h.elsewhere (by rw [laneSend_frame]; rfl)

theorem Calm.setDriver (d : Option Nat) (cabs : List Nat) (h : Calm r s) : Calm r (setDriver d cabs s) := by
  have hnoted := (h.modAccess (f := fun a => { a with driver := d })).emit
  exact .ite h (.ite (.laneSend _ _ (hnoted ..)) (.modLane (hnoted ..)))

end Sys2Proof.Machine
end

section
/-! SUPPORT. What the cycles of the access engine, the Rangefinder, the transceiver, the LF field array and the cipher engine
leave alone when their domains are withdrawn (R118, R227, R259, R376). -/

namespace Sys2Proof.Machine

variable {r s : State}

/-! ### Cycles of the access engine -/

theorem Calm.setSuspect (v : Bool) (h : Calm r s) : Calm r (setSuspect v s) := .emit _ _ _ _ _ (.storeAccess h.modAccess)

theorem Calm.invalidResponse (slot kind token : Nat) (h : Calm r s) : Calm r (invalidResponse slot kind token s) := by
  unfold Machine.invalidResponse
  dsimp only
  exact .ite (.setSuspect _ (.emit _ _ _ _ _ (.modAccess h.modTok))) (.emit _ _ _ _ _ (.modAccess h.modTok))

theorem Calm.skipEvent (kind st : Nat) (h : Calm r s) : Calm r (skipEvent kind st s) := h.emit ..

theorem Calm.startMissed (h : Calm r s) : Calm r (startMissed s) := by
  unfold Machine.startMissed
  split
  · exact .ite (.emit _ _ _ _ _ h.modAccess) h.modAccess
  · exact h

theorem Calm.locateEnd (tk : Nat) (c : AccCyc) (h : Calm r s) : Calm r (locateEnd tk c s) := by
  unfold Machine.locateEnd
  split
  · exact .ite (h.completeTiles ..) h
  · exact h

theorem Calm.skipCycle (c : AccCyc) (kind st : Nat) (h : Calm r s) : Calm r (skipCycle c kind st s) := by
  have hskipped : Calm r (Machine.skipEvent kind st (s.modAccess (fun a => { a with cyc := none }))) := .skipEvent _ _ h.modAccess
  unfold Machine.skipCycle
  dsimp only
  split
  · exact hskipped.startMissed
  · split
    · exact hskipped.locateEnd ..
    · exact hskipped
  · exact hskipped

theorem Calm.cabResult (c : AccCyc) (h : Calm r s) : Calm r (cabResult c s) := by
  unfold Machine.cabResult
  dsimp only
  split
  · next d _ _ =>
    have hdriver : Calm r (Machine.setDriver (some d) _
        (s.modAccess (fun a => { a with absent := false, cabSeen := s.now }))) :=
      .setDriver _ (((c.resps.filter (fun r => r.passes && (zoneFlags c.map r.zone).testBit 1)).map (·.slot)).mergeSort) h.modAccess
    refine .ite ?_ hdriver
    split
    · exact .ite (hdriver.authorise ..) hdriver.startMissed
    · exact hdriver
  · exact .ite (.startMissed h.modAccess) h.modAccess

theorem Calm.acquireResult (c : AccCyc) (h : Calm r s) : Calm r (acquireResult c s) := by
  unfold Machine.acquireResult
  dsimp only
  split
  · exact .ite (.trigger _ h.modAccess) h.modAccess
  · split
    · exact .ite (.unlockVerdict _ _ h.modAccess) h.modAccess
    · exact h.modAccess

theorem Calm.finishCycle (c : AccCyc) (h : Calm r s) : Calm r (finishCycle c s) := by
  unfold Machine.finishCycle
  dsimp only
  split
  · exact .acquireResult _ h.modAccess
  · split
    · exact .locateEnd _ _ h.modAccess
    · exact h.modAccess
  · exact .cabResult _ h.modAccess

theorem Calm.settleCycle (h : Calm r s) : Calm r (settleCycle s) := by
  unfold Machine.settleCycle
  split
  · exact .ite (h.finishCycle _) h
  · exact h

theorem Calm.modResp (n : Nat) (f : Resp → Resp) (h : Calm r s) : Calm r (modResp n f s) := h.modAccess

theorem Calm.concludeResp (wide : Bool) (n : Nat) (h : Calm r s) : Calm r (concludeResp wide n s) := by
  unfold Machine.concludeResp
  split
  · split
    · dsimp only
      exact .ite (.tryUnlock (.modAccess (.emit _ _ _ _ _ (.modResp _ _ h.modTok)))) (.emit _ _ _ _ _ (.modResp _ _ h.modTok))
    · exact h
  · exact h

theorem Calm.takeRanging (e : Nat × Nat × Nat) (h : Calm r s) : Calm r (takeRanging e s) := by
  have hranged : Calm r (Machine.modResp e.1 (fun r => { r with ranged := e.2.1 }) s) := h.modResp ..
  unfold Machine.takeRanging
  split
  · refine .ite (.settleCycle (.concludeResp _ _ ?_)) h
    exact .ite (.invalidResponse _ _ _ hranged.modTok) (.ite (hranged.skipEvent ..) (.ite (hranged.skipEvent ..) hranged))
  · exact h

theorem Calm.drainRanging (h : Calm r s) : Calm r (drainRanging s) := .foldl (fun _ e h => h.takeRanging e) _ h.modRange

theorem Calm.accessNoBytes (h : Calm r s) : Calm r (accessNoBytes s) := by
  unfold Machine.accessNoBytes
  split
  · exact .ite (h.skipCycle ..) h
  · exact .ite (h.skipEvent ..) h

/-! ### The Rangefinder -/

theorem Calm.noVerdict (x : Sess) (cause : Nat) (h : Calm r s) : Calm r (noVerdict x cause s) :=
  .emit _ _ _ _ _ (.modRange h.rangeEdges)

theorem Calm.calibCount (v : Option Int) (h : Calm r s) : Calm r (calibCount v s) := h.modRange

/-- The end of a session without verdict, counted where it belongs to a port calibration (R259, R262). -/
theorem Calm.sessionLost (calib : Bool) (x : Sess) (cause : Nat) (h : Calm r s) :
    Calm r ((if calib then Machine.calibCount none else id) (Machine.noVerdict x cause s)) := by
  split
  · exact (h.noVerdict ..).calibCount _
  · exact h.noVerdict ..

theorem Calm.sessDrawn (b : Bytes) (h : Calm r s) : Calm r (sessDrawn b s) := by
  unfold Machine.sessDrawn
  split
  · split
    · exact h.modRange
    · exact h.sessionLost ..
  · exact h

theorem Calm.askQueue (c n : Nat) (h : Calm r s) : Calm r (askQueue c n s).1 := by
  unfold Machine.askQueue
  simp only [apply_ite Prod.fst]
  exact .ite h (.ite h.modGrain h.modGrain)

theorem Calm.startSession (x : Sess) (h : Calm r s) : Calm r (startSession x s) := by
  unfold Machine.startSession
  extract_lets x1 s1 a
  have hset : Calm r s1 := h.modRange
  have hasked : Calm r a.1 := hset.askQueue 1 4
  refine .ite (hset.sessionLost ..) ?_
  split
  · exact hasked.sessDrawn _
  · exact hasked.sessionLost ..
  · exact hasked

theorem Calm.calibEnd (st : Nat) (d : Int) (sp ps : Nat) (h : Calm r s) : Calm r (calibEnd st d sp ps s) := by
  unfold Machine.calibEnd
  split
  · exact .complete _ _ _ h.modRange
  · exact h

theorem Calm.calibJudge (c : PortCal) (h : Calm r s) : Calm r (calibJudge c s) := by
  unfold Machine.calibJudge
  exact .ite (h.calibEnd ..) (.ite (h.calibEnd ..) (h.calibEnd ..))

theorem Calm.rangeNextN : ∀ (k : Nat) {s : State}, Calm r s → Calm r (rangeNextN k s)
  | 0, _, h => h
  | k + 1, s, h => by
    unfold Machine.rangeNextN
    refine .ite h ?_
    split
    · exact .rangeNextN k (.startSession _ h.modRange)
    · split
      · exact .ite h (.ite (.rangeNextN k (h.calibJudge _)) (.rangeNextN k (.startSession _ (h.elsewhere (t := s.useFree) rfl))))
      · exact h

theorem Calm.sessNoBytes (h : Calm r s) : Calm r (sessNoBytes s) := by
  unfold Machine.sessNoBytes
  split
  · exact .ite h (.rangeNextN _ (h.sessionLost ..))
  · exact h

theorem Calm.cableEnd (st : Nat) (h : Calm r s) : Calm r (cableEnd st s) := by
  unfold Machine.cableEnd
  split
  · next c cs _ =>
    have hfreed : Calm r (match c.tiles with
        | n :: _ =>
          if c.held then (s.modRange (fun r => { r with cables := cs })).modPort (cablePort n) (fun p => { p with cable := false })
          else s.modRange (fun r => { r with cables := cs })
        | [] => s.modRange (fun r => { r with cables := cs })) := by
      split
      · exact .ite h.modRange.modPort h.modRange
      · exact h.modRange
    dsimp only
    split
    · exact hfreed.completeTiles ..
    · exact hfreed
  · exact h

theorem Calm.endSessions (h : Calm r s) : Calm r (endSessions s) := by
  have hrun : Calm r (match s.range.session with
      | some x => Machine.noVerdict x 3 s
      | none => s) := by
    split
    · exact h.noVerdict ..
    · exact h
  exact .foldl (fun _ x h => h.noVerdict x 3) _ hrun.modRange

theorem Calm.rangeOff (st : Nat) (h : Calm r s) : Calm r (rangeOff st s) :=
  .foldl (fun _ _ h => .cableEnd _ h.modRange) _ (h.endSessions.calibEnd ..)

/-! ### The transceiver -/

theorem Calm.notSent (st cause tk : Nat) (h : Calm r s) : Calm r (notSent st cause tk s) := h.emit ..

theorem Calm.uhfOff (st : Nat) (h : Calm r s) : Calm r (uhfOff st s) := by
  unfold Machine.uhfOff
  dsimp only
  refine .foldl (fun t q ht => ?queued) _ ?serving
  case queued =>
    split
    · exact .ite (.complete _ _ _ (.notSent _ _ _ ht.modUhf)) ht.modUhf
    · exact .ite (ht.complete ..) ht
  case serving =>
    have hoff := Calm.modUhf (f := fun u => { u with
      state := .off, locked := false, access := none, serving := none, window := none, queue := [], req := false, pri := false,
      loaded := none }) (Calm.ite (c := (s.uhf.state == .txRamp || s.uhf.state == .tx || s.uhf.state == .txDown) = true)
        (h.signalEdge 0x60 false) h)
    split
    · split
      · exact .ite (.complete _ _ _ (.emit _ _ _ _ _ hoff.modUhf)) (.complete _ _ _ (.notSent _ _ _ hoff.modUhf))
      · exact hoff.complete ..
      · exact hoff.complete ..
    · exact hoff

/-! ### The LF field array -/

theorem Calm.latchFault (n v p : Nat) (ph : Int) (h : Calm r s) : Calm r (latchFault n v p ph s) :=
  .ite h (.emit _ _ _ _ _ h.modLfc)

theorem Calm.detuneCheck (m : LfChMeas) (h : Calm r s) : Calm r (detuneCheck m s) := by
  unfold Machine.detuneCheck
  dsimp only
  exact .ite (.emit _ _ _ _ _ h.modLfc) h.modLfc

theorem Calm.channelMeasured (l : Bool) (m : LfChMeas) (h : Calm r s) : Calm r (channelMeasured l m s) :=
  .ite (.latchFault _ _ _ _ (.detuneCheck _ h.modLfc)) (.detuneCheck _ h.modLfc)

theorem Calm.modJob (f : LfJob → Option LfJob) (h : Calm r s) : Calm r (modJob f s) := h.modLf

theorem Calm.endDiag (tk st : Nat) (h : Calm r s) : Calm r (endDiag tk st s) := by
  unfold Machine.endDiag
  split
  · exact h.completeTiles ..
  · exact h

theorem Calm.abortDiag (j : LfJob) (h : Calm r s) : Calm r (abortDiag j s) := by
  unfold Machine.abortDiag
  split
  · exact .endDiag _ _ (.modJob _ (h.modWork _ fun _ => rfl))
  · exact h.modJob _

theorem Calm.cutSeq (q : LfSeq) (m : LfMeas) (h : Calm r s) : Calm r (cutSeq q m s) := by
  unfold Machine.cutSeq recordLoss
  exact .modLf (.modLf (.foldl (fun _ _ h => h.signalEdge ..) _ h.fieldEdges))

theorem Calm.cutJob (st : Nat) (q : LfSeq) (m : LfMeas) (h : Calm r s) : Calm r (cutJob st q m s) := by
  unfold Machine.cutJob
  split
  · refine .ite ?diag ?burst
    case diag =>
      split
      · exact .endDiag _ _ (.modJob _ (h.modWork _ fun _ => rfl))
      · exact h.modJob _
    case burst =>
      split
      · split
        · exact .complete _ _ _ (.modJob _ (.foldl (fun _ _ h => h.channelMeasured ..) _ h))
        · exact h
      · exact h
  · exact h

theorem Calm.lfOff (h : Calm r s) : Calm r (lfOff s) := by
  unfold Machine.lfOff
  dsimp only
  refine .modLf ?_
  have hcut : Calm r ((liveSeqs s).foldl (fun st q => Machine.cutSeq q {} st) s) := h.foldl (fun _ q h => h.cutSeq q {}) _
  split
  · refine .ite hcut (.ite (.ite (hcut.abortDiag _) ?tiles) ?burst)
    case tiles =>
      split
      · exact .endDiag _ _ (hcut.modJob _)
      · exact hcut.modJob _
    case burst =>
      split
      · exact hcut.cutJob ..
      · exact hcut
  · exact hcut

/-! ### PD4 SEC -/

theorem Calm.failConsumers (h : Calm r s) : Calm r (failConsumers s) := by
  have hsess : Calm r (if s.grain.reqs.any (fun r => r.consumer == 1) then
      Machine.sessNoBytes (s.modGrain (fun g => { g with reqs := [] })) else s.modGrain (fun g => { g with reqs := [] })) :=
    .ite h.modGrain.sessNoBytes h.modGrain
  exact .drainRanging (.ite hsess.accessNoBytes hsess)

theorem Calm.secOff (st : Nat) (h : Calm r s) : Calm r (secOff st s) := by
  unfold Machine.secOff
  dsimp only
  refine .modGrain (.modAccess ?_)
  have hread : Calm r (Machine.endReads st (Machine.failConsumers ((List.range 8).foldl (fun t c => Machine.endJob st c t) s))) :=
    .endReads _ (.failConsumers (.foldl (fun _ c h => h.endJob st c) _ h))
  split
  · exact hread.complete ..
  · exact hread

/-! ### A domain switched off -/

/-- What a domain's withdrawal ends leaves the mode word and the pins alone (R118). -/
theorem Calm.offHook (st d : Nat) (h : Calm r s) : Calm r (offHook st d s) := by
  unfold Machine.offHook
  split
  · exact h.secOff st
  · exact h.uhfOff st
  · exact (h.rangeOff st).drainRanging
  · exact h.lfOff
  · exact h.netOff
  · exact h

theorem Calm.domainOff (st d : Nat) (h : Calm r s) : Calm r (domainOff st d s) := .ite ((h.offHook st d).moves rfl) (h.moves rfl)

end Sys2Proof.Machine
end

section
/-! SUPPORT. The access engine at a change of the mode, at a change of a pin and when a domain idles (R113, R121, R158–R161). -/

namespace Sys2Proof.Machine

variable {r s : State}

/-! ### The access engine in a new mode -/

theorem Calm.unsettle (n : Nat) (h : Calm r s) : Calm r (unsettle n s) := .ite (.emit _ _ _ _ _ h.modTok) h.modTok

theorem Calm.closePoll (h : Calm r s) : Calm r (closePoll s) := by
  unfold Machine.closePoll
  split
  · exact .emit _ _ _ _ _ (.modAccess (.foldl (fun _ _ h => .ite (h.unsettle _) h.modTok) _ h))
  · exact h

theorem Calm.learnOver (h : Calm r s) : Calm r (learnOver s) := by
  unfold Machine.learnOver
  exact .ite (.armFirm _ _ _ h.modAccess) h.modAccess

theorem Calm.learnEnd (st : Nat) (h : Calm r s) : Calm r (learnEnd st s) := by
  unfold Machine.learnEnd
  split
  · exact .ite (h.learnOver.complete ..) h.learnOver
  · exact h

theorem Calm.endLearning (h : Calm r s) : Calm r (endLearning s) := by
  unfold Machine.endLearning
  split
  · exact .learnEnd _ (.ite (h.eraseSlot ..) h)
  · exact h

theorem Calm.endLocate (h : Calm r s) : Calm r (endLocate s) := by
  unfold Machine.endLocate
  extract_lets tk s1
  have hdropped : Calm r s1 := h.modAccess
  clear_value tk
  split
  · split
    · exact .ite (hdropped.completeTiles ..) hdropped
    · exact hdropped
  · exact hdropped

theorem Calm.storeSlots (h : Calm r s) : Calm r (storeSlots s) := .foldl (fun _ _ h => h.putRecord ..) _ h

theorem Calm.abandonAll (h : Calm r s) : Calm r (abandonAll s) := .disarm _ (.disarm _ (.disarm _ h.modAccess))

theorem Calm.enterPoll (grid : Bool) (h : Calm r s) : Calm r (enterPoll grid s) := by
  unfold Machine.enterPoll
  extract_lets s1 s2
  have hset : Calm r s2 := .modUhf (.disarm _ (.disarm _ h.modAccess))
  exact .ite (.disarm _ hset.modAccess) (.armFirm _ _ _ hset.modAccess)

theorem Calm.accessMode (old : Mode) (trig : Nat) (h : Calm r s) : Calm r (accessMode old trig s) := by
  unfold Machine.accessMode
  extract_lets m sL s0 s1
  have hlearned : Calm r sL := .ite h h.endLearning
  have hstored : Calm r s1 := .ite (.storeSlots (.closePoll (.ite hlearned hlearned.endLocate)))
    (.closePoll (.ite hlearned hlearned.endLocate))
  have hended : Calm r (if releasing s1 then Machine.endRelease 4 s1 else s1) := .ite (hstored.endRelease 4) hstored
  split
  · exact .modUhf (.modAccess hended.abandonAll)
  · exact .modUhf (.modAccess hended.abandonAll)
  · exact hended.enterPoll _
  · exact hended.enterPoll _
  · exact .modUhf (.armFirm _ _ _ (.disarm _ hended.modAccess))
  · exact .armFirm _ _ _ (.disarm _ (.modAccess (hstored.foldl (fun _ n h => h.unsettle n) _)))
  · exact hstored
  · exact .modUhf (.ite (.disarm _ hstored.modAccess) (.armFirm _ _ _ (.disarm _ hstored.modAccess)))

/-! ### Pins -/

theorem Calm.accessIgn (level : Bool) (h : Calm r s) : Calm r (accessIgn level s) := by
  unfold Machine.accessIgn
  split
  · exact .ite h.modAccess (h.elsewhere (t := abandonStart s) rfl)
  · exact .ite h (h.endRelease 0)
  · exact .ite (h.elsewhere (t := askPoll 4 s) rfl) h
  · exact .ite (h.elsewhere (t := askPoll 4 s) rfl) h
  · exact h

theorem Calm.accessDoor (d : Nat) (h : Calm r s) : Calm r (accessDoor d s) := by
  unfold Machine.accessDoor
  extract_lets s1
  have hstamped : Calm r s1 := h.modAccess
  split
  · exact hstamped.tryUnlock
  · exact hstamped.elsewhere (t := askPoll d s1) rfl
  · exact hstamped.elsewhere (t := askPoll d s1) rfl
  · exact hstamped

theorem Calm.dropIdle (d : Nat) (h : Calm r s) : Calm r (dropIdle d s) := .ite (h.domainOff ..) h

end Sys2Proof.Machine
end

section
/-! SUPPORT. The end of a transition, its drain, and the triggers that time brings (R115–R120, R134, R504). -/

namespace Sys2Proof.Machine

variable {r s : State}

/-! ### The mode word -/

/-- From `s` to `t` the mode and the count of changes stay, and MODE_CHANGE is not taken back (R41). -/
structure ModeHeld (s t : State) : Prop where
  mode : t.power.mode = s.power.mode
  previous : t.power.previous = s.power.previous
  changes : t.power.changes = s.power.changes
  irq : s.host.intStatus.getLsbD 5 = true → t.host.intStatus.getLsbD 5 = true

theorem ModeHeld.trans {r s t : State} (h : ModeHeld r s) (k : ModeHeld s t) : ModeHeld r t :=
  ⟨k.mode.trans h.mode, k.previous.trans h.previous, k.changes.trans h.changes, fun hi => k.irq (h.irq hi)⟩

theorem ModeHeld.ite {r s t : State} {c : Prop} [Decidable c] (hs : ModeHeld r s) (ht : ModeHeld r t) :
    ModeHeld r (if c then s else t) := by split <;> assumption

/-- A change that leaves the mode word alone. -/
theorem ModeHeld.elsewhere {r s t : State} (h : ModeHeld r s) (hm : t.power.mode = s.power.mode)
    (hp : t.power.previous = s.power.previous) (hc : t.power.changes = s.power.changes)
    (hi : t.host.intStatus = s.host.intStatus) : ModeHeld r t :=
  h.trans ⟨hm, hp, hc, fun hirq => by rw [hi]; exact hirq⟩

/-- A change of the fields of modes and domains besides the mode word. -/
theorem ModeHeld.modPower {r s : State} {f : Power → Power} (h : ModeHeld r s) (hm : (f s.power).mode = s.power.mode)
    (hp : (f s.power).previous = s.power.previous) (hc : (f s.power).changes = s.power.changes) :
    ModeHeld r (s.modPower f) := h.elsewhere hm hp hc rfl

theorem ModeHeld.modSheet {r s : State} {f : Sheet → Sheet} (h : ModeHeld r s) : ModeHeld r (s.modSheet f) :=
  h.elsewhere rfl rfl rfl rfl

theorem ModeHeld.modWork {r s : State} {tk : Nat} {f : Work → Work} (h : ModeHeld r s) : ModeHeld r (s.modWork tk f) :=
  h.elsewhere rfl rfl rfl rfl

theorem Calm.modeHeld {s t : State} (h : Calm s t) : ModeHeld s t :=
  ⟨by rw [h.power]; rfl, by rw [h.power]; rfl, by rw [h.power]; rfl, h.irq 5⟩

theorem ModeHeld.calm {r s t : State} (h : ModeHeld r s) (k : Calm s t) : ModeHeld r t := h.trans k.modeHeld

/-! ### Triggers and re-runs -/

theorem ModeHeld.judgeRequest (tk : Nat) (h : ModeHeld r s) : ModeHeld r (judgeRequest tk s) := by
  unfold Machine.judgeRequest
  split
  · extract_lets t m s1
    have hfree : ModeHeld r s1 := h.modPower rfl rfl rfl
    refine .ite (hfree.calm (.complete _ _ _ (.refl _))) ?_
    split
    · exact hfree.calm (.complete _ _ _ (.refl _))
    · exact .calm (.modPower h.modWork rfl rfl rfl) (.trigger _ (.refl _))
  · exact h

theorem ModeHeld.actTrigger (c : Nat) (h : ModeHeld r s) : ModeHeld r (actTrigger c s) := by
  unfold Machine.actTrigger
  split
  · exact h.judgeRequest _
  · exact h.calm (.trigger _ (.refl _))

theorem ModeHeld.nextTrigger (h : ModeHeld r s) : ModeHeld r (nextTrigger s) := by
  unfold Machine.nextTrigger
  extract_lets l s1 s2
  have hdropped : ModeHeld r s1 := h.modPower rfl rfl rfl
  have hjudged : ModeHeld r s2 := .ite (hdropped.actTrigger 0) hdropped
  clear_value l
  split
  · exact hjudged.actTrigger _
  · exact hjudged

theorem ModeHeld.requestDone (trig : Nat) (h : ModeHeld r s) : ModeHeld r (requestDone trig s) := by
  unfold Machine.requestDone
  split
  · exact h
  · exact .ite (.calm (h.modPower rfl rfl rfl) (.complete _ _ _ (.refl _))) h

theorem ModeHeld.rerun (tk : Nat) (h : ModeHeld r s) : ModeHeld r (rerun tk s) := by
  unfold Machine.rerun
  split
  · exact h.calm (.complete _ _ _ (.refl _))
  · extract_lets o needs walk s1
    have haccepted : ModeHeld r s1 := h.elsewhere rfl rfl rfl rfl
    split
    · exact haccepted.calm (.complete _ _ _ (.refl _))
    · exact .ite haccepted (haccepted.calm (.requestAll _ (.refl _)))

theorem ModeHeld.startReruns (h : ModeHeld r s) : ModeHeld r (startReruns s) := by
  unfold Machine.startReruns
  generalize replaying s = l
  induction l generalizing s with
  | nil => exact h
  | cons tk l ih => exact ih (h.rerun tk)

theorem ModeHeld.entryTimes (old : Mode) (trig : Nat) (h : ModeHeld r s) : ModeHeld r (entryTimes old trig s) := by
  unfold Machine.entryTimes
  split
  · exact .ite h (.ite (h.modPower rfl rfl rfl) (.modSheet (h.modPower rfl rfl rfl)))
  · exact .ite h (h.modPower rfl rfl rfl)
  · exact h.modPower rfl rfl rfl
  · exact h

/-! ### The end of a transition -/

/-- Once entered, a mode holds, with the old one noted and MODE_CHANGE raised (R41, R116). -/
theorem enterMode_spec (m : Mode) (trig : Nat) (s : State) : (enterMode m trig s).power.mode = m ∧
    (enterMode m trig s).power.previous = s.power.mode ∧
    (enterMode m trig s).power.changes = wrapAdd 16 s.power.changes 1 ∧ (enterMode m trig s).host.intStatus.getLsbD 5 = true := by
  unfold enterMode
  dsimp only
  refine ⟨by rw [emit_power]; rfl, by rw [emit_power]; rfl, by rw [emit_power]; rfl, ?_⟩
  exact (Calm.refl _).emit _ _ _ _ _ |>.irq 5 (by simp [HostLink.raise, irqMode])

/-- What follows from a mode that has been entered leaves it in force (R116–R120). -/
theorem finishTransition_held (tr : Transition) (s : State) :
    ModeHeld (enterMode tr.target tr.trigger (denyWithdrawn s)) (finishTransition tr s) := by
  unfold finishTransition
  extract_lets old s1 s2 s3 s4 s5 s6
  have hentered : ModeHeld (enterMode tr.target tr.trigger (denyWithdrawn s)) s1 :=
    (Calm.refl _).modeHeld.entryTimes ..
  have hoff : Calm s1 s2 := .foldl (fun _ d h => h.domainOff St.aborted d) _ (.refl _)
  have haccess : Calm s1 s3 := hoff.accessMode old tr.trigger
  have hfloor : Calm s1 s4 := .ite (.putRecord _ _ _ haccess.modTime) haccess
  have hheld := hentered.calm hfloor
  have hrun : ModeHeld (enterMode tr.target tr.trigger (denyWithdrawn s)) s5 := .ite hheld.startReruns hheld
  have hwindow : ModeHeld (enterMode tr.target tr.trigger (denyWithdrawn s)) s6 := .ite (hrun.modPower rfl rfl rfl) hrun
  exact (hwindow.requestDone _).nextTrigger

/-- MODE_TRANSITION_COMPLETE ends a transition that is ready (R116). -/
theorem execModeTransitionComplete_ready {tr : Transition} (hm : s.power.moving = some tr) (hr : s.stew.running = true)
    (h : transitionReady tr s = true) : execModeTransitionComplete s = .next (finishTransition tr s) :=
  next_congr (by simp only [hm, hr, h, and_self, if_true])

/-- It waits for one that is not (R116, R118). -/
theorem execModeTransitionComplete_waits {tr : Transition} (hm : s.power.moving = some tr) (h : transitionReady tr s = false) :
    execModeTransitionComplete s = .next s :=
  next_congr (by simp [hm, h])

/-! ### The drain -/

/-- A command that needs one of the domains, by the ticket's state and its needs. -/
theorem mem_needing_iff {k : Nat} {st : TicketState} {ds : List Nat} : k ∈ needing st ds s ↔
    k < 128 ∧ (s.ticket k).state = st ∧ ∃ ns, needsOf k s = some ns ∧ ns.any (fun d => ds.contains d) = true := by
  simp only [needing, State.flight, needsOf, List.mem_map, List.mem_filter, List.mem_mergeSort, List.mem_filterMap,
    List.mem_range, Option.map_eq_some_iff, Bool.and_eq_true, beq_iff_eq]
  constructor
  · rintro ⟨_, ⟨⟨n, hn, w, hw, rfl⟩, hst, hneeds⟩, rfl⟩
    exact ⟨hn, hst, w.needs, ⟨w, hw, rfl⟩, hneeds⟩
  · rintro ⟨hk, hst, _, ⟨w, hw, rfl⟩, hneeds⟩
    exact ⟨(k, w), ⟨⟨k, hk, w, hw, rfl⟩, hst, hneeds⟩, rfl⟩

/-- A command that has completed stays so while others complete. -/
theorem complete_completed {tk st k : Nat} {d : Bytes} (hk : (s.ticket k).state = .completed) :
    ((complete tk st d s).ticket k).state = .completed :=
  tget_tmod_of (P := fun e : TicketEntry => e.state = .completed) hk rfl

theorem completeAll_completed {st k : Nat} (l : List Nat) (hk : (s.ticket k).state = .completed) :
    ((l.foldl (fun u tk => complete tk st [] u) s).ticket k).state = .completed := by
  induction l generalizing s with
  | nil => exact hk
  | cons tk l ih => exact ih (complete_completed hk)

/-- Each command of the list completes. -/
theorem completeAll_ends {st k : Nat} {l : List Nat} (hlt : k < 128) (hk : k ∈ l) :
    ((l.foldl (fun u tk => complete tk st [] u) s).ticket k).state = .completed := by
  induction l generalizing s with
  | nil => cases hk
  | cons tk l ih =>
    obtain rfl | hk := List.mem_cons.mp hk
    · exact completeAll_completed l (answered_complete s hlt).completed
    · exact ih hk

/-- What runs on the withdrawn domains has been ended, and what waits for them refused (R118). -/
def withdrawnEnded (tr : Transition) (s : State) : State :=
  (withdrawn s.power.mode tr.target).reverse.foldl (fun u d => if u.powered d then offHook St.aborted d u else u)
    (denyWithdrawn s)

/-- Every command that then still runs on a withdrawn domain has completed ABORTED (R118). -/
def drained (tr : Transition) (s : State) : State :=
  (needing .running (withdrawn s.power.mode tr.target) (withdrawnEnded tr s)).foldl (fun u tk => complete tk St.aborted [] u)
    (withdrawnEnded tr s)

/-- DRAIN_TIMEOUT drains 20 ms after the trigger (R118). -/
theorem execDrainTimeout_drains {tr : Transition} (hm : s.power.moving = some tr)
    (hc : clearUntil (tr.since + lsbOfMs 20) s = true) :
    execDrainTimeout s = .next (drained tr (reach (tr.since + lsbOfMs 20) s)) := by
  unfold execDrainTimeout
  rw [hm]
  exact next_congr (atDue_clear hc)

theorem withdrawnEnded_calm (tr : Transition) (s : State) : Calm s (withdrawnEnded tr s) :=
  .foldl (fun _ d h => .ite (h.offHook St.aborted d) h) _ (Calm.refl s).denyWithdrawn

/-- The drain keeps the mode, and no command that ran on a withdrawn domain is left running (R118). -/
theorem drained_spec (tr : Transition) (s : State) : (drained tr s).power.mode = s.power.mode ∧
    ∀ k ∈ needing .running (withdrawn s.power.mode tr.target) s, ((drained tr s).ticket k).state = .completed := by
  have hcalm := withdrawnEnded_calm tr s
  refine ⟨(hcalm.foldl (fun _ tk h => h.complete tk St.aborted []) _).modeHeld.mode, fun k hk => ?_⟩
  obtain ⟨hlt, hrunning, hneeds⟩ := mem_needing_iff.mp hk
  rw [← hcalm.needs k] at hneeds
  obtain hrunning | hcompleted := hcalm.begun k (Or.inl hrunning)
  · exact completeAll_ends hlt (mem_needing_iff.mpr ⟨hlt, hrunning, hneeds⟩)
  · exact completeAll_completed _ hcompleted

/-! ### Triggers that time brings -/

/-- The sample touches the lane and Eave alone (R20). -/
theorem sendSample_frame (s : State) :
    sendSample s = { s with lane := (sendSample s).lane, eave := (sendSample s).eave } := by
  unfold sendSample
  rw [laneSend_frame]
  rfl

/-- WATCH_WINDOW_EXPIRE is trigger 7 (R115, R134). -/
theorem execWatchWindowExpire_begins (hmode : s.power.mode = .watch) (hr : s.stew.running = true)
    (hw : s.power.waiting.contains 7 = false) (hm : s.power.moving = none)
    (hc : clearUntil (s.power.watchFrom + lsbOfS (60 * s.nat 4 0)) s = true) :
    execWatchWindowExpire s = .next (trigger 7 (reach (s.power.watchFrom + lsbOfS (60 * s.nat 4 0)) s)) :=
  next_congr ((if_pos ⟨hmode, hr, by rw [hw]; decide, by rw [hm]; decide⟩).trans (atDue_clear hc))

/-- HOLDOVER_EXIT is trigger 12 with a sample for the F die (R120). -/
theorem execHoldoverExit_begins (hmode : s.power.mode = .holdover) (hr : s.stew.running = true) (hb : s.boot.phase = .run)
    (hm : s.power.moving = none) : execHoldoverExit s =
      .next (trigger 12 (sendSample (s.modHost (fun h => { h with trigger12At := some s.now })))) :=
  next_congr (if_pos ⟨hmode, hr, hb, hm⟩)

/-- STANDING_TIME_MINUTE stores the next minute (R120). -/
theorem execStandingTimeMinute_stores (hmode : s.power.mode = .parked) (hb : s.boot.phase = .run)
    (hc : clearUntil (s.power.standingFrom + lsbOfS ((s.sheet.standing / 60 + 1) * 60)) s = true) :
    execStandingTimeMinute s = .next ((reach (s.power.standingFrom + lsbOfS ((s.sheet.standing / 60 + 1) * 60)) s).modSheet
      (fun h => { h with standing := (s.sheet.standing / 60 + 1) * 60 })) :=
  next_congr ((if_pos ⟨hmode, hb⟩).trans (atDue_clear hc))

/-- Settles O28: what follows the entry of a mode leaves the mode word alone (`finishTransition_held`), every command that ran on
a withdrawn domain is completed by its drain or at its end (`drained_spec`), and the triggers of time begin by
`trigger_begins`. -/
theorem transitionsRunTheirCourse : Obligations.TransitionsRunTheirCourse := by
  unfold Obligations.TransitionsRunTheirCourse
  intro s
  refine ⟨fun tr hm => ⟨fun hr hready => ?ends, fun hwait => ?waits, fun hc => ?drains⟩, fun hmode hr hw hc hm => ?watch,
    fun hmode hr hb hm => ?holdover, fun hmode hb hc => ?standing⟩
  case ends =>
    obtain ⟨hmode, hprevious, hchanges, hirq⟩ := enterMode_spec tr.target tr.trigger (denyWithdrawn s)
    have hdenied := (Calm.refl s).denyWithdrawn.modeHeld
    have hheld := finishTransition_held tr s
    exact ⟨_, execModeTransitionComplete_ready hm hr hready, hheld.mode.trans hmode,
      hheld.previous.trans (hprevious.trans hdenied.mode), by rw [hheld.changes, hchanges, hdenied.changes], hheld.irq hirq⟩
  case waits => exact ⟨s, execModeTransitionComplete_waits hm hwait, rfl⟩
  case drains =>
    obtain ⟨hmode, hended⟩ := drained_spec tr (reach (tr.since + lsbOfMs 20) s)
    rw [reach_power] at hmode hended
    refine ⟨_, execDrainTimeout_drains hm hc, hmode, fun k hk => hended k ?_⟩
    rw [reach_frame]
    exact hk
  case watch =>
    have hexec := execWatchWindowExpire_begins hmode hr hw hm hc
    have hu := reach_power s (s.power.watchFrom + lsbOfS (60 * s.nat 4 0))
    generalize reach (s.power.watchFrom + lsbOfS (60 * s.nat 4 0)) s = u at hexec hu ⊢
    have hbegun := trigger_begins (s := u) (by rw [hu]; exact hm) (trigTarget_watchOver (by rw [hu]; exact hmode))
    refine ⟨_, hexec, trigger_now 7 u, ?_, ?_⟩
    · rw [trigger_now, hbegun]
    · rw [hbegun, hu]
      exact hmode
  case holdover =>
    have hexec := execHoldoverExit_begins hmode hr hb hm
    have hframe := sendSample_frame (s.modHost (fun h => { h with trigger12At := some s.now }))
    generalize sendSample (s.modHost (fun h => { h with trigger12At := some s.now })) = u at hexec hframe
    have htarget : trigTarget 12 u = some (exitMode s.sheet.lastMode s.power.ign) := by
      rw [hframe]
      simp only [trigTarget, State.modHost_power, State.modHost_sheet, hmode]
    have hbegun := trigger_begins (by rw [hframe]; exact hm) htarget
    refine ⟨_, hexec, ?_, ?_⟩
    · rw [trigger_frame, hframe]
      rfl
    · rw [hbegun, hframe]
      rfl
  case standing =>
    refine ⟨_, execStandingTimeMinute_stores hmode hb hc, rfl, ?_⟩
    rw [reach_frame]
    rfl

end Sys2Proof.Machine
end

section
/-! SUPPORT. Wake pins, the strap and CAN wake (R121, R122). -/

namespace Sys2Proof.Machine

variable {s : State}

/-! ### Levels -/

theorem pinLevel_setPin_same (pin : Fin 5) (level : Bool) (s : State) :
    pinLevel (setPin pin.val level s).power pin.val = level := by
  unfold pinLevel setPin
  rw [State.modPower_power]
  by_cases h : pin.val = 0
  · simp only [h, if_true]
  · simp only [h, if_false]
    exact tget_tmod_same _ _ _ (by omega)

theorem pinLevel_setPin_other {pin k : Fin 5} (hk : k ≠ pin) (level : Bool) (s : State) :
    pinLevel (setPin pin.val level s).power k.val = pinLevel s.power k.val := by
  have hne : k.val ≠ pin.val := fun h => hk (Fin.ext h)
  unfold pinLevel setPin
  rw [State.modPower_power]
  by_cases h : pin.val = 0
  · simp only [h, if_true]
    rw [if_neg (by omega), if_neg (by omega)]
  · simp only [h, if_false]
    by_cases h0 : k.val = 0
    · simp only [h0, if_true]
    · simp only [h0, if_false]
      exact tget_tmod_other _ _ _ _ (by omega)

@[simp] theorem setPin_mode (n : Nat) (level : Bool) (s : State) : (setPin n level s).power.mode = s.power.mode := by
  unfold setPin
  rw [State.modPower_power]
  split <;> rfl

theorem Calm.pinLevel {s t : State} (h : Calm s t) (n : Nat) : pinLevel t.power n = pinLevel s.power n := by
  rw [h.power]
  rfl

theorem Calm.pinBits {s t : State} (h : Calm s t) : pinBits t.power = pinBits s.power := by
  rw [h.power]
  rfl

/-! ### WAKE_PIN_CHANGE -/

/-- In STOWED a change that is no assertion, or that its mask holds back, does nothing more (R121). -/
theorem pinChange_masked {n : Nat} {level : Bool} (hm : s.power.mode = .stowed)
    (h : level = false ∨ (s.nat 4 4).testBit n = false) : pinChange n level s = s := by
  refine (if_pos hm).trans (if_neg fun ⟨hl, hb⟩ => ?_)
  simp [hl, hb] at h

/-- An event and what it brings about leave the pins alone (R121). -/
theorem pinChange_calm {n : Nat} {level : Bool} (h : s.power.mode ≠ .stowed ∨ level = true ∧ (s.nat 4 4).testBit n = true) :
    Calm (pinEvent n s) (pinChange n level s) := by
  have hwake : Calm (pinEvent n s) (beginWake false (pinEvent n s)) := (Calm.refl _).beginWake false
  unfold pinChange
  by_cases hm : s.power.mode = .stowed
  · rw [if_pos hm, if_pos (h.resolve_left fun hne => hne hm)]
    exact hwake
  · rw [if_neg hm]
    exact .ite hwake (.ite (.ite (.trigger 6 (hwake.accessIgn level)) (hwake.accessIgn level))
      (.ite (hwake.accessDoor _) hwake))

/-- A change that is heard is event 0x0402 with the pins as they stand then (R121, R133). -/
theorem pinChange_logged {n : Nat} {level : Bool} (h : s.power.mode ≠ .stowed ∨ level = true ∧ (s.nat 4 4).testBit n = true) :
    Logged s.now 0x0402 0 0xFF (leBytes 1 (2 ^ n) ++ leBytes 1 (pinBits s.power) ++ leBytes 1 s.power.mode.code) s
      (pinChange n level s) := by
  intro hroom
  obtain ⟨e, he, hrec⟩ := emit_logged 3 0x0402 0 0xFF
    (leBytes 1 (2 ^ n) ++ leBytes 1 (pinBits s.power) ++ leBytes 1 s.power.mode.code) s hroom
  exact ⟨e, (pinChange_calm h).log e he, hrec⟩

/-- A change never moves a pin (R121). -/
theorem pinChange_keeps (n : Nat) (level : Bool) (s : State) : Calm s (pinChange n level s) := by
  by_cases h : s.power.mode ≠ .stowed ∨ level = true ∧ (s.nat 4 4).testBit n = true
  · exact ((Calm.refl s).emit _ _ _ _ _).trans (pinChange_calm h)
  · rw [not_or, not_not, not_and, Bool.not_eq_true] at h
    obtain ⟨hm, hmask⟩ := h
    rw [pinChange_masked hm (by cases level; exacts [.inl rfl, .inr (hmask rfl)])]
    exact .refl s

/-- A level that changes is held, and acts while the Steward runs (R121). -/
theorem execWakePinChange_acts {pin : Fin 5} {level : Bool} (hd : s.boot.phase ≠ .dark) (hl : pinLevel s.power pin.val ≠ level) :
    execWakePinChange pin level s = .next (if s.boot.phase = .run then pinChange pin.val level (setPin pin.val level s)
      else setPin pin.val level s) :=
  next_congr (if_neg (by simp [hd, hl]))

/-! ### The strap -/

/-- The strap's level alone changes, unless WORKSHOP ends by it (R121). -/
theorem execWorkshopStrapChange_held {level : Bool} (hd : s.boot.phase ≠ .dark) (hl : s.power.strap ≠ level)
    (h : level = true ∨ s.heads .workshop = false ∨ s.stew.running = false) :
    execWorkshopStrapChange level s = .next (s.modPower (fun p => { p with strap := level })) := by
  refine next_congr ((if_neg (by simp [hd, hl])).trans (if_neg fun ⟨hlevel, hheads, hrunning⟩ => ?_))
  simp [hlevel, hheads, hrunning] at h

/-- Released in WORKSHOP it is trigger 9 (R121). -/
theorem execWorkshopStrapChange_releases (hd : s.boot.phase ≠ .dark) (hl : s.power.strap ≠ false) (hm : s.power.mode = .workshop)
    (hr : s.stew.running = true) : execWorkshopStrapChange false s =
      .next (trigger 9 (beginWake false (s.modPower (fun p => { p with strap := false })))) :=
  next_congr ((if_neg (by simp [hd, hl])).trans (if_pos ⟨rfl, by rw [State.heads, hm]; rfl, hr⟩))

/-! ### CAN wake -/

/-- A domain that is requested is not off. -/
theorem Power.request_lit {d : Nat} (hd : d < 10) (p : Power) : (tget (p.request d).domains d).state ≠ .off := by
  rw [Power.request, tget_tmod_same _ _ _ hd]
  split
  · exact DomState.noConfusion
  · assumption

/-- PD8 NET is asked for and held until POWER.NET_IDLE has passed (R122). -/
theorem execCanWake_holds {ports : BitVec 12} (hm : s.power.mode = .parked ∨ s.power.mode = .watch) (hb : s.boot.phase = .run)
    (hp : (ports &&& BitVec.ofNat 12 (s.nat 4 5)).toNat ≠ 0) : execCanWake ports s = .next (beginWake false
      ((requestAll [8] (emit 3 0x0403 (leBytes 2 (ports &&& BitVec.ofNat 12 (s.nat 4 5)).toNat) 0 0xFF s)).modPower
        (fun q => { q with canWakeUntil := some (s.now + lsbOfMs (s.nat 4 6)) }))) :=
  next_congr (if_pos ⟨hm, hp, hb⟩)

theorem execCanWake_masked {ports : BitVec 12} (hp : (ports &&& BitVec.ofNat 12 (s.nat 4 5)).toNat = 0) :
    execCanWake ports s = .next s := next_congr (if_neg fun ⟨_, hne, _⟩ => hne hp)

/-- NET_IDLE_EXPIRE ends the hold (R122). -/
theorem execNetIdleExpire_ends {d : Nat} (hw : s.power.canWakeUntil = some d) (hc : clearUntil d s = true) :
    execNetIdleExpire s = .next (dropIdle 8 ((reach d s).modPower (fun p => { p with canWakeUntil := none }))) := by
  unfold execNetIdleExpire
  rw [hw]
  exact next_congr (atDue_clear hc)

/-- Settles O29: a level is one change of the pins (`pinLevel_setPin_same`, `…_other`) which nothing that follows moves
(`pinChange_keeps`), its event stands in the log (`pinChange_logged`), and a CAN wake is one request with its hold. -/
theorem wakePinsTakeEffect : Obligations.WakePinsTakeEffect := by
  unfold Obligations.WakePinsTakeEffect
  intro pin level ports s
  refine ⟨fun hd hl => ?pin, fun hd hl => ⟨fun h => ?strap, fun hlevel hm hr hnone => ?released⟩, fun hm hb hp => ?canWake,
    fun hp => ⟨s, execCanWake_masked hp, rfl⟩, fun d hw hc => ?idle⟩
  case pin =>
    have hexec := execWakePinChange_acts hd hl
    have hcalm : Calm (setPin pin.val level s) (if s.boot.phase = .run then pinChange pin.val level (setPin pin.val level s)
        else setPin pin.val level s) := .ite (pinChange_keeps ..) (.refl _)
    refine ⟨_, hexec, ?_, fun k hk => ?_, fun hb => ?_, fun hb hm h => ?_, fun hb h => ?_⟩
    · rw [hcalm.pinLevel, pinLevel_setPin_same]
    · rw [hcalm.pinLevel, pinLevel_setPin_other hk]
    · rw [if_neg hb]
      rfl
    · rw [if_pos hb, pinChange_masked (s := setPin pin.val level s) (by rw [setPin_mode]; exact hm) h]
      rfl
    · have hlogged := pinChange_logged (s := setPin pin.val level s) (n := pin.val) (level := level)
        (by rw [setPin_mode]; exact h)
      rw [hcalm.pinBits, if_pos hb]
      rw [setPin_mode] at hlogged
      exact hlogged
  case strap => exact ⟨_, execWorkshopStrapChange_held hd hl h, rfl⟩
  case released =>
    subst hlevel
    have hwake := beginWake_frame false (s.modPower (fun p => { p with strap := false }))
    have hexec := execWorkshopStrapChange_releases hd hl hm hr
    generalize beginWake false (s.modPower (fun p => { p with strap := false })) = u at hwake hexec
    have htarget : trigTarget 9 u = some (if s.power.ign then .approach else .watch) := by
      rw [hwake]
      simp only [trigTarget, State.modPower_power, hm]
    have hbegun := trigger_begins (by rw [hwake]; exact hnone) htarget
    refine ⟨_, hexec, ?_, ?_⟩
    · rw [hbegun, hwake]
      rfl
    · rw [hbegun, hwake]
      rfl
  case canWake =>
    have hexec := execCanWake_holds hm hb hp
    generalize (ports &&& BitVec.ofNat 12 (s.nat 4 5)).toNat = p at hexec ⊢
    have hlogged := emit_logged 3 0x0403 0 0xFF (leBytes 2 p) s
    have hframe := emit_frame 3 0x0403 0 0xFF (leBytes 2 p) s
    generalize emit 3 0x0403 (leBytes 2 p) 0 0xFF s = u at hexec hlogged hframe
    have hwake := beginWake_frame false ((requestAll [8] u).modPower
      (fun q => { q with canWakeUntil := some (s.now + lsbOfMs (s.nat 4 6)) }))
    generalize beginWake false _ = t at hexec hwake
    refine ⟨t, hexec, ?_, ?_, ?_, ?_⟩
    · rw [hwake]
      rfl
    · rw [hwake]
      exact Power.request_lit (by decide) _
    · rw [hwake]
      exact hlogged
    · rw [hwake, hframe]
      rfl
  case idle =>
    refine ⟨_, execNetIdleExpire_ends hw hc, ?_⟩
    rw [((Calm.refl _).dropIdle 8).power]
    rfl

end Sys2Proof.Machine
end

section
/-! SUPPORT. Staging sessions: what a read of a source and a staging write do with one (R136–R138, R155, R401). -/

namespace Sys2Proof.Machine

/-! ### Reads of a source -/

/-- A command that completes has been answered. -/
theorem answered_of_complete {tk st : Nat} {d : Bytes} {s : State} {o : Out} (ht : tk < 128) (h : o = .next (complete tk st d s)) :
    ∃ t, o = .next t ∧ Answered tk st d s t := ⟨_, h, answered_complete s ht⟩

section
variable {tk : Fin 128} {s : State} {w : Work}

/-- EXPOSE.SETTING_READ of 0xFF reads the setting in force (R155). -/
theorem execExposeSettingRead_inForce (hs : startable tk.val 0x0308 s = some w)
    (hrow : (rowOfId (u32At w.req.payload 0)).isSome = true) (hsrc : u8At w.req.payload 4 = 0xFF) :
    execExposeSettingRead tk s = .next (complete tk.val St.ok
      (valueBytes (settingNow s (u32At w.req.payload 0)) ++ leBytes 1 0 ++ zeros 3 ++ leBytes 4 s.conf.gen) s) :=
  next_congr ((command_start hs).trans ((if_neg (by simp [Option.isSome_iff_ne_none.mp hrow])).trans (if_pos hsrc)))

/-- EXPOSE.SETTING_READ of a CLOSED session is refused (R155). -/
theorem execExposeSettingRead_closed (hs : startable tk.val 0x0308 s = some w)
    (hrow : (rowOfId (u32At w.req.payload 0)).isSome = true) (hsrc : u8At w.req.payload 4 ≠ 0xFF)
    (hc : (s.sess (u8At w.req.payload 4)).state = .closed) :
    execExposeSettingRead tk s = .next (complete tk.val St.sessionClosed [] s) :=
  next_congr ((command_start hs).trans
    ((if_neg (by simp [Option.isSome_iff_ne_none.mp hrow])).trans ((if_neg hsrc).trans (if_pos hc))))

/-- ACCESS.ZONEMAP_READ of 0xFF reads the map in force (R199). -/
theorem execAccessZonemapRead_inForce (hs : startable tk.val 0x0508 s = some w) (hsrc : u8At w.req.payload 0 = 0xFF) :
    execAccessZonemapRead tk s = .next (complete tk.val St.ok (zoneMap s) s) :=
  next_congr ((command_start hs).trans (if_pos hsrc))

/-- ACCESS.ZONEMAP_READ of a CLOSED session is refused (R199). -/
theorem execAccessZonemapRead_closed (hs : startable tk.val 0x0508 s = some w) (hsrc : u8At w.req.payload 0 ≠ 0xFF)
    (hc : sessionClosed (u8At w.req.payload 0) s = true) :
    execAccessZonemapRead tk s = .next (complete tk.val St.sessionClosed [] s) :=
  next_congr ((command_start hs).trans ((if_neg hsrc).trans (if_pos hc)))

/-- SWITCH.TABLE_READ of 0xFF reads entries of the active copy, under its generation (R341). -/
theorem execSwitchTableRead_inForce (hs : startable tk.val 0x0A05 s = some w) (hsrc : u8At w.req.payload 0 = 0xFF) :
    ∃ b, execSwitchTableRead tk s = .next (complete tk.val St.ok
      (leBytes 4 s.sw.gen ++ leBytes 1 (u8At w.req.payload 1) ++ zeros 3 ++ b) s) :=
  ⟨_, next_congr ((command_start hs).trans (if_pos hsrc))⟩

/-- SWITCH.TABLE_READ of the retiring copy where there is none (R341). -/
theorem execSwitchTableRead_noneRetires (hs : startable tk.val 0x0A05 s = some w) (hsrc : u8At w.req.payload 0 = 0xFE)
    (hnone : s.sw.retiring = none) : execSwitchTableRead tk s = .next (complete tk.val St.ok (zeros 8) s) :=
  next_congr ((command_start hs).trans ((if_neg (by omega)).trans ((if_pos hsrc).trans (by rw [hnone]; rfl))))

/-- SWITCH.TABLE_READ of a CLOSED session is refused (R341). -/
theorem execSwitchTableRead_closed (hs : startable tk.val 0x0A05 s = some w) (hsrc : u8At w.req.payload 0 < 4)
    (hc : sessionClosed (u8At w.req.payload 0) s = true) :
    execSwitchTableRead tk s = .next (complete tk.val St.sessionClosed [] s) :=
  next_congr ((command_start hs).trans ((if_neg (by omega)).trans ((if_neg (by omega)).trans (if_pos hc))))

/-- SWITCH.LIN_SCHEDULE_READ of 0xFF reads the port's schedule in force (R341). -/
theorem execSwitchLinScheduleRead_inForce (hs : startable tk.val 0x0A07 s = some w) (hsrc : u8At w.req.payload 0 = 0xFF) :
    execSwitchLinScheduleRead tk s = .next (complete tk.val St.ok
      ((s.conf.object (objectId 10 0xF1 (portOf w.req.node))).getD (zeros 4)) s) :=
  next_congr ((command_start hs).trans (if_pos hsrc))

/-- SWITCH.LIN_SCHEDULE_READ of a CLOSED session is refused (R341). -/
theorem execSwitchLinScheduleRead_closed (hs : startable tk.val 0x0A07 s = some w) (hsrc : u8At w.req.payload 0 ≠ 0xFF)
    (hc : sessionClosed (u8At w.req.payload 0) s = true) :
    execSwitchLinScheduleRead tk s = .next (complete tk.val St.sessionClosed [] s) :=
  next_congr ((command_start hs).trans ((if_neg hsrc).trans (if_pos hc)))

end

/-- GEN and the entry count head the response of SWITCH.TABLE_READ (R341). -/
theorem tableReply_head (g n : Nat) (b : Bytes) (hn : n < 256) :
    u32At (leBytes 4 g ++ leBytes 1 n ++ zeros 3 ++ b) 0 = g % 2 ^ 32 ∧
      u8At (leBytes 4 g ++ leBytes 1 n ++ zeros 3 ++ b) 4 = n := by
  constructor
  · rw [List.append_assoc, List.append_assoc]
    exact leNat_take_leBytes_append 4 g _
  · simp [u8At, leBytes, Nat.mod_eq_of_lt hn]

theorem u8At_lt (b : Bytes) (i : Nat) : u8At b i < 256 := BitVec.isLt _

/-- Settles O21, a command at a time: the source 0xFF is what is in force, and a CLOSED session is refused. -/
theorem sourceReadsAnswer : Obligations.SourceReadsAnswer := by
  unfold Obligations.SourceReadsAnswer
  intro tk s w
  refine ⟨fun hs hrow => ⟨?setting, ?settingClosed⟩, fun hs => ⟨?map, ?mapClosed⟩, fun hs => ⟨?table, ?retiring, ?tableClosed⟩,
    fun hs => ⟨?schedule, ?scheduleClosed⟩⟩
  case setting => exact fun hsrc => answered_of_complete tk.isLt (execExposeSettingRead_inForce hs hrow hsrc)
  case settingClosed => exact fun hsrc hc => answered_of_complete tk.isLt (execExposeSettingRead_closed hs hrow hsrc hc)
  case map => exact fun hsrc => answered_of_complete tk.isLt (execAccessZonemapRead_inForce hs hsrc)
  case mapClosed => exact fun hsrc hc => answered_of_complete tk.isLt (execAccessZonemapRead_closed hs hsrc hc)
  case table =>
    intro hsrc
    obtain ⟨b, hexec⟩ := execSwitchTableRead_inForce hs hsrc
    exact ⟨_, _, hexec, answered_complete s tk.isLt, tableReply_head s.sw.gen _ b (u8At_lt _ _)⟩
  case retiring => exact fun hsrc hnone => answered_of_complete tk.isLt (execSwitchTableRead_noneRetires hs hsrc hnone)
  case tableClosed => exact fun hsrc hc => answered_of_complete tk.isLt (execSwitchTableRead_closed hs hsrc hc)
  case schedule => exact fun hsrc => answered_of_complete tk.isLt (execSwitchLinScheduleRead_inForce hs hsrc)
  case scheduleClosed => exact fun hsrc hc => answered_of_complete tk.isLt (execSwitchLinScheduleRead_closed hs hsrc hc)

end Sys2Proof.Machine
end

section
/-! SUPPORT. Writes into a staging session: whether its state lets them in, and what is staged (R136–R138, R401). -/

namespace Sys2Proof.Machine

/-! ### Sessions -/

section
variable {n : Nat} {s : State}

theorem sess_modSess_same (f : Session → Session) (h : n < 4) : (s.modSess n f).sess n = f (s.sess n) := tget_tmod_same _ _ _ h

theorem sess_modSess_other (f : Session → Session) {m : Nat} (h : m ≠ n) : (s.modSess n f).sess m = s.sess m :=
  tget_tmod_other _ _ _ _ (Ne.symm h)

theorem stageRefusal_closed (h : (s.sess n).state = .closed) : stageRefusal n s = some St.sessionClosed := by
  unfold State.sess at h
  simp only [stageRefusal, h]

theorem stageRefusal_exposing (h : (s.sess n).state = .exposing) : stageRefusal n s = some St.sessionBusy := by
  unfold State.sess at h
  simp only [stageRefusal, h]

theorem stageRefusal_none (h : (s.sess n).state = .opened ∨ (s.sess n).state = .checked) : stageRefusal n s = none := by
  unfold State.sess at h
  obtain h | h := h <;> simp only [stageRefusal, h]

/-! ### Prepared sets -/

/-- No prepared set of the session is left (R401). -/
def NonePrepared (n : Nat) (t : Store) : Prop := ∀ c ∈ t.sets, c.session = n → c.phase ≠ 0

/-- An abandoned set is prepared no more (R401). -/
theorem abandonSet_nonePrepared (n : Nat) (s : State) : NonePrepared n (abandonSet n s).store := by
  intro c hc hn
  obtain ⟨d, -, rfl⟩ := List.mem_map.mp hc
  by_cases hd : d.session = n ∧ d.phase = 0
  · simp [hd]
  · rw [if_neg hd] at hn ⊢
    exact fun hp => hd ⟨hn, hp⟩

/-! ### What is staged -/

/-- A session after a staging write that leaves it these items: OPEN, its prepared set abandoned (R136, R137, R401). -/
def restaged (n : Nat) (items : List Item) (s : State) : State :=
  abandonSet n (s.modSess n (fun x => { x with state := .opened, items, deferral := none }))

theorem restaged_sess (items : List Item) (h : n < 4) :
    (restaged n items s).sess n = { s.sess n with state := .opened, items, deferral := none } := sess_modSess_same _ h

theorem restaged_sess_other (items : List Item) {m : Nat} (h : m ≠ n) : (restaged n items s).sess m = s.sess m :=
  sess_modSess_other _ h

theorem restaged_nonePrepared (items : List Item) : NonePrepared n (restaged n items s).store := abandonSet_nonePrepared n _

/-- A session that stages nothing leaves the state alone (R138). -/
theorem stageItems_refused {st : Nat} (is : List Item) (h : stageRefusal n s = some st) : stageItems n is s = (s, st) := by
  simp only [stageItems, h]

/-- What fits is staged item by item (R137). -/
theorem stageItems_fits {is items : List Item} (h : (s.sess n).state = .opened ∨ (s.sess n).state = .checked)
    (hitems : items = is.foldl putItem (s.sess n).items) (hlen : items.length ≤ 8192)
    (hsize : (items.map Item.size).sum ≤ 196608) : stageItems n is s = (restaged n items s, St.ok) := by
  subst hitems
  unfold stageItems
  rw [stageRefusal_none h]
  exact if_neg (not_or.mpr ⟨Nat.not_lt.mpr hlen, Nat.not_lt.mpr hsize⟩)

end

/-! ### The staging commands -/

/-- The command stages this item, by what its request lays out (R70, R97, R177, R303, R311, R319). -/
def StagesItem (tk : Fin 128) (w : Work) (i : Instr) (op : Nat) (it : Item) : Prop :=
  i = .nodeCourseStage tk ∧ op = 0x0120 ∧ courseRefusal w.req.payload = none ∧
      it = { id := objectId 1 0xF0 (u16At w.req.payload 0), val := .object w.req.payload } ∨
    i = .nodeCourseDeleteStage tk ∧ op = 0x0121 ∧ 0x100 ≤ u16At w.req.payload 0 ∧ u16At w.req.payload 0 ≤ 0x7FF ∧
      it = { id := objectId 1 0xF0 (u16At w.req.payload 0), val := .deletion } ∨
    i = .timeShutterStage tk ∧ op = 0x0213 ∧ w.req.node - 0x60 < 12 ∧ u8At w.req.payload 16 / 2 % 2 = 0 ∧
      it = { id := objectId 2 0xF0 (w.req.node - 0x60), val := .object w.req.payload } ∨
    i = .accessZonemapStage tk ∧ op = 0x0507 ∧ it = { id := objectId 5 0xF0 0, val := .object w.req.payload } ∨
    i = .fixerPairStage tk ∧ op = 0x0909 ∧ it = { id := objectId 9 0xF0 0, val := .object w.req.payload } ∨
    i = .switchTableStage tk ∧ op = 0x0A04 ∧ u8At w.req.payload 2 = 1 ∧
      it = { id := objectId 10 0xF0 (u16At w.req.payload 0), val := .object (stagedEntry (slice w.req.payload 4 40)) } ∨
    i = .switchLinScheduleStage tk ∧ op = 0x0A06 ∧
      it = { id := objectId 10 0xF1 (portOf w.req.node), val := .object w.req.payload }

/-- Whichever command it is, it stages its one item and answers with the staging's status. -/
theorem exec_stagesItem {tk : Fin 128} {w : Work} {i : Instr} {op : Nat} {it : Item} {s : State} (hi : StagesItem tk w i op it)
    (hs : startable tk.val op s = some w) : exec i s =
      .next (complete tk.val (stageItems w.req.session [it] s).2 [] (stageItems w.req.session [it] s).1) := by
  obtain ⟨rfl, rfl, hok, rfl⟩ | ⟨rfl, rfl, hlo, hhi, rfl⟩ | ⟨rfl, rfl, hn, hkeep, rfl⟩ | ⟨rfl, rfl, rfl⟩ | ⟨rfl, rfl, rfl⟩ |
    ⟨rfl, rfl, hone, rfl⟩ | ⟨rfl, rfl, rfl⟩ := hi <;> refine next_congr ((command_start hs).trans ?_)
  · rw [hok]; rfl
  · exact if_neg (by omega)
  · exact (if_neg (Nat.not_le.mpr hn)).trans (if_neg (by omega))
  · rfl
  · rfl
  · simp only [hone]; rfl
  · rfl

/-- Settles O22: the seven commands share one shape (`exec_stagesItem`), so the session's state alone decides (R138). -/
theorem stagingCommandsStage : Obligations.StagingCommandsStage := by
  unfold Obligations.StagingCommandsStage
  intro tk s w i op it hi hs hn
  have hexec := exec_stagesItem hi hs
  refine ⟨fun hstate hlen hsize => ?staged, fun hc => answered_of_complete tk.isLt ?closed, fun he => answered_of_complete tk.isLt ?exposing⟩
  case staged =>
    rw [stageItems_fits (is := [it]) hstate rfl hlen hsize] at hexec
    exact ⟨_, _, hexec, answered_complete _ tk.isLt, rfl, congrArg Session.state (restaged_sess _ hn),
      congrArg Session.items (restaged_sess _ hn), fun m hm => restaged_sess_other _ hm, restaged_nonePrepared _⟩
  case closed => rw [hexec, stageItems_refused [it] (stageRefusal_closed hc)]
  case exposing => rw [hexec, stageItems_refused [it] (stageRefusal_exposing he)]

end Sys2Proof.Machine
end

section
/-! SUPPORT. EXPOSE.OPEN, EXPOSE.DISCARD, EXPOSE.SET_STAGE and EXPOSE.CHECK (R136–R141, R155, R401). -/

namespace Sys2Proof.Machine

/-! ### OPEN and DISCARD -/

section
variable {tk : Fin 128} {s : State} {w : Work}

/-- The session that EXPOSE.OPEN opens: the one asked for, or the lowest closed one (R155). -/
theorem execExposeOpen_opens {n : Nat} (hs : startable tk.val 0x0301 s = some w) (hn : n < 4)
    (hc : (s.sess n).state = .closed)
    (hpick : u8At w.req.payload 0 = n ∨ u8At w.req.payload 0 = 0xFF ∧ ∀ m, m < n → (s.sess m).state ≠ .closed) :
    execExposeOpen tk s =
      .next (complete tk.val St.ok (leBytes 1 n ++ zeros 3) (s.modSess n (fun _ => { state := .opened }))) := by
  refine next_congr ((command_start hs).trans ?_)
  obtain rfl | ⟨hany, hlow⟩ := hpick
  · simp only [if_neg (show u8At w.req.payload 0 ≠ 0xFF by omega), if_pos hc]
  · have hfind : (List.range 4).find? (fun m => (s.sess m).state == .closed) = some n :=
      List.find?_range_eq_some.mpr ⟨beq_iff_eq.mpr hc, List.mem_range.mpr hn, fun m hm => by simp [hlow m hm]⟩
    simp only [if_pos hany, hfind]

/-- EXPOSE.OPEN without a closed session to open is refused (R155). -/
theorem execExposeOpen_busy (hs : startable tk.val 0x0301 s = some w)
    (h : u8At w.req.payload 0 < 4 ∧ (s.sess (u8At w.req.payload 0)).state ≠ .closed ∨
      u8At w.req.payload 0 = 0xFF ∧ ∀ m, m < 4 → (s.sess m).state ≠ .closed) :
    execExposeOpen tk s = .next (complete tk.val St.sessionBusy [] s) := by
  refine next_congr ((command_start hs).trans ?_)
  obtain ⟨hlt, hopen⟩ | ⟨hany, hall⟩ := h
  · simp only [if_neg (show u8At w.req.payload 0 ≠ 0xFF by omega), if_neg hopen]
  · have hfind : (List.range 4).find? (fun m => (s.sess m).state == .closed) = none :=
      List.find?_range_eq_none.mpr fun m hm => by simp [hall m hm]
    simp only [if_pos hany, hfind]

/-- EXPOSE.DISCARD of a session that is EXPOSING is refused (R155). -/
theorem execExposeDiscard_busy (hs : startable tk.val 0x0302 s = some w)
    (h : (s.sess (u8At w.req.payload 0)).state = .exposing) :
    execExposeDiscard tk s = .next (complete tk.val St.sessionBusy [] s) :=
  next_congr ((command_start hs).trans (if_pos h))

/-- EXPOSE.DISCARD closes any other session and abandons its prepared set (R136, R401). -/
theorem execExposeDiscard_closes (hs : startable tk.val 0x0302 s = some w)
    (h : (s.sess (u8At w.req.payload 0)).state ≠ .exposing) : execExposeDiscard tk s = .next (complete tk.val St.ok []
      (abandonSet (u8At w.req.payload 0) (s.modSess (u8At w.req.payload 0) (fun _ => {})))) :=
  next_congr ((command_start hs).trans (if_neg h))

/-! ### SET_STAGE -/

/-- Response of EXPOSE.SET_STAGE: the index of the failing item, and the items that the session then holds (R155). -/
def setStageReply (i : Nat) (x : Session) : Bytes := leBytes 2 i ++ leBytes 2 x.items.length

/-- A session that stages nothing refuses the whole request (R138). -/
theorem execExposeSetStage_refused {st : Nat} (hs : startable tk.val 0x0303 s = some w)
    (h : stageRefusal w.req.session s = some st) :
    execExposeSetStage tk s = .next (complete tk.val st (setStageReply 0xFFFF (s.sess w.req.session)) s) :=
  next_congr ((command_start hs).trans (by simp only [h]; rfl))

/-- The first failing item decides, and none is staged (R140). -/
theorem execExposeSetStage_fails {i st : Nat} (hs : startable tk.val 0x0303 s = some w)
    (hstate : (s.sess w.req.session).state = .opened ∨ (s.sess w.req.session).state = .checked)
    (h : stageAll s.power.mode w.req.payload (u16At w.req.payload 0) 0 = .error (i, st)) :
    execExposeSetStage tk s = .next (complete tk.val st (setStageReply i (s.sess w.req.session)) s) :=
  next_congr ((command_start hs).trans (by simp only [stageRefusal_none hstate, h]; rfl))

/-- Where none fails every item is staged (R137). -/
theorem execExposeSetStage_stages {is items : List Item} (hs : startable tk.val 0x0303 s = some w) (hn : w.req.session < 4)
    (hstate : (s.sess w.req.session).state = .opened ∨ (s.sess w.req.session).state = .checked)
    (h : stageAll s.power.mode w.req.payload (u16At w.req.payload 0) 0 = .ok is)
    (hitems : items = is.foldl putItem (s.sess w.req.session).items) (hlen : items.length ≤ 8192)
    (hsize : (items.map Item.size).sum ≤ 196608) : execExposeSetStage tk s = .next (complete tk.val St.ok
      (leBytes 2 0xFFFF ++ leBytes 2 items.length) (restaged w.req.session items s)) := by
  refine next_congr ((command_start hs).trans ?_)
  simp only [stageRefusal_none hstate, h, stageItems_fits hstate hitems hlen hsize, restaged_sess items hn]

end

/-! ### One item of SET_STAGE (R140) -/

theorem slice_slice {b : Bytes} {a n o k : Nat} (h : o + k ≤ n) : slice (slice b a n) o k = slice b (a + o) k := by
  unfold slice
  rw [List.drop_take, List.drop_drop, List.take_take, Nat.min_eq_left (by omega)]

/-- A request of one item fails or stages as that item does. -/
theorem stageAll_one (m : Mode) (p : Bytes) :
    stageAll m p 1 0 = match stageOne m (slice p 4 16) with | .error st => .error (0, st) | .ok x => .ok [x] := by
  unfold stageAll
  split
  · next st h => rw [h]
  · next x h => rw [h]; rfl

section
variable {m : Mode} {p : Bytes} {r : SetRow}

/-- The item of a known setting: SETTING_ID and VALUE stand in the first item of the request. -/
theorem stageOne_row (hrow : rowOfId (u32At p 4) = some r) (h0 : u32At p 8 = 0) :
    stageOne m (slice p 4 16) =
      if r.stage = .no then .error St.settingFixed
      else if r.ok (u32At p 4 % 0x10000) (readValue r (slice p 12 8)) = false then .error St.badArg
      else if r.stage = .workshop ∧ m ≠ .workshop then .error St.deniedMode
      else .ok { id := u32At p 4, val := .value (readValue r (slice p 12 8)) } := by
  have hid : u32At (slice p 4 16) 0 = u32At p 4 := congrArg leNat (slice_slice (by decide))
  have hres : u32At (slice p 4 16) 4 = u32At p 8 := congrArg leNat (slice_slice (by decide))
  have hval : slice (slice p 4 16) 8 8 = slice p 12 8 := slice_slice (by decide)
  simp only [stageOne, hid, hres, hval, hrow, h0, ne_eq, not_true, if_false]

end

/-- Settles O32: OPEN and DISCARD by the session's state, SET_STAGE by the session and then by its first failing item, the
outcome of one item being `stageOne_row`. -/
theorem sessionsStageAllOrNothing : Obligations.SessionsStageAllOrNothing := by
  unfold Obligations.SessionsStageAllOrNothing
  intro tk s w
  refine ⟨fun hs => ⟨?opens, fun h => answered_of_complete tk.isLt (execExposeOpen_busy hs h)⟩,
    fun hs hn => ⟨fun h => answered_of_complete tk.isLt (execExposeDiscard_busy hs h), ?discards⟩,
    fun hs hn => ⟨fun h => ?closed, fun h => ?exposing, fun hstate => ⟨fun i st h => ?fails, fun r hone hrow h0 => ?one⟩⟩⟩
  case opens =>
    intro n hn hc hpick
    exact ⟨_, _, execExposeOpen_opens hs hn hc hpick, answered_complete _ tk.isLt, sess_modSess_same _ hn,
      fun m hm => sess_modSess_other _ hm, rfl⟩
  case discards =>
    intro h
    exact ⟨_, _, execExposeDiscard_closes hs h, answered_complete _ tk.isLt, sess_modSess_same _ hn,
      fun m hm => sess_modSess_other _ hm, abandonSet_nonePrepared _ _, rfl⟩
  case closed => exact answered_of_complete tk.isLt (execExposeSetStage_refused hs (stageRefusal_closed h))
  case exposing => exact answered_of_complete tk.isLt (execExposeSetStage_refused hs (stageRefusal_exposing h))
  case fails => exact answered_of_complete tk.isLt (execExposeSetStage_fails hs hstate h)
  case one =>
    have hall : stageAll s.power.mode w.req.payload (u16At w.req.payload 0) 0 =
        match stageOne s.power.mode (slice w.req.payload 4 16) with | .error st => .error (0, st) | .ok x => .ok [x] := by
      rw [hone]; exact stageAll_one _ _
    rw [stageOne_row hrow h0] at hall
    refine ⟨fun hfixed => ?fixed, fun hstage hbad => ?range, fun hshop hok hmode => ?mode, fun it hstage hok hit hlen hsize => ?staged⟩
    case fixed =>
      rw [if_pos hfixed] at hall
      exact answered_of_complete tk.isLt (execExposeSetStage_fails hs hstate hall)
    case range =>
      rw [if_neg hstage, if_pos hbad] at hall
      exact answered_of_complete tk.isLt (execExposeSetStage_fails hs hstate hall)
    case mode =>
      rw [if_neg (by simp [hshop]), if_neg (by simp [hok]), if_pos ⟨hshop, hmode⟩] at hall
      exact answered_of_complete tk.isLt (execExposeSetStage_fails hs hstate hall)
    case staged =>
      have hno : r.stage ≠ .no := by obtain h | ⟨h, -⟩ := hstage <;> simp [h]
      have hmode : ¬(r.stage = .workshop ∧ s.power.mode ≠ .workshop) := by
        obtain h | ⟨-, h⟩ := hstage <;> simp [h]
      rw [if_neg hno, if_neg (by simp [hok]), if_neg hmode] at hall
      subst hit
      exact ⟨_, _, execExposeSetStage_stages hs hn hstate hall rfl hlen hsize, answered_complete _ tk.isLt,
        congrArg Session.items (restaged_sess _ hn), congrArg Session.state (restaged_sess _ hn),
        fun m hm => restaged_sess_other _ hm, rfl⟩

end Sys2Proof.Machine
end

section
/-! SUPPORT. The prepared set of a session and EXPOSE.CHECK (R141, R155, R401). -/

namespace Sys2Proof.Machine

/-! ### Prepared sets -/

/-- Only the queue of a store, what runs and the hold differ (R398). -/
abbrev Store.SameBut (t u : Store) : Prop := u = { t with queue := u.queue, running := u.running, holding := u.holding }

/-- The pump changes of the store what waits and what runs (R398). -/
theorem pump_store (s : State) : s.store.SameBut (pump s).store := by
  unfold pump
  split
  · rfl
  · split
    · rfl
    · simp only [apply_ite State.store, emit_store, State.modStore_store, ite_self]
      split
      · rfl
      · split <;> rfl

/-- Operations that join the queue leave the rest of the store alone. -/
theorem enqueue_store (os : List StoreOp) (s : State) : s.store.SameBut (enqueue os s).store :=
  pump_store (requestAll [9] (s.modStore _))

/-- A prepared set takes the next SET_NO and holds the session's items (R401). -/
theorem prepareSet_sets (n : Nat) (s : State) :
    (prepareSet n s).store.sets = s.store.sets ++ [{ no := s.store.nextSet, session := n, items := (s.sess n).items }] ∧
      (prepareSet n s).store.nextSet = s.store.nextSet + 1 := by
  unfold prepareSet
  dsimp only
  exact ⟨congrArg Store.sets (enqueue_store _ (s.modStore _)), congrArg Store.nextSet (enqueue_store _ (s.modStore _))⟩

/-- A prepared set changes the store, the domains and what events change. -/
theorem prepareSet_frame (n : Nat) (s : State) : prepareSet n s =
    { withEvents s (prepareSet n s) with power := (prepareSet n s).power, store := (prepareSet n s).store } :=
  enqueue_frame _ (s.modStore _)

@[simp] theorem prepareSet_expo (n : Nat) (s : State) : (prepareSet n s).expo = s.expo := by rw [prepareSet_frame]

@[simp] theorem prepareSet_sess (n m : Nat) (s : State) : (prepareSet n s).sess m = s.sess m := by
  unfold State.sess
  rw [prepareSet_expo]

/-! ### CHECK -/

/-- A session after EXPOSE.CHECK: in this state, checked against the generation in force, its prepared set abandoned
(R136, R141, R401). -/
def judged (n : Nat) (state : SessState) (s : State) : State :=
  abandonSet n (s.modSess n (fun x => { x with baseGen := s.conf.gen, deferral := none, state }))

/-- Response of EXPOSE.CHECK (R155). -/
def checkReport (fails : List Failure) (gen : Nat) : Bytes :=
  leBytes 2 (min 0xFFFF fails.length) ++ leBytes 1 (fails.take 16).length ++ zeros 1 ++ leBytes 4 gen ++
    (fails.take 16).flatMap (fun f => leBytes 4 f.1 ++ leBytes 2 f.2 ++ zeros 2)

/-- Every failure that is listed takes eight bytes, and no more than sixteen are (R155). -/
theorem checkReport_length (fails : List Failure) (gen : Nat) : (checkReport fails gen).length = 8 + 8 * min 16 fails.length := by
  simp [checkReport, leBytes_length, zeros, List.length_flatMap, Nat.mul_comm]
  omega

theorem checkReport_none (gen : Nat) : checkReport [] gen = zeros 4 ++ leBytes 4 gen := by
  simp only [checkReport, List.take_nil, List.flatMap_nil, List.append_nil]
  rfl

section
variable {tk : Fin 128} {n : Nat} {s : State} {w : Work}

theorem judged_sess (state : SessState) (hn : n < 4) :
    (judged n state s).sess n = { s.sess n with state, baseGen := s.conf.gen, deferral := none } := sess_modSess_same _ hn

theorem judged_sess_other (state : SessState) {m : Nat} (h : m ≠ n) : (judged n state s).sess m = s.sess m :=
  sess_modSess_other _ h

/-- CHECK of a session that is CLOSED or EXPOSING is refused (R138, R155). -/
theorem execExposeCheck_refused {st : Nat} (hs : startable tk.val 0x0304 s = some w) (hsess : u8At w.req.payload 0 = n)
    (h : stageRefusal n s = some st) : execExposeCheck tk s = .next (complete tk.val st [] s) := by
  subst hsess
  exact next_congr ((command_start hs).trans (by simp only [h]))

/-- Without a failure the session is CHECKED and its prepared set is written (R141, R401). -/
theorem execExposeCheck_passes (hs : startable tk.val 0x0304 s = some w) (hsess : u8At w.req.payload 0 = n)
    (hstate : (s.sess n).state = .opened ∨ (s.sess n).state = .checked) (h : checkAll s (s.sess n).items = []) :
    execExposeCheck tk s =
      .next (complete tk.val St.ok (checkReport [] s.conf.gen) (prepareSet n (judged n .checked s))) := by
  subst hsess
  refine next_congr ((command_start hs).trans ?_)
  simp only [stageRefusal_none hstate, h, if_true]
  rfl

/-- With a failure the session is OPEN, and the failures are listed (R141, R155). -/
theorem execExposeCheck_fails (hs : startable tk.val 0x0304 s = some w) (hsess : u8At w.req.payload 0 = n)
    (hstate : (s.sess n).state = .opened ∨ (s.sess n).state = .checked) (h : checkAll s (s.sess n).items ≠ []) :
    execExposeCheck tk s =
      .next (complete tk.val St.checkFailed (checkReport (checkAll s (s.sess n).items) s.conf.gen) (judged n .opened s)) := by
  subst hsess
  refine next_congr ((command_start hs).trans ?_)
  simp only [stageRefusal_none hstate, h, if_false]
  rfl

end

/-- Settles O33: the session's state decides first, then whether a rule fails; the prepared set is the last one of the store
(`prepareSet_sets`). -/
theorem checkPreparesTheSet : Obligations.CheckPreparesTheSet := by
  unfold Obligations.CheckPreparesTheSet
  intro tk n s w hs hsess
  refine ⟨fun hc => answered_of_complete tk.isLt (execExposeCheck_refused hs hsess (stageRefusal_closed hc)),
    fun he => answered_of_complete tk.isLt (execExposeCheck_refused hs hsess (stageRefusal_exposing he)),
    fun hstate => ⟨fun hpass => ?passes, fun hfail => ?fails⟩⟩
  case passes =>
    have hexec := execExposeCheck_passes hs hsess hstate hpass
    rw [checkReport_none] at hexec
    have hitems : ((judged n.val .checked s).sess n.val).items = (s.sess n.val).items := by
      rw [judged_sess .checked n.isLt]
    obtain ⟨hsets, hnext⟩ := prepareSet_sets n.val (judged n.val .checked s)
    rw [hitems] at hsets
    refine ⟨_, _, hexec, answered_complete _ tk.isLt, ?sess, fun m hm => ?others, ⟨_, ?set, rfl⟩, hnext, ?frame⟩
    case sess => rw [prepareSet_sess]; exact judged_sess .checked n.isLt
    case others => rw [prepareSet_sess]; exact judged_sess_other .checked hm
    case set => rw [hsets]; exact List.mem_append_right _ (List.mem_singleton.mpr rfl)
    case frame =>
      exact (prepareSet_frame n.val _).trans (by
        rw [show (prepareSet n.val (judged n.val .checked s)).expo = _ from prepareSet_expo _ _]; rfl)
  case fails =>
    exact ⟨_, _, _, execExposeCheck_fails hs hsess hstate hfail, answered_complete _ tk.isLt, checkReport_length _ _,
      judged_sess .opened n.isLt, fun m hm => judged_sess_other .opened hm, abandonSet_nonePrepared _ _, rfl⟩

end Sys2Proof.Machine
end

section
/-! SUPPORT. EXPOSE.EXPOSE: the rows of R143 and what an acceptance does (R143–R146, R150, R401). -/

namespace Sys2Proof.Machine

/-! ### Refusals -/

section
variable {tk : Fin 128} {n : Nat} {s : State} {w : Work}

/-- Response of a refused EXPOSE: RESULT 3 with the REASONS at T (R144, R155). -/
def refusal (n at_ : Nat) (s : State) : Bytes := exposeReply 3 (reasonsOf (leads (s.sess n).items s)) 0 at_ 0 s

/-- EARLIEST of an exposure for an instant (R144, R145). -/
def earliestFor (n instant : Nat) (s : State) : Nat :=
  earliestOf (leadsAfter (s.sess n) instant s.conf.gen (leads (s.sess n).items s)) s.now

theorem anyExposing_iff : (List.range 4).any (fun m => (s.sess m).state == .exposing) = true ↔
    ¬∀ m, m < 4 → (s.sess m).state ≠ .exposing := by
  simp

/-- What EXPOSE.EXPOSE runs as, once it has started. -/
theorem execExposeExpose_eq (hs : startable tk.val 0x0305 s = some w) (hn : u8At w.req.payload 0 = n) :
    execExposeExpose tk s = .next (
      if (s.sess n).state ≠ .checked then complete tk.val St.notChecked (refusal n 0 s) s
      else if (List.range 4).any (fun m => (s.sess m).state == .exposing) then complete tk.val St.exposeBusy (refusal n 0 s) s
      else if s.conf.gen ≠ (s.sess n).baseGen then
        complete tk.val St.exposeStale (refusal n 0 s) (s.modSess n (fun x => { x with state := .opened }))
      else if modeHolds s (s.sess n).items = false then complete tk.val St.modeLost (refusal n 0 s) s
      else if fixItems (s.sess n).items ≠ [] ∧ s.lane.up = false then complete tk.val St.fixerAbsent (refusal n 0 s) s
      else if s.now + lsbOfS (s.nat 3 0) < u64At w.req.payload 8 then complete tk.val St.badArg (refusal n 0 s) s
      else if u64At w.req.payload 8 ≠ 0 ∧ u64At w.req.payload 8 < earliestFor n (u64At w.req.payload 8) s ∧
          (u8At w.req.payload 1).testBit 0 = false then
        complete tk.val St.deferred (refusal n (earliestFor n (u64At w.req.payload 8) s) s)
          (s.modSess n (fun x => { x with deferral := some (earliestFor n (u64At w.req.payload 8) s, s.conf.gen) }))
      else acceptExpose tk.val n (max (u64At w.req.payload 8) (earliestFor n (u64At w.req.payload 8) s))
        (reasonsOf (leads (s.sess n).items s)) s) := by
  subst hn
  have hmax (a b : Nat) : max a b = if a < b then b else a := by split <;> omega
  rw [hmax]
  exact next_congr (command_start hs)

end

/-! ### Acceptance -/

section
variable {tk n instant reasons : Nat} {s : State}

/-- The exposure that an acceptance leaves pending (R143, R146, R150). -/
def acceptedPending (tk n instant reasons no : Nat) (s : State) : Pending :=
  { session := n, ticket := tk, instant, reasons, gen := wrapAdd 32 s.conf.gen 1, setNo := no, sentAt := s.now,
    fix := if fixItems (s.sess n).items = [] then .unused else .preparing }

/-- The state of an acceptance before SET_PENDING is on its way: the ticket runs and names its set, the session is EXPOSING
(R143, R472). -/
def exposing (tk n : Nat) (p : Pending) (s : State) : State :=
  (((start tk s).modTicket tk (fun e => { e with writeRef := p.setNo })).modSess n
    (fun x => { x with state := .exposing, deferral := none })).modExpo (fun e => { e with pending := some p })

/-- SET_PENDING on its way to the store (R391, R401). -/
def setPending (tk n : Nat) (p : Pending) (s : State) : State :=
  putRecord 0x0002 (pendingRecord p.setNo s.conf.gen p.instant tk) .pendingSet (exposing tk n p s)

/-- An acceptance of a prepared set is SET_PENDING going to the store, besides what EXPOSE_PREPARE does to the lane
(R146, R150). -/
theorem acceptExpose_prepared {c : ConfSet} (h : preparedSet n s = some c) : acceptExpose tk n instant reasons s =
    { setPending tk n (acceptedPending tk n instant reasons c.no s) s with lane := (acceptExpose tk n instant reasons s).lane } := by
  unfold acceptExpose
  simp only [h, Option.isSome_some, if_true, Option.map_some, Option.getD_some]
  by_cases hfix : fixItems (s.sess n).items = []
  · simp only [setPending, exposing, acceptedPending, hfix, if_true]
  · simp only [hfix, if_false]
    rw [laneSend_frame]
    simp only [setPending, exposing, acceptedPending, hfix, if_false]

/-- SET_PENDING leaves what the acceptance has set up. -/
theorem setPending_frame (tk n : Nat) (p : Pending) (s : State) : setPending tk n p s =
    { withEvents (exposing tk n p s) (setPending tk n p s) with
      power := (setPending tk n p s).power, store := (setPending tk n p s).store } := putRecord_frame ..

section
variable {p : Pending}

theorem exposing_pending : (exposing tk n p s).expo.pending = some p := rfl

theorem exposing_conf : (exposing tk n p s).conf = s.conf := by simp [exposing, State.modSess]

theorem exposing_store : (exposing tk n p s).store = s.store := by simp [exposing, State.modSess]

/-- The sessions as the acceptance leaves them. -/
theorem exposing_sess_eq (m : Nat) : (exposing tk n p s).sess m =
    (s.modSess n (fun x => { x with state := .exposing, deferral := none })).sess m := by
  simp [exposing, State.sess, State.modSess]

theorem exposing_sess (hn : n < 4) : (exposing tk n p s).sess n = { s.sess n with state := .exposing, deferral := none } :=
  (exposing_sess_eq n).trans (sess_modSess_same _ hn)

theorem exposing_sess_other {m : Nat} (h : m ≠ n) : (exposing tk n p s).sess m = s.sess m :=
  (exposing_sess_eq m).trans (sess_modSess_other _ h)

theorem exposing_ticket (htk : tk < 128) : ((exposing tk n p s).ticket tk).state = .running := by
  have hsheet : (exposing tk n p s).ticket tk =
      ((start tk s).modTicket tk (fun e => { e with writeRef := p.setNo })).ticket tk := by
    simp [exposing, State.ticket, State.modSess]
  rw [hsheet, ticket_modTicket_same _ htk]
  exact start_ticket htk s

/-- SET_PENDING is handed to the store under the SEQ that its key has reached (R392, R401). -/
theorem setPending_recorded :
    Recorded 0x0002 (pendingRecord p.setNo s.conf.gen p.instant tk) s (setPending tk n p s) := by
  intro hk
  have h := putRecord_recorded 0x0002 (pendingRecord p.setNo s.conf.gen p.instant tk) .pendingSet (exposing tk n p s)
    (by rw [exposing_store]; exact hk)
  rw [exposing_store] at h
  exact h

end

/-- What an acceptance leaves (R143, R146, R401). -/
theorem acceptExpose_spec {c : ConfSet} (htk : tk < 128) (hn : n < 4) (h : preparedSet n s = some c) :
    let p := acceptedPending tk n instant reasons c.no s
    let t := acceptExpose tk n instant reasons s
    t.expo.pending = some p ∧ (t.sess n).state = .exposing ∧ (t.sess n).items = (s.sess n).items ∧
      (∀ m, m ≠ n → t.sess m = s.sess m) ∧ (t.ticket tk).state = .running ∧
      Recorded 0x0002 (pendingRecord c.no s.conf.gen instant tk) s t ∧ t.conf = s.conf := by
  intro p t
  have ht : t = { setPending tk n p s with lane := t.lane } := acceptExpose_prepared h
  have hu := setPending_frame tk n p s
  have hexpo : t.expo = (exposing tk n p s).expo := by rw [ht, hu]
  have hsheet : t.sheet = (exposing tk n p s).sheet := by rw [ht, hu]
  have hconf : t.conf = (exposing tk n p s).conf := by rw [ht, hu]
  have hstore : t.store = (setPending tk n p s).store := by rw [ht]
  have hsess (m : Nat) : t.sess m = (exposing tk n p s).sess m := by unfold State.sess; rw [hexpo]
  refine ⟨?pending, ?state, ?items, fun m hm => ?others, ?ticket, ?recorded, hconf.trans exposing_conf⟩
  case pending => rw [hexpo, exposing_pending]
  case state => rw [hsess, exposing_sess hn]
  case items => rw [hsess, exposing_sess hn]
  case others => rw [hsess, exposing_sess_other hm]
  case ticket => rw [State.ticket, hsheet]; exact exposing_ticket htk
  case recorded =>
    intro hk
    rw [hstore]
    exact setPending_recorded (p := p) hk

end

/-- Settles O34, row by row: the refusals are the branches of `execExposeExpose_eq`, an acceptance is
`acceptExpose_spec`. -/
theorem exposeTakesTheFirstRow : Obligations.ExposeTakesTheFirstRow := by
  unfold Obligations.ExposeTakesTheFirstRow
  intro tk n s w hs hn x instant reasons earliest refused idle
  have hexec := execExposeExpose_eq hs hn
  refine ⟨fun hx => ?notChecked, fun hx => ⟨fun hbusy => ?busy, fun hidle hgen => ?stale, fun hidle hgen =>
    ⟨fun hmode => ?modeLost, fun hmode => ⟨fun hfix hlane => ?absent, fun hlane =>
      ⟨fun hfar => ?tooFar, fun hnear h0 hearly hlater => ?deferred, fun c hnear hmay hset => ?accepted⟩⟩⟩⟩⟩
  case notChecked =>
    rw [if_pos hx] at hexec
    exact answered_of_complete tk.isLt hexec
  all_goals rw [if_neg (not_not.mpr hx)] at hexec
  case busy =>
    rw [if_pos (anyExposing_iff.mpr hbusy)] at hexec
    exact answered_of_complete tk.isLt hexec
  all_goals rw [if_neg (fun h => anyExposing_iff.mp h hidle)] at hexec
  case stale =>
    rw [if_pos hgen] at hexec
    exact ⟨_, _, hexec, answered_complete _ tk.isLt, sess_modSess_same _ n.isLt, fun m hm => sess_modSess_other _ hm, rfl⟩
  all_goals rw [if_neg (not_not.mpr hgen)] at hexec
  case modeLost =>
    rw [if_pos hmode] at hexec
    exact answered_of_complete tk.isLt hexec
  all_goals rw [if_neg (by rw [hmode]; decide)] at hexec
  case absent =>
    rw [if_pos ⟨hfix, hlane⟩] at hexec
    exact answered_of_complete tk.isLt hexec
  all_goals rw [if_neg (fun h => hlane.elim h.1 (fun hup => by rw [hup] at h; exact absurd h.2 (by decide)))] at hexec
  case tooFar =>
    rw [if_pos hfar] at hexec
    exact answered_of_complete tk.isLt hexec
  all_goals rw [if_neg (Nat.not_lt.mpr hnear)] at hexec
  case deferred =>
    rw [if_pos ⟨h0, hearly, hlater⟩] at hexec
    exact ⟨_, _, hexec, answered_complete _ tk.isLt, sess_modSess_same _ n.isLt, fun m hm => sess_modSess_other _ hm, rfl⟩
  case accepted =>
    have hnow : ¬(u64At w.req.payload 8 ≠ 0 ∧ u64At w.req.payload 8 < earliestFor n.val (u64At w.req.payload 8) s ∧
        (u8At w.req.payload 1).testBit 0 = false) := by
      rintro ⟨h0, hearly, hlater⟩
      obtain hzero | hlate | hflag := hmay
      · exact h0 hzero
      · exact Nat.not_lt.mpr hlate hearly
      · rw [hlater] at hflag
        cases hflag
    rw [if_neg hnow] at hexec
    obtain ⟨hpending, hstate, hitems, hothers, hticket, hrecorded, hconf⟩ :=
      acceptExpose_spec (instant := max instant earliest) (reasons := reasons) tk.isLt n.isLt hset
    exact ⟨_, _, hexec, hpending, rfl, rfl, rfl, rfl, rfl, rfl, rfl, rfl, hstate, hitems, hothers, hticket, hrecorded, hconf⟩

end Sys2Proof.Machine
end

section
/-! SUPPORT. An exposure that ends unapplied: CANCEL, the decision point and the lane's deadlines (R146, R149, R150, R152). -/

namespace Sys2Proof.Machine

/-! ### Ends without effect -/

section
variable {p : Pending} {s : State}

/-- The F die is told, where it has a part, that the exposure does not go ahead (R146, R152). -/
def rolledBack (p : Pending) (s : State) : State := if p.fix = .unused then s else sendRollback p.gen (dropUser s)

/-- A rollback is owed from then on; besides that only the lane changes (R152). -/
theorem sendRollback_frame (g : Nat) (s : State) : sendRollback g s =
    { s with sheet := { s.sheet with owed := .rollback, owedGen := g }, lane := (sendRollback g s).lane } := by
  unfold sendRollback
  dsimp only
  split
  · rw [laneSend_frame]; rfl
  · rfl

theorem rolledBack_frame (p : Pending) (s : State) :
    rolledBack p s = { s with sheet := (rolledBack p s).sheet, lane := (rolledBack p s).lane } := by
  unfold rolledBack
  split
  · rfl
  · rw [sendRollback_frame]; rfl

theorem rolledBack_owes (h : p.fix ≠ .unused) (s : State) :
    (rolledBack p s).sheet.owed = .rollback ∧ (rolledBack p s).sheet.owedGen = p.gen := by
  rw [rolledBack, if_neg h, sendRollback_frame]
  exact ⟨rfl, rfl⟩

/-- SET_VOID changes the store, the domains and what events change (R401). -/
theorem voidSet_frame (no cause : Nat) (s : State) : voidSet no cause s =
    { withEvents s (voidSet no cause s) with power := (voidSet no cause s).power, store := (voidSet no cause s).store } :=
  putRecord_frame _ _ _ (s.modStore _)

/-- The exposure and its session let go, with event 0x0302, before its ticket completes (R149, R152, R156). -/
def letGo (st : Nat) (after : SessState) (p : Pending) (s : State) : State :=
  emit 2 0x0302 (leBytes 2 st ++ zeros 2 ++ leBytes 1 p.session) 0 p.ticket
    (((voidSet p.setNo (if st = St.exposeCancelled then 1 else 0) (rolledBack p s)).modSess p.session
      (fun x => { x with state := after })).modExpo (fun e => { e with pending := none }))

theorem letGo_keeps (st : Nat) (after : SessState) (p : Pending) (s : State) :
    (letGo st after p s).expo = { s.expo with
        pending := none, sessions := tmod s.expo.sessions p.session (fun x => { x with state := after }) } ∧
      (letGo st after p s).conf = s.conf ∧ (letGo st after p s).sheet = (rolledBack p s).sheet := by
  unfold letGo
  rw [emit_expo, emit_conf, emit_sheet, voidSet_frame, rolledBack_frame]
  exact ⟨rfl, rfl, rfl⟩

theorem endPending_eq (h : s.expo.pending = some p) (st fx : Nat) (after : SessState) : endPending st fx after s =
    complete p.ticket st (exposeReply 3 p.reasons fx p.instant 0 s) (letGo st after p s) := by
  simp only [endPending, h]
  rfl

theorem complete_owed (tk st : Nat) (d : Bytes) (s : State) : (complete tk st d s).sheet.owed = s.sheet.owed := rfl

theorem complete_owedGen (tk st : Nat) (d : Bytes) (s : State) : (complete tk st d s).sheet.owedGen = s.sheet.owedGen := rfl

/-- What an exposure leaves that ends unapplied: nothing pending, its session and its ticket as the case says, and a rollback
owed where the F die had a part (R146, R149, R152). -/
structure EndedUnapplied (st : Nat) (after : SessState) (p : Pending) (s t : State) : Prop where
  pending : t.expo.pending = none
  session : t.sess p.session = { s.sess p.session with state := after }
  completed : (t.ticket p.ticket).state = .completed
  status : (t.ticket p.ticket).status = st
  owed : p.fix ≠ .unused → t.sheet.owed = .rollback ∧ t.sheet.owedGen = p.gen
  conf : t.conf = s.conf

theorem endPending_ended (h : s.expo.pending = some p) (htk : p.ticket < 128) (hn : p.session < 4) (st fx : Nat)
    (after : SessState) : EndedUnapplied st after p s (endPending st fx after s) := by
  obtain ⟨hexpo, hconf, hsheet⟩ := letGo_keeps st after p s
  have hfin := answered_complete (st := st) (d := exposeReply 3 p.reasons fx p.instant 0 s) (letGo st after p s) htk
  rw [endPending_eq h]
  refine ⟨?_, ?_, hfin.completed, hfin.status, fun hfix => ?_, by rw [complete_conf, hconf]⟩
  · rw [complete_expo, hexpo]
  · rw [State.sess, complete_expo, hexpo]
    exact tget_tmod_same _ _ _ hn
  · rw [complete_owed, complete_owedGen, hsheet]
    exact rolledBack_owes hfix s

end

/-! ### CANCEL (R149) -/

section
variable {tk : Fin 128} {n : Nat} {p : Pending} {s : State} {w : Work}

theorem execExposeCancel_closed (hs : startable tk.val 0x0306 s = some w) (hsess : u8At w.req.payload 0 = n)
    (h : (s.sess n).state = .closed) : execExposeCancel tk s = .next (complete tk.val St.sessionClosed [] s) := by
  subst hsess
  exact next_congr ((command_start hs).trans (by simp only [h]))

theorem execExposeCancel_idle (hs : startable tk.val 0x0306 s = some w) (hsess : u8At w.req.payload 0 = n)
    (h : (s.sess n).state = .opened ∨ (s.sess n).state = .checked) :
    execExposeCancel tk s = .next (complete tk.val St.ok [] s) := by
  subst hsess
  exact next_congr ((command_start hs).trans (by obtain h | h := h <;> simp only [h]))

theorem execExposeCancel_exposing (hs : startable tk.val 0x0306 s = some w) (hsess : u8At w.req.payload 0 = n)
    (h : (s.sess n).state = .exposing) (hp : s.expo.pending = some p) :
    execExposeCancel tk s = .next (if p.decided then complete tk.val St.exposeDecided [] s
      else complete tk.val St.ok [] (endPending St.exposeCancelled 0 .checked s)) := by
  subst hsess
  exact next_congr ((command_start hs).trans (by simp only [h, hp]))

end

/-! ### The decision point (R146) -/

section
variable {p : Pending} {s : State}

@[simp] theorem reach_sess (k n : Nat) (s : State) : (reach k s).sess n = s.sess n := by
  unfold State.sess
  rw [reach_expo]

theorem modeHolds_reach (k : Nat) (s : State) (items : List Item) : modeHolds (reach k s) items = modeHolds s items := by
  unfold modeHolds
  rw [reach_power]

theorem bootHolds_reach (k : Nat) (s : State) (items : List Item) : bootHolds (reach k s) items = bootHolds s items := by
  unfold bootHolds State.get
  rw [reach_power, reach_conf]

/-- A compare that still lies ahead is loaded and fires later (R97, R100). -/
theorem armFirm_ahead {n c : Nat} (period : Nat) (h : s.now < c) : armFirm n c period s = s.modShut n (fun x => x.load c period) :=
  if_neg (fun hc => Nat.not_lt.mpr hc.1 h)

/-- An exposure decided: the DECIDED marker stands, and shutter 12 is armed with the instant (R146). -/
def decided (p : Pending) (s : State) : State :=
  (((s.modPend (fun p => { p with decided := true })).modTicket p.ticket (fun e => { e with decided := true })).modShut 12
    (fun h => { h with event := false })).modShut 12 (fun x => x.load p.instant 0)

theorem decide_passes (hp : s.expo.pending = some p) (hmode : modeHolds s (s.sess p.session).items = true)
    (hboot : bootHolds s (s.sess p.session).items = true) (h : s.now < p.instant) : decide_ s = decided p s := by
  simp only [decide_, hp, hmode, hboot, and_self, if_true]
  exact armFirm_ahead 0 h

theorem decide_fails (hp : s.expo.pending = some p)
    (h : modeHolds s (s.sess p.session).items = false ∨ bootHolds s (s.sess p.session).items = false) :
    decide_ s = endPending St.modeLost 0 .checked s := by
  simp only [decide_, hp]
  exact if_neg (fun hc => by obtain h | h := h <;> simp [h] at hc)

theorem decided_spec (hp : s.expo.pending = some p) (htk : p.ticket < 128) :
    (decided p s).expo.pending = some { p with decided := true } ∧ ((decided p s).ticket p.ticket).decided = true ∧
      ((decided p s).shut 12).state = .oneShot ∧ ((decided p s).shut 12).active = p.instant ∧
      (∀ k, k ≠ 12 → (decided p s).shut k = s.shut k) ∧ (decided p s).now = s.now := by
  have hshut : (decided p s).shut 12 = ({ s.shut 12 with event := false } : Shutter).load p.instant 0 := by
    unfold decided
    rw [shut_modShut_same _ (by decide), shut_modShut_same _ (by decide)]
    rfl
  refine ⟨?_, ?_, by rw [hshut]; rfl, by rw [hshut]; rfl, fun k hk => ?_, rfl⟩
  · exact congrArg (Option.map fun p : Pending => { p with decided := true }) hp
  · exact congrArg TicketEntry.decided (ticket_modTicket_same (s.modPend _) htk)
  · exact (shut_modShut_other _ hk).trans (shut_modShut_other _ hk)

/-- A decision touches the exposure, its ticket and shutter 12 alone, besides the time that passes until it. -/
theorem decided_frame (k : Nat) (p : Pending) (s : State) : let t := decided p (reach k s)
    t = { s with expo := { s.expo with pending := t.expo.pending }, sheet := t.sheet, time := t.time } := by
  intro t
  obtain ⟨b, hb⟩ : ∃ b, reach k s = { s with time := b } := ⟨_, reach_frame k s⟩
  rw [show t = decided p { s with time := b } from congrArg (decided p) hb]
  rfl

/-- DECISION_POINT acts 100 µs before the instant, once everything is loaded (R146). -/
theorem execDecisionPoint_due (hp : s.expo.pending = some p) (hr : s.stew.running = true) (hd : p.decided = false)
    (hf : p.fix = .unused) (hl : p.loaded = true) (hc : clearUntil (p.instant - lsbOfUs 100) s = true) :
    execDecisionPoint s = .next (decide_ (reach (p.instant - lsbOfUs 100) s)) := by
  simp only [execDecisionPoint, hp, hr, hd, hf, hl, and_self, if_true, atDue_clear hc]

/-! ### The lane's deadlines (R150, R152) -/

/-- EXPOSE_COMMIT_SEND acts 2 ms before the instant, after PREPARED (R150). -/
theorem execExposeCommitSend_due (hp : s.expo.pending = some p) (hr : s.stew.running = true) (hf : p.fix = .prepared)
    (hl : p.loaded = true) (hc : clearUntil (p.instant - lsbOfMs 2) s = true) : let t := reach (p.instant - lsbOfMs 2) s
    execExposeCommitSend s = .next (
      if p.instant - lsbOfMs 1 < t.now then endPending St.fixerAbsent 0 .checked t
      else if modeHolds t (t.sess p.session).items = true then
        laneSend (.exposeCommit p.gen) .exposure (t.modPend (fun p => { p with fix := .committing }))
      else endPending St.modeLost 0 .checked t) := by
  have hdead : laneDeadline p = p.instant - lsbOfMs 1 := if_neg (by rw [hf]; decide)
  simp only [execExposeCommitSend, hp, hr, hf, hl, and_self, if_true, atDue_clear hc, hdead]

/-- EXPOSE_COMMIT goes out under the next lane number, and its acknowledgement is waited for (R150). -/
theorem commitSent_spec {t : State} (hp : t.expo.pending = some p) :
    let u := laneSend (.exposeCommit p.gen) .exposure (t.modPend (fun p => { p with fix := .committing }))
    u.expo.pending = some { p with fix := .committing } ∧
      (∃ o ∈ u.lane.out, o.req = .exposeCommit p.gen ∧ o.user = .exposure ∧ o.seq = t.lane.seq) ∧ u.conf = t.conf := by
  intro u
  refine ⟨?_, ⟨{ seq := t.lane.seq, req := .exposeCommit p.gen, user := .exposure, sent := t.now }, ?_, rfl, rfl, rfl⟩, ?_⟩
  · have hexpo : u.expo = (t.modPend (fun p => { p with fix := .committing })).expo := by rw [show u = _ from laneSend_frame ..]
    rw [hexpo]
    exact congrArg (Option.map fun p : Pending => { p with fix := .committing }) hp
  · rw [show u.lane.out = _ from laneSend_out ..]
    exact List.mem_append_right _ (List.mem_singleton.mpr rfl)
  · rw [show u = _ from laneSend_frame ..]
    rfl

/-- FIXER_PREPARE_TIMEOUT ends the exposure at the stamp by which the F die must have answered (R152). -/
theorem execFixerPrepareTimeout_due (hp : s.expo.pending = some p) (hr : s.stew.running = true)
    (hf : p.fix ≠ .unused) (ha : p.fix ≠ .armed) (hc : clearUntil (laneDeadline p) s = true) :
    execFixerPrepareTimeout s = .next (endPending St.fixerAbsent 0 .checked (reach (laneDeadline p) s)) := by
  simp only [execFixerPrepareTimeout, hp, hr, hf, ha, Bool.true_eq_false, or_self, if_false, atDue_clear hc]

end

end Sys2Proof.Machine
end

section
/-! SUPPORT. The instant of an exposure: nothing that the set's taking effect brings about touches the configuration or the
exposure engine again (R147, R148, R150). -/

namespace Sys2Proof.Machine

/-! ### What is kept -/

/-- From `r` to `s` neither the configuration in force nor the exposure engine changes. -/
structure SetupKept (r s : State) : Prop where
  conf : s.conf = r.conf
  expo : s.expo = r.expo

namespace SetupKept

theorem refl (s : State) : SetupKept s s := ⟨rfl, rfl⟩

variable {r s t : State}

theorem trans (h : SetupKept r s) (k : SetupKept s t) : SetupKept r t := ⟨k.conf.trans h.conf, k.expo.trans h.expo⟩

/-- A change elsewhere. -/
theorem elsewhere (h : SetupKept r s) (hc : t.conf = s.conf) (he : t.expo = s.expo) : SetupKept r t :=
  ⟨hc.trans h.conf, he.trans h.expo⟩

theorem ite {c : Prop} [Decidable c] (hs : SetupKept r s) (ht : SetupKept r t) : SetupKept r (if c then s else t) := by
  split <;> assumption

theorem foldl {α : Type} {f : State → α → State} (hf : ∀ s x, SetupKept r s → SetupKept r (f s x)) :
    ∀ (l : List α) {s : State}, SetupKept r s → SetupKept r (l.foldl f s)
  | [], _, h => h
  | x :: xs, _, h => SetupKept.foldl hf xs (hf _ x h)

theorem emitAs (q st src code n k : Nat) (d : Bytes) (h : SetupKept r s) : SetupKept r (emitAs q st src code n k d s) :=
  h.elsewhere (emitAs_conf ..) (emitAs_expo ..)

theorem emit (src code n k : Nat) (d : Bytes) (h : SetupKept r s) : SetupKept r (emit src code d n k s) := h.emitAs ..

theorem advance (k : Nat) (h : SetupKept r s) : SetupKept r (advance k s) := h.elsewhere (advance_conf ..) (advance_expo ..)

theorem modTime {f : TimeBase → TimeBase} (h : SetupKept r s) : SetupKept r (s.modTime f) := h.elsewhere rfl rfl
theorem modSafe {f : Safe → Safe} (h : SetupKept r s) : SetupKept r (s.modSafe f) := h.elsewhere rfl rfl
theorem modMem {f : Mem → Mem} (h : SetupKept r s) : SetupKept r (s.modMem f) := h.elsewhere rfl rfl
theorem modSw {f : Switch → Switch} (h : SetupKept r s) : SetupKept r (s.modSw f) := h.elsewhere rfl rfl
theorem modHost {f : HostLink → HostLink} (h : SetupKept r s) : SetupKept r (s.modHost f) := h.elsewhere rfl rfl
theorem modAccess {f : Access → Access} (h : SetupKept r s) : SetupKept r (s.modAccess f) := h.elsewhere rfl rfl
theorem modShut {n : Nat} {f : Shutter → Shutter} (h : SetupKept r s) : SetupKept r (s.modShut n f) := h.modTime
theorem modCap {n : Nat} {f : Capture → Capture} (h : SetupKept r s) : SetupKept r (s.modCap n f) := h.modTime
theorem modPort {n : Nat} {f : Port → Port} (h : SetupKept r s) : SetupKept r (s.modPort n f) := h.elsewhere rfl rfl

/-! ### The router and the shutters -/

theorem raiseRoute (src st : Nat) (coarse : Bool) (h : SetupKept r s) : SetupKept r (raiseRoute src st coarse s) := h.modTime

theorem captureEdge (n st : Nat) (rising coarse : Bool) (h : SetupKept r s) :
    SetupKept r (captureEdge n rising st coarse s) := by
  have hedge : SetupKept r (recordEdge n rising st coarse s) := h.modCap
  exact .ite (hedge.emitAs ..) hedge

theorem dmaTrigger (n st : Nat) (coarse : Bool) (h : SetupKept r s) : SetupKept r (dmaTrigger n st coarse s) :=
  .ite h (.ite h.modMem (.ite (.emit _ _ _ _ _ h.modMem) h.modMem))

theorem fireOnce (n f : Nat) (late coarse further : Bool) (h : SetupKept r s) :
    SetupKept r (fireOnce n f late coarse further s) :=
  .ite (.emitAs _ _ _ _ _ _ _ (h.modShut.raiseRoute ..)) (h.modShut.raiseRoute ..)

theorem fire (n f : Nat) (late : Bool) (h : SetupKept r s) : SetupKept r (fire n f late s) := by
  have honce : SetupKept r (Machine.fireOnce n f late s.coarse false s) := h.fireOnce ..
  exact .ite (.fireOnce _ _ _ _ _ (honce.advance _)) honce

theorem arrive (d st : Nat) (coarse : Bool) (h : SetupKept r s) : SetupKept r (arrive d st coarse s) :=
  .ite (.ite (.ite (h.modShut.fireOnce ..) h.modShut) h.modShut)
    (.ite (.ite ((h.captureEdge ..).raiseRoute ..) h) (.ite h.modSafe (.ite (h.dmaTrigger ..) h)))

theorem routeWave (evs : List (Nat × Nat × Bool)) (h : SetupKept r s) : SetupKept r (routeWave evs s) :=
  .foldl (fun _ _ h => .foldl (fun _ e h => h.arrive _ e.2.1 e.2.2) _ h) _ h

theorem runRoutes : ∀ (k : Nat) {s : State}, SetupKept r s → SetupKept r (runRoutes k s)
  | 0, _, h => h
  | k + 1, s, h => by
    unfold Machine.runRoutes
    split
    · exact h
    · exact .runRoutes k (.routeWave _ h.modTime)

/-- The fire of a firmware shutter (R97, R100). -/
theorem firmStart {n : Nat} (h : firmStart n s = some t) : SetupKept s t := by
  unfold Machine.firmStart at h
  split at h
  · cases h
  · split at h
    · cases h
      exact (refl s).modShut
    · obtain ⟨u, hu, rfl⟩ := Option.map_eq_some_iff.mp h
      rw [reachCompare_some hu]
      exact ((refl s).advance _).fire ..

/-! ### The switch -/

theorem countBy (n i k : Nat) (h : SetupKept r s) : SetupKept r (countBy n i k s) := h.modPort

theorem sendPause (n t : Nat) (h : SetupKept r s) : SetupKept r (sendPause n t s) := h.modPort.countBy ..

theorem updateHold (n : Nat) (h : SetupKept r s) : SetupKept r (updateHold n s) :=
  .ite (.ite (.ite (h.modPort.sendPause ..) h.modPort) h) (.ite (.ite (h.modPort.sendPause ..) h.modPort) h)

theorem endCopies (n : Nat) (p : SwFrame → Copy → Bool) (h : SetupKept r s) : SetupKept r (endCopies n p s) :=
  .foldl (fun _ n h => h.updateHold n) _ h.modSw

theorem takeDown (n cause : Nat) (h : SetupKept r s) : SetupKept r (takeDown n cause s) := by
  unfold Machine.takeDown
  dsimp only
  generalize (if portDisabled s n = true then PortState.disabled else PortState.down) = st
  exact .ite h.modPort (.emit _ _ _ _ _ (.countBy _ _ _ (.endCopies _ _ h.modPort)))

theorem switchExposed (old : Conf) (ids : List Nat) (st : Nat) (h : SetupKept r s) :
    SetupKept r (switchExposed old ids st s) := by
  unfold Machine.switchExposed
  extract_lets s0 s1
  have h0 : SetupKept r s0 := .ite h.modSw h
  have h1 : SetupKept r s1 := .ite (.emit _ _ _ _ _ h0.modSw) h0
  exact .foldl (fun _ n h => .ite (.emit _ _ _ _ _ (h.takeDown n 0)) (h.takeDown n 0)) _ h1

/-! ### The other subsystems -/

theorem inputsChanged (old : Conf) (h : SetupKept r s) : SetupKept r (inputsChanged old s) :=
  .foldl (fun _ _ h => .ite h h.modMem) _ (.foldl (fun _ _ h => .ite h h.modCap) _ h)

theorem loadShutter (f : Nat) (i : Item) (h : SetupKept r s) : SetupKept r (loadShutter f s i) := by
  unfold Machine.loadShutter
  split
  · split
    · extract_lets n own s1
      have h1 : SetupKept r s1 := .modShut (.ite (h.fire ..) h)
      exact .ite h1 (.ite (.fire _ _ _ (h1.advance _)) (h1.fire ..))
    · exact h
  · exact h

theorem windowExposed (old : Conf) (h : SetupKept r s) : SetupKept r (windowExposed old s) :=
  .ite (h.elsewhere (by rw [trigger_frame]) (by rw [trigger_frame])) h

theorem accessExposed (h : SetupKept r s) : SetupKept r (accessExposed s) := .ite h.modAccess.modShut h

theorem movePaths (b : Bool) (h : SetupKept r s) : SetupKept r (movePaths b s) :=
  .foldl (fun _ _ h => by
    dsimp only
    split
    · split <;> exact h.elsewhere rfl rfl
    · exact h) _ h

theorem pathExposed (old : Conf) (h : SetupKept r s) : SetupKept r (pathExposed old s) :=
  .ite ((h.movePaths false).elsewhere rfl rfl) h

theorem bootExposed (old : Conf) (h : SetupKept r s) : SetupKept r (bootExposed old s) := .ite h h.modSafe

theorem irqExposed (old : Conf) (h : SetupKept r s) : SetupKept r (irqExposed old s) := .ite h.modHost h

end SetupKept

/-! ### The instant -/

section
variable {p : Pending} {s t : State}

/-- The set takes effect: its items and its generation are in force, and the rest follows from them (R147). -/
theorem exposeSet_kept (sess tk : Nat) (items : List Item) (gen stamp : Nat) (late : Bool) (s : State) :
    SetupKept (s.modConf (fun c => { c.applyItems items with gen })) (exposeSet sess tk items gen stamp late s) := by
  unfold exposeSet
  extract_lets old ids s1 s2 s3 s4 s5
  have h2 : SetupKept s1 s2 := .switchExposed _ _ _ (.inputsChanged _ (.refl _))
  have h3 : SetupKept s1 s3 := .foldl (fun _ i h => h.loadShutter stamp i) _ h2
  have h4 : SetupKept s1 s4 := .irqExposed _ (.bootExposed _ (.pathExposed _ (.accessExposed (.windowExposed _ h3))))
  exact .emitAs _ _ _ _ _ _ _ (.runRoutes _ (.raiseRoute _ _ _ h4))

theorem putRecord_kept (k : Nat) (d : Bytes) (a : After) (s : State) : SetupKept s (putRecord k d a s) := by
  rw [putRecord_frame]
  exact ⟨rfl, rfl⟩

theorem laneSend_kept (q : LaneReq) (u : LaneUser) (s : State) : SetupKept s (laneSend q u s) := by
  rw [laneSend_frame]
  exact ⟨rfl, rfl⟩

/-- The exposure applied at the fire of shutter 12: the set in force, and its stamp and lateness noted (R147, R148). -/
def appliedAt (p : Pending) (t : State) : State :=
  let s1 := exposeSet p.session p.ticket (t.sess p.session).items p.gen t.now ((t.shut 12).lastLate || t.coarse) t
  s1.modPend (fun p => { p with
    applied := some (t.now, (t.shut 12).lastLate || t.coarse), boot := s1.nat 15 6 != t.nat 15 6 })

/-- The commit is owed to the F die where it has a part, with the sync edge and the read of its status block (R150, R151). -/
def commitOwed (p : Pending) (s : State) : State :=
  if p.fix = .unused then s
  else
    let u := (s.modLane (fun l => { l with edges := l.edges ++ [.exposure] })).modSheet
      (fun h => { h with owed := .commit, owedGen := p.gen })
    if u.lane.up then laneSend (.recordRead 2 0 0) .owed u else u

theorem atInstant_eq (p : Pending) (t : State) :
    atInstant p t = putRecord 0x0001 (commitRecord p.gen p.setNo t.now) .committed (commitOwed p (appliedAt p t)) := rfl

theorem commitOwed_kept (p : Pending) (s : State) : SetupKept s (commitOwed p s) := by
  unfold commitOwed
  extract_lets u
  have hu : SetupKept s u := (SetupKept.refl s).elsewhere rfl rfl
  exact .ite (.refl s) (.ite (hu.trans (laneSend_kept ..)) hu)

theorem appliedAt_spec (hp : t.expo.pending = some p) :
    (appliedAt p t).conf = { t.conf.applyItems (t.sess p.session).items with gen := p.gen } ∧
      (appliedAt p t).expo.pending.map (·.applied) = some (some (t.now, (t.shut 12).lastLate || t.coarse)) := by
  have h := exposeSet_kept p.session p.ticket (t.sess p.session).items p.gen t.now ((t.shut 12).lastLate || t.coarse) t
  unfold appliedAt
  generalize exposeSet p.session p.ticket (t.sess p.session).items p.gen t.now ((t.shut 12).lastLate || t.coarse) t = s1 at h
  have hpending : s1.expo.pending = some p := by rw [h.expo]; exact hp
  refine ⟨h.conf, ?_⟩
  simp only [State.modPend, State.modExpo_expo, hpending, Option.map_some]

/-- At the instant the set is in force under its generation, and the exposure knows its stamp and whether it was late
(R147, R148). -/
theorem atInstant_spec (hp : t.expo.pending = some p) :
    (atInstant p t).conf = { t.conf.applyItems (t.sess p.session).items with gen := p.gen } ∧
      (atInstant p t).expo.pending.map (·.applied) = some (some (t.now, (t.shut 12).lastLate || t.coarse)) := by
  have hkept : SetupKept (appliedAt p t) (atInstant p t) := by
    rw [atInstant_eq]
    exact (commitOwed_kept p _).trans (putRecord_kept ..)
  rw [hkept.conf, hkept.expo]
  exact appliedAt_spec hp

/-- EXPOSURE_INSTANT: the fire of shutter 12 applies the exposure that is decided (R147). -/
theorem execExposureInstant_applies {v : State} (hp : s.expo.pending = some p) (hd : p.decided = true) (ha : p.applied = none)
    (hv : firmStart 12 s = some v) : execExposureInstant s = .next (atInstant p v) :=
  next_congr (by simp only [exposureFires, hp, hd, ha, hv, and_self, if_true])

end

end Sys2Proof.Machine
end

section
/-! SUPPORT. The course of an accepted exposure, clause by clause (R146–R152). -/

namespace Sys2Proof.Machine

section
variable {s : State} {p : Pending}

/-- An exposure that ends at a timer's stamp ends as it would have at once. -/
theorem endPending_reach (k : Nat) (hp : s.expo.pending = some p) (htk : p.ticket < 128) (hn : p.session < 4) (st fx : Nat)
    (after : SessState) : EndedUnapplied st after p s (endPending st fx after (reach k s)) := by
  have h := endPending_ended (s := reach k s) (by rw [reach_expo]; exact hp) htk hn st fx after
  exact ⟨h.pending, by rw [h.session, reach_sess], h.completed, h.status, h.owed, by rw [h.conf, reach_conf]⟩

/-- CANCEL (R149): the session's state decides, and then whether the exposure is. -/
theorem exec_cancel {tk : Fin 128} {n : Fin 4} {w : Work} (hs : startable tk.val 0x0306 s = some w)
    (hsess : u8At w.req.payload 0 = n.val) (h : (s.sess n.val).state = .exposing) (hp : s.expo.pending = some p)
    (hn : p.session = n.val) (htk : p.ticket < 128) :
    (p.decided = true → ∃ t, exec (.exposeCancel tk) s = .next t ∧ Answered tk.val St.exposeDecided [] s t) ∧
    (p.decided = false → ∃ t u, exec (.exposeCancel tk) s = .next t ∧ Answered tk.val St.ok [] u t ∧
      u.expo.pending = none ∧ u.sess n.val = { s.sess n.val with state := .checked } ∧
      (u.ticket p.ticket).state = .completed ∧ (u.ticket p.ticket).status = St.exposeCancelled ∧ u.conf = s.conf) := by
  have hexec := execExposeCancel_exposing hs hsess h hp
  refine ⟨fun hd => ?decided, fun hd => ?ends⟩
  case decided =>
    rw [if_pos hd] at hexec
    exact answered_of_complete tk.isLt hexec
  case ends =>
    rw [if_neg (by simp [hd])] at hexec
    have hend := endPending_ended hp htk (hn ▸ n.isLt) St.exposeCancelled 0 .checked
    exact ⟨_, _, hexec, answered_complete _ tk.isLt, hend.pending, hn ▸ hend.session, hend.completed, hend.status, hend.conf⟩

/-- The decision point without the F die (R146). -/
theorem exec_decisionPoint (hp : s.expo.pending = some p) (hr : s.stew.running = true) (htk : p.ticket < 128)
    (hn : p.session < 4) (hd : p.decided = false) (hf : p.fix = .unused) (hl : p.loaded = true)
    (hc : clearUntil (p.instant - lsbOfUs 100) s = true) :
    (modeHolds s (s.sess p.session).items = true → bootHolds s (s.sess p.session).items = true →
      (reach (p.instant - lsbOfUs 100) s).now < p.instant → ∃ t, exec .decisionPoint s = .next t ∧
        t.expo.pending = some { p with decided := true } ∧
        (t.ticket p.ticket).decided = true ∧ (t.shut 12).state = .oneShot ∧ (t.shut 12).active = p.instant ∧
        (∀ k, k ≠ 12 → t.shut k = s.shut k) ∧ t.now = (reach (p.instant - lsbOfUs 100) s).now ∧
        t = { s with expo := { s.expo with pending := t.expo.pending }, sheet := t.sheet, time := t.time }) ∧
    (modeHolds s (s.sess p.session).items = false ∨ bootHolds s (s.sess p.session).items = false →
      ∃ t, exec .decisionPoint s = .next t ∧ t.expo.pending = none ∧ (t.sess p.session).state = .checked ∧
        (t.ticket p.ticket).state = .completed ∧ (t.ticket p.ticket).status = St.modeLost ∧ t.conf = s.conf) := by
  have hexec : exec .decisionPoint s = _ := execDecisionPoint_due hp hr hd hf hl hc
  have hframe := decided_frame (p.instant - lsbOfUs 100) p s
  have hend := endPending_reach (p.instant - lsbOfUs 100) hp htk hn St.modeLost 0 .checked
  generalize p.instant - lsbOfUs 100 = due at *
  have hreached : (reach due s).expo.pending = some p := by rw [reach_expo]; exact hp
  refine ⟨fun hmode hboot hbefore => ?passes, fun hfail => ?fails⟩
  case passes =>
    rw [decide_passes hreached (by rwa [modeHolds_reach, reach_sess]) (by rwa [bootHolds_reach, reach_sess]) hbefore] at hexec
    obtain ⟨hpending, hmark, hstate, hactive, hothers, hnow⟩ := decided_spec hreached htk
    exact ⟨_, hexec, hpending, hmark, hstate, hactive, fun k hk => (hothers k hk).trans (reach_shut ..), hnow, hframe⟩
  case fails =>
    rw [decide_fails hreached (by rwa [modeHolds_reach, bootHolds_reach, reach_sess])] at hexec
    exact ⟨_, hexec, hend.pending, congrArg Session.state hend.session, hend.completed, hend.status, hend.conf⟩

/-- EXPOSE_COMMIT 2 ms before the instant, or the end where it would come too late (R150, R152). -/
theorem exec_exposeCommitSend (hp : s.expo.pending = some p) (hr : s.stew.running = true) (htk : p.ticket < 128)
    (hn : p.session < 4) (hf : p.fix = .prepared) (hl : p.loaded = true)
    (hc : clearUntil (p.instant - lsbOfMs 2) s = true) :
    (modeHolds s (s.sess p.session).items = true → (reach (p.instant - lsbOfMs 2) s).now ≤ p.instant - lsbOfMs 1 →
      ∃ t, exec .exposeCommitSend s = .next t ∧ t.expo.pending = some { p with fix := .committing } ∧
        (∃ o ∈ t.lane.out, o.req = .exposeCommit p.gen ∧ o.user = .exposure ∧ o.seq = s.lane.seq) ∧ t.conf = s.conf) ∧
    (p.instant - lsbOfMs 1 < (reach (p.instant - lsbOfMs 2) s).now → ∃ t, exec .exposeCommitSend s = .next t ∧
      t.expo.pending = none ∧ (t.ticket p.ticket).status = St.fixerAbsent ∧ t.sheet.owed = .rollback ∧ t.conf = s.conf) := by
  have hexec : exec .exposeCommitSend s = _ := execExposeCommitSend_due hp hr hf hl hc
  have hend := endPending_reach (p.instant - lsbOfMs 2) hp htk hn St.fixerAbsent 0 .checked
  generalize p.instant - lsbOfMs 2 = due at *
  generalize p.instant - lsbOfMs 1 = last at *
  refine ⟨fun hmode hnow => ?sends, fun hlate => ?absent⟩
  case sends =>
    rw [if_neg (Nat.not_lt.mpr hnow), if_pos (by rwa [modeHolds_reach, reach_sess])] at hexec
    obtain ⟨hpending, hout, hconf⟩ := commitSent_spec (t := reach due s) (by rw [reach_expo]; exact hp)
    rw [reach_lane] at hout
    exact ⟨_, hexec, hpending, hout, hconf.trans (reach_conf ..)⟩
  case absent =>
    rw [if_pos hlate] at hexec
    exact ⟨_, hexec, hend.pending, hend.status, (hend.owed (by rw [hf]; decide)).1, hend.conf⟩

/-- The stamp by which the F die must have answered, and that it has not answered for good (R150, R152). -/
theorem laneDeadline_of {due : Nat} (h : p.fix = .preparing ∧ due = min (p.sentAt + lsbOfMs 5) (p.instant - lsbOfMs 2) ∨
    (p.fix = .prepared ∨ p.fix = .committing) ∧ due = p.instant - lsbOfMs 1) :
    laneDeadline p = due ∧ p.fix ≠ .unused ∧ p.fix ≠ .armed := by
  obtain ⟨hf, hdue⟩ | ⟨hf | hf, hdue⟩ := h
  · exact ⟨by rw [laneDeadline, if_pos hf, hdue], by simp [hf], by simp [hf]⟩
  · exact ⟨by rw [laneDeadline, if_neg (by simp [hf]), hdue], by simp [hf], by simp [hf]⟩
  · exact ⟨by rw [laneDeadline, if_neg (by simp [hf]), hdue], by simp [hf], by simp [hf]⟩

end

/-- Settles O35: CANCEL, the decision point, EXPOSE_COMMIT and the lane's deadlines each end the exposure by `endPending` or
let it go on, and the instant applies it (`atInstant_spec`). -/
theorem exposureRunsToItsInstant : Obligations.ExposureRunsToItsInstant := by
  unfold Obligations.ExposureRunsToItsInstant
  intro s p
  refine ⟨fun tk n w hs hsess => ⟨?closed, ?idle, ?cancel⟩, fun hp hr htk hn => ⟨?decision, ?commit, ?timeout⟩, ?instant⟩
  case closed => exact fun hc => answered_of_complete tk.isLt (execExposeCancel_closed hs hsess hc)
  case idle => exact fun hc => answered_of_complete tk.isLt (execExposeCancel_idle hs hsess hc)
  case cancel => exact fun h hp hn htk _ => exec_cancel hs hsess h hp hn htk
  case decision => exact fun hd hf hl hc => exec_decisionPoint hp hr htk hn hd hf hl hc
  case commit => exact fun hf hl hc => exec_exposeCommitSend hp hr htk hn hf hl hc
  case timeout =>
    intro due hdue hc
    obtain ⟨rfl, hf, ha⟩ := laneDeadline_of hdue
    have hend := endPending_reach (laneDeadline p) hp htk hn St.fixerAbsent 0 .checked
    exact ⟨_, execFixerPrepareTimeout_due hp hr hf ha hc, hend.pending, congrArg Session.state hend.session, hend.completed,
      hend.status, (hend.owed hf).1, (hend.owed hf).2, hend.conf⟩
  case instant =>
    intro v hp hd ha hv
    have hkept := SetupKept.firmStart hv
    have hsess : v.sess p.session = s.sess p.session := by unfold State.sess; rw [hkept.expo]
    obtain ⟨hconf, happlied⟩ := atInstant_spec (p := p) (t := v) (hkept.expo.symm ▸ hp)
    rw [hsess, hkept.conf] at hconf
    refine ⟨_, _, execExposureInstant_applies hp hd ha hv, hconf, happlied, fun h => ?_, fun hlate hcoarse => ?_⟩
    · simpa using h
    · simp [hlate, hcoarse]

end Sys2Proof.Machine
end

section
/-! SUPPORT. What work for the parameter store, frames in the switch and frames of the access engine change: the store, the
switch, the domains that come on for them, and of the access engine its reservations and what waits for PD8 NET (R28, R180,
R189–R193, R322, R392). -/

namespace Sys2Proof.Machine

variable {r s t : State}

/-! ### The parameter store -/

/-- From `s` to `t` the parameter store has been given work: it, the domains and what events change. -/
def StoreAsked (s t : State) : Prop :=
  t = { withEvents s t with store := t.store, power := { s.power with domains := t.power.domains } }

theorem StoreAsked.refl (s : State) : StoreAsked s s := rfl

theorem StoreAsked.trans (h : StoreAsked r s) (k : StoreAsked s t) : StoreAsked r t := by
  unfold StoreAsked at *
  rw [k, h]

theorem storeAsked_emit (src code n k : Nat) (d : Bytes) (s : State) : StoreAsked s (emit src code d n k s) := by
  unfold StoreAsked
  rw [emit_store, emit_power]
  exact emit_frame ..

theorem storeAsked_enqueue (os : List StoreOp) (s : State) : StoreAsked s (enqueue os s) := by
  have hasked := requestAll_frame [9] (s.modStore (fun t => { t with queue := t.queue ++ os }))
  have hpump := pump_frame (requestAll [9] (s.modStore (fun t => { t with queue := t.queue ++ os })))
  rw [← enqueue] at hpump
  generalize requestAll [9] (s.modStore (fun t => { t with queue := t.queue ++ os })) = u at hasked hpump
  unfold StoreAsked
  rw [show enqueue os s = _ from hpump, hasked]
  rfl

theorem storeAsked_putRecord (k : Nat) (d : Bytes) (a : After) (s : State) : StoreAsked s (putRecord k d a s) := by
  unfold putRecord
  split
  · exact .refl s
  · exact storeAsked_enqueue ..

theorem storeAsked_bumpCounter (k : Nat) (a : After) (s : State) : StoreAsked s (bumpCounter k a s) := by
  unfold bumpCounter
  split
  · exact storeAsked_enqueue ..
  · exact storeAsked_enqueue _ (s.modStore _)

theorem storeAsked_storeTok (n : Nat) (s : State) : StoreAsked s (storeTok n s) := storeAsked_putRecord ..

theorem storeAsked_storeAccess (s : State) : StoreAsked s (storeAccess s) := storeAsked_putRecord ..

/-! ### The frame switch -/

/-- From `s` to `t` the frame switch has changed, and what events change. -/
def SwitchWorked (s t : State) : Prop := t = { withEvents s t with sw := t.sw }

theorem SwitchWorked.refl (s : State) : SwitchWorked s s := rfl

theorem SwitchWorked.trans (h : SwitchWorked r s) (k : SwitchWorked s t) : SwitchWorked r t := by
  unfold SwitchWorked at *
  rw [k, h]

theorem SwitchWorked.modSw {f : Switch → Switch} (h : SwitchWorked r s) : SwitchWorked r (s.modSw f) := h.trans rfl

theorem SwitchWorked.modEv {f : EvUnit → EvUnit} (h : SwitchWorked r s) : SwitchWorked r (s.modEv f) := h.trans rfl

theorem SwitchWorked.modPort {n : Nat} {f : Port → Port} (h : SwitchWorked r s) : SwitchWorked r (s.modPort n f) := h.modSw

theorem SwitchWorked.putEvent (e : EvRec) (h : SwitchWorked r s) : SwitchWorked r (putEvent e s) := by
  refine h.trans ?_
  unfold SwitchWorked
  rw [putEvent_sw]
  exact putEvent_frame e s

theorem SwitchWorked.countBy (n i k : Nat) (h : SwitchWorked r s) : SwitchWorked r (countBy n i k s) := h.modPort

theorem SwitchWorked.ite {c : Prop} [Decidable c] (hs : SwitchWorked r s) (ht : SwitchWorked r t) :
    SwitchWorked r (if c then s else t) := by split <;> assumption

theorem SwitchWorked.foldl {α : Type} {f : State → α → State} (hf : ∀ s x, SwitchWorked r s → SwitchWorked r (f s x)) :
    ∀ (l : List α) {s : State}, SwitchWorked r s → SwitchWorked r (l.foldl f s)
  | [], _, h => h
  | x :: xs, _, h => SwitchWorked.foldl hf xs (hf _ x h)

theorem SwitchWorked.foldlFst {α β : Type} {f : State × β → α → State × β}
    (hf : ∀ a x, SwitchWorked r a.1 → SwitchWorked r (f a x).1) :
    ∀ (l : List α) {a : State × β}, SwitchWorked r a.1 → SwitchWorked r (l.foldl f a).1
  | [], _, h => h
  | x :: xs, _, h => SwitchWorked.foldlFst hf xs (hf _ x h)

theorem SwitchWorked.updateHold (n : Nat) (h : SwitchWorked r s) : SwitchWorked r (updateHold n s) :=
  .ite (.ite (.ite (.countBy _ _ _ h.modPort.modPort) h.modPort) h) (.ite (.ite (.countBy _ _ _ h.modPort.modPort) h.modPort) h)

theorem SwitchWorked.endCopies (n : Nat) (p : SwFrame → Copy → Bool) (h : SwitchWorked r s) :
    SwitchWorked r (endCopies n p s) := .foldl (fun _ n h => h.updateHold n) _ h.modSw

theorem SwitchWorked.placeCopy (cap : Nat) (f : SwFrame) (c : Copy) {a : State × List Copy} (h : SwitchWorked r a.1) :
    SwitchWorked r (placeCopy cap f c a).1 := by
  unfold Machine.placeCopy
  dsimp only
  split
  · exact .putEvent _ (h.countBy ..)
  · simp only [apply_ite Prod.fst]
    exact .ite h.modSw (.ite (h.countBy ..) (.ite (h.countBy ..) h))

theorem SwitchWorked.storeFrame (c : Conf) (f : SwFrame) (ports : List (Nat × Nat)) (hold : Nat) (h : SwitchWorked r s) :
    SwitchWorked r (storeFrame c f ports hold s) := by
  unfold Machine.storeFrame
  dsimp only
  generalize hcopies : ports.foldl _ (s, []) = a
  have hplaced : SwitchWorked r a.1 := by
    rw [← hcopies]
    exact .foldlFst (fun _ _ h => h.placeCopy ..) ports h
  exact .foldl (fun _ n h => h.updateHold n) _ (.modSw (.ite hplaced hplaced.modSw))

theorem SwitchWorked.sendFrame (built port id : Nat) (d : Bytes) (h : SwitchWorked r s) :
    SwitchWorked r (sendFrame built port id d s) := by
  unfold Machine.sendFrame
  dsimp only
  split
  · exact h
  · exact .storeFrame _ _ _ _ (.countBy _ _ _ (.countBy _ _ _ h.modEv))

/-! ### Domains -/

/-- Domains that are to come on change, of modes and domains, the domains alone, and Eave. -/
theorem powerOn_frame (ds : List Nat) (s : State) : power ds s =
    { s with power := { s.power with domains := (power ds s).power.domains }, eave := (power ds s).eave } := by
  have hasked := requestAll_frame (ds.filter s.allows) s
  have hwake := beginWake_frame true (requestAll (ds.filter s.allows) s)
  rw [← power] at hwake
  generalize requestAll (ds.filter s.allows) s = u at hasked hwake
  rw [hwake, hasked]

/-! ### Frames of the access engine -/

/-- Only what building frames changes of the access engine: the frames that wait for PD8 NET, and its body and release values
with their reservations. -/
def Access.withFrames (a b : Access) : Access :=
  { a with outbox := b.outbox, bodyNext := b.bodyNext, bodyReserving := b.bodyReserving, relNext := b.relNext,
           relReserving := b.relReserving, relUsedUp := b.relUsedUp, relWarned := b.relWarned, dropped := b.dropped }

/-- From `s` to `t` the access engine has built frames, and whatever that asks of the switch, the store and the domains. -/
def FrameBuilt (s t : State) : Prop :=
  t = { withEvents s t with sw := t.sw, store := t.store, eave := t.eave
                            power := { s.power with domains := t.power.domains }, access := s.access.withFrames t.access }

theorem FrameBuilt.refl (s : State) : FrameBuilt s s := rfl

theorem FrameBuilt.trans (h : FrameBuilt r s) (k : FrameBuilt s t) : FrameBuilt r t := by
  unfold FrameBuilt at *
  rw [k, h]
  rfl

theorem FrameBuilt.modAccess {f : Access → Access} (h : FrameBuilt r s) (hf : ∀ a, f a = a.withFrames (f a)) :
    FrameBuilt r (s.modAccess f) := h.trans (by unfold FrameBuilt; rw [State.modAccess_access, ← hf]; rfl)

theorem FrameBuilt.asked (h : FrameBuilt r s) (k : StoreAsked s t) : FrameBuilt r t :=
  h.trans (by unfold FrameBuilt StoreAsked at *; rw [k]; rfl)

theorem FrameBuilt.worked (h : FrameBuilt r s) (k : SwitchWorked s t) : FrameBuilt r t :=
  h.trans (by unfold FrameBuilt SwitchWorked at *; rw [k]; rfl)

theorem FrameBuilt.powerOn (ds : List Nat) (h : FrameBuilt r s) : FrameBuilt r (power ds s) :=
  h.trans (by unfold FrameBuilt; rw [powerOn_frame]; rfl)

theorem FrameBuilt.ite {c : Prop} [Decidable c] (hs : FrameBuilt r s) (ht : FrameBuilt r t) :
    FrameBuilt r (if c then s else t) := by split <;> assumption

theorem FrameBuilt.accessFrame (built port id : Nat) (d : Bytes) (h : FrameBuilt r s) :
    FrameBuilt r (accessFrame built port id d s) :=
  .ite (h.worked ((SwitchWorked.refl s).sendFrame ..)) (.powerOn _ (h.modAccess fun _ => rfl))

theorem FrameBuilt.reserveBody (h : FrameBuilt r s) : FrameBuilt r (reserveBody s) :=
  .ite ((h.modAccess fun _ => rfl).asked (storeAsked_bumpCounter ..)) h

theorem FrameBuilt.bodyFrame (action zone slot : Nat) (h : FrameBuilt r s) : FrameBuilt r (bodyFrame action zone slot s).1 := by
  unfold Machine.bodyFrame
  dsimp only
  split
  · split
    · exact .reserveBody (.asked (.accessFrame _ _ _ _ (h.modAccess fun _ => rfl)) (storeAsked_emit ..))
    · exact h.reserveBody
  · exact h

theorem FrameBuilt.reserveRelease (h : FrameBuilt r s) : FrameBuilt r (reserveRelease s) :=
  .ite ((h.modAccess fun _ => rfl).asked (storeAsked_bumpCounter ..)) h

theorem FrameBuilt.withdrawRelease (h : FrameBuilt r s) : FrameBuilt r (withdrawRelease s) := by
  unfold Machine.withdrawRelease
  split
  · next f _ _ =>
    have hdropped : FrameBuilt r (dropHead (s.nat 5 20) f s) := h.worked ((SwitchWorked.refl s).endCopies ..)
    exact (hdropped.modAccess fun _ => rfl).asked (storeAsked_emit ..)
  · exact h

theorem FrameBuilt.releaseWithheld (kind c : Nat) (h : FrameBuilt r s) : FrameBuilt r (releaseWithheld kind c s) :=
  (h.modAccess fun _ => rfl).asked (storeAsked_emit ..)

theorem FrameBuilt.useRelease (h : FrameBuilt r s) : FrameBuilt r (useRelease s) := by
  have hused : FrameBuilt r (s.modAccess (fun a =>
      if a.relNext = 0xFFFFFFFF then { a with relUsedUp := true } else { a with relNext := a.relNext + 1 })) :=
    h.modAccess fun _ => by split <;> rfl
  exact .reserveRelease (.ite ((hused.modAccess fun _ => rfl).asked ((storeAsked_storeAccess _).trans (storeAsked_emit ..))) hused)

end Sys2Proof.Machine
end

section
/-! SUPPORT. Fires of the firmware shutters that no route takes on, and what the release does at one (R97, R98, R189–R191). -/

namespace Sys2Proof.Machine

variable {r s t : State} {n : Nat}

/-! ### The time base -/

/-- From `s` to `t` the time base has changed, and what events change. -/
def TimeWorked (s t : State) : Prop := t = { withEvents s t with time := t.time }

theorem TimeWorked.trans (h : TimeWorked r s) (k : TimeWorked s t) : TimeWorked r t := by
  unfold TimeWorked at *
  rw [k, h]

theorem timeWorked_reach (k : Nat) (s : State) : TimeWorked s (reach k s) := by
  unfold TimeWorked
  rw [reach_frame]

theorem TimeWorked.modShut {f : Shutter → Shutter} (h : TimeWorked r s) : TimeWorked r (s.modShut n f) := h.trans rfl

/-- The next period is set at a fire (R97, R160). -/
theorem TimeWorked.repace (p : Nat) (h : TimeWorked r s) : TimeWorked r (repace n p s) := h.modShut

theorem repace_now (p : Nat) (s : State) : (repace n p s).now = s.now := rfl

theorem repace_fireCount (p : Nat) (s : State) (hn : n < 16) : ((repace n p s).shut n).fireCount = (s.shut n).fireCount := by
  unfold repace
  rw [shut_modShut_same _ hn]
  split <;> rfl

/-- The fire of a firmware shutter without a preload and without a route changes its own shutter alone, and is an event where
EVENT is set (R97, R98). -/
theorem firmFire_alone {v : State} (h : firmFire n s = some v) (howed : (s.shut n).owed = false) (hn : n < 16)
    (hpre : (s.shut n).preValid = false) (hrouting : s.time.routing = []) (hroutes : routesFrom s (1 + n) = []) :
    TimeWorked s v ∧ (v.shut n).fireCount = wrapAdd 32 (s.shut n).fireCount 1 ∧ ∀ k, k ≠ n → v.shut k = s.shut k := by
  obtain ⟨u, hu, rfl⟩ := Option.map_eq_some_iff.mp h
  unfold firmStart at hu
  rw [howed] at hu
  split at hu
  · cases hu
  · obtain ⟨x, hx, rfl⟩ := Option.map_eq_some_iff.mp hu
    obtain rfl := reachCompare_some hx
    obtain ⟨hown, hother, hframe⟩ := fireRouted_alone (s := reach (s.shut n).active s) hn (by rwa [reach_shut])
      (by rwa [reach_routing]) (by rwa [routesFrom_congr (reach_conf ..)])
      (reach (s.shut n).active s).now (overdue (s.shut n).active (reach (s.shut n).active s))
    refine ⟨(timeWorked_reach _ s).trans hframe, ?_, fun k hk => (hother k hk).trans (reach_shut ..)⟩
    refine (congrArg Shutter.fireCount hown).trans ?_
    rw [(Shutter.fired_spec (h := (reach (s.shut n).active s).shut n) (by rwa [reach_shut]) _ _ _).2.2.1, reach_shut]

/-! ### Release frames -/

theorem releaseStop_none (hu : s.access.relUsedUp = false) (hv : (s.kslot s.releaseSlot).ver ≠ none)
    (he : (s.kslot s.releaseSlot).exhausted = false) : releaseStop s = none := by
  obtain ⟨v, hv⟩ := Option.ne_none_iff_exists'.mp hv
  simp [releaseStop, hu, hv, he]

/-- The reasons for which a fire ends the release are 1 to 3 (R200). -/
theorem releaseStop_some (h : s.access.relUsedUp = true ∨ (s.kslot s.releaseSlot).ver = none ∨
    (s.kslot s.releaseSlot).exhausted = true) : ∃ k, releaseStop s = some (k + 1) := by
  unfold releaseStop
  split
  · exact ⟨0, rfl⟩
  · next hu =>
    split
    · exact ⟨1, rfl⟩
    · next v hv =>
      obtain hused | hver | hex := h
      · exact absurd hused hu
      · rw [hv] at hver
        cases hver
      · rw [if_pos hex]
        exact ⟨2, rfl⟩

/-- A reservation of release values asks the store (R190). -/
theorem reserveRelease_asks (s : State) :
    ∃ b, StoreAsked (s.modAccess (fun a => { a with relReserving := b })) (reserveRelease s) := by
  unfold reserveRelease
  dsimp only
  split
  · exact ⟨true, storeAsked_bumpCounter ..⟩
  · exact ⟨s.access.relReserving, .refl s⟩

theorem StoreAsked.access (h : StoreAsked s t) : t.access = s.access := by
  unfold StoreAsked at h
  rw [h]

theorem reserveRelease_access (s : State) : ∃ b, (reserveRelease s).access = { s.access with relReserving := b } := by
  obtain ⟨b, hb⟩ := reserveRelease_asks s
  exact ⟨b, hb.access⟩

/-- A frame that is withheld for want of a reserved value is counted (R190). -/
theorem releaseFrame_withheld {live : Bool} {stamp : Nat} (h : s.access.relReserved ≤ s.access.relNext) :
    ∃ b, StoreAsked (s.modAccess (fun a => { a with dropped := wrapAdd 32 a.dropped 1, relReserving := b }))
      (releaseFrame live stamp s) := by
  unfold releaseFrame
  dsimp only
  rw [if_pos h]
  obtain ⟨b, hb⟩ := reserveRelease_asks (releaseWithheld 1 s.access.relNext s)
  refine ⟨b, .trans ?_ hb⟩
  unfold releaseWithheld StoreAsked
  simp only [State.modAccess_store, State.modAccess_power, emit_store, emit_power]
  rw [emit_frame]
  rfl

/-- A key slot that holds a key exists. -/
theorem kslot_lt (h : (s.kslot n).ver ≠ none) : n < 64 := by
  by_contra hn
  refine h ?_
  simp [State.kslot, tget, Vector.getD, hn]
  rfl

theorem usableKey_ver {u : Nat} {k : Bytes} (h : usableKey s n u = some k) : (s.kslot n).ver ≠ none := by
  intro hnone
  simp [usableKey, hnone] at h

theorem kslot_modSlot_same (f : KeySlot → KeySlot) (h : n < 64) : (s.modSlot n f).kslot n = f (s.kslot n) := tget_tmod_same _ _ _ h

/-- A counter value but the last one is consumed: NONCE_NEXT lies behind it, and the key stays (R359). -/
theorem consumeNonce_slot {c : Nat} (hc : c ≠ 0xFFFFFFFF) (hn : n < 64) :
    ∃ w, (consumeNonce n c s).kslot n = { s.kslot n with nonceNext := c + 1, warned := w } := by
  have hone : (s.modSlot n (fun k => k.consume c)).kslot n = { s.kslot n with nonceNext := c + 1 } := by
    rw [kslot_modSlot_same _ hn]
    simp [KeySlot.consume, hc]
  unfold consumeNonce
  dsimp only
  rw [if_neg hc]
  split
  · refine ⟨true, ?_⟩
    rw [State.kslot, emit_ciph]
    refine (kslot_modSlot_same _ hn).trans ?_
    rw [hone]
  · exact ⟨(s.kslot n).warned, hone⟩

theorem consumeNonce_frame (n c : Nat) (s : State) :
    consumeNonce n c s = { withEvents s (consumeNonce n c s) with ciph := (consumeNonce n c s).ciph } := by
  have hemit (src code node tk : Nat) (d : Bytes) {u : State} (hu : u = { withEvents s u with ciph := u.ciph }) :
      emit src code d node tk u = { withEvents s (emit src code d node tk u) with ciph := (emit src code d node tk u).ciph } := by
    rw [emit_ciph, emit_frame]
    exact congrArg (fun x => withEvents x (emit src code d node tk u)) hu
  unfold consumeNonce
  dsimp only
  split
  · split
    · exact hemit _ _ _ _ _ (by rw [hemit _ _ _ _ _ rfl]; rfl)
    · exact hemit _ _ _ _ _ rfl
  · split
    · exact hemit _ _ _ _ _ rfl
    · rfl

/-- A frame that is queued or waits for PD8 NET touches nothing else of the access engine (R28, R322). -/
theorem accessFrame_access (built port id : Nat) (d : Bytes) (s : State) :
    ∃ o, (accessFrame built port id d s).access = { s.access with outbox := o } := by
  unfold accessFrame
  split
  · refine ⟨s.access.outbox, ?_⟩
    rw [show sendFrame built port id d s = _ from (SwitchWorked.refl s).sendFrame ..]
  · rw [powerOn_frame]
    exact ⟨_, rfl⟩

/-- A release value but the last one is consumed (R189, R190). -/
theorem useRelease_access (h : s.access.relNext < 0xFFFFFFFF) : ∃ w b, (useRelease s).access =
    { s.access with relNext := s.access.relNext + 1, relWarned := w, relReserving := b } := by
  have hnext : s.modAccess (fun a =>
        if a.relNext = 0xFFFFFFFF then { a with relUsedUp := true } else { a with relNext := a.relNext + 1 }) =
      s.modAccess (fun a => { a with relNext := a.relNext + 1 }) :=
    congrArg (fun a => { s with access := a }) (if_neg (by omega))
  unfold useRelease
  rw [hnext]
  dsimp only
  split
  · obtain ⟨b, hb⟩ := reserveRelease_access (emit 9 0x050B (leBytes 4 (2 ^ 32 - (s.access.relNext + 1))) 0 0xFF
      (storeAccess ((s.modAccess (fun a => { a with relNext := a.relNext + 1 })).modAccess (fun a => { a with relWarned := true }))))
    refine ⟨true, b, hb.trans ?_⟩
    rw [emit_access, (storeAsked_storeAccess _).access]
    rfl
  · obtain ⟨b, hb⟩ := reserveRelease_access (s.modAccess (fun a => { a with relNext := a.relNext + 1 }))
    exact ⟨s.access.relWarned, b, hb⟩

theorem useRelease_ciph (s : State) : (useRelease s).ciph = s.ciph := by
  rw [show useRelease s = _ from (FrameBuilt.refl s).useRelease]

/-- A frame that is built and its value consumed (R187–R190). -/
structure ReleaseUsed (s t : State) : Prop where
  conf : t.conf = s.conf
  access : ∃ o w b, t.access = { s.access with
    relNext := s.access.relNext + 1, outbox := o, relWarned := w, relReserving := b }
  slot : ∃ w, t.kslot s.releaseSlot = { s.kslot s.releaseSlot with nonceNext := s.access.relNext + 1, warned := w }

theorem releaseFrame_uses {live : Bool} {stamp : Nat} {k : Bytes} (hres : s.access.relNext < s.access.relReserved)
    (hlt : s.access.relNext < 0xFFFFFFFF) (hwait : waitingRelease s = none) (hup : s.cipherUp = true)
    (hnonce : (s.kslot s.releaseSlot).nonceNext ≤ s.access.relNext) (hkey : usableKey s s.releaseSlot 0 = some k) :
    ReleaseUsed s (releaseFrame live stamp s) := by
  have hbuilt : releaseFrame live stamp s = accessFrame 1 (s.nat 5 20) (s.nat 5 21)
      (releasePayload k s.access.pairId s.access.relNext stamp
        (b1 live + b1 s.access.absent 1 + b1 s.access.suspect 2) s.access.relSlot)
      (consumeNonce s.releaseSlot s.access.relNext (useRelease s)) := by
    have hw : withdrawRelease s = s := by rw [withdrawRelease, hwait]
    unfold releaseFrame
    dsimp only
    rw [if_neg (by omega), hw, if_pos ⟨hup, hnonce⟩, hkey]
  rw [hbuilt]
  generalize releasePayload k s.access.pairId s.access.relNext stamp _ s.access.relSlot = d
  have hn : s.releaseSlot < 64 := kslot_lt (usableKey_ver hkey)
  have hframe := (FrameBuilt.refl (consumeNonce s.releaseSlot s.access.relNext (useRelease s))).accessFrame
    1 (s.nat 5 20) (s.nat 5 21) d
  have hused := (FrameBuilt.refl s).useRelease
  have hconsumed := consumeNonce_frame s.releaseSlot s.access.relNext (useRelease s)
  refine ⟨?_, ?_, ?_⟩
  · rw [hframe, hconsumed, hused]
  · obtain ⟨o, ho⟩ := accessFrame_access 1 (s.nat 5 20) (s.nat 5 21) d
      (consumeNonce s.releaseSlot s.access.relNext (useRelease s))
    obtain ⟨w, b, ha⟩ := useRelease_access hlt
    refine ⟨o, w, b, ?_⟩
    rw [ho, hconsumed]
    exact congrArg (fun a : Access => { a with outbox := o }) ha
  · obtain ⟨w, hw⟩ := consumeNonce_slot (s := useRelease s) (show s.access.relNext ≠ 0xFFFFFFFF by omega) hn
    refine ⟨w, ?_⟩
    rw [State.kslot, hframe]
    refine hw.trans ?_
    rw [State.kslot, useRelease_ciph]
    rfl

end Sys2Proof.Machine
end

section
/-! SUPPORT. Fires of shutter 14, frames of the access engine that leave a port, and its timers (R183–R185, R189–R191, R199). -/

namespace Sys2Proof.Machine

variable {s t : State}

/-- The transition that a trigger begins where none is in progress (R115, R116). -/
theorem trigger_moving {c : Nat} {m : Mode} (hnone : s.power.moving = none) (ht : trigTarget c s = some m) :
    (trigger c s).power.moving = some { target := m, trigger := c, since := s.now } := by
  rw [trigger_begins hnone ht]

/-! ### Fires of shutter 14 -/

theorem execReleaseFrame_fires {v : State} (hs : s.access.state = .release) (hf : firmFire 14 s = some v) :
    exec .releaseFrame s = .next (releaseFire v.now (repace 14 (lsbOfMs (v.nat 5 23)) v)) := by
  refine next_congr ?_
  rw [if_pos hs, hf]

theorem releaseFire_goes {stamp : Nat} (h : releaseStop s = none) (hsent : releaseStop (releaseFrame true stamp s) = none) :
    releaseFire stamp s = releaseFrame true stamp s := by
  simp only [releaseFire, h, hsent]

theorem releaseFire_stops {stamp k : Nat} (h : releaseStop s = some k) : releaseFire stamp s = endRelease k s := by
  simp only [releaseFire, h]

/-- The release ends without an END frame (R159, R191). -/
structure ReleaseEnded (s t : State) : Prop where
  access : t.access = { s.access with
    state := if s.heads .drive = true then s.access.state else .cabin, authorised := false, firstSent := false }
  idle : (t.shut 14).state = .idle
  sw : t.sw = s.sw
  moves : s.power.mode = .drive → s.power.moving = none →
    t.power.moving = some { target := .cab, trigger := 13, since := s.now }

/-- The state in which a release has ended for a reason of a fire, before its trigger. -/
def releaseOver (k : Nat) (s : State) : State :=
  emit 9 0x0507 (leBytes 1 1 ++ leBytes 1 k ++ zeros 2 ++ leBytes 4 s.access.relNext) 0 0xFF
    ((disarm 14 s).modAccess (fun a => { a with
      state := if s.heads .drive then a.state else .cabin, authorised := false, firstSent := false }))

theorem endRelease_eq (k : Nat) (s : State) : endRelease (k + 1) s =
    if s.heads .drive then trigger 13 (releaseOver (k + 1) s) else releaseOver (k + 1) s := by
  have hframeless : ¬(k + 1 = 0 ∧ (releaseStop s).isNone = true) := fun h => Nat.succ_ne_zero k h.1
  unfold endRelease
  rw [if_neg hframeless, if_neg (Nat.succ_ne_zero k)]
  rfl

theorem endRelease_ends (k : Nat) (s : State) : ReleaseEnded s (endRelease (k + 1) s) := by
  rw [endRelease_eq]
  generalize hu : releaseOver (k + 1) s = u
  unfold releaseOver at hu
  have haccess : u.access = { s.access with
      state := if s.heads .drive = true then s.access.state else .cabin, authorised := false, firstSent := false } := by
    rw [← hu, emit_access]
    rfl
  have hidle : (u.shut 14).state = .idle := by
    rw [← hu, State.shut, emit_time]
    exact congrArg Shutter.state (shut_modShut_same _ (by omega))
  have hsw : u.sw = s.sw := by rw [← hu, emit_sw]; rfl
  have hpower : u.power = s.power := by rw [← hu, emit_power]; rfl
  have hnow : u.now = s.now := by rw [← hu, State.now, emit_time]; rfl
  split
  · have hframe := trigger_frame 13 u
    refine ⟨by rw [hframe, haccess], by rw [hframe]; exact hidle, by rw [hframe, hsw], fun hm hn => ?_⟩
    rw [trigger_moving (m := .cab) (by rw [hpower, hn]) (by simp [trigTarget, hpower, hm]), hnow]
  · next hd =>
    exact ⟨haccess, hidle, hsw, fun hm _ => absurd (by simp [State.heads, hm]) hd⟩

/-! ### Frames that leave a port -/

/-- From `s` to `t` a CAN port has sent: the switch, how long NET_WAKE holds and what events change. -/
def CanSent (s t : State) : Prop :=
  t = { withEvents s t with sw := t.sw, power := { s.power with canWakeUntil := t.power.canWakeUntil } }

theorem CanSent.worked (h : SwitchWorked s t) : CanSent s t := by
  unfold CanSent
  unfold SwitchWorked at h
  rw [h]

theorem CanSent.trans {r : State} (h : CanSent r s) (k : CanSent s t) : CanSent r t := by
  unfold CanSent at *
  rw [k, h]

theorem netActivity_sent (n : Nat) (s : State) : CanSent s (netActivity n s) := by
  unfold netActivity
  split <;> rfl

theorem sendCopy_sent {n : Nat} (f : SwFrame) (hn : n < 12) (s : State) : CanSent s (sendCopy n f s) := by
  have hlin : ¬isLin n = true := by simp [isLin]; omega
  unfold sendCopy
  split
  · exact .worked ((SwitchWorked.refl s).countBy ..)
  · next ms skipped _ =>
    dsimp only
    rw [if_neg hlin, if_neg (by omega), if_neg (by omega)]
    exact .trans (.worked (.modPort (.countBy _ _ _ (.countBy _ _ _ (.countBy _ _ _ (.refl s)))))) (netActivity_sent ..)

/-- The end of transmission of a release frame is LAST_RELEASE, with trigger 5 after the first one in CAB (R189). -/
theorem releaseSent_spec (s : State) : (releaseSent s).access = { s.access with lastRelease := s.now, firstSent := true } ∧
    (s.access.firstSent = false → s.access.state = .release → s.power.mode = .cab → s.power.moving = none →
      (releaseSent s).power.moving = some { target := .drive, trigger := 5, since := s.now }) := by
  unfold releaseSent
  dsimp only
  split
  · refine ⟨by rw [trigger_frame]; rfl, fun _ _ hm hn => ?_⟩
    exact trigger_moving (s := s.modAccess _) hn (by simp [trigTarget, hm])
  · next h => exact ⟨rfl, fun hf hs hm _ => absurd ⟨by simp [hf], hs, hm⟩ h⟩

/-- The head copy of a CAN port that may send leaves it (R326, R333); a release frame reports (R189). -/
theorem copySent_release {n : Nat} {f : SwFrame} {c : Copy} (hh : headCopy s n = some (f, c)) (hn : n < 12) (hb : f.built = 1)
    (hm : maySend s n = true) (hp : (s.port n).pauseUntil = none) :
    copySent n s = releaseSent (dropHead n f (sendCopy n f s)) := by
  unfold copySent
  rw [hm, hp, hh]
  dsimp only
  rw [if_neg (by simp), if_neg (by omega), if_pos hb]

theorem execReleaseFrameTransmitted_eq {f : SwFrame} {c : Copy} (hh : headCopy s (s.nat 5 20) = some (f, c)) :
    exec .releaseFrameTransmitted s = .next (if f.built = 1 then copySent (s.nat 5 20) s else s) := by
  refine next_congr ?_
  rw [hh]

/-! ### The driver and walking away -/

theorem sendToken_frame (slot token : Nat) (s : State) :
    sendToken slot token s = { s with lane := (sendToken slot token s).lane } := by
  unfold sendToken
  split
  · rw [laneSend_frame]
  · rfl

/-- The driver is gone: event 0x0509, and TOKEN_IDENTITY over the lane (R184). -/
theorem setDriver_none (h : s.access.driver ≠ none) : (setDriver none [] s).access = { s.access with driver := none } ∧
    Logged s.now 0x0509 0 0xFF (leBytes 1 0xFF ++ zeros 3) s (setDriver none [] s) ∧
    setDriver none [] s = { withEvents s (setDriver none [] s) with
      access := (setDriver none [] s).access, lane := (setDriver none [] s).lane } := by
  have hset : setDriver none [] s = sendToken 0xFF 0 (emit 9 0x0509 (leBytes 1 0xFF ++ zeros 3) 0 0xFF
      (s.modAccess (fun a => { a with driver := none }))) := if_neg h
  rw [hset, sendToken_frame]
  generalize (sendToken _ _ _).lane = l
  refine ⟨?_, ?_, ?_⟩
  · exact emit_access ..
  · exact emit_logged 9 0x0509 0 0xFF (leBytes 1 0xFF ++ zeros 3) (s.modAccess (fun a => { a with driver := none }))
  · rw [emit_frame]
    rfl

theorem lockVerdict_walks (slot : Nat) (hs : s.access.state = .cabin) (hm : s.power.mode = .cab) (hn : s.power.moving = none) :
    (lockVerdict slot s).1.power.moving = some { target := if s.nat 4 0 = 0 then .parked else .watch, trigger := 3, since := s.now } := by
  have hbuilt := (FrameBuilt.refl s).bodyFrame 2 0xFF slot
  unfold lockVerdict
  dsimp only
  rw [if_pos (.inl ⟨hs, hm⟩)]
  generalize (bodyFrame 2 0xFF slot s).1 = u at hbuilt
  have hpower : u.power.mode = .cab ∧ u.power.moving = none := by rw [hbuilt]; exact ⟨hm, hn⟩
  have hparts : u.nat 4 0 = s.nat 4 0 ∧ u.now = s.now := by rw [hbuilt]; exact ⟨rfl, rfl⟩
  rw [trigger_moving (m := if s.nat 4 0 = 0 then .parked else .watch) hpower.2 (by simp [trigTarget, hpower.1, hparts.1]), hparts.2]

/-- SUSPECT clears (R183). -/
theorem setSuspect_asks (v : Bool) (s : State) : StoreAsked
    (s.modAccess (fun a => { a with suspect := v, suspectSince := if v then s.now else 0 })) (setSuspect v s) :=
  (storeAsked_storeAccess _).trans (storeAsked_emit ..)

/-! ### ACCESS.LOCK -/

/-- Without a key no body frame is built (R193). -/
theorem bodyFrame_keyless {action zone slot : Nat} (h : s.cipherUp = false ∨ usableKey s (s.nat 5 19) 2 = none) :
    bodyFrame action zone slot s = (s, none) := by
  have hnone : (if s.cipherUp && keyReady s (s.nat 5 19) then usableKey s (s.nat 5 19) 2 else none) = none := by
    split
    · next hup => exact h.resolve_left (by simp_all)
    · rfl
  unfold bodyFrame
  dsimp only
  rw [hnone]

theorem reserveBody_bodyNext (s : State) : (reserveBody s).access.bodyNext = s.access.bodyNext := by
  unfold reserveBody
  dsimp only
  split
  · rw [(storeAsked_bumpCounter ..).access]
    rfl
  · rfl

/-- A body frame takes the next reserved SEQ (R193). -/
theorem bodyFrame_keyed {action zone slot : Nat} {k : Bytes} (hup : s.cipherUp = true) (hr : keyReady s (s.nat 5 19) = true)
    (hk : usableKey s (s.nat 5 19) 2 = some k) (hn : s.access.bodyNext < s.access.bodyReserved) :
    (bodyFrame action zone slot s).2 = some s.access.bodyNext ∧
      (bodyFrame action zone slot s).1.access.bodyNext = s.access.bodyNext + 1 := by
  have hkey : (if s.cipherUp && keyReady s (s.nat 5 19) then usableKey s (s.nat 5 19) 2 else none) = some k := by
    rw [if_pos (by simp [hup, hr]), hk]
  unfold bodyFrame
  dsimp only
  rw [hkey]
  dsimp only
  rw [if_pos hn]
  generalize bodyPayload k (s.nat 5 18) action zone slot s.access.bodyNext = d
  generalize leBytes 1 action ++ leBytes 1 zone ++ leBytes 1 slot ++ zeros 1 ++ leBytes 4 s.access.bodyNext = e
  refine ⟨rfl, ?_⟩
  rw [reserveBody_bodyNext, emit_access]
  obtain ⟨o, ho⟩ := accessFrame_access 2 (s.nat 5 17) (s.nat 5 18) d (s.modAccess (fun a => { a with bodyNext := a.bodyNext + 1 }))
  rw [ho]
  rfl

theorem lockVerdict_answer (slot : Nat) (s : State) : (lockVerdict slot s).2 = (bodyFrame 2 0xFF slot s).2 ∧
    (lockVerdict slot s).1.access = (bodyFrame 2 0xFF slot s).1.access := by
  unfold lockVerdict
  dsimp only
  refine ⟨rfl, ?_⟩
  split
  · rw [trigger_frame]
  · rfl

variable {tk : Fin 128} {w : Work}

theorem execAccessLock_waits (hs : startable tk.val 0x0504 s = some w) (h : s.access.lock ≠ none) :
    exec (.accessLock tk) s = .next s := by
  refine next_congr ((command_start hs).trans ?_)
  rw [if_pos (Option.isSome_iff_ne_none.mpr h)]

theorem execAccessLock_begins (hs : startable tk.val 0x0504 s = some w) (h : s.access.lock = none) :
    exec (.accessLock tk) s = .next (match (lockVerdict 0xFF (start tk.val s)).2 with
      | some q => (lockVerdict 0xFF (start tk.val s)).1.modAccess (fun x => { x with lock := some (tk.val, q, s.now) })
      | none => complete tk.val St.bodyNotSent (zeros 16) (lockVerdict 0xFF (start tk.val s)).1) := by
  refine next_congr ((command_start hs).trans ?_)
  rw [h]
  rfl

/-- Without a key ACCESS.LOCK ends BODY_NOT_SENT at once (R199). -/
theorem execAccessLock_keyless (hs : startable tk.val 0x0504 s = some w) (h : s.access.lock = none) (hm : s.power.mode ≠ .cab)
    (hd : leavesDrive s = false) (hk : s.cipherUp = false ∨ usableKey s (s.nat 5 19) 2 = none) :
    exec (.accessLock tk) s = .next (complete tk.val St.bodyNotSent (zeros 16) (start tk.val s)) := by
  have hstays : ¬(((start tk.val s).access.state = .cabin ∧ (start tk.val s).power.mode = .cab) ∨ leavesDrive (start tk.val s) = true) :=
    fun hc => hc.elim (fun hc => hm hc.2) (fun hc => absurd (hd.symm.trans hc) (by decide))
  have hverdict : lockVerdict 0xFF (start tk.val s) = (start tk.val s, none) := by
    unfold lockVerdict
    rw [bodyFrame_keyless (s := start tk.val s) hk]
    dsimp only
    rw [if_neg hstays]
  rw [execAccessLock_begins hs h, hverdict]

/-- With a key and a reserved SEQ the frame of ACCESS.LOCK is on its way (R185, R199). -/
theorem execAccessLock_sends {k : Bytes} (hs : startable tk.val 0x0504 s = some w) (h : s.access.lock = none)
    (hup : s.cipherUp = true) (hr : keyReady s (s.nat 5 19) = true) (hk : usableKey s (s.nat 5 19) 2 = some k)
    (hn : s.access.bodyNext < s.access.bodyReserved) :
    ∃ t, exec (.accessLock tk) s = .next t ∧ t.access.lock = some (tk.val, s.access.bodyNext, s.now) ∧
      t.access.bodyNext = s.access.bodyNext + 1 ∧ t.power = (lockVerdict 0xFF (start tk.val s)).1.power := by
  obtain ⟨hanswer, haccess⟩ := lockVerdict_answer 0xFF (start tk.val s)
  obtain ⟨hseq, hnext⟩ := bodyFrame_keyed (action := 2) (zone := 0xFF) (slot := 0xFF) (s := start tk.val s) hup hr hk hn
  rw [execAccessLock_begins hs h, hanswer, hseq]
  exact ⟨_, rfl, rfl, (congrArg Access.bodyNext haccess).trans hnext, rfl⟩

/-! ### What a fire of shutter 14 leaves -/

theorem releaseFire_withheld {stamp : Nat} (h : releaseStop s = none) (hr : s.access.relReserved ≤ s.access.relNext) :
    ∃ b, StoreAsked (s.modAccess (fun a => { a with dropped := wrapAdd 32 a.dropped 1, relReserving := b })) (releaseFire stamp s) := by
  obtain ⟨b, hasked⟩ := releaseFrame_withheld (live := true) (stamp := stamp) hr
  have hsent : releaseStop (releaseFrame true stamp s) = none := by
    unfold StoreAsked at hasked
    rw [hasked]
    exact h
  rw [releaseFire_goes h hsent]
  exact ⟨b, hasked⟩

theorem releaseFire_uses {stamp : Nat} {k : Bytes} (h : releaseStop s = none) (hres : s.access.relNext < s.access.relReserved)
    (hlt : s.access.relNext < 0xFFFFFFFF) (hwait : waitingRelease s = none) (hup : s.cipherUp = true)
    (hnonce : (s.kslot s.releaseSlot).nonceNext ≤ s.access.relNext) (hkey : usableKey s s.releaseSlot 0 = some k) :
    ReleaseUsed s (releaseFire stamp s) := by
  have hused := releaseFrame_uses (live := true) (stamp := stamp) hres hlt hwait hup hnonce hkey
  obtain ⟨hconf, ⟨o, w, b, haccess⟩, ⟨w', hslot⟩⟩ := hused
  have hsent : releaseStop (releaseFrame true stamp s) = none := by
    have hname : (releaseFrame true stamp s).releaseSlot = s.releaseSlot := by rw [State.releaseSlot, State.nat, hconf]; rfl
    rw [← h]
    unfold releaseStop
    rw [hname, hslot, haccess]
  rw [releaseFire_goes h hsent]
  exact ⟨hconf, ⟨o, w, b, haccess⟩, ⟨w', hslot⟩⟩

section
variable {v : State} (hs : s.access.state = .release) (hf : firmFire 14 s = some v) (hv : TimeWorked s v)
include hs hf hv

/-- Without a reserved value the frame is withheld and the release goes on (R190). -/
theorem exec_releaseFrame_withheld (hu : s.access.relUsedUp = false) (hk : (s.kslot s.releaseSlot).ver ≠ none)
    (he : (s.kslot s.releaseSlot).exhausted = false) (hr : s.access.relReserved ≤ s.access.relNext) :
    ∃ t, exec .releaseFrame s = .next t ∧ t.access.state = .release ∧ t.access.relNext = s.access.relNext ∧
      t.access.dropped = wrapAdd 32 s.access.dropped 1 ∧ t.sw = s.sw := by
  have hrepaced := hv.repace (n := 14) (lsbOfMs (v.nat 5 23))
  generalize hx : repace 14 (lsbOfMs (v.nat 5 23)) v = x at hrepaced
  have hax : x.access = s.access := by rw [hrepaced]
  have hstop : releaseStop x = none := by
    rw [hrepaced]
    exact releaseStop_none hu hk he
  obtain ⟨b, hasked⟩ := releaseFire_withheld (stamp := v.now) hstop (by rwa [hax])
  refine ⟨_, execReleaseFrame_fires hs hf, ?_⟩
  rw [hx, hasked.access, State.modAccess_access, hax]
  refine ⟨hs, rfl, rfl, ?_⟩
  have hsw : x.sw = s.sw := by rw [hrepaced]
  rw [hasked]
  exact hsw

/-- A frame with a reserved value consumes it (R189, R190). -/
theorem exec_releaseFrame_uses {k : Bytes} (hu : s.access.relUsedUp = false) (he : (s.kslot s.releaseSlot).exhausted = false)
    (hk : usableKey s s.releaseSlot 0 = some k) (hup : s.cipherUp = true)
    (hn : (s.kslot s.releaseSlot).nonceNext ≤ s.access.relNext) (hr : s.access.relNext < s.access.relReserved)
    (hlt : s.access.relNext < 0xFFFFFFFF) (hw : waitingRelease s = none) :
    ∃ t, exec .releaseFrame s = .next t ∧ t.access.relNext = s.access.relNext + 1 ∧
      (t.kslot s.releaseSlot).nonceNext = s.access.relNext + 1 ∧ t.access.dropped = s.access.dropped := by
  have hrepaced := hv.repace (n := 14) (lsbOfMs (v.nat 5 23))
  generalize hx : repace 14 (lsbOfMs (v.nat 5 23)) v = x at hrepaced
  have hstop : releaseStop x = none := by
    rw [hrepaced]
    exact releaseStop_none hu (usableKey_ver hk) he
  have hslots (n : Nat) : x.kslot n = s.kslot n := by rw [hrepaced]; rfl
  have hname : x.releaseSlot = s.releaseSlot := by rw [hrepaced]; rfl
  have hax : x.access = s.access := by rw [hrepaced]
  have hused : ReleaseUsed x (releaseFire v.now x) := by
    refine releaseFire_uses (k := k) hstop ?_ ?_ ?_ ?_ ?_ ?_ <;> rw [hrepaced] <;> assumption
  obtain ⟨-, ⟨o, w, b, haccess⟩, w', hslot⟩ := hused
  rw [hname, hslots, hax] at hslot
  rw [hax] at haccess
  refine ⟨_, execReleaseFrame_fires hs hf, ?_⟩
  rw [hx, haccess, hslot]
  exact ⟨rfl, rfl, rfl⟩

/-- A release counter that is used up, a key slot that is EMPTY or EXHAUSTED ends the release (R190, R191). -/
theorem exec_releaseFrame_ends (h : s.access.relUsedUp = true ∨ (s.kslot s.releaseSlot).ver = none ∨
      (s.kslot s.releaseSlot).exhausted = true) :
    ∃ t, exec .releaseFrame s = .next t ∧ t.access.state = (if s.heads .drive = true then .release else .cabin) ∧
      t.access.authorised = false ∧ (t.shut 14).state = .idle ∧ t.access.relNext = s.access.relNext ∧ t.sw = s.sw ∧
      (s.power.mode = .drive → s.power.moving = none →
        t.power.moving = some { target := .cab, trigger := 13, since := v.now }) := by
  have hrepaced := hv.repace (n := 14) (lsbOfMs (v.nat 5 23))
  have hnow := repace_now (n := 14) (lsbOfMs (v.nat 5 23)) v
  generalize hx : repace 14 (lsbOfMs (v.nat 5 23)) v = x at hrepaced hnow
  obtain ⟨k, hk⟩ := releaseStop_some h
  have hstop : releaseStop x = some (k + 1) := by rw [hrepaced]; exact hk
  have hax : x.access = s.access := by rw [hrepaced]
  have hpx : x.power = s.power := by rw [hrepaced]
  have hheads : x.heads .drive = s.heads .drive := by rw [State.heads, hpx]; rfl
  obtain ⟨haccess, hidle, hsw, hmoves⟩ := endRelease_ends k x
  refine ⟨_, execReleaseFrame_fires hs hf, ?_⟩
  rw [hx, releaseFire_stops hstop, haccess, hheads, hax, hs, hsw]
  rw [hpx, hnow] at hmoves
  exact ⟨rfl, rfl, hidle, rfl, by rw [hrepaced], hmoves⟩

end

/-- A release frame that a CAN port sends is LAST_RELEASE (R189). -/
theorem exec_releaseSent {f : SwFrame} {c : Copy} (hh : headCopy s (s.nat 5 20) = some (f, c)) (hn : s.nat 5 20 < 12) (hb : f.built = 1)
    (hm : maySend s (s.nat 5 20) = true) (hp : (s.port (s.nat 5 20)).pauseUntil = none) :
    ∃ t, exec .releaseFrameTransmitted s = .next t ∧ t.access.lastRelease = s.now ∧ t.access.firstSent = true ∧
      (s.access.firstSent = false → s.access.state = .release → s.power.mode = .cab → s.power.moving = none →
        t.power.moving = some { target := .drive, trigger := 5, since := s.now }) := by
  have hsent : CanSent s (dropHead (s.nat 5 20) f (sendCopy (s.nat 5 20) f s)) :=
    (sendCopy_sent f hn s).trans (.worked ((SwitchWorked.refl _).endCopies ..))
  refine ⟨_, execReleaseFrameTransmitted_eq hh, ?_⟩
  rw [if_pos hb, copySent_release hh hn hb hm hp]
  generalize dropHead (s.nat 5 20) f (sendCopy (s.nat 5 20) f s) = x at hsent
  obtain ⟨haccess, hmoves⟩ := releaseSent_spec x
  rw [haccess]
  rw [hsent] at hmoves ⊢
  exact ⟨rfl, rfl, hmoves⟩

/-- The driver that no cab cycle has found for ACCESS.DRIVER_HOLD is gone (R184). -/
theorem exec_cabAbsent (hd : s.access.driver ≠ none) (hs : s.access.state = .cabin ∨ s.access.state = .release)
    (hc : clearUntil (s.access.cabSeen + lsbOfS (s.nat 5 10)) s = true) :
    exec .cabAbsentExpire s = .next (setDriver none [] (reach (s.access.cabSeen + lsbOfS (s.nat 5 10)) s)) := by
  refine next_congr ?_
  rw [if_pos ⟨Option.isSome_iff_ne_none.mpr hd, hs⟩, atDue_clear hc]

theorem exec_walkaway (hs : s.access.state = .cabin) (hw : s.nat 5 11 ≠ 0) (hi : s.power.ign = false) (hn : s.access.walked = false)
    (hc : clearUntil (s.access.heldSeen + lsbOfS (s.nat 5 11)) s = true) :
    exec .walkawayExpire s = .next
      (lockVerdict 0xFF ((reach (s.access.heldSeen + lsbOfS (s.nat 5 11)) s).modAccess (fun a => { a with walked := true }))).1 := by
  refine next_congr ?_
  rw [if_pos ⟨hs, hw, hi, hn⟩, atDue_clear hc]

theorem exec_suspectHold (hs : s.access.suspect = true) (hc : clearUntil (s.access.lastInvalid + lsbOfS (60 * s.nat 5 12)) s = true) :
    exec .suspectHoldExpire s = .next (setSuspect false (reach (s.access.lastInvalid + lsbOfS (60 * s.nat 5 12)) s)) := by
  refine next_congr ?_
  rw [if_pos hs, atDue_clear hc]

theorem exec_lockTimeout {tk q v : Nat} (hl : s.access.lock = some (tk, q, v)) (hc : clearUntil (v + lsbOfMs 100) s = true)
    (hr : (s.ticket tk).state = .running) : exec .lockFrameTimeout s = .next
      (complete tk St.bodyNotSent (lockReply q 0) ((reach (v + lsbOfMs 100) s).modAccess (fun a => { a with lock := none }))) := by
  have hruns : ticketRuns (reach (v + lsbOfMs 100) s) tk = true := by
    rw [reach_frame]
    simp [ticketRuns, State.ticket, ← hr]
  refine next_congr ?_
  rw [hl]
  dsimp only
  rw [atDue_clear hc, if_pos hruns]

/-- Settles O44: a fire of shutter 14 without a route is a release frame withheld, one that consumes its value, or the end of the
release (`exec_releaseFrame_withheld`, `exec_releaseFrame_uses`, `exec_releaseFrame_ends`); each of the engine's timers and
ACCESS.LOCK has its own equation. -/
theorem releaseAndBodyFrames : Obligations.ReleaseAndBodyFrames := by
  unfold Obligations.ReleaseAndBodyFrames
  intro tk s w
  refine ⟨fun v hs hf howed hpre hrouting hroutes => ⟨?withheld, ?uses, ?ends⟩, fun f c hh hn => ⟨?other, ?sent⟩, ?absent, ?walks,
    ?suspect, fun hw => ⟨?waits, ?keyless, ?keyed⟩, ?timeout⟩
  case withheld => exact exec_releaseFrame_withheld hs hf (firmFire_alone hf howed (by omega) hpre hrouting hroutes).1
  case uses => exact fun k => exec_releaseFrame_uses hs hf (firmFire_alone hf howed (by omega) hpre hrouting hroutes).1
  case ends => exact exec_releaseFrame_ends hs hf (firmFire_alone hf howed (by omega) hpre hrouting hroutes).1
  case other => exact fun hb => ⟨s, by rw [execReleaseFrameTransmitted_eq hh, if_neg hb], rfl⟩
  case sent => exact fun hb hm hp => exec_releaseSent hh hn hb hm hp
  case absent =>
    intro hd hs hc
    have hnone := setDriver_none (s := reach (s.access.cabSeen + lsbOfS (s.nat 5 10)) s) (by rwa [reach_access])
    refine ⟨_, exec_cabAbsent hd hs hc, ?_⟩
    generalize setDriver none [] (reach (s.access.cabSeen + lsbOfS (s.nat 5 10)) s) = t at hnone
    obtain ⟨haccess, hlogged, hframe⟩ := hnone
    rw [reach_access] at haccess
    refine ⟨haccess, ?_, ?_⟩
    · rw [reach_frame] at hlogged
      exact hlogged
    · rw [hframe, reach_frame]
  case walks =>
    intro hs hw hi hn hm hno hc
    refine ⟨_, exec_walkaway hs hw hi hn hc, ?_⟩
    rw [reach_frame]
    exact lockVerdict_walks 0xFF hs hm hno
  case suspect =>
    intro hs hc
    refine ⟨_, exec_suspectHold hs hc, ?_⟩
    have hasked := setSuspect_asks false (reach (s.access.lastInvalid + lsbOfS (60 * s.nat 5 12)) s)
    generalize setSuspect false (reach (s.access.lastInvalid + lsbOfS (60 * s.nat 5 12)) s) = t at hasked
    refine ⟨?_, ?_, ?_⟩
    · rw [hasked.access, State.modAccess_access, reach_access]
      rfl
    · rw [hasked]
      rfl
    · rw [hasked, reach_frame]
      rfl
  case waits => exact fun h => ⟨s, execAccessLock_waits hw h, rfl⟩
  case keyless => exact fun h hm hd hk => answered_of_complete tk.isLt (execAccessLock_keyless hw h hm hd hk)
  case keyed =>
    intro k h hup hr hk hn
    obtain ⟨t, hexec, hlock, hnext, hpower⟩ := execAccessLock_sends hw h hup hr hk hn
    refine ⟨t, hexec, hlock, hnext, fun hs hm hno => ?_⟩
    rw [hpower]
    exact lockVerdict_walks (s := start tk.val s) 0xFF hs hm hno
  case timeout =>
    intro q v hl hc hr
    refine ⟨_, _, exec_lockTimeout hl hc hr, answered_complete _ tk.isLt, ?_, ?_⟩
    · rw [reach_frame]
      rfl
    · rw [reach_frame]
      rfl

end Sys2Proof.Machine
end

section
/-! SUPPORT. What the access sequences of the LF array and the access windows of the radio change (R164, R209, R214–R217, R221,
R227, R231). -/

namespace Sys2Proof.Machine

variable {r s t : State}

/-! ### The array -/

/-- From `s` to `t` the array has changed, and what events change. -/
def ArrayMeasured (s t : State) : Prop := t = { withEvents s t with lf := t.lf }

theorem ArrayMeasured.refl (s : State) : ArrayMeasured s s := rfl

theorem ArrayMeasured.trans (h : ArrayMeasured r s) (k : ArrayMeasured s t) : ArrayMeasured r t := by
  unfold ArrayMeasured at *
  rw [k, h]

theorem ArrayMeasured.modLf {f : Lf → Lf} (h : ArrayMeasured r s) : ArrayMeasured r (s.modLf f) := h.trans rfl

theorem ArrayMeasured.modLfc {n : Nat} {f : LfChan → LfChan} (h : ArrayMeasured r s) : ArrayMeasured r (s.modLfc n f) := h.modLf

theorem ArrayMeasured.emit (src code n k : Nat) (d : Bytes) (h : ArrayMeasured r s) : ArrayMeasured r (emit src code d n k s) := by
  refine h.trans ?_
  unfold ArrayMeasured
  rw [emit_lf]
  exact emit_frame ..

theorem ArrayMeasured.ite {c : Prop} [Decidable c] (hs : ArrayMeasured r s) (ht : ArrayMeasured r t) :
    ArrayMeasured r (if c then s else t) := by split <;> assumption

theorem ArrayMeasured.foldl {α : Type} {f : State → α → State} (hf : ∀ s x, ArrayMeasured r s → ArrayMeasured r (f s x)) :
    ∀ (l : List α) {s : State}, ArrayMeasured r s → ArrayMeasured r (l.foldl f s)
  | [], _, h => h
  | x :: xs, _, h => ArrayMeasured.foldl hf xs (hf _ x h)

theorem ArrayMeasured.lfRefuse (reason who : Nat) (h : ArrayMeasured r s) : ArrayMeasured r (lfRefuse reason who s) :=
  .ite (.emit _ _ _ _ _ (.modLf (h.emit ..))) (h.emit ..)

theorem ArrayMeasured.lfUnhold (h : ArrayMeasured r s) : ArrayMeasured r (lfUnhold s) := .ite (.emit _ _ _ _ _ h.modLf) h

theorem ArrayMeasured.latchFault (n v p : Nat) (ph : Int) (h : ArrayMeasured r s) : ArrayMeasured r (latchFault n v p ph s) :=
  .ite h (.emit _ _ _ _ _ h.modLfc)

theorem ArrayMeasured.detuneCheck (m : LfChMeas) (h : ArrayMeasured r s) : ArrayMeasured r (detuneCheck m s) :=
  .ite (.emit _ _ _ _ _ h.modLfc) h.modLfc

theorem ArrayMeasured.channelMeasured (l : Bool) (m : LfChMeas) (h : ArrayMeasured r s) : ArrayMeasured r (channelMeasured l m s) :=
  .ite (.latchFault _ _ _ _ (.detuneCheck _ h.modLfc)) (.detuneCheck _ h.modLfc)

theorem ArrayMeasured.recordLoss (at_ loss : Nat) (h : ArrayMeasured r s) : ArrayMeasured r (recordLoss at_ loss s) := h.modLf

theorem ArrayMeasured.lfMeasured (m : LfMeas) (q : LfSeq) (us : Nat) (h : ArrayMeasured r s) :
    ArrayMeasured r (lfMeasured m q us s) := by
  have hchans : ArrayMeasured r (m.chans.foldl (fun st c => Machine.channelMeasured (m.scale != 255 && c.ch == m.limit) c st) s) :=
    .foldl (fun _ _ h => h.channelMeasured ..) _ h
  have hscaled : ArrayMeasured r (if m.scale = 255 then _ else Machine.emit 0x30 0x0606 (leBytes 1 m.scale ++ leBytes 1 m.limit) 0 0xFF _) :=
    .ite hchans (hchans.emit ..)
  exact hscaled.recordLoss ..

/-! ### Access sequences -/

/-- Steps that were NOT_DRIVEN join those of the cycle that runs (R221). -/
def AccCyc.without (c : AccCyc) (o : List (Nat × Nat)) : AccCyc := { c with out := c.out ++ o }

/-- From `s` to `t` access sequences have run, each with one of the telegrams `ts`: the array, the free values and what events
change, and of the access engine what has been sent and the steps that were NOT_DRIVEN. -/
structure SequencesRun (ts : List Tele) (s t : State) : Prop where
  frame : t = { withEvents s t with lf := t.lf, free := t.free
                                    access := { s.access with lfSent := t.access.lfSent, cyc := t.access.cyc } }
  sent : ∀ x ∈ t.access.lfSent, x ∈ s.access.lfSent ∨ ∃ y ∈ ts, x.2 = y.data
  cycle : ∃ o, t.access.cyc = s.access.cyc.map (·.without o)

theorem AccCyc.without_nil (c : Option AccCyc) : c.map (·.without []) = c := by cases c <;> simp [AccCyc.without]

theorem SequencesRun.refl (ts : List Tele) (s : State) : SequencesRun ts s s :=
  ⟨rfl, fun _ h => .inl h, [], (AccCyc.without_nil _).symm⟩

theorem SequencesRun.trans {ts us : List Tele} (h : SequencesRun ts r s) (k : SequencesRun us s t) (hts : ts ⊆ us) :
    SequencesRun us r t where
  frame := by rw [k.frame, h.frame]
  sent x hx := by
    obtain hs | hy := k.sent x hx
    · exact (h.sent x hs).imp_right fun ⟨y, hy, he⟩ => ⟨y, hts hy, he⟩
    · exact .inr hy
  cycle := by
    obtain ⟨o, ho⟩ := h.cycle
    obtain ⟨p, hp⟩ := k.cycle
    refine ⟨o ++ p, ?_⟩
    rw [hp, ho, Option.map_map]
    congr 1
    funext c
    simp [AccCyc.without]

theorem SequencesRun.measured (ts : List Tele) (h : ArrayMeasured s t) : SequencesRun ts s t := by
  have haccess : t.access = s.access := by rw [h]
  refine ⟨?_, fun x hx => .inl (by rwa [haccess] at hx), [], by rw [haccess, AccCyc.without_nil]⟩
  rw [h]

/-- One access sequence, started or refused (R208, R215). -/
theorem accessSeq_run (x : Tele) (start : Nat) (m : LfMeas) (s : State) : SequencesRun [x] s (accessSeq x start m s).1 := by
  unfold accessSeq
  dsimp only
  split
  · exact .measured _ ((ArrayMeasured.refl s).lfRefuse ..)
  · generalize lfSeqFrom 0 x.set start (x.parts s) s = q
    have hmeasured : ArrayMeasured s (lfMeasured (measIn q m) q (partsUs (x.parts s)) (lfUnhold s)) :=
      .lfMeasured _ _ _ (ArrayMeasured.refl s).lfUnhold
    generalize lfMeasured (measIn q m) q (partsUs (x.parts s)) (lfUnhold s) = u at hmeasured ⊢
    refine (SequencesRun.measured [x] hmeasured).trans ⟨rfl, fun y hy => ?_, x.out u, rfl⟩ (fun _ h => h)
    obtain hy | hy := List.mem_append.mp hy
    · exact .inl hy
    · exact .inr ⟨x, List.mem_singleton.mpr rfl, congrArg Prod.snd (List.mem_singleton.mp hy)⟩

/-- The sequences of a cycle (R168, R169). -/
theorem accessRun_run (past : Bool) (base : Nat) (ts : List Tele) :
    ∀ (ms : List LfMeas) (s : State), SequencesRun ts s (accessRun past base ts ms s).1 := by
  induction ts with
  | nil => exact fun _ s => .refl [] s
  | cons x ts ih =>
    intro ms s
    have hfirst := accessSeq_run x (({ start := base, div := carrierDiv s } : LfSeq).instant x.at_) (ms.headD {}) s
    have hgo (ns : List LfMeas) (u : State) (h : SequencesRun [x] s u) :
        SequencesRun (x :: ts) s (accessRun past base ts ns u).1 := by
      have hrest := ih ns u
      refine h.trans ⟨hrest.frame, fun y hy => ?_, hrest.cycle⟩ (fun y hy => by simp_all)
      exact (hrest.sent y hy).imp_right fun ⟨z, hz, he⟩ => ⟨z, List.mem_cons_of_mem x hz, he⟩
    unfold accessRun
    dsimp only
    split
    · exact hgo _ _ hfirst
    · split
      · exact hgo _ _ hfirst
      · exact hfirst.trans (.refl (x :: ts) _) (fun y hy => by simp_all)

/-! ### Access windows -/

/-- From `s` to `t` the front end has changed, but not the next sniff window, and what events change. -/
structure WindowBooked (s t : State) : Prop where
  frame : t = { withEvents s t with uhf := t.uhf }
  sniff : t.uhf.sniffAt = s.uhf.sniffAt

theorem WindowBooked.trans (h : WindowBooked r s) (k : WindowBooked s t) : WindowBooked r t :=
  ⟨by rw [k.frame, h.frame], k.sniff.trans h.sniff⟩

theorem WindowBooked.refl (s : State) : WindowBooked s s := ⟨rfl, rfl⟩

theorem WindowBooked.modUhf {f : Uhf → Uhf} (hf : (f s.uhf).sniffAt = s.uhf.sniffAt) : WindowBooked s (s.modUhf f) := ⟨rfl, hf⟩

theorem enterSettle_booked (f : Nat) (s : State) : WindowBooked s (enterSettle f s) := by
  unfold enterSettle
  split
  · exact .modUhf rfl
  · exact .modUhf rfl

theorem leaveRx_booked (f : Nat) (s : State) : WindowBooked s (leaveRx f s) := by
  unfold leaveRx
  split
  · exact .modUhf rfl
  · exact .trans (.modUhf rfl) (enterSettle_booked ..)

theorem accessBegin_booked (s : State) : WindowBooked s (accessBegin s) := by
  unfold accessBegin
  split
  · dsimp only
    split
    · exact .refl s
    · split
      · split
        · exact .modUhf rfl
        · exact .trans (.modUhf rfl) (leaveRx_booked ..)
      · exact .trans (.modUhf rfl) (enterSettle_booked ..)
      · exact .trans (.modUhf rfl) (enterSettle_booked ..)
      · exact .refl s
  · exact .refl s

theorem bookAccess_booked (a e : Nat) (s : State) : WindowBooked s (bookAccess a e s) := by
  unfold bookAccess
  dsimp only
  split
  · exact .trans (.modUhf rfl) (accessBegin_booked _)
  · split
    · exact .refl s
    · refine .trans (t := emit _ _ _ _ _ _) (.modUhf rfl) ⟨?_, by rw [emit_uhf]⟩
      rw [emit_uhf]
      exact emit_frame ..

end Sys2Proof.Machine
end

section
/-! SUPPORT. What routes and fires leave alone: everything but the time base, the DMA rings and what events change, and of the
shutters the firmware's own but the one that fires (R97, R98, R105, R434). -/

namespace Sys2Proof.Machine

/-- From `s` to `t` routes have run, or shutter `k` has fired with what that brings about. -/
structure Routed (k : Nat) (s t : State) : Prop where
  frame : t = { withEvents s t with time := t.time, mem := t.mem }
  held : ∀ n, 12 ≤ n → n ≠ k → t.shut n = s.shut n

namespace Routed

variable {k : Nat} {r s t : State}

theorem refl (k : Nat) (s : State) : Routed k s s := ⟨rfl, fun _ _ _ => rfl⟩

theorem trans (h : Routed k r s) (g : Routed k s t) : Routed k r t :=
  ⟨by rw [g.frame, h.frame], fun n hn hk => (g.held n hn hk).trans (h.held n hn hk)⟩

theorem access (h : Routed k s t) : t.access = s.access := by rw [h.frame]

theorem ciph (h : Routed k s t) : t.ciph = s.ciph := by rw [h.frame]

theorem ite {c : Prop} [Decidable c] (hs : Routed k r s) (ht : Routed k r t) : Routed k r (if c then s else t) := by
  split <;> assumption

theorem foldl {α : Type} {f : State → α → State} (hf : ∀ s x, Routed k r s → Routed k r (f s x)) :
    ∀ (l : List α) {s : State}, Routed k r s → Routed k r (l.foldl f s)
  | [], _, h => h
  | x :: xs, _, h => Routed.foldl hf xs (hf _ x h)

theorem emitAs (q st src code n tk : Nat) (d : Bytes) (h : Routed k r s) : Routed k r (emitAs q st src code n tk d s) := by
  refine h.trans ⟨?_, fun n _ _ => by rw [State.shut, emitAs_time]; rfl⟩
  rw [emitAs_time, emitAs_mem, Machine.emitAs, putEvent_frame]
  rfl

theorem emit (src code n tk : Nat) (d : Bytes) (h : Routed k r s) : Routed k r (emit src code d n tk s) := h.emitAs ..

theorem modTime {f : TimeBase → TimeBase} (h : Routed k r s) (hf : ∀ b, (f b).shutters = b.shutters) : Routed k r (s.modTime f) :=
  h.trans ⟨rfl, fun n _ _ => congrArg (tget · n) (hf s.time)⟩

theorem modCap {n : Nat} {f : Capture → Capture} (h : Routed k r s) : Routed k r (s.modCap n f) :=
  h.modTime (f := fun t => { t with captures := tmod t.captures n f }) fun _ => rfl

theorem modSafe {f : Safe → Safe} (h : Routed k r s) : Routed k r (s.modSafe f) := h.trans ⟨rfl, fun _ _ _ => rfl⟩

theorem modMem {f : Mem → Mem} (h : Routed k r s) : Routed k r (s.modMem f) := h.trans ⟨rfl, fun _ _ _ => rfl⟩

theorem modShut {n : Nat} {f : Shutter → Shutter} (h : Routed k r s) (hn : n < 12 ∨ n = k) : Routed k r (s.modShut n f) :=
  h.trans ⟨rfl, fun m hm hk => shut_modShut_other f (by omega)⟩

theorem advance (n : Nat) (h : Routed k r s) : Routed k r (advance n s) := by
  refine h.trans ⟨?_, fun m _ _ => ?_⟩
  · rw [advance_passed]
  · rw [advance_passed]
    rfl

theorem raiseRoute (src st : Nat) (coarse : Bool) (h : Routed k r s) : Routed k r (raiseRoute src st coarse s) :=
  h.modTime fun _ => rfl

theorem captureEdge (n st : Nat) (rising coarse : Bool) (h : Routed k r s) : Routed k r (captureEdge n rising st coarse s) := by
  have hedge : Routed k r (recordEdge n rising st coarse s) := h.modCap
  exact .ite (hedge.emitAs ..) hedge

theorem dmaTrigger (n st : Nat) (coarse : Bool) (h : Routed k r s) : Routed k r (dmaTrigger n st coarse s) :=
  .ite h (.ite h.modMem (.ite (.emit _ _ _ _ _ h.modMem) h.modMem))

theorem fireOnce {n : Nat} (f : Nat) (late coarse further : Bool) (hn : n < 12 ∨ n = k) (h : Routed k r s) :
    Routed k r (fireOnce n f late coarse further s) := by
  have hraised {x : Shutter} : Routed k r (Machine.raiseRoute (1 + n) f coarse (s.modShut n (fun _ => x))) :=
    (h.modShut hn).raiseRoute ..
  exact .ite (hraised.emitAs ..) hraised

theorem fire {n : Nat} (f : Nat) (late : Bool) (hn : n < 12 ∨ n = k) (h : Routed k r s) : Routed k r (fire n f late s) := by
  have honce : Routed k r (Machine.fireOnce n f late s.coarse false s) := h.fireOnce _ _ _ _ hn
  exact .ite ((honce.advance _).fireOnce _ _ _ _ hn) honce

theorem arrive (d st : Nat) (coarse : Bool) (h : Routed k r s) : Routed k r (arrive d st coarse s) := by
  by_cases hd : 1 ≤ d ∧ d ≤ 12
  · have hn : d - 1 < 12 ∨ d - 1 = k := .inl (by omega)
    unfold Machine.arrive
    rw [if_pos hd]
    exact .ite (.ite ((h.modShut hn).fireOnce _ _ _ _ hn) (h.modShut hn)) (h.modShut hn)
  · unfold Machine.arrive
    rw [if_neg hd]
    exact .ite (.ite ((h.captureEdge ..).raiseRoute ..) h) (.ite h.modSafe (.ite (h.dmaTrigger ..) h))

theorem routeWave (evs : List (Nat × Nat × Bool)) (h : Routed k r s) : Routed k r (routeWave evs s) :=
  .foldl (fun _ _ h => .foldl (fun _ e h => h.arrive _ e.2.1 e.2.2) _ h) _ h

theorem runRoutes : ∀ (fuel : Nat) {s : State}, Routed k r s → Routed k r (runRoutes fuel s)
  | 0, _, h => h
  | fuel + 1, s, h => by
    unfold Machine.runRoutes
    split
    · exact h
    · exact .runRoutes fuel (.routeWave _ (h.modTime fun _ => rfl))

/-- A firmware shutter is armed (R97). -/
theorem armFirm (compare period : Nat) (h : Routed k r s) : Routed k r (armFirm k compare period s) := by
  have hloaded : Routed k r (s.modShut k (fun x => x.load compare period)) := h.modShut (.inr rfl)
  exact .ite (.modShut (.runRoutes _ (hloaded.fire _ _ (.inr rfl))) (.inr rfl)) hloaded

theorem routedEdge (n st : Nat) (rising coarse : Bool) (h : Routed k r s) : Routed k r (routedEdge n rising st coarse s) :=
  .runRoutes _ ((h.captureEdge ..).raiseRoute ..)

end Routed

end Sys2Proof.Machine
end

section
/-! SUPPORT. What the conclusion of a cycle leaves alone, and what the ends of ranging sessions leave alone: the token slots and the
open cycle, the generation of learning, SUSPECT, shutter 15 and the keys (R159, R169, R176, R180, R183, R184, R186, R191). -/

namespace Sys2Proof.Machine

variable {r s t : State} {n : Nat}

/-- What asks the queue of random bytes changes Grain alone (R378). -/
theorem askQueue_frame (consumer len : Nat) (s : State) :
    (askQueue consumer len s).1 = { s with grain := (askQueue consumer len s).1.grain } := by
  unfold askQueue
  dsimp only
  split
  · rfl
  · split <;> rfl

/-! ### Keys -/

/-- A change of a key slot that touches neither its key nor its pending write. -/
theorem kslot_modSlot_keys {f : KeySlot → KeySlot} (hf : ∀ k, (f k).ver = k.ver ∧ (f k).shadow = k.shadow) (m : Nat) :
    ((s.modSlot n f).kslot m).ver = (s.kslot m).ver ∧ ((s.modSlot n f).kslot m).shadow = (s.kslot m).shadow :=
  tget_tmod_of (P := fun k : KeySlot => k.ver = (s.kslot m).ver ∧ k.shadow = (s.kslot m).shadow) ⟨rfl, rfl⟩ (hf _)

theorem KeySlot.consume_keys (k : KeySlot) (c : Nat) : (k.consume c).ver = k.ver ∧ (k.consume c).shadow = k.shadow := by
  unfold KeySlot.consume
  split <;> exact ⟨rfl, rfl⟩

/-! ### What the conclusion of a cycle keeps -/

/-- What the conclusion of a cycle leaves of the access engine: its slots, the open cycle, LEARN_GEN and SUSPECT. -/
def Access.core (a : Access) : Vector TokSlot 16 × Option AccCyc × Nat × Bool := (a.slots, a.cyc, a.learnGen, a.suspect)

/-- From `s` to `t` a cycle has come to a conclusion. -/
structure CycleKept (s t : State) : Prop where
  core : t.access.core = s.access.core
  timer : (t.shut 15).state = (s.shut 15).state
  keys : ∀ n, (t.kslot n).ver = (s.kslot n).ver ∧ (t.kslot n).shadow = (s.kslot n).shadow

namespace CycleKept

theorem refl (s : State) : CycleKept s s := ⟨rfl, rfl, fun _ => ⟨rfl, rfl⟩⟩

theorem trans (h : CycleKept r s) (k : CycleKept s t) : CycleKept r t :=
  ⟨k.core.trans h.core, k.timer.trans h.timer, fun n => ⟨(k.keys n).1.trans (h.keys n).1, (k.keys n).2.trans (h.keys n).2⟩⟩

/-- A change elsewhere. -/
theorem elsewhere (h : CycleKept r s) (ha : t.access.core = s.access.core) (ht : t.shut 15 = s.shut 15) (hc : t.ciph = s.ciph) :
    CycleKept r t :=
  h.trans ⟨ha, congrArg Shutter.state ht, fun n => by simp only [State.kslot, hc, and_self]⟩

theorem ite {c : Prop} [Decidable c] (hs : CycleKept r s) (ht : CycleKept r t) : CycleKept r (if c then s else t) := by
  split <;> assumption

theorem modAccess {f : Access → Access} (h : CycleKept r s) (hf : ∀ a, (f a).core = a.core) : CycleKept r (s.modAccess f) :=
  h.elsewhere (hf _) rfl rfl

theorem emit (src code m tk : Nat) (d : Bytes) (h : CycleKept r s) : CycleKept r (emit src code d m tk s) :=
  h.elsewhere (by rw [emit_access]) (by rw [State.shut, emit_time]; rfl) (by rw [emit_ciph])

theorem built (h : CycleKept r s) (k : FrameBuilt s t) : CycleKept r t :=
  h.elsewhere (by rw [k]; rfl) (by rw [k]; rfl) (by rw [k])

theorem asked (h : CycleKept r s) (k : StoreAsked s t) : CycleKept r t := h.built ((FrameBuilt.refl s).asked k)

theorem trigger (c : Nat) (h : CycleKept r s) : CycleKept r (trigger c s) :=
  h.elsewhere (by rw [trigger_frame]) (by rw [trigger_frame]; rfl) (by rw [trigger_frame])

theorem tickets (h : CycleKept r s) (k : OnlyTickets s t) : CycleKept r t :=
  h.elsewhere (by rw [k]) (by rw [k]; rfl) (by rw [k])

theorem modSlot {f : KeySlot → KeySlot} (h : CycleKept r s) (hf : ∀ k, (f k).ver = k.ver ∧ (f k).shadow = k.shadow) :
    CycleKept r (s.modSlot n f) := h.trans ⟨rfl, rfl, kslot_modSlot_keys hf⟩

theorem modShut {m : Nat} {f : Shutter → Shutter} (h : CycleKept r s) (hm : m ≠ 15) : CycleKept r (s.modShut m f) :=
  h.elsewhere rfl (shut_modShut_other f hm.symm) rfl

theorem routed {k : Nat} (h : CycleKept r s) (g : Routed k s t) (hk : k ≠ 15) : CycleKept r t :=
  h.elsewhere (by rw [g.frame]) (g.held 15 (by omega) hk.symm) (by rw [g.frame])

theorem consumeNonce (m c : Nat) (h : CycleKept r s) : CycleKept r (consumeNonce m c s) := by
  have hused : CycleKept r (s.modSlot m (fun k => k.consume c)) := h.modSlot fun k => k.consume_keys c
  have hlast {d : Bytes} : CycleKept r (if c = 0xFFFFFFFF then Machine.emit 7 0x0B03 d (0x90 + m) 0xFF (s.modSlot m (fun k => k.consume c))
      else s.modSlot m (fun k => k.consume c)) := .ite (hused.emit ..) hused
  exact .ite (.emit _ _ _ _ _ (hlast.modSlot fun _ => ⟨rfl, rfl⟩)) hlast

/-! ### Unlocking -/

theorem unlockVerdict (zone slot : Nat) (h : CycleKept r s) : CycleKept r (unlockVerdict zone slot s) := by
  have hframe : CycleKept r (if s.access.fromHold then s else (bodyFrame 1 zone slot s).1) :=
    .ite h (h.built ((FrameBuilt.refl s).bodyFrame ..))
  exact .trigger _ (hframe.modAccess fun _ => rfl)

theorem tryUnlock (h : CycleKept r s) : CycleKept r (tryUnlock s) := by
  unfold Machine.tryUnlock
  split
  · split
    · exact h.unlockVerdict ..
    · exact h
  · exact h

theorem acquireResult (c : AccCyc) (h : CycleKept r s) : CycleKept r (acquireResult c s) := by
  unfold Machine.acquireResult
  dsimp only
  split
  · have hlost : CycleKept r (s.modAccess (fun a => { a with lostCycles := a.lostCycles + 1 })) := h.modAccess fun _ => rfl
    exact .ite (hlost.trigger _) hlost
  · have hfound : CycleKept r (s.modAccess (fun a => { a with lostCycles := 0 })) := h.modAccess fun _ => rfl
    split
    · exact .ite (hfound.unlockVerdict ..) hfound
    · exact hfound

/-! ### Start, release and the driver -/

theorem startMissed (h : CycleKept r s) : CycleKept r (startMissed s) := by
  unfold Machine.startMissed
  split
  · exact .ite (.emit _ _ _ _ _ (h.modAccess fun _ => rfl)) (h.modAccess fun _ => rfl)
  · exact h

theorem releaseFrame (live : Bool) (stamp : Nat) (h : CycleKept r s) : CycleKept r (releaseFrame live stamp s) := by
  have hwithdrawn : FrameBuilt s (withdrawRelease s) := (FrameBuilt.refl s).withdrawRelease
  unfold Machine.releaseFrame
  dsimp only
  split
  · exact h.built (.reserveRelease ((FrameBuilt.refl s).releaseWithheld ..))
  · split
    · exact (((h.built hwithdrawn.useRelease).consumeNonce ..)).built ((FrameBuilt.refl _).accessFrame ..)
    · exact h.built (.useRelease (hwithdrawn.releaseWithheld ..))

theorem endRelease (reason : Nat) (h : CycleKept r s) : CycleKept r (endRelease reason s) := by
  have hend : CycleKept r (if reason = 0 ∧ (releaseStop s).isNone = true then Machine.releaseFrame false s.now s else s) :=
    .ite (h.releaseFrame ..) h
  have hover {b : Bool} {d : Bytes} : CycleKept r (Machine.emit 9 0x0507 d 0 0xFF ((disarm 14
      (if reason = 0 ∧ (releaseStop s).isNone = true then Machine.releaseFrame false s.now s else s)).modAccess (fun a => { a with
        state := if b then a.state else .cabin, authorised := false, firstSent := false }))) :=
    .emit _ _ _ _ _ ((hend.modShut (by omega)).modAccess fun _ => rfl)
  exact .ite (hover.trigger _) hover

theorem releaseFire (stamp : Nat) (h : CycleKept r s) : CycleKept r (releaseFire stamp s) := by
  unfold Machine.releaseFire
  split
  · exact h.endRelease _
  · have hsent := h.releaseFrame true stamp
    dsimp only
    split
    · exact hsent.endRelease _
    · exact hsent

theorem authorise (slot used : Nat) (h : CycleKept r s) : CycleKept r (authorise slot used s) := by
  refine .releaseFire _ (.modShut (.routed ?_ ((Routed.refl 14 _).armFirm _ _) (by omega)) (by omega))
  exact .emit _ _ _ _ _ (.emit _ _ _ _ _ (h.modAccess fun _ => rfl))

theorem setDriver (d : Option Nat) (cabs : List Nat) (h : CycleKept r s) : CycleKept r (setDriver d cabs s) := by
  have hlane (slot token : Nat) {u : State} (hu : CycleKept r u) : CycleKept r (sendToken slot token u) :=
    hu.elsewhere (by rw [sendToken_frame]) (by rw [sendToken_frame]; rfl) (by rw [sendToken_frame])
  exact .ite h (hlane _ _ (.emit _ _ _ _ _ (h.modAccess fun _ => rfl)))

theorem cabResult (c : AccCyc) (h : CycleKept r s) : CycleKept r (cabResult c s) := by
  unfold Machine.cabResult
  dsimp only
  split
  · have hdriver {d : Option Nat} {l : List Nat} : CycleKept r (Machine.setDriver d l
        (s.modAccess (fun a => { a with absent := false, cabSeen := s.now }))) := .setDriver _ _ (h.modAccess fun _ => rfl)
    split
    · split
      · exact .ite (hdriver.authorise ..) hdriver.startMissed
      · exact hdriver
    · exact hdriver
  · have habsent : CycleKept r (s.modAccess (fun a => { a with absent := true })) := h.modAccess fun _ => rfl
    exact .ite habsent.startMissed habsent

theorem locateEnd (tk : Nat) (c : AccCyc) (h : CycleKept r s) : CycleKept r (locateEnd tk c s) := by
  unfold Machine.locateEnd
  split
  · exact .ite (h.tickets (onlyTickets_completeTiles ..)) h
  · exact h

end CycleKept

/-! ### What the end of a ranging session keeps -/

/-- From `s` to `t` the access engine has taken outcomes of ranging sessions; where `p` holds, none of them a relay suspicion. -/
structure EngineKept (p : Prop) (s t : State) : Prop where
  gen : t.access.learnGen = s.access.learnGen
  suspect : p → t.access.suspect = s.access.suspect
  timer : (t.shut 15).state = (s.shut 15).state
  keys : ∀ n, (t.kslot n).ver = (s.kslot n).ver ∧ (t.kslot n).shadow = (s.kslot n).shadow

namespace EngineKept

variable {p : Prop}

theorem trans (h : EngineKept p r s) (k : EngineKept p s t) : EngineKept p r t :=
  ⟨k.gen.trans h.gen, fun hp => (k.suspect hp).trans (h.suspect hp), k.timer.trans h.timer,
    fun n => ⟨(k.keys n).1.trans (h.keys n).1, (k.keys n).2.trans (h.keys n).2⟩⟩

theorem of_kept (h : CycleKept s t) : EngineKept p s t :=
  ⟨congrArg (·.2.2.1) h.core, fun _ => congrArg (·.2.2.2) h.core, h.timer, h.keys⟩

theorem kept (h : EngineKept p r s) (k : CycleKept s t) : EngineKept p r t := h.trans (of_kept k)

theorem refl (p : Prop) (s : State) : EngineKept p s s := of_kept (.refl s)

theorem ite {c : Prop} [Decidable c] (hs : EngineKept p r s) (ht : EngineKept p r t) : EngineKept p r (if c then s else t) := by
  split <;> assumption

theorem modAccess {f : Access → Access} (h : EngineKept p r s)
    (hf : ∀ a, (f a).learnGen = a.learnGen ∧ (f a).suspect = a.suspect) : EngineKept p r (s.modAccess f) :=
  h.trans ⟨(hf _).1, fun _ => (hf _).2, rfl, fun _ => ⟨rfl, rfl⟩⟩

theorem modTok {f : TokSlot → TokSlot} (h : EngineKept p r s) : EngineKept p r (s.modTok n f) := h.modAccess fun _ => ⟨rfl, rfl⟩

theorem emit (src code m tk : Nat) (d : Bytes) (h : EngineKept p r s) : EngineKept p r (emit src code d m tk s) :=
  h.kept ((CycleKept.refl s).emit ..)

theorem tryUnlock (h : EngineKept p r s) : EngineKept p r (tryUnlock s) := h.kept (CycleKept.refl s).tryUnlock

theorem modResp (f : Resp → Resp) (h : EngineKept p r s) : EngineKept p r (modResp n f s) := h.modAccess fun _ => ⟨rfl, rfl⟩

theorem concludeResp (wide : Bool) (m : Nat) (h : EngineKept p r s) : EngineKept p r (concludeResp wide m s) := by
  unfold Machine.concludeResp
  split
  · split
    · next c _ x _ =>
      have hevent {d : Bytes} : EngineKept p r (Machine.emit 9 0x0503 d (slotNode m) 0xFF (Machine.modResp m
          (fun r => { r with done := true }) (s.modTok m (fun t => { t with zone := x.zone, range := x.ranged })))) :=
        .emit _ _ _ _ _ (.modResp _ h.modTok)
      exact .ite (.tryUnlock (.modAccess hevent fun _ => ⟨rfl, rfl⟩)) hevent
    · exact h
  · exact h

theorem finishCycle (c : AccCyc) (h : EngineKept p r s) : EngineKept p r (finishCycle c s) := by
  have hended {b : Bool} : EngineKept p r (s.modAccess (fun a => { a with
      cyc := none, heldSeen := if b then s.now else a.heldSeen, walked := a.walked && !b })) := h.modAccess fun _ => ⟨rfl, rfl⟩
  unfold Machine.finishCycle
  dsimp only
  split
  · exact hended.kept ((CycleKept.refl _).acquireResult _)
  · split
    · exact hended.kept ((CycleKept.refl _).locateEnd ..)
    · exact hended
  · exact hended.kept ((CycleKept.refl _).cabResult _)

theorem settleCycle (h : EngineKept p r s) : EngineKept p r (settleCycle s) := by
  unfold Machine.settleCycle
  split
  · exact .ite (h.finishCycle _) h
  · exact h

theorem invalidResponse (m kind token : Nat) (h : EngineKept False r s) : EngineKept False r (invalidResponse m kind token s) := by
  have hcounted {d : Bytes} {l : List Nat} : EngineKept False r (Machine.emit 9 0x0502 d (slotNode m) 0xFF
      ((s.modTok m (fun t => { t with invalid := satAdd 0xFFFF t.invalid 1 })).modAccess
        (fun a => { a with invalid := l, lastInvalid := s.now }))) :=
    .emit _ _ _ _ _ (.modAccess h.modTok fun _ => ⟨rfl, rfl⟩)
  have hsuspected {u : State} (hu : EngineKept False r u) : EngineKept False r (setSuspect true u) :=
    .kept (s := u.modAccess (fun a => { a with suspect := true, suspectSince := u.now }))
      (hu.trans ⟨rfl, False.elim, rfl, fun _ => ⟨rfl, rfl⟩⟩) ((CycleKept.refl _).asked (setSuspect_asks true u))
  exact .ite (hsuspected hcounted) hcounted

theorem takeRanging {e : Nat × Nat × Nat} (he : p → e.2.1 ≠ 2) (h : EngineKept p r s) : EngineKept p r (takeRanging e s) := by
  unfold Machine.takeRanging
  split
  · split
    · have htaken : EngineKept p r (Machine.modResp e.1 (fun r => { r with ranged := e.2.1 }) s) := h.modResp _
      refine .settleCycle (.concludeResp _ _ ?_)
      split
      · next hrelay =>
        have hfalse {u v : State} (hu : EngineKept False u v) : EngineKept p u v :=
          ⟨hu.gen, fun hp => absurd hrelay (he hp), hu.timer, hu.keys⟩
        exact htaken.trans (hfalse (.invalidResponse _ _ _ (EngineKept.refl _ _).modTok))
      · exact .ite (htaken.emit ..) (.ite (htaken.emit ..) htaken)
    · exact h
  · exact h

theorem drainRanging (he : p → ∀ e ∈ s.range.ended, e.2.1 ≠ 2) (h : EngineKept p r s) : EngineKept p r (drainRanging s) := by
  have hfold (l : List (Nat × Nat × Nat)) : ∀ {u : State}, (p → ∀ e ∈ l, e.2.1 ≠ 2) → EngineKept p r u →
      EngineKept p r (l.foldl (fun t e => Machine.takeRanging e t) u) := by
    induction l with
    | nil => exact fun _ hu => hu
    | cons e l ih =>
      exact fun hl hu => ih (fun hp x hx => hl hp x (List.mem_cons_of_mem e hx)) (hu.takeRanging fun hp => hl hp e List.mem_cons_self)
  exact hfold _ he (h.kept ⟨rfl, rfl, fun _ => ⟨rfl, rfl⟩⟩)

end EngineKept

/-! ### What starting the next ranging activity keeps -/

/-- From `s` to `t` ranging activities have started or ended without verdict: the access engine is left alone, and what waits for it
tells of no relay suspicion. -/
structure RangeRan (s t : State) : Prop where
  kept : CycleKept s t
  ended : ∃ l, t.range.ended = s.range.ended ++ l ∧ ∀ e ∈ l, e.2.1 = 0

namespace RangeRan

theorem refl (s : State) : RangeRan s s := ⟨.refl s, [], by simp⟩

theorem trans (h : RangeRan r s) (k : RangeRan s t) : RangeRan r t := by
  obtain ⟨l, hl, hl0⟩ := h.ended
  obtain ⟨m, hm, hm0⟩ := k.ended
  refine ⟨h.kept.trans k.kept, l ++ m, by rw [hm, hl, List.append_assoc], fun e he => ?_⟩
  exact (List.mem_append.mp he).elim (hl0 e) (hm0 e)

theorem ite {c : Prop} [Decidable c] (hs : RangeRan r s) (ht : RangeRan r t) : RangeRan r (if c then s else t) := by
  split <;> assumption

/-- A change that brings no outcome. -/
theorem keeps (h : RangeRan r s) (k : CycleKept s t) (he : t.range.ended = s.range.ended) : RangeRan r t :=
  h.trans ⟨k, [], by simp [he]⟩

theorem modRange {f : Range → Range} (h : RangeRan r s) (hf : ∀ g, (f g).ended = g.ended) : RangeRan r (s.modRange f) :=
  h.keeps ⟨rfl, rfl, fun _ => ⟨rfl, rfl⟩⟩ (hf _)

theorem rangeEdges (h : RangeRan r s) : RangeRan r (rangeEdges s) := by
  unfold Machine.rangeEdges
  split
  · exact h
  · next x _ =>
    dsimp only
    refine .modRange (.trans h ?_) fun _ => rfl
    generalize hu : List.foldl _ s _ = u
    have hrouted : Routed 0 s u := by
      rw [← hu]
      exact .foldl (fun _ j h => .foldl (fun _ n h => h.routedEdge ..) _ h) _ (.refl 0 s)
    exact (RangeRan.refl s).keeps ((CycleKept.refl s).routed hrouted (by omega)) (by rw [hrouted.frame])

theorem noVerdict (x : Sess) (cause : Nat) (h : RangeRan r s) : RangeRan r (noVerdict x cause s) := by
  have hclosed {y : SessRec} : RangeRan r (closeSession x y 0 cause s) := by
    refine h.rangeEdges.trans ⟨⟨rfl, rfl, fun _ => ⟨rfl, rfl⟩⟩, if x.calib then [] else [(x.slot, 0, cause)], ?_, ?_⟩
    · unfold closeSession
      cases x.calib <;> simp
    · intro e he
      split at he <;> simp_all
  exact hclosed.keeps ((CycleKept.refl _).emit ..) (by rw [Machine.noVerdict, emit_range])

theorem calibCount (v : Option Int) (h : RangeRan r s) : RangeRan r (calibCount v s) := h.modRange fun _ => rfl

/-- The end of a session without verdict, which a calibration counts (R259, R262). -/
theorem dropped (b : Bool) (x : Sess) (cause : Nat) (h : RangeRan r s) :
    RangeRan r ((if b then Machine.calibCount none else id) (Machine.noVerdict x cause s)) := by
  split
  · exact (h.noVerdict ..).calibCount _
  · exact h.noVerdict ..

theorem askQueue (consumer len : Nat) (h : RangeRan r s) : RangeRan r (askQueue consumer len s).1 := by
  refine h.keeps ?_ (by rw [askQueue_frame])
  exact (CycleKept.refl s).elsewhere (by rw [askQueue_frame]) (by rw [askQueue_frame]; rfl) (by rw [askQueue_frame])

theorem sessDrawn (b : Bytes) (h : RangeRan r s) : RangeRan r (sessDrawn b s) := by
  unfold Machine.sessDrawn
  split
  · split
    · exact h.modRange fun _ => rfl
    · exact h.dropped ..
  · exact h

theorem startSession (x : Sess) (h : RangeRan r s) : RangeRan r (startSession x s) := by
  unfold Machine.startSession
  dsimp only
  generalize (if x.calib then _ else _ : Sess) = y
  have hbegun : RangeRan r (s.modRange (fun g => { g with session := some y })) := h.modRange fun _ => rfl
  split
  · exact hbegun.dropped ..
  · have hasked := hbegun.askQueue 1 4
    split
    · exact hasked.sessDrawn _
    · exact hasked.dropped ..
    · exact hasked

theorem calibJudge (c : PortCal) (h : RangeRan r s) : RangeRan r (calibJudge c s) := by
  have hend (st : Nat) (d : Int) (k m : Nat) : RangeRan r (calibEnd st d k m s) := by
    unfold calibEnd
    split
    · have hnone : RangeRan r (s.modRange (fun g => { g with calib := none })) := h.modRange fun _ => rfl
      exact hnone.keeps (.tickets (.refl _) (onlyTickets_complete ..)) rfl
    · exact h
  exact .ite (hend ..) (.ite (hend ..) (hend ..))

theorem rangeNextN (fuel : Nat) : ∀ {s : State}, RangeRan r s → RangeRan r (rangeNextN fuel s) := by
  induction fuel with
  | zero => exact fun h => h
  | succ fuel ih =>
    intro s h
    unfold Machine.rangeNextN
    split
    · exact h
    · split
      · exact ih (.startSession _ (h.modRange fun _ => rfl))
      · split
        · split
          · exact h
          · exact .ite (ih (h.calibJudge _)) (ih (.startSession _ (h.keeps ⟨rfl, rfl, fun _ => ⟨rfl, rfl⟩⟩ rfl)))
        · exact h

end RangeRan

/-- A ranging session that an erased key ends is no relay suspicion (R261). -/
theorem dropSession_kept (s : State) : EngineKept (s.range.ended = []) s (dropSession s) := by
  unfold dropSession
  split
  · next x _ =>
    have hran : RangeRan s (rangeNext ((if x.calib then calibCount none else id) (noVerdict x 2 s))) :=
      .rangeNextN 160 ((RangeRan.refl s).dropped _ x 2)
    obtain ⟨l, hl, hzero⟩ := hran.ended
    refine .drainRanging (fun hnone e he => ?_) (.of_kept hran.kept)
    rw [hl, hnone] at he
    rw [hzero e he]
    decide
  · exact .refl _ s

end Sys2Proof.Machine
end

section
/-! SUPPORT. Learning of tokens and pairing (R195, R196, R198, R199, R348, R353, R357). -/

namespace Sys2Proof.Machine

variable {r s t : State} {n : Nat}

/-! ### Erasing and installing keys -/

/-- From `s` to `t` jobs of the cipher engine have ended and records are to be written: no key slot is touched. -/
structure JobsEnded (s t : State) : Prop where
  frame : t = { withEvents s t with
    sheet := t.sheet, stew := t.stew, store := t.store, ciph := t.ciph, grain := t.grain
    power := { s.power with domains := t.power.domains } }
  slots : t.ciph.slots = s.ciph.slots

namespace JobsEnded

theorem refl (s : State) : JobsEnded s s := ⟨rfl, rfl⟩

theorem trans (h : JobsEnded r s) (k : JobsEnded s t) : JobsEnded r t := ⟨by rw [k.frame, h.frame], k.slots.trans h.slots⟩

theorem foldl {α : Type} {f : State → α → State} (hf : ∀ s x, JobsEnded r s → JobsEnded r (f s x)) :
    ∀ (l : List α) {s : State}, JobsEnded r s → JobsEnded r (l.foldl f s)
  | [], _, h => h
  | x :: xs, _, h => JobsEnded.foldl hf xs (hf _ x h)

theorem modCiph {f : Cipher → Cipher} (h : JobsEnded r s) (hf : ∀ c, (f c).slots = c.slots) : JobsEnded r (s.modCiph f) :=
  h.trans ⟨rfl, hf _⟩

theorem modGrain {f : Grain → Grain} (h : JobsEnded r s) : JobsEnded r (s.modGrain f) := h.trans ⟨rfl, rfl⟩

theorem complete (tk st : Nat) (d : Bytes) (h : JobsEnded r s) : JobsEnded r (complete tk st d s) := h.trans ⟨rfl, rfl⟩

theorem asked (h : JobsEnded r s) (k : StoreAsked s t) : JobsEnded r t := by
  unfold StoreAsked at k
  exact h.trans ⟨by rw [k], by rw [k]⟩

theorem endJob (st c : Nat) (h : JobsEnded r s) : JobsEnded r (endJob st c s) := by
  unfold Machine.endJob
  split
  · have hleft {f : Grain → Grain} : JobsEnded r ((s.modCtx c (fun _ => none)).modGrain f) :=
      .modGrain (.modCiph (f := fun e => { e with ctx := tmod e.ctx c (fun _ => none) }) h fun _ => rfl)
    dsimp only
    split
    · exact hleft.complete ..
    · exact hleft
  · exact h

end JobsEnded

/-- A key slot without a key and without a pending write. -/
def KeySlot.erased (k : KeySlot) : KeySlot :=
  { k with ver := none, shadow := none, exhausted := false, nonceNext := 0, reserved := 0, reserving := false, landed := 0 }

/-- An erase empties its slot; what else it does touches no slot (R353, R357). -/
theorem eraseSlot_ended (n cause : Nat) (a : After) (s : State) :
    JobsEnded (s.modSlot n KeySlot.erased) (eraseSlot n cause a s).1 := by
  have hjobs : JobsEnded (s.modSlot n KeySlot.erased)
      ((slotWaiters s n).foldl (fun st t => complete t St.keyEmpty [] st)
        ((boundCtx s n).foldl (fun st c => endJob St.keyRevoked c st) (s.modSlot n KeySlot.erased))) :=
    .foldl (fun _ _ h => h.complete ..) _ (.foldl (fun _ _ h => h.endJob ..) _ (.refl _))
  refine .asked (.asked ?_ (storeAsked_emit ..)) (storeAsked_putRecord ..)
  exact .modGrain (.modCiph hjobs fun _ => rfl)

/-- The key slot holds no key and awaits none. -/
def EmptySlot (n : Nat) (s : State) : Prop := (s.kslot n).ver = none ∧ (s.kslot n).shadow = none

theorem eraseSlot_kslot (m n cause : Nat) (a : After) (s : State) :
    (eraseSlot n cause a s).1.kslot m = (s.modSlot n KeySlot.erased).kslot m := by
  unfold State.kslot
  rw [(eraseSlot_ended n cause a s).slots]

theorem eraseSlot_empties (hn : n < 64) (cause : Nat) (a : After) (s : State) : EmptySlot n (eraseSlot n cause a s).1 := by
  unfold EmptySlot
  rw [eraseSlot_kslot, kslot_modSlot_same _ hn]
  exact ⟨rfl, rfl⟩

theorem EmptySlot.eraseSlot {m : Nat} (cause : Nat) (a : After) (h : EmptySlot m s) : EmptySlot m (eraseSlot n cause a s).1 := by
  unfold EmptySlot
  rw [eraseSlot_kslot]
  exact tget_tmod_of (P := fun k : KeySlot => k.ver = none ∧ k.shadow = none) h ⟨rfl, rfl⟩

/-- An erase is of the cipher engine, its jobs, their tickets and the store. -/
theorem eraseSlot_frame (n cause : Nat) (a : After) (s : State) : (eraseSlot n cause a s).1 = { withEvents s (eraseSlot n cause a s).1 with
    sheet := (eraseSlot n cause a s).1.sheet, stew := (eraseSlot n cause a s).1.stew, store := (eraseSlot n cause a s).1.store
    ciph := (eraseSlot n cause a s).1.ciph, grain := (eraseSlot n cause a s).1.grain
    power := { s.power with domains := (eraseSlot n cause a s).1.power.domains } } :=
  (eraseSlot_ended n cause a s).frame

/-- An install goes to the shadow of its slot, and its record to the store (R348, R356). -/
theorem installKey_asks (n path : Nat) (v : KeyVer) (s : State) : ∃ g, StoreAsked
    (s.modSlot n (fun k => { k with shadow := some { ver := { v with gen := g }, path }, lastGen := g })) (installKey n path v s).1 :=
  ⟨_, storeAsked_putRecord ..⟩

theorem installKey_access (n path : Nat) (v : KeyVer) (s : State) : (installKey n path v s).1.access = s.access := by
  obtain ⟨g, hg⟩ := installKey_asks n path v s
  exact hg.access

theorem installKey_slot (path : Nat) (v : KeyVer) (s : State) (hn : n < 64) :
    ∃ g, (installKey n path v s).1.kslot n = { s.kslot n with shadow := some { ver := { v with gen := g }, path }, lastGen := g } := by
  obtain ⟨g, hg⟩ := installKey_asks n path v s
  refine ⟨g, ?_⟩
  rw [State.kslot, hg]
  exact kslot_modSlot_same _ hn

theorem installKey_other {m : Nat} (path : Nat) (v : KeyVer) (s : State) (hm : m ≠ n) :
    (installKey n path v s).1.kslot m = s.kslot m := by
  obtain ⟨g, hg⟩ := installKey_asks n path v s
  rw [State.kslot, hg]
  exact tget_tmod_other _ _ _ _ hm.symm

end Sys2Proof.Machine
end

section
/-! SUPPORT. ACCESS.LEARN_SET, the exchange of LEARN and LEARN_ACK, and ACCESS.RELEASE_PAIR (R195, R196, R198, R199). -/

namespace Sys2Proof.Machine

variable {r s t : State} {n : Nat}

/-! ### The old token set -/

theorem tok_modTok_same (f : TokSlot → TokSlot) (h : n < 16) : (s.modTok n f).tok n = f (s.tok n) := tget_tmod_same _ _ _ h

theorem tok_modTok_other (f : TokSlot → TokSlot) {m : Nat} (h : m ≠ n) : (s.modTok n f).tok m = s.tok m :=
  tget_tmod_other _ _ _ _ h.symm

/-- A slot's record asks the store (R195). -/
theorem forgetTok_asks (n : Nat) (s : State) : StoreAsked (s.modTok n (fun _ => {})) (forgetTok n s) := by
  have hstored := storeAsked_storeTok n (s.modTok n (fun _ => {}))
  unfold forgetTok
  dsimp only
  split
  · exact hstored.trans (storeAsked_emit ..)
  · exact hstored

theorem StoreAsked.tok (h : StoreAsked s t) (m : Nat) : t.tok m = s.tok m := by
  unfold State.tok
  rw [h.access]

/-- What is left of the state when tokens are forgotten: the access engine but its slots, the shutters and the key slots. -/
structure TokensForgotten (s t : State) : Prop where
  access : t.access = { s.access with slots := t.access.slots }
  time : t.time = s.time
  ciph : t.ciph = s.ciph

theorem forgetTok_forgotten (n : Nat) (s : State) : TokensForgotten s (forgetTok n s) := by
  have hasked := forgetTok_asks n s
  unfold StoreAsked at hasked
  exact ⟨by rw [hasked]; rfl, by rw [hasked]; rfl, by rw [hasked]; rfl⟩

theorem forgetTok_fold (l : List Nat) : ∀ s : State, TokensForgotten s (l.foldl (fun t n => forgetTok n t) s) ∧
    ∀ m < 16, m ∈ l ∨ s.tok m = {} → (l.foldl (fun t n => forgetTok n t) s).tok m = {} := by
  induction l with
  | nil => exact fun s => ⟨⟨rfl, rfl, rfl⟩, fun m _ h => h.resolve_left (by simp)⟩
  | cons n l ih =>
    intro s
    obtain ⟨hrest, htok⟩ := ih (forgetTok n s)
    have hone := forgetTok_forgotten n s
    refine ⟨⟨?_, hrest.time.trans hone.time, hrest.ciph.trans hone.ciph⟩, fun m hm h => htok m hm ?_⟩
    · exact hrest.access.trans (by rw [hone.access]; rfl)
    · by_cases hmn : m = n
      · subst hmn
        exact .inr (((forgetTok_asks m s).tok m).trans (tok_modTok_same _ hm))
      · refine h.imp (fun h => (List.mem_cons.mp h).resolve_left hmn) fun h => ?_
        rw [(forgetTok_asks n s).tok, tok_modTok_other _ hmn, h]

/-- What erasing token keys leaves alone. -/
structure KeysErased (s t : State) : Prop where
  access : t.access = s.access
  time : t.time = s.time
  range : t.range = s.range

theorem eraseTokenKeys (l : List Nat) : ∀ s : State,
    KeysErased s (l.foldl (fun t n => (eraseSlot (16 + n) 1 .nothing t).1) s) ∧
    ∀ m < 16, m ∈ l ∨ EmptySlot (16 + m) s → EmptySlot (16 + m) (l.foldl (fun t n => (eraseSlot (16 + n) 1 .nothing t).1) s) := by
  induction l with
  | nil => exact fun s => ⟨⟨rfl, rfl, rfl⟩, fun m _ h => h.resolve_left (by simp)⟩
  | cons n l ih =>
    intro s
    obtain ⟨hrest, hempty⟩ := ih (eraseSlot (16 + n) 1 .nothing s).1
    have hone := eraseSlot_frame (16 + n) 1 .nothing s
    refine ⟨⟨hrest.access.trans (by rw [hone]), hrest.time.trans (by rw [hone]), hrest.range.trans (by rw [hone])⟩,
      fun m hm h => hempty m hm ?_⟩
    by_cases hmn : m = n
    · subst hmn
      exact .inr (eraseSlot_empties (by omega) ..)
    · exact h.imp (fun h => (List.mem_cons.mp h).resolve_left hmn) fun h => h.eraseSlot ..

/-- The old token set is gone (R195). -/
structure Forgotten (s t : State) : Prop where
  gen : t.access.learnGen = wrapAdd 32 s.access.learnGen 1
  suspect : s.range.ended = [] → t.access.suspect = false
  slots : ∀ m < 16, t.tok m = {}
  timer : (t.shut 15).state = (s.shut 15).state
  keys : ∀ m < 16, EmptySlot (16 + m) t

theorem forgetAll_forgets (s : State) : Forgotten s (forgetAll s) := by
  obtain ⟨herased, hempty⟩ := eraseTokenKeys (List.range 16) s
  unfold forgetAll
  dsimp only
  generalize (List.range 16).foldl (fun t n => (eraseSlot (16 + n) 1 .nothing t).1) s = u at herased hempty ⊢
  have hdropped := dropSession_kept u
  generalize dropSession u = v at hdropped ⊢
  obtain ⟨htokens, hslots⟩ := forgetTok_fold (List.range 16) v
  generalize (List.range 16).foldl (fun t n => forgetTok n t) v = w at htokens hslots ⊢
  have hw (x : State) (hasked : ∃ b k, StoreAsked (w.modAccess (fun a => { a with
      learnGen := wrapAdd 32 a.learnGen 1, suspect := b, suspectSince := k })) x ∧ (s.range.ended = [] → b = false)) :
      Forgotten s x := by
    obtain ⟨b, k, hasked, hb⟩ := hasked
    have haccess := hasked.access
    have hshut : x.shut 15 = v.shut 15 := by rw [hasked, State.shut]; exact congrArg (tget ·.shutters 15) htokens.time
    have hkeys (m : Nat) : x.kslot m = v.kslot m := by rw [hasked, State.kslot]; exact congrArg (tget ·.slots m) htokens.ciph
    refine ⟨?_, fun hnone => ?_, fun m hm => ?_, ?_, fun m hm => ?_⟩
    · rw [haccess, State.modAccess_access, htokens.access, hdropped.gen, herased.access]
    · rw [haccess]
      exact hb hnone
    · exact (hasked.tok m).trans (hslots m hm (.inl (List.mem_range.mpr hm)))
    · rw [hshut, hdropped.timer, State.shut, herased.time]
      rfl
    · unfold EmptySlot
      rw [hkeys, (hdropped.keys _).1, (hdropped.keys _).2]
      exact hempty m hm (.inl (List.mem_range.mpr hm))
  split
  · exact hw _ ⟨false, 0, setSuspect_asks false (w.modAccess _), fun _ => rfl⟩
  · next hs =>
    refine hw _ ⟨w.access.suspect, w.access.suspectSince, storeAsked_storeAccess _, fun hnone => ?_⟩
    rw [htokens.access]
    refine (hdropped.suspect (by rw [herased.range, hnone])).trans ?_
    rw [herased.access]
    exact Bool.eq_false_iff.mpr hs

/-! ### The entries of ACCESS.LEARN_SET -/

/-- The learning of an entry begins (R195). -/
def Learning.begun (l : Learning) : Learning := { l with since := 0, nonce := none, lastSent := none, badMac := false }

theorem learnEntry_installs {l : Learning} {e : Nat × Bytes} (hl : s.access.learning = some l) (he : l.entries[l.at_]? = some e) :
    learnEntry s = (installKey (16 + l.at_) 3 { key := e.2, usage := 0x2C }
      (s.modAccess (fun a => { a with learning := some l.begun }))).1 := by
  unfold learnEntry
  rw [hl]
  dsimp only
  rw [he]
  rfl

theorem learnEntry_ends {l : Learning} (hl : s.access.learning = some l) (he : l.entries[l.at_]? = none) :
    learnEntry s = learnEnd St.ok s := by
  unfold learnEntry
  rw [hl]
  dsimp only
  rw [he]

/-- What is left when learning is over (R158, R159). -/
structure LearnOver (s t : State) : Prop where
  access : t.access = { s.access with learning := none, state := if s.access.state = .learn then .cabin else s.access.state }
  ciph : t.ciph = s.ciph

theorem learnOver_over (s : State) : LearnOver s (learnOver s) := by
  unfold learnOver
  dsimp only
  split
  · have hrouted {u : State} : Routed 15 u (armFirm 15 (s.now + lsbOfS (s.nat 5 9)) (lsbOfS (s.nat 5 9)) u) := (Routed.refl 15 u).armFirm ..
    exact ⟨hrouted.access, hrouted.ciph⟩
  · exact ⟨rfl, rfl⟩

theorem learnEnd_over {l : Learning} (hl : s.access.learning = some l) (st : Nat) : LearnOver s (learnEnd st s) := by
  unfold learnEnd
  rw [hl]
  dsimp only
  split
  · exact ⟨(learnOver_over s).access, (learnOver_over s).ciph⟩
  · exact learnOver_over s

theorem learnEnd_completes {l : Learning} (hl : s.access.learning = some l) (hr : (s.ticket l.ticket).state = .running) (st : Nat) :
    learnEnd st s = complete l.ticket st (learnReply s l) (learnOver s) := by
  unfold learnEnd
  rw [hl]
  exact if_pos (by simp [ticketRuns, hr])

section
variable {tk : Fin 128} {w : Work} (hs : startable tk.val 0x0505 s = some w)
include hs

theorem execLearnSet_busy (hb : accessBusy s = true) : exec (.accessLearnSet tk) s = .next (complete tk.val St.accessBusy [] s) := by
  refine next_congr ((command_start hs).trans ?_)
  rw [if_pos hb]

theorem execLearnSet_waits (hb : accessBusy s = false) (hu : unwrapReady s = false) : exec (.accessLearnSet tk) s = .next s := by
  refine next_congr ((command_start hs).trans ?_)
  rw [hb, hu]
  rfl

theorem execLearnSet_fails (hb : accessBusy s = false) (hu : unwrapReady s = true) (hn : unwrapSet s w.req.payload = none) :
    exec (.accessLearnSet tk) s = .next (complete tk.val St.keyUnwrapFail [] s) := by
  refine next_congr ((command_start hs).trans ?_)
  rw [hb, hu, hn]
  rfl

theorem execLearnSet_learns {es : List (Nat × Bytes)} (hb : accessBusy s = false) (hu : unwrapReady s = true)
    (hn : unwrapSet s w.req.payload = some es) : exec (.accessLearnSet tk) s = .next (learnEntry
      ((forgetAll (disarm 15 (start tk.val s))).modAccess (fun a => { a with
        cyc := none, start := none, state := .learn, learning := some { ticket := tk.val, entries := es } }))) := by
  refine next_congr ((command_start hs).trans ?_)
  rw [hb, hu, hn]
  rfl

end

section
variable {tk : Fin 128} {w : Work} (hs : startable tk.val 0x0506 s = some w)
include hs

theorem execReleasePair_busy (hb : accessBusy s = true) : exec (.accessReleasePair tk) s = .next (complete tk.val St.accessBusy [] s) := by
  refine next_congr ((command_start hs).trans ?_)
  rw [if_pos hb]

theorem execReleasePair_waits (hb : accessBusy s = false) (hu : unwrapReady s = false) : exec (.accessReleasePair tk) s = .next s := by
  refine next_congr ((command_start hs).trans ?_)
  rw [hb, hu]
  rfl

theorem execReleasePair_fails (hb : accessBusy s = false) (hu : unwrapReady s = true)
    (hn : unwrap16 s (u8At w.req.payload 4) (slice w.req.payload 8 24) = none) :
    exec (.accessReleasePair tk) s = .next (complete tk.val St.keyUnwrapFail [] s) := by
  refine next_congr ((command_start hs).trans ?_)
  dsimp only
  rw [hb, hu, hn]
  rfl

theorem execReleasePair_installs {k : Bytes} (hb : accessBusy s = false) (hu : unwrapReady s = true)
    (hn : unwrap16 s (u8At w.req.payload 4) (slice w.req.payload 8 24) = some k) :
    exec (.accessReleasePair tk) s = .next (installKey s.releaseSlot 4 { key := k, usage := 1 }
      (eraseSlot s.releaseSlot 2 .nothing (start tk.val s)).1).1 := by
  refine next_congr ((command_start hs).trans ?_)
  dsimp only
  rw [hb, hu, hn]
  rfl

end

/-! ### LEARN and LEARN_ACK -/

/-- What sending LEARN leaves of the learning. -/
structure LearnSent (l : Learning) (s t : State) : Prop where
  learning : ∃ nonce, t.access.learning = some { l with nonce }
  slots : t.access.slots = s.access.slots
  now : t.now = s.now

theorem LearnSent.of_frame {l : Learning} (hl : s.access.learning = some l) (ha : t.access.learning = s.access.learning)
    (hs : t.access.slots = s.access.slots) (ht : t.time = s.time) : LearnSent l s t :=
  ⟨⟨l.nonce, ha.trans hl⟩, hs, congrArg TimeBase.epoch ht⟩

theorem sendLearn_sent {l : Learning} (hl : s.access.learning = some l) (e : Nat × Bytes) (nonce : Bytes) :
    LearnSent l s (sendLearn l e nonce s) := by
  unfold sendLearn
  dsimp only
  generalize ({ us := 48000, chans := [s.nat 5 15], data := _ } : Tele) = tel
  have hrun := (accessSeq_run tel (carrierNow s) l.lfMeas (s.modAccess (fun a => { a with lfSent := [] }))).frame
  generalize accessSeq tel (carrierNow s) l.lfMeas (s.modAccess (fun a => { a with lfSent := [] })) = x at hrun
  split
  · refine .of_frame hl ?_ ?_ ?_
    · rw [skipEvent, emit_access, hrun]; rfl
    · rw [skipEvent, emit_access, hrun]; rfl
    · rw [skipEvent, emit_time, hrun]; rfl
  · have hbooked := (bookAccess_booked (s.now + lsbOfMs 48) (s.now + lsbOfMs 500)
      (x.1.modAccess (fun a => { a with learning := some { l with nonce := some nonce } }))).frame
    refine ⟨⟨some nonce, by rw [hbooked]; rfl⟩, ?_, ?_⟩
    · rw [hbooked]
      exact (congrArg (·.access.slots) hrun)
    · rw [State.now, hbooked]
      exact (congrArg (·.now) hrun)

end Sys2Proof.Machine
end

section
/-! SUPPORT. LEARN every 500 ms, LEARN_ACK, and the end of learning (R164, R170, R195, R231). -/

namespace Sys2Proof.Machine

variable {s t : State}

/-- A telegram that the open window receives takes its effect (R231). -/
theorem inWindow_open {w : AccWin} {k : State → State} (hw : s.uhf.access = some w) (hc : clearUntil w.open_ s = true)
    (hh : accessHears (reach w.open_ s) = true) : inWindow s k = k (reach w.open_ s) := by
  simp only [inWindow, hw, atDue_clear hc, hh, if_true]

/-- The learning of an entry with a LEARN asked for now. -/
def Learning.asked (l : Learning) (meas : LfMeas) (now : Nat) : Learning := { l with lastSent := some now, lfMeas := meas }

/-- LEARN goes out when its nonce is there, or its exchange is skipped (R170, R195). -/
def learnAttempt (l : Learning) (e : Nat × Bytes) (a : State × Ask) : State :=
  match a.2 with
  | .got b => sendLearn l e b a.1
  | .failed => skipEvent 0 St.entropyFail a.1
  | .waits => a.1

theorem learnAttempt_sent {l : Learning} {a : State × Ask} (hl : a.1.access.learning = some l) (e : Nat × Bytes) :
    LearnSent l a.1 (learnAttempt l e a) := by
  unfold learnAttempt
  split
  · exact sendLearn_sent hl e _
  · exact .of_frame hl (by rw [skipEvent, emit_access]) (by rw [skipEvent, emit_access]) (by rw [skipEvent, emit_time])
  · exact .of_frame hl rfl rfl rfl

section
variable {l : Learning} {e : Nat × Bytes} (hl : s.access.learning = some l) (he : l.entries[l.at_]? = some e)
  (hs : s.access.state = .learn)
include hl he hs

/-! ### LEARN -/

theorem execLearnRetry_due (meas : LfMeas) (h0 : l.since ≠ 0) (hb : lfBusy s = false)
    (hc : clearUntil ((l.lastSent.map (· + lsbOfMs 500)).getD l.since) s = true) :
    let v := reach ((l.lastSent.map (· + lsbOfMs 500)).getD l.since) s
    exec (.learnRetry meas) s = .next (if ready [7] v = false then power [7] v else learnAttempt (l.asked meas v.now) e
      (askQueue 2 8 (v.modAccess (fun a => { a with learning := some (l.asked meas v.now) })))) := by
  refine next_congr ?_
  rw [hl]
  dsimp only
  rw [he]
  dsimp only
  rw [if_neg (by simp [hs, h0, hb]), atDue_clear hc]
  rfl

/-- LEARN of the present entry goes out, waits for the queue or is skipped; the learning goes on (R170, R195). -/
theorem exec_learnRetry_ready (meas : LfMeas) (h0 : l.since ≠ 0) (hb : lfBusy s = false)
    (hc : clearUntil ((l.lastSent.map (· + lsbOfMs 500)).getD l.since) s = true)
    (hr : ready [7] (reach ((l.lastSent.map (· + lsbOfMs 500)).getD l.since) s) = true) :
    ∃ t l', exec (.learnRetry meas) s = .next t ∧ t.access.learning = some l' ∧ l'.lastSent = some t.now ∧
      t.now = (reach ((l.lastSent.map (· + lsbOfMs 500)).getD l.since) s).now ∧ l'.at_ = l.at_ ∧
      l'.entries = l.entries ∧ l'.ticket = l.ticket ∧ t.access.slots = s.access.slots := by
  have hexec := execLearnRetry_due hl he hs meas h0 hb hc
  dsimp only at hexec
  rw [if_neg (by simp [hr])] at hexec
  have hslots := congrArg Access.slots (reach_access ((l.lastSent.map (· + lsbOfMs 500)).getD l.since) (s := s))
  generalize reach ((l.lastSent.map (· + lsbOfMs 500)).getD l.since) s = v at hexec hslots ⊢
  have hasked := askQueue_frame 2 8 (v.modAccess (fun a => { a with learning := some (l.asked meas v.now) }))
  generalize askQueue 2 8 (v.modAccess (fun a => { a with learning := some (l.asked meas v.now) })) = a at hasked hexec
  have haccess : a.1.access = { v.access with learning := some (l.asked meas v.now) } := by rw [hasked]; rfl
  have hnow : a.1.now = v.now := by rw [hasked]; rfl
  obtain ⟨⟨nonce, hnonce⟩, hkept, htime⟩ := learnAttempt_sent (congrArg Access.learning haccess) e
  have htnow := htime.trans hnow
  exact ⟨_, _, hexec, hnonce, congrArg some htnow.symm, htnow, rfl, rfl, rfl, (hkept.trans (congrArg Access.slots haccess)).trans hslots⟩

/-- LEARN waits for PD7 LF (R28). -/
theorem exec_learnRetry_waits (meas : LfMeas) (h0 : l.since ≠ 0) (hb : lfBusy s = false)
    (hc : clearUntil ((l.lastSent.map (· + lsbOfMs 500)).getD l.since) s = true)
    (hr : ready [7] (reach ((l.lastSent.map (· + lsbOfMs 500)).getD l.since) s) = false) :
    ∃ t, exec (.learnRetry meas) s = .next t ∧ t.access = s.access ∧
      t.now = (reach ((l.lastSent.map (· + lsbOfMs 500)).getD l.since) s).now ∧ t.lf = s.lf := by
  have hexec := execLearnRetry_due hl he hs meas h0 hb hc
  dsimp only at hexec
  rw [if_pos hr] at hexec
  refine ⟨_, hexec, ?_, ?_, ?_⟩
  · rw [powerOn_frame]
    exact reach_access ..
  · rw [powerOn_frame]
    rfl
  · rw [powerOn_frame]
    exact reach_lf ..

end

/-! ### LEARN_ACK -/

/-- A MAC is judged only while the cipher engine works (R28, R170). -/
theorem tokenMac_ready {n : Nat} {msg mac : Bytes} {b : Bool} (h : tokenMac n msg mac s = some b) : unwrapReady s = true := by
  have hup : s.cipherUp = true := by
    by_contra hdown
    simp [tokenMac, tokKey, hdown] at h
  simp [unwrapReady, hup]

theorem checkLearnAck_badMac {tel : LearnAckTel} {l : Learning} {e : Nat × Bytes} {nonce : Bytes}
    (h : tokenMac l.at_ (learnMsg nonce tel) tel.mac s = some false) :
    checkLearnAck tel l e nonce s = s.modAccess (fun a => { a with learning := some { l with badMac := true } }) := by
  unfold checkLearnAck
  rw [if_neg (by simp [tokenMac_ready h]), h]

/-- The slot that a valid LEARN_ACK makes LEARNED (R195). -/
def ackSlot (tel : LearnAckTel) (e : Nat × Bytes) (s : State) : TokSlot :=
  { state := 1, token := e.1, s := tel.counter, seen := s.now, gen := s.access.learnGen }

/-- The slot of a valid LEARN_ACK, and the next entry (R195). -/
def ackTaken (tel : LearnAckTel) (l : Learning) (e : Nat × Bytes) (s : State) : State :=
  (slotEvent l.at_ 1 0 (storeTok l.at_ (s.modTok l.at_ (fun _ => ackSlot tel e s)))).modAccess
    (fun a => { a with learning := some { l with at_ := l.at_ + 1 } })

theorem checkLearnAck_valid {tel : LearnAckTel} {l : Learning} {e : Nat × Bytes} {nonce : Bytes}
    (h : tokenMac l.at_ (learnMsg nonce tel) tel.mac s = some true) (hc : tel.counter ≠ 0xFFFFFFFF) :
    checkLearnAck tel l e nonce s = learnEntry (ackTaken tel l e s) := by
  unfold checkLearnAck
  rw [if_neg (by simp [tokenMac_ready h]), h]
  dsimp only
  rw [if_neg hc]
  rfl

theorem ackTaken_frame (tel : LearnAckTel) (l : Learning) (e : Nat × Bytes) (s : State) :
    (ackTaken tel l e s).access = { s.access with
      slots := tmod s.access.slots l.at_ (fun _ => ackSlot tel e s), learning := some { l with at_ := l.at_ + 1 } } ∧
    (ackTaken tel l e s).sheet = s.sheet := by
  have hasked : StoreAsked (s.modTok l.at_ (fun _ => ackSlot tel e s))
      (slotEvent l.at_ 1 0 (storeTok l.at_ (s.modTok l.at_ (fun _ => ackSlot tel e s)))) :=
    (storeAsked_storeTok ..).trans (storeAsked_emit ..)
  unfold ackTaken
  generalize slotEvent l.at_ 1 0 (storeTok l.at_ (s.modTok l.at_ (fun _ => ackSlot tel e s))) = u at hasked
  have haccess := hasked.access
  have hsheet : u.sheet = s.sheet := by
    unfold StoreAsked at hasked
    rw [hasked]
    rfl
  exact ⟨by rw [State.modAccess_access, haccess]; rfl, hsheet⟩

/-- The next entry is taken on, or learning ends: no slot is touched (R195). -/
theorem learnEntry_slots {l : Learning} (hl : s.access.learning = some l) : (learnEntry s).access.slots = s.access.slots := by
  cases he : l.entries[l.at_]? with
  | some e =>
    rw [learnEntry_installs hl he, installKey_access]
    rfl
  | none => rw [learnEntry_ends hl he, (learnEnd_over hl St.ok).access]

theorem learnAnswer_some {tel : LearnAckTel} {l : Learning} {e : Nat × Bytes} {nonce : Bytes} (hl : s.access.learning = some l)
    (he : l.entries[l.at_]? = some e) (hn : l.nonce = some nonce) (hs : s.access.state = .learn) (hslot : tel.slot = l.at_)
    (htok : tel.token = e.1) : learnAnswer tel s = some (l, e, nonce) := by
  simp [learnAnswer, hl, he, hn, hs, hslot, htok]

theorem execLearnAck_heard {tel : LearnAckTel} {l : Learning} {e : Nat × Bytes} {nonce : Bytes} {w : AccWin}
    (ha : learnAnswer tel s = some (l, e, nonce)) (hw : s.uhf.access = some w) (hc : clearUntil w.open_ s = true)
    (hh : accessHears (reach w.open_ s) = true) :
    exec (.learnAck tel) s = .next (checkLearnAck tel l e nonce (reach w.open_ s)) := by
  refine next_congr ?_
  rw [ha]
  exact inWindow_open hw hc hh

/-- What a valid LEARN_ACK leaves (R195, R199). -/
theorem learnEntry_ackTaken {tel : LearnAckTel} {l : Learning} {e : Nat × Bytes} (hs : s.access.state = .learn) (hn : l.at_ < 16) :
    let t := learnEntry (ackTaken tel l e s)
    t.tok l.at_ = ackSlot tel e s ∧ (∀ k, k ≠ l.at_ → t.tok k = s.tok k) ∧
    (l.at_ + 1 < l.entries.length → ∃ l', t.access.learning = some l' ∧ l'.at_ = l.at_ + 1 ∧ l'.since = 0 ∧
      l'.entries = l.entries ∧ l'.ticket = l.ticket) ∧
    (l.entries.length ≤ l.at_ + 1 → (s.ticket l.ticket).state = .running → l.ticket < 128 →
      t.access.learning = none ∧ t.access.state = .cabin ∧ (t.ticket l.ticket).state = .completed ∧
      (t.ticket l.ticket).status = St.ok) := by
  obtain ⟨haccess, hsheet⟩ := ackTaken_frame tel l e s
  generalize ackTaken tel l e s = y at haccess hsheet
  have hl : y.access.learning = some { l with at_ := l.at_ + 1 } := by rw [haccess]
  have hslots : (learnEntry y).access.slots = tmod s.access.slots l.at_ (fun _ => ackSlot tel e s) := by
    rw [learnEntry_slots hl, haccess]
  refine ⟨?_, fun k hk => ?_, fun hmore => ?_, fun hdone hr ht => ?_⟩
  · rw [State.tok, hslots]
    exact tget_tmod_same _ _ _ hn
  · rw [State.tok, hslots]
    exact tget_tmod_other _ _ _ _ hk.symm
  · rw [learnEntry_installs hl (List.getElem?_eq_getElem hmore), installKey_access]
    exact ⟨_, rfl, rfl, rfl, rfl, rfl⟩
  · rw [learnEntry_ends hl (List.getElem?_eq_none hdone)]
    have hover := learnEnd_over hl St.ok
    refine ⟨by rw [hover.access], by rw [hover.access, haccess, hs]; rfl, ?_⟩
    have hruns : (y.ticket l.ticket).state = .running := by rw [State.ticket, hsheet]; exact hr
    rw [learnEnd_completes hl hruns St.ok]
    exact ⟨(answered_complete _ ht).completed, (answered_complete _ ht).status⟩

/-! ### The timeout -/

theorem execLearnTimeout_due {l : Learning} (hl : s.access.learning = some l) (hs : s.access.state = .learn) (h0 : l.since ≠ 0)
    (hc : clearUntil (l.since + lsbOfS (s.nat 5 16)) s = true) : exec .learnTimeout s = .next
      (learnEnd St.learnPartial (eraseSlot (16 + l.at_) 1 .nothing (reach (l.since + lsbOfS (s.nat 5 16)) s)).1) := by
  refine next_congr ?_
  rw [hl]
  dsimp only
  rw [if_neg (by simp [hs, h0]), atDue_clear hc]

/-- The timeout erases the entry's key slot and ends learning (R195). -/
theorem exec_learnTimeout {l : Learning} (hl : s.access.learning = some l) (hs : s.access.state = .learn) (h0 : l.since ≠ 0)
    (hc : clearUntil (l.since + lsbOfS (s.nat 5 16)) s = true) :
    ∃ t, exec .learnTimeout s = .next t ∧ t.access.learning = none ∧ t.access.state = .cabin ∧
      (16 + l.at_ < 64 → (t.kslot (16 + l.at_)).ver = none ∧ (t.kslot (16 + l.at_)).shadow = none) ∧
      t.access.slots = s.access.slots := by
  refine ⟨_, execLearnTimeout_due hl hs h0 hc, ?_⟩
  have haccess : (eraseSlot (16 + l.at_) 1 .nothing (reach (l.since + lsbOfS (s.nat 5 16)) s)).1.access = s.access := by
    rw [eraseSlot_frame]
    exact reach_access ..
  have hempty (h : 16 + l.at_ < 64) := eraseSlot_empties h 1 .nothing (reach (l.since + lsbOfS (s.nat 5 16)) s)
  generalize (eraseSlot (16 + l.at_) 1 .nothing (reach (l.since + lsbOfS (s.nat 5 16)) s)).1 = u at haccess hempty
  have hover := learnEnd_over (s := u) (by rw [haccess, hl]) St.learnPartial
  refine ⟨by rw [hover.access], by rw [hover.access, haccess, hs]; rfl, fun h => ?_, by rw [hover.access, haccess]⟩
  rw [State.kslot, hover.ciph]
  exact hempty h

/-- The key of an entry is on its way to its slot (R195). -/
structure EntryInstalled (l : Learning) (e : Nat × Bytes) (s t : State) : Prop where
  access : t.access = { s.access with learning := some l.begun }
  time : t.time = s.time
  key : ∃ g, (t.kslot (16 + l.at_)).shadow = some { ver := { key := e.2, usage := 0x2C, gen := g }, path := 3 }
  other : ∀ m, m ≠ 16 + l.at_ → t.kslot m = s.kslot m

theorem learnEntry_installed {l : Learning} {e : Nat × Bytes} (hl : s.access.learning = some l) (he : l.entries[l.at_]? = some e)
    (h : 16 + l.at_ < 64) : EntryInstalled l e s (learnEntry s) := by
  rw [learnEntry_installs hl he]
  generalize hx : s.modAccess _ = x
  have hxs : x.access = { s.access with learning := some l.begun } ∧ x.time = s.time ∧ ∀ m, x.kslot m = s.kslot m := by
    rw [← hx]
    exact ⟨rfl, rfl, fun _ => rfl⟩
  obtain ⟨haccess, htime, hslot⟩ := hxs
  obtain ⟨g, hg⟩ := installKey_slot 3 { key := e.2, usage := 0x2C } x h
  refine ⟨(installKey_access ..).trans haccess, ?_, ⟨g, by rw [hg]⟩, fun m hm => (installKey_other _ _ _ hm).trans (hslot m)⟩
  obtain ⟨g, hasked⟩ := installKey_asks (16 + l.at_) 3 { key := e.2, usage := 0x2C } x
  rw [hasked]
  exact htime

/-- The first entry of ACCESS.LEARN_SET is being learned, the old set gone (R195). -/
theorem exec_learnSet {tk : Fin 128} {w : Work} {e : Nat × Bytes} {es : List (Nat × Bytes)} (hw : startable tk.val 0x0505 s = some w)
    (hb : accessBusy s = false) (hu : unwrapReady s = true) (hn : unwrapSet s w.req.payload = some (e :: es)) :
    ∃ t, exec (.accessLearnSet tk) s = .next t ∧ t.access.state = .learn ∧
      t.access.learning = some { ticket := tk.val, entries := e :: es } ∧ t.access.learnGen = wrapAdd 32 s.access.learnGen 1 ∧
      (s.range.ended = [] → t.access.suspect = false) ∧ t.access.cyc = none ∧
      (∀ n : Fin 16, (t.tok n.val).state = 0 ∧ (t.tok n.val).token = 0) ∧ (t.shut 15).state = .idle ∧
      (∃ h, (t.kslot 16).shadow = some h ∧ h.path = 3 ∧ h.ver.key = e.2) ∧
      (∀ n, 17 ≤ n → n < 32 → (t.kslot n).ver = none ∧ (t.kslot n).shadow = none) := by
  refine ⟨_, execLearnSet_learns hw hb hu hn, ?_⟩
  obtain ⟨hgen, hsuspect, hslots, htimer, hkeys⟩ := forgetAll_forgets (disarm 15 (start tk.val s))
  generalize forgetAll (disarm 15 (start tk.val s)) = u at hgen hsuspect hslots htimer hkeys
  obtain ⟨haccess, htime, ⟨g, hg⟩, hother⟩ := learnEntry_installed (l := { ticket := tk.val, entries := e :: es }) (e := e)
    (s := u.modAccess (fun a => { a with
      cyc := none, start := none, state := .learn, learning := some { ticket := tk.val, entries := e :: es } })) rfl rfl (show 16 < 64 by decide)
  generalize learnEntry _ = t at haccess htime hg hother
  refine ⟨by rw [haccess]; rfl, by rw [haccess]; rfl, ?_, fun hnone => ?_, by rw [haccess]; rfl, fun n => ?_, ?_, ⟨_, hg, rfl, rfl⟩,
    fun n h17 h32 => ?_⟩
  · rw [haccess]
    exact hgen
  · rw [haccess]
    exact hsuspect hnone
  · have htok : t.tok n.val = u.tok n.val := by rw [State.tok, haccess]; rfl
    rw [htok, hslots n n.isLt]
    exact ⟨rfl, rfl⟩
  · have hshut : t.shut 15 = u.shut 15 := by rw [State.shut, htime]; rfl
    rw [hshut, htimer]
    exact congrArg Shutter.state (shut_modShut_same _ (by omega))
  · rw [hother n (show n ≠ 16 by omega)]
    have hkey := hkeys (n - 16) (by omega)
    rwa [Nat.add_sub_cancel' (by omega : 16 ≤ n)] at hkey

/-- Pairing puts the new key in the shadow of the release key's slot, which is EMPTY until it lands (R196). -/
theorem exec_releasePair {tk : Fin 128} {w : Work} {k : Bytes} (hw : startable tk.val 0x0506 s = some w)
    (hb : accessBusy s = false) (hu : unwrapReady s = true) (hn : s.releaseSlot < 64)
    (hk : unwrap16 s (u8At w.req.payload 4) (slice w.req.payload 8 24) = some k) :
    ∃ t h, exec (.accessReleasePair tk) s = .next t ∧ (t.kslot s.releaseSlot).shadow = some h ∧ h.path = 4 ∧ h.ver.key = k ∧
      h.ver.usage = 1 ∧ (t.kslot s.releaseSlot).ver = none ∧ t.access = s.access := by
  have hempty := eraseSlot_empties hn 2 .nothing (start tk.val s)
  have haccess : (eraseSlot s.releaseSlot 2 .nothing (start tk.val s)).1.access = s.access := by
    rw [eraseSlot_frame]
    rfl
  have hexec := execReleasePair_installs hw hb hu hk
  generalize (eraseSlot s.releaseSlot 2 .nothing (start tk.val s)).1 = u at hempty haccess hexec
  obtain ⟨g, hg⟩ := installKey_slot 4 { key := k, usage := 1 } u hn
  exact ⟨_, _, hexec, by rw [hg], rfl, rfl, rfl, by rw [hg]; exact hempty.1, (installKey_access ..).trans haccess⟩

/-- Settles O45: ACCESS.LEARN_SET forgets the old set and begins the first entry (`exec_learnSet`), LEARN and LEARN_ACK take the
learning on (`exec_learnRetry_ready`, `learnEntry_ackTaken`), and pairing installs the release key (`exec_releasePair`). -/
theorem learningAndPairing : Obligations.LearningAndPairing := by
  unfold Obligations.LearningAndPairing
  intro tk tel meas s w
  refine ⟨fun hw => ⟨?busy, ?waits, ?fails, ?learns⟩, fun l e hl he hs => ⟨fun h0 hb hc => ⟨?sends, ?unready⟩,
    fun nonce win x hn hslot htok hat huhf hopen hc hh => ⟨?badMac, ?valid⟩, ?timeout⟩, fun hw => ⟨?pairBusy, ?pairWaits, ?pairFails, ?pairs⟩⟩
  case busy => exact fun hb => answered_of_complete tk.isLt (execLearnSet_busy hw hb)
  case waits => exact fun hb hu => ⟨s, execLearnSet_waits hw hb hu, rfl⟩
  case fails => exact fun hb hu hn => answered_of_complete tk.isLt (execLearnSet_fails hw hb hu hn)
  case learns => exact fun e es hb hu hn => exec_learnSet hw hb hu hn
  case sends => exact exec_learnRetry_ready hl he hs meas h0 hb hc
  case unready => exact exec_learnRetry_waits hl he hs meas h0 hb hc
  case badMac =>
    intro hm
    subst hopen
    refine ⟨_, execLearnAck_heard (learnAnswer_some hl he hn hs hslot htok) huhf hc hh, ?_⟩
    rw [checkLearnAck_badMac hm, reach_frame]
    exact ⟨rfl, rfl⟩
  case valid =>
    intro hm hcount
    subst hopen
    have hstate : (reach win.open_ s).access.state = .learn := by rw [reach_access, hs]
    refine ⟨_, execLearnAck_heard (learnAnswer_some hl he hn hs hslot htok) huhf hc hh, ?_⟩
    rw [checkLearnAck_valid hm hcount]
    obtain ⟨hown, hothers, hmore, hdone⟩ := learnEntry_ackTaken (tel := tel) (l := l) (e := e) hstate hat
    have htoks (k : Nat) : (reach win.open_ s).tok k = s.tok k := by rw [State.tok, reach_access]; rfl
    have hticket : (reach win.open_ s).ticket l.ticket = s.ticket l.ticket := by rw [State.ticket, reach_sheet]; rfl
    refine ⟨hown.trans ?_, fun k hk => (hothers k hk).trans (htoks k), hmore, ?_⟩
    · rw [ackSlot, reach_access]
    · rwa [hticket] at hdone
  case timeout => exact exec_learnTimeout hl hs
  case pairBusy => exact fun hb => answered_of_complete tk.isLt (execReleasePair_busy hw hb)
  case pairWaits => exact fun hb hu => ⟨s, execReleasePair_waits hw hb hu, rfl⟩
  case pairFails => exact fun hb hu hn => answered_of_complete tk.isLt (execReleasePair_fails hw hb hu hn)
  case pairs => exact fun k hb hu hn hk => exec_releasePair hw hb hu hn hk

end Sys2Proof.Machine
end

section
/-! SUPPORT. Polls, the answer slots of a poll cycle, BUTTON telegrams and sniff windows (R159, R160, R162, R166–R168, R171,
R180–R183). -/

namespace Sys2Proof.Machine

variable {r s t : State} {n : Nat}

/-! ### Token slots -/

/-- Token slots changed one after another are changed at once. -/
theorem modToks_slots (f : Nat → TokSlot → TokSlot) (l : List Nat) : ∀ s : State,
    ∃ x, l.foldl (fun t n => t.modTok n (f n)) s = s.modAccess (fun a => { a with slots := x }) := by
  induction l with
  | nil => exact fun s => ⟨s.access.slots, rfl⟩
  | cons n l ih =>
    intro s
    obtain ⟨x, hx⟩ := ih (s.modTok n (f n))
    exact ⟨x, hx⟩

/-- What every change of a token slot keeps, all of them keep. -/
theorem modToks_keep {P : TokSlot → Prop} {f : Nat → TokSlot → TokSlot} (hf : ∀ n x, P x → P (f n x)) {m : Nat} (l : List Nat) :
    ∀ s : State, P (s.tok m) → P ((l.foldl (fun t n => t.modTok n (f n)) s).tok m) := by
  induction l with
  | nil => exact fun s h => h
  | cons n l ih => exact fun s h => ih _ (tget_tmod_of h (hf n _ h))

/-- SETTLED and the polls missed of a slot are cleared; a slot that was SETTLED says so (R181). -/
structure Unsettled (n : Nat) (s t : State) : Prop where
  frame : t = { withEvents s t with access := { s.access with slots := t.access.slots } }
  own : n < 16 → t.tok n = { s.tok n with settled := false, missed := 0 }
  other : ∀ m, m ≠ n → t.tok m = s.tok m

theorem unsettle_unsettled (n : Nat) (s : State) : Unsettled n s (unsettle n s) := by
  unfold unsettle
  split
  · have hslots : (slotEvent n (s.tok n).state 4 (s.modTok n (fun t => { t with settled := false, missed := 0 }))).access =
        (s.modTok n (fun t => { t with settled := false, missed := 0 })).access := emit_access ..
    refine ⟨?_, fun hn => ?_, fun m hm => ?_⟩
    · rw [slotEvent, emit_access, emit_frame]
      rfl
    · rw [State.tok, hslots]
      exact tok_modTok_same _ hn
    · rw [State.tok, hslots]
      exact tok_modTok_other _ hm
  · next hs =>
    refine ⟨rfl, fun hn => ?_, fun m hm => tok_modTok_other _ hm⟩
    rw [tok_modTok_same _ hn, ← Bool.eq_false_iff.mpr hs]

/-! ### Invalid responses -/

/-- An invalid response is counted in its slot and in the last 60 s, and may set SUSPECT (R183). -/
structure InvalidCounted (slot : Nat) (s t : State) : Prop where
  frame : t = { withEvents s t with store := t.store, power := { s.power with domains := t.power.domains }, access := t.access }
  access : ∃ l b k, t.access = { s.access with
    slots := tmod s.access.slots slot (fun x => { x with invalid := satAdd 0xFFFF x.invalid 1 }), invalid := l
    lastInvalid := s.now, suspect := b, suspectSince := k }

theorem Logged.calm {st code m tk : Nat} {d : Bytes} (h : Logged st code m tk d r s) (k : Calm s t) : Logged st code m tk d r t :=
  fun hl => (h hl).imp fun _ he => ⟨k.log _ he.1, he.2⟩

/-- The state in which an invalid response is counted and reported. -/
def invalidNoted (slot kind token : Nat) (s : State) : State :=
  emit 9 0x0502 (leBytes 1 slot ++ leBytes 1 kind ++ zeros 2 ++ leBytes 4 token ++
      leBytes 2 ((s.access.invalid.filter (fun t => decide (s.now < t + lsbOfS 60))).length + 1)) (slotNode slot) 0xFF
    ((s.modTok slot (fun t => { t with invalid := satAdd 0xFFFF t.invalid 1 })).modAccess (fun a => { a with
      invalid := s.access.invalid.filter (fun t => decide (s.now < t + lsbOfS 60)) ++ [s.now], lastInvalid := s.now }))

theorem invalidResponse_eq (slot kind token : Nat) (s : State) : invalidResponse slot kind token s =
    if 10 ≤ (s.access.invalid.filter (fun t => decide (s.now < t + lsbOfS 60)) ++ [s.now]).length ∧ s.access.suspect = false then
      setSuspect true (invalidNoted slot kind token s)
    else invalidNoted slot kind token s := by
  have hlength : (s.access.invalid.filter (fun t => decide (s.now < t + lsbOfS 60)) ++ [s.now]).length =
      (s.access.invalid.filter (fun t => decide (s.now < t + lsbOfS 60))).length + 1 := List.length_append
  unfold invalidNoted
  rw [← hlength]
  rfl

theorem invalidNoted_frame (slot kind token : Nat) (s : State) : invalidNoted slot kind token s =
    { withEvents s (invalidNoted slot kind token s) with access := { s.access with
        slots := tmod s.access.slots slot (fun x => { x with invalid := satAdd 0xFFFF x.invalid 1 })
        invalid := s.access.invalid.filter (fun t => decide (s.now < t + lsbOfS 60)) ++ [s.now], lastInvalid := s.now } } := by
  unfold invalidNoted
  rw [emit_frame]
  rfl

theorem invalidResponse_counted (slot kind token : Nat) (s : State) : InvalidCounted slot s (invalidResponse slot kind token s) := by
  have hnoted := invalidNoted_frame slot kind token s
  rw [invalidResponse_eq]
  generalize invalidNoted slot kind token s = u at hnoted
  split
  · have hasked := setSuspect_asks true u
    refine ⟨?_, s.access.invalid.filter (fun t => decide (s.now < t + lsbOfS 60)) ++ [s.now], true, u.now, ?_⟩
    · rw [hasked, hnoted]
      rfl
    · rw [hasked.access, State.modAccess_access, hnoted]
      rfl
  · exact ⟨by rw [hnoted], _, s.access.suspect, s.access.suspectSince, by rw [hnoted]⟩

theorem invalidResponse_logged (slot kind token : Nat) (s : State) : Logged s.now 0x0502 (slotNode slot) 0xFF
    (leBytes 1 slot ++ leBytes 1 kind ++ zeros 2 ++ leBytes 4 token ++
      leBytes 2 ((s.access.invalid.filter (fun t => decide (s.now < t + lsbOfS 60))).length + 1)) s
    (invalidResponse slot kind token s) := by
  have hnoted : Logged s.now 0x0502 (slotNode slot) 0xFF _ s (invalidNoted slot kind token s) :=
    emit_logged 9 0x0502 (slotNode slot) 0xFF _ ((s.modTok slot _).modAccess _)
  rw [invalidResponse_eq]
  split
  · exact hnoted.calm ((Calm.refl _).setSuspect true)
  · exact hnoted

theorem InvalidCounted.own {slot : Nat} (h : InvalidCounted slot s t) (hs : slot < 16) :
    (t.tok slot).invalid = satAdd 0xFFFF (s.tok slot).invalid 1 := by
  obtain ⟨l, b, k, ha⟩ := h.access
  rw [State.tok, ha]
  exact congrArg TokSlot.invalid (tget_tmod_same _ _ _ hs)

/-- An invalid response moves no counter and no slot's state (R171). -/
theorem InvalidCounted.kept {slot : Nat} (h : InvalidCounted slot s t) (m : Nat) :
    (t.tok m).s = (s.tok m).s ∧ (t.tok m).state = (s.tok m).state := by
  obtain ⟨l, b, k, ha⟩ := h.access
  rw [State.tok, ha]
  exact tget_tmod_of (P := fun x : TokSlot => x.s = (s.tok m).s ∧ x.state = (s.tok m).state) ⟨rfl, rfl⟩ ⟨rfl, rfl⟩

end Sys2Proof.Machine
end

section
/-! SUPPORT. Fires of shutter 13, ANSWER, BUTTON and sniff windows (R159, R160, R162, R166–R168, R171, R180–R183). -/

namespace Sys2Proof.Machine

variable {s t : State} {n : Nat}

/-! ### Poll cycles -/

theorem exec_parkPollStop (hs : s.access.state = .poll) (hm : s.power.mode = .parked) (hp : pollStopped s = true) :
    exec .parkPollStop s = .next (disarm 13 (s.modAccess (fun a => { a with state := .dormant }))) := by
  refine next_congr ?_
  rw [if_pos ⟨hs, hm, hp⟩]

/-- The cycle in progress once its POLL telegrams have gone out (R168). -/
def polled (ask : Nat) (s : State) : PollCyc :=
  { seq := s.access.pollSeq, mask := pollMask s ask, door := decide (ask < 4)
    sets := (pollTeles s ask (pollMask s ask)).map (·.set)
    first := s.now + lsbOfMs (32 * (pollTeles s ask (pollMask s ask)).length + 2)
    end_ := s.now + lsbOfMs (32 * (pollTeles s ask (pollMask s ask)).length + 2) +
      lsbOfMs (4 * ((setBits 16 (pollMask s ask)).foldl max 0 + 1)) }

/-- The sequences of a poll cycle (R168). -/
def pollSent (ask : Nat) (meas : List LfMeas) (s : State) : State × Option Nat :=
  accessRun true (carrierNow s) (pollTeles s ask (pollMask s ask)) meas (s.modAccess (fun a => { a with lfSent := [] }))

/-- What a poll cycle leaves that no refusal skips (R168). -/
structure Polled (ask : Nat) (meas : List LfMeas) (s t : State) : Prop where
  frame : t = { withEvents s t with lf := t.lf, free := t.free, uhf := t.uhf, access := t.access }
  access : ∃ x c, t.access = { s.access with
    slots := x, cyc := c, pollSeq := wrapAdd 16 s.access.pollSeq 1, cycles := wrapAdd 32 s.access.cycles 1
    poll := some (polled ask s), lfSent := (pollSent ask meas s).1.access.lfSent }

/-- The access window is booked for the answer slots, and the cycle is open (R168). -/
theorem runPoll_books {ask : Nat} {meas : List LfMeas} (h : (pollSent ask meas s).2 = none) :
    ∃ x, WindowBooked ((pollSent ask meas s).1.modAccess (fun a => { a with
        slots := x, pollSeq := wrapAdd 16 a.pollSeq 1, cycles := wrapAdd 32 a.cycles 1, poll := some { polled ask s with seq := a.pollSeq } }))
      (runPoll ask meas s) := by
  obtain ⟨x, hx⟩ := modToks_slots (fun _ t => { t with answered := false, heard := 0 }) (List.range 16) (pollSent ask meas s).1
  refine ⟨x, ?_⟩
  unfold runPoll
  dsimp only
  unfold pollSent at h hx ⊢
  rw [h]
  dsimp only
  rw [hx]
  exact bookAccess_booked ..

theorem runPoll_polled {ask : Nat} {meas : List LfMeas} (h : (pollSent ask meas s).2 = none) :
    Polled ask meas s (runPoll ask meas s) := by
  obtain ⟨x, hbooked, -⟩ := runPoll_books h
  have hrun : (pollSent ask meas s).1 = { withEvents s (pollSent ask meas s).1 with
      lf := (pollSent ask meas s).1.lf, free := (pollSent ask meas s).1.free, access := { s.access with
        lfSent := (pollSent ask meas s).1.access.lfSent, cyc := (pollSent ask meas s).1.access.cyc } } :=
    (accessRun_run true (carrierNow s) (pollTeles s ask (pollMask s ask)) meas (s.modAccess (fun a => { a with lfSent := [] }))).frame
  have haccess := congrArg State.access hrun
  refine ⟨?_, x, (pollSent ask meas s).1.access.cyc, ?_⟩
  · rw [hbooked]
    generalize pollSent ask meas s = y at hrun
    rw [hrun]
    rfl
  · rw [hbooked, State.modAccess_access]
    generalize (pollSent ask meas s).1 = y at haccess
    rw [haccess]
    rfl

/-- The mask of a poll on the grid (R159). -/
theorem pollMask_grid (s : State) : pollMask s 5 = maskOf ((learned s).filter (fun n => !(s.tok n).settled)) := rfl

theorem closePoll_none (h : s.access.poll = none) : closePoll s = s := by
  unfold closePoll
  rw [h]

theorem execPollCycle_fires {meas : List LfMeas} {v : State} (hr : s.stew.running = true) (hs : s.access.state = .poll)
    (hp : s.access.polls = []) (hf : firmFire 13 s = some v) (hv : v.access.poll = none)
    (hgo : ¬(v.power.mode = .parked ∧ pollStopped v = true)) : exec (.pollCycle meas) s = .next
      (if ready [7] (repace 13 (pollPeriod v) v) then runPoll 5 meas (repace 13 (pollPeriod v) v)
       else power [7] ((repace 13 (pollPeriod v) v).modAccess (fun a => { a with polls := [5] }))) := by
  refine next_congr ?_
  rw [if_neg (by simp [hr, hs]), hp]
  dsimp only
  rw [if_pos hs, hf]
  dsimp only
  rw [if_neg hgo, closePoll_none hv]

section
variable {v : State} (hs : s.access.state = .poll) (hp : s.access.polls = []) (hnone : s.access.poll = none)
  (hr : s.stew.running = true) (hf : firmFire 13 s = some v) (howed : (s.shut 13).owed = false)
  (hpre : (s.shut 13).preValid = false) (hrouting : s.time.routing = []) (hroutes : routesFrom s 14 = [])
  (hgo : ¬(v.power.mode = .parked ∧ pollStopped v = true)) (meas : List LfMeas)
include hs hp hnone hr hf howed hpre hrouting hroutes hgo

/-- A fire of shutter 13 polls under the present POLL_SEQ (R159, R168). -/
theorem exec_pollCycle_polls (h7 : ready [7] v = true) :
    let mask := maskOf ((learned s).filter (fun n => !(s.tok n).settled))
    let u := repace 13 (pollPeriod v) v
    let tel := pollTeles u 5 mask
    let sent := accessRun true (carrierNow u) tel meas (u.modAccess (fun x => { x with lfSent := [] }))
    sent.2 = none → ∃ t, exec (.pollCycle meas) s = .next t ∧ t.now = v.now ∧
      t.access.pollSeq = wrapAdd 16 s.access.pollSeq 1 ∧ t.access.cycles = wrapAdd 32 s.access.cycles 1 ∧
      t.access.lfSent = sent.1.access.lfSent ∧ (∀ x ∈ t.access.lfSent, ∃ y ∈ tel, x.2 = y.data) ∧
      (t.shut 13).fireCount = wrapAdd 32 (s.shut 13).fireCount 1 ∧
      (∃ c, t.access.poll = some c ∧ c.seq = s.access.pollSeq ∧ c.mask = mask ∧ c.door = false ∧ c.answered = [] ∧
        c.sets = tel.map (·.set) ∧ c.first = v.now + lsbOfMs (32 * tel.length + 2)) ∧
      t.conf = s.conf ∧ t.sw = s.sw ∧ t.ciph = s.ciph ∧ t.store = s.store ∧ t.lane = s.lane ∧ t.fix = s.fix := by
  intro mask u tel sent hsent
  obtain ⟨hframe, hcount, -⟩ := firmFire_alone hf howed (by omega) hpre hrouting hroutes
  have hu : TimeWorked s u := hframe.repace _
  have haccess : u.access = s.access := by rw [hu]
  have hmask : pollMask u 5 = mask := by
    rw [pollMask_grid]
    simp only [mask, learned, State.tok, haccess]
  have hready : ready [7] u = true := h7
  have hexec := execPollCycle_fires (meas := meas) hr hs hp hf (by rw [hframe]; exact hnone) hgo
  rw [if_pos hready] at hexec
  have hsame : pollSent 5 meas u = sent := by rw [pollSent, hmask]
  obtain ⟨htframe, x, c, htaccess⟩ := runPoll_polled (s := u) (ask := 5) (meas := meas) (by rw [hsame]; exact hsent)
  rw [hsame, haccess] at htaccess
  have hcycle : (polled 5 u).mask = mask ∧ (polled 5 u).sets = tel.map (·.set) ∧
      (polled 5 u).first = v.now + lsbOfMs (32 * tel.length + 2) := by
    simp only [polled, hmask]
    exact ⟨trivial, rfl, rfl⟩
  generalize runPoll 5 meas u = t at hexec htframe htaccess
  have htime : t.time = u.time := by rw [htframe]
  refine ⟨t, hexec, ?_, by rw [htaccess], by rw [htaccess], by rw [htaccess], fun y hy => ?_, ?_,
    ⟨polled 5 u, by rw [htaccess], congrArg Access.pollSeq haccess, hcycle.1, rfl, rfl, hcycle.2⟩, ?_⟩
  · rw [State.now, htime]
    rfl
  · rw [htaccess] at hy
    exact ((accessRun_run true (carrierNow u) tel meas _).sent y hy).resolve_left (by simp)
  · rw [State.shut, htime]
    exact (repace_fireCount _ v (by omega)).trans hcount
  · rw [htframe, hu]
    exact ⟨rfl, rfl, rfl, rfl, rfl, rfl⟩

/-- A poll without PD7 LF waits for it (R28). -/
theorem exec_pollCycle_waits (h7 : ready [7] v = false) :
    ∃ t, exec (.pollCycle meas) s = .next t ∧ t.access = { v.access with polls := [5] } ∧ t.lf = s.lf ∧ t.uhf = s.uhf := by
  obtain ⟨hframe, -⟩ := firmFire_alone hf howed (by omega) hpre hrouting hroutes
  have hready : ¬ready [7] (repace 13 (pollPeriod v) v) = true := fun h => absurd (h7.symm.trans h) (by decide)
  have hexec := execPollCycle_fires (meas := meas) hr hs hp hf (by rw [hframe]; exact hnone) hgo
  rw [if_neg hready, powerOn_frame] at hexec
  exact ⟨_, hexec, rfl, by rw [hframe]; rfl, by rw [hframe]; rfl⟩

end

/-! ### ANSWER -/

theorem execAnswer_heard {slot : Fin 16} {rssi : Int} {rx : AnswerRx} {c : PollCyc} {at_ : Nat} (hp : s.access.poll = some c)
    (ho : c.opens slot.val = some at_) (hl : (s.tok slot.val).state = 1) (hc : clearUntil at_ s = true)
    (hh : accessHears (reach at_ s) = true) (hn : (reach at_ s).now < at_ + lsbOfMs 4) :
    exec (.answer slot rssi rx) s = .next (answerSlot slot.val rssi rx.tel rx.meas c (reach at_ s)) := by
  refine next_congr ?_
  rw [hp]
  dsimp only
  rw [ho]
  dsimp only
  rw [if_neg (by simp [hl]), atDue_clear hc, if_pos ⟨hh, hn⟩]

theorem answerSlot_silent {rssi : Int} {meas : List LfMeas} {c : PollCyc} (h : rssi ≤ s.get 5 13) :
    answerSlot n rssi none meas c s = s := by
  unfold answerSlot
  exact if_neg (by omega)

theorem answerSlot_valid {rssi : Int} {meas : List LfMeas} {a : AnswerTel} {c : PollCyc} (ht : a.token = (s.tok n).token)
    (hs : a.slot = n) (hq : a.seq = c.seq) : answerSlot n rssi (some a) meas c s = validAnswer n a c s := by
  simp [answerSlot, ht, hs, hq]

theorem answerSlot_collides {rssi : Int} {meas : List LfMeas} {a : AnswerTel} {c : PollCyc} (ht : a.token ≠ (s.tok n).token) :
    ∃ kind, answerSlot n rssi (some a) meas c s = collision n kind a.token c meas s :=
  ⟨_, if_pos ht⟩

/-- A slot's valid ANSWER (R159, R166, R181). -/
def heardAnswer (a : AnswerTel) (c : PollCyc) (now : Nat) (x : TokSlot) : TokSlot :=
  { x with answered := true, heard := heardSets c a.flags, lowBat := a.flags.testBit 4, seen := now, missed := 0 }

/-- An ANSWER to a poll that no door asked for (R159, R166). -/
theorem validAnswer_eq {a : AnswerTel} {c : PollCyc} (hd : c.door = false) : validAnswer n a c s =
    if (s.tok n).settled = false then trigger 1 ((s.modTok n (heardAnswer a c s.now)).modAccess
      (fun x => { x with poll := some { c with answered := c.answered ++ [n] } }))
    else (s.modTok n (heardAnswer a c s.now)).modAccess (fun x => { x with poll := some { c with answered := c.answered ++ [n] } }) := by
  unfold validAnswer
  rw [hd]
  cases (s.tok n).settled <;> rfl

/-- A collision is one invalid response, and the slot is addressed again or stays unanswered (R182, R183). -/
theorem collision_counts (slot kind token : Nat) (c : PollCyc) (meas : List LfMeas) (s : State) (hs : slot < 16) :
    let t := collision slot kind token c meas s
    (t.tok slot).invalid = satAdd 0xFFFF (s.tok slot).invalid 1 ∧ t.access.lastInvalid = s.now ∧
      t.power.moving = s.power.moving ∧ t.power.mode = s.power.mode := by
  have hcounted := invalidResponse_counted slot kind token s
  have hown := hcounted.own hs
  obtain ⟨hframe, l, b, k, haccess⟩ := hcounted
  unfold collision
  dsimp only
  generalize invalidResponse slot kind token s = u at hframe haccess hown
  have hpower : u.power.moving = s.power.moving ∧ u.power.mode = s.power.mode := by rw [hframe]; exact ⟨rfl, rfl⟩
  split
  · exact ⟨hown, by rw [State.modAccess_access, haccess], hpower⟩
  · have hrun := (accessRun_run true (c.end_ + (carrierNow u - u.now)) (addressedTeles slot c.seq u) meas u).frame
    unfold readdress
    dsimp only
    generalize accessRun true (c.end_ + (carrierNow u - u.now)) (addressedTeles slot c.seq u) meas u = r at hrun
    have hrslots : r.1.access.slots = u.access.slots ∧ r.1.access.lastInvalid = u.access.lastInvalid ∧ r.1.power = u.power := by
      rw [hrun]
      exact ⟨rfl, rfl, rfl⟩
    obtain ⟨hrslots, hrlast, hrpower⟩ := hrslots
    have htok : (r.1.tok slot).invalid = satAdd 0xFFFF (s.tok slot).invalid 1 := by
      rw [State.tok, hrslots]
      exact hown
    have hlast : r.1.access.lastInvalid = s.now := by rw [hrlast, haccess]
    split
    · exact ⟨htok, hlast, by rw [State.modAccess_power, hrpower]; exact hpower⟩
    · exact ⟨htok, hlast, by rw [State.modAccess_power, State.modUhf_power, hrpower]; exact hpower⟩

/-- What a valid ANSWER leaves (R159, R166, R181). -/
theorem validAnswer_spec {a : AnswerTel} {c : PollCyc} (hn : n < 16) (hd : c.door = false) :
    let t := validAnswer n a c s
    t.access.poll = some { c with answered := c.answered ++ [n] } ∧ t.tok n = heardAnswer a c s.now (s.tok n) ∧
      (∀ k, k ≠ n → t.tok k = s.tok k) ∧ ((s.tok n).settled = true → t = { s with access := t.access }) ∧
      ((s.tok n).settled = false → s.power.mode = .parked ∨ s.power.mode = .watch → s.power.moving = none →
        t.power.moving = some { target := .approach, trigger := 1, since := s.now }) := by
  have hown : (s.modTok n (heardAnswer a c s.now)).tok n = heardAnswer a c s.now (s.tok n) := tok_modTok_same _ hn
  have hother (k : Nat) (hk : k ≠ n) : (s.modTok n (heardAnswer a c s.now)).tok k = s.tok k := tok_modTok_other _ hk
  rw [validAnswer_eq hd]
  split
  · next hs =>
    have hframe := trigger_frame 1 ((s.modTok n (heardAnswer a c s.now)).modAccess
      (fun x => { x with poll := some { c with answered := c.answered ++ [n] } }))
    refine ⟨by rw [hframe]; rfl, by rw [hframe]; exact hown, fun k hk => by rw [hframe]; exact hother k hk,
      fun h => absurd (hs.symm.trans h) (by decide), fun _ hm hno => ?_⟩
    refine trigger_moving (m := .approach) (s := (s.modTok n (heardAnswer a c s.now)).modAccess _) hno ?_
    obtain hm | hm := hm
    · simp [trigTarget, State.modTok, hm]
    · simp [trigTarget, State.modTok, hm]
  · next hs => exact ⟨rfl, hown, hother, fun _ => rfl, fun h => absurd h hs⟩

/-! ### BUTTON -/

/-- The slot of a valid BUTTON has its counter moved and is not SETTLED (R171, R181). -/
def buttonTaken (b : ButtonTel) (s : State) : State :=
  unsettle b.slot (s.modTok b.slot (fun x => { x with s := b.counter, seen := s.now }))

structure ButtonTaken (b : ButtonTel) (s t : State) : Prop where
  counter : (t.tok b.slot).s = b.counter
  seen : (t.tok b.slot).seen = s.now
  settled : (t.tok b.slot).settled = false
  other : ∀ k, k ≠ b.slot → t.tok k = s.tok k
  frame : t = { withEvents s t with access := { s.access with slots := t.access.slots } }

theorem buttonTaken_taken {b : ButtonTel} (s : State) (hn : b.slot < 16) : ButtonTaken b s (buttonTaken b s) := by
  obtain ⟨hframe, hown, hother⟩ := unsettle_unsettled b.slot (s.modTok b.slot (fun x => { x with s := b.counter, seen := s.now }))
  have hslot := hown hn
  rw [tok_modTok_same _ hn] at hslot
  unfold buttonTaken
  exact ⟨by rw [hslot], by rw [hslot], by rw [hslot], fun k hk => (hother k hk).trans (tok_modTok_other _ hk), hframe⟩

/-- In POLL and DORMANT a valid BUTTON is trigger 2 and the one answer (R159, R180). -/
theorem validButton_polling {b : ButtonTel} (h : s.access.state = .poll ∨ s.access.state = .dormant) : validButton b s =
    trigger 2 ((List.range 16).foldl (fun u m => u.modTok m (fun x => { x with answered := m == b.slot, heard := 0 })) (buttonTaken b s)) := by
  unfold validButton buttonTaken
  obtain h | h := h <;> rw [h]

/-- Elsewhere it unlocks or locks: no slot is touched (R180, R185). -/
theorem validButton_kept {b : ButtonTel} (h : s.access.state ≠ .poll ∧ s.access.state ≠ .dormant) :
    CycleKept (buttonTaken b s) (validButton b s) := by
  have hlock {u : State} : CycleKept u (lockVerdict b.slot u).1 := by
    unfold lockVerdict
    dsimp only
    have hbuilt : CycleKept u (bodyFrame 2 0xFF b.slot u).1 := (CycleKept.refl u).built ((FrameBuilt.refl u).bodyFrame ..)
    exact .ite (hbuilt.trigger _) hbuilt
  unfold validButton
  dsimp only
  split
  · next hs => exact absurd hs h.1
  · next hs => exact absurd hs h.2
  · exact .ite ((CycleKept.refl _).unlockVerdict ..)
      (.ite ((CycleKept.refl _).built ((FrameBuilt.refl _).bodyFrame ..)) (.refl _))
  · exact .ite hlock (.refl _)
  · exact .ite hlock (.refl _)
  · exact .refl _

/-- What a valid BUTTON leaves (R171, R180, R181). -/
theorem validButton_spec {b : ButtonTel} (s : State) (hn : b.slot < 16) :
    let t := validButton b s
    (t.tok b.slot).s = b.counter ∧ (t.tok b.slot).seen = s.now ∧ (t.tok b.slot).settled = false ∧
      (∀ k, k ≠ b.slot → (t.tok k).s = (s.tok k).s ∧ (t.tok k).state = (s.tok k).state) ∧
      (s.access.state ≠ .poll ∧ s.access.state ≠ .dormant → ∀ k, k ≠ b.slot → t.tok k = s.tok k) ∧
      (s.access.state = .poll ∨ s.access.state = .dormant → s.power.mode = .parked ∨ s.power.mode = .watch →
        s.power.moving = none → t.power.moving = some { target := .approach, trigger := 2, since := s.now }) := by
  obtain ⟨hcounter, hseen, hsettled, hother, hframe⟩ := buttonTaken_taken (b := b) s hn
  by_cases h : s.access.state = .poll ∨ s.access.state = .dormant
  · rw [validButton_polling h]
    generalize buttonTaken b s = u at hcounter hseen hsettled hother hframe
    obtain ⟨x, hx⟩ := modToks_slots (fun m x => { x with answered := m == b.slot, heard := 0 }) (List.range 16) u
    have hkeep (m : Nat) := modToks_keep (P := fun x : TokSlot => x.s = (u.tok m).s ∧ x.seen = (u.tok m).seen ∧
      x.settled = (u.tok m).settled ∧ x.state = (u.tok m).state) (f := fun m x => { x with answered := m == b.slot, heard := 0 })
      (fun _ _ h => h) (List.range 16) u ⟨rfl, rfl, rfl, rfl⟩
    rw [hx] at hkeep ⊢
    have htok (m : Nat) : (trigger 2 (u.modAccess (fun a => { a with slots := x }))).tok m = (u.modAccess (fun a => { a with slots := x })).tok m := by
      rw [trigger_frame]
      rfl
    have hpower : u.power = s.power := by rw [hframe]
    have hnow : u.now = s.now := by rw [hframe]; rfl
    simp only [htok]
    obtain ⟨hs, ht, hset, -⟩ := hkeep b.slot
    refine ⟨hs.trans hcounter, ht.trans hseen, hset.trans hsettled, fun k hk => ?_, fun hw => absurd h (by simp [hw]), fun _ hm hno => ?_⟩
    · obtain ⟨hs, -, -, hstate⟩ := hkeep k
      rw [hother k hk] at hs hstate
      exact ⟨hs, hstate⟩
    · have hmoves := trigger_moving (c := 2) (m := .approach) (s := u.modAccess (fun a => { a with slots := x }))
        (by rw [State.modAccess_power, hpower, hno]) (by obtain hm | hm := hm <;> simp [trigTarget, hpower, hm])
      rwa [show (u.modAccess (fun a => { a with slots := x })).now = s.now from hnow] at hmoves
  · have hw := not_or.mp h
    have hslots : (validButton b s).access.slots = (buttonTaken b s).access.slots := congrArg (·.1) (validButton_kept (b := b) hw).core
    have htok (m : Nat) : (validButton b s).tok m = (buttonTaken b s).tok m := congrArg (tget · m) hslots
    simp only [htok]
    exact ⟨hcounter, hseen, hsettled, fun k hk => by rw [hother k hk]; exact ⟨rfl, rfl⟩, fun _ => hother, fun hp => absurd hp h⟩

/-- What decides on a telegram stands in the slots, the keys and the settings (R171). -/
theorem judgeToken_congr {slot token counter : Nat} {msg mac : Bytes} {k : TimeBase} {u : Uhf} :
    judgeToken slot token counter msg mac { s with time := k, uhf := u } = judgeToken slot token counter msg mac s := rfl

theorem judgeToken_valid {slot token counter : Nat} {msg mac : Bytes} (h : judgeToken slot token counter msg mac s = .valid) :
    slot < 16 := by
  by_contra hn
  rw [judgeToken, if_pos (by omega)] at h
  cases h

theorem endSniff_frame (s : State) : endSniff s = { s with uhf := (endSniff s).uhf } := by
  unfold endSniff
  split <;> rfl

/-- A BUTTON that is heard at a state is judged there (R162, R180). -/
structure Hears (v s : State) (sniff : Bool) : Prop where
  exec : ∀ b, exec (.button b) s = .next (checkButton b (endSniff v))
  frame : v = { s with time := v.time }
  state : sniff = true ↔ s.access.state = .poll ∨ s.access.state = .dormant

theorem execButton_hears {v : State} {sniff : Bool}
    (h : sniff = true ∧ (s.access.state = .poll ∨ s.access.state = .dormant) ∧
        (∃ x : AccWin, s.uhf.access = some x ∧ clearUntil x.open_ s = true ∧ v = reach x.open_ s ∧ accessHears v = true) ∨
      sniff = false ∧ hearsButton s = true ∧ v = s) : Hears v s sniff := by
  obtain ⟨hsniff, hs, x, hx, hc, rfl, hh⟩ | ⟨hsniff, hb, rfl⟩ := h
  · refine ⟨fun b => next_congr ?_, reach_frame _ s, by simp [hsniff, hs]⟩
    rw [if_pos hs]
    exact inWindow_open hx hc hh
  · have hawake : ¬(v.access.state = .poll ∨ v.access.state = .dormant) := by
      rintro (hs | hs) <;> simp [hearsButton, hs] at hb
    refine ⟨fun b => next_congr ?_, rfl, by simp [hsniff, hawake]⟩
    rw [if_neg hawake, if_pos hb]

section
variable {v : State} {sniff : Bool} (h : Hears v s sniff) (b : ButtonTel)
include h

/-- A telegram is judged where it is heard as it would be here. -/
theorem Hears.judge {slot token counter : Nat} {msg mac : Bytes} :
    judgeToken slot token counter msg mac (endSniff v) = judgeToken slot token counter msg mac s := by
  rw [endSniff_frame, h.frame]
  exact judgeToken_congr

theorem exec_button_valid (hv : judgeToken b.slot b.token b.counter (buttonMsg b) b.mac s = .valid) :
    ∃ t, exec (.button b) s = .next t ∧ (t.tok b.slot).s = b.counter ∧ (t.tok b.slot).seen = v.now ∧
      (t.tok b.slot).settled = false ∧ (∀ k, k ≠ b.slot → (t.tok k).s = (s.tok k).s ∧ (t.tok k).state = (s.tok k).state) ∧
      (sniff = false → ∀ k, k ≠ b.slot → t.tok k = s.tok k) ∧
      (sniff = true → s.power.mode = .parked ∨ s.power.mode = .watch → s.power.moving = none →
        t.power.moving = some { target := .approach, trigger := 2, since := v.now }) := by
  have hvalid : checkButton b (endSniff v) = validButton b (endSniff v) := by
    unfold checkButton
    rw [h.judge, hv]
  have hslots (k : Nat) : (endSniff v).tok k = s.tok k := by rw [endSniff_frame, h.frame]; rfl
  have hstate : (endSniff v).access.state = s.access.state := by rw [endSniff_frame, h.frame]
  have hpower : (endSniff v).power = s.power := by rw [endSniff_frame, h.frame]
  have hnow : (endSniff v).now = v.now := by rw [endSniff_frame]; rfl
  obtain ⟨hcounter, hseen, hsettled, hother, hawake, hmoves⟩ := validButton_spec (endSniff v) (judgeToken_valid hv)
  rw [hnow] at hseen hmoves
  rw [hstate] at hawake hmoves
  rw [hpower] at hmoves
  simp only [hslots] at hother hawake
  refine ⟨_, (h.exec b).trans (congrArg Host.Outcome.next hvalid), hcounter, hseen, hsettled, hother, fun hs => hawake ?_,
    fun hs => hmoves (h.state.mp hs)⟩
  exact not_or.mp fun hp => absurd (hs.symm.trans (h.state.mpr hp)) (by decide)

theorem exec_button_invalid {k : Nat} (hv : judgeToken b.slot b.token b.counter (buttonMsg b) b.mac s = .invalid k) :
    ∃ t, exec (.button b) s = .next t ∧ t.access.lastInvalid = v.now ∧
      (b.slot < 16 → (t.tok b.slot).invalid = satAdd 0xFFFF (s.tok b.slot).invalid 1) ∧
      (∀ n, (t.tok n).s = (s.tok n).s ∧ (t.tok n).state = (s.tok n).state) ∧ t.power = { s.power with domains := t.power.domains } ∧
      Logged v.now 0x0502 (slotNode (if b.slot < 16 then b.slot else 0xFF)) 0xFF
        (leBytes 1 (if b.slot < 16 then b.slot else 0xFF) ++ leBytes 1 k ++ zeros 2 ++ leBytes 4 b.token ++
          leBytes 2 ((s.access.invalid.filter (fun t => decide (v.now < t + lsbOfS 60))).length + 1)) s t := by
  have hinvalid : checkButton b (endSniff v) = invalidResponse (if b.slot < 16 then b.slot else 0xFF) k b.token (endSniff v) := by
    unfold checkButton
    rw [h.judge, hv]
  have hslots (m : Nat) : (endSniff v).tok m = s.tok m := by rw [endSniff_frame, h.frame]; rfl
  have hpower : (endSniff v).power = s.power := by rw [endSniff_frame, h.frame]
  have haccess : (endSniff v).access = s.access := by rw [endSniff_frame, h.frame]
  have hsafe : (endSniff v).safe = s.safe := by rw [endSniff_frame, h.frame]
  have hnow : (endSniff v).now = v.now := by rw [endSniff_frame]; rfl
  have hcounted := invalidResponse_counted (if b.slot < 16 then b.slot else 0xFF) k b.token (endSniff v)
  have hlogged := invalidResponse_logged (if b.slot < 16 then b.slot else 0xFF) k b.token (endSniff v)
  generalize invalidResponse (if b.slot < 16 then b.slot else 0xFF) k b.token (endSniff v) = t at hinvalid hcounted hlogged
  refine ⟨t, (h.exec b).trans (congrArg Host.Outcome.next hinvalid), ?_, fun hn => ?_, fun m => ?_, ?_, ?_⟩
  · obtain ⟨l, c, j, ha⟩ := hcounted.access
    rw [ha, hnow]
  · rw [if_pos hn] at hcounted
    rw [hcounted.own hn, hslots]
  · rw [← hslots]
    exact hcounted.kept m
  · rw [hcounted.frame, hpower]
  · rwa [hnow, haccess, Logged, hsafe] at hlogged

theorem exec_button_waits (hv : judgeToken b.slot b.token b.counter (buttonMsg b) b.mac s = .waits) :
    ∃ t, exec (.button b) s = .next t ∧ t.access = { s.access with checks := s.access.checks ++ [.button b] } := by
  have hwaits : checkButton b (endSniff v) = awaitCheck (.button b) (endSniff v) := by
    unfold checkButton
    rw [h.judge, hv]
  have haccess : (endSniff v).access = s.access := by rw [endSniff_frame, h.frame]
  refine ⟨_, (h.exec b).trans (congrArg Host.Outcome.next hwaits), ?_⟩
  rw [awaitCheck, powerOn_frame, State.modAccess_access, haccess]

end

theorem execButton_deaf (hs : s.access.state ≠ .poll) (hd : s.access.state ≠ .dormant) (hb : hearsButton s = false) (b : ButtonTel) :
    exec (.button b) s = .next s := by
  refine next_congr ?_
  rw [if_neg (by simp [hs, hd]), hb]
  rfl

/-! ### Sniff windows -/

theorem execSniffWindow_due {w due : Nat} {preamble : Bool} (hw : s.uhf.sniffAt = some w)
    (hs : s.access.state = .poll ∨ s.access.state = .dormant)
    (hdue : w - lsbOfUs (if calValidAt w (accessFreq s) s then 73 else 225) = due) (hc : clearUntil due s = true) :
    exec (.sniffWindow preamble) s = .next
      (if (reach due s).usable 5 = true ∧ (reach due s).eave.depth ≤ 2 then openSniff preamble w (reach due s)
       else power [5] (reach due s)) := by
  refine next_congr ?_
  rw [hw]
  dsimp only
  rw [if_neg (by tauto), hdue, atDue_clear hc]

/-- The next sniff window lies a multiple of 500 ms on (R162). -/
theorem openSniff_books (preamble : Bool) (w : Nat) (s : State) :
    WindowBooked (s.modUhf (fun u => { u with sniffAt := some (w + lsbOfMs 500 * ((s.now - w) / lsbOfMs 500 + 1)) })) (openSniff preamble w s) := by
  unfold openSniff
  dsimp only
  split
  · split
    · split
      · exact .modUhf rfl
      · exact .refl _
    · exact bookAccess_booked ..
  · exact bookAccess_booked ..

theorem nextSniff_spec {w now p : Nat} (hp : 0 < p) : now < w + p * ((now - w) / p + 1) ∧ w < w + p * ((now - w) / p + 1) ∧
    (w + p * ((now - w) / p + 1) - w) % p = 0 := by
  have hdiv := Nat.div_add_mod (now - w) p
  have hmod := Nat.mod_lt (now - w) hp
  rw [Nat.add_sub_cancel_left, Nat.mul_mod_right, Nat.mul_add, Nat.mul_one]
  omega

/-- Settles O42: a fire of shutter 13 without a route polls (`exec_pollCycle_polls`), an ANSWER and a BUTTON are judged where they
are heard (`validAnswer_spec`, `collision_counts`, `validButton_spec`), and sniff windows follow their grid (`openSniff_books`). -/
theorem pollsAndButtons : Obligations.PollsAndButtons := by
  unfold Obligations.PollsAndButtons
  intro slot rssi a b meas preamble s
  refine ⟨fun hs hm hp => ?stops, fun v hr hs hp hnone hf howed hpre hrouting hroutes hgo => ⟨?polls, ?pollWaits⟩,
    fun c at_ hp ho hl hc hh hn => ⟨?silent, ?answered, ?collides⟩, fun hs hd hb => ⟨s, execButton_deaf hs hd hb b, rfl⟩,
    fun v sniff h => ⟨exec_button_valid (execButton_hears h) b, fun k => exec_button_invalid (execButton_hears h) b,
      exec_button_waits (execButton_hears h) b⟩, fun w hw hs hc => ⟨?sniffs, ?sniffWaits⟩⟩
  case stops =>
    exact ⟨_, exec_parkPollStop hs hm hp, rfl, congrArg Shutter.state (shut_modShut_same _ (by omega)), fun k hk => shut_modShut_other _ hk, rfl⟩
  case polls => exact fun h7 => exec_pollCycle_polls hs hp hnone hr hf howed hpre hrouting hroutes hgo meas h7
  case pollWaits => exact fun h7 => exec_pollCycle_waits hs hp hnone hr hf howed hpre hrouting hroutes hgo meas h7
  case silent =>
    intro hsilent
    refine ⟨_, execAnswer_heard hp ho hl hc hh hn, answerSlot_silent ?_⟩
    rw [reach_frame]
    exact hsilent
  case answered =>
    intro ht hslot hq hd
    have htok (k : Nat) : (reach at_ s).tok k = s.tok k := by rw [State.tok, reach_access]; rfl
    obtain ⟨hpoll, hown, hother, hstays, hmoves⟩ := validAnswer_spec (s := reach at_ s) (a := a) slot.isLt hd
    simp only [htok, reach_power] at hown hother hstays hmoves
    refine ⟨_, (execAnswer_heard hp ho hl hc hh hn).trans
      (congrArg Host.Outcome.next (answerSlot_valid (by rw [htok, ht]) hslot hq)), hpoll, hown, hother, fun h => ?_, hmoves⟩
    rw [hstays h, reach_frame]
  case collides =>
    intro ht
    have htok (k : Nat) : (reach at_ s).tok k = s.tok k := by rw [State.tok, reach_access]; rfl
    obtain ⟨kind, hkind⟩ := answerSlot_collides (s := reach at_ s) (n := slot.val) (rssi := rssi) (meas := meas) (c := c) (a := a)
      (by rw [htok]; exact ht)
    have hcounts := collision_counts slot.val kind a.token c meas (reach at_ s) slot.isLt
    rw [htok, reach_power] at hcounts
    exact ⟨_, (execAnswer_heard hp ho hl hc hh hn).trans (congrArg Host.Outcome.next hkind), hcounts⟩
  case sniffs =>
    intro h5 hdepth
    generalize hdue : w - lsbOfUs _ = due at hc h5 hdepth
    have hexec := execSniffWindow_due (preamble := preamble) hw hs hdue hc
    rw [if_pos ⟨h5, hdepth⟩] at hexec
    obtain ⟨hframe, hsniff⟩ := openSniff_books preamble w (reach due s)
    obtain ⟨hnow, hnext, hgrid⟩ := nextSniff_spec (w := w) (now := (reach due s).now) (p := lsbOfMs 500) (by decide)
    generalize openSniff preamble w (reach due s) = t at hexec hframe hsniff
    have htnow : t.now = (reach due s).now := by rw [hframe]; rfl
    refine ⟨t, _, hexec, htnow, hsniff, ?_, hnext, hgrid, ?_, ?_⟩
    · rw [htnow]
      exact hnow
    · rw [hframe]
      exact reach_access ..
    · rw [hframe]
      exact reach_conf ..
  case sniffWaits =>
    intro hoff
    generalize hdue : w - lsbOfUs _ = due at hc hoff
    have hexec := execSniffWindow_due (preamble := preamble) hw hs hdue hc
    have hasleep : ¬((reach due s).usable 5 = true ∧ (reach due s).eave.depth ≤ 2) := by
      rintro ⟨h5, hdepth⟩
      obtain h | h := hoff
      · exact absurd (h.symm.trans h5) (by decide)
      · omega
    rw [if_neg hasleep, powerOn_frame] at hexec
    refine ⟨_, hexec, reach_uhf .., reach_access .., ?_⟩
    rw [reach_frame]

end Sys2Proof.Machine
end

section
/-! SUPPORT. The beginning of a cycle of shutter 15 (R169, R170, R174, R378). -/

namespace Sys2Proof.Machine

variable {r s t : State} {n : Nat}

/-! ### The beginning of a cycle -/

/-- The same cycle, not judged yet. -/
structure AccCyc.Same (c d : AccCyc) : Prop where
  kind : d.kind = c.kind
  stamp : d.stamp = c.stamp
  map : d.map = c.map
  locate : d.locate = c.locate
  force : d.force = c.force
  judged : d.judged = c.judged
  resps : d.resps = c.resps

/-- From `s` to `t` a cycle has taken its course: it is open, or it has been skipped. -/
structure CycleGoes (c : AccCyc) (s t : State) : Prop where
  cycles : t.access.cycles = s.access.cycles
  due : t.access.cycleDue = s.access.cycleDue
  time : t.time = s.time
  cyc : ∀ d, t.access.cyc = some d → c.Same d

theorem startMissed_keeps (s : State) : (startMissed s).access.cyc = s.access.cyc ∧ (startMissed s).access.cycles = s.access.cycles ∧
    (startMissed s).access.cycleDue = s.access.cycleDue ∧ (startMissed s).time = s.time := by
  unfold startMissed
  split
  · split
    · rw [emit_access, emit_time]
      exact ⟨rfl, rfl, rfl, rfl⟩
    · exact ⟨rfl, rfl, rfl, rfl⟩
  · exact ⟨rfl, rfl, rfl, rfl⟩

/-- The end of a LOCATE answers its ticket alone (R199). -/
theorem locateEnd_tickets (tk : Nat) (c : AccCyc) (s : State) : OnlyTickets s (locateEnd tk c s) := by
  unfold locateEnd
  split
  · split
    · exact onlyTickets_completeTiles ..
    · rfl
  · rfl

/-- A cycle that is skipped is over (R170). -/
theorem skipCycle_goes (c d : AccCyc) (kind st : Nat) (s : State) : CycleGoes d s (skipCycle c kind st s) := by
  have hskipped : CycleGoes d s (skipEvent kind st (s.modAccess (fun a => { a with cyc := none }))) := by
    refine ⟨?_, ?_, ?_, fun d hd => ?_⟩
    · rw [skipEvent, emit_access]; rfl
    · rw [skipEvent, emit_access]; rfl
    · rw [skipEvent, emit_time]; rfl
    · rw [skipEvent, emit_access] at hd
      cases hd
  unfold skipCycle
  dsimp only
  generalize skipEvent kind st (s.modAccess (fun a => { a with cyc := none })) = u at hskipped
  split
  · obtain ⟨hcyc, hcycles, hdue, htime⟩ := startMissed_keeps u
    exact ⟨hcycles.trans hskipped.cycles, hdue.trans hskipped.due, htime.trans hskipped.time, fun d hd => hskipped.cyc d (hcyc ▸ hd)⟩
  · split
    · next tk _ =>
      have hframe : locateEnd tk { c with resps := [] } u = _ := locateEnd_tickets tk { c with resps := [] } u
      rw [hframe]
      exact ⟨hskipped.cycles, hskipped.due, hskipped.time, hskipped.cyc⟩
    · exact hskipped
  · exact hskipped

/-- CHALLENGE goes out for the open cycle, or the cycle is skipped (R169, R170). -/
theorem sendChallenge_goes {c : AccCyc} (h : s.access.cyc = some c) (ch : Bytes) : CycleGoes c s (sendChallenge ch s) := by
  unfold sendChallenge
  rw [h]
  dsimp only
  generalize hc1 : ({ c with challenge := some ch, mask := _, groups := _, due := _ } : AccCyc) = c1
  have hsame : c.Same c1 := by
    rw [← hc1]
    exact ⟨rfl, rfl, rfl, rfl, rfl, rfl, rfl⟩
  generalize hu : accessRun _ _ _ _ (s.modAccess _) = u
  obtain ⟨ts, hrun⟩ : ∃ ts, SequencesRun ts (s.modAccess (fun a => { a with cyc := some c1, lfSent := [] })) u.1 := by
    rw [← hu]
    exact ⟨_, accessRun_run ..⟩
  obtain ⟨o, ho⟩ := hrun.cycle
  have hgoes : CycleGoes c s u.1 := by
    refine ⟨by rw [hrun.frame]; rfl, by rw [hrun.frame]; rfl, by rw [hrun.frame]; rfl, fun d hd => ?_⟩
    obtain rfl : c1.without o = d := Option.some.inj (ho.symm.trans hd)
    exact ⟨hsame.kind, hsame.stamp, hsame.map, hsame.locate, hsame.force, hsame.judged, hsame.resps⟩
  split
  · next why _ =>
    have hskip := skipCycle_goes c1 c 2 (refusalStatus why) u.1
    exact ⟨hskip.cycles.trans hgoes.cycles, hskip.due.trans hgoes.due, hskip.time.trans hgoes.time, hskip.cyc⟩
  · split
    · exact hgoes
    · rw [(bookAccess_booked _ _ u.1).frame]
      exact ⟨hgoes.cycles, hgoes.due, hgoes.time, hgoes.cyc⟩

/-- The cycle that a fire begins (R169). -/
def begunCycle (kind : CycKind) (stamp : Nat) (meas : List LfMeas) (s : State) : AccCyc :=
  { kind, stamp, map := zoneMap s, lfMeas := meas
    locate := if kind = .locate then s.access.locate.map (·.1) else none
    force := kind == .locate && ((s.access.locate.map (·.2.2)).getD false) }

/-- What the beginning of a cycle leaves (R169, R170). -/
structure CycleBegun (kind : CycKind) (c : AccCyc) (s t : State) : Prop where
  cycles : t.access.cycles = wrapAdd 32 s.access.cycles 1
  due : t.access.cycleDue = s.access.cycleDue
  time : t.time = s.time
  cyc : ∀ d, t.access.cyc = some d → c.Same d
  locate : kind = .locate → t.access.locate = none

/-- A cycle opens, and the array is asked for when its ranging flag stands (R169, R174). -/
def cycleOpened (kind : CycKind) (c : AccCyc) (s : State) : State :=
  let s1 := s.modAccess (fun a => { a with cyc := some c, cycles := wrapAdd 32 a.cycles 1 })
  if rangeFlag s (zoneMap s) kind c.force then power [6] s1 else s1

/-- CHALLENGE of the open cycle is asked of the grain queue (R170, R378). -/
def challengeAsked (c : AccCyc) (s : State) : State :=
  match (askQueue 2 8 s).2 with
  | .got b => sendChallenge b (askQueue 2 8 s).1
  | .failed => skipCycle c 0 St.entropyFail (askQueue 2 8 s).1
  | .waits => (askQueue 2 8 s).1

theorem cycleOpened_keeps (kind : CycKind) (c : AccCyc) (s : State) : (cycleOpened kind c s).time = s.time ∧
    (cycleOpened kind c s).access = { s.access with cyc := some c, cycles := wrapAdd 32 s.access.cycles 1 } := by
  unfold cycleOpened
  dsimp only
  split
  · rw [powerOn_frame]
    exact ⟨rfl, rfl⟩
  · exact ⟨rfl, rfl⟩

theorem beginCycle_eq (kind : CycKind) (stamp : Nat) (meas : List LfMeas) (s : State) : beginCycle kind stamp meas s =
    let c := begunCycle kind stamp meas s
    let t := challengeAsked c (cycleOpened kind c s)
    if kind = .locate then t.modAccess (fun a => { a with locate := none }) else t := rfl

/-- CHALLENGE of the grain queue goes out, or the cycle waits for it or is skipped (R170, R378). -/
theorem askChallenge_goes {c : AccCyc} (h : s.access.cyc = some c) : CycleGoes c s (challengeAsked c s) := by
  have hframe := askQueue_frame 2 8 s
  unfold challengeAsked
  generalize askQueue 2 8 s = a at hframe ⊢
  have haccess : a.1.access = s.access := by rw [hframe]
  have htime : a.1.time = s.time := by rw [hframe]
  have hgoes {t : State} (hgo : CycleGoes c a.1 t) : CycleGoes c s t :=
    ⟨haccess ▸ hgo.cycles, haccess ▸ hgo.due, htime ▸ hgo.time, hgo.cyc⟩
  cases a.2 with
  | got b => exact hgoes (sendChallenge_goes (haccess ▸ h) b)
  | failed => exact hgoes (skipCycle_goes c c 0 St.entropyFail a.1)
  | waits =>
    refine hgoes ⟨rfl, rfl, rfl, fun d hd => ?_⟩
    obtain rfl : c = d := Option.some.inj ((haccess ▸ h).symm.trans hd)
    exact ⟨rfl, rfl, rfl, rfl, rfl, rfl, rfl⟩

theorem beginCycle_begun (kind : CycKind) (stamp : Nat) (meas : List LfMeas) (s : State) :
    CycleBegun kind (begunCycle kind stamp meas s) s (beginCycle kind stamp meas s) := by
  rw [beginCycle_eq]
  generalize begunCycle kind stamp meas s = c
  dsimp only
  obtain ⟨htime, haccess⟩ := cycleOpened_keeps kind c s
  generalize cycleOpened kind c s = u at haccess htime ⊢
  have hgo := askChallenge_goes (c := c) (s := u) (by rw [haccess])
  generalize challengeAsked c u = t at hgo ⊢
  have hcycles : t.access.cycles = wrapAdd 32 s.access.cycles 1 := hgo.cycles.trans (by rw [haccess])
  have hdue : t.access.cycleDue = s.access.cycleDue := hgo.due.trans (by rw [haccess])
  split
  · exact ⟨hcycles, hdue, hgo.time.trans htime, hgo.cyc, fun _ => rfl⟩
  · next hkind => exact ⟨hcycles, hdue, hgo.time.trans htime, hgo.cyc, fun h => absurd h hkind⟩

end Sys2Proof.Machine
end

section
/-! SUPPORT. The fires of shutter 15, ACCESS.LOCATE and RESPONSE telegrams (R159, R169–R172, R175, R199). -/

namespace Sys2Proof.Machine

variable {r s t : State} {n : Nat}

/-! ### Fires of shutter 15 -/

theorem routed_fireNow (s : State) : Routed 15 s (fireNow s) :=
  .runRoutes _ ((Routed.modShut (.refl 15 s) (.inr rfl)).raiseRoute ..)

/-- The cycle that stands is what the fire of shutter 15 began (R169). -/
theorem gridCycle_begun (stamp : Nat) (meas : List LfMeas) (s : State) :
    (gridCycle stamp meas s).access.cycleDue = none ∧
    (gridCycle stamp meas s).access.cycles = wrapAdd 32 s.access.cycles 1 ∧ (gridCycle stamp meas s).time = s.time ∧
    ∀ c, (gridCycle stamp meas s).access.cyc = some c →
      c.kind = (if s.access.state = .acquire then .acquire else .cab) ∧ c.stamp = stamp ∧ c.map = zoneMap s ∧
      c.judged = false ∧ c.resps = [] := by
  have hbegun := beginCycle_begun (if s.access.state = .acquire then .acquire else .cab) stamp meas
    (s.modAccess (fun a => { a with cycleDue := none }))
  rw [← gridCycle] at hbegun
  refine ⟨hbegun.due, hbegun.cycles, hbegun.time, fun c hc => ?_⟩
  have hsame := hbegun.cyc c hc
  exact ⟨hsame.kind, hsame.stamp, hsame.map, hsame.judged, hsame.resps⟩

/-- The period of shutter 15 (R159, R160). -/
def cyclePeriod (s : State) : Nat := if s.access.state = .acquire then lsbOfMs (s.nat 5 1) else lsbOfS (s.nat 5 9)

section
variable (hr : s.stew.running = true) (hcyc : s.access.cyc = none)
  (hst : s.access.state = .acquire ∨ s.access.state = .cabin ∨ s.access.state = .release)
include hr hcyc hst

theorem cycle_mayRun : ¬(s.stew.running = false ∨ s.access.cyc.isSome ∨
    (s.access.state ≠ .acquire ∧ s.access.state ≠ .cabin ∧ s.access.state ≠ .release)) := by
  rw [hr, hcyc]
  rintro (h | h | ⟨ha, hb, hc⟩)
  · cases h
  · cases h
  · exact hst.elim ha fun h => h.elim hb hc

theorem execAccessCycle_locate {l : Nat × List Nat × Bool} (meas : List LfMeas) (hl : s.access.locate = some l) :
    exec (.accessCycle meas) s = .next (cycleNow .locate meas s) := by
  refine next_congr ?_
  rw [if_neg (cycle_mayRun hr hcyc hst), if_pos (by rw [hl]; rfl)]

variable (hl : s.access.locate = none) (hstart : s.access.start = none)
include hl hstart

theorem execAccessCycle_due {f : Nat} (meas : List LfMeas) (hd : s.access.cycleDue = some f) :
    exec (.accessCycle meas) s = .next (if lfBusy s then s else if ready [7] s then gridCycle f meas s else power [7] s) := by
  refine next_congr ?_
  rw [if_neg (cycle_mayRun hr hcyc hst), if_neg (by simp [hl]), if_neg (by simp [hstart]), hd]

theorem execAccessCycle_fires {v : State} (meas : List LfMeas) (hd : s.access.cycleDue = none) (hf : firmFire 15 s = some v) :
    exec (.accessCycle meas) s = .next
      (if ready [7] (repace 15 (cyclePeriod s) v) then gridCycle v.now meas (repace 15 (cyclePeriod s) v)
       else power [7] ((repace 15 (cyclePeriod s) v).modAccess (fun a => { a with cycleDue := some v.now }))) := by
  refine next_congr ?_
  rw [if_neg (cycle_mayRun hr hcyc hst), if_neg (by simp [hl]), if_neg (by simp [hstart]), hd, hf]
  rfl

section
variable {v : State} (meas : List LfMeas) (hd : s.access.cycleDue = none) (hf : firmFire 15 s = some v)
  (howed : (s.shut 15).owed = false) (hpre : (s.shut 15).preValid = false) (hrouting : s.time.routing = [])
  (hroutes : routesFrom s 16 = [])
include hd hf howed hpre hrouting hroutes

/-- A fire of shutter 15 begins an acquire cycle in ACQUIRE and a cab cycle otherwise (R159, R176). -/
theorem exec_accessCycle_begins (h7 : ready [7] v = true) :
    ∃ t, exec (.accessCycle meas) s = .next t ∧ t.access.cycles = wrapAdd 32 s.access.cycles 1 ∧
      t.now = v.now ∧ (t.shut 15).fireCount = wrapAdd 32 (s.shut 15).fireCount 1 ∧
      (∀ c, t.access.cyc = some c → c.kind = (if s.access.state = .acquire then .acquire else .cab) ∧ c.stamp = v.now ∧
        c.map = zoneMap s ∧ c.judged = false ∧ c.resps = []) := by
  obtain ⟨hframe, hcount, -⟩ := firmFire_alone hf howed (by omega) hpre hrouting hroutes
  have hexec := execAccessCycle_fires hr hcyc hst hl hstart meas hd hf
  rw [if_pos (show ready [7] (repace 15 (cyclePeriod s) v) = true from h7)] at hexec
  have hu : TimeWorked s (repace 15 (cyclePeriod s) v) := hframe.repace _
  have hpaced : ((repace 15 (cyclePeriod s) v).shut 15).fireCount = wrapAdd 32 (s.shut 15).fireCount 1 :=
    (repace_fireCount _ v (by omega)).trans hcount
  have hnow := repace_now (n := 15) (cyclePeriod s) v
  generalize repace 15 (cyclePeriod s) v = u at hexec hu hpaced hnow
  have haccess : u.access = s.access := by rw [hu]
  have hmap : zoneMap u = zoneMap s := by rw [hu]; rfl
  obtain ⟨-, hcycles, htime, hopen⟩ := gridCycle_begun v.now meas u
  rw [haccess, hmap] at hopen
  exact ⟨_, hexec, hcycles.trans (by rw [haccess]), by rw [State.now, htime]; exact hnow, by rw [State.shut, htime]; exact hpaced, hopen⟩

/-- A cycle without PD7 LF waits for it (R28). -/
theorem exec_accessCycle_waits (h7 : ready [7] v = false) : ∃ t, exec (.accessCycle meas) s = .next t ∧
    t.access = { v.access with cycleDue := some v.now } ∧ t.lf = s.lf := by
  obtain ⟨hframe, -⟩ := firmFire_alone hf howed (by omega) hpre hrouting hroutes
  have hexec := execAccessCycle_fires hr hcyc hst hl hstart meas hd hf
  have hready : ¬ready [7] (repace 15 (cyclePeriod s) v) = true := fun h => absurd (h7.symm.trans h) (by decide)
  rw [if_neg hready, powerOn_frame] at hexec
  exact ⟨_, hexec, rfl, by rw [hframe]; rfl⟩

end

/-- The cycle that waited for PD7 LF begins (R28, R169). -/
theorem exec_accessCycle_late {f : Nat} (meas : List LfMeas) (hd : s.access.cycleDue = some f) (hb : lfBusy s = false)
    (h7 : ready [7] s = true) : ∃ t, exec (.accessCycle meas) s = .next t ∧ t.access.cycleDue = none ∧
      t.access.cycles = wrapAdd 32 s.access.cycles 1 ∧ t.now = s.now ∧
      (∀ c, t.access.cyc = some c → c.stamp = f ∧ c.judged = false ∧ c.resps = []) := by
  have hexec := execAccessCycle_due hr hcyc hst hl hstart meas hd
  rw [if_neg (by simp [hb]), if_pos h7] at hexec
  obtain ⟨hdue, hcycles, htime, hopen⟩ := gridCycle_begun f meas s
  refine ⟨_, hexec, hdue, hcycles, by rw [State.now, htime]; rfl, fun c hc => ?_⟩
  obtain ⟨-, hstamp, -, hjudged, hresps⟩ := hopen c hc
  exact ⟨hstamp, hjudged, hresps⟩

end

/-- The cycle of ACCESS.LOCATE goes first (R199). -/
theorem exec_accessCycle_locates {l : Nat × List Nat × Bool} (meas : List LfMeas) (hr : s.stew.running = true)
    (hcyc : s.access.cyc = none) (hst : s.access.state = .acquire ∨ s.access.state = .cabin ∨ s.access.state = .release)
    (hl : s.access.locate = some l) (hb : lfBusy s = false) (h7 : ready [7] s = true) :
    ∃ t, exec (.accessCycle meas) s = .next t ∧ t.access.locate = none ∧ t.access.cycles = wrapAdd 32 s.access.cycles 1 ∧
      (∀ c, t.access.cyc = some c → c.kind = .locate ∧ c.stamp = s.now ∧ c.locate = some l.1 ∧ c.force = l.2.2) := by
  have hexec := execAccessCycle_locate hr hcyc hst meas hl
  rw [cycleNow, if_neg (by simp [hb]), if_pos h7] at hexec
  have haccess := (routed_fireNow s).access
  generalize fireNow s = u at hexec haccess
  have hbegun := beginCycle_begun .locate s.now meas u
  refine ⟨_, hexec, hbegun.locate rfl, hbegun.cycles.trans (by rw [haccess]), fun c hc => ?_⟩
  have hsame := hbegun.cyc c hc
  refine ⟨hsame.kind, hsame.stamp, hsame.locate.trans ?_, hsame.force.trans ?_⟩
  · simp [begunCycle, haccess, hl]
  · simp [begunCycle, haccess, hl]

/-! ### ACCESS.LOCATE -/

/-- ACCESS.LOCATE beside learning or another LOCATE is refused (R199). -/
theorem exec_accessLocate_busy {tk : Fin 128} {w : Work} (hw : startable tk.val 0x0503 s = some w)
    (h : s.access.learning ≠ none ∨ s.access.locate ≠ none) : ∃ t, exec (.accessLocate tk) s = .next t ∧
      TilesAnswered tk.val w.walk (w.walkTileNodes.map (fun n => { node := n, status := St.accessBusy })) s t := by
  refine ⟨_, next_congr ((command_start hw).trans (if_pos ?_)), tilesAnswered_completeTiles _ _ s tk.isLt⟩
  simp only [Bool.or_eq_true, Option.isSome_iff_ne_none]
  exact .inl h

/-- ACCESS.LOCATE waits for its cycle (R199). -/
theorem exec_accessLocate_taken {tk : Fin 128} {w : Work} (hw : startable tk.val 0x0503 s = some w)
    (hlearn : s.access.learning = none) (hl : s.access.locate = none) (hcyc : s.access.cyc = none) :
    ∃ t, exec (.accessLocate tk) s = .next t ∧ (t.ticket tk.val).state = .running ∧
      t.access = { s.access with locate := some (tk.val, w.walkTileNodes.map (· - 0x50), u8At w.req.payload 0 % 2 == 1) } ∧
      t = { s with sheet := t.sheet, access := t.access } := by
  refine ⟨_, next_congr ((command_start hw).trans (if_neg ?_)), start_ticket tk.isLt s, rfl, rfl⟩
  simp [hlearn, hl, hcyc]

/-! ### RESPONSE -/

/-- A telegram's token is declared exhausted: its slot is RELEARN (R172). -/
theorem exhausted_relearns (hn : n < 16) : (exhausted n s).access.cyc = s.access.cyc ∧
    (exhausted n s).tok n = { s.tok n with state := 2 } ∧ ∀ k, k ≠ n → (exhausted n s).tok k = s.tok k := by
  have hasked : StoreAsked (s.modTok n (fun t => { t with state := 2 })) (exhausted n s) :=
    (storeAsked_storeTok ..).trans (storeAsked_emit ..)
  exact ⟨by rw [hasked.access]; rfl, (hasked.tok n).trans (tok_modTok_same _ hn),
    fun k hk => (hasked.tok k).trans (tok_modTok_other _ hk)⟩

/-- A silent step joins the baseline alone (R175). -/
theorem addSilent_keeps (m : Nat) (s : State) : (addSilent m s).access = { s.access with silent := (addSilent m s).access.silent } := by
  unfold addSilent
  dsimp only
  split
  · rw [emit_access]
    rfl
  · rfl

/-- A slot whose RESPONSE was valid (R171). -/
def respondedTok (tel : ResponseTel) (now : Nat) (x : TokSlot) : TokSlot :=
  { x with s := tel.counter, seen := now, lowBat := tel.flags.testBit 4, answered := true }

/-- A valid RESPONSE and its silent step, before it joins the cycle (R171, R175). -/
def responseTaken (tel : ResponseTel) (s : State) : State :=
  if 3 ≤ tel.meas.length then addSilent (stepMagnitude tel.meas 0) (s.modTok tel.slot (respondedTok tel s.now))
  else s.modTok tel.slot (respondedTok tel s.now)

theorem responseTaken_access (tel : ResponseTel) (s : State) : ∃ l, (responseTaken tel s).access =
    { s.access with slots := tmod s.access.slots tel.slot (respondedTok tel s.now), silent := l } := by
  unfold responseTaken
  split
  · exact ⟨_, addSilent_keeps ..⟩
  · exact ⟨_, rfl⟩

theorem validResponse_eq (tel : ResponseTel) (c : AccCyc) (s : State) : validResponse tel c s =
    if c.mask.testBit tel.slot ∧ c.resps.all (fun r => r.slot != tel.slot) = true then
      (responseTaken tel s).modAccess (fun a => { a with cyc := some { c with
        resps := c.resps ++ [{ slot := tel.slot, counter := tel.counter, meas := tel.meas }] } })
    else responseTaken tel s := rfl

/-- A valid RESPONSE moves the slot's counter and joins the cycle once (R171). -/
theorem validResponse_spec {tel : ResponseTel} {c : AccCyc} (hn : tel.slot < 16) (hc : s.access.cyc = some c) :
    (validResponse tel c s).tok tel.slot = respondedTok tel s.now (s.tok tel.slot) ∧
    (∀ k, k ≠ tel.slot → (validResponse tel c s).tok k = s.tok k) ∧
    (c.mask.testBit tel.slot = true → c.resps.all (fun r => r.slot != tel.slot) = true →
      (validResponse tel c s).access.cyc = some { c with
        resps := c.resps ++ [{ slot := tel.slot, counter := tel.counter, meas := tel.meas }] }) ∧
    (c.mask.testBit tel.slot = false ∨ c.resps.any (fun r => r.slot == tel.slot) = true →
      (validResponse tel c s).access.cyc = some c) := by
  obtain ⟨l, haccess⟩ := responseTaken_access tel s
  have hslots : (validResponse tel c s).access.slots = tmod s.access.slots tel.slot (respondedTok tel s.now) := by
    rw [validResponse_eq]
    split
    · exact congrArg Access.slots haccess
    · exact congrArg Access.slots haccess
  refine ⟨?_, fun k hk => ?_, fun hm ha => ?_, fun h => ?_⟩
  · rw [State.tok, hslots]
    exact tget_tmod_same _ _ _ hn
  · rw [State.tok, hslots]
    exact tget_tmod_other _ _ _ _ hk.symm
  · rw [validResponse_eq, if_pos ⟨hm, ha⟩]
    rfl
  · rw [validResponse_eq, if_neg ?_, haccess]
    · exact hc
    · rintro ⟨hm, ha⟩
      obtain hout | hin := h
      · rw [hout] at hm
        cases hm
      · obtain ⟨x, hx, he⟩ := List.any_eq_true.mp hin
        have hne := List.all_eq_true.mp ha x hx
        rw [bne, he] at hne
        cases hne

section
variable {tel : ResponseTel} {c : AccCyc} {ch : Bytes} {win : AccWin} (hc : s.access.cyc = some c)
  (hch : c.challenge = some ch) (hj : c.judged = false) (hwin : s.uhf.access = some win)
  (hclear : clearUntil win.open_ s = true) (hh : accessHears (reach win.open_ s) = true)
include hc hch hj hwin hclear hh

theorem execResponseTelegram_heard : exec (.responseTelegram tel) s = .next (checkResponse tel c ch (reach win.open_ s)) := by
  refine next_congr ?_
  rw [hc]
  dsimp only
  rw [hch]
  dsimp only
  rw [if_neg (by simp [hj]), inWindow_open hwin hclear hh]

theorem exec_response_exhausted (hf : tel.flags % 2 = 1) (hn : tel.slot < 16) (hs : (s.tok tel.slot).state = 1)
    (ht : (s.tok tel.slot).token = tel.token) : ∃ t, exec (.responseTelegram tel) s = .next t ∧
      t.tok tel.slot = { s.tok tel.slot with state := 2 } ∧ (∀ k, k ≠ tel.slot → t.tok k = s.tok k) ∧ t.access.cyc = some c := by
  have hexec := execResponseTelegram_heard (tel := tel) hc hch hj hwin hclear hh
  have htok (k : Nat) : (reach win.open_ s).tok k = s.tok k := by rw [State.tok, reach_access]; rfl
  have haccess : (reach win.open_ s).access = s.access := reach_access ..
  generalize reach win.open_ s = u at hexec htok haccess
  obtain ⟨hcyc, hown, hother⟩ := exhausted_relearns (s := u) hn
  rw [checkResponse, if_pos hf, if_neg (by omega), if_neg (by simp [htok, hs]), if_neg (by simp [htok, ht])] at hexec
  exact ⟨_, hexec, by rw [hown, htok], fun k hk => by rw [hother k hk, htok], by rw [hcyc, haccess]; exact hc⟩

variable (hf : tel.flags % 2 = 0)
include hf

theorem exec_response_valid
    (hv : judgeToken tel.slot tel.token tel.counter (responseMsg ch c.stamp tel) tel.mac (reach win.open_ s) = .valid) :
    ∃ t, exec (.responseTelegram tel) s = .next t ∧
      t.tok tel.slot = { s.tok tel.slot with
        s := tel.counter, seen := (reach win.open_ s).now, lowBat := tel.flags.testBit 4, answered := true } ∧
      (∀ k, k ≠ tel.slot → t.tok k = s.tok k) ∧
      (c.mask.testBit tel.slot = true → c.resps.all (fun r => r.slot != tel.slot) = true →
        t.access.cyc = some { c with
          resps := c.resps ++ [{ slot := tel.slot, counter := tel.counter, meas := tel.meas }] }) ∧
      (c.mask.testBit tel.slot = false ∨ c.resps.any (fun r => r.slot == tel.slot) = true → t.access.cyc = some c) := by
  have hexec := execResponseTelegram_heard (tel := tel) hc hch hj hwin hclear hh
  have hcheck : checkResponse tel c ch (reach win.open_ s) = validResponse tel c (reach win.open_ s) := by
    rw [checkResponse, if_neg (by omega), hv]
  have htok (k : Nat) : (reach win.open_ s).tok k = s.tok k := by rw [State.tok, reach_access]; rfl
  obtain ⟨hown, hother, hjoins, hstays⟩ := validResponse_spec (s := reach win.open_ s) (c := c)
    (judgeToken_valid hv) (by rw [reach_access]; exact hc)
  simp only [htok] at hown hother
  exact ⟨_, hexec.trans (congrArg Host.Outcome.next hcheck), hown, hother, hjoins, hstays⟩

/-- A RESPONSE without the cipher engine waits for it (R28). -/
theorem exec_response_waits
    (hv : judgeToken tel.slot tel.token tel.counter (responseMsg ch c.stamp tel) tel.mac (reach win.open_ s) = .waits) :
    ∃ t, exec (.responseTelegram tel) s = .next t ∧
      t.access = { s.access with checks := s.access.checks ++ [.response tel] } := by
  have hexec := execResponseTelegram_heard (tel := tel) hc hch hj hwin hclear hh
  have hcheck : checkResponse tel c ch (reach win.open_ s) = awaitCheck (.response tel) (reach win.open_ s) := by
    rw [checkResponse, if_neg (by omega), hv]
  refine ⟨_, hexec.trans (congrArg Host.Outcome.next hcheck), ?_⟩
  rw [awaitCheck, powerOn_frame]
  rw [reach_frame]
  rfl

/-- An invalid RESPONSE is counted and moves no counter (R171, R183). -/
theorem exec_response_invalid {k : Nat}
    (hv : judgeToken tel.slot tel.token tel.counter (responseMsg ch c.stamp tel) tel.mac (reach win.open_ s) = .invalid k) :
    ∃ t, exec (.responseTelegram tel) s = .next t ∧ t.access.cyc = some c ∧
      (tel.slot < 16 → (t.tok tel.slot).invalid = satAdd 0xFFFF (s.tok tel.slot).invalid 1) ∧
      (∀ n, (t.tok n).s = (s.tok n).s) := by
  have hexec := execResponseTelegram_heard (tel := tel) hc hch hj hwin hclear hh
  have hcheck : checkResponse tel c ch (reach win.open_ s) =
      invalidResponse (if tel.slot < 16 then tel.slot else 0xFF) k tel.token (reach win.open_ s) := by
    rw [checkResponse, if_neg (by omega), hv]
  have htok (k : Nat) : (reach win.open_ s).tok k = s.tok k := by rw [State.tok, reach_access]; rfl
  have hcounted := invalidResponse_counted (if tel.slot < 16 then tel.slot else 0xFF) k tel.token (reach win.open_ s)
  generalize invalidResponse (if tel.slot < 16 then tel.slot else 0xFF) k tel.token (reach win.open_ s) = t at hcheck hcounted
  refine ⟨t, hexec.trans (congrArg Host.Outcome.next hcheck), ?_, fun hn => ?_, fun m => ?_⟩
  · obtain ⟨l, b, j, ha⟩ := hcounted.access
    rw [ha, reach_access]
    exact hc
  · rw [if_pos hn] at hcounted
    rw [hcounted.own hn, htok]
  · rw [(hcounted.kept m).1, htok]

end

end Sys2Proof.Machine
end

section
/-! The verdicts of a cycle and ACCESS.APPROACH_MAX (R159, R175, R176, R181, R184). -/

namespace Sys2Proof.Machine

variable {r s t : State} {n : Nat}

/-! ### The end of a cycle -/

/-- The state in which a cycle is over and its result is still to come (R181, R185). -/
def cycleOver (c : AccCyc) (s : State) : State :=
  let held := c.resps.any (fun r => r.passes && zoneFlags c.map r.zone % 4 != 0)
  s.modAccess (fun a => { a with cyc := none, heldSeen := if held then s.now else a.heldSeen, walked := a.walked && !held })

/-- The result of a cycle that is over (R159, R181, R199). -/
def cycleResult (c : AccCyc) (s : State) : State :=
  match c.kind with
  | .acquire => acquireResult c s
  | .locate => match c.locate with
    | some tk => locateEnd tk c s
    | none => s
  | _ => cabResult c s

theorem finishCycle_eq (c : AccCyc) (s : State) : finishCycle c s = cycleResult c (cycleOver c s) := rfl

theorem cycleResult_kept (c : AccCyc) (s : State) : CycleKept s (cycleResult c s) := by
  unfold cycleResult
  split
  · exact (CycleKept.refl s).acquireResult c
  · split
    · exact (CycleKept.refl s).locateEnd ..
    · exact .refl s
  · exact (CycleKept.refl s).cabResult c

theorem finishCycle_cyc (c : AccCyc) (s : State) : (finishCycle c s).access.cyc = none := by
  rw [finishCycle_eq]
  exact congrArg (·.2.1) (cycleResult_kept c (cycleOver c s)).core

theorem finishCycle_tok (c : AccCyc) (s : State) (n : Nat) : (finishCycle c s).tok n = s.tok n := by
  rw [finishCycle_eq]
  exact congrArg (tget · n) (congrArg (·.1) (cycleResult_kept c (cycleOver c s)).core)

/-- With no cycle open, the outcomes of ranging sessions are let go. -/
theorem drainRanging_idle (h : s.access.cyc = none) : drainRanging s = s.modRange (fun r => { r with ended := [] }) := by
  have hfold (l : List (Nat × Nat × Nat)) (u : State) (hu : u.access.cyc = none) :
      l.foldl (fun t e => takeRanging e t) u = u := by
    induction l with
    | nil => rfl
    | cons e l ih =>
      have hskip : takeRanging e u = u := by
        unfold takeRanging
        rw [hu]
      rw [List.foldl_cons, hskip, ih]
  exact hfold _ _ h

theorem settleCycle_over {c : AccCyc} (h : s.access.cyc = some c) (hj : c.judged = true)
    (hd : c.resps.all (·.done) = true) : settleCycle s = finishCycle c s := by
  unfold settleCycle
  rw [h]
  exact if_pos (by rw [hj, hd]; rfl)

/-- A cycle whose responses all have their verdict is over (R181). -/
theorem verdict_over {c : AccCyc} (h : s.access.cyc = some c) (hj : c.judged = true) (hd : c.resps.all (·.done) = true) :
    drainRanging (settleCycle s) = (finishCycle c s).modRange (fun r => { r with ended := [] }) := by
  rw [settleCycle_over h hj hd]
  exact drainRanging_idle (finishCycle_cyc c s)

/-! ### Verdicts -/

/-- The state in which the verdicts of a cycle are formed. -/
def cycleJudged (c : AccCyc) (s : State) : State := s.modAccess (fun a => { a with cyc := some { c with judged := true } })

section
variable {c : AccCyc} (hc : s.access.cyc = some c) (hj : c.judged = false) (hch : c.challenge ≠ none)
  (hclear : clearUntil c.due s = true)
include hc hj hch hclear

theorem execCycleVerdict_judges : exec .cycleVerdict s = .next (drainRanging (settleCycle
    ((c.resps.mergeSort (fun a b => decide (a.slot ≤ b.slot))).foldl
      (judgeResp c (!baselineReady (reach c.due s)) (mapMargin c.map + (if !baselineReady (reach c.due s) then 12 else 0))
        (baseline c.map (reach c.due s))) (cycleJudged c (reach c.due s))))) := by
  refine next_congr ?_
  rw [hc]
  dsimp only
  rw [if_neg (by simp [hj, hch]), atDue_clear hclear]
  rfl

/-- A cycle without responses is over at its verdict (R181). -/
theorem execCycleVerdict_unanswered (hr : c.resps = []) : exec .cycleVerdict s = .next
    ((finishCycle { c with judged := true } (cycleJudged c (reach c.due s))).modRange (fun r => { r with ended := [] })) := by
  have hlist : c.resps.mergeSort (fun a b => decide (a.slot ≤ b.slot)) = [] := by rw [hr, List.mergeSort_nil]
  rw [execCycleVerdict_judges hc hj hch hclear, hlist, List.foldl_nil,
    verdict_over (c := { c with judged := true }) rfl rfl (by rw [hr]; rfl)]

end

/-- APPROACH is left for the mode it was entered from (R115). -/
theorem trigTarget_lost (h : s.power.mode = .approach) : trigTarget 8 s = some (if s.power.fromParked then .parked else .watch) := by
  simp only [trigTarget, h]

/-- An acquire cycle without a valid RESPONSE is lost; ACCESS.LOST_CYCLES of them are trigger 8 (R159). -/
theorem acquireResult_lost {c : AccCyc} (hr : c.resps = []) :
    (acquireResult c s).access.lostCycles = s.access.lostCycles + 1 ∧
    (s.access.lostCycles + 1 < s.nat 5 2 → (acquireResult c s).power = s.power) ∧
    (s.nat 5 2 ≤ s.access.lostCycles + 1 → s.power.mode = .approach → s.power.moving = none →
      (acquireResult c s).power.moving =
        some { target := if s.power.fromParked then .parked else .watch, trigger := 8, since := s.now }) := by
  rw [acquireResult, if_pos (by rw [hr]; rfl)]
  dsimp only
  split
  · next hmany =>
    refine ⟨by rw [trigger_frame]; rfl, fun h => by omega, fun _ hm hnone => ?_⟩
    exact trigger_moving hnone (trigTarget_lost (s := s.modAccess (fun a => { a with lostCycles := a.lostCycles + 1 })) hm)
  · next hfew => exact ⟨rfl, fun _ => rfl, fun h => absurd h hfew⟩

/-- No token in the cab (R184, R187). -/
theorem cabResult_absent {c : AccCyc} (hr : c.resps = []) (hk : c.kind = .cab) :
    cabResult c s = s.modAccess (fun a => { a with absent := true }) := by
  unfold cabResult
  rw [hr, hk]
  simp only [List.filter_nil, List.map_nil, List.mergeSort_nil]
  rfl

section
variable {c : AccCyc} (hc : s.access.cyc = some c) (hj : c.judged = false) (hch : c.challenge ≠ none)
  (hclear : clearUntil c.due s = true)
include hc hj hch hclear

theorem exec_cycleVerdict_lost (hr : c.resps = []) (hk : c.kind = .acquire) : ∃ t, exec .cycleVerdict s = .next t ∧
    t.access.cyc = none ∧ t.access.lostCycles = s.access.lostCycles + 1 ∧
    (s.access.lostCycles + 1 < s.nat 5 2 → t.power = s.power) ∧
    (s.nat 5 2 ≤ s.access.lostCycles + 1 → s.power.mode = .approach → s.power.moving = none →
      t.power.moving = some { target := if s.power.fromParked then .parked else .watch, trigger := 8, since := (reach c.due s).now }) := by
  have hexec := execCycleVerdict_unanswered hc hj hch hclear hr
  have hframe := reach_frame c.due s
  generalize reach c.due s = v at hexec hframe ⊢
  have hover := finishCycle_cyc { c with judged := true } (cycleJudged c v)
  have hresult : finishCycle { c with judged := true } (cycleJudged c v) =
      acquireResult { c with judged := true } (cycleOver { c with judged := true } (cycleJudged c v)) := by
    rw [finishCycle_eq, cycleResult]
    dsimp only
    rw [hk]
  rw [hresult] at hexec hover
  obtain ⟨hlost, hfew, hmany⟩ := acquireResult_lost (c := { c with judged := true })
    (s := cycleOver { c with judged := true } (cycleJudged c v)) hr
  have hopen : (cycleOver { c with judged := true } (cycleJudged c v)).access.lostCycles = s.access.lostCycles ∧
      (cycleOver { c with judged := true } (cycleJudged c v)).power = s.power ∧
      (cycleOver { c with judged := true } (cycleJudged c v)).nat 5 2 = s.nat 5 2 ∧
      (cycleOver { c with judged := true } (cycleJudged c v)).now = v.now := by
    rw [hframe]
    exact ⟨rfl, rfl, rfl, rfl⟩
  obtain ⟨hcount, hpower, hnat, hnow⟩ := hopen
  rw [hcount, hnat, hpower] at hfew
  rw [hcount, hnat, hpower, hnow] at hmany
  exact ⟨_, hexec, hover, hlost.trans (by rw [hcount]), hfew, hmany⟩

/-- A cab cycle without responses says that no token is in the cab, and leaves the driver (R184). -/
theorem exec_cycleVerdict_absent (hr : c.resps = []) (hk : c.kind = .cab) : ∃ t, exec .cycleVerdict s = .next t ∧
    t.access.cyc = none ∧ t.access.absent = true ∧ t.access.driver = s.access.driver ∧
    t = { s with time := t.time, access := t.access, range := t.range } := by
  have hexec := execCycleVerdict_unanswered hc hj hch hclear hr
  have hframe := reach_frame c.due s
  generalize reach c.due s = v at hexec hframe
  have hresult : finishCycle { c with judged := true } (cycleJudged c v) =
      cabResult { c with judged := true } (cycleOver { c with judged := true } (cycleJudged c v)) := by
    rw [finishCycle_eq, cycleResult]
    dsimp only
    rw [hk]
  rw [hresult, cabResult_absent (c := { c with judged := true }) hr hk] at hexec
  refine ⟨_, hexec, rfl, rfl, ?_, ?_⟩
  · rw [hframe]
    rfl
  · rw [hframe]
    rfl

end

/-! ### A response without ranging -/

/-- A response without ranging is done once its slot has its zone and event 0x0503 is written (R175, R176). -/
theorem concludeResp_spec {c : AccCyc} {x : Resp} (wide : Bool) (hc : s.access.cyc = some c) (hx : c.resps = [x]) (hn : x.slot < 16) :
    (concludeResp wide x.slot s).access.cyc = some { c with resps := [{ x with done := true }] } ∧
    ((concludeResp wide x.slot s).tok x.slot).zone = x.zone ∧ ((concludeResp wide x.slot s).tok x.slot).range = x.ranged ∧
    Logged s.now 0x0503 (slotNode x.slot) 0xFF (leBytes 1 x.slot ++ leBytes 1 x.zone ++ leBytes 1 x.ranged ++
      leBytes 1 (b1 wide + b1 (c.kind == .start) 1) ++ leBytes 4 x.counter) s (concludeResp wide x.slot s) := by
  have hfound : c.resps.find? (fun r => r.slot == x.slot) = some x := by simp [hx]
  unfold concludeResp
  rw [hc]
  dsimp only
  rw [hfound]
  dsimp only
  generalize hu : modResp x.slot _ (s.modTok x.slot _) = u
  have hcyc : u.access.cyc = some { c with resps := [{ x with done := true }] } := by
    rw [← hu]
    simp [modResp, State.modAccess, State.modTok, hc, hx]
  have htok : (u.tok x.slot).zone = x.zone ∧ (u.tok x.slot).range = x.ranged := by
    have hown : u.tok x.slot = { s.tok x.slot with zone := x.zone, range := x.ranged } := by
      rw [← hu]
      exact tok_modTok_same (s := s) _ hn
    rw [hown]
    exact ⟨rfl, rfl⟩
  have hlogged {d : Bytes} : Logged s.now 0x0503 (slotNode x.slot) 0xFF d s (emit 9 0x0503 d (slotNode x.slot) 0xFF u) := by
    rw [← hu]
    exact emit_logged 9 0x0503 (slotNode x.slot) 0xFF d (modResp x.slot _ (s.modTok x.slot _))
  have hspec {d : Bytes} {t : State} (hk : CycleKept u t) (hl : Logged s.now 0x0503 (slotNode x.slot) 0xFF d s t) :
      t.access.cyc = some { c with resps := [{ x with done := true }] } ∧ (t.tok x.slot).zone = x.zone ∧
      (t.tok x.slot).range = x.ranged ∧ Logged s.now 0x0503 (slotNode x.slot) 0xFF d s t := by
    have hslots : t.tok x.slot = u.tok x.slot := congrArg (tget · x.slot) (congrArg (·.1) hk.core)
    rw [hslots]
    exact ⟨(congrArg (·.2.1) hk.core).trans hcyc, htok.1, htok.2, hl⟩
  split
  · exact hspec (.tryUnlock (.modAccess (.emit _ _ _ _ _ (.refl u)) fun _ => rfl))
      (hlogged.calm (.tryUnlock (.modAccess (.refl _))))
  · exact hspec (.emit _ _ _ _ _ (.refl u)) hlogged

section
variable {c : AccCyc} (hc : s.access.cyc = some c) (hj : c.judged = false) (hch : c.challenge ≠ none)
  (hclear : clearUntil c.due s = true)
include hc hj hch hclear

/-- A response without ranging gets its zone and event 0x0503 (R175, R176). -/
theorem exec_cycleVerdict_zone {x : Resp} (hx : c.resps = [x]) (hn : x.slot < 16) :
    let v := reach c.due s
    let z := zoneVerdict c.map (mapMargin c.map + (if baselineReady v = true then 0 else 12)) (baseline c.map v) (notDriven c x.slot) x.meas
    needsRanging v c z = false → ∃ t, exec .cycleVerdict s = .next t ∧ t.access.cyc = none ∧
      (t.tok x.slot).zone = z ∧ (t.tok x.slot).range = x.ranged ∧
      Logged v.now 0x0503 (slotNode x.slot) 0xFF (leBytes 1 x.slot ++ leBytes 1 z ++ leBytes 1 x.ranged ++
        leBytes 1 (b1 (!baselineReady v) + b1 (c.kind == .start) 1) ++ leBytes 4 x.counter) s t := by
  intro v z hneeds
  have hexec := execCycleVerdict_judges hc hj hch hclear
  have hmargin : mapMargin c.map + (if !baselineReady v then 12 else 0) = mapMargin c.map + (if baselineReady v = true then 0 else 12) := by
    cases baselineReady v <;> rfl
  rw [show reach c.due s = v from rfl, hmargin, hx, List.mergeSort_singleton] at hexec
  have hjudge : judgeResp c (!baselineReady v) (mapMargin c.map + (if baselineReady v = true then 0 else 12)) (baseline c.map v)
      (cycleJudged c v) x = concludeResp (!baselineReady v) x.slot
        (modResp x.slot (fun r => { r with zone := z, needs := false }) (cycleJudged c v)) := by
    have hcalm : needsRanging (cycleJudged c v) c (zoneVerdict c.map
      (mapMargin c.map + (if baselineReady v = true then 0 else 12)) (baseline c.map v) (notDriven c x.slot) x.meas) = false := hneeds
    unfold judgeResp
    dsimp only
    rw [hcalm]
    rfl
  rw [List.foldl_cons, List.foldl_nil, hjudge] at hexec
  generalize hu : modResp x.slot (fun r => { r with zone := z, needs := false }) (cycleJudged c v) = u at hexec
  have hcyc : u.access.cyc = some { c with judged := true, resps := [{ x with zone := z, needs := false }] } := by
    rw [← hu]
    simp [modResp, cycleJudged, State.modAccess, hx]
  have hsafe : u.safe = s.safe := by
    rw [← hu]
    exact reach_safe ..
  have hnow : u.now = v.now := by
    rw [← hu]
    rfl
  obtain ⟨hdone, hzone, hrange, hlogged⟩ := concludeResp_spec (x := { x with zone := z, needs := false }) (!baselineReady v) hcyc rfl hn
  dsimp only at hdone hzone hrange hlogged
  rw [hnow] at hlogged
  generalize concludeResp (!baselineReady v) x.slot u = t at hexec hdone hzone hrange hlogged
  have hlogged' : Logged v.now 0x0503 (slotNode x.slot) 0xFF (leBytes 1 x.slot ++ leBytes 1 z ++ leBytes 1 x.ranged ++
      leBytes 1 (b1 (!baselineReady v) + b1 (c.kind == .start) 1) ++ leBytes 4 x.counter) s t := by
    unfold Logged at hlogged ⊢
    rw [← hsafe]
    exact hlogged
  have hcalm : Calm t (drainRanging (settleCycle t)) := .drainRanging (.settleCycle (.refl t))
  have hover := verdict_over hdone rfl rfl
  refine ⟨_, hexec, ?_, ?_, ?_, hlogged'.calm hcalm⟩
  · rw [hover]
    exact finishCycle_cyc ..
  · rw [hover, ← hzone]
    exact congrArg TokSlot.zone (finishCycle_tok ..)
  · rw [hover, ← hrange]
    exact congrArg TokSlot.range (finishCycle_tok ..)

end

/-! ### ACCESS.APPROACH_MAX -/

/-- A slot that answered settles at ACCESS.APPROACH_MAX (R159, R167). -/
def settledTok (x : TokSlot) : TokSlot := { x with settled := true, missed := 0 }

/-- One slot settles, and says so. -/
def settleSlot (s : State) (n : Nat) : State := slotEvent n (s.tok n).state 3 (s.modTok n settledTok)

theorem settleSlot_frame (s : State) (n : Nat) : settleSlot s n = { withEvents s (settleSlot s n) with access := (s.modTok n settledTok).access } := by
  rw [settleSlot, slotEvent]
  exact emit_frame ..

/-- The slots of a list settle, and no other slot, shutter or trigger is touched. -/
theorem settleSlots_spec (l : List Nat) : ∀ s : State,
    (l.foldl settleSlot s).power = s.power ∧ (l.foldl settleSlot s).time = s.time ∧
    ∀ m, m < 16 → (l.foldl settleSlot s).tok m = if m ∈ l then settledTok (s.tok m) else s.tok m := by
  induction l with
  | nil => exact fun s => ⟨rfl, rfl, fun m _ => rfl⟩
  | cons n l ih =>
    intro s
    obtain ⟨hpower, htime, htok⟩ := ih (settleSlot s n)
    have hframe := settleSlot_frame s n
    have hslot (m : Nat) : (settleSlot s n).tok m = (s.modTok n settledTok).tok m := by
      rw [hframe]
      rfl
    refine ⟨hpower.trans (by rw [hframe]), htime.trans (by rw [hframe]), fun m hm => (htok m hm).trans ?_⟩
    rw [hslot]
    by_cases h : m = n
    · subst h
      rw [tok_modTok_same _ hm, if_pos List.mem_cons_self]
      exact ite_self (settledTok (s.tok m))
    · rw [tok_modTok_other _ h]
      simp only [List.mem_cons, h, false_or]

/-- Token slots that have answered. -/
def answeredSlots (s : State) : List Nat := (List.range 16).filter (fun n => (s.tok n).answered)

theorem mem_answeredSlots (n : Fin 16) : n.val ∈ answeredSlots s ↔ (s.tok n.val).answered = true := by
  simp [answeredSlots, n.isLt]

theorem execApproachMaxExpire_settles (hs : s.access.state = .acquire)
    (hc : clearUntil (s.access.approachAt + lsbOfS (s.nat 5 3)) s = true) : exec .approachMaxExpire s = .next
      (trigger 8 ((answeredSlots (reach (s.access.approachAt + lsbOfS (s.nat 5 3)) s)).foldl settleSlot
        (reach (s.access.approachAt + lsbOfS (s.nat 5 3)) s))) := by
  refine next_congr ?_
  rw [if_pos hs, atDue_clear hc]
  rfl

/-- ACCESS.APPROACH_MAX settles the slots that answered and is trigger 8 (R159). -/
theorem exec_approachMax (hs : s.access.state = .acquire) (hm : s.power.mode = .approach) (hnone : s.power.moving = none)
    (hc : clearUntil (s.access.approachAt + lsbOfS (s.nat 5 3)) s = true) : ∃ t, exec .approachMaxExpire s = .next t ∧
      t.now = (reach (s.access.approachAt + lsbOfS (s.nat 5 3)) s).now ∧
      t.power.moving = some { target := if s.power.fromParked then .parked else .watch, trigger := 8, since := t.now } ∧
      (∀ n : Fin 16, (s.tok n.val).answered = true → (t.tok n.val).settled = true ∧ (t.tok n.val).missed = 0) ∧
      (∀ n : Fin 16, (s.tok n.val).answered = false → t.tok n.val = s.tok n.val) := by
  have hexec := execApproachMaxExpire_settles hs hc
  have hframe := reach_frame (s.access.approachAt + lsbOfS (s.nat 5 3)) s
  generalize reach (s.access.approachAt + lsbOfS (s.nat 5 3)) s = v at hexec hframe ⊢
  have hvpower : v.power = s.power := by rw [hframe]
  have hvtok (m : Nat) : v.tok m = s.tok m := by rw [hframe]; rfl
  have hmem (m : Fin 16) : m.val ∈ answeredSlots v ↔ (s.tok m.val).answered = true := by rw [mem_answeredSlots, hvtok]
  obtain ⟨hpower, htime, htok⟩ := settleSlots_spec (answeredSlots v) v
  generalize (answeredSlots v).foldl settleSlot v = u at hexec hpower htime htok
  have hu : u.power = s.power := hpower.trans hvpower
  have hmoving := trigger_moving (c := 8) (s := u) (by rw [hu]; exact hnone) (trigTarget_lost (by rw [hu]; exact hm))
  have hown (m : Nat) : (trigger 8 u).tok m = u.tok m := by
    rw [trigger_frame]
    rfl
  rw [hu] at hmoving
  refine ⟨_, hexec, ?_, ?_, fun m ha => ?_, fun m ha => ?_⟩
  · rw [trigger_now, State.now, htime]
    rfl
  · rw [hmoving, trigger_now]
  · rw [hown, htok m.val m.isLt, if_pos ((hmem m).mpr ha)]
    exact ⟨rfl, rfl⟩
  · rw [hown, htok m.val m.isLt, if_neg (by rw [hmem m, ha]; decide), hvtok]

/-- Settles O43: fires, late fires and ACCESS.LOCATE through `beginCycle_begun`; RESPONSE through its judgement; the verdict through the
result of the cycle that is over; ACCESS.APPROACH_MAX slot by slot. -/
theorem cyclesAndVerdicts : Obligations.CyclesAndVerdicts := by
  intro tk tel meas s w
  refine ⟨fun v hr hcyc hl hstart hd hst hf howed hpre hrouting hroutes =>
      ⟨exec_accessCycle_begins hr hcyc hst hl hstart meas hd hf howed hpre hrouting hroutes,
        exec_accessCycle_waits hr hcyc hst hl hstart meas hd hf howed hpre hrouting hroutes⟩,
    fun f hr hcyc hl hstart hd hst => ⟨fun hb => ⟨s, ?busy, rfl⟩, fun hb h7 => exec_accessCycle_late hr hcyc hst hl hstart meas hd hb h7⟩,
    fun l hr hcyc hl hb h7 hst => exec_accessCycle_locates meas hr hcyc hst hl hb h7,
    fun hw => ⟨exec_accessLocate_busy hw, exec_accessLocate_taken hw⟩,
    fun c ch win x hc hch hj hwin hx hclear hh => ?response,
    fun c hc hj hch hclear => ⟨exec_cycleVerdict_lost hc hj hch hclear, exec_cycleVerdict_absent hc hj hch hclear,
      fun x hx hn => exec_cycleVerdict_zone hc hj hch hclear hx hn⟩,
    fun hs hm hnone hc => exec_approachMax hs hm hnone hc⟩
  case busy => rw [execAccessCycle_due hr hcyc hst hl hstart meas hd, if_pos hb]
  case response =>
    subst hx
    exact ⟨exec_response_exhausted hc hch hj hwin hclear hh, exec_response_valid hc hch hj hwin hclear hh,
      exec_response_waits hc hch hj hwin hclear hh, fun k hf => exec_response_invalid hc hch hj hwin hclear hh hf⟩

end Sys2Proof.Machine
end

section
/-! SUPPORT. An overcurrent in an access sequence (R206, R210, R221): what it leaves alone where no capture pair watches the array, and
the sequence on a channel that the array does not have, of which that does not hold. -/

namespace Sys2Proof.Machine

variable {s : State}

/-! ### Edges of the array's capture inputs -/

theorem capturedChans_congr {t : State} (h : t.conf = s.conf) : capturedChans t = capturedChans s := by
  unfold capturedChans State.nat
  rw [h]

/-- No capture pair selects the input of a channel that is not among `capturedChans`. -/
theorem signalEdge_uncaptured {n : Nat} (rising : Bool) (hc : capturedChans s = []) (hn : n < 32) :
    signalEdge (0x40 + n) rising s = s := by
  have hnone : (List.range 8).filter (fun c => s.nat 2 4 c == 0x40 + n) = [] := by
    have hn' := List.filter_eq_nil_iff.mp hc n (List.mem_range.mpr hn)
    exact List.filter_eq_nil_iff.mpr fun c hmem hsel => hn' (List.any_eq_true.mpr ⟨c, hmem, hsel⟩)
  unfold signalEdge
  rw [hnone]
  rfl

theorem fieldFall_uncaptured {l : List Nat} (hc : capturedChans s = []) (hl : ∀ n ∈ l, n < 32) : fieldFall l s = s := by
  have hfold : ∀ m : List Nat, (∀ n ∈ m, n < 32) → m.foldl (fun t n => signalEdge (0x40 + n) false t) s = s := by
    intro m hm
    induction m with
    | nil => rfl
    | cons n m ih =>
      rw [List.foldl_cons, signalEdge_uncaptured false hc (hm n List.mem_cons_self)]
      exact ih fun k hk => hm k (List.mem_cons_of_mem n hk)
  exact hfold _ fun n hn => hl n (List.mem_filter.mp hn).1

theorem fieldEdgeList_nil (qs : List LfSeq) (after upto : Nat) : fieldEdgeList qs [] after upto = [] := by
  have hnone : (qs.flatMap fun _ : LfSeq => ([] : List (Nat × Nat × Bool))) = [] := List.flatMap_eq_nil_iff.mpr fun _ _ => rfl
  unfold fieldEdgeList
  simp only [List.flatMap_nil, hnone, List.filter_nil, List.mergeSort_nil]

/-- Where no pair watches the array, its edges change of it alone which stamp they have been had up to and which sequences are over. -/
theorem fieldEdges_uncaptured (hc : capturedChans s = []) :
    ∃ x qs, fieldEdges s = s.modLf (fun l => { l with edged := x, seqs := qs }) := by
  by_cases hseqs : s.lf.seqs = []
  · exact ⟨s.lf.edged, s.lf.seqs, by unfold fieldEdges; rw [if_pos hseqs]; rfl⟩
  · refine ⟨s.now, liveSeqs s, ?_⟩
    unfold fieldEdges
    rw [if_neg hseqs, hc, fieldEdgeList_nil]
    rfl

/-! ### A fault that latches -/

theorem lfc_modLfc_same {n : Nat} (f : LfChan → LfChan) (hn : n < 32) : (s.modLfc n f).lfc n = f (s.lfc n) := tget_tmod_same _ _ _ hn

theorem lfc_modLfc_other {n k : Nat} (f : LfChan → LfChan) (hk : k ≠ n) : (s.modLfc n f).lfc k = s.lfc k :=
  tget_tmod_other _ _ _ _ (Ne.symm hk)

/-- What a fault leaves on its channel; one that is latched already stays as it is (R217). -/
def LfChan.faulted (c : LfChan) (verdict now : Nat) : LfChan :=
  if c.latched then c else { c with verdict, latched := true, latchedAt := now, faults := satAdd 0xFFFF c.faults 1 }

section
variable (n v p : Nat) (ph : Int)

theorem latchFault_lfc_same (hn : n < 32) : (latchFault n v p ph s).lfc n = (s.lfc n).faulted v s.now := by
  unfold latchFault LfChan.faulted
  split
  · rfl
  · rw [State.lfc, emit_lf]
    exact lfc_modLfc_same _ hn

theorem latchFault_lfc_other {k : Nat} (hk : k ≠ n) : (latchFault n v p ph s).lfc k = s.lfc k := by
  unfold latchFault
  split
  · rfl
  · rw [State.lfc, emit_lf]
    exact lfc_modLfc_other _ hk

theorem latchFault_frame : ArrayMeasured s (latchFault n v p ph s) := (ArrayMeasured.refl s).latchFault n v p ph

end

/-! ### An access sequence that loses a channel -/

/-- The channels that stop are the one that trips and channels of the sequence. -/
theorem LfSeq.mem_chans_of_stopped {q : LfSeq} {n k now : Nat} (h : k ∈ q.stopped n now) : k = n ∨ k ∈ q.chans := by
  obtain rfl | h := List.mem_cons.mp h
  · exact .inl rfl
  · obtain ⟨p, hp, hk⟩ := List.mem_flatMap.mp h
    refine .inr (List.mem_eraseDups.mpr (List.mem_flatMap.mpr ⟨p, (List.mem_filter.mp hp).1, (List.mem_filter.mp hk).1⟩))

/-- From `s` to `t` the sequences of the array have changed, and of the access engine the cycle that runs. -/
structure SequencesCut (s t : State) : Prop where
  frame : t = { s with lf := t.lf, access := { s.access with cyc := t.access.cyc } }
  chans : t.lf.chans = s.lf.chans

theorem tripAccess_cuts {q : LfSeq} {n : Nat} (hc : capturedChans s = []) (hn : n < 32) (hq : ∀ k ∈ q.chans, k < 32) :
    SequencesCut s (tripAccess n q s) := by
  obtain ⟨x, qs, hedges⟩ := fieldEdges_uncaptured hc
  have hstopped : ∀ k ∈ q.stopped n s.now, k < 32 := fun k hk => (LfSeq.mem_chans_of_stopped hk).elim (fun h => h ▸ hn) (hq k)
  have hfall : fieldFall (q.stopped n s.now) (fieldEdges s) = fieldEdges s :=
    fieldFall_uncaptured ((capturedChans_congr (by rw [hedges]; rfl)).trans hc) hstopped
  unfold tripAccess
  dsimp only
  rw [hfall, hedges]
  exact ⟨rfl, rfl⟩

theorem execLfOvercurrent_access {q : LfSeq} {ch : Fin 32} {peak phase : Nat} (meas : LfMeas) (hq : lfRunning s = some q)
    (hch : q.chans.contains ch.val = true) (hp : 1600 ≤ peak) (hw : q.who = 0) :
    execLfOvercurrent ch { peak, phase } meas s = .next (tripAccess ch.val q (latchFault ch.val 5 peak (sext 16 phase) s)) := by
  unfold execLfOvercurrent
  rw [hq]
  dsimp only
  rw [if_pos ⟨hch, hp⟩, if_pos hw]

/-- The overcurrent of an access sequence on channels of the array (R101, R221): with the premise on `q.chans` that
`Obligations.LfCommandSequences` leaves out, its clause holds. -/
theorem exec_lfOvercurrent_access {q : LfSeq} {ch : Fin 32} {peak phase : Nat} (meas : LfMeas) (hq : lfRunning s = some q)
    (hch : q.chans.contains ch.val = true) (hp : 1600 ≤ peak) (hw : q.who = 0) (hc : capturedChans s = [])
    (hchans : ∀ k ∈ q.chans, k < 32) :
    ∃ t, exec (.lfOvercurrent ch { peak, phase } meas) s = .next t ∧ t.lfc ch.val = (s.lfc ch.val).faulted 5 s.now ∧
      (∀ k, k ≠ ch.val → t.lfc k = s.lfc k) ∧ t.access = { s.access with cyc := t.access.cyc } ∧
      t = { withEvents s t with lf := t.lf, access := t.access } := by
  have hframe := latchFault_frame (s := s) ch.val 5 peak (sext 16 phase)
  have hsame := latchFault_lfc_same (s := s) ch.val 5 peak (sext 16 phase) ch.isLt
  have hother {k : Nat} (hk : k ≠ ch.val) := latchFault_lfc_other (s := s) ch.val 5 peak (sext 16 phase) hk
  refine ⟨_, execLfOvercurrent_access meas hq hch hp hw, ?_⟩
  generalize latchFault ch.val 5 peak (sext 16 phase) s = u at hframe hsame hother
  have hconf : u.conf = s.conf := by rw [hframe]
  have haccess : u.access = s.access := by rw [hframe]
  obtain ⟨hcut, hkept⟩ := tripAccess_cuts (s := u) (n := ch.val) ((capturedChans_congr hconf).trans hc) ch.isLt hchans
  generalize tripAccess ch.val q u = t at hcut hkept
  have hlfc (k : Nat) : t.lfc k = u.lfc k := congrArg (tget · k) hkept
  refine ⟨(hlfc _).trans hsame, fun k hk => (hlfc k).trans (hother hk), ?_, ?_⟩
  · rw [← haccess]
    exact congrArg State.access hcut
  · rw [hcut, hframe]

/-! ### A channel that the array does not have -/

/-- An access sequence whose step drives channels 3 and 32. -/
def straySeq : LfSeq :=
  { parts := [{ shape := .step, us := 500, step := 1, drives := [{ ch := 3, target := 200 }, { ch := 32, target := 200 }] }], end_ := 3000 }

/-- The array runs it; capture pair 0 watches input 0x60, the sub-GHz PA enable (R101), and route 0 takes the pair's falling edge to
DMA channel 0, which records the pair (R105, R434). -/
def strayState : State :=
  { lf := { seqs := [straySeq] }
    conf := { values := [(settingId 2 4 0, 0x60), (settingId 2 7 0, 0x19), (settingId 2 8 0, 0x31), (settingId 14 2 0, 1),
                         (settingId 14 3 0, 1)] } }

/-- No pair watches one of the 32 channels. -/
theorem capturedChans_stray : capturedChans strayState = [] := by decide +kernel

theorem lfRunning_stray : lfRunning strayState = some straySeq := by decide +kernel

/-- As channel 3 trips, channel 32 stops, and its end passes for a falling edge of input 0x40 + 32: DMA channel 0 takes an entry. -/
theorem tripAccess_stray_dma :
    (tget (tripAccess 3 straySeq (latchFault 3 5 1600 0 strayState)).mem.dma 0).entries.length = 1 := by decide +kernel

/-- Refutes O46: of an overcurrent in an access sequence the statement says that on-chip memory stays as it was while no capture pair
selects one of the inputs 0x40–0x5F, but it does not say that the sequence drives channels 0–31. In `strayState` one drives channel 32
as well, whose input 0x60 a pair does select, so a DMA ring changes. With that premise the clause holds (`exec_lfOvercurrent_access`). -/
theorem not_lfCommandSequences : ¬ Obligations.LfCommandSequences := by
  unfold Obligations.LfCommandSequences
  intro h
  obtain ⟨-, -, -, -, -, -, -, -, -, htrip, -, -⟩ := h 0 3 0 1600 0 {} strayState { req := { opcode := 0 } }
  obtain ⟨t, hexec, -, -, -, -, hframe⟩ := htrip straySeq lfRunning_stray (by decide) (by decide) rfl capturedChans_stray
  have hstep : exec (.lfOvercurrent 3 { peak := 1600, phase := 0 } {}) strayState =
      .next (tripAccess 3 straySeq (latchFault 3 5 1600 0 strayState)) :=
    execLfOvercurrent_access {} lfRunning_stray (by decide) (by decide) rfl
  have ht : tripAccess 3 straySeq (latchFault 3 5 1600 0 strayState) = t := Host.Outcome.next.inj (hstep.symm.trans hexec)
  have hmem : t.mem = strayState.mem := by rw [hframe]
  have hentry := tripAccess_stray_dma
  rw [ht, hmem] at hentry
  exact absurd hentry (by decide)

end Sys2Proof.Machine
end

section
/-! SUPPORT. The front end of the transceiver: what going to a frequency, access windows and the end of a request leave alone
(R226–R233, R238, R243). -/

namespace Sys2Proof.Machine

variable {s t v : State}

/-! ### A frequency -/

/-- Only what going to a frequency changes of the transceiver (R227, R229, R234). -/
def Uhf.tuned (u v : Uhf) : Uhf :=
  { u with state := v.state, freq := v.freq, calCause := v.calCause, locked := v.locked, loaded := v.loaded, offset := v.offset }

/-- From `s` to `t` the front end has gone to a frequency. -/
def Tuned (s t : State) : Prop := t = { s with uhf := s.uhf.tuned t.uhf }

theorem Tuned.trans {r : State} (h : Tuned r s) (k : Tuned s t) : Tuned r t := by
  unfold Tuned at *
  rw [k, h]
  rfl

theorem enterSettle_tuned (f : Nat) (s : State) : Tuned s (enterSettle f s) := by
  unfold enterSettle
  split <;> rfl

theorem leaveRx_tuned (f : Nat) (s : State) : Tuned s (leaveRx f s) := by
  unfold leaveRx
  split
  · rfl
  · exact Tuned.trans (s := s.modUhf (fun u => { u with state := .idle })) rfl (enterSettle_tuned ..)

/-! ### Access windows -/

/-- Only what a booked window that takes the front end changes of the transceiver (R230, R231). -/
def Uhf.taken (u v : Uhf) : Uhf := { u.tuned v with access := v.access, failed := v.failed }

/-- From `s` to `t` the front end has gone to a frequency, or a booked window has taken it. -/
def WindowTaken (s t : State) : Prop := t = { s with uhf := s.uhf.taken t.uhf }

theorem WindowTaken.refl (s : State) : WindowTaken s s := rfl

theorem WindowTaken.trans {r : State} (h : WindowTaken r s) (k : WindowTaken s t) : WindowTaken r t := by
  unfold WindowTaken at *
  rw [k, h]
  rfl

theorem Tuned.windowTaken (h : Tuned s t) : WindowTaken s t := by
  unfold Tuned at h
  unfold WindowTaken
  rw [h]
  rfl

theorem accessBegin_taken (s : State) : WindowTaken s (accessBegin s) := by
  unfold accessBegin
  split
  · next w _ =>
    have hbegun : WindowTaken s (s.modUhf (fun u => { u with access := some { w with begun := true }, failed := false })) := rfl
    dsimp only
    split
    · exact .refl s
    · split
      · split
        · exact hbegun
        · exact hbegun.trans (leaveRx_tuned ..).windowTaken
      · exact hbegun.trans (enterSettle_tuned ..).windowTaken
      · exact hbegun.trans (enterSettle_tuned ..).windowTaken
      · exact .refl s
  · exact .refl s

theorem accessBegin_none (h : s.uhf.access = none) : accessBegin s = s := by
  unfold accessBegin
  rw [h]

/-- A window that has the front end already takes it no more. -/
theorem accessBegin_begun {w : AccWin} (hw : s.uhf.access = some w) (hb : w.begun = true) : accessBegin s = s := by
  unfold accessBegin
  rw [hw]
  exact if_pos (.inl hb)

/-! ### The request at the head -/

/-- Only what serving the request at the head changes of the transceiver (R231). -/
def Uhf.picked (u v : Uhf) : Uhf := { u.tuned v with failed := v.failed, cut := v.cut, serving := v.serving, queue := v.queue }

/-- From `s` to `t` the front end has gone to a frequency, or serves the request that was at the head. -/
def HeadServed (s t : State) : Prop := t = { s with uhf := s.uhf.picked t.uhf, sheet := t.sheet }

theorem HeadServed.trans {r : State} (h : HeadServed r s) (k : HeadServed s t) : HeadServed r t := by
  unfold HeadServed at *
  rw [k, h]
  rfl

theorem Tuned.headServed (h : Tuned s t) : HeadServed s t := by
  unfold Tuned at h
  unfold HeadServed
  rw [h]
  rfl

/-- The request at the head, as it is served: a receive window takes over how it asks for the air (R231, R238). -/
def servedReq (r : UhfReq) (s : State) : UhfReq :=
  if r.kind = .rx then
    { r with coex := if s.nat 7 4 = 1 then s.nat 7 2 else 0
             reqAt := s.now + (lsbOfUs (if calValid r.freq s then 73 else 225) - lsbOfUs (s.nat 7 3)) }
  else r

theorem servedReq_ticket (r : UhfReq) (s : State) : (servedReq r s).ticket = r.ticket := by
  unfold servedReq
  split <;> rfl

/-- The state in which the request at the head has started. -/
def headStarted (r : UhfReq) (rest : List UhfReq) (s : State) : State :=
  start r.ticket (s.modUhf (fun u => { u with serving := some (servedReq r s), queue := rest, failed := false, cut := 0 }))

/-- `uhfPick` leaves everything as it is, or starts the request at the head and takes the front end to its frequency. -/
theorem uhfPick_cases (s : State) : uhfPick s = s ∨
    ∃ r rest, s.uhf.serving = none ∧ s.uhf.queue = r :: rest ∧ Tuned (headStarted r rest s) (uhfPick s) := by
  unfold uhfPick
  split
  · exact .inl rfl
  · next hfree =>
    split
    · next r rest hq =>
      refine .inr ⟨r, rest, ?_, hq, ?_⟩
      · simpa using fun h => hfree (.inr (.inl h))
      · dsimp only
        split
        · rfl
        · exact enterSettle_tuned ..
    · exact .inl rfl

theorem uhfPick_empty (h : s.uhf.queue = []) : uhfPick s = s := by
  obtain hid | ⟨r, rest, -, hq, -⟩ := uhfPick_cases s
  · exact hid
  · simp [h] at hq

theorem uhfPick_headServed (s : State) : HeadServed s (uhfPick s) := by
  obtain hid | ⟨r, rest, -, -, htuned⟩ := uhfPick_cases s
  · rw [hid]
    rfl
  · exact HeadServed.trans (s := headStarted r rest s) rfl htuned.headServed

/-! ### IDLE -/

/-- The state in which the front end enters IDLE. -/
def idled (s : State) : State := s.modUhf (fun u => { u with state := .idle, locked := false })

/-- IDLE leads to a calibration, or first to a booked window and then to the request at the head (R230, R231). -/
theorem uhfIdle_cases (s : State) :
    (∃ c, uhfIdle s = enterCal s.uhf.freq c (idled s)) ∨ uhfIdle s = uhfPick (accessBegin (idled s)) := by
  unfold uhfIdle
  dsimp only
  split
  · split
    · exact .inr rfl
    · exact .inl ⟨_, rfl⟩
  · exact .inr rfl

/-- While no request waits, IDLE leads to a calibration or to a booked window at most. -/
theorem uhfIdle_empty (h : s.uhf.queue = []) : WindowTaken s (uhfIdle s) := by
  have hidle : WindowTaken s (idled s) := rfl
  have hbegin := hidle.trans (accessBegin_taken (idled s))
  obtain ⟨c, hcal⟩ | hpick := uhfIdle_cases s
  · rw [hcal]
    rfl
  · have hqueue : (accessBegin (idled s)).uhf.queue = [] := by
      rw [hbegin]
      exact h
    rw [hpick, uhfPick_empty hqueue]
    exact hbegin

/-- While a window has the front end, or has lost it, IDLE leads to a calibration or to the request at the head. -/
theorem uhfIdle_begun {w : AccWin} (hw : s.uhf.access = some w) (hb : w.begun = true) : HeadServed s (uhfIdle s) := by
  have hidle : HeadServed s (idled s) := rfl
  have hbegin : accessBegin (idled s) = idled s := accessBegin_begun hw hb
  obtain ⟨c, hcal⟩ | hpick := uhfIdle_cases s
  · rw [hcal]
    rfl
  · rw [hpick, hbegin]
    exact hidle.trans (uhfPick_headServed _)

/-- The front end that goes back from a window to the host's request leaves the window, the count of lock failures and the log
alone (R227, R228). -/
theorem accessBack_kept {w x : AccWin} (hx : s.uhf.access = some x) (hb : x.begun = true) :
    (accessBack w s).uhf.access = some x ∧ (accessBack w s).uhf.lockFails = s.uhf.lockFails ∧
      (accessBack w s).safe = s.safe := by
  have hback (f : Nat) := leaveRx_tuned f s
  unfold accessBack
  split
  · next r _ =>
    split
    · split
      · exact ⟨hx, rfl, rfl⟩
      · rw [hback r.freq]
        exact ⟨hx, rfl, rfl⟩
    · rw [hback r.freq]
      exact ⟨hx, rfl, rfl⟩
  · rw [uhfIdle_begun hx hb]
    exact ⟨hx, rfl, rfl⟩

/-! ### The end of a request -/

/-- The wires change of the transceiver alone (R238). -/
theorem uhfWires_frame (s : State) : uhfWires s =
    s.modUhf (fun u => { u with req := (uhfWires s).uhf.req, pri := (uhfWires s).uhf.pri }) := by
  have huhf : (uhfWires s).uhf = { s.uhf with req := (uhfWires s).uhf.req, pri := (uhfWires s).uhf.pri } := by
    unfold uhfWires
    rw [State.modUhf_uhf]
    split
    · rfl
    · split <;> rfl
  exact congrArg (fun u => { s with uhf := u }) huhf

/-- A reservation is kept in the ledger alone (R243, R244). -/
theorem Uhf.release_frame (u : Uhf) (r : UhfReq) : u.release r = { u with ledger := (u.release r).ledger } := by
  unfold Uhf.release
  dsimp only
  split <;> rfl

/-- The state in which a request has given its reservation back and event 0x0703 is written (R243, R247). -/
def reservationReleased (st cause : Nat) (r : UhfReq) (s : State) : State :=
  notSent st cause r.ticket (s.modUhf (fun u => (u.roll s.now).release r))

theorem reservationReleased_frame (st cause : Nat) (r : UhfReq) (s : State) : reservationReleased st cause r s =
    { withEvents s (reservationReleased st cause r s) with
      uhf := { s.uhf with ledger := ((s.uhf.roll s.now).release r).ledger, minute := (s.uhf.roll s.now).minute } } := by
  have huhf : (s.uhf.roll s.now).release r =
      { s.uhf with ledger := ((s.uhf.roll s.now).release r).ledger, minute := (s.uhf.roll s.now).minute } :=
    Uhf.release_frame ..
  unfold reservationReleased notSent
  rw [emit_frame, ← huhf]
  rfl

/-- Only what the end of the request served, and what the front end then goes on to, change of the transceiver. -/
def Uhf.ended (u v : Uhf) : Uhf :=
  { u.taken v with serving := none, window := none, req := v.req, pri := v.pri, ledger := v.ledger, minute := v.minute }

/-- From `s` to `t` the request `r` has ended with a status and a payload: its ticket has completed, the front end serves none,
and no record has left the log. -/
structure RequestEnded (r : UhfReq) (st : Nat) (d : Bytes) (s t : State) : Prop where
  entry : t.ticket r.ticket = (s.ticket r.ticket).finish st d
  uhf : t.uhf = s.uhf.ended t.uhf
  time : t.time = s.time
  log : ∀ e ∈ s.safe.sort, e ∈ t.safe.sort

section
variable {r : UhfReq} {st : Nat} {d : Bytes}

theorem RequestEnded.completed (h : RequestEnded r st d s t) : (t.ticket r.ticket).state = .completed := by rw [h.entry]; rfl
theorem RequestEnded.status (h : RequestEnded r st d s t) : (t.ticket r.ticket).status = st := by rw [h.entry]; rfl
theorem RequestEnded.keep (h : RequestEnded r st d s t) : (t.ticket r.ticket).keep = d.take 64 := by rw [h.entry]; rfl
theorem RequestEnded.serving (h : RequestEnded r st d s t) : t.uhf.serving = none := by rw [h.uhf]; rfl
theorem RequestEnded.window (h : RequestEnded r st d s t) : t.uhf.window = none := by rw [h.uhf]; rfl
theorem RequestEnded.queue (h : RequestEnded r st d s t) : t.uhf.queue = s.uhf.queue := by rw [h.uhf]; rfl
theorem RequestEnded.now (h : RequestEnded r st d s t) : t.now = s.now := by rw [State.now, h.time]; rfl

theorem RequestEnded.logged {stamp code n tk : Nat} {b : Bytes} {u : State} (h : RequestEnded r st d s t)
    (k : Logged stamp code n tk b u s) : Logged stamp code n tk b u t :=
  fun hl => (k hl).imp fun e he => ⟨h.log e he.1, he.2⟩

theorem RequestEnded.taken (h : RequestEnded r st d s t) (k : WindowTaken t v) : RequestEnded r st d s v := by
  obtain ⟨hentry, huhf, htime, hlog⟩ := h
  unfold WindowTaken at k
  refine ⟨?_, ?_, ?_, ?_⟩
  · rw [k]
    exact hentry
  · rw [k]
    dsimp only
    rw [huhf]
    rfl
  · rw [k]
    exact htime
  · rw [k]
    exact hlog

/-- While no request waits, the front end goes on without touching what the end of the request has left. -/
theorem RequestEnded.idle (h : RequestEnded r st d s t) (hq : s.uhf.queue = []) : RequestEnded r st d s (uhfIdle t) :=
  h.taken (uhfIdle_empty (h.queue.trans hq))

variable (hr : s.uhf.serving = some r) (ht : r.ticket < 128)
include hr ht

theorem uhfClose_ended (st : Nat) (d : Bytes) : RequestEnded r st d s (uhfClose st d s) := by
  have hclose : uhfClose st d s =
      complete r.ticket st d (uhfWires (s.modUhf (fun u => { u with serving := none, window := none }))) := by
    unfold uhfClose
    rw [hr]
  rw [hclose, uhfWires_frame]
  exact ⟨ticket_modTicket_same _ ht, rfl, rfl, fun _ h => h⟩

theorem uhfDone_ended (st : Nat) (d : Bytes) (hq : s.uhf.queue = []) : RequestEnded r st d s (uhfDone st d s) :=
  (uhfClose_ended hr ht st d).idle hq

/-- A request that fails ends with its status; of a transmission the reservation is released and event 0x0703 written (R243, R247). -/
theorem uhfFail_ended (st cause : Nat) : ∃ d, RequestEnded r st d s (uhfFail st cause s) := by
  unfold uhfFail
  rw [hr]
  dsimp only
  split
  · have hframe := reservationReleased_frame st cause r s
    have hlog : Calm s (reservationReleased st cause r s) := (Calm.refl s).modUhf.notSent ..
    have hend := uhfClose_ended (s := reservationReleased st cause r s) (by rw [hframe]; exact hr) ht st
      (txReply 0 0 r.airtime r.power cause r.band 0)
    have hentry : (reservationReleased st cause r s).ticket r.ticket = s.ticket r.ticket := by rw [hframe]; rfl
    have htime : (reservationReleased st cause r s).time = s.time := by rw [hframe]
    have huhf (v : Uhf) : (reservationReleased st cause r s).uhf.ended v = s.uhf.ended v := by rw [hframe]; rfl
    exact ⟨_, hend.entry.trans (congrArg (TicketEntry.finish · st _) hentry), hend.uhf.trans (huhf _), hend.time.trans htime,
      fun e he => hend.log e (hlog.log e he)⟩
  · exact ⟨_, uhfClose_ended hr ht ..⟩
  · exact ⟨_, uhfClose_ended hr ht ..⟩

end

end Sys2Proof.Machine
end

section
/-! SUPPORT. The states of the front end: calibration, lock, its loss, and the ramps (R226–R229, R232, R246, R247). -/

namespace Sys2Proof.Machine

variable {s t : State}

theorem accessTaken_none (h : s.uhf.access = none) : accessTaken s = false := by
  unfold accessTaken
  rw [h]
  rfl

theorem accessTaken_begun {x : AccWin} (hx : s.uhf.access = some x) (hb : x.begun = true) (hl : x.lost = false) :
    accessTaken s = true := by
  unfold accessTaken
  rw [hx]
  simp [hb, hl]

theorem Logged.of_safe {st code n tk : Nat} {d : Bytes} {u : State} (h : Logged st code n tk d s t) (hsafe : u.safe = t.safe) :
    Logged st code n tk d s u := by
  unfold Logged
  rw [hsafe]
  exact h

/-! ### Calibration -/

/-- The radio with the record of a calibration that has succeeded (R229, R246). -/
def calRecorded (ok : Bool) (tune : VcoTune) (s : State) : State :=
  if ok then s.modUhf (fun u => { u with
    records := ({ freq := s.uhf.freq, stamp := s.now, temp := dieTemp s, band := tune.band, codes := tune.codes } ::
      u.records.filter (fun r => !r.covers s.uhf.freq)).take 4
    lastCal := s.now, calTemp := dieTemp s })
  else s

/-- The calibration recorded, with event 0x0701 (R247). -/
def calReported (ok : Bool) (tune : VcoTune) (dur : Nat) (s : State) : State :=
  emit 0x00A 0x0701 (leBytes 1 s.uhf.calCause ++ leBytes 1 (b1 (!ok)) ++ leBytes 2 dur ++ leBytes 4 (s.uhf.freq / 1000)) 0 0xFF
    (calRecorded ok tune s)

section
variable (ok : Bool) (tune : VcoTune) (dur : Nat)

theorem calRecorded_frame (s : State) : calRecorded ok tune s = { s with uhf := { s.uhf with
    records := (calRecorded ok tune s).uhf.records, lastCal := (calRecorded ok tune s).uhf.lastCal
    calTemp := (calRecorded ok tune s).uhf.calTemp } } := by
  unfold calRecorded
  split <;> rfl

theorem calReported_frame (s : State) : calReported ok tune dur s = { withEvents s (calReported ok tune dur s) with uhf := { s.uhf with
    records := (calRecorded ok tune s).uhf.records, lastCal := (calRecorded ok tune s).uhf.lastCal
    calTemp := (calRecorded ok tune s).uhf.calTemp } } := by
  unfold calReported
  rw [emit_frame, calRecorded_frame]

theorem calReported_logged (s : State) : Logged s.now 0x0701 0 0xFF (leBytes 1 s.uhf.calCause ++ leBytes 1 (b1 (!ok)) ++
    leBytes 2 dur ++ leBytes 4 (s.uhf.freq / 1000)) s (calReported ok tune dur s) := by
  have hframe := calRecorded_frame ok tune s
  have hlogged := emit_logged 0x00A 0x0701 0 0xFF (leBytes 1 s.uhf.calCause ++ leBytes 1 (b1 (!ok)) ++
    leBytes 2 dur ++ leBytes 4 (s.uhf.freq / 1000)) (calRecorded ok tune s)
  have hnow : (calRecorded ok tune s).now = s.now := by rw [hframe]; rfl
  have hsafe : (calRecorded ok tune s).safe = s.safe := by rw [hframe]
  unfold Logged at *
  rw [hnow, hsafe] at hlogged
  exact hlogged

variable {ok tune dur}

theorem accessTaken_calReported (s : State) : accessTaken (calReported ok tune dur s) = accessTaken s := by
  rw [calReported_frame]
  rfl

/-- What follows a calibration at `f` that has left the state `u`: SETTLE for an access window or for the request served, the end of a
request for calibration, or IDLE (R227). -/
def calFollowed (ok : Bool) (tune : VcoTune) (dur f : Nat) (u : State) : State :=
  if accessTaken u then settleAt ((u.uhf.access.map (·.freq)).getD f) u
  else match u.uhf.serving with
    | some r =>
      if r.kind = .cal then uhfDone (if ok then St.ok else St.uhfLockFail) (leBytes 4 dur ++ leBytes 1 tune.band ++ zeros 3) u
      else accessBegin (settleAt r.freq u)
    | none => uhfPick (accessBegin (u.modUhf (fun v => { v with state := .idle })))

theorem exec_uhfCalDone_cal (hs : s.uhf.state = .cal) :
    exec (.uhfCalDone ok tune dur) s = .next (calFollowed ok tune dur s.uhf.freq (calReported ok tune dur s)) :=
  next_congr (if_neg (not_not_intro hs))

/-- A calibration for a request of the host leads on to SETTLE for it. -/
theorem exec_uhfCalDone_settles {r : UhfReq} (hs : s.uhf.state = .cal) (hr : s.uhf.serving = some r) (hk : r.kind ≠ .cal)
    (ha : s.uhf.access = none) :
    exec (.uhfCalDone ok tune dur) s = .next (settleAt r.freq (calReported ok tune dur s)) := by
  have hframe := calReported_frame ok tune dur s
  have htaken : accessTaken (calReported ok tune dur s) = false := (accessTaken_calReported s).trans (accessTaken_none ha)
  have hserving : (calReported ok tune dur s).uhf.serving = some r := by rw [hframe]; exact hr
  have hnone : (settleAt r.freq (calReported ok tune dur s)).uhf.access = none := by rw [hframe]; exact ha
  refine (exec_uhfCalDone_cal hs).trans (next_congr ?_)
  rw [calFollowed, htaken, if_neg Bool.false_ne_true, hserving]
  exact (if_neg hk).trans (accessBegin_none hnone)

/-- A calibration that the host asked for ends its request. -/
theorem exec_uhfCalDone_ends {r : UhfReq} (hs : s.uhf.state = .cal) (hr : s.uhf.serving = some r) (hk : r.kind = .cal)
    (hq : s.uhf.queue = []) (ht : r.ticket < 128) (ha : accessTaken s = false) :
    ∃ t, exec (.uhfCalDone ok tune dur) s = .next t ∧ RequestEnded r (if ok then St.ok else St.uhfLockFail)
      (leBytes 4 dur ++ leBytes 1 tune.band ++ zeros 3) (calReported ok tune dur s) t := by
  have hframe := calReported_frame ok tune dur s
  have htaken : accessTaken (calReported ok tune dur s) = false := (accessTaken_calReported s).trans ha
  have hserving : (calReported ok tune dur s).uhf.serving = some r := by rw [hframe]; exact hr
  have hqueue : (calReported ok tune dur s).uhf.queue = [] := by rw [hframe]; exact hq
  refine ⟨_, (exec_uhfCalDone_cal hs).trans (next_congr ?_), uhfDone_ended hserving ht _ _ hqueue⟩
  rw [calFollowed, htaken, if_neg Bool.false_ne_true, hserving]
  exact if_pos hk

/-- A calibration for an access window leads on to SETTLE for it. -/
theorem exec_uhfCalDone_window {x : AccWin} (hs : s.uhf.state = .cal) (hx : s.uhf.access = some x) (hb : x.begun = true)
    (hl : x.lost = false) : exec (.uhfCalDone ok tune dur) s = .next (settleAt x.freq (calReported ok tune dur s)) := by
  have hframe := calReported_frame ok tune dur s
  have htaken : accessTaken (calReported ok tune dur s) = true := (accessTaken_calReported s).trans (accessTaken_begun hx hb hl)
  have haccess : (calReported ok tune dur s).uhf.access = some x := by rw [hframe]; exact hx
  refine (exec_uhfCalDone_cal hs).trans (next_congr ?_)
  rw [calFollowed, if_pos htaken, haccess]
  rfl

end

/-! ### Lock -/

section
variable (hs : s.uhf.state = .settle) (hl : s.uhf.locked = false)
include hs hl

/-- While lock is awaited no booked window takes the front end. -/
theorem accessNext_settling : accessNext s = none := if_pos ⟨hs, hl⟩

theorem exec_uhfLock_settling : exec .uhfLock s = .next (lockNow s) := by
  have hnext := accessNext_settling hs hl
  refine next_congr ?_
  rw [hnext]

theorem exec_uhfLockTimeout_settling : exec .uhfLockTimeout s = .next (execUhfLockTimeout.timeout s) := by
  have hnext := accessNext_settling hs hl
  refine next_congr ?_
  rw [hnext]

/-- Lock for an access window has its receiver on. -/
theorem lockNow_window (ht : accessTaken s = true) :
    lockNow s = s.modUhf (fun u => { u with state := .rx, locked := true, failed := false }) := by
  unfold lockNow
  rw [if_pos ⟨hs, hl⟩, if_pos ht]

/-- Lock lets the request of the host start. -/
theorem lockNow_host (ht : accessTaken s = false) :
    lockNow s = uhfTry (s.modUhf (fun u => { u with locked := true, failed := false })) := by
  unfold lockNow
  rw [if_pos ⟨hs, hl⟩, if_neg (by simp [ht])]

end

/-- With no request there is nothing to start. -/
theorem uhfTry_none (h : s.uhf.serving = none) : uhfTry s = s := by
  unfold uhfTry
  rw [h]

/-- Every condition of R232 but that of the booked windows holds for the request `r`. -/
structure StartReady (r : UhfReq) (s : State) : Prop where
  serving : s.uhf.serving = some r
  settle : s.uhf.state = .settle
  locked : s.uhf.locked = true
  free : accessTaken s = false
  lead : leadOver r s = true
  grant : gntOk r s = true
  window : s.uhf.window = none
  intime : s.now ≤ r.deadline

/-- A transmission that may start begins its ramp, with an edge of capture input 0x60 (R101, R227, R232). -/
theorem uhfTry_tx {r : UhfReq} (h : StartReady r s) (hk : r.kind = .tx) (hf : txFits r.airtime s = true) :
    uhfTry s = signalEdge 0x60 true (s.modUhf (fun u => { u with state := .txRamp, started := s.now })) := by
  unfold uhfTry
  rw [h.serving]
  dsimp only
  rw [if_neg (by simp [h.settle, h.locked, h.free, h.lead, h.grant, h.intime]), hk]
  exact if_pos hf

/-- A receive window that may start opens (R227, R232, R246). -/
theorem uhfTry_rx {r : UhfReq} (h : StartReady r s) (hk : r.kind = .rx) :
    uhfTry s = s.modUhf (fun u => { u with
      state := .rx
      window := some { opened := s.now
                       end_ := s.now + lsbOfUs (((s.work r.ticket).map (fun w => u32At w.req.payload 24)).getD 0) } }) := by
  have hwindow := h.window
  unfold uhfTry
  rw [h.serving]
  dsimp only
  rw [if_neg (by simp [h.settle, h.locked, h.free, h.lead, h.grant, h.intime]), hk]
  dsimp only [State.modUhf]
  rw [hwindow]
  rfl

/-! ### Lock that does not come -/

/-- The lock failure counted, with event 0x0704 (R228, R246, R247). -/
def lockFailed (s : State) : State :=
  lockEvent 0 3 (s.modUhf (fun u => { u with lockFails := satAdd 0xFFFF u.lockFails 1 }))

theorem lockFailed_frame (s : State) : lockFailed s =
    { withEvents s (lockFailed s) with uhf := { s.uhf with lockFails := satAdd 0xFFFF s.uhf.lockFails 1 } } := by
  unfold lockFailed lockEvent
  rw [emit_frame]
  rfl

theorem lockFailed_logged (s : State) : Logged s.now 0x0704 0 0xFF
    (leBytes 1 3 ++ leBytes 1 0 ++ zeros 2 ++ leBytes 4 (s.uhf.freq / 1000)) s (lockFailed s) :=
  emit_logged 0x00A 0x0704 0 0xFF _ (s.modUhf _)

section
variable (hs : s.uhf.state = .settle) (hl : s.uhf.locked = false)
include hs hl

/-- The first lock that does not come is counted and leads to a full calibration (R228). -/
theorem lockTimeout_first (hf : s.uhf.failed = false) : execUhfLockTimeout.timeout s = enterCal s.uhf.freq 4
    (s.modUhf (fun u => { u with lockFails := satAdd 0xFFFF u.lockFails 1, failed := true })) := by
  unfold execUhfLockTimeout.timeout
  dsimp only
  rw [if_neg (by simp [hs, hl]), if_pos hf]
  rfl

/-- The second fails the request of the host (R228). -/
theorem lockTimeout_second (hf : s.uhf.failed = true) (ha : s.uhf.access = none) :
    execUhfLockTimeout.timeout s = uhfIdle (uhfFail St.uhfLockFail 1 (lockFailed s)) := by
  have haccess : (lockFailed s).uhf.access = none := by rw [lockFailed_frame]; exact ha
  unfold lockFailed at haccess ⊢
  unfold execUhfLockTimeout.timeout
  dsimp only
  rw [if_neg (by simp [hs, hl]), if_neg (by simp [hf]), haccess]

/-- The second loses an access window (R228). -/
theorem lockTimeout_window {x : AccWin} (hf : s.uhf.failed = true) (hx : s.uhf.access = some x) (hb : x.begun = true)
    (hlost : x.lost = false) : execUhfLockTimeout.timeout s = accessBack x
      ((lockFailed s).modUhf (fun u => { u with access := some { x with lost := true }, failed := false })) := by
  have haccess : (lockFailed s).uhf.access = some x := by rw [lockFailed_frame]; exact hx
  unfold lockFailed at haccess ⊢
  unfold execUhfLockTimeout.timeout
  dsimp only
  rw [if_neg (by simp [hs, hl]), if_neg (by simp [hf]), haccess]
  exact if_pos ⟨hb, hlost⟩

end

/-! ### Lock that is lost -/

/-- A receiver that loses lock goes back to SETTLE (R228). -/
theorem exec_uhfLockLost_rx (hs : s.uhf.state = .rx) : exec .uhfLockLost s =
    .next ((lockEvent 1 4 s).modUhf (fun u => { u with state := .settle, locked := false })) := by
  refine next_congr ?_
  rw [hs]

/-- A transmission that loses lock is cut (R228). -/
theorem exec_uhfLockLost_tx (hs : s.uhf.state = .tx) : exec .uhfLockLost s = .next (cutTx 5 (lockEvent 1 6 s)) := by
  refine next_congr ?_
  rw [hs]

theorem lockEvent_frame (kind state : Nat) (s : State) : lockEvent kind state s = withEvents s (lockEvent kind state s) :=
  emit_frame ..

theorem lockEvent_logged (kind state : Nat) (s : State) : Logged s.now 0x0704 0 0xFF
    (leBytes 1 state ++ leBytes 1 kind ++ zeros 2 ++ leBytes 4 (s.uhf.freq / 1000)) s (lockEvent kind state s) :=
  emit_logged 0x00A 0x0704 0 0xFF _ s

/-! ### The ramps -/

theorem signalEdge_unselected {code : Nat} (rising : Bool) (h : ∀ n : Fin 8, s.nat 2 4 n.val ≠ code) :
    signalEdge code rising s = s := by
  have hnone : (List.range 8).filter (fun n => s.nat 2 4 n == code) = [] :=
    List.filter_eq_nil_iff.mpr fun n hn => by simpa using h ⟨n, List.mem_range.mp hn⟩
  unfold signalEdge
  rw [hnone]
  rfl

theorem txReply_take (start end_ air : Nat) (power : Int) (cause band wait : Nat) :
    (txReply start end_ air power cause band wait).take 64 = txReply start end_ air power cause band wait :=
  List.take_of_length_le (by simp [txReply, leBytes_length, zeros])

/-- The transmission counted, with its end and event 0x0702 (R246, R247). -/
def txReported (r : UhfReq) (s : State) : State :=
  emit 0x00A 0x0702 (leBytes 4 (r.freq / 1000) ++ leBytes 4 r.airtime ++ leBytes 1 (unsext 8 r.power) ++
    leBytes 1 (b1 r.clamped + b1 (s.uhf.cut != 0) 1)) 0 r.ticket
    (s.modUhf (fun u => { u with txCount := wrapAdd 32 u.txCount 1, lastEnd := tmod u.lastEnd r.band (fun _ => s.now) }))

theorem txReported_frame (r : UhfReq) (s : State) : txReported r s = { withEvents s (txReported r s) with uhf := { s.uhf with
    txCount := wrapAdd 32 s.uhf.txCount 1, lastEnd := tmod s.uhf.lastEnd r.band (fun _ => s.now) } } := by
  unfold txReported
  rw [emit_frame]
  rfl

theorem txReported_logged (r : UhfReq) (s : State) : Logged s.now 0x0702 0 r.ticket (leBytes 4 (r.freq / 1000) ++
    leBytes 4 r.airtime ++ leBytes 1 (unsext 8 r.power) ++ leBytes 1 (b1 r.clamped + b1 (s.uhf.cut != 0) 1)) s (txReported r s) :=
  emit_logged 0x00A 0x0702 0 r.ticket _ (s.modUhf _)

/-- At the end of the ramp-down the transmission completes (R227, R246). -/
theorem exec_uhfRampDownDone {r : UhfReq} (hr : s.uhf.serving = some r) (hs : s.uhf.state = .txDown)
    (hc : clearUntil s.uhf.downAt s = true) (hn : ∀ n : Fin 8, s.nat 2 4 n.val ≠ 0x60) :
    exec .uhfRampDownDone s = .next (
      let v := reach s.uhf.downAt s
      uhfDone (if s.uhf.cut ≠ 0 then St.uhfTxCut else if r.clamped then St.uhfClamped else St.ok)
        (txReply s.uhf.started v.now r.airtime r.power s.uhf.cut r.band 0) (txReported r v)) := by
  have hedge : signalEdge 0x60 false (reach s.uhf.downAt s) = reach s.uhf.downAt s :=
    signalEdge_unselected false (by rw [reach_frame]; exact hn)
  have huhf := reach_uhf s s.uhf.downAt
  refine next_congr ?_
  rw [hr]
  dsimp only
  rw [if_pos hs, atDue_clear hc, hedge, huhf]
  unfold txReported
  rw [huhf]

end Sys2Proof.Machine
end

section
/-! SUPPORT. The states of the front end, clause by clause (R226–R229, R232, R246, R247). -/

namespace Sys2Proof.Machine

variable {s : State}

/-! ### Calibration -/

section
variable (ok : Bool) (tune : VcoTune) (dur : Nat)

/-- The record of a calibration that has succeeded is the newest; one that failed leaves the records alone (R229, R246). -/
theorem calRecorded_records (s : State) :
    (ok = true → (calRecorded ok tune s).uhf.records.head? =
      some { freq := s.uhf.freq, stamp := s.now, temp := dieTemp s, band := tune.band, codes := tune.codes } ∧
      (calRecorded ok tune s).uhf.lastCal = s.now) ∧
    (ok = false → (calRecorded ok tune s).uhf.records = s.uhf.records) := by
  cases ok with
  | true => exact ⟨fun _ => ⟨rfl, rfl⟩, Bool.noConfusion⟩
  | false => exact ⟨Bool.noConfusion, fun _ => rfl⟩

variable {ok tune dur}

theorem exec_uhfCalDone_elsewhere (hs : s.uhf.state ≠ .cal) : ∃ t, exec (.uhfCalDone ok tune dur) s = .next t ∧ t = s :=
  ⟨s, next_congr (if_pos hs), rfl⟩

/-- What SETTLE for `f` after a calibration has in it. -/
theorem settled_calReported (f : Nat) (s : State) :
    let t := settleAt f (calReported ok tune dur s)
    t.uhf.state = .settle ∧ t.uhf.freq = f ∧ t.uhf.locked = false ∧ t.uhf.serving = s.uhf.serving ∧ t.uhf.offset = s.get 7 5 ∧
      t.uhf.records = (calRecorded ok tune s).uhf.records ∧ t.uhf.lastCal = (calRecorded ok tune s).uhf.lastCal ∧
      t = { withEvents s t with uhf := t.uhf } := by
  have hframe := calReported_frame ok tune dur s
  generalize calReported ok tune dur s = u at hframe
  rw [hframe]
  exact ⟨rfl, rfl, rfl, rfl, rfl, rfl, rfl, rfl⟩

end

/-! ### Lock -/

section
variable (hs : s.uhf.state = .settle) (hl : s.uhf.locked = false) (ha : s.uhf.access = none)
include hs hl ha

theorem exec_uhfLock_unasked (hr : s.uhf.serving = none) : ∃ t, exec .uhfLock s = .next t ∧
    t = { s with uhf := { s.uhf with locked := true, failed := false } } :=
  ⟨_, (exec_uhfLock_settling hs hl).trans (next_congr (lockNow_host hs hl (accessTaken_none ha))), uhfTry_none hr⟩

/-- Lock, with the conditions of R232 met, makes the request ready to start. -/
theorem exec_uhfLock_ready {r : UhfReq} (hr : s.uhf.serving = some r) (hw : s.uhf.window = none) (hd : s.now ≤ r.deadline)
    (hlead : leadOver r s = true) (hg : gntOk r s = true) :
    let u := s.modUhf (fun u => { u with locked := true, failed := false })
    exec .uhfLock s = .next (uhfTry u) ∧ StartReady r u :=
  ⟨(exec_uhfLock_settling hs hl).trans (next_congr (lockNow_host hs hl (accessTaken_none ha))),
    hr, hs, rfl, accessTaken_none ha, hlead, hg, hw, hd⟩

theorem exec_uhfLockTimeout_fails {r : UhfReq} (hf : s.uhf.failed = true) (hr : s.uhf.serving = some r) (ht : r.ticket < 128)
    (hq : s.uhf.queue = []) : ∃ t d, exec .uhfLockTimeout s = .next t ∧ RequestEnded r St.uhfLockFail d (lockFailed s) t := by
  have hframe := lockFailed_frame s
  have hserving : (lockFailed s).uhf.serving = some r := by rw [hframe]; exact hr
  have hqueue : (lockFailed s).uhf.queue = [] := by rw [hframe]; exact hq
  obtain ⟨d, hend⟩ := uhfFail_ended hserving ht St.uhfLockFail 1
  exact ⟨_, d, (exec_uhfLockTimeout_settling hs hl).trans (next_congr (lockTimeout_second hs hl hf ha)), hend.idle hqueue⟩

end

theorem exec_uhfLockTimeout_lost {x : AccWin} (hs : s.uhf.state = .settle) (hl : s.uhf.locked = false) (hf : s.uhf.failed = true)
    (hx : s.uhf.access = some x) (hb : x.begun = true) (hlost : x.lost = false) : ∃ t, exec .uhfLockTimeout s = .next t ∧
      t.uhf.access = some { x with lost := true } ∧ t.uhf.lockFails = satAdd 0xFFFF s.uhf.lockFails 1 ∧
      Logged s.now 0x0704 0 0xFF (leBytes 1 3 ++ leBytes 1 0 ++ zeros 2 ++ leBytes 4 (s.uhf.freq / 1000)) s t := by
  obtain ⟨haccess, hfails, hsafe⟩ := accessBack_kept (w := x) (x := { x with lost := true })
    (s := (lockFailed s).modUhf (fun u => { u with access := some { x with lost := true }, failed := false })) rfl hb
  refine ⟨_, (exec_uhfLockTimeout_settling hs hl).trans (next_congr (lockTimeout_window hs hl hf hx hb hlost)), haccess, ?_,
    (lockFailed_logged s).of_safe hsafe⟩
  rw [hfails, State.modUhf_uhf, lockFailed_frame]

/-! ### The ramps -/

section
variable {r : UhfReq} (hr : s.uhf.serving = some r)
include hr

theorem exec_uhfRampUpDone_tx (hs : s.uhf.state = .txRamp) (hc : clearUntil (s.uhf.started + lsbOfUs 16) s = true) :
    ∃ t, exec .uhfRampUpDone s = .next t ∧
      t.uhf = { s.uhf with state := .tx, sent := ((s.work r.ticket).map (fun w => airPacket w.req.payload)).getD [] } ∧
      t.now = (reach (s.uhf.started + lsbOfUs 16) s).now ∧ t = { s with time := t.time, uhf := t.uhf } := by
  refine ⟨_, next_congr ((if_pos hs).trans (atDue_clear hc)), ?_⟩
  rw [reach_frame]
  refine ⟨?_, rfl, rfl⟩
  dsimp only [State.modUhf]
  rw [hr]
  rfl

theorem exec_uhfTxEnd_down (hs : s.uhf.state = .tx) (hc : clearUntil (s.uhf.started + lsbOfUs (r.airtime - 16)) s = true) :
    ∃ t, exec .uhfTxEnd s = .next t ∧ t.uhf = { s.uhf with state := .txDown, downAt := t.now + lsbOfUs 16 } ∧
      t.now = (reach (s.uhf.started + lsbOfUs (r.airtime - 16)) s).now ∧ t = { s with time := t.time, uhf := t.uhf } := by
  have hexec : exec .uhfTxEnd s = .next ((reach (s.uhf.started + lsbOfUs (r.airtime - 16)) s).modUhf (fun u => { u with
      state := .txDown, downAt := (reach (s.uhf.started + lsbOfUs (r.airtime - 16)) s).now + lsbOfUs 16 })) := by
    refine next_congr ?_
    rw [hr]
    exact (if_pos hs).trans (atDue_clear hc)
  refine ⟨_, hexec, ?_⟩
  rw [reach_frame]
  exact ⟨rfl, rfl, rfl⟩

theorem exec_uhfRampDownDone_ends (hs : s.uhf.state = .txDown) (hc : clearUntil s.uhf.downAt s = true) (hq : s.uhf.queue = [])
    (ht : r.ticket < 128) (hn : ∀ n : Fin 8, s.nat 2 4 n.val ≠ 0x60) : ∃ t, exec .uhfRampDownDone s = .next t ∧
      RequestEnded r (if s.uhf.cut ≠ 0 then St.uhfTxCut else if r.clamped then St.uhfClamped else St.ok)
        (txReply s.uhf.started (reach s.uhf.downAt s).now r.airtime r.power s.uhf.cut r.band 0)
        (txReported r (reach s.uhf.downAt s)) t := by
  have hframe := txReported_frame r (reach s.uhf.downAt s)
  have hserving : (txReported r (reach s.uhf.downAt s)).uhf.serving = some r := by rw [hframe]; simpa using hr
  have hqueue : (txReported r (reach s.uhf.downAt s)).uhf.queue = [] := by rw [hframe]; simpa using hq
  exact ⟨_, exec_uhfRampDownDone hr hs hc hn, uhfDone_ended hserving ht _ _ hqueue⟩

end

/-- Settles O47: each clause is the rule of its command in the state it names; a request that ends does so by `RequestEnded`. -/
theorem frontEndStates : Obligations.FrontEndStates := by
  unfold Obligations.FrontEndStates
  intro ok band codes dur s
  refine ⟨exec_uhfCalDone_elsewhere, fun r hs hr => ⟨fun hk ha => ?settles, fun hk ht hq ha => ?ends⟩,
    fun x hx hb hlost => ⟨fun hs => ?window, fun hs hl => ?receiver, fun hs hl hf => exec_uhfLockTimeout_lost hs hl hf hx hb hlost⟩,
    fun hs ha hl => ⟨exec_uhfLock_unasked hs hl ha, fun r hr hw hd hlead hg => ?starts, fun hf => ?again,
      fun r hf hr _ ht hq => ?fails⟩, fun hs => ?lostRx, fun hs => ?lostTx,
    fun r hr => ⟨exec_uhfRampUpDone_tx hr, exec_uhfTxEnd_down hr, fun hs hc hq ht hband hn => ?completes⟩⟩
  case settles =>
    obtain ⟨hstate, hfreq, hlocked, hserving, hoffset, hrecords, hlast, hframe⟩ :=
      settled_calReported (ok := ok) (tune := { band, codes }) (dur := dur) r.freq s
    have hcal := calRecorded_records ok { band, codes } s
    rw [← hrecords, ← hlast] at hcal
    exact ⟨_, exec_uhfCalDone_settles hs hr hk ha, hstate, hfreq, hlocked, hserving.trans hr, hoffset, hcal.1, hcal.2,
      calReported_logged ok _ dur s, hframe⟩
  case ends =>
    obtain ⟨t, hexec, hend⟩ := exec_uhfCalDone_ends (ok := ok) (tune := { band, codes }) (dur := dur) hs hr hk hq ht ha
    exact ⟨t, hexec, hend.serving, hend.completed, hend.status, hend.keep⟩
  case window =>
    obtain ⟨hstate, hfreq, -, hserving, -, -, -, hframe⟩ :=
      settled_calReported (ok := ok) (tune := { band, codes }) (dur := dur) x.freq s
    exact ⟨_, exec_uhfCalDone_window hs hx hb hlost, hstate, hfreq, hserving, hframe⟩
  case receiver =>
    exact ⟨_, (exec_uhfLock_settling hs hl).trans (next_congr (lockNow_window hs hl (accessTaken_begun hx hb hlost))), rfl⟩
  case starts =>
    obtain ⟨hexec, hready⟩ := exec_uhfLock_ready hs hl ha hr hw hd hlead hg
    exact ⟨fun hk hf => ⟨_, hexec, uhfTry_tx hready hk hf⟩, fun hk => ⟨_, hexec, uhfTry_rx hready hk⟩⟩
  case again => exact ⟨_, (exec_uhfLockTimeout_settling hs hl).trans (next_congr (lockTimeout_first hs hl hf)), rfl⟩
  case fails =>
    obtain ⟨t, d, hexec, hend⟩ := exec_uhfLockTimeout_fails hs hl ha hf hr ht hq
    refine ⟨t, hexec, hend.completed, hend.status, hend.serving, ?_, hend.logged (lockFailed_logged s)⟩
    rw [hend.uhf, lockFailed_frame]
    rfl
  case lostRx =>
    refine ⟨_, exec_uhfLockLost_rx hs, ?_, lockEvent_logged 1 4 s, ?_⟩
    all_goals rw [lockEvent_frame]; rfl
  case lostTx =>
    refine ⟨_, exec_uhfLockLost_tx hs, ?_, lockEvent_logged 1 6 s, ?_⟩
    all_goals rw [lockEvent_frame]; rfl
  case completes =>
    obtain ⟨t, hexec, hend⟩ := exec_uhfRampDownDone_ends hr hs hc hq ht hn
    have hframe := txReported_frame r (reach s.uhf.downAt s)
    have hlogged := hend.logged (txReported_logged r (reach s.uhf.downAt s))
    refine ⟨t, hexec, hend.serving, ?_, ?_, ?_, hend.completed, hend.status, hend.keep.trans (txReply_take ..), ?_⟩
    · rw [hend.now, hframe]
      rfl
    · rw [hend.uhf, hframe]
      simp [Uhf.ended, Uhf.taken, Uhf.tuned]
    · rw [hend.uhf, hframe]
      exact tget_tmod_same _ _ _ hband
    · simpa [Logged] using hlogged

end Sys2Proof.Machine
end

section
/-! SUPPORT. How an accepted request of the host reaches the front end: the checks of UHF.TX and UHF.RX, and its place among those
that wait (R231, R232, R241–R246). -/

namespace Sys2Proof.Machine

variable {s t : State} {tk : Nat} {w : Work}

/-! ### What does not become new again -/

/-- From `s` to `t` every request that waited or was served still does, and no ticket has come back to ACCEPTED. -/
structure Lined (s t : State) : Prop where
  kept : ∀ k, uhfHas k s = true → uhfHas k t = true
  accepted : ∀ k, (t.ticket k).state = .accepted → (s.ticket k).state = .accepted

theorem Lined.refl (s : State) : Lined s s := ⟨fun _ h => h, fun _ h => h⟩

theorem Lined.trans {r : State} (h : Lined r s) (k : Lined s t) : Lined r t :=
  ⟨fun n hn => k.kept n (h.kept n hn), fun n hn => h.accepted n (k.accepted n hn)⟩

/-- A change elsewhere. -/
theorem Lined.elsewhere (hv : t.uhf.serving = s.uhf.serving) (hq : t.uhf.queue = s.uhf.queue) (ht : t.sheet = s.sheet) :
    Lined s t where
  kept k hk := by
    unfold uhfHas at *
    rw [hv, hq]
    exact hk
  accepted k hk := by
    unfold State.ticket at *
    rw [← ht]
    exact hk

/-- A ticket's entry changed, but not to ACCEPTED. -/
theorem Lined.modTicket {f : TicketEntry → TicketEntry} (hf : ∀ e, (f e).state ≠ .accepted) : Lined s (s.modTicket tk f) where
  kept _ hk := hk
  accepted k := tget_tmod_of (P := fun e : TicketEntry => e.state = .accepted → (s.ticket k).state = .accepted) id
    fun h => absurd h (hf _)

theorem Lined.complete (st : Nat) (d : Bytes) : Lined s (complete tk st d s) :=
  .trans (.modTicket (f := fun e => e.finish st d) fun _ => TicketState.noConfusion) (.elsewhere rfl rfl rfl)

theorem uhfHas_iff {k : Nat} :
    uhfHas k s = true ↔ ∃ r, (s.uhf.serving = some r ∨ r ∈ s.uhf.queue) ∧ r.ticket = k := by
  simp [uhfHas, or_and_right, exists_or]

theorem Tuned.lined (h : Tuned s t) : Lined s t := by
  unfold Tuned at h
  rw [h]
  exact .elsewhere rfl rfl rfl

theorem headStarted_lined {r : UhfReq} {rest : List UhfReq} (hv : s.uhf.serving = none) (hq : s.uhf.queue = r :: rest) :
    Lined s (headStarted r rest s) where
  kept k hk := by
    obtain ⟨x, hx, hticket⟩ := uhfHas_iff.mp hk
    simp only [hv, hq, reduceCtorEq, List.mem_cons, false_or] at hx
    obtain rfl | hx := hx
    · exact uhfHas_iff.mpr ⟨servedReq x s, .inl rfl, (servedReq_ticket x s).trans hticket⟩
    · exact uhfHas_iff.mpr ⟨x, .inr hx, hticket⟩
  accepted := (Lined.modTicket (f := fun e => { e with state := .running }) fun _ => TicketState.noConfusion).accepted

theorem uhfPick_lined (s : State) : Lined s (uhfPick s) := by
  obtain hid | ⟨r, rest, hv, hq, htuned⟩ := uhfPick_cases s
  · rw [hid]
    exact .refl s
  · exact (headStarted_lined hv hq).trans htuned.lined

theorem mem_insertReq {r x : UhfReq} : ∀ {l : List UhfReq}, x ∈ insertReq r l ↔ x = r ∨ x ∈ l
  | [] => by simp [insertReq]
  | y :: l => by
    unfold insertReq
    split
    · simp
    · rw [List.mem_cons, List.mem_cons, mem_insertReq (l := l), or_left_comm]

/-- The state in which a request has its place among those that wait, and a transmission asks for the air (R231, R238). -/
def queued (r : UhfReq) (s : State) : State :=
  s.modUhf (fun u => let v := { u with queue := insertReq r u.queue }
    if r.kind = .tx ∧ r.coex ≠ 0 then { v with req := true, pri := r.priority } else v)

theorem uhfJoin_eq (r : UhfReq) (s : State) : uhfJoin r s = uhfPick (queued r s) := rfl

theorem queued_frame (r : UhfReq) (s : State) : queued r s = { s with uhf := { s.uhf with
    queue := insertReq r s.uhf.queue, req := (queued r s).uhf.req, pri := (queued r s).uhf.pri } } := by
  unfold queued State.modUhf
  dsimp only
  split <;> rfl

theorem queued_lined (r : UhfReq) (s : State) : Lined s (queued r s) where
  kept k hk := by
    obtain ⟨x, hx, hticket⟩ := uhfHas_iff.mp hk
    rw [queued_frame]
    exact uhfHas_iff.mpr ⟨x, hx.imp_right fun h => mem_insertReq.mpr (.inr h), hticket⟩
  accepted k hk := hk

theorem uhfJoin_lined (r : UhfReq) (s : State) : Lined s (uhfJoin r s) := (queued_lined r s).trans (uhfPick_lined _)

/-- A request that has joined waits or is served. -/
theorem uhfJoin_has (r : UhfReq) (s : State) : uhfHas r.ticket (uhfJoin r s) = true := by
  rw [uhfJoin_eq]
  refine (uhfPick_lined _).kept _ ?_
  rw [queued_frame]
  exact uhfHas_iff.mpr ⟨r, .inr (mem_insertReq.mpr (.inl rfl)), rfl⟩

/-- Joining charges nothing. -/
theorem uhfJoin_ledger (r : UhfReq) (s : State) :
    (uhfJoin r s).uhf.ledger = s.uhf.ledger ∧ (uhfJoin r s).uhf.lastEnd = s.uhf.lastEnd := by
  rw [uhfJoin_eq, uhfPick_headServed, queued_frame]
  exact ⟨rfl, rfl⟩

/-! ### The checks -/

/-- The ledger at the present minute (R244). -/
def rolled (s : State) : State := s.modUhf (fun u => u.roll s.now)

/-- The request that an admitted UHF.TX makes. -/
def txRequest (tk : Nat) (w : Work) (b : Nat) (s : State) : UhfReq :=
  let want := sext 8 (u8At w.req.payload 14)
  let most := bandPower (bandAt s.uhf.charter b)
  { ticket := tk, kind := .tx, freq := u32At w.req.payload 0, deadline := w.accept + lsbOfUs (uhfDeadline w.req.deadline)
    reqAt := w.accept, band := b, airtime := airtimeUs w.req.payload + 32, minute := s.uhf.minute, power := min want most
    clamped := decide (most < want), priority := u8At w.req.payload 15 % 2 == 1, coex := s.nat 7 2, order := w.order }

/-- A UHF.TX refused with a status, and what the reply gives of band and wait (R243, R246). -/
abbrev txRefused (tk st : Nat) (w : Work) (band wait : Nat) (s : State) : State :=
  txRefuse tk st (airtimeUs w.req.payload + 32) (sext 8 (u8At w.req.payload 14)) band wait s

theorem admitTx_charter (h : s.charterValid = false ∨ s.charterLocked = false ∧ s.power.mode ≠ .workshop) :
    admitTx tk w s = txRefused tk St.uhfCharter w 0xFF 0 (rolled s) := by
  unfold admitTx
  exact if_pos h

/-- The first check of R243 is passed. -/
theorem charterPassed (hv : s.charterValid = true) (hl : s.charterLocked = true ∨ s.power.mode = .workshop) :
    ¬(s.charterValid = false ∨ s.charterLocked = false ∧ s.power.mode ≠ .workshop) := by
  rintro (hinvalid | ⟨hunlocked, hmode⟩)
  · simp [hv] at hinvalid
  · exact hl.elim (by simp [hunlocked]) hmode

/-- The second check of R243 is passed. -/
theorem bandPassed {e : Bytes} (hoff : (bandFlags e).testBit 0 = false)
    (hfmt : (bandFlags e).testBit 1 = false ∨ u8At w.req.payload 12 ≠ 0) :
    ¬((bandFlags e).testBit 0 = true ∨ (bandFlags e).testBit 1 = true ∧ u8At w.req.payload 12 = 0) := by
  rintro (hset | ⟨hset, hzero⟩)
  · simp [hoff] at hset
  · exact hfmt.elim (by simp [hset]) (· hzero)

section
variable (hv : s.charterValid = true) (hl : s.charterLocked = true ∨ s.power.mode = .workshop)
include hv hl

theorem admitTx_channel (hb : bandOf s.uhf.charter (u32At w.req.payload 0) = none) :
    admitTx tk w s = txRefused tk St.uhfChannel w 0xFF 0 (rolled s) := by
  have hcharter := charterPassed (s := rolled s) hv hl
  have hband : bandOf (rolled s).uhf.charter (u32At w.req.payload 0) = none := hb
  unfold admitTx rolled at *
  dsimp only
  rw [if_neg hcharter, hband]

/-- The duty ledger refuses a UHF.TX that has passed the other checks, or lets it join. -/
theorem admitTx_permitted {b : Nat} (hb : bandOf s.uhf.charter (u32At w.req.payload 0) = some b)
    (hoff : (bandFlags (bandAt s.uhf.charter b)).testBit 0 = false)
    (hfmt : (bandFlags (bandAt s.uhf.charter b)).testBit 1 = false ∨ u8At w.req.payload 12 ≠ 0) :
    (∀ d, dutyWait b (airtimeUs w.req.payload + 32) (rolled s) = some d →
      admitTx tk w s = txRefused tk St.uhfDuty w b d (rolled s).useFree) ∧
    (dutyWait b (airtimeUs w.req.payload + 32) (rolled s) = none → admitTx tk w s = uhfJoin (txRequest tk w b (rolled s))
      ((rolled s).modUhf (fun u => u.charge b (airtimeUs w.req.payload + 32)))) := by
  have hcharter := charterPassed (s := rolled s) hv hl
  have hband : bandOf (rolled s).uhf.charter (u32At w.req.payload 0) = some b := hb
  have hflags := bandPassed (e := bandAt (rolled s).uhf.charter b) hoff hfmt
  unfold admitTx rolled at *
  dsimp only
  rw [if_neg hcharter, hband]
  dsimp only
  rw [if_neg hflags]
  exact ⟨fun d hd => by rw [hd], fun hd => by rw [hd]; rfl⟩

end

/-- The request that an admitted UHF.RX makes. -/
def rxRequest (tk : Nat) (w : Work) : UhfReq :=
  { ticket := tk, kind := .rx, freq := u32At w.req.payload 0, deadline := w.accept + lsbOfUs (uhfDeadline w.req.deadline)
    order := w.order }

theorem admitRx_charter (h : s.charterValid = false) : admitRx tk w s = complete tk St.uhfCharter (rxReply {}) s := if_pos h

theorem admitRx_channel (hv : s.charterValid = true) (hm : s.inMask (u32At w.req.payload 0) = false) :
    admitRx tk w s = complete tk St.uhfChannel (rxReply {}) s := (if_neg (by simp [hv])).trans (if_pos hm)

theorem admitRx_joins (hm : s.inMask (u32At w.req.payload 0) = true) : admitRx tk w s = uhfJoin (rxRequest tk w) s := by
  have hv : s.charterValid = true := (Bool.and_eq_true_iff.mp hm).1
  exact (if_neg (by simp [hv])).trans (if_neg (by simp [hm]))

/-- The request that a UHF.CALIBRATE makes. -/
def calRequest (tk : Nat) (w : Work) (s : State) : UhfReq :=
  { ticket := tk, kind := .cal, freq := if u32At w.req.payload 0 = 0 then accessFreq s else u32At w.req.payload 0, order := w.order }

theorem admitCal_joins : admitCal tk w s = uhfJoin (calRequest tk w s) s := rfl

/-! ### Admission in acceptance order -/

theorem txRefused_lined (st band wait : Nat) : Lined s (txRefused tk st w band wait s) := by
  refine Lined.trans (s := notSent st 0 tk s) ?_ (.complete ..)
  unfold notSent
  exact .elsewhere (by rw [emit_uhf]) (by rw [emit_uhf]) (emit_sheet ..)

theorem rolled_lined (s : State) : Lined s (rolled s) := .elsewhere rfl rfl rfl

theorem admitTx_lined (tk : Nat) (w : Work) (s : State) : Lined s (admitTx tk w s) := by
  refine (rolled_lined s).trans ?_
  unfold admitTx
  dsimp only
  split
  · exact txRefused_lined ..
  · split
    · exact txRefused_lined ..
    · split
      · exact txRefused_lined ..
      · split
        · exact Lined.trans (s := (rolled s).useFree) (.elsewhere rfl rfl rfl) (txRefused_lined ..)
        · next b _ _ _ _ =>
          have hcharged : Lined (rolled s) ((rolled s).modUhf (fun u => u.charge b (airtimeUs w.req.payload + 32))) :=
            .elsewhere rfl rfl rfl
          exact hcharged.trans (uhfJoin_lined ..)

theorem admitRx_lined (tk : Nat) (w : Work) (s : State) : Lined s (admitRx tk w s) := by
  unfold admitRx
  dsimp only
  split
  · exact .complete ..
  · split
    · exact .complete ..
    · exact uhfJoin_lined ..

theorem uhfAdmit_lined (s : State) (p : Nat × Work) : Lined s (uhfAdmit s p) := by
  unfold uhfAdmit
  split
  · exact .refl s
  · split
    · exact admitTx_lined ..
    · split
      · exact admitRx_lined ..
      · exact uhfJoin_lined ..

/-- What has been looked at is not looked at again. -/
theorem Lined.uhfNew_false (h : Lined s t) {p : Nat × Work} (hp : uhfNew s p = false) : uhfNew t p = false := by
  by_contra hnew
  simp only [uhfNew, Bool.not_eq_false, Bool.and_eq_true, beq_iff_eq, Bool.not_eq_true'] at hnew
  obtain ⟨⟨hop, hstate⟩, hhas⟩ := hnew
  have hhas' : uhfHas p.1 s = false := Bool.eq_false_iff.mpr fun hk => by simp [h.kept _ hk] at hhas
  simp only [uhfNew, hop, h.accepted _ hstate, hhas', beq_self_eq_true, Bool.not_false, Bool.and_self, reduceCtorEq] at hp

/-- Commands that are not new are passed over. -/
theorem foldl_uhfAdmit_old : ∀ {l : List (Nat × Work)}, (∀ p ∈ l, uhfNew s p = false) → l.foldl uhfAdmit s = s
  | [], _ => rfl
  | p :: l, h => by
    rw [List.foldl_cons, uhfAdmit, if_pos (h p List.mem_cons_self)]
    exact foldl_uhfAdmit_old fun q hq => h q (List.mem_cons_of_mem p hq)

/-- Where one command alone is new, it alone is admitted. -/
theorem foldl_uhfAdmit_one {p : Nat × Work} {l : List (Nat × Work)} (h : l.filter (uhfNew s) = [p]) :
    l.foldl uhfAdmit s = uhfAdmit s p := by
  obtain ⟨before, after, rfl, hbefore, -, hafter⟩ := List.filter_eq_cons_iff.mp h
  have hold : ∀ q ∈ before, uhfNew s q = false := fun q hq => Bool.eq_false_iff.mpr (hbefore q hq)
  have hlate : ∀ q ∈ after, uhfNew s q = false := fun q hq => Bool.eq_false_iff.mpr (List.filter_eq_nil_iff.mp hafter q hq)
  rw [List.foldl_append, foldl_uhfAdmit_old hold, List.foldl_cons]
  exact foldl_uhfAdmit_old fun q hq => (uhfAdmit_lined s p).uhfNew_false (hlate q hq)

/-- The command of ticket `tk` is the next that the front end looks at. -/
structure NextRequest (tk : Nat) (w : Work) (s : State) : Prop where
  running : s.stew.running = true
  work : s.work tk = some w
  alone : (s.flight.filter (fun x => decide (x.2.order ≤ w.order))).filter (uhfNew s) = [(tk, w)]

theorem NextRequest.admits (h : NextRequest tk w s) {op : Nat} (hop : w.req.opcode = op) :
    uhfCommand tk op s = uhfAdmit s (tk, w) := by
  unfold uhfCommand
  rw [h.work]
  exact (if_pos ⟨h.running, hop⟩).trans (foldl_uhfAdmit_one h.alone)

theorem NextRequest.new (h : NextRequest tk w s) : uhfNew s (tk, w) = true :=
  (List.mem_filter.mp (h.alone ▸ List.mem_cons_self : (tk, w) ∈ _)).2

theorem NextRequest.tx (h : NextRequest tk w s) (hop : w.req.opcode = 0x0702) : uhfCommand tk 0x0702 s = admitTx tk w s := by
  rw [h.admits hop, uhfAdmit, if_neg (by simp [h.new]), if_pos hop]

theorem NextRequest.rx (h : NextRequest tk w s) (hop : w.req.opcode = 0x0703) : uhfCommand tk 0x0703 s = admitRx tk w s := by
  rw [h.admits hop, uhfAdmit, if_neg (by simp [h.new]), if_neg (by simp [hop]), if_pos hop]

theorem NextRequest.cal (h : NextRequest tk w s) (hop : w.req.opcode = 0x0704) : uhfCommand tk 0x0704 s = admitCal tk w s := by
  rw [h.admits hop, uhfAdmit, if_neg (by simp [h.new]), if_neg (by simp [hop]), if_neg (by simp [hop])]

end Sys2Proof.Machine
end

section
/-! SUPPORT. Starts, deadlines, receive windows and the wires of the host's requests, and the minutes of the duty ledger (R231–R233,
R236–R238, R243–R246). -/

namespace Sys2Proof.Machine

variable {s t : State} {r : UhfReq}

/-! ### Deadlines -/

theorem exec_uhfTxDeadline_starts {x : Nat} (hr : firstDeadline s = some r) (hx : uhfStartAt s = some x) (hle : x ≤ r.deadline)
    (hc : clearUntil x s = true) : exec .uhfTxDeadline s = .next (uhfTry (reach x s)) := by
  refine next_congr ?_
  rw [hr]
  dsimp only
  rw [hx]
  exact (if_pos hle).trans (atDue_clear hc)

theorem exec_uhfTxDeadline_late (hr : firstDeadline s = some r) (hx : ∀ x, uhfStartAt s = some x → r.deadline < x)
    (hc : clearUntil r.deadline s = true) : exec .uhfTxDeadline s = .next (deadlineOver r (reach r.deadline s)) := by
  refine next_congr ?_
  rw [hr]
  dsimp only
  split
  · next x hstart => exact (if_neg (Nat.not_le.mpr (hx x hstart))).trans (atDue_clear hc)
  · exact atDue_clear hc

/-- The status of a request that is late (R232). -/
abbrev lateStatus (r : UhfReq) : Nat := if r.kind = .tx then St.txLate else St.uhfRxLate

/-- From `s` to `t` the request has ended late: its ticket has completed, at the present time. -/
structure EndedLate (r : UhfReq) (s t : State) : Prop where
  completed : (t.ticket r.ticket).state = .completed
  status : (t.ticket r.ticket).status = lateStatus r
  time : t.time = s.time

/-- The request served is late before it has started. -/
theorem deadlineOver_served (hr : s.uhf.serving = some r) (ht : r.ticket < 128) (hq : s.uhf.queue = []) :
    EndedLate r s (deadlineOver r s) := by
  obtain ⟨d, hend⟩ := uhfFail_ended hr ht (lateStatus r) (unmet r s)
  have hidle := hend.idle hq
  unfold deadlineOver
  rw [if_pos hr]
  dsimp only
  split
  · exact ⟨hend.completed, hend.status, hend.time⟩
  · exact ⟨hidle.completed, hidle.status, hidle.time⟩

/-- The state in which a request waits no more. -/
def unqueued (r : UhfReq) (s : State) : State :=
  s.modUhf (fun u => { u with queue := u.queue.filter (fun x => x.ticket != r.ticket) })

theorem lateWaiting_tx (hk : r.kind = .tx) (s : State) : ∃ d cause, lateWaiting r s =
    uhfWires (complete r.ticket St.txLate d (reservationReleased St.txLate cause r (unqueued r s))) := by
  unfold lateWaiting
  rw [hk]
  exact ⟨_, _, rfl⟩

theorem lateWaiting_rx (hk : r.kind = .rx) (s : State) :
    lateWaiting r s = complete r.ticket St.uhfRxLate (rxReply {}) (unqueued r s) := by
  unfold lateWaiting
  rw [hk]
  rfl

theorem complete_endedLate {st : Nat} {u : State} (d : Bytes) (ht : r.ticket < 128) (hst : lateStatus r = st)
    (hu : u.time = s.time) : EndedLate r s (complete r.ticket st d u) :=
  ⟨(answered_complete u ht).completed, (answered_complete u ht).status.trans hst.symm, hu⟩

theorem EndedLate.wires (h : EndedLate r s t) : EndedLate r s (uhfWires t) := by
  rw [uhfWires_frame]
  exact ⟨h.completed, h.status, h.time⟩

/-- A request that waits is late. -/
theorem lateWaiting_ends (ht : r.ticket < 128) (hk : r.kind ≠ .cal) : EndedLate r s (lateWaiting r s) := by
  cases hkind : r.kind with
  | tx =>
    obtain ⟨d, cause, hlate⟩ := lateWaiting_tx hkind s
    have htime : (reservationReleased St.txLate cause r (unqueued r s)).time = s.time := by rw [reservationReleased_frame]; rfl
    rw [hlate]
    exact (complete_endedLate d ht (if_pos hkind) htime).wires
  | rx =>
    rw [lateWaiting_rx hkind]
    exact complete_endedLate _ ht (if_neg (by simp [hkind])) rfl
  | cal => exact absurd hkind hk

theorem deadlineOver_late (ht : r.ticket < 128) (hk : r.kind ≠ .cal) (h : s.uhf.serving ≠ some r ∨ s.uhf.queue = []) :
    EndedLate r s (deadlineOver r s) := by
  by_cases hr : s.uhf.serving = some r
  · exact deadlineOver_served hr ht (h.resolve_left (not_not_intro hr))
  · unfold deadlineOver
    rw [if_neg hr]
    exact lateWaiting_ends ht hk

/-! ### The end of a receive window -/

/-- From `s` to `t` the access engine has changed, and what events change. -/
def PollTold (s t : State) : Prop := t = { withEvents s t with access := t.access }

theorem PollTold.trans {q : State} (h : PollTold q s) (k : PollTold s t) : PollTold q t := by
  unfold PollTold at *
  rw [k, h]

theorem emit_told (src code node tk : Nat) (d : Bytes) (s : State) : PollTold s (emit src code d node tk s) := by
  unfold PollTold
  rw [emit_access]
  exact emit_frame ..

theorem missPoll_told (n : Nat) (s : State) : PollTold s (missPoll n s) := by
  have hframe := (unsettle_unsettled n s).frame
  unfold missPoll
  split
  · unfold PollTold
    rw [hframe]
  · rfl

/-- The end of a poll cycle is the access engine's alone (R181, R200). -/
theorem closePoll_told (s : State) : PollTold s (closePoll s) := by
  have hfold : ∀ (l : List Nat) (u : State), PollTold u (l.foldl (fun t n => missPoll n t) u) := by
    intro l
    induction l with
    | nil => exact fun _ => rfl
    | cons n l ih => exact fun u => (missPoll_told n u).trans (ih _)
  unfold closePoll
  split
  · exact .trans (.trans (hfold _ s) (t := State.modAccess _ _) rfl) (emit_told ..)
  · rfl

/-- What the end of a receive window does, but for the poll cycle that ends with it. -/
theorem exec_uhfRxWindowEnd_told (s : State) : ∃ t, exec .uhfRxWindowEnd s = .next t ∧ PollTold (rxWindowEnd s) t := by
  refine ⟨_, rfl, ?_⟩
  dsimp only
  split
  · split
    · exact closePoll_told _
    · rfl
  · rfl

/-- A host window that no access window shares is over at its end (R246). -/
theorem rxWindowEnd_host {x : UhfWindow} {w : Work} (hr : s.uhf.serving = some r) (hx : s.uhf.window = some x)
    (ha : s.uhf.access = none) (hw : s.work r.ticket = some w) (hmost : x.packets.length < u8At w.req.payload 15)
    (hc : clearUntil x.end_ s = true) : rxWindowEnd s = windowEnd x (reach x.end_ s) := by
  unfold rxWindowEnd
  rw [hx, hr, ha]
  dsimp only
  rw [hw]
  dsimp only [Option.map_some, Option.getD_some]
  rw [if_neg (Nat.not_le.mpr hmost)]
  exact atDue_clear hc

theorem exec_uhfRxWindowEnd_host {x : UhfWindow} {w : Work} (hr : s.uhf.serving = some r) (hx : s.uhf.window = some x)
    (ha : s.uhf.access = none) (ht : r.ticket < 128) (hq : s.uhf.queue = []) (hw : s.work r.ticket = some w)
    (hmost : x.packets.length < u8At w.req.payload 15) (hc : clearUntil x.end_ s = true) :
    ∃ t, exec .uhfRxWindowEnd s = .next t ∧ t.uhf.window = none ∧ t.uhf.serving = none ∧
      (t.ticket r.ticket).state = .completed ∧
      (t.ticket r.ticket).status = (if x.truncated then St.uhfRxTruncated else St.ok) ∧
      (t.ticket r.ticket).keep = (rxReply x).take 64 := by
  obtain ⟨t, hexec, htold⟩ := exec_uhfRxWindowEnd_told s
  rw [rxWindowEnd_host hr hx ha hw hmost hc] at htold
  have hend : RequestEnded r (if x.truncated then St.uhfRxTruncated else St.ok) (rxReply x) (reach x.end_ s)
      (windowEnd x (reach x.end_ s)) := uhfDone_ended (by simpa using hr) ht _ _ (by simpa using hq)
  refine ⟨t, hexec, ?_⟩
  rw [htold]
  exact ⟨hend.window, hend.serving, hend.completed, hend.status, hend.keep⟩

/-! ### Packets -/

section
variable {p : UhfPacket}

/-- A packet that comes while the host's window is open goes to it (R231, R236). -/
theorem exec_uhfPacketReceived_host {x : UhfWindow} {w : Work} (hr : s.uhf.serving = some r) (hx : s.uhf.window = some x)
    (ha : accessTaken s = false) (hs : s.uhf.state = .rx) (he : s.now < x.end_) (hw : s.work r.ticket = some w) :
    let a := hostPacket (u8At w.req.payload 13) (u8At w.req.payload 14) (u8At w.req.payload 15) p x
    exec (.uhfPacketReceived p) s = .next (s.modUhf (fun u =>
      if a.2 then { u with window := some a.1, rxPackets := wrapAdd 32 u.rxPackets 1 } else { u with window := some a.1 })) := by
  refine next_congr ?_
  rw [hx, hr]
  dsimp only
  rw [ha, hw]
  dsimp only [Option.map_some, Option.getD_some]
  rw [if_neg (by simp), if_pos ⟨hs, he⟩]

theorem hostPacket_bad {fmt fixed most : Nat} {x : UhfWindow} (hf : fmt ≠ 2) (hc : p.crcOk = false) :
    hostPacket fmt fixed most p x = ({ x with dropped := satAdd 0xFFFF x.dropped 1 }, false) := if_pos ⟨hf, hc⟩

theorem hostPacket_good {fmt fixed most : Nat} {x : UhfWindow} (hf : fmt ≠ 2) (hc : p.crcOk = true)
    (hmost : x.packets.length < most) : hostPacket fmt fixed most p x =
      ({ x with packets := x.packets ++ [packetEntry fmt p (p.body.take 240)] }, true) := by
  unfold hostPacket
  rw [if_neg (by simp [hc]), if_pos hmost, if_neg hf]

/-- A packet of an access window is counted (R231, R246). -/
theorem exec_uhfPacketReceived_access (hx : s.uhf.window = none) (hh : accessHears s = true) (hc : p.crcOk = true) :
    exec (.uhfPacketReceived p) s = .next (s.modUhf (fun u => { u with rxPackets := wrapAdd 32 u.rxPackets 1 })) := by
  refine next_congr ?_
  rw [hx]
  exact if_pos (by simp [hh, hc])

end

/-! ### The wires -/

theorem signalEdge_uhf (code : Nat) (rising : Bool) (s : State) : (signalEdge code rising s).uhf = s.uhf := by
  have hrouted : Routed 0 s (signalEdge code rising s) := .foldl (fun _ _ h => h.routedEdge ..) _ (.refl 0 s)
  rw [hrouted.frame]

/-- RF_GNT at a new level, with the edge of capture input 0x07 (R101, R238). -/
def grantSet (level : Bool) (s : State) : State :=
  (if s.uhf.gnt = level then s else signalEdge 0x07 level s).modUhf (fun u => { u with gnt := level })

theorem grantSet_uhf (level : Bool) (s : State) : (grantSet level s).uhf = { s.uhf with gnt := level } := by
  unfold grantSet
  split
  · rfl
  · rw [State.modUhf_uhf, signalEdge_uhf]

theorem grantSet_frame (level : Bool) (s : State) : grantSet level s =
    { (if s.uhf.gnt = level then s else signalEdge 0x07 level s) with uhf := { s.uhf with gnt := level } } := by
  have huhf := grantSet_uhf level s
  unfold grantSet at *
  generalize (if s.uhf.gnt = level then s else signalEdge 0x07 level s) = u at *
  rw [← huhf]
  rfl

/-- While no request is served, RF_GNT changes and nothing follows. -/
theorem exec_rfGntChange_unasked (level : Bool) (h : s.uhf.serving = none) :
    exec (.rfGntChange level) s = .next (grantSet level s) := by
  have hserving : (grantSet level s).uhf.serving = none := by rw [grantSet_uhf]; exact h
  unfold grantSet at *
  refine next_congr ?_
  dsimp only
  split
  · exact uhfTry_none hserving
  · rw [hserving]

/-- A transmission that asks for the air is cut when RF_GNT falls (R238, R247). -/
theorem exec_rfGntChange_cuts (hr : s.uhf.serving = some r) (hs : s.uhf.state = .tx) (hg : s.uhf.gnt = true) (hcoex : r.coex = 1)
    (hn : ∀ n : Fin 8, s.nat 2 4 n.val ≠ 7) : exec (.rfGntChange false) s =
      .next (cutTx 6 (emit 0x00A 0x0705 (zeros 1) 0 r.ticket (s.modUhf (fun u => { u with gnt := false })))) := by
  have hset : grantSet false s = s.modUhf (fun u => { u with gnt := false }) := by
    unfold grantSet
    rw [if_neg (by simp [hg]), signalEdge_unselected false hn]
  unfold grantSet at hset
  refine next_congr ?_
  dsimp only
  rw [hset, if_neg Bool.false_ne_true, State.modUhf_uhf, hr]
  exact (if_neg (by simp [hg, hs])).trans (if_pos hcoex)

/-- The end of UHF.COEX_LEAD lets a locked request start (R232). -/
theorem exec_coexLeadExpire_settling (hr : s.uhf.serving = some r) (hs : s.uhf.state = .settle)
    (hc : clearUntil (leadEnd r s) s = true) : exec .coexLeadExpire s = .next (uhfTry (reach (leadEnd r s) s)) := by
  refine next_congr ?_
  rw [hr]
  exact (if_pos hs).trans (atDue_clear hc)

/-! ### UHF.CALIBRATE -/

/-- While the front end is idle and nothing waits, a UHF.CALIBRATE starts at once (R231, R246). -/
theorem uhfJoin_cal (hk : r.kind = .cal) (ht : r.ticket < 128) (hs : s.uhf.state = .idle) (hv : s.uhf.serving = none)
    (hq : s.uhf.queue = []) (ha : accessTaken s = false) (hu : s.usable 5 = true) :
    (uhfJoin r s).uhf.state = .cal ∧ (uhfJoin r s).uhf.calCause = 5 ∧ (uhfJoin r s).uhf.freq = r.freq ∧
      ((uhfJoin r s).ticket r.ticket).state = .running := by
  have hqueued : queued r s = s.modUhf (fun u => { u with queue := [r] }) := by
    unfold queued State.modUhf
    simp [hk, hq, insertReq]
  have htaken : accessTaken (s.modUhf (fun u => { u with queue := [r] })) = false := ha
  have husable : (s.modUhf (fun u => { u with queue := [r] })).usable 5 = true := hu
  have hpick : uhfPick (queued r s) = enterCal r.freq 5 (headStarted r [] (queued r s)) := by
    rw [hqueued]
    unfold uhfPick
    rw [if_neg (by simp [hs, hv, htaken, husable])]
    exact if_pos hk
  rw [uhfJoin_eq, hpick]
  refine ⟨rfl, rfl, rfl, ?_⟩
  exact congrArg TicketEntry.state (ticket_modTicket_same _ ht)

end Sys2Proof.Machine
end

section
/-! SUPPORT. The host's requests of the transceiver, clause by clause (R231–R233, R236–R238, R241–R246). -/

namespace Sys2Proof.Machine

variable {s : State} {tk : Fin 128} {w : Work}

/-! ### UHF.TX -/

theorem notSent_logged (st k : Nat) (s : State) :
    Logged s.now 0x0703 0 k (leBytes 2 st ++ leBytes 1 0) s (notSent st 0 k s) := emit_logged 0x00A 0x0703 0 k _ s

theorem notSent_rolled_frame (st k : Nat) (s : State) :
    notSent st 0 k (rolled s) = { withEvents s (notSent st 0 k (rolled s)) with uhf := (rolled s).uhf } := by
  unfold notSent
  rw [emit_frame]
  rfl

section
variable (hn : NextRequest tk.val w s) (hop : w.req.opcode = 0x0702)
include hn hop

theorem exec_uhfTx_admits : exec (.uhfTx tk) s = .next (admitTx tk.val w s) := next_congr (hn.tx hop)

/-- A UHF.TX that the charter or the channel refuses: its answer, event 0x0703, and the ledger brought to the present minute
(R243, R246, R247). -/
theorem exec_uhfTx_refused {st : Nat} (h : admitTx tk.val w s = txRefused tk.val st w 0xFF 0 (rolled s)) :
    ∃ t u, exec (.uhfTx tk) s = .next t ∧ Answered tk.val st
        (txReply 0 0 (airtimeUs w.req.payload + 32) (sext 8 (u8At w.req.payload 14)) 0 0xFF 0) u t ∧
      Logged s.now 0x0703 0 tk.val (leBytes 2 st ++ leBytes 1 0) s u ∧
      u = { withEvents s u with uhf := (s.modUhf (fun u => u.roll s.now)).uhf } :=
  ⟨_, _, (exec_uhfTx_admits hn hop).trans (next_congr h), answered_complete _ tk.isLt, notSent_logged st tk.val (rolled s),
    notSent_rolled_frame ..⟩

/-- A UHF.TX that the duty ledger refuses. -/
theorem exec_uhfTx_duty {b d : Nat} (h : admitTx tk.val w s = txRefused tk.val St.uhfDuty w b d (rolled s).useFree) :
    ∃ t u, exec (.uhfTx tk) s = .next t ∧ Answered tk.val St.uhfDuty
        (txReply 0 0 (airtimeUs w.req.payload + 32) (sext 8 (u8At w.req.payload 14)) 0 b d) u t ∧
      Logged s.now 0x0703 0 tk.val (leBytes 2 St.uhfDuty ++ leBytes 1 0) s u :=
  ⟨_, _, (exec_uhfTx_admits hn hop).trans (next_congr h), answered_complete _ tk.isLt,
    notSent_logged St.uhfDuty tk.val (rolled s).useFree⟩

/-- A UHF.TX that passes waits or is served, its airtime charged. -/
theorem exec_uhfTx_joins {b : Nat} (h : admitTx tk.val w s = uhfJoin (txRequest tk.val w b (rolled s))
      ((rolled s).modUhf (fun u => u.charge b (airtimeUs w.req.payload + 32)))) :
    ∃ t, exec (.uhfTx tk) s = .next t ∧ uhfHas tk.val t = true ∧
      t.uhf.ledger = ((s.uhf.roll s.now).charge b (airtimeUs w.req.payload + 32)).ledger ∧ t.uhf.lastEnd = s.uhf.lastEnd := by
  obtain ⟨hledger, hlast⟩ := uhfJoin_ledger (txRequest tk.val w b (rolled s))
    ((rolled s).modUhf (fun u => u.charge b (airtimeUs w.req.payload + 32)))
  exact ⟨_, (exec_uhfTx_admits hn hop).trans (next_congr h), uhfJoin_has _ _, hledger, hlast⟩

end

/-! ### UHF.RX and UHF.CALIBRATE -/

theorem exec_uhfRx_refused {st : Nat} (hn : NextRequest tk.val w s) (hop : w.req.opcode = 0x0703)
    (h : admitRx tk.val w s = complete tk.val st (rxReply {}) s) :
    ∃ t, exec (.uhfRx tk) s = .next t ∧ Answered tk.val st (rxReply {}) s t :=
  ⟨_, next_congr ((hn.rx hop).trans h), answered_complete s tk.isLt⟩

theorem exec_uhfRx_joins (hn : NextRequest tk.val w s) (hop : w.req.opcode = 0x0703)
    (hm : s.inMask (u32At w.req.payload 0) = true) :
    ∃ t, exec (.uhfRx tk) s = .next t ∧ uhfHas tk.val t = true ∧ t.uhf.ledger = s.uhf.ledger :=
  ⟨_, next_congr ((hn.rx hop).trans (admitRx_joins hm)), uhfJoin_has (rxRequest tk.val w) s, (uhfJoin_ledger _ s).1⟩

theorem exec_uhfCalibrate_joins (hn : NextRequest tk.val w s) (hop : w.req.opcode = 0x0704) :
    exec (.uhfCalibrate tk) s = .next (uhfJoin (calRequest tk.val w s) s) := next_congr ((hn.cal hop).trans admitCal_joins)

/-! ### The duty ledger -/

theorem exec_uhfDutyRead_answers (h : startable tk.val 0x0706 s = some w) : ∃ t u, exec (.uhfDutyRead tk) s = .next t ∧
    Answered tk.val St.ok ((List.range 16).flatMap (fun b => leBytes 4 ((s.uhf.roll s.now).used b) ++
      leBytes 4 (bandDuty (bandAt s.uhf.charter b) * 1000) ++ leBytes 8 (tget s.uhf.lastEnd b))) u t ∧
    u = { s with uhf := s.uhf.roll s.now } :=
  ⟨_, _, next_congr (command_start h), answered_complete (rolled s) tk.isLt, rfl⟩

theorem exec_dutyBucketRoll_rolls (hc : clearUntil ((s.uhf.minute + 1) * lsbOfS 60) s = true) :
    ∃ t, exec .dutyBucketRoll s = .next t ∧ t.now = (reach ((s.uhf.minute + 1) * lsbOfS 60) s).now ∧
      t.uhf = s.uhf.roll t.now ∧ t = { s with time := t.time, uhf := t.uhf } := by
  refine ⟨_, next_congr (atDue_clear hc), ?_⟩
  rw [reach_frame]
  exact ⟨rfl, rfl, rfl⟩

/-- Settles O48: each clause is the rule of its command in the state it names; of the requests of class 0x07 the one that is new
alone is admitted (`NextRequest`). -/
theorem radioRequests : Obligations.RadioRequests := by
  unfold Obligations.RadioRequests
  intro tk level p s w next
  have hnext : next → NextRequest tk.val w s := fun ⟨hrunning, hwork, halone⟩ => ⟨hrunning, hwork, halone⟩
  refine ⟨fun h hop => ?tx, fun h hop => ?rx, fun h hop => ?cal,
    fun r x hr hx hle hc => ⟨_, exec_uhfTxDeadline_starts hr hx hle hc, rfl⟩,
    fun r hr hc ht hk hx hq => ?late,
    fun r x hr hx ha ht hq hw hmost hc => exec_uhfRxWindowEnd_host hr hx ha ht hq hw hmost hc,
    fun r hr hk hs hl hw hc hfree hd hlead hg hf => ?lead, fun hv => ?wires, fun r hr hs hg hcoex hn => ?cut,
    fun r x hr hx ha hs he hw => ⟨fun hf hcrc => ?dropped, fun hf hcrc hmost => ?received⟩,
    fun hx hh hcrc => ⟨_, exec_uhfPacketReceived_access hx hh hcrc, rfl⟩, exec_uhfDutyRead_answers, exec_dutyBucketRoll_rolls⟩
  case tx =>
    have hn := hnext h
    refine ⟨fun hc => exec_uhfTx_refused hn hop (admitTx_charter hc), fun hv hl =>
      ⟨fun hb => exec_uhfTx_refused hn hop (admitTx_channel hv hl hb), fun b hb hoff hfmt => ?_⟩⟩
    obtain ⟨hduty, hjoin⟩ := admitTx_permitted (tk := tk.val) hv hl hb hoff hfmt
    exact ⟨fun d hd => exec_uhfTx_duty hn hop (hduty d hd), fun hd => exec_uhfTx_joins hn hop (hjoin hd)⟩
  case rx =>
    have hn := hnext h
    exact ⟨fun hv => exec_uhfRx_refused hn hop (admitRx_charter hv), fun hv hm => exec_uhfRx_refused hn hop (admitRx_channel hv hm),
      fun hm => exec_uhfRx_joins hn hop hm⟩
  case cal =>
    have hn := hnext h
    exact ⟨_, exec_uhfCalibrate_joins hn hop, uhfJoin_has (calRequest tk.val w s) s, (uhfJoin_ledger _ s).1,
      fun hs hv hq ha hu => uhfJoin_cal (r := calRequest tk.val w s) rfl tk.isLt hs hv hq ha hu⟩
  case late =>
    have hlate := deadlineOver_late (s := reach r.deadline s) ht hk (by simpa using hq)
    exact ⟨_, exec_uhfTxDeadline_late hr hx hc, hlate.completed, hlate.status, congrArg TimeBase.epoch hlate.time⟩
  case lead =>
    have hframe := reach_uhf s (leadEnd r s)
    have hready : StartReady r (reach (leadEnd r s) s) :=
      ⟨by rw [hframe]; exact hr, by rw [hframe]; exact hs, by rw [hframe]; exact hl, hfree, hlead, hg, by rw [hframe]; exact hw, hd⟩
    exact ⟨_, exec_coexLeadExpire_settling hr hs hc, uhfTry_tx hready hk hf⟩
  case wires => exact ⟨_, exec_rfGntChange_unasked level hv, grantSet_frame level s⟩
  case cut =>
    refine ⟨_, exec_rfGntChange_cuts hr hs hg hcoex hn, ?_, emit_logged 0x00A 0x0705 0 r.ticket (zeros 1) (s.modUhf _), ?_⟩
    all_goals rw [emit_frame]; rfl
  case dropped =>
    refine ⟨_, exec_uhfPacketReceived_host hr hx ha hs he hw, ?_⟩
    rw [hostPacket_bad hf hcrc]
    rfl
  case received =>
    refine ⟨_, exec_uhfPacketReceived_host hr hx ha hs he hw, ?_⟩
    rw [hostPacket_good hf hcrc hmost]
    rfl

end Sys2Proof.Machine
end

section
/-! SUPPORT. What the access engine leaves alone of the Rangefinder when it takes the outcome of a session: all of it (R176, R179,
R180, R183–R191, R259). -/

namespace Sys2Proof.Machine

variable {s t : State}

/-! ### Frames and start -/

theorem FrameBuilt.range (h : FrameBuilt s t) : t.range = s.range := by rw [h]

theorem Routed.range {k : Nat} (h : Routed k s t) : t.range = s.range := by rw [h.frame]

@[simp] theorem trigger_range (c : Nat) (s : State) : (trigger c s).range = s.range := by rw [trigger_frame]

@[simp] theorem unlockVerdict_range (zone slot : Nat) (s : State) : (unlockVerdict zone slot s).range = s.range := by
  have hframe : (bodyFrame 1 zone slot s).1.range = s.range := ((FrameBuilt.refl s).bodyFrame ..).range
  unfold unlockVerdict
  split <;> simp [hframe]

@[simp] theorem tryUnlock_range (s : State) : (tryUnlock s).range = s.range := by
  unfold tryUnlock
  split
  · split
    · exact unlockVerdict_range ..
    · rfl
  · rfl

@[simp] theorem consumeNonce_range (n c : Nat) (s : State) : (consumeNonce n c s).range = s.range := by rw [consumeNonce_frame]

@[simp] theorem releaseFrame_range (live : Bool) (stamp : Nat) (s : State) : (releaseFrame live stamp s).range = s.range := by
  have hwithdrawn : FrameBuilt s (withdrawRelease s) := (FrameBuilt.refl s).withdrawRelease
  unfold releaseFrame
  dsimp only
  split
  · exact (FrameBuilt.reserveRelease ((FrameBuilt.refl s).releaseWithheld ..)).range
  · split
    · rw [((FrameBuilt.refl _).accessFrame ..).range, consumeNonce_range, hwithdrawn.useRelease.range]
    · exact (FrameBuilt.useRelease (hwithdrawn.releaseWithheld ..)).range

@[simp] theorem endRelease_range (reason : Nat) (s : State) : (endRelease reason s).range = s.range := by
  have hover : (if reason = 0 ∧ (releaseStop s).isNone = true then releaseFrame false s.now s else s).range = s.range := by
    split
    · exact releaseFrame_range ..
    · rfl
  unfold endRelease
  dsimp only
  generalize (if reason = 0 ∧ (releaseStop s).isNone = true then releaseFrame false s.now s else s) = u at hover ⊢
  split
  · rw [trigger_range, emit_range]
    exact hover
  · rw [emit_range]
    exact hover

@[simp] theorem releaseFire_range (stamp : Nat) (s : State) : (releaseFire stamp s).range = s.range := by
  unfold releaseFire
  dsimp only
  split
  · exact endRelease_range ..
  · split
    · rw [endRelease_range, releaseFrame_range]
    · exact releaseFrame_range ..

@[simp] theorem armFirm_range (n compare period : Nat) (s : State) : (armFirm n compare period s).range = s.range :=
  ((Routed.refl n s).armFirm compare period).range

@[simp] theorem authorise_range (slot used : Nat) (s : State) : (authorise slot used s).range = s.range := by
  unfold authorise
  rw [releaseFire_range]
  refine (armFirm_range ..).trans ?_
  rw [emit_range, emit_range]
  rfl

@[simp] theorem setDriver_range (d : Option Nat) (cabs : List Nat) (s : State) : (setDriver d cabs s).range = s.range := by
  unfold setDriver
  split
  · rfl
  · rw [sendToken_frame, emit_range]
    rfl

/-! ### The conclusion of a cycle -/

@[simp] theorem startMissed_range (s : State) : (startMissed s).range = s.range := by
  unfold startMissed
  split
  · split
    · rw [emit_range]; rfl
    · rfl
  · rfl

@[simp] theorem locateEnd_range (tk : Nat) (c : AccCyc) (s : State) : (locateEnd tk c s).range = s.range := by
  unfold locateEnd
  split
  · split
    · rw [onlyTickets_completeTiles]
    · rfl
  · rfl

@[simp] theorem cabResult_range (c : AccCyc) (s : State) : (cabResult c s).range = s.range := by
  unfold cabResult
  dsimp only
  split
  · split
    · split
      · split <;> simp
      · simp
    · simp
  · split <;> simp

@[simp] theorem acquireResult_range (c : AccCyc) (s : State) : (acquireResult c s).range = s.range := by
  unfold acquireResult
  dsimp only
  split
  · split <;> simp
  · split
    · split <;> simp
    · rfl

@[simp] theorem finishCycle_range (c : AccCyc) (s : State) : (finishCycle c s).range = s.range := by
  rw [finishCycle_eq]
  unfold cycleResult
  split
  · exact acquireResult_range ..
  · split
    · exact locateEnd_range ..
    · rfl
  · exact cabResult_range ..

@[simp] theorem settleCycle_range (s : State) : (settleCycle s).range = s.range := by
  unfold settleCycle
  split
  · split
    · exact finishCycle_range ..
    · rfl
  · rfl

/-! ### One outcome -/

@[simp] theorem modResp_range (n : Nat) (f : Resp → Resp) (s : State) : (modResp n f s).range = s.range := rfl

@[simp] theorem concludeResp_range (wide : Bool) (n : Nat) (s : State) : (concludeResp wide n s).range = s.range := by
  unfold concludeResp
  split
  · split
    · dsimp only
      split
      · rw [tryUnlock_range, State.modAccess_range, emit_range]; rfl
      · rw [emit_range]; rfl
    · rfl
  · rfl

@[simp] theorem setSuspect_range (v : Bool) (s : State) : (setSuspect v s).range = s.range := by
  have hasked : StoreAsked _ (storeAccess (s.modAccess (fun a => { a with
      suspect := v, suspectSince := if v then s.now else 0 }))) := storeAsked_storeAccess _
  unfold setSuspect
  rw [emit_range, hasked]
  rfl

@[simp] theorem invalidResponse_range (slot kind token : Nat) (s : State) : (invalidResponse slot kind token s).range = s.range := by
  unfold invalidResponse
  dsimp only
  split
  · rw [setSuspect_range, emit_range]; rfl
  · rw [emit_range]; rfl

@[simp] theorem takeRanging_range (e : Nat × Nat × Nat) (s : State) : (takeRanging e s).range = s.range := by
  unfold takeRanging
  split
  · split
    · dsimp only
      rw [settleCycle_range, concludeResp_range]
      split
      · exact invalidResponse_range ..
      · split
        · exact emit_range ..
        · split
          · exact emit_range ..
          · rfl
    · rfl
  · rfl

/-- The outcomes that waited are taken, and nothing else of the Rangefinder changes. -/
theorem drainRanging_range (s : State) : (drainRanging s).range = { s.range with ended := [] } := by
  have hfold (l : List (Nat × Nat × Nat)) : ∀ u : State, (l.foldl (fun t e => takeRanging e t) u).range = u.range := by
    induction l with
    | nil => exact fun _ => rfl
    | cons e l ih => exact fun u => (ih _).trans (takeRanging_range e u)
  exact hfold _ _

end Sys2Proof.Machine
end

section
/-! SUPPORT. What a ranging session receives, its verdict, and the TDC calibration (R252, R254–R259, R268, R269). -/

namespace Sys2Proof.Machine

variable {s : State} {x : Sess}

/-! ### What a session receives -/

section
variable (hx : s.range.session = some x)
include hx

/-- RESPONSE is taken while the session has its key and no RESPONSE (R254). -/
theorem exec_rangingResponse_eq (rx : RangingRx) : exec (.rangingResponse rx) s = .next (
    if x.ks.isSome ∧ x.response.isNone then
      s.modRange (fun g => { g with session := some { x with response := some (rx.stamped, rx.stamped && x.hears rx.sts) } })
    else s) := by
  refine next_congr ?_
  rw [hx]

theorem exec_rangingReport_taken (rep : Option Bytes) (hr : x.response = some (true, true)) (hn : x.report = none) :
    exec (.rangingReport rep) s = .next (s.modRange (fun g => { g with session := some { x with report := some rep } })) := by
  refine next_congr ?_
  rw [hx]
  exact if_pos ⟨hr, by rw [hn]; rfl⟩

theorem exec_rangingReport_ignored (rep : Option Bytes) (h : x.response ≠ some (true, true) ∨ x.report ≠ none) :
    exec (.rangingReport rep) s = .next s := by
  refine next_congr ?_
  rw [hx]
  exact if_neg fun hc => h.elim (absurd hc.1) (absurd (Option.isNone_iff_eq_none.mp hc.2))

theorem exec_fastExchangeRound_ignored (round : FastRound) (h : x.response ≠ some (true, true) ∨ x.report ≠ none) :
    exec (.fastExchangeRound round) s = .next s := by
  refine next_congr ?_
  rw [hx]
  exact if_neg fun hc => h.elim (absurd hc.1) (absurd (Option.isNone_iff_eq_none.mp hc.2.2))

section
variable {round : FastRound} (hr : x.response = some (true, true)) (hn : x.report = none) (hl : x.rounds.length < 32)
include hr hn hl

/-- A round without a reply is kept as such (R255). -/
theorem exec_fastExchangeRound_silent (he : earliestHit x round = none) : exec (.fastExchangeRound round) s =
    .next (s.modRange (fun g => { g with session := some { x with rounds := x.rounds ++ [{}] } })) := by
  refine next_congr ?_
  rw [hx]
  refine (if_pos ⟨hr, hl, by rw [hn]; rfl⟩).trans ?_
  rw [he]
  rfl

/-- The earliest reply of a round is kept, and counts for its port (R255, R268). -/
theorem exec_fastExchangeRound_hit {h : PathHit} (he : earliestHit x round = some h) : exec (.fastExchangeRound round) s =
    .next (s.modRange (fun g => { g with
      session := some { x with rounds := x.rounds ++
        [{ raw := some (hitRaw round.rem h : Int), port := h.port, bad := h.bit != expectedBit x x.rounds.length }] }
      earliest := tmod g.earliest h.port (fun n => wrapAdd 32 n 1) })) := by
  refine next_congr ?_
  rw [hx]
  refine (if_pos ⟨hr, hl, by rw [hn]; rfl⟩).trans ?_
  rw [he]
  rfl

end

end

/-! ### The verdict -/

/-- No session waits, and a port calibration that runs has its turn later: nothing new starts (R260). -/
theorem rangeNext_stays (hw : s.range.waiting = [])
    (hc : ∀ c, s.range.calib = some c → c.tdcDone = false ∨ calibFirst s = false) : rangeNext s = s := by
  rw [show rangeNext s = rangeNextN (159 + 1) s from rfl, rangeNextN]
  split
  · rfl
  · rw [hw]
    dsimp only
    split
    · next c hcalib => exact if_pos (hc c hcalib)
    · rfl

/-- With nothing that waits, nothing starts. -/
theorem rangeNext_idle (hw : s.range.waiting = []) (hc : s.range.calib = none) : rangeNext s = s :=
  rangeNext_stays hw fun c h => by simp [hc] at h

/-- Edges of the pulses change of the Rangefinder the session that runs alone. -/
theorem rangeEdges_range (s : State) : (rangeEdges s).range = { s.range with session := (rangeEdges s).range.session } := by
  unfold rangeEdges
  split
  · rfl
  · next x _ =>
    dsimp only
    generalize hu : List.foldl _ s _ = u
    have hrouted : Routed 0 s u := by
      rw [← hu]
      exact .foldl (fun _ j h => .foldl (fun _ n h => h.routedEdge ..) _ h) _ (.refl 0 s)
    rw [State.modRange_range, hrouted.range]

/-- What the end of an access session leaves of the Rangefinder (R257, R258, R268). -/
theorem closeSession_range (hcal : x.calib = false) (r : SessRec) (code cause : Nat) (s : State) :
    (closeSession x r code cause s).range = { s.range with
      session := none
      sessions := wrapAdd 32 s.range.sessions 1
      passes := if code = 1 then wrapAdd 32 s.range.passes 1 else s.range.passes
      suspicions := if code = 2 then wrapAdd 32 s.range.suspicions 1 else s.range.suspicions
      last := tmod s.range.last x.slot (fun _ => some r)
      ended := s.range.ended ++ [(x.slot, code, cause)] } := by
  unfold closeSession
  rw [State.modRange_range, rangeEdges_range, hcal]
  rfl

/-- LAST_RANGE of a verdict: 1 for a pass, 2 for a relay suspicion (R258). -/
def verdictCode (v : Nat) : Nat := if v = 0 then 1 else 2

theorem giveVerdict_range (hcal : x.calib = false) (s : State) : (giveVerdict x s).range =
    (closeSession x (sessionRecord x (verdictOf x) s) (verdictCode (verdictOf x)) 0 s.useFree).range := by
  unfold giveVerdict
  dsimp only
  rw [hcal, if_neg Bool.false_ne_true, emit_range]
  split <;> rfl

theorem exec_rangingVerdict_due (hx : s.range.session = some x) (hk : x.ks ≠ none) (hcal : x.calib = false)
    (hw : s.range.waiting = []) (hc : s.range.calib = none) (hd : clearUntil (x.since + lsbOfUs (verdictDue x)) s = true) :
    exec .rangingVerdict s = .next (drainRanging (giveVerdict x (reach (x.since + lsbOfUs (verdictDue x)) s))) := by
  have hidle : rangeNext (giveVerdict x (reach (x.since + lsbOfUs (verdictDue x)) s)) =
      giveVerdict x (reach (x.since + lsbOfUs (verdictDue x)) s) := by
    refine rangeNext_idle ?_ ?_ <;> rw [giveVerdict_range hcal, closeSession_range hcal]
    · exact (congrArg Range.waiting (reach_range s _)).trans hw
    · exact (congrArg Range.calib (reach_range s _)).trans hc
  have hverdict : rangingVerdict s = giveVerdict x (reach (x.since + lsbOfUs (verdictDue x)) s) := by
    unfold rangingVerdict
    rw [hx]
    exact ((if_pos (Option.isSome_iff_ne_none.mpr hk)).trans (atDue_clear hd)).trans hidle
  exact next_congr (congrArg drainRanging hverdict)

/-- The verdict ends the session and counts it, and it stands in the record of its slot (R257, R258, R268). -/
theorem exec_rangingVerdict_ends (hx : s.range.session = some x) (hk : x.ks ≠ none) (hcal : x.calib = false) (hslot : x.slot < 16)
    (hw : s.range.waiting = []) (hc : s.range.calib = none) (hd : clearUntil (x.since + lsbOfUs (verdictDue x)) s = true) :
    ∃ t, exec .rangingVerdict s = .next t ∧ t.range.session = none ∧ t.range.sessions = wrapAdd 32 s.range.sessions 1 ∧
      (tget t.range.last x.slot).map (fun r => (r.verdict, r.cause, r.bound, r.stamp)) = some (verdictOf x, 0, x.bound, x.asked) ∧
      (verdictOf x = 0 → t.range.passes = wrapAdd 32 s.range.passes 1 ∧ t.range.suspicions = s.range.suspicions) ∧
      (verdictOf x ≠ 0 → t.range.passes = s.range.passes ∧ t.range.suspicions = wrapAdd 32 s.range.suspicions 1) := by
  have hrange : (reach (x.since + lsbOfUs (verdictDue x)) s).useFree.range = s.range := reach_range s _
  refine ⟨_, exec_rangingVerdict_due hx hk hcal hw hc hd, ?_⟩
  rw [drainRanging_range, giveVerdict_range hcal, closeSession_range hcal, hrange]
  dsimp only
  refine ⟨rfl, rfl, ?_, fun hv => ?_, fun hv => ?_⟩
  · rw [tget_tmod_same _ _ _ hslot]
    rfl
  · rw [hv]
    exact ⟨rfl, rfl⟩
  · rw [show verdictCode (verdictOf x) = 2 from if_neg hv]
    exact ⟨rfl, rfl⟩

/-! ### TDC calibration -/

theorem dieTemp_reach (d : Nat) (s : State) : dieTemp (reach d s) = dieTemp s := by rw [dieTemp, dieTemp, reach_safe]

/-- The result of a TDC calibration recorded (R252, R268). -/
def tdcRecorded (ok : Bool) (corr : Int) (s : State) : State := s.modRange (fun r => { r with
  tdcOk := ok, tdcDue := false, lastTdc := s.now, tdcTemp := dieTemp s, tdcCorr := corr })

/-- A result recorded and reported with event 0x0803 (R269). -/
def tdcReported (ok : Bool) (corr : Int) (s : State) : State :=
  emit 0x00B 0x0803 (leBytes 1 (b1 (!ok)) ++ zeros 1 ++ leBytes 2 (unsext 16 (dieTemp s)) ++ leBytes 4 (unsext 32 corr)) 0 0xFF
    (tdcRecorded ok corr s)

/-- A TDC calibration that no port calibration has asked for has no further effect. -/
theorem rangeNext_calibTdc {ok : Bool} (hc : s.range.calib = none) (hw : s.range.waiting = []) : rangeNext (calibTdc ok s) = s := by
  have hstays : calibTdc ok s = s := by unfold calibTdc; rw [hc]
  rw [hstays]
  exact rangeNext_idle hw hc

section
variable {d : Nat} {spans : Bool} {corr : Int} (hturn : tdcTurn s = some d) (hd : clearUntil d s = true)
  (hc : s.range.calib = none) (hw : s.range.waiting = [])
include hturn hd hc hw

theorem exec_tdcCalibration_reports :
    exec (.tdcCalibration spans corr) s = .next (tdcReported (spans && decide (corr.natAbs ≤ 2500)) corr (reach d s)) := by
  have hcalib : (reach d s).range.calib = none := by rw [reach_range]; exact hc
  have hwaiting : (reach d s).range.waiting = [] := by rw [reach_range]; exact hw
  refine next_congr ?_
  rw [hturn]
  refine (atDue_clear hd).trans ?_
  dsimp only
  rw [hcalib]
  exact rangeNext_calibTdc (by rw [emit_range]; exact hcalib) (by rw [emit_range]; exact hwaiting)

end

theorem tdcReported_frame (ok : Bool) (corr : Int) (d : Nat) (s : State) :
    let t := tdcReported ok corr (reach d s)
    t.range = { s.range with tdcOk := ok, tdcDue := false, lastTdc := t.now, tdcTemp := dieTemp s, tdcCorr := corr } ∧
      t.now = (reach d s).now ∧ t = { withEvents s t with time := t.time, range := t.range } := by
  have hnow : (tdcReported ok corr (reach d s)).now = (reach d s).now := by rw [State.now, tdcReported, emit_time]; rfl
  dsimp only
  rw [hnow]
  refine ⟨?_, rfl, ?_⟩
  · rw [tdcReported, emit_range, tdcRecorded, State.modRange_range, reach_range, dieTemp_reach]
  · rw [tdcReported, emit_frame, tdcRecorded, reach_frame]
    rfl

theorem tdcReported_logged (ok : Bool) (corr : Int) (d : Nat) (s : State) :
    Logged (reach d s).now 0x0803 0 0xFF (leBytes 1 (b1 (!ok)) ++ zeros 1 ++ leBytes 2 (unsext 16 (dieTemp s)) ++
      leBytes 4 (unsext 32 corr)) s (tdcReported ok corr (reach d s)) := by
  have hlogged := emit_logged 0x00B 0x0803 0 0xFF (leBytes 1 (b1 (!ok)) ++ zeros 1 ++ leBytes 2 (unsext 16 (dieTemp (reach d s))) ++
    leBytes 4 (unsext 32 corr)) (tdcRecorded ok corr (reach d s))
  rw [← tdcReported, dieTemp_reach] at hlogged
  intro hroom
  exact hlogged (by rw [tdcRecorded, State.modRange_safe, reach_safe]; exact hroom)

/-- Settles O49: each clause is the rule of its command in the state it names; the outcome of a session that the access engine takes
leaves the Rangefinder alone (`drainRanging_range`). -/
theorem rangingSessions : Obligations.RangingSessions := by
  unfold Obligations.RangingSessions
  intro rx round rep spans corr s
  refine ⟨fun x hx => ⟨fun hk hr => ⟨_, exec_rangingResponse_eq hx rx, if_pos ⟨?key, ?first⟩⟩,
    fun h => ⟨_, exec_rangingResponse_eq hx rx, if_neg fun hc => ?ignored⟩,
    fun hr hn => ⟨fun hl he => ⟨_, exec_fastExchangeRound_silent hx hr hn hl he, rfl⟩,
      fun h hl he => ⟨_, exec_fastExchangeRound_hit hx hr hn hl he, rfl, fun hp => tget_tmod_same _ _ _ hp, rfl⟩,
      ⟨_, exec_rangingReport_taken hx rep hr hn, rfl⟩⟩,
    fun h => ⟨⟨s, exec_fastExchangeRound_ignored hx round h, rfl⟩, ⟨s, exec_rangingReport_ignored hx rep h, rfl⟩⟩,
    fun hk hcal hslot hw hc hd => exec_rangingVerdict_ends hx hk hcal hslot hw hc hd⟩,
    fun d ok hturn hd hc hw hok => ?calibration⟩
  case key => exact Option.isSome_iff_ne_none.mpr hk
  case first => exact Option.isNone_iff_eq_none.mpr hr
  case ignored =>
    exact h.elim (Option.isSome_iff_ne_none.mp hc.1) (absurd (Option.isNone_iff_eq_none.mp hc.2))
  case calibration =>
    obtain ⟨hrange, hnow, hframe⟩ := tdcReported_frame ok corr d s
    refine ⟨_, exec_tdcCalibration_reports hturn hd hc hw, ?_⟩
    rw [← hok]
    exact ⟨hrange, hnow, hnow ▸ tdcReported_logged ok corr d s, hframe⟩

end Sys2Proof.Machine
end

section
/-! SUPPORT. RANGE.PORT_CALIBRATE and the reads of the Rangefinder (R260, R262, R268). -/

namespace Sys2Proof.Machine

variable {s : State} {tk : Fin 128} {w : Work}

/-! ### RANGE.PORT_CALIBRATE -/

/-- The port calibration that a RANGE.PORT_CALIBRATE asks for (R262). -/
def calibAsked (tk : Nat) (w : Work) : PortCal :=
  { ticket := tk, port := w.req.node - 0x88, slot := u8At w.req.payload 0, tdcOnly := (u8At w.req.payload 1).testBit 0
    distance := u32At w.req.payload 4 }

section
variable (hs : startable tk.val 0x0803 s = some w) (hnew : s.range.calib.all (fun c => c.ticket != tk.val) = true)
include hs hnew

/-- The checks of RANGE.PORT_CALIBRATE in their order (R260, R262, R268). -/
theorem exec_rangePortCalibrate_eq : exec (.rangePortCalibrate tk) s = .next (
    if 16 ≤ u8At w.req.payload 0 ∨ (tget s.access.slots (u8At w.req.payload 0)).state ≠ 1 then complete tk.val St.badArg [] s
    else if s.nat 8 3 (w.req.node - 0x88) = 0 then complete tk.val St.rangePortDisabled (calibReply 0 0 0 s) s
    else if s.range.calib.isSome then s
    else rangeNext (start tk.val (s.modRange (fun r => { r with calib := some (calibAsked tk.val w) })))) := by
  refine next_congr ((command_start hs).trans (if_neg ?_))
  cases hc : s.range.calib with
  | none => exact Bool.false_ne_true
  | some c => simpa [hc] using hnew

theorem exec_rangePortCalibrate_badArg
    (h : 16 ≤ u8At w.req.payload 0 ∨ (tget s.access.slots (u8At w.req.payload 0)).state ≠ 1) :
    ∃ t, exec (.rangePortCalibrate tk) s = .next t ∧ Answered tk.val St.badArg [] s t :=
  ⟨_, (exec_rangePortCalibrate_eq hs hnew).trans (next_congr (if_pos h)), answered_complete s tk.isLt⟩

section
variable (hslot : u8At w.req.payload 0 < 16) (hlearned : (tget s.access.slots (u8At w.req.payload 0)).state = 1)
include hslot hlearned

theorem exec_rangePortCalibrate_learned : exec (.rangePortCalibrate tk) s = .next (
    if s.nat 8 3 (w.req.node - 0x88) = 0 then complete tk.val St.rangePortDisabled (calibReply 0 0 0 s) s
    else if s.range.calib.isSome then s
    else rangeNext (start tk.val (s.modRange (fun r => { r with calib := some (calibAsked tk.val w) })))) :=
  (exec_rangePortCalibrate_eq hs hnew).trans (next_congr (if_neg (not_or.mpr ⟨Nat.not_le.mpr hslot, not_not_intro hlearned⟩)))

theorem exec_rangePortCalibrate_disabled (hp : s.nat 8 3 (w.req.node - 0x88) = 0) :
    ∃ t, exec (.rangePortCalibrate tk) s = .next t ∧ Answered tk.val St.rangePortDisabled (calibReply 0 0 0 s) s t :=
  ⟨_, (exec_rangePortCalibrate_learned hs hnew hslot hlearned).trans (next_congr (if_pos hp)), answered_complete s tk.isLt⟩

/-- While another port calibration runs the command waits. -/
theorem exec_rangePortCalibrate_waits (hp : s.nat 8 3 (w.req.node - 0x88) ≠ 0) (hc : s.range.calib ≠ none) :
    exec (.rangePortCalibrate tk) s = .next s :=
  (exec_rangePortCalibrate_learned hs hnew hslot hlearned).trans
    (next_congr ((if_neg hp).trans (if_pos (Option.isSome_iff_ne_none.mpr hc))))

/-- The calibration runs, and begins with its TDC calibration (R262). -/
theorem exec_rangePortCalibrate_runs (hp : s.nat 8 3 (w.req.node - 0x88) ≠ 0) (hc : s.range.calib = none)
    (hw : s.range.waiting = []) : exec (.rangePortCalibrate tk) s =
      .next (start tk.val (s.modRange (fun r => { r with calib := some (calibAsked tk.val w) }))) := by
  have hstays : rangeNext (start tk.val (s.modRange (fun r => { r with calib := some (calibAsked tk.val w) }))) =
      start tk.val (s.modRange (fun r => { r with calib := some (calibAsked tk.val w) })) :=
    rangeNext_stays hw fun c hcalib => .inl (by rw [← Option.some.inj hcalib]; rfl)
  refine (exec_rangePortCalibrate_learned hs hnew hslot hlearned).trans (next_congr ?_)
  rw [if_neg hp, if_neg (by rw [hc]; exact Bool.false_ne_true), hstays]

end

end

/-! ### Reads -/

theorem exec_rangeSessionRead_some {r : SessRec} (hs : startable tk.val 0x0804 s = some w)
    (hr : tget s.range.last (u8At w.req.payload 0) = some r) : ∃ t, exec (.rangeSessionRead tk) s = .next t ∧
      Answered tk.val St.ok (sessionData (u8At w.req.payload 0) r) s t := by
  refine ⟨_, next_congr ((command_start hs).trans ?_), answered_complete s tk.isLt⟩
  dsimp only
  rw [hr]

theorem exec_rangeSessionRead_none (hs : startable tk.val 0x0804 s = some w)
    (hr : tget s.range.last (u8At w.req.payload 0) = none) : ∃ t, exec (.rangeSessionRead tk) s = .next t ∧
      Answered tk.val St.rangeNoRecord [] s t := by
  refine ⟨_, next_congr ((command_start hs).trans ?_), answered_complete s tk.isLt⟩
  dsimp only
  rw [hr]

theorem exec_rangeCableTraceRead_some {x : Nat × List Int} (hs : startable tk.val 0x0811 s = some w)
    (hx : tget s.range.traces (u8At w.req.payload 0 - 18) = some x) : ∃ t, exec (.rangeCableTraceRead tk) s = .next t ∧
      Answered tk.val St.ok (leBytes 8 x.1 ++
        ((x.2.drop (u16At w.req.payload 2)).take (u16At w.req.payload 4)).flatMap (fun v => leBytes 2 (unsext 16 v))) s t := by
  refine ⟨_, next_congr ((command_start hs).trans ?_), answered_complete s tk.isLt⟩
  dsimp only
  rw [hx]

theorem exec_rangeCableTraceRead_none (hs : startable tk.val 0x0811 s = some w)
    (hx : tget s.range.traces (u8At w.req.payload 0 - 18) = none) : ∃ t, exec (.rangeCableTraceRead tk) s = .next t ∧
      Answered tk.val St.rangeNoRecord [] s t := by
  refine ⟨_, next_congr ((command_start hs).trans ?_), answered_complete s tk.isLt⟩
  dsimp only
  rw [hx]

end Sys2Proof.Machine
end

section
/-! SUPPORT. Cable runs: how one takes its place, gives a tile its status, and ends (R72, R73, R263, R267). -/

namespace Sys2Proof.Machine

variable {s : State} {tk : Fin 128} {w : Work}

/-! ### Cable runs that settle -/

/-- The cable runs replaced. -/
def State.withCables (s : State) (l : List CableRun) : State := s.modRange (fun r => { r with cables := l })

section
variable {c : CableRun} {cs : List CableRun}

theorem cableSettle_none (h : s.range.cables = []) (fuel : Nat) : cableSettle fuel s = s := by
  cases fuel with
  | zero => rfl
  | succ fuel => rw [cableSettle, h]

/-- A run that holds its port goes on. -/
theorem cableSettle_held (h : s.range.cables = c :: cs) (hh : c.held = true) (fuel : Nat) : cableSettle fuel s = s := by
  cases fuel with
  | zero => rfl
  | succ fuel =>
    rw [cableSettle, h]
    exact if_pos hh

/-- A run that may start on its next tile waits for its segment. -/
theorem cableSettle_waits {n : Nat} {ns : List Nat} (h : s.range.cables = c :: cs) (ht : c.tiles = n :: ns)
    (hr : cableRefusal c.force (cablePort n) s = none) (fuel : Nat) : cableSettle fuel s = s := by
  cases fuel with
  | zero => rfl
  | succ fuel =>
    rw [cableSettle, h]
    dsimp only
    rw [ht]
    dsimp only
    rw [hr]
    exact ite_self s

/-- A tile that no run can start on takes its status (R263). -/
theorem cableSettle_refused {n st : Nat} {ns : List Nat} (h : s.range.cables = c :: cs) (hh : c.held = false)
    (ht : c.tiles = n :: ns) (hr : cableRefusal c.force (cablePort n) s = some st) (fuel : Nat) :
    cableSettle (fuel + 1) s = cableSettle fuel (cableTile { node := n, status := st } s) := by
  rw [cableSettle, h]
  dsimp only
  rw [ht]
  dsimp only
  rw [hr, hh]
  exact if_neg Bool.false_ne_true

/-- A run without tiles left completes (R72). -/
theorem cableSettle_done (h : s.range.cables = c :: cs) (hh : c.held = false) (ht : c.tiles = []) (fuel : Nat) :
    cableSettle (fuel + 1) s = cableSettle fuel (cableEnd St.ok s) := by
  rw [cableSettle, h]
  dsimp only
  rw [ht, hh]
  exact if_neg Bool.false_ne_true

end

/-- There is always a step left for a run. -/
theorem cableFuel_succ (s : State) : ∃ k, cableFuel s = k + 1 := ⟨_, rfl⟩

/-! ### The end of a run -/

/-- A walk of one tile completes with that tile's own result. -/
theorem completeTiles_tile {y : WalkItem} (hy : y.kind = 0) (tk : Nat) (rs : List TileRes) (s : State) :
    completeTiles tk [y] rs s = complete tk (resultOf rs y.node).status (resultOf rs y.node).data s :=
  if_neg (by simp [hy])

theorem resultOf_single (r : TileRes) : resultOf [r] r.node = r := by simp [resultOf]

/-- What is left of the runs when the first one leaves, its port released where it held one (R263). -/
def cableFreed (c : CableRun) (cs : List CableRun) (s : State) : State :=
  match c.tiles with
  | n :: _ => if c.held then (s.withCables cs).modPort (cablePort n) (fun p => { p with cable := false }) else s.withCables cs
  | [] => s.withCables cs

theorem cableFreed_frame (c : CableRun) (cs : List CableRun) (s : State) :
    cableFreed c cs s = { s with range := { s.range with cables := cs }, sw := (cableFreed c cs s).sw } := by
  unfold cableFreed
  split
  · split <;> rfl
  · rfl

/-- The results of a run's tiles: a status for those without one (R73). -/
def cableResults (st : Nat) (c : CableRun) (rs : List TileRes) : List TileRes :=
  rs ++ (c.tiles.filter (fun n => !(rs.any (fun r => r.node == n)))).map (fun n => { node := n, status := st })

theorem cableEnd_eq {c : CableRun} {cs : List CableRun} (st : Nat) (h : s.range.cables = c :: cs) :
    cableEnd st s = match s.work c.ticket with
      | some w => completeTiles c.ticket w.walk (cableResults st c w.results) (cableFreed c cs s)
      | none => cableFreed c cs s := by
  have hwork : (cableFreed c cs s).work c.ticket = s.work c.ticket := by rw [cableFreed_frame]; rfl
  rw [← hwork]
  unfold cableEnd
  rw [h]
  rfl

/-! ### A tile that has its result -/

/-- A run whose present tile has its result. -/
def CableRun.tileOver (c : CableRun) : CableRun := { c with tiles := c.tiles.drop 1, samples := [], retaken := 0, held := false }

section
variable {c : CableRun} {cs : List CableRun}

theorem cableTile_eq (h : s.range.cables = c :: cs) (r : TileRes) : cableTile r s =
    (s.modWork c.ticket (fun w => { w with results := w.results ++ [r] })).withCables (c.tileOver :: cs) := by
  unfold cableTile modCable
  rw [h]
  dsimp only [State.modRange, modWork_range]
  rw [h]
  rfl

/-- From `s` to `t` the only run has ended: the command of ticket `k` has completed with a status. -/
structure CableOver (k st : Nat) (s t : State) : Prop where
  completed : (t.ticket k).state = .completed
  status : (t.ticket k).status = st
  range : t.range = { s.range with cables := [] }
  sw : t.sw = s.sw

/-- The run whose last tile has its result completes with it (R72, R73). -/
theorem cableSettle_last {y : WalkItem} {r : TileRes} (h : s.range.cables = [c]) (ht : c.tiles = [r.node]) (hk : c.ticket < 128)
    (hw : s.work c.ticket = some w) (hwalk : w.walk = [y]) (hy : y.kind = 0) (hn : y.node = r.node) (hres : w.results = [])
    (fuel : Nat) : CableOver c.ticket r.status s (cableSettle (fuel + 1) (cableTile r s)) := by
  have htile := cableTile_eq h r
  have hcables : (cableTile r s).range.cables = [c.tileOver] := by rw [htile]; rfl
  have hempty : c.tileOver.tiles = [] := by simp [CableRun.tileOver, ht]
  have hwork : (cableTile r s).work c.tileOver.ticket = some { w with results := [r] } := by
    rw [htile]
    refine (work_modWork_same s hk).trans ?_
    rw [hw, Option.map_some, hres]
    rfl
  have hresults : resultOf (cableResults St.ok c.tileOver [r]) r.node = r := by
    rw [cableResults, hempty]
    exact resultOf_single r
  have hend : cableEnd St.ok (cableTile r s) = complete c.ticket r.status r.data ((cableTile r s).withCables []) := by
    rw [cableEnd_eq St.ok hcables, hwork]
    dsimp only
    rw [hwalk, completeTiles_tile hy, hn, hresults, cableFreed, hempty]
    rfl
  rw [cableSettle_done hcables rfl hempty, hend, cableSettle_none rfl]
  have hanswered := answered_complete (st := r.status) (d := r.data) ((cableTile r s).withCables []) hk
  exact ⟨hanswered.completed, hanswered.status, by rw [htile]; rfl, by rw [htile]; rfl⟩

end

/-! ### RANGE.CABLE -/

/-- The run that a RANGE.CABLE asks for (R263, R267). -/
def cableAsked (tk : Nat) (w : Work) : CableRun :=
  { ticket := tk, force := (u8At w.req.payload 0).testBit 0, reference := (u8At w.req.payload 0).testBit 1
    latest := w.accept + lsbOfUs (if w.req.deadline = 0 then 5000000 else w.req.deadline), tiles := w.walkTileNodes }

section
variable (hs : startable tk.val 0x0810 s = some w) (hc : s.range.cables = [])
include hs hc

theorem exec_rangeCable_joins : exec (.rangeCable tk) s = .next (
    cableSettle (w.walkTileNodes.length + 2) (s.withCables [cableAsked tk.val w])) := by
  have hjoined : s.modRange (fun r => { r with cables := r.cables ++ [cableAsked tk.val w] }) =
      s.withCables [cableAsked tk.val w] := by
    unfold State.withCables State.modRange
    dsimp only
    rw [hc]
    rfl
  refine next_congr ((command_start hs).trans ((if_neg (by rw [hc]; exact Bool.false_ne_true)).trans ?_))
  dsimp only
  rw [← cableAsked, hjoined]
  rfl

/-- The run takes its place (R263). -/
theorem exec_rangeCable_waits {n : Nat} (hn : w.walkTileNodes = [n])
    (hr : cableRefusal ((u8At w.req.payload 0).testBit 0) (cablePort n) s = none) :
    exec (.rangeCable tk) s = .next (s.withCables [cableAsked tk.val w]) :=
  (exec_rangeCable_joins hs hc).trans (next_congr
    (cableSettle_waits (s := s.withCables [cableAsked tk.val w]) rfl hn hr _))

/-- A tile that the run cannot start on completes the command with its status (R263). -/
theorem exec_rangeCable_refused {n st : Nat} {x : WalkItem} (hn : w.walkTileNodes = [n]) (hwalk : w.walk = [x]) (hk : x.kind = 0)
    (hx : x.node = n) (hres : w.results = [])
    (hr : cableRefusal ((u8At w.req.payload 0).testBit 0) (cablePort n) s = some st) :
    ∃ t, exec (.rangeCable tk) s = .next t ∧ CableOver tk.val st (s.withCables [cableAsked tk.val w]) t := by
  have hsettle : cableSettle (w.walkTileNodes.length + 2) (s.withCables [cableAsked tk.val w]) = _ :=
    cableSettle_refused rfl rfl hn hr (w.walkTileNodes.length + 1)
  exact ⟨_, (exec_rangeCable_joins hs hc).trans (next_congr hsettle),
    cableSettle_last (s := s.withCables [cableAsked tk.val w]) (c := cableAsked tk.val w) (r := { node := n, status := st })
      rfl hn tk.isLt (startable_work hs) hwalk hk hx hres _⟩

end

end Sys2Proof.Machine
end

section
/-! SUPPORT. Cable segments, and the deadline of a run (R260, R264–R269). -/

namespace Sys2Proof.Machine

variable {s : State} {tk : Fin 128} {w : Work}

/-! ### Segments -/

/-- A run with the points of one more segment (R264). -/
def CableRun.took (x : CableRun) (rx : CableRx) : CableRun :=
  { x with samples := x.samples ++ (rx.samples.take 31).take (2200 - x.samples.length), retaken := x.retaken + rx.retaken }

theorem CableRun.took_length (x : CableRun) (rx : CableRx) :
    (x.took rx).samples.length = x.samples.length + min (2200 - x.samples.length) (min 31 rx.samples.length) := by
  simp [CableRun.took]

/-- When a cable segment may run (R260). -/
theorem cableTurn_iff : cableTurn s = true ↔
    s.powered 6 = true ∧ s.range.session = none ∧ s.range.waiting = [] ∧ tdcOwed s = false ∧ calibFirst s = false := by
  simp [cableTurn, and_assoc]

/-- A run that takes a segment keeps its place before or behind a port calibration. -/
theorem calibFirst_withCables {x y : CableRun} (h : s.range.cables = [x]) (hy : y.ticket = x.ticket) :
    calibFirst (s.withCables [y]) = calibFirst s := by
  unfold calibFirst
  rw [h, show (s.withCables [y]).range.calib = s.range.calib from rfl, show (s.withCables [y]).range.cables = [y] from rfl]
  cases s.range.calib with
  | none => rfl
  | some c =>
    dsimp only
    rw [hy]
    rfl

/-- What follows the points of a segment: the end of the run with the last of them, and what may run next (R260, R264). -/
def segmentTaken (node : Nat) (y : CableRun) (s : State) : State :=
  if y.samples.length = 2200 then rangeNext (cableSettle (cableFuel (cableDone y node s)) (cableDone y node s)) else rangeNext s

section
variable {x : CableRun} {node : Nat} (hx : s.range.cables = [x]) (hb : x.begun = true) (hh : x.held = true)
  (ht : x.tiles = [node]) (hturn : cableTurn s = true) (htdc : s.range.tdcOk = true)
include hx hb hh ht hturn htdc

theorem exec_cableSegment_eq (rx : CableRx) :
    exec (.cableSegment rx) s = .next (segmentTaken node (x.took rx) (s.withCables [x.took rx])) := by
  have htook : { x with begun := true, held := true, tiles := [node]
                        samples := x.samples ++ (rx.samples.take 31).take (2200 - x.samples.length)
                        retaken := x.retaken + rx.retaken } = x.took rx := by
    unfold CableRun.took
    rw [hb, hh, ht]
  have hcable : modCable (fun _ => x.took rx) s = s.withCables [x.took rx] := by
    unfold modCable State.withCables State.modRange
    dsimp only
    rw [hx]
  refine next_congr ?_
  rw [cableSettle_held hx hh]
  dsimp only
  rw [hx]
  dsimp only
  rw [if_neg (by simp [hturn, hb]), if_neg (by simp [htdc]), ht]
  dsimp only
  rw [if_pos hh, if_pos hb]
  refine (congrArg (fun y => segmentTaken node y (modCable (fun _ => y) s)) htook).trans ?_
  rw [hcable]

/-- A segment that is not the last one adds its points (R264). -/
theorem exec_cableSegment_adds {rx : CableRx} (hl : x.samples.length + min 31 rx.samples.length < 2200) :
    exec (.cableSegment rx) s = .next (s.withCables [{ x with
      samples := x.samples ++ rx.samples.take 31, retaken := x.retaken + rx.retaken }]) := by
  obtain ⟨-, -, hwaiting, -, hfirst⟩ := cableTurn_iff.mp hturn
  have htook : x.took rx = { x with samples := x.samples ++ rx.samples.take 31, retaken := x.retaken + rx.retaken } := by
    unfold CableRun.took
    rw [List.take_of_length_le (l := rx.samples.take 31) (by rw [List.length_take]; omega)]
  rw [← htook]
  refine (exec_cableSegment_eq hx hb hh ht hturn htdc rx).trans (next_congr ?_)
  rw [segmentTaken, if_neg (by rw [CableRun.took_length]; omega)]
  exact rangeNext_stays hwaiting fun _ _ => .inr ((calibFirst_withCables hx (y := x.took rx) rfl).trans hfirst)

end

/-- The trace of a run stands, with event 0x0804, and its tile has its result (R264–R266, R269). -/
theorem cableDone_tile (c : CableRun) (node : Nat) (s : State) : ∃ d u, cableDone c node s =
      cableTile { node, status := if 14080 < c.retaken then St.cableNoisy else St.ok, data := d } u ∧ u.stew = s.stew ∧
      u.range = { s.range with cableRuns := wrapAdd 32 s.range.cableRuns 1, traces := u.range.traces } := by
  refine ⟨_, _, rfl, ?_, ?_⟩
  · rw [emit_stew]
    rfl
  · rw [emit_range]
    rfl

/-- The last segment completes the run (R264, R266, R268). -/
theorem exec_cableSegment_completes {x : CableRun} {y : WalkItem} {node : Nat} {rx : CableRx} (hx : s.range.cables = [x])
    (hb : x.begun = true) (hh : x.held = true) (ht : x.tiles = [node]) (hturn : cableTurn s = true) (htdc : s.range.tdcOk = true)
    (hl : x.samples.length + min 31 rx.samples.length = 2200) (hc : s.range.calib = none) (hk : x.ticket = tk.val)
    (hw : s.work tk.val = some w) (hwalk : w.walk = [y]) (hy : y.kind = 0) (hn : y.node = node) (hres : w.results = []) :
    ∃ t, exec (.cableSegment rx) s = .next t ∧ t.range.cables = [] ∧ t.range.cableRuns = wrapAdd 32 s.range.cableRuns 1 ∧
      (t.ticket tk.val).state = .completed ∧
      (t.ticket tk.val).status = (if 14080 < x.retaken + rx.retaken then St.cableNoisy else St.ok) := by
  obtain ⟨-, -, hwaiting, -, -⟩ := cableTurn_iff.mp hturn
  obtain ⟨d, u, hdone, hstew, hrange⟩ := cableDone_tile (x.took rx) node (s.withCables [x.took rx])
  have hwork : u.work x.ticket = some w := by
    rw [State.work, hstew, hk]
    exact hw
  obtain ⟨fuel, hfuel⟩ := cableFuel_succ (cableDone (x.took rx) node (s.withCables [x.took rx]))
  have hend := cableSettle_last (c := x.took rx)
    (r := { node, status := if 14080 < (x.took rx).retaken then St.cableNoisy else St.ok, data := d })
    (by rw [hrange]; rfl) ht (show x.ticket < 128 by rw [hk]; exact tk.isLt) hwork hwalk hy hn hres fuel
  rw [← hdone, ← hfuel, show (x.took rx).ticket = tk.val from hk] at hend
  refine ⟨_, (exec_cableSegment_eq hx hb hh ht hturn htdc rx).trans (next_congr ((if_pos ?_).trans (rangeNext_idle ?_ ?_))), ?_, ?_,
    hend.completed, hend.status⟩
  · rw [CableRun.took_length]
    omega
  · exact (congrArg Range.waiting hend.range).trans ((congrArg Range.waiting hrange).trans hwaiting)
  · exact (congrArg Range.calib hend.range).trans ((congrArg Range.calib hrange).trans hc)
  · exact congrArg Range.cables hend.range
  · exact (congrArg Range.cableRuns hend.range).trans (congrArg Range.cableRuns hrange)

/-! ### The deadline -/

/-- From `s` to `t` runs have ended or gone on that are none of ticket `k`: its entry and the epoch stand. -/
structure OthersSettled (k : Nat) (s t : State) : Prop where
  ticket : t.ticket k = s.ticket k
  time : t.time = s.time
  apart : ∀ c ∈ t.range.cables, c.ticket ≠ k

section
variable {k : Nat}

theorem OthersSettled.trans {r s t : State} (h : OthersSettled k r s) (g : OthersSettled k s t) : OthersSettled k r t :=
  ⟨g.ticket.trans h.ticket, g.time.trans h.time, g.apart⟩

theorem completeTiles_ticket_other {j : Nat} (hj : j ≠ k) (walk : List WalkItem) (rs : List TileRes) (s : State) :
    (completeTiles j walk rs s).ticket k = s.ticket k := by
  have hfinish (st fl : Nat) (d : Bytes) (fr : List Bytes) : (finishWith j st d fr fl s).ticket k = s.ticket k :=
    ticket_modTicket_other s hj
  unfold completeTiles
  split
  · split
    · exact hfinish ..
    · exact hfinish ..
  · exact hfinish ..

theorem cableEnd_others (h : ∀ c ∈ s.range.cables, c.ticket ≠ k) (st : Nat) : OthersSettled k s (cableEnd st s) := by
  cases hcables : s.range.cables with
  | nil =>
    have hstays : cableEnd st s = s := by unfold cableEnd; rw [hcables]
    rw [hstays]
    exact ⟨rfl, rfl, h⟩
  | cons c cs =>
    rw [hcables] at h
    have hfreed : OthersSettled k s (cableFreed c cs s) := by
      rw [cableFreed_frame]
      exact ⟨rfl, rfl, fun x hx => h x (List.mem_cons_of_mem c hx)⟩
    rw [cableEnd_eq st hcables]
    split
    · next w _ =>
      have htickets := onlyTickets_completeTiles c.ticket w.walk (cableResults st c w.results) (cableFreed c cs s)
      refine hfreed.trans ⟨completeTiles_ticket_other (h c List.mem_cons_self) .., ?_, ?_⟩
      · rw [htickets]
      · rw [htickets]
        exact hfreed.apart
    · exact hfreed

theorem cableTile_others (h : ∀ c ∈ s.range.cables, c.ticket ≠ k) (r : TileRes) : OthersSettled k s (cableTile r s) := by
  cases hcables : s.range.cables with
  | nil =>
    have hstays : cableTile r s = s := by unfold cableTile; rw [hcables]
    rw [hstays]
    exact ⟨rfl, rfl, h⟩
  | cons c cs =>
    rw [hcables] at h
    rw [cableTile_eq hcables]
    refine ⟨rfl, rfl, fun x hx => ?_⟩
    rcases List.mem_cons.mp hx with rfl | hx
    · exact h c List.mem_cons_self
    · exact h x (List.mem_cons_of_mem c hx)

theorem cableSettle_others (fuel : Nat) : ∀ {s : State}, (∀ c ∈ s.range.cables, c.ticket ≠ k) →
    OthersSettled k s (cableSettle fuel s) := by
  induction fuel with
  | zero => exact fun h => ⟨rfl, rfl, h⟩
  | succ fuel ih =>
    intro s h
    have hstays : OthersSettled k s s := ⟨rfl, rfl, h⟩
    unfold cableSettle
    split
    · split
      · exact hstays
      · split
        · exact (cableEnd_others h St.ok).trans (ih (cableEnd_others h St.ok).apart)
        · split
          · exact (cableTile_others h _).trans (ih (cableTile_others h _).apart)
          · exact hstays
    · exact hstays

end

/-- A run of ticket `tk` that is late stands first among the runs of the others (R267). -/
def cableLate (tk : Nat) (c : CableRun) (s : State) : State := s.withCables (c :: s.range.cables.filter (fun x => x.ticket != tk))

/-- The run that is late ends as TIMEOUT, and the others are still to come. -/
theorem cableEnd_late {c : CableRun} {y : WalkItem} (hk : c.ticket = tk.val) (hw : s.work tk.val = some w) (hwalk : w.walk = [y])
    (hy : y.kind = 0) (ht : c.tiles = [y.node]) (hres : w.results = []) :
    let t := cableEnd St.timeout (cableLate tk.val c s)
    (t.ticket tk.val).state = .completed ∧ (t.ticket tk.val).status = St.timeout ∧ t.time = s.time ∧
      ∀ x ∈ t.range.cables, x.ticket ≠ tk.val := by
  have hresult : resultOf (cableResults St.timeout c w.results) y.node = { node := y.node, status := St.timeout } := by
    rw [cableResults, hres, ht]
    exact resultOf_single { node := y.node, status := St.timeout }
  have hwork : (cableLate tk.val c s).work c.ticket = some w := by rw [hk]; exact hw
  have hend : cableEnd St.timeout (cableLate tk.val c s) = complete tk.val St.timeout []
      (cableFreed c (s.range.cables.filter (fun x => x.ticket != tk.val)) (cableLate tk.val c s)) := by
    rw [cableEnd_eq (s := cableLate tk.val c s) St.timeout rfl, hwork]
    dsimp only
    rw [hwalk, completeTiles_tile hy, hresult, hk]
  rw [hend, cableFreed_frame]
  have hanswered (u : State) := answered_complete (st := St.timeout) (d := []) u tk.isLt
  exact ⟨(hanswered _).completed, (hanswered _).status, rfl, fun x hx => by simpa using (List.mem_filter.mp hx).2⟩

/-- A run whose first segment has not come by its deadline is TIMEOUT (R267). -/
theorem exec_rangeCableDeadline_late {c : CableRun} {y : WalkItem}
    (hc : s.range.cables.find? (fun c => c.ticket == tk.val && !c.begun) = some c) (hd : clearUntil c.latest s = true)
    (hw : s.work tk.val = some w) (hwalk : w.walk = [y]) (hy : y.kind = 0) (ht : c.tiles = [y.node]) (hres : w.results = []) :
    ∃ t, exec (.rangeCableDeadline tk) s = .next t ∧ t.now = (reach c.latest s).now ∧
      (t.ticket tk.val).state = .completed ∧ (t.ticket tk.val).status = St.timeout := by
  have hticket : c.ticket = tk.val := by
    have hfound := List.find?_some hc
    simp only [Bool.and_eq_true, beq_iff_eq] at hfound
    exact hfound.1
  have hwork : (reach c.latest s).work tk.val = some w := by rw [State.work, reach_stew]; exact hw
  obtain ⟨hcompleted, hstatus, htime, hothers⟩ := cableEnd_late hticket hwork hwalk hy ht hres
  have hsettled := cableSettle_others (cableFuel (cableEnd St.timeout (cableLate tk.val c (reach c.latest s)))) hothers
  have hexec : exec (.rangeCableDeadline tk) s = .next (cableSettle
      (cableFuel (cableEnd St.timeout (cableLate tk.val c (reach c.latest s))))
      (cableEnd St.timeout (cableLate tk.val c (reach c.latest s)))) := by
    refine next_congr ?_
    rw [hc]
    exact atDue_clear hd
  refine ⟨_, hexec, congrArg TimeBase.epoch (hsettled.time.trans htime), ?_, ?_⟩ <;> rw [hsettled.ticket]
  · exact hcompleted
  · exact hstatus

/-- Settles O50: each clause is the rule of its command in the state it names; a run that ends does so by `CableOver`, and the runs
behind a late one leave its ticket alone (`OthersSettled`). -/
theorem portCalibrationAndCable : Obligations.PortCalibrationAndCable := by
  unfold Obligations.PortCalibrationAndCable
  intro tk rx s w
  refine ⟨fun hs hnew => ⟨exec_rangePortCalibrate_badArg hs hnew, fun hslot hlearned =>
      ⟨exec_rangePortCalibrate_disabled hs hnew hslot hlearned,
        fun hp hc => ⟨s, exec_rangePortCalibrate_waits hs hnew hslot hlearned hp hc, rfl⟩, fun hp hc hw => ?calibrates⟩⟩,
    fun hs => ⟨fun _ => exec_rangeSessionRead_some hs, exec_rangeSessionRead_none hs⟩,
    fun hs => ⟨fun _ => exec_rangeCableTraceRead_some hs, exec_rangeCableTraceRead_none hs⟩,
    fun n hs hc hn => ⟨fun hr => ?waits, fun x st hwalk hk hx hres hr => ?refused⟩,
    fun x node hx hb hh ht hturn htdc => ⟨fun hl => ⟨_, exec_cableSegment_adds hx hb hh ht hturn htdc hl, rfl⟩,
      fun y hl hc hk hw hwalk hy hn hres => exec_cableSegment_completes hx hb hh ht hturn htdc hl hc hk hw hwalk hy hn hres⟩,
    fun c y hc hd hw hwalk hy ht hres => exec_rangeCableDeadline_late hc hd hw hwalk hy ht hres⟩
  case calibrates =>
    exact ⟨_, exec_rangePortCalibrate_runs hs hnew hslot hlearned hp hc hw, rfl,
      congrArg TicketEntry.state (ticket_modTicket_same _ tk.isLt), rfl⟩
  case waits =>
    refine ⟨_, exec_rangeCable_waits hs hc hn hr, ?_⟩
    rw [cableAsked, hn]
    rfl
  case refused =>
    obtain ⟨t, hexec, hover⟩ := exec_rangeCable_refused hs hc hn hwalk hk hx hres hr
    exact ⟨t, hexec, congrArg Range.cables hover.range, hover.completed, hover.status, hover.sw⟩

end Sys2Proof.Machine
end

section
/-! SUPPORT. What the F die's work leaves alone: outside the F die everything but the lane's traffic, and inside it, while it makes
records and events, everything but these (R291–R296, R305, R507). -/

namespace Sys2Proof.Machine

/-! ### Frames -/

/-- The state `s` with what the F die's work may change of it, as `t` has it: the F die, the messages and the strobe it sends,
the sequences of its events, and the free values used. -/
def State.withFixer (s t : State) : State :=
  { s with free := t.free, ev := t.ev, fix := t.fix, lane := { s.lane with toM := t.lane.toM, strobe := t.lane.strobe } }

/-- From `s` to `t` the F die works, and no message of it is lost on the way. -/
structure FixerActs (s t : State) : Prop where
  frame : t = s.withFixer t
  sent : ∀ m ∈ s.lane.toM, m ∈ t.lane.toM

/-- The F die `f` with the records, the pending GAP and the events of `g` (R291, R295, R296, R507). -/
def Fixer.withRecords (f g : Fixer) : Fixer :=
  { f with next := g.next, chain := g.chain, since := g.since, buffer := g.buffer, gap := g.gap, events := g.events,
           dropped := g.dropped }

/-- From `s` to `t` the F die makes records and events alone. -/
structure RecordsOnly (s t : State) : Prop extends FixerActs s t where
  fix : t.fix = s.fix.withRecords t.fix

theorem FixerActs.refl (s : State) : FixerActs s s := ⟨rfl, fun _ => id⟩

theorem FixerActs.trans {r s t : State} (h : FixerActs r s) (k : FixerActs s t) : FixerActs r t where
  frame := k.frame.trans (congrArg (·.withFixer t) h.frame)
  sent m hm := k.sent m (h.sent m hm)

theorem RecordsOnly.refl (s : State) : RecordsOnly s s := ⟨.refl s, rfl⟩

theorem RecordsOnly.trans {r s t : State} (h : RecordsOnly r s) (k : RecordsOnly s t) : RecordsOnly r t where
  toFixerActs := h.toFixerActs.trans k.toFixerActs
  fix := k.fix.trans (congrArg (·.withRecords t.fix) h.fix)

/-- Whatever of the F die is neither a record nor an event stays as it was. -/
theorem RecordsOnly.keeps {s t : State} {α : Type} (h : RecordsOnly s t) (p : Fixer → α) :
    p t.fix = p (s.fix.withRecords t.fix) := congrArg p h.fix

theorem RecordsOnly.ite {r s t : State} {c : Prop} [Decidable c] (hs : RecordsOnly r s) (ht : RecordsOnly r t) :
    RecordsOnly r (if c then s else t) := by split <;> assumption

section
variable {r s : State}

/-- A change of the F die itself. -/
theorem FixerActs.modFix (f : Fixer → Fixer) (h : FixerActs r s) : FixerActs r (s.modFix f) := h.trans ⟨rfl, fun _ => id⟩

theorem FixerActs.useFree (h : FixerActs r s) : FixerActs r s.useFree := h.trans ⟨rfl, fun _ => id⟩

theorem FixerActs.modEv (f : EvUnit → EvUnit) (h : FixerActs r s) : FixerActs r (s.modEv f) := h.trans ⟨rfl, fun _ => id⟩

/-- The strobe raised (R273). -/
theorem FixerActs.strobe (h : FixerActs r s) : FixerActs r (s.modLane (fun l => { l with strobe := true })) :=
  h.trans ⟨rfl, fun _ => id⟩

theorem FixerActs.toMaster (m : LaneMsg) (h : FixerActs r s) : FixerActs r (toMaster m s) := by
  refine h.trans ?_
  unfold Machine.toMaster
  split
  · exact ⟨rfl, fun x hx => List.mem_append_left _ hx⟩
  · exact .refl s

@[simp] theorem toMaster_fix (m : LaneMsg) (s : State) : (toMaster m s).fix = s.fix := by rw [toMaster_frame]

/-- A change of records and events. -/
theorem RecordsOnly.modFix {f : Fixer → Fixer} (h : RecordsOnly r s) (hf : f s.fix = s.fix.withRecords (f s.fix)) :
    RecordsOnly r (s.modFix f) := h.trans ⟨(FixerActs.refl s).modFix f, hf⟩

theorem RecordsOnly.useFree (h : RecordsOnly r s) : RecordsOnly r s.useFree := h.trans ⟨(FixerActs.refl s).useFree, rfl⟩

theorem RecordsOnly.modEv (f : EvUnit → EvUnit) (h : RecordsOnly r s) : RecordsOnly r (s.modEv f) :=
  h.trans ⟨(FixerActs.refl s).modEv f, rfl⟩

theorem RecordsOnly.strobe (h : RecordsOnly r s) : RecordsOnly r (s.modLane (fun l => { l with strobe := true })) :=
  h.trans ⟨(FixerActs.refl s).strobe, rfl⟩

theorem RecordsOnly.toMaster (m : LaneMsg) (h : RecordsOnly r s) : RecordsOnly r (toMaster m s) :=
  h.trans ⟨(FixerActs.refl s).toMaster m, (toMaster_fix m s).trans (congrArg (s.fix.withRecords ·) (toMaster_fix m s).symm)⟩

/-! ### Records -/

theorem RecordsOnly.bufferRec (n : Nat) (b d : Bytes) (h : RecordsOnly r s) : RecordsOnly r (bufferRec n b d s) := by
  have hsent : RecordsOnly r (Machine.toMaster (.record n b)
      (s.modFix (fun f => { f with next := n + 1, buffer := f.buffer ++ [(n, b, d)] }))) := .toMaster _ (h.modFix rfl)
  exact .ite hsent.strobe hsent

theorem RecordsOnly.chainRec (ty : Nat) (body : Bytes) (h : RecordsOnly r s) : RecordsOnly r (chainRec ty body s) :=
  .bufferRec _ _ _ (h.modFix rfl)

theorem RecordsOnly.signRec (ty : Nat) (p : Bytes) (h : RecordsOnly r s) : RecordsOnly r (signRec ty p s) := .bufferRec _ _ _ h

theorem RecordsOnly.signature (h : RecordsOnly r s) : RecordsOnly r (signature s) :=
  .signRec _ _ (.signRec _ _ (.signRec _ _ (h.useFree.modFix rfl)))

theorem RecordsOnly.countLost (h : RecordsOnly r s) : RecordsOnly r (countLost s) := h.modFix rfl

theorem RecordsOnly.chainWith (ty : Nat) (body : Bytes) (h : RecordsOnly r s) : RecordsOnly r (chainWith ty body s) := by
  have hrec : RecordsOnly r (Machine.chainRec ty body s) := h.chainRec ty body
  exact .ite hrec.signature (.ite (.ite (hrec.chainRec _ _).signature hrec.countLost) hrec)

theorem RecordsOnly.makeRec (ty : Nat) (body : Bytes) (h : RecordsOnly r s) : RecordsOnly r (makeRec ty body s) :=
  .ite (h.chainWith ty body) h.countLost

theorem RecordsOnly.fixEvent (src code : Nat) (d : Bytes) (h : RecordsOnly r s) : RecordsOnly r (fixEvent src code d s) := by
  refine .toMaster _ (.modFix (h.modEv _) ?_)
  split <;> rfl

theorem RecordsOnly.recEvent (ty src code : Nat) (body d : Bytes) (h : RecordsOnly r s) :
    RecordsOnly r (recEvent ty body src code d s) :=
  .ite (.fixEvent _ _ _ (h.makeRec ty body)) (h.makeRec ty body)

theorem RecordsOnly.makeGap (g : GapAcc) (h : RecordsOnly r s) : RecordsOnly r (makeGap g s) :=
  .fixEvent _ _ _ (.chainWith _ _ (h.modFix rfl))

end

/-! ### Seal events (R298) -/

/-- The state whose seal counter has counted once more. -/
def sealedOnce (s : State) : State :=
  s.modFix (fun f => { f with seals := s.fix.seals.raise (satAdd 0xFFFFFFFF s.fix.seals.value 1) })

/-- A seal event counts; its record and its event follow. -/
theorem sealEvent_records (cause slot : Nat) (s : State) : RecordsOnly (sealedOnce s) (sealEvent cause slot s) :=
  .strobe (.recEvent _ _ _ _ _ (.refl _))

theorem sealEvent_seals (cause slot : Nat) (s : State) :
    (sealEvent cause slot s).fix.seals = s.fix.seals.raise (satAdd 0xFFFFFFFF s.fix.seals.value 1) :=
  (sealEvent_records cause slot s).keeps Fixer.seals

/-- A counter raised to the next value stands there, or at its end (R277). -/
theorem Unary.value_raise_succ {u : Unary} (h : u.value ≤ 0xFFFFFFFF) :
    (u.raise (satAdd 0xFFFFFFFF u.value 1)).value = satAdd 0xFFFFFFFF u.value 1 := by
  unfold raise
  split
  · exact Nat.div_add_mod' _ 256
  · next hend =>
    unfold satAdd at hend ⊢
    omega

/-- Where the counter stands as after one seal event, one has been counted. -/
theorem sealCounted_of_seals {s t : State} (h : t.fix.seals = s.fix.seals.raise (satAdd 0xFFFFFFFF s.fix.seals.value 1)) :
    SealCounted s t := fun hle => by rw [h]; exact Unary.value_raise_succ hle

/-! ### Answers -/

/-- What the F die sends reaches the M die (R113, R295). -/
abbrev FixerHeard (s : State) : Prop := s.stew.running = true ∧ s.eave.depth ≤ 2

theorem FixerActs.heard {s t : State} (h : FixerActs s t) (hs : FixerHeard s) : FixerHeard t := by
  rw [h.frame]
  exact hs

/-- An answer that was given stays given. -/
theorem FixerActs.replied {s t : State} {q st : Nat} {d : Bytes} (h : FixerActs s t) (hs : Replied q st d s) : Replied q st d t := by
  obtain ⟨r, hr, hspec⟩ := hs
  exact ⟨r, h.sent _ hr, hspec⟩

/-- Requests of the M die wait as they did. -/
theorem FixerActs.toF {s t : State} (h : FixerActs s t) : t.lane.toF = s.lane.toF := by
  rw [h.frame]
  rfl

theorem RecordsOnly.answer {r s : State} (q st : Nat) (d : Bytes) (h : RecordsOnly r s) : RecordsOnly r (answer q st d s) :=
  h.toMaster _

@[simp] theorem answer_fix (q st : Nat) (d : Bytes) (s : State) : (answer q st d s).fix = s.fix := toMaster_fix _ s

theorem FixerActs.answer {r s : State} (q st : Nat) (d : Bytes) (h : FixerActs r s) : FixerActs r (answer q st d s) :=
  h.toMaster _

/-- An answer is on its way to an M die that hears. -/
theorem replied_answer (q st : Nat) (d : Bytes) {s : State} (h : FixerHeard s) : Replied q st d (answer q st d s) := by
  unfold answer toMaster
  rw [if_pos h]
  exact ⟨_, List.mem_append_right _ (List.mem_singleton.mpr rfl), rfl, rfl, rfl⟩

end Sys2Proof.Machine
end

section
/-! SUPPORT. The class 0x09 commands on the lane (R24, R290, R303, R304). -/

namespace Sys2Proof.Machine

/-- `t` is `s` after the command of ticket `tk` has sent its request on the lane and waits for the RESPONSE (R303). -/
structure Requested (tk : Nat) (q : LaneReq) (s t : State) : Prop where
  running : (t.ticket tk).state = .running
  seq : t.lane.seq = wrapAdd 32 s.lane.seq 1
  out : t.lane.out = s.lane.out ++ [{ seq := s.lane.seq, req := q, user := .ticket tk, sent := s.now }]
  frame : t = { s with sheet := t.sheet, lane := t.lane }

/-- The request of a command that starts goes out under the next lane sequence number. -/
theorem requested_laneSend {tk : Nat} (htk : tk < 128) (q : LaneReq) (s : State) :
    Requested tk q s (laneSend q (.ticket tk) (start tk s)) where
  running := by
    rw [State.ticket, laneSend_frame]
    exact start_ticket htk s
  seq := by
    rw [laneSend_frame]
    rfl
  out := laneSend_out ..
  frame := by
    rw [laneSend_frame]
    rfl

/-- A command of class 0x09 other than FIXER.PAIR_STAGE: its opcode and the request it sends (R303). -/
inductive LaneCommand (tk : Fin 128) (w : Work) (s : State) : Instr → Nat → LaneReq → Prop
  | status : LaneCommand tk w s (.fixerStatus tk) 0x0901 (.recordRead 2 0 0)
  | recordRead : LaneCommand tk w s (.fixerRecordRead tk) 0x0902 (.recordRead 0 (u32At w.req.payload 0) (u16At w.req.payload 4))
  | speedRead : LaneCommand tk w s (.fixerSpeedRead tk) 0x0903 (.recordRead 1 (u32At w.req.payload 0) (u32At w.req.payload 4))
  | keyRead : LaneCommand tk w s (.fixerKeyRead tk) 0x0904 (.recordRead 3 0 0)
  | timePropose : LaneCommand tk w s (.fixerTimePropose tk) 0x0905
      (.timePropose (sext 64 (u64At w.req.payload 0)) (decide (s.power.mode = .workshop)))
  | cardStatus : w.remaining ≠ [] → LaneCommand tk w s (.fixerCardStatus tk) 0x0906 (.recordRead 2 0 0)
  | cardApdu : LaneCommand tk w s (.fixerCardApdu tk) 0x0907
      (.cardApdu (w.req.node - 0xD0) (slice w.req.payload 4 (u16At w.req.payload 0)))
  | cardReset : LaneCommand tk w s (.fixerCardReset tk) 0x0908 (.cardReset (w.req.node - 0xD0))

section
variable {tk : Fin 128} {w : Work} {s : State}

theorem laneCommand_up {op : Nat} {q : Work → State → LaneReq} (hs : startable tk.val op s = some w) (hup : s.lane.up = true) :
    laneCommand tk.val op q s = laneSend (q w s) (.ticket tk.val) (start tk.val s) := (command_start hs).trans (if_pos hup)

theorem laneCommand_down {op : Nat} {q : Work → State → LaneReq} (hs : startable tk.val op s = some w) (hdown : s.lane.up = false) :
    laneCommand tk.val op q s = complete tk.val St.fixerLaneDown [] s := (command_start hs).trans (if_neg (by simp [hdown]))

/-- FIXER.CARD_STATUS asks for the next tile while the lane is up, and else gives the tiles left as FIXER_LANE_DOWN (R72, R303). -/
theorem cardStatusNext_left (hw : s.work tk.val = some w) (hleft : w.remaining ≠ []) : cardStatusNext tk.val s =
    if s.lane.up then laneSend (.recordRead 2 0 0) (.ticket tk.val) s
    else completeTiles tk.val w.walk (w.results ++ w.remaining.map (fun n => { node := n, status := St.fixerLaneDown })) s := by
  unfold cardStatusNext
  rw [hw]
  dsimp only
  split
  · next h => exact absurd h hleft
  · rfl

/-- While the lane is up each of these commands sends its request. -/
theorem exec_laneCommand_up {i : Instr} {op : Nat} {q : LaneReq} (h : LaneCommand tk w s i op q)
    (hs : startable tk.val op s = some w) (hup : s.lane.up = true) :
    exec i s = .next (laneSend q (.ticket tk.val) (start tk.val s)) := by
  cases h with
  | status => exact next_congr (laneCommand_up hs hup)
  | recordRead => exact next_congr ((command_start hs).trans (if_pos hup))
  | speedRead => exact next_congr (laneCommand_up hs hup)
  | keyRead => exact next_congr (laneCommand_up hs hup)
  | timePropose => exact next_congr (laneCommand_up hs hup)
  | cardStatus hleft =>
    have hwork : s.work tk.val = some w := startable_work hs
    exact next_congr ((command_start hs).trans ((cardStatusNext_left (s := start tk.val s) hwork hleft).trans (if_pos hup)))
  | cardApdu => exact next_congr (laneCommand_up hs hup)
  | cardReset => exact next_congr (laneCommand_up hs hup)

/-- While it is down each but FIXER.RECORD_READ and FIXER.CARD_STATUS is FIXER_LANE_DOWN as a whole. -/
theorem exec_laneCommand_down {i : Instr} {op : Nat} {q : LaneReq} (h : LaneCommand tk w s i op q)
    (hs : startable tk.val op s = some w) (hdown : s.lane.up = false) (hop : op ∉ [0x0902, 0x0906]) :
    exec i s = .next (complete tk.val St.fixerLaneDown [] s) := by
  cases h with
  | recordRead => simp at hop
  | cardStatus => simp at hop
  | status => exact next_congr (laneCommand_down hs hdown)
  | speedRead => exact next_congr (laneCommand_down hs hdown)
  | keyRead => exact next_congr (laneCommand_down hs hdown)
  | timePropose => exact next_congr (laneCommand_down hs hdown)
  | cardApdu => exact next_congr (laneCommand_down hs hdown)
  | cardReset => exact next_congr (laneCommand_down hs hdown)

/-- FIXER.RECORD_READ answers from the vault while the lane is down (R303). -/
theorem exec_fixerRecordRead_down (hs : startable tk.val 0x0902 s = some w) (hdown : s.lane.up = false) :
    exec (.fixerRecordRead tk) s = .next (
      if s.lane.head < u32At w.req.payload 0 then complete tk.val St.fixerRange [] s
      else complete tk.val St.fixerPartial (recordReply s.lane.head
        (vaultRecords (u32At w.req.payload 0) (u16At w.req.payload 4) s) s) s) := by
  refine next_congr ((command_start hs).trans ((if_neg (by simp [hdown])).trans ?_))
  unfold recordPartial
  rw [startable_work hs]
  rfl

/-- The state whose M die no longer waits for a RESPONSE to the ticket's requests (R303). -/
def ticketForgotten (tk : Nat) (s : State) : State :=
  s.modLane (fun l => { l with
    out := l.out.map (fun o => if o.user = .ticket tk then { o with user := .none } else o)
    again := l.again.filter (fun a => a.2 != .ticket tk) })

theorem ticketForgotten_users (tk : Nat) (s : State) : ∀ o ∈ (ticketForgotten tk s).lane.out, o.user ≠ .ticket tk := by
  intro o ho
  obtain ⟨x, -, rfl⟩ := List.mem_map.mp ho
  split
  · simp
  · assumption

/-- Stamp at which FIXER.CARD_APDU ends without a RESPONSE (R303). -/
def apduDeadline (w : Work) : Nat := w.accept + (if w.req.deadline = 0 then lsbOfMs 2000 else lsbOfUs w.req.deadline)

/-- FIXER.CARD_APDU is TIMEOUT at its deadline, and nobody waits for the RESPONSE any more (R303). -/
theorem exec_cardApduDeadline (hw : s.work tk.val = some w) (hop : w.req.opcode = 0x0907) (hrun : (s.ticket tk.val).state = .running)
    (hc : clearUntil (apduDeadline w) s = true) : exec (.cardApduDeadline tk) s = .next (completeTiles tk.val w.walk
      [{ node := w.req.node, status := St.timeout }] (ticketForgotten tk.val (reach (apduDeadline w) s))) := by
  refine next_congr ?_
  rw [hw]
  exact (if_pos ⟨hop, Or.inr hrun⟩).trans (atDue_clear hc)

end

/-- Settles O37: a command of the lane sends its request or is FIXER_LANE_DOWN (`exec_laneCommand_up`, `…_down`), FIXER.RECORD_READ
and FIXER.CARD_STATUS have their own answers while the lane is down, and the deadline of FIXER.CARD_APDU forgets its request. -/
theorem fixerCommandsUseTheLane : Obligations.FixerCommandsUseTheLane := by
  unfold Obligations.FixerCommandsUseTheLane
  intro tk s w
  refine ⟨fun i op q hs hi => ?lane, fun hs hdown => ?vault, fun hs hdown hres hleft => ?tiles, fun v hw hop hrun hc => ?deadline⟩
  case lane =>
    have hcmd : LaneCommand tk w s i op q := by
      obtain ⟨rfl, rfl, rfl⟩ | ⟨rfl, rfl, rfl⟩ | ⟨rfl, rfl, rfl⟩ | ⟨rfl, rfl, rfl⟩ | ⟨rfl, rfl, rfl⟩ | ⟨rfl, rfl, hleft, rfl⟩ |
        ⟨rfl, rfl, rfl⟩ | ⟨rfl, rfl, rfl⟩ := hi
      · exact .status
      · exact .recordRead
      · exact .speedRead
      · exact .keyRead
      · exact .timePropose
      · exact .cardStatus hleft
      · exact .cardApdu
      · exact .cardReset
    refine ⟨fun hup => ?_, fun hdown hop => ⟨_, exec_laneCommand_down hcmd hs hdown hop, answered_complete s tk.isLt⟩⟩
    obtain ⟨hrunning, hseq, hout, hframe⟩ := requested_laneSend tk.isLt q s
    exact ⟨_, exec_laneCommand_up hcmd hs hup, hrunning, hseq, hout, hframe⟩
  case vault =>
    refine ⟨fun hlt => ⟨_, exec_fixerRecordRead_down hs hdown, ?_⟩, fun hle => ⟨_, exec_fixerRecordRead_down hs hdown, ?_⟩⟩
    · rw [if_pos hlt]
      exact answered_complete s tk.isLt
    · rw [if_neg (Nat.not_lt.mpr hle)]
      exact answered_complete s tk.isLt
  case tiles =>
    have hwork : s.work tk.val = some w := startable_work hs
    have hnext := (cardStatusNext_left (s := start tk.val s) hwork hleft).trans (if_neg (by simp [hdown]))
    rw [hres, List.nil_append] at hnext
    exact ⟨_, next_congr ((command_start hs).trans hnext), tilesAnswered_completeTiles _ _ _ tk.isLt⟩
  case deadline =>
    refine ⟨_, _, exec_cardApduDeadline hw hop hrun hc, tilesAnswered_completeTiles _ _ _ tk.isLt, ticketForgotten_users tk.val _, ?_, ?_⟩
    · exact (List.length_map _).trans (by rw [reach_lane])
    · rw [reach_frame]
      rfl

end Sys2Proof.Machine
end

section
/-! SUPPORT. The cards and the motion sensor of the F die: what their operations leave alone, how one card's operation leaves the
other card, and which requests an operation answers (R280–R282, R288–R290, R302). -/

namespace Sys2Proof.Machine

/-! ### Frames -/

/-- The F die `f` with the records, the cards, the motion-sensor link and the minute in progress of `g`. -/
def Fixer.withPeripherals (f g : Fixer) : Fixer :=
  { f.withRecords g with cards := g.cards, motion := g.motion, minute := g.minute }

/-- From `s` to `t` the F die works on its cards, its motion sensor and the minute in progress, with records and events. -/
structure PeripheralsOnly (s t : State) : Prop extends FixerActs s t where
  fix : t.fix = s.fix.withPeripherals t.fix

theorem PeripheralsOnly.refl (s : State) : PeripheralsOnly s s := ⟨.refl s, rfl⟩

theorem PeripheralsOnly.trans {r s t : State} (h : PeripheralsOnly r s) (k : PeripheralsOnly s t) : PeripheralsOnly r t where
  toFixerActs := h.toFixerActs.trans k.toFixerActs
  fix := k.fix.trans (congrArg (·.withPeripherals t.fix) h.fix)

/-- Whatever else the F die holds stays as it was. -/
theorem PeripheralsOnly.keeps {s t : State} {α : Type} (h : PeripheralsOnly s t) (p : Fixer → α) :
    p t.fix = p (s.fix.withPeripherals t.fix) := congrArg p h.fix

theorem PeripheralsOnly.ite {r s t : State} {c : Prop} [Decidable c] (hs : PeripheralsOnly r s) (ht : PeripheralsOnly r t) :
    PeripheralsOnly r (if c then s else t) := by split <;> assumption

theorem RecordsOnly.peripherals {s t : State} (h : RecordsOnly s t) : PeripheralsOnly s t where
  toFixerActs := h.toFixerActs
  fix := by
    have hcards : t.fix.cards = s.fix.cards := h.keeps Fixer.cards
    have hmotion : t.fix.motion = s.fix.motion := h.keeps Fixer.motion
    have hminute : t.fix.minute = s.fix.minute := h.keeps Fixer.minute
    rw [Fixer.withPeripherals, hcards, hmotion, hminute]
    exact h.fix

theorem PeripheralsOnly.modFix {r s : State} {f : Fixer → Fixer} (h : PeripheralsOnly r s)
    (hf : f s.fix = s.fix.withPeripherals (f s.fix)) : PeripheralsOnly r (s.modFix f) :=
  h.trans ⟨(FixerActs.refl s).modFix f, hf⟩

/-! ### One card -/

theorem card_modCard_same (g : Card → Card) {n : Nat} (h : n < 2) (s : State) : (s.modCard n g).card n = g (s.card n) :=
  tget_tmod_same _ _ _ h

theorem card_modCard_other (g : Card → Card) {n k : Nat} (h : n ≠ k) (s : State) : (s.modCard n g).card k = s.card k :=
  tget_tmod_other _ _ _ _ h

/-- Records touch no card. -/
theorem RecordsOnly.card {s t : State} (h : RecordsOnly s t) (k : Nat) : t.card k = s.card k :=
  h.keeps (fun f => tget f.cards k)

theorem cardRec_records (n kind role : Nat) (hash : Bytes) (s : State) : RecordsOnly s (cardRec n kind role hash s) :=
  .recEvent _ _ _ _ _ (.refl s)

/-- What an APDU leaves of its card: the exchange it opens and the bytes sent (R288). -/
theorem card_apduSend {n : Nat} (h : n < 2) (b : Bytes) (s : State) : (apduSend n b s).card n =
    { s.card n with link := ((s.card n).command b).2, sent := ((s.card n).command b).1 } := card_modCard_same _ h s

theorem card_cardAsk {n : Nat} (h : n < 2) (step : CardStep) (b : Bytes) (s : State) : (cardAsk n step b s).card n =
    { s.card n with step, link := ((s.card n).command b).2, sent := ((s.card n).command b).1 } := by
  rw [cardAsk, card_apduSend h, card_modCard_same _ h]
  rfl

/-- A card that is activated owes its ATR (R288, R289). -/
theorem card_activate {n : Nat} (h : n < 2) (cls : Nat) (s : State) : (activate n cls s).card n = { s.card n with
    step := .atr, sent := [], cls, link := {}
    info := { state := 1, cls, khz := 3750, inserted := (s.card n).info.inserted } } := by
  rw [activate, card_modCard_same _ h, cardSend, card_modCard_same _ h]

/-! ### The next authentication (R302) -/

/-- From `c` to `d` a card that is being activated may go on with it; what is not being activated stays as it is. -/
structure Card.Rearmed (c d : Card) : Prop where
  state : d.info.state = c.info.state
  present : d.present = c.present
  inserted : d.info.inserted = c.info.inserted
  reset : d.reset = c.reset
  settled : c.info.state ≠ 1 → d = c

theorem Card.Rearmed.refl (c : Card) : c.Rearmed c := ⟨rfl, rfl, rfl, rfl, fun _ => rfl⟩

theorem Card.Rearmed.trans {c d e : Card} (h : c.Rearmed d) (k : d.Rearmed e) : c.Rearmed e where
  state := k.state.trans h.state
  present := k.present.trans h.present
  inserted := k.inserted.trans h.inserted
  reset := k.reset.trans h.reset
  settled hc := (k.settled (by rw [h.state]; exact hc)).trans (h.settled hc)

/-- From `s` to `t` activations go on, and nothing but the cards changes. -/
structure AuthsOnly (s t : State) : Prop where
  frame : t = { s with fix := { s.fix with cards := t.fix.cards } }
  card : ∀ k, (s.card k).Rearmed (t.card k)

theorem AuthsOnly.refl (s : State) : AuthsOnly s s := ⟨rfl, fun _ => .refl _⟩

theorem AuthsOnly.modCard {r s : State} {n : Nat} {g : Card → Card} (h : AuthsOnly r s) (hg : (s.card n).Rearmed (g (s.card n))) :
    AuthsOnly r (s.modCard n g) where
  frame := (congrArg (·.modCard n g) h.frame).trans (by rw [h.frame]; rfl)
  card k := by
    refine (h.card k).trans ?_
    by_cases hk : n = k
    · subst hk
      exact tget_tmod_of (P := (s.card n).Rearmed) (.refl _) hg
    · rw [card_modCard_other g hk]
      exact .refl _

theorem AuthsOnly.activate {r s : State} {n : Nat} (cls : Nat) (h : AuthsOnly r s) (hn : n < 2) (hs : (s.card n).info.state = 1) :
    AuthsOnly r (activate n cls s) := by
  have hsend : AuthsOnly r (cardSend n .atr [] s) := h.modCard ⟨rfl, rfl, rfl, rfl, fun hne => absurd hs hne⟩
  have hstate : ((cardSend n .atr [] s).card n).info.state = 1 := by rw [cardSend, card_modCard_same _ hn]; exact hs
  exact hsend.modCard ⟨hstate.symm, rfl, rfl, rfl, fun hne => absurd hstate hne⟩

theorem nextAuth_auths (s : State) : AuthsOnly s (nextAuth s) := by
  unfold nextAuth
  split
  · exact .refl s
  · split
    · exact .refl s
    · next n hfind =>
      have hn : n < 2 := List.mem_range.mp (List.mem_of_find?_eq_some hfind)
      have hstate : (s.card n).info.state = 1 := by simpa using List.find?_some hfind
      extract_lets m s1
      have h1 : AuthsOnly s s1 := by
        unfold s1
        split
        · next hm => exact (AuthsOnly.refl s).modCard ⟨rfl, rfl, rfl, rfl, fun hne => absurd hm hne⟩
        · exact .refl s
      split
      · exact h1.activate _ hn ((h1.card n).state.trans hstate)
      · exact h1

theorem AuthsOnly.peripherals {s t : State} (h : AuthsOnly s t) : PeripheralsOnly s t where
  frame := by rw [h.frame]; rfl
  sent m hm := by rw [h.frame]; exact hm
  fix := by rw [h.frame]; rfl

/-! ### Requests that end (R289, R290, R303) -/

theorem FixerActs.foldl {α : Type} {f : State → α → State} (hf : ∀ s x, FixerActs s (f s x)) :
    ∀ (l : List α) (s : State), FixerActs s (l.foldl f s)
  | [], s => .refl s
  | x :: xs, s => (hf s x).trans (.foldl hf xs (f s x))

theorem foldl_answer_fix {α : Type} (q st : α → Nat) : ∀ (l : List α) (s : State),
    (l.foldl (fun t x => answer (q x) (st x) [] t) s).fix = s.fix
  | [], _ => rfl
  | _ :: xs, s => (foldl_answer_fix q st xs _).trans (answer_fix _ _ _ s)

/-- Each request of a list is answered in turn. -/
theorem replied_foldl_answer {α : Type} (q st : α → Nat) {x : α} (l : List α) {s : State} (hs : FixerHeard s) (hx : x ∈ l) :
    Replied (q x) (st x) [] (l.foldl (fun t x => answer (q x) (st x) [] t) s) := by
  induction l generalizing s with
  | nil => cases hx
  | cons y ys ih =>
    have hacts : FixerActs s (answer (q y) (st y) [] s) := .answer _ _ _ (.refl s)
    rcases List.mem_cons.mp hx with rfl | hx
    · exact (FixerActs.foldl (fun _ _ => .answer _ _ _ (.refl _)) ys _).replied (replied_answer _ _ _ hs)
    · exact ih (hacts.heard hs) hx

theorem endReqs_fix (n st : Nat) (s : State) :
    (endReqs n st s).fix = (s.modCard n (fun c => { c with reqs := [], reset := none })).fix := by
  rw [endReqs]
  split
  · exact (answer_fix ..).trans (foldl_answer_fix _ _ _ _)
  · exact foldl_answer_fix _ _ _ _

theorem endReqs_acts (n st : Nat) (s : State) : FixerActs s (endReqs n st s) := by
  have hfold := ((FixerActs.refl s).modFix (fun f => { f with cards := tmod f.cards n (fun c => { c with reqs := [], reset := none }) })).trans
    (FixerActs.foldl (f := fun t (r : Nat × Bytes) => answer r.1 (if r.2.isEmpty then St.fixerCardError else st) [] t)
      (fun _ _ => .answer _ _ _ (.refl _)) (s.card n).reqs _)
  rw [endReqs]
  split
  · exact hfold.answer _ _ _
  · exact hfold

theorem replied_endReqs {n st q : Nat} {b : Bytes} {s : State} (hs : FixerHeard s) (hq : (q, b) ∈ (s.card n).reqs) :
    Replied q (if b.isEmpty then St.fixerCardError else st) [] (endReqs n st s) := by
  have hfold := replied_foldl_answer (fun r : Nat × Bytes => r.1) (fun r => if r.2.isEmpty then St.fixerCardError else st)
    (s := s.modCard n (fun c => { c with reqs := [], reset := none })) (s.card n).reqs hs hq
  rw [endReqs]
  cases (s.card n).reset with
  | some _ => exact (FixerActs.answer _ _ _ (.refl _)).replied hfold
  | none => exact hfold

theorem card_endReqs_same {n : Nat} (h : n < 2) (st : Nat) (s : State) :
    (endReqs n st s).card n = { s.card n with reqs := [], reset := none } := by
  rw [State.card, endReqs_fix]
  exact card_modCard_same _ h s

theorem card_endReqs_other {n k : Nat} (h : n ≠ k) (st : Nat) (s : State) : (endReqs n st s).card k = s.card k := by
  rw [State.card, endReqs_fix]
  exact card_modCard_other _ h s

theorem endReqs_peripherals (n st : Nat) (s : State) : PeripheralsOnly s (endReqs n st s) :=
  ⟨endReqs_acts n st s, by rw [endReqs_fix]; rfl⟩

/-! ### Cards that fail and cards that leave -/

theorem card_deactivate {n : Nat} (h : n < 2) (s : State) : ((deactivate n s).card n).info.state = 3 := by
  rw [deactivate, card_modCard_same _ h]

/-- A card whose authentication fails is refused (R289). -/
theorem card_authFails {n : Nat} (h : n < 2) (s : State) : ((authFails n s).card n).info.state = 3 := by
  rw [authFails, ((nextAuth_auths _).card n).state, (cardRec_records ..).card, card_endReqs_same h]
  exact card_deactivate h s

/-- A card error while requests are forwarded refuses the card and ends them (R290, R304). -/
theorem cardError_ready {n q : Nat} {b : Bytes} {s : State} (hn : n < 2) (hready : (s.card n).step = .ready)
    (hs : FixerHeard s) (hq : (q, b) ∈ (s.card n).reqs) :
    ((cardError n s).card n).info.state = 3 ∧ Replied q St.fixerCardError [] (cardError n s) := by
  have herror : cardError n s = nextAuth (deactivate n (endReqs n St.fixerCardError s)) := if_pos hready
  have hacts : FixerActs (endReqs n St.fixerCardError s) (cardError n s) := by
    rw [herror]
    exact (((FixerActs.refl _).modFix _).modFix _).trans (nextAuth_auths _).peripherals.toFixerActs
  refine ⟨?_, hacts.replied ?_⟩
  · rw [herror, ((nextAuth_auths _).card n).state]
    exact card_deactivate hn _
  · have hreply := replied_endReqs (st := St.fixerCardError) hs hq
    rwa [ite_self] at hreply

/-- Any other card error is a failed authentication (R289). -/
theorem cardError_other {n : Nat} {s : State} (h : (s.card n).step ≠ .ready) : cardError n s = authFails n s := if_neg h

/-- The state in which a card has gone and its record is made, before the other card's turn. -/
def cardGoneFrom (n : Nat) (s : State) : State :=
  raiseStrobe (cardRec n 1 (if (s.card n).info.state = 2 then (s.card n).info.role else 0) (s.card n).info.hash
    ((endReqs n St.fixerCardRemoved (s.modFix Fixer.noteCards)).modCard n (fun _ => {})))

theorem removeCard_eq (n : Nat) (s : State) : removeCard n s = nextAuth (cardGoneFrom n s) := rfl

theorem cardGoneFrom_card (n k : Nat) (s : State) : (cardGoneFrom n s).card k =
    ((endReqs n St.fixerCardRemoved (s.modFix Fixer.noteCards)).modCard n (fun _ => {})).card k := (cardRec_records ..).card k

/-- Nothing is left of a card that has been removed (R289). -/
theorem card_removeCard_same {n : Nat} (h : n < 2) (s : State) : (removeCard n s).card n = {} := by
  have hgone : (cardGoneFrom n s).card n = {} := (cardGoneFrom_card n n s).trans (card_modCard_same _ h _)
  rw [removeCard_eq]
  exact (((nextAuth_auths _).card n).settled (by rw [hgone]; decide)).trans hgone

/-- The other card stays where it is. -/
theorem card_removeCard_other {n k : Nat} (h : n ≠ k) (s : State) : ((removeCard n s).card k).present = (s.card k).present := by
  rw [removeCard_eq, ((nextAuth_auths _).card k).present, cardGoneFrom_card, card_modCard_other _ h, card_endReqs_other h]
  rfl

theorem removeCard_strobe (n : Nat) (s : State) : (removeCard n s).lane.strobe = true := by
  rw [removeCard_eq, (nextAuth_auths _).frame]
  rfl

theorem removeCard_peripherals (n : Nat) (s : State) : PeripheralsOnly s (removeCard n s) := by
  have hended : PeripheralsOnly s (endReqs n St.fixerCardRemoved (s.modFix Fixer.noteCards)) :=
    (PeripheralsOnly.modFix (.refl s) rfl).trans (endReqs_peripherals ..)
  have hrec : PeripheralsOnly s (cardGoneFrom n s) :=
    PeripheralsOnly.trans (hended.modFix rfl) (RecordsOnly.strobe (cardRec_records ..)).peripherals
  exact hrec.trans (nextAuth_auths _).peripherals

/-! ### The card that is served (R290) -/

theorem apduSend_acts (n : Nat) (b : Bytes) (s : State) : FixerActs s (apduSend n b s) := by
  unfold apduSend
  exact (FixerActs.refl s).modFix _

theorem serveCard_acts (n : Nat) (s : State) : FixerActs s (serveCard n s) := by
  unfold serveCard
  split
  · exact (FixerActs.refl s).modFix _
  · exact (((FixerActs.refl s).modFix _).modFix _).trans (nextAuth_auths _).peripherals.toFixerActs
  · exact apduSend_acts n _ s

theorem joinCard_acts (q n : Nat) (b : Bytes) (s : State) : FixerActs s (joinCard q n b s) := by
  have hjoined : FixerActs s (s.modCard n (fun c => { c with reqs := c.reqs ++ [(q, b)] })) := (FixerActs.refl s).modFix _
  unfold joinCard
  dsimp only
  split
  · exact hjoined.trans (serveCard_acts n _)
  · exact hjoined

/-! ### The motion sensor -/

theorem sensorRec_records (kind : Nat) (diff : Int) (id : Nat) (s : State) : RecordsOnly s (sensorRec kind diff id s) :=
  .recEvent _ _ _ _ _ (.refl s)

/-- A failed check changes the link and the minute's flags, then its record is made (R281, R282). -/
theorem checkFails_spec (kind : Nat) (diff : Int) (s : State) : PeripheralsOnly s (checkFails kind diff s) ∧
    (checkFails kind diff s).fix.cards = s.fix.cards ∧ (checkFails kind diff s).fix.motion.check = none ∧
    (s.fix.motion.pairing = none → (checkFails kind diff s).fix.motion =
      { s.fix.motion with check := none, passed := false, failed := true }) := by
  unfold checkFails
  extract_lets m id s1 s2
  have hrec : RecordsOnly s2 (sensorRec kind diff id s2) := sensorRec_records kind diff id s2
  have hmotion : (sensorRec kind diff id s2).fix.motion = s2.fix.motion := hrec.keeps Fixer.motion
  have hcards : (sensorRec kind diff id s2).fix.cards = s2.fix.cards := hrec.keeps Fixer.cards
  rw [hmotion, hcards]
  suffices h : PeripheralsOnly s s2 ∧ s2.fix.cards = s.fix.cards ∧ s2.fix.motion.check = none ∧
      (s.fix.motion.pairing = none → s2.fix.motion = { s.fix.motion with check := none, passed := false, failed := true }) from
    ⟨h.1.trans hrec.peripherals, h.2⟩
  cases hp : s.fix.motion.pairing with
  | none =>
    have hs2 : s2 = s.modFix (fun f => { f with
        motion := { f.motion with check := none, passed := false, failed := true }
        minute := { f.minute with flags := f.minute.flags ||| 4 } }) := by
      simp only [s2, s1, m, State.modMotion, State.modFix, hp]
      rfl
    rw [hs2]
    exact ⟨PeripheralsOnly.modFix (.refl s) rfl, rfl, rfl, fun _ => rfl⟩
  | some p =>
    have hs2 : s2 = s.modFix (fun f => { f with motion := { f.motion with check := none, pairing := none } }) := by
      simp only [s2, s1, m, State.modMotion, State.modFix, hp]
      rfl
    rw [hs2]
    exact ⟨PeripheralsOnly.modFix (.refl s) rfl, rfl, rfl, fun h => nomatch h⟩

end Sys2Proof.Machine
end

section
/-! SUPPORT. Supplies, lid, mesh and start of the F die (R272, R277, R287, R297–R299). -/

namespace Sys2Proof.Machine

/-! ### The supplies (R272) -/

theorem powerRec_records (kind mv : Nat) (s : State) :
    RecordsOnly (s.modFix (fun f => { f with vfb := mv })) (powerRec kind mv s) := .recEvent _ _ _ _ _ (.refl _)

/-- On VFB a card that is present counts as removed (R272). -/
def removePresent (n : Nat) (s : State) : State := if (s.card n).present then removeCard n s else s

theorem removePresent_peripherals (n : Nat) (s : State) : PeripheralsOnly s (removePresent n s) :=
  .ite (removeCard_peripherals n s) (.refl s)

theorem removePresent_same {n : Nat} (h : n < 2) (s : State) : ((removePresent n s).card n).present = false := by
  unfold removePresent
  split
  · rw [card_removeCard_same h]
  · next hp => simpa using hp

theorem removePresent_other {n k : Nat} (h : n ≠ k) (s : State) :
    ((removePresent n s).card k).present = (s.card k).present := by
  unfold removePresent
  split
  · exact card_removeCard_other h s
  · rfl

/-- MS_DATA falls idle: a CHECK that waits is dropped, and fails where a pairing needs it (R272, R282). -/
def dropCheck (s : State) : State :=
  if s.fix.motion.pairing.isSome then checkFails 3 0 s else s.modMotion (fun m => { m with check := none })

theorem dropCheck_spec (s : State) :
    PeripheralsOnly s (dropCheck s) ∧ (dropCheck s).fix.cards = s.fix.cards ∧ (dropCheck s).fix.motion.check = none := by
  unfold dropCheck
  split
  · obtain ⟨honly, hcards, hcheck, -⟩ := checkFails_spec 3 0 s
    exact ⟨honly, hcards, hcheck⟩
  · exact ⟨PeripheralsOnly.modFix (.refl s) rfl, rfl, rfl⟩

/-- The F die on VFB: its POWER record, both cards removed, and no CHECK that waits (R272). -/
def onVfb (mv : Nat) (s : State) : State :=
  dropCheck ((List.range 2).foldl (fun t n => removePresent n t) (powerRec 1 mv (s.modFix (fun f => { f with onVfb := true }))))

theorem exec_fSupplyToVfb {mv : Nat} {s : State} (hr : s.fix.running = true) (hv : s.fix.onVfb = false) :
    exec (.fSupplyToVfb mv) s = .next (onVfb mv s) := by
  refine next_congr ?_
  rw [if_neg (by simp [hr, hv])]
  rfl

theorem onVfb_spec (mv : Nat) (s : State) : (onVfb mv s).fix.onVfb = true ∧ (onVfb mv s).fix.vfb = mv ∧
    ((onVfb mv s).card 0).present = false ∧ ((onVfb mv s).card 1).present = false ∧ (onVfb mv s).fix.motion.check = none ∧
    (onVfb mv s).fix.clock = s.fix.clock := by
  have hboth (u : State) : (List.range 2).foldl (fun t n => removePresent n t) u = removePresent 1 (removePresent 0 u) := rfl
  unfold onVfb
  rw [hboth]
  have hpower := powerRec_records 1 mv (s.modFix (fun f => { f with onVfb := true }))
  generalize powerRec 1 mv (s.modFix (fun f => { f with onVfb := true })) = u at hpower ⊢
  obtain ⟨hdrop, hcards, hcheck⟩ := dropCheck_spec (removePresent 1 (removePresent 0 u))
  have honly : PeripheralsOnly u (dropCheck (removePresent 1 (removePresent 0 u))) :=
    ((removePresent_peripherals 0 u).trans (removePresent_peripherals 1 _)).trans hdrop
  have hcard (k : Nat) : (dropCheck (removePresent 1 (removePresent 0 u))).card k = (removePresent 1 (removePresent 0 u)).card k :=
    congrArg (tget · k) hcards
  have hvfb : u.fix.onVfb = true := hpower.keeps Fixer.onVfb
  have hmv : u.fix.vfb = mv := hpower.keeps Fixer.vfb
  have hclock : u.fix.clock = s.fix.clock := hpower.keeps Fixer.clock
  refine ⟨(honly.keeps Fixer.onVfb).trans hvfb, (honly.keeps Fixer.vfb).trans hmv, ?_, ?_, hcheck,
    (honly.keeps Fixer.clock).trans hclock⟩
  · rw [hcard, removePresent_other (by decide)]
    exact removePresent_same (by decide) u
  · rw [hcard]
    exact removePresent_same (by decide) _

theorem exec_fSupplyToVfix {mv : Nat} {s : State} (hr : s.fix.running = true) (hv : s.fix.onVfb = true) :
    exec (.fSupplyToVfix mv) s = .next (powerRec 2 mv (s.modFix (fun f => { f with onVfb := false }))) :=
  next_congr (if_pos ⟨hr, hv⟩)

/-! ### Lid and mesh (R299) -/

theorem Fixer.lidFar_iff {f : Fixer} : f.lidFar = true ↔ ∀ c, f.lidClosed = some c → c + oneSec ≤ f.clock := by
  unfold lidFar
  split <;> simp_all

/-- The F die after a sample of the lid contact (R299). -/
def Fixer.lidSampled (f : Fixer) : Fixer :=
  if f.lidOpen = f.lidSeen then f
  else { f with lidSeen := f.lidOpen, lidClosed := if f.lidOpen then f.lidClosed else some f.clock }

section
variable {s : State}

/-- A lid that stands as it was last sampled changes nothing. -/
theorem senseLid_sensed (h : LidSensed s) : senseLid s = s := by
  have hnone : ¬(s.fix.lidOpen = true ∧ s.fix.lidSeen = false ∧ s.fix.lidFar = true) := by
    rw [show s.fix.lidOpen = _ from h]
    simp +contextual
  have hsame : s.fix.lidSampled = s.fix := if_pos h
  calc senseLid s = s.modFix Fixer.lidSampled := if_neg hnone
    _ = s := by rw [State.modFix, hsame]

/-- An opening is one seal event when the lid was closed for 1 s before. -/
theorem senseLid_opened (ho : s.fix.lidOpen = true) (hseen : s.fix.lidSeen = false) (hfar : s.fix.lidFar = true) :
    senseLid s = sealEvent 4 0xFF (s.modFix (fun f => { f with lidSeen := true })) := by
  have hsampled : s.fix.lidSampled = { s.fix with lidSeen := true } := by simp [Fixer.lidSampled, ho, hseen]
  calc senseLid s = sealEvent 4 0xFF (s.modFix Fixer.lidSampled) := if_pos ⟨ho, hseen, hfar⟩
    _ = sealEvent 4 0xFF (s.modFix (fun f => { f with lidSeen := true })) := by rw [State.modFix, hsampled]; rfl

/-- An opening within 1 s of the last closing is none. -/
theorem senseLid_openedSoon (ho : s.fix.lidOpen = true) (hseen : s.fix.lidSeen = false) (hfar : s.fix.lidFar = false) :
    senseLid s = s.modFix (fun f => { f with lidSeen := true }) := by
  have hsampled : s.fix.lidSampled = { s.fix with lidSeen := true } := by simp [Fixer.lidSampled, ho, hseen]
  calc senseLid s = s.modFix Fixer.lidSampled := if_neg (by simp [hfar])
    _ = s.modFix (fun f => { f with lidSeen := true }) := by rw [State.modFix, hsampled]; rfl

/-- A closing is stamped. -/
theorem senseLid_closed (ho : s.fix.lidOpen = false) (hseen : s.fix.lidSeen = true) :
    senseLid s = s.modFix (fun f => { f with lidSeen := false, lidClosed := some f.clock }) := by
  have hsampled : s.fix.lidSampled = { s.fix with lidSeen := false, lidClosed := some s.fix.clock } := by
    simp [Fixer.lidSampled, ho, hseen]
  calc senseLid s = s.modFix Fixer.lidSampled := if_neg (by simp [ho])
    _ = s.modFix (fun f => { f with lidSeen := false, lidClosed := some f.clock }) := by rw [State.modFix, hsampled]; rfl

theorem senseMesh_sensed (h : MeshSensed s) : senseMesh s = s := if_neg (by rcases h with h | h <;> simp [h])

/-- A break of the mesh is one seal event. -/
theorem senseMesh_broken (hm : s.fix.mesh = true) (hseen : s.fix.meshSeen = false) :
    senseMesh s = sealEvent 5 0xFF (s.modFix (fun f => { f with meshSeen := true })) := if_pos ⟨hm, hseen⟩

theorem sense_running (h : s.fix.running = true) : sense s = senseMesh (senseLid s) := if_pos h

theorem sense_stopped (h : s.fix.running = false) : sense s = s := if_neg (by simp [h])

theorem sense_sensed (hl : LidSensed s) (hm : MeshSensed s) : sense s = s := by
  unfold sense
  split
  · rw [senseLid_sensed hl, senseMesh_sensed hm]
  · rfl

end

/-- The F die `f` with the records, the seals and the sensed lid and mesh of `g`. -/
def Fixer.withSensed (f g : Fixer) : Fixer :=
  { f.withRecords g with seals := g.seals, lidSeen := g.lidSeen, lidClosed := g.lidClosed, meshSeen := g.meshSeen }

theorem Fixer.withSensed_trans {f g k : Fixer} (h : g = f.withSensed g) (hk : k = g.withSensed k) : k = f.withSensed k :=
  hk.trans (by rw [h]; rfl)

theorem sealEvent_sensed (cause slot : Nat) (s : State) :
    (sealEvent cause slot s).fix = s.fix.withSensed (sealEvent cause slot s).fix := by
  have h := sealEvent_records cause slot s
  have hseen : (sealEvent cause slot s).fix.lidSeen = s.fix.lidSeen := h.keeps Fixer.lidSeen
  have hclosed : (sealEvent cause slot s).fix.lidClosed = s.fix.lidClosed := h.keeps Fixer.lidClosed
  have hmesh : (sealEvent cause slot s).fix.meshSeen = s.fix.meshSeen := h.keeps Fixer.meshSeen
  rw [Fixer.withSensed, hseen, hclosed, hmesh, sealEvent_seals]
  exact h.fix

/-- A sample of lid and mesh changes the records, the seals and what has been sensed alone. -/
theorem sense_fix (s : State) : (sense s).fix = s.fix.withSensed (sense s).fix := by
  have hlid : (senseLid s).fix = s.fix.withSensed (senseLid s).fix := by
    have hsampled : s.fix.lidSampled = s.fix.withSensed s.fix.lidSampled := by unfold Fixer.lidSampled; split <;> rfl
    unfold senseLid
    split
    · exact Fixer.withSensed_trans hsampled (sealEvent_sensed 4 0xFF (s.modFix Fixer.lidSampled))
    · exact hsampled
  unfold sense senseMesh
  split
  · split
    · exact Fixer.withSensed_trans hlid (Fixer.withSensed_trans rfl
        (sealEvent_sensed 5 0xFF ((senseLid s).modFix (fun f => { f with meshSeen := true }))))
    · exact hlid
  · rfl

section
variable {s : State}

/-- A new opening of the lid, sensed: one seal event, and the strobe (R273, R299). -/
theorem sense_opened (hr : s.fix.running = true) (hm : MeshSensed s) (ho : s.fix.lidOpen = true) (hseen : s.fix.lidSeen = false)
    (hfar : s.fix.lidFar = true) : SealCounted s (sense s) ∧ (sense s).fix.lidSeen = true ∧ (sense s).lane.strobe = true := by
  have hseal := sealEvent_records 4 0xFF (s.modFix (fun f => { f with lidSeen := true }))
  have hmesh : MeshSensed (sealEvent 4 0xFF (s.modFix (fun f => { f with lidSeen := true }))) :=
    hm.imp (hseal.keeps Fixer.mesh).trans (hseal.keeps Fixer.meshSeen).trans
  rw [sense_running hr, senseLid_opened ho hseen hfar, senseMesh_sensed hmesh]
  exact ⟨sealCounted_of_seals (sealEvent_seals 4 0xFF _), hseal.keeps Fixer.lidSeen, rfl⟩

/-- A new break of the mesh, sensed: one seal event (R299). -/
theorem sense_broken (hr : s.fix.running = true) (hl : LidSensed s) (hm : s.fix.mesh = true) (hseen : s.fix.meshSeen = false) :
    SealCounted s (sense s) ∧ (sense s).fix.meshSeen = true := by
  rw [sense_running hr, senseLid_sensed hl, senseMesh_broken hm hseen]
  exact ⟨sealCounted_of_seals (sealEvent_seals 5 0xFF _), (sealEvent_records 5 0xFF _).keeps Fixer.meshSeen⟩

end

/-! ### The start after a loss of both supplies (R297) -/

/-- From `s` to `t` at most `k` records join the buffer, and the pending GAP stays what it is. -/
structure Buffered (k : Nat) (s t : State) : Prop where
  gap : t.fix.gap = s.fix.gap
  buffer : ∃ l, l.length ≤ k ∧ t.fix.buffer = s.fix.buffer ++ l

section
variable {j k : Nat} {r s t : State}

theorem Buffered.trans (h : Buffered j r s) (h' : Buffered k s t) : Buffered (j + k) r t := by
  obtain ⟨l, hl, hb⟩ := h.buffer
  obtain ⟨l', hl', hb'⟩ := h'.buffer
  exact ⟨h'.gap.trans h.gap, l ++ l', by rw [List.length_append]; omega, by rw [hb', hb, List.append_assoc]⟩

/-- Nothing of the buffer and the GAP has changed. -/
theorem Buffered.same (h : t.fix = s.fix) : Buffered k s t := ⟨by rw [h], [], Nat.zero_le _, by rw [h, List.append_nil]⟩

theorem Buffered.mem (h : Buffered k s t) {x : Nat × Bytes × Bytes} (hx : x ∈ s.fix.buffer) : x ∈ t.fix.buffer := by
  obtain ⟨l, -, hb⟩ := h.buffer
  rw [hb]
  exact List.mem_append_left _ hx

theorem Buffered.length_le (h : Buffered k s t) : t.fix.buffer.length ≤ s.fix.buffer.length + k := by
  obtain ⟨l, hl, hb⟩ := h.buffer
  rw [hb, List.length_append]
  omega

theorem bufferRec_fix (n : Nat) (b d : Bytes) (s : State) :
    (bufferRec n b d s).fix = { s.fix with next := n + 1, buffer := s.fix.buffer ++ [(n, b, d)] } := by
  unfold bufferRec
  dsimp only
  split
  · exact toMaster_fix ..
  · exact toMaster_fix ..

theorem bufferRec_buffered (n : Nat) (b d : Bytes) (s : State) : Buffered 1 s (bufferRec n b d s) where
  gap := by rw [bufferRec_fix]
  buffer := ⟨[(n, b, d)], Nat.le_refl 1, by rw [bufferRec_fix]⟩

/-- Bytes 0–23 of the record that is made next, and H over them (R291, R293). -/
def Fixer.headOf (f : Fixer) (ty : Nat) (body : Bytes) : Bytes := recHead f.next ty f.flags f.clock body
def Fixer.hashOf (f : Fixer) (ty : Nat) (body : Bytes) : Bytes := sha256 (f.chain ++ f.headOf ty body)

theorem chainRec_fix (ty : Nat) (body : Bytes) (s : State) : (chainRec ty body s).fix = { s.fix with
    next := s.fix.next + 1, chain := s.fix.hashOf ty body, since := s.fix.since + 1
    buffer := s.fix.buffer ++
      [(s.fix.next, s.fix.headOf ty body ++ (s.fix.hashOf ty body).take 8, s.fix.hashOf ty body)] } :=
  bufferRec_fix ..

theorem chainRec_buffered (ty : Nat) (body : Bytes) (s : State) : Buffered 1 s (chainRec ty body s) where
  gap := by rw [chainRec_fix]
  buffer := ⟨[_], Nat.le_refl 1, by rw [chainRec_fix]⟩

/-- A chained record stands in the buffer under the number it was given, with its type at byte 4 (R291). -/
theorem chainRec_mem (ty : Nat) (body : Bytes) (s : State) (hty : ty < 256) :
    ∃ b h, (s.fix.next, b, h) ∈ (chainRec ty body s).fix.buffer ∧ u8At b 4 = ty := by
  refine ⟨s.fix.headOf ty body ++ (s.fix.hashOf ty body).take 8, s.fix.hashOf ty body, ?_, ?_⟩
  · rw [chainRec_fix]
    exact List.mem_append_right _ (List.mem_singleton.mpr rfl)
  · exact Nat.mod_eq_of_lt hty

theorem signature_buffered (s : State) : Buffered 3 s (signature s) := by
  have hstart : Buffered 0 s (s.useFree.modFix (fun f => { f with since := 0 })) := ⟨rfl, [], Nat.le_refl 0, (List.append_nil _).symm⟩
  exact ((hstart.trans (bufferRec_buffered ..)).trans (bufferRec_buffered ..)).trans (bufferRec_buffered ..)

/-- A record that brings its signature takes four slots, with the record in front (R294). -/
theorem chainWith_signed {ty : Nat} {body : Bytes} (s : State) (h : signedType ty body = true) :
    chainWith ty body s = signature (chainRec ty body s) := if_pos h

theorem fixEvent_buffered (src code : Nat) (d : Bytes) (s : State) : Buffered 0 s (fixEvent src code d s) := by
  unfold fixEvent
  dsimp only
  refine ⟨?_, [], Nat.le_refl 0, ?_⟩ <;> rw [toMaster_fix, State.modFix_fix, State.modEv_fix] <;> split <;> simp

/-- So do the record and its event, where there is room for them (R296). -/
theorem recEvent_buffered {ty : Nat} {body : Bytes} (src code : Nat) (d : Bytes) {s : State} (h : signedType ty body = true)
    (hroom : s.fix.buffer.length + 4 ≤ 3068) : Buffered 4 s (recEvent ty body src code d s) := by
  have hfits : fits ty body s.fix = true := by
    rw [fits, slotsFor, if_pos h]
    exact decide_eq_true hroom
  have hmake : makeRec ty body s = signature (chainRec ty body s) := (if_pos hfits).trans (chainWith_signed s h)
  have hevent : recEvent ty body src code d s = fixEvent src code d (makeRec ty body s) := if_pos hfits
  rw [hevent, hmake]
  exact ((chainRec_buffered ..).trans (signature_buffered _)).trans (fixEvent_buffered ..)

theorem sealEvent_buffered (cause slot : Nat) (hroom : s.fix.buffer.length + 4 ≤ 3068) :
    Buffered 4 s (sealEvent cause slot s) := by
  have h := recEvent_buffered (ty := 0x08) (s := sealedOnce s)
    (body := leBytes 4 (sealedOnce s).fix.seals.value ++ leBytes 1 cause ++ leBytes 1 slot ++ zeros 2) 0x100 0x0901
    ((leBytes 4 (sealedOnce s).fix.seals.value ++ leBytes 1 cause ++ leBytes 1 slot ++ zeros 2).take 6) rfl hroom
  exact ⟨h.gap, h.buffer⟩

theorem sense_buffered (hroom : s.fix.buffer.length + 8 ≤ 3068) : Buffered 8 s (sense s) := by
  have hsampled : Buffered 0 s (s.modFix Fixer.lidSampled) := by
    have h : s.fix.lidSampled.gap = s.fix.gap ∧ s.fix.lidSampled.buffer = s.fix.buffer := by
      unfold Fixer.lidSampled
      split <;> exact ⟨rfl, rfl⟩
    exact ⟨h.1, [], Nat.le_refl 0, h.2.trans (List.append_nil _).symm⟩
  have hlid : Buffered 4 s (senseLid s) := by
    unfold senseLid
    dsimp only
    split
    · exact hsampled.trans (sealEvent_buffered 4 0xFF (by have := hsampled.length_le; omega))
    · obtain ⟨l, hl, hb⟩ := hsampled.buffer
      exact ⟨hsampled.gap, l, by omega, hb⟩
  unfold sense
  split
  · unfold senseMesh
    split
    · have hbroken : Buffered 4 (senseLid s) (sealEvent 5 0xFF ((senseLid s).modFix (fun f => { f with meshSeen := true }))) := by
        have h := sealEvent_buffered (s := (senseLid s).modFix (fun f => { f with meshSeen := true })) 5 0xFF
          (by have := hlid.length_le; simp only [State.modFix_fix]; omega)
        exact ⟨h.gap, h.buffer⟩
      exact hlid.trans hbroken
    · exact hlid.trans (Buffered.same (k := 4) rfl)
  · exact .same rfl

end

/-- The F die as it starts from the F store alone (R277, R297). -/
def startedAfterLoss (s : State) : State :=
  ((s.modFix (fun f => f.afterLoss.restart.newMinute)).modEv
    (fun e => { e with seqs := (upFrom 0x100 5).foldl (fun v i => tmod v i (fun _ => 0)) e.seqs })).useFree.useFree.useFree

/-- What the F die knows of the time it missed (R297). -/
def lossGap (n : Nat) : GapAcc :=
  { minutes := 0xFFFF, records := Config.freeNat n % 65536, metres := Config.freeNat (n + 1) % 2 ^ 32 }

/-- The GAP of a start after a loss, and the POWER record behind it (R272, R297). -/
def lossRecorded (s : State) : State :=
  powerRec 3 (Config.freeNat (s.free + 2) % 65536) (makeGap (lossGap s.free) (startedAfterLoss s))

section
variable {s : State}

theorem exec_fDieStart_retained (hr : s.fix.running = false) (hk : s.fix.retained = true) :
    exec .fDieStart s = .next (sense (s.modFix (fun f => f.restart.skipTo))) :=
  next_congr ((if_neg (by simp [hr])).trans (if_pos hk))

theorem exec_fDieStart_lost (hr : s.fix.running = false) (hk : s.fix.retained = false) :
    exec .fDieStart s = .next (sense (lossRecorded s)) := by
  refine next_congr ?_
  rw [if_neg (by simp [hr]), if_neg (by simp [hk])]
  rfl

theorem makeGap_eq (g : GapAcc) (s : State) : makeGap g s = fixEvent 0x100 0x0906 (gapBody g)
    (signature (chainRec 0x09 (gapBody g) (s.modFix (fun f => { f with gap := none })))) :=
  congrArg (fixEvent 0x100 0x0906 (gapBody g)) (chainWith_signed _ rfl)

/-- The GAP record and its signature take four slots, and no GAP is pending then (R296). -/
theorem makeGap_buffered (g : GapAcc) (s : State) : Buffered 4 (s.modFix (fun f => { f with gap := none })) (makeGap g s) := by
  rw [makeGap_eq]
  exact ((chainRec_buffered ..).trans (signature_buffered _)).trans (fixEvent_buffered ..)

theorem makeGap_mem (g : GapAcc) (s : State) :
    ∃ b h, (s.fix.next, b, h) ∈ (makeGap g s).fix.buffer ∧ u8At b 4 = 0x09 := by
  obtain ⟨b, h, hmem, hty⟩ := chainRec_mem 0x09 (gapBody g) (s.modFix (fun f => { f with gap := none })) (by decide)
  rw [makeGap_eq]
  exact ⟨b, h, ((signature_buffered _).trans (fixEvent_buffered ..)).mem hmem, hty⟩

/-- At most GENESIS stands in the buffer of an F die that starts from its store. -/
theorem startedAfterLoss_buffer (s : State) : (startedAfterLoss s).fix.buffer.length ≤ 1 := by
  have h : (startedAfterLoss s).fix.buffer =
      if s.fix.heads.isEmpty then [(0, genesisHead ++ genesisHash.take 8, genesisHash)] else [] := rfl
  rw [h]
  split <;> decide

/-- What the F die starts with (R277, R297). -/
theorem startedAfterLoss_spec (s : State) :
    (startedAfterLoss s).fix.running = true ∧ (startedAfterLoss s).fix.clock = s.fix.checkpoint.1 + oneSec ∧
      (startedAfterLoss s).fix.unset = true ∧
      (startedAfterLoss s).fix.m0 = s.fix.distance.value * 100000 + s.fix.checkpoint.2 ∧
      (startedAfterLoss s).fix.values = s.fix.values ∧ (startedAfterLoss s).fix.next = s.fix.afterLoss.next :=
  ⟨rfl, rfl, rfl, rfl, rfl, rfl⟩

/-- A POWER record of kind 3 is signed too (R294). -/
theorem powerRec_buffered (mv : Nat) (hroom : s.fix.buffer.length + 4 ≤ 3068) : Buffered 4 s (powerRec 3 mv s) := by
  have h := recEvent_buffered (ty := 0x0B) (s := s.modFix (fun f => { f with vfb := mv }))
    (body := leBytes 1 3 ++ zeros 1 ++ leBytes 2 mv ++ zeros 4) 0x100 0x0907
    (leBytes 1 3 ++ zeros 1 ++ leBytes 2 mv ++ zeros 4) rfl hroom
  exact ⟨h.gap, h.buffer⟩

theorem lossRecorded_buffered (s : State) :
    Buffered 4 (makeGap (lossGap s.free) (startedAfterLoss s)) (lossRecorded s) := by
  have hmake := (makeGap_buffered (lossGap s.free) (startedAfterLoss s)).length_le
  have hstart := startedAfterLoss_buffer s
  simp only [State.modFix_fix] at hmake
  exact powerRec_buffered _ (by omega)

/-- The two records leave what the F die has started with. -/
theorem lossRecorded_keeps {α : Type} (p : Fixer → α) (hp : ∀ f g v, p (({ f with vfb := v } : Fixer).withRecords g) = p f)
    (s : State) : p (lossRecorded s).fix = p (startedAfterLoss s).fix := by
  have hgap : RecordsOnly (startedAfterLoss s) (makeGap (lossGap s.free) (startedAfterLoss s)) := .makeGap _ (.refl _)
  have hpower := powerRec_records 3 (Config.freeNat (s.free + 2) % 65536) (makeGap (lossGap s.free) (startedAfterLoss s))
  calc p (lossRecorded s).fix
      = p (makeGap (lossGap s.free) (startedAfterLoss s)).fix := (hpower.keeps p).trans (hp _ _ _)
    _ = p (startedAfterLoss s).fix := (hgap.keeps p).trans (hp (startedAfterLoss s).fix _ _)

/-- What the F die holds after a start from its store (R277, R297): the clock of the checkpoint a second on, UNSET, the distance of
the store and the checkpoint, and the settings. -/
theorem startAfterLoss_spec (s : State) :
    (sense (lossRecorded s)).fix.running = true ∧ (sense (lossRecorded s)).fix.clock = s.fix.checkpoint.1 + oneSec ∧
      (sense (lossRecorded s)).fix.unset = true ∧
      (sense (lossRecorded s)).fix.m0 = s.fix.distance.value * 100000 + s.fix.checkpoint.2 ∧
      (sense (lossRecorded s)).fix.values = s.fix.values := by
  have hkeeps {α : Type} (p : Fixer → α) (hv : ∀ f g v, p (({ f with vfb := v } : Fixer).withRecords g) = p f)
      (hs : ∀ f g, p (f.withSensed g) = p f) : p (sense (lossRecorded s)).fix = p (startedAfterLoss s).fix :=
    ((congrArg p (sense_fix (lossRecorded s))).trans (hs _ _)).trans (lossRecorded_keeps p hv s)
  rw [hkeeps Fixer.running (fun _ _ _ => rfl) (fun _ _ => rfl), hkeeps Fixer.clock (fun _ _ _ => rfl) (fun _ _ => rfl),
    hkeeps Fixer.unset (fun _ _ _ => rfl) (fun _ _ => rfl), hkeeps Fixer.m0 (fun _ _ _ => rfl) (fun _ _ => rfl),
    hkeeps Fixer.values (fun _ _ _ => rfl) (fun _ _ => rfl)]
  obtain ⟨hrunning, hclock, hunset, hm0, hvalues, -⟩ := startedAfterLoss_spec s
  exact ⟨hrunning, hclock, hunset, hm0, hvalues⟩

/-- The GAP record is the first one then, and no GAP is pending (R296, R297). -/
theorem startAfterLoss_gap (s : State) : (sense (lossRecorded s)).fix.gap = none ∧
    ∃ b h, (s.fix.afterLoss.next, b, h) ∈ (sense (lossRecorded s)).fix.buffer ∧ u8At b 4 = 0x09 := by
  have hmake := makeGap_buffered (lossGap s.free) (startedAfterLoss s)
  have hrecs := lossRecorded_buffered s
  have hroom : (lossRecorded s).fix.buffer.length + 8 ≤ 3068 := by
    have hstart := startedAfterLoss_buffer s
    have hlen := hmake.length_le
    have hlen' := hrecs.length_le
    simp only [State.modFix_fix] at hlen
    omega
  have hsensed := sense_buffered hroom
  obtain ⟨b, h, hmem, hty⟩ := makeGap_mem (lossGap s.free) (startedAfterLoss s)
  exact ⟨(hsensed.gap.trans hrecs.gap).trans hmake.gap, b, h, hsensed.mem (hrecs.mem hmem), hty⟩

/-- With the mesh whole, a closed lid is no seal event at such a start, and an open one is one (R299). -/
theorem startAfterLoss_seals (hm : s.fix.mesh = false) : let t := sense (lossRecorded s)
    (s.fix.lidOpen = false → t.fix.seals = s.fix.seals) ∧ (s.fix.lidOpen = true → SealCounted s t) := by
  have hseals : (lossRecorded s).fix.seals = s.fix.seals := lossRecorded_keeps Fixer.seals (fun _ _ _ => rfl) s
  have hopen : (lossRecorded s).fix.lidOpen = s.fix.lidOpen := lossRecorded_keeps Fixer.lidOpen (fun _ _ _ => rfl) s
  have hseen : (lossRecorded s).fix.lidSeen = false := lossRecorded_keeps Fixer.lidSeen (fun _ _ _ => rfl) s
  have hclosed : (lossRecorded s).fix.lidClosed = none := lossRecorded_keeps Fixer.lidClosed (fun _ _ _ => rfl) s
  have hmesh : MeshSensed (lossRecorded s) := Or.inl ((lossRecorded_keeps Fixer.mesh (fun _ _ _ => rfl) s).trans hm)
  have hrun : (lossRecorded s).fix.running = true := lossRecorded_keeps Fixer.running (fun _ _ _ => rfl) s
  refine ⟨fun ho => ?_, fun ho hle => ?_⟩
  · rw [sense_sensed (show LidSensed _ from (hopen.trans ho).trans hseen.symm) hmesh]
    exact hseals
  · have hfar : (lossRecorded s).fix.lidFar = true := Fixer.lidFar_iff.mpr (by rw [hclosed]; exact fun _ h => nomatch h)
    rw [(sense_opened hrun hmesh (hopen.trans ho) hseen hfar).1 (by rw [hseals]; exact hle), hseals]

/-- Without a chain-head slot the chain begins after GENESIS, otherwise after its newest slot (R295, R297). -/
theorem afterLoss_next_empty {f : Fixer} (h : f.heads = []) : f.afterLoss.next = 1 := by simp [Fixer.afterLoss, h]

theorem afterLoss_next_slot {f : Fixer} {x : Nat × Bytes × Nat} {l : List (Nat × Bytes × Nat)} (h : f.heads = x :: l) :
    f.afterLoss.next = wrapAdd 32 x.1 1 := by simp [Fixer.afterLoss, h]

end

theorem lt_secAfter (c : Nat) : c < secAfter c := by
  have hmod := Nat.mod_lt c (show 0 < oneSec by decide)
  have hdiv := Nat.div_add_mod' c oneSec
  rw [secAfter, Nat.add_mul, Nat.one_mul]
  omega

/-! ### The obligation, clause by clause -/

section
variable {s : State}

/-- The lid has opened, the lid has closed, or the mesh has broken, before the sample of it (R299). -/
def lidOpened (s : State) : State := s.modFix (fun f => { f with lidOpen := true })
def lidShut (s : State) : State := s.modFix (fun f => { f with lidOpen := false })
def meshBroken (s : State) : State := s.modFix (fun f => { f with mesh := true })

theorem exec_fLidMesh_opens (s : State) : let t := sense (lidOpened s)
    t.fix.lidOpen = true ∧
      (s.fix.running = true → MeshSensed s → s.fix.lidSeen = false →
        (∀ c, s.fix.lidClosed = some c → c + oneSec ≤ s.fix.clock) →
        SealCounted s t ∧ t.fix.lidSeen = true ∧ t.lane.strobe = true) ∧
      (∀ c, s.fix.running = true → MeshSensed s → s.fix.lidSeen = false → s.fix.lidClosed = some c →
        s.fix.clock < c + oneSec → t = { s with fix := { s.fix with lidOpen := true, lidSeen := true } }) ∧
      (s.fix.running = false ∨ s.fix.lidSeen = true ∧ MeshSensed s → t = { s with fix := { s.fix with lidOpen := true } }) := by
  refine ⟨by rw [sense_fix]; rfl, fun hr hm hseen hfar => ?_, fun c hr hm hseen hc hlt => ?_, fun h => ?_⟩
  · exact sense_opened (s := lidOpened s) hr hm rfl hseen (Fixer.lidFar_iff.mpr hfar)
  · have hnear : (lidOpened s).fix.lidFar = false := by
      refine Bool.eq_false_iff.mpr fun hfar => ?_
      have := Fixer.lidFar_iff.mp hfar c hc
      exact absurd hlt (Nat.not_lt.mpr this)
    have hmesh : MeshSensed ((lidOpened s).modFix (fun f => { f with lidSeen := true })) := hm
    rw [sense_running (s := lidOpened s) hr, senseLid_openedSoon (s := lidOpened s) rfl hseen hnear, senseMesh_sensed hmesh]
    rfl
  · rcases h with hr | ⟨hseen, hm⟩
    · exact sense_stopped (s := lidOpened s) hr
    · exact sense_sensed (s := lidOpened s) hseen.symm hm

theorem exec_fLidMesh_closes (s : State) : let t := sense (lidShut s)
    t.fix.lidOpen = false ∧
      (s.fix.running = true → s.fix.lidSeen = true → MeshSensed s →
        t = { s with fix := { s.fix with lidOpen := false, lidSeen := false, lidClosed := some s.fix.clock } }) ∧
      (s.fix.running = false ∨ s.fix.lidSeen = false ∧ MeshSensed s → t = { s with fix := { s.fix with lidOpen := false } }) := by
  refine ⟨by rw [sense_fix]; rfl, fun hr hseen hm => ?_, fun h => ?_⟩
  · have hmesh : MeshSensed ((lidShut s).modFix (fun f => { f with lidSeen := false, lidClosed := some f.clock })) := hm
    rw [sense_running (s := lidShut s) hr, senseLid_closed (s := lidShut s) rfl hseen, senseMesh_sensed hmesh]
    rfl
  · rcases h with hr | ⟨hseen, hm⟩
    · exact sense_stopped (s := lidShut s) hr
    · exact sense_sensed (s := lidShut s) hseen.symm hm

theorem exec_fLidMesh_breaks (s : State) : let t := sense (meshBroken s)
    t.fix.mesh = true ∧
      (s.fix.running = true → LidSensed s → s.fix.meshSeen = false → SealCounted s t ∧ t.fix.meshSeen = true) ∧
      (s.fix.running = false ∨ s.fix.meshSeen = true ∧ LidSensed s → t = { s with fix := { s.fix with mesh := true } }) := by
  refine ⟨by rw [sense_fix]; rfl, fun hr hl hseen => ?_, fun h => ?_⟩
  · exact sense_broken (s := meshBroken s) hr hl rfl hseen
  · rcases h with hr | ⟨hseen, hl⟩
    · exact sense_stopped (s := meshBroken s) hr
    · exact sense_sensed (s := meshBroken s) hl (Or.inr hseen)

end

/-- Settles O41: a supply, the lid and the mesh each change their own fields before a seal event or a POWER record follows
(`sense_opened`, `sense_broken`, `onVfb_spec`); a start goes on with the retained SRAM, or with what the store holds and a GAP
(`startAfterLoss_spec`, `…_gap`, `…_seals`). -/
theorem fixerSuppliesAndStart : Obligations.FixerSuppliesAndStart := by
  unfold Obligations.FixerSuppliesAndStart
  intro mv s
  refine ⟨fun hr hv => ⟨_, exec_fSupplyToVfb hr hv, onVfb_spec mv s⟩, fun hr hv => ⟨_, exec_fSupplyToVfix hr hv, ?vfix⟩,
    fun hr => ⟨_, next_congr (if_pos hr), rfl⟩, ⟨_, rfl, exec_fLidMesh_opens s⟩, ⟨_, rfl, exec_fLidMesh_closes s⟩,
    ⟨_, rfl, exec_fLidMesh_breaks s⟩, fun both => ⟨_, rfl, rfl⟩,
    fun hr hk hm ho hseen hfar => ⟨_, exec_fDieStart_retained hr hk, ?opened⟩,
    fun hr hk hm hl => ⟨_, exec_fDieStart_retained hr hk, ?retained⟩, fun hr hk => ?lost⟩
  case vfix =>
    have hpower := powerRec_records 2 mv (s.modFix (fun f => { f with onVfb := false }))
    exact ⟨hpower.keeps Fixer.onVfb, hpower.keeps Fixer.vfb, hpower.keeps Fixer.clock⟩
  case opened =>
    obtain ⟨hseal, -, -⟩ := sense_opened (s := s.modFix (fun f => f.restart.skipTo)) rfl hm ho hseen (Fixer.lidFar_iff.mpr hfar)
    refine ⟨?_, hseal⟩
    rw [sense_fix]
    rfl
  case retained =>
    rw [sense_sensed (s := s.modFix (fun f => f.restart.skipTo)) hl hm]
    exact ⟨rfl, rfl, rfl, rfl, rfl, rfl, rfl, rfl, lt_secAfter _, rfl⟩
  case lost =>
    obtain ⟨hrunning, hclock, hunset, hm0, hvalues⟩ := startAfterLoss_spec s
    obtain ⟨hgap, b, h, hmem, hty⟩ := startAfterLoss_gap s
    refine ⟨_, b, h, exec_fDieStart_lost hr hk, hrunning, hclock, hunset, hgap, hm0, hvalues, ?_, hty,
      fun ho hm => (startAfterLoss_seals hm).1 ho, fun ho hm => (startAfterLoss_seals hm).2 ho⟩
    split
    · next hheads => rwa [afterLoss_next_empty hheads] at hmem
    · next hheads => rwa [afterLoss_next_slot hheads] at hmem

end Sys2Proof.Machine
end

section
/-! SUPPORT. The motion sensor's check and the cards of the F die (R280–R282, R288–R290, R302). -/

namespace Sys2Proof.Machine

/-! ### A timer of the F die -/

/-- The F die when its clock has come to a stamp (R283, R285). -/
def fixerAt (due : Nat) (s : State) : State := s.modFix (fun f => f.goTo due)

/-- A timer of the F die that falls due before the next second and minute runs its effect (R278, R292). -/
theorem fixDue_due {due : Nat} {s : State} {k : State → State} (h : FixerDue due s) : fixDue due s k = k (fixerAt due s) := by
  obtain ⟨hr, -, hsec, hmin⟩ := h
  exact if_pos ⟨hr, Or.inr ⟨hsec, hmin⟩⟩

theorem Fixer.goTo_clock {f : Fixer} {due : Nat} (h : f.clock ≤ due) : (f.goTo due).clock = due := by
  unfold goTo
  split
  · next hle => exact Nat.le_antisymm h hle
  · rfl

theorem fixerAt_frame (due : Nat) (s : State) : fixerAt due s = { s with fix := (fixerAt due s).fix } := rfl

section
variable {due : Nat} {s : State}

theorem fixerAt_clock (h : FixerDue due s) : (fixerAt due s).fix.clock = due := by
  obtain ⟨-, hle, -, -⟩ := h
  exact Fixer.goTo_clock hle

/-- On the way there the clock and what is left of a slew change alone. -/
theorem fixerAt_keeps {α : Type} (p : Fixer → α) (hp : ∀ f c w, p { f with clock := c, slew := w } = p f) (due : Nat) (s : State) :
    p (fixerAt due s).fix = p s.fix := by
  have hgo : p (s.fix.goTo due) = p s.fix := by
    unfold Fixer.goTo
    split
    · rfl
    · exact hp _ _ _
  exact hgo

@[simp] theorem fixerAt_motion (due : Nat) (s : State) : (fixerAt due s).fix.motion = s.fix.motion :=
  fixerAt_keeps Fixer.motion (fun _ _ _ => rfl) due s

@[simp] theorem fixerAt_val (due row : Nat) (s : State) : (fixerAt due s).fix.val row = s.fix.val row :=
  fixerAt_keeps (Fixer.val · row) (fun _ _ _ => rfl) due s

@[simp] theorem fixerAt_pulsesBefore (due stamp : Nat) (s : State) :
    (fixerAt due s).fix.pulsesBefore stamp = s.fix.pulsesBefore stamp :=
  fixerAt_keeps (Fixer.pulsesBefore · stamp) (fun _ _ _ => rfl) due s

end

/-! ### CHECK and COUNT (R280, R281) -/

/-- The nonce of a CHECK. -/
def checkNonce (s : State) : Bytes := padTo 8 ((Config.freeBytes s.free).take 8)

theorem checkNonce_length (s : State) : (checkNonce s).length = 8 := by
  simp only [checkNonce, padTo, zeros, List.length_append, List.length_replicate, List.length_take]
  omega

theorem sendCheck_motion (n : Nat) (before : Bytes) (s : State) : (sendCheck n before s).fix.motion = { s.fix.motion with
    check := some (checkNonce s, n, s.fix.clock), sent := before ++ msFrame (0x5A :: checkNonce s) } := rfl

theorem sendCheck_frame {s u : State} (h : u = { s with fix := u.fix }) (n : Nat) (before : Bytes) :
    sendCheck n before u = { s with free := (sendCheck n before u).free, fix := (sendCheck n before u).fix } := by
  have hself : sendCheck n before u =
      { u with free := (sendCheck n before u).free, fix := (sendCheck n before u).fix } := rfl
  exact hself.trans (congrArg (fun v : State =>
    { v with free := (sendCheck n before u).free, fix := (sendCheck n before u).fix }) h)

/-- The F die at the stamp of a CHECK, with the next one booked (R281). -/
def checkBooked (due next : Nat) (s : State) : State := (fixerAt due s).modMotion (fun m => { m with next })

theorem checkBooked_frame (due next : Nat) (s : State) :
    checkBooked due next s = { s with fix := (checkBooked due next s).fix } := rfl

section
variable {s : State}

/-- Of a paired sensor that owes no COUNT, the next CHECK goes out a period after the one before (R281). -/
theorem exec_sensorCheck (hp : s.fix.motion.paired ≠ none) (hv : s.fix.onVfb = false) (hc : s.fix.motion.check = none)
    (hdue : FixerDue s.fix.motion.next s) : exec .sensorCheck s = .next (sendCheck 1 []
      (checkBooked s.fix.motion.next (s.fix.motion.next + s.fix.val 3 * oneSec) s)) := by
  have hexec : exec .sensorCheck s = .next (sendCheck 1 [] (checkBooked s.fix.motion.next
      ((fixerAt s.fix.motion.next s).fix.clock + (fixerAt s.fix.motion.next s).fix.val 3 * oneSec) s)) :=
    next_congr ((if_neg (by simp [hp, hv, hc])).trans (fixDue_due hdue))
  rwa [fixerAt_clock hdue, fixerAt_val] at hexec

theorem sensorCheck_sends (hp : s.fix.motion.paired ≠ none) (hv : s.fix.onVfb = false) (hc : s.fix.motion.check = none)
    (hdue : FixerDue s.fix.motion.next s) : ∃ t nonce, exec .sensorCheck s = .next t ∧ nonce.length = 8 ∧
      t.fix.motion.check = some (nonce, 1, s.fix.motion.next) ∧
      t.fix.motion.sent = 0x5A :: nonce ++ leBytes 1 (crc8 (0x5A :: nonce)) ∧
      t.fix.motion.next = s.fix.motion.next + s.fix.val 3 * oneSec ∧ t = { s with free := t.free, fix := t.fix } := by
  have hexec := exec_sensorCheck hp hv hc hdue
  have hclock (at_ : Nat) : (checkBooked s.fix.motion.next at_ s).fix.clock = s.fix.motion.next := fixerAt_clock hdue
  refine ⟨_, checkNonce (checkBooked s.fix.motion.next (s.fix.motion.next + s.fix.val 3 * oneSec) s), hexec, checkNonce_length _,
    ?_, ?_, ?_, sendCheck_frame (checkBooked_frame ..) 1 []⟩ <;> rw [sendCheck_motion]
  · rw [hclock]
  · rw [List.nil_append, msFrame]
  · rfl

/-- A frame is a COUNT: its length, its type and its CRC are right (R280). -/
def IsCount (c : SensorFrame) : Prop :=
  c.bytes.length = 18 ∧ u8At c.bytes 0 = 0xA5 ∧ u8At c.bytes 17 = crc8 (c.bytes.take 17)

/-- What is no COUNT leaves the CHECK unanswered (R280). -/
theorem exec_sensorCount_ignored {nonce : Bytes} {n sent : Nat} {c : SensorFrame} (hc : s.fix.motion.check = some (nonce, n, sent))
    (h : c.bytes.length ≠ 18 ∨ u8At c.bytes 0 ≠ 0xA5 ∨ u8At c.bytes 17 ≠ crc8 (c.bytes.take 17)) :
    exec (.sensorCount c) s = .next s := by
  refine next_congr ?_
  rw [hc]
  exact if_pos (Or.inr (Or.inr (Or.inr h)))

/-- A COUNT within 20 ms of its CHECK is judged (R280, R281). -/
theorem exec_sensorCount_judged {nonce : Bytes} {n sent : Nat} {c : SensorFrame} (hc : s.fix.motion.check = some (nonce, n, sent))
    (hdue : FixerDue c.stamp s) (hle : sent ≤ c.stamp) (hwithin : c.stamp ≤ sent + lsbOfMs 20) (h : IsCount c) :
    exec (.sensorCount c) s = .next (judgeCount nonce c.stamp c.bytes (fixerAt c.stamp s)) := by
  obtain ⟨hlen, htype, hcrc⟩ := h
  refine next_congr ?_
  rw [hc]
  refine (if_neg ?_).trans (fixDue_due hdue)
  simp only [hdue.1, Bool.true_eq_false, Nat.not_lt.mpr hle, Nat.not_lt.mpr hwithin, hlen, htype, hcrc, ne_eq, not_true_eq_false,
    or_self, not_false_eq_true]

section
variable {nonce b kp : Bytes} {stamp id : Nat} (hnone : s.fix.motion.pairing = none) (hpaired : s.fix.motion.paired = some (id, kp))
include hnone hpaired

/-- The first right COUNT passes and becomes the baseline (R281). -/
theorem judgeCount_first (hid : beNat (slice b 1 4) = id) (hmac : (cmac kp (nonce ++ slice b 1 8)).take 8 = slice b 9 8)
    (hbase : s.fix.motion.base = none) (hfailed : s.fix.motion.failed = false) : judgeCount nonce stamp b s =
      s.modMotion (fun m => { m with
        check := none, base := some (beNat (slice b 5 4), s.fix.pulsesBefore stamp), passed := true, failed := false }) := by
  have hright : ¬(beNat (slice b 1 4) ≠ id ∨ (cmac kp (nonce ++ slice b 1 8)).take 8 ≠ slice b 9 8) := by simp [hid, hmac]
  have hwithin : ¬((s.fix.val 4 : Int) < 0 ∨ (0 : Int) < -(s.fix.val 4 : Int)) := by omega
  unfold judgeCount
  simp only [hnone, hpaired, hright, hbase, hfailed, hwithin, if_false, Option.isSome_none, Bool.false_eq_true]

/-- A COUNT of another sensor or with a wrong MAC fails the check (R281). -/
theorem judgeCount_wrong (h : beNat (slice b 1 4) ≠ id ∨ (cmac kp (nonce ++ slice b 1 8)).take 8 ≠ slice b 9 8) :
    judgeCount nonce stamp b s = checkFails 3 0 s := by
  unfold judgeCount
  simp only [hnone, hpaired, h, if_true]

end

/-- A CHECK that stays unanswered is sent again, the third time it fails (R280, R281). -/
theorem exec_sensorReplyTimeout {nonce : Bytes} {n sent : Nat} (hc : s.fix.motion.check = some (nonce, n, sent))
    (hdue : FixerDue (sent + lsbOfMs 20) s) : exec .sensorReplyTimeout s = .next (
      if n < 3 then sendCheck (n + 1) [] (fixerAt (sent + lsbOfMs 20) s)
      else checkFails (if s.fix.motion.pairing.isSome then 3 else 4) 0 (fixerAt (sent + lsbOfMs 20) s)) := by
  refine next_congr ?_
  rw [hc]
  refine (fixDue_due hdue).trans ?_
  rw [fixerAt_motion]

section
variable {nonce : Bytes} {n sent : Nat} (hc : s.fix.motion.check = some (nonce, n, sent)) (hdue : FixerDue (sent + lsbOfMs 20) s)
include hc hdue

theorem sensorReplyTimeout_repeats (hfew : n < 3) : ∃ t nonce', exec .sensorReplyTimeout s = .next t ∧
    t.fix.motion.check = some (nonce', n + 1, sent + lsbOfMs 20) ∧ t = { s with free := t.free, fix := t.fix } := by
  have hexec := exec_sensorReplyTimeout hc hdue
  rw [if_pos hfew] at hexec
  refine ⟨_, checkNonce (fixerAt (sent + lsbOfMs 20) s), hexec, ?_,
    sendCheck_frame (fixerAt_frame _ s) (n + 1) []⟩
  rw [sendCheck_motion, fixerAt_clock hdue]

theorem sensorReplyTimeout_fails (hthird : 3 ≤ n) (hnone : s.fix.motion.pairing = none) :
    ∃ t, exec .sensorReplyTimeout s = .next t ∧ t.fix.motion.check = none ∧ t.fix.motion.passed = false ∧
      t.fix.motion.failed = true := by
  have hexec := exec_sensorReplyTimeout hc hdue
  rw [if_neg (by omega)] at hexec
  obtain ⟨-, -, -, hfails⟩ := checkFails_spec (if s.fix.motion.pairing.isSome then 3 else 4) 0 (fixerAt (sent + lsbOfMs 20) s)
  rw [fixerAt_motion] at hfails
  refine ⟨_, hexec, ?_⟩
  rw [hfails hnone]
  exact ⟨rfl, rfl, rfl⟩

end

end

/-! ### A card is inserted, leaves, or stays silent (R288, R289, R302) -/

section
variable {n : Fin 2} {s : State}

/-- A card that has just been inserted, before its turn (R289). -/
def cardPresent (n : Nat) (s : State) : State :=
  raiseStrobe (s.modCard n (fun _ => { present := true, step := .waiting, info := { state := 1, inserted := s.fix.clock } }))

theorem exec_cardInserted (hr : s.fix.running = true) (hv : s.fix.onVfb = false) (hp : (s.card n.val).present = false) :
    exec (.cardInserted n) s = .next (nextAuth (cardPresent n.val s)) := next_congr (if_neg (by simp [hr, hv, hp]))

/-- A card that is inserted is being activated from now on (R289). -/
theorem cardInserted_spec (n : Fin 2) (s : State) : ((nextAuth (cardPresent n.val s)).card n.val).present = true ∧
    ((nextAuth (cardPresent n.val s)).card n.val).info.state = 1 ∧
    ((nextAuth (cardPresent n.val s)).card n.val).info.inserted = s.fix.clock ∧
    (nextAuth (cardPresent n.val s)).lane.strobe = true := by
  have hauths := nextAuth_auths (cardPresent n.val s)
  have hcard : (cardPresent n.val s).card n.val =
      { present := true, step := .waiting, info := { state := 1, inserted := s.fix.clock } } := card_modCard_same _ n.isLt s
  obtain ⟨hstate, hpresent, hinserted, -, -⟩ := hauths.card n.val
  rw [hcard] at hstate hpresent hinserted
  exact ⟨hpresent, hstate, hinserted, by rw [hauths.frame]; rfl⟩

theorem exec_cardRemoved (hr : s.fix.running = true) (hp : (s.card n.val).present = true) :
    exec (.cardRemoved n) s = .next (removeCard n.val s) := next_congr (if_pos ⟨hr, hp⟩)

/-! ### A card answers (R288, R289) -/

/-- The steps of the authentication that are exchanges of bytes under the card's protocol (R288, R289). -/
def CardStep.asks : CardStep → Bool
  | .ifs | .selectAid | .selectEf | .readCert | .auth => true
  | _ => false

/-- An exchange runs with the card: one of its authentication, or that of a forwarded APDU. -/
def Card.exchanges (c : Card) : Prop := c.step.asks = true ∨ c.step = .ready ∧ c.reqs ≠ []

section
variable (hr : s.fix.running = true) (hv : s.fix.onVfb = false)
include hr hv

/-- What a card without an activation sends is not heard. -/
theorem exec_cardReply_unheard (b : Bytes) (h : (s.card n.val).step = .idle ∨ (s.card n.val).step = .waiting) :
    exec (.cardReply n b) s = .next s := by
  refine next_congr ((if_neg (by simp [hr, hv])).trans ?_)
  rcases h with h | h <;> rw [h]

/-- What it sends while an exchange runs is read by its protocol (R288). -/
theorem exec_cardReply_exchange (b : Bytes) (h : (s.card n.val).exchanges) :
    exec (.cardReply n b) s = .next (linkReply n.val b s) := by
  refine next_congr ((if_neg (by simp [hr, hv])).trans ?_)
  rcases h with hasks | ⟨hready, hreqs⟩
  · cases hstep : (s.card n.val).step with
    | idle | waiting | atr | pps | ready => rw [hstep] at hasks; cases hasks
    | ifs | selectAid | selectEf | readCert | auth => rfl
  · rw [hready]
    exact if_neg hreqs

/-- What answers its activation is read as an ATR (R288). -/
theorem exec_cardReply_atr (b : Bytes) (h : (s.card n.val).step = .atr) :
    exec (.cardReply n b) s = .next (takeAtr n.val b s) := by
  refine next_congr ((if_neg (by simp [hr, hv])).trans ?_)
  rw [h]

theorem exec_cardWaiting_atr (h : (s.card n.val).step = .atr) :
    exec (.cardWaitingTimeExceeded n) s = .next (atrFails n.val s) := by
  refine next_congr ((if_neg (by simp [hr, hv])).trans ?_)
  rw [h]

/-- A card that owes an answer to a forwarded APDU and stays silent is a card error; without one nothing is awaited (R290, R304). -/
theorem exec_cardWaiting_ready (h : (s.card n.val).step = .ready) :
    exec (.cardWaitingTimeExceeded n) s = .next (if (s.card n.val).reqs = [] then s else cardError n.val s) := by
  refine next_congr ((if_neg (by simp [hr, hv])).trans ?_)
  rw [h]

end

/-- Without a valid ATR in class B the card is activated in class A (R288). -/
theorem card_atrFails (hn : n.val < 2) (h : (s.card n.val).cls = 2) :
    ((atrFails n.val s).card n.val).step = .atr ∧ ((atrFails n.val s).card n.val).cls = 1 := by
  have hfails : atrFails n.val s = activate n.val 1 s := if_pos h
  rw [hfails, card_activate hn]
  exact ⟨rfl, rfl⟩

/-- The card with the exchange as an answer has left it. -/
def heardOn (n : Nat) (l : CardLink) (s : State) : State := s.modCard n (fun c => { c with link := l })

theorem card_heardOn (n : Fin 2) (l : CardLink) (s : State) : (heardOn n.val l s).card n.val = { s.card n.val with link := l } :=
  card_modCard_same _ n.isLt s

section
variable {b r x : Bytes} {l : CardLink}

theorem linkReply_wait (h : (s.card n.val).heard b = .wait l) : linkReply n.val b s = heardOn n.val l s := by
  unfold linkReply
  rw [h]
  rfl

theorem linkReply_send (h : (s.card n.val).heard b = .send x l) :
    linkReply n.val b s = s.modCard n.val (fun c => { c with link := l, sent := x }) := by
  unfold linkReply
  rw [h]

theorem linkReply_done (h : (s.card n.val).heard b = .done r l) :
    linkReply n.val b s = cardAnswered n.val r (heardOn n.val l s) := by
  unfold linkReply
  rw [h]
  rfl

theorem linkReply_bad (h : (s.card n.val).heard b = .bad) : linkReply n.val b s = cardError n.val s := by
  unfold linkReply
  rw [h]

end

section
variable {r : Bytes} {u : State}

/-- A response APDU leads to the next command of the authentication (R289). -/
theorem cardAnswered_asks {st next : CardStep} {apdu : Bytes} (hst : (u.card n.val).step = st)
    (h : st = .ifs ∧ next = .selectAid ∧ apdu = apduAid ∨ swOk r = true ∧
      (st = .selectAid ∧ next = .selectEf ∧ apdu = apduEf ∨ st = .selectEf ∧ next = .readCert ∧ apdu = apduCert)) :
    cardAnswered n.val r u = cardAsk n.val next apdu u := by
  unfold cardAnswered
  rw [hst]
  obtain ⟨rfl, rfl, rfl⟩ | ⟨hok, ⟨rfl, rfl, rfl⟩ | ⟨rfl, rfl, rfl⟩⟩ := h
  · rfl
  · exact if_pos hok
  · exact if_pos hok

/-- Other status words than 0x9000 fail it (R289). -/
theorem cardAnswered_fails (hst : (u.card n.val).step = .selectAid ∨ (u.card n.val).step = .selectEf ∨
    (u.card n.val).step = .readCert) (h : swOk r = false) : cardAnswered n.val r u = authFails n.val u := by
  unfold cardAnswered
  rcases hst with hst | hst | hst <;> rw [hst]
  · exact if_neg (by simp [h])
  · exact if_neg (by simp [h])
  · exact if_pos (Or.inr h)

/-- The response to a forwarded APDU goes back to the M die (R290). -/
theorem cardAnswered_forwarded {q : Nat} {apdu : Bytes} {rs : List (Nat × Bytes)} (hst : (u.card n.val).step = .ready)
    (hreqs : (u.card n.val).reqs = (q, apdu) :: rs) (hs : FixerHeard u) : Replied q St.ok r (cardAnswered n.val r u) := by
  unfold cardAnswered takeApdu
  rw [hst, hreqs]
  exact (serveCard_acts n.val _).replied (replied_answer q St.ok r hs)

end

/-! ### The obligation, clause by clause -/

section
variable (hr : s.fix.running = true) (hv : s.fix.onVfb = false) {b r : Bytes} {l : CardLink}
include hr hv

theorem exec_cardReply_asks {st next : CardStep} {apdu : Bytes} (hheard : (s.card n.val).heard b = .done r l)
    (hst : (s.card n.val).step = st)
    (h : st = .ifs ∧ next = .selectAid ∧ apdu = apduAid ∨ swOk r = true ∧
      (st = .selectAid ∧ next = .selectEf ∧ apdu = apduEf ∨ st = .selectEf ∧ next = .readCert ∧ apdu = apduCert)) :
    ∃ t, exec (.cardReply n b) s = .next t ∧ (t.card n.val).step = next ∧
      (t.card n.val).sent = (({ s.card n.val with link := l } : Card).command apdu).1 := by
  have hasks : (s.card n.val).exchanges := by
    refine Or.inl ?_
    obtain ⟨rfl, -⟩ | ⟨-, ⟨rfl, -⟩ | ⟨rfl, -⟩⟩ := h <;> rw [hst] <;> rfl
  have hcard := card_heardOn n l s
  have hexec := exec_cardReply_exchange hr hv b hasks
  rw [linkReply_done hheard, cardAnswered_asks (by rw [hcard]; exact hst) h] at hexec
  refine ⟨_, hexec, ?_, ?_⟩ <;> rw [card_cardAsk n.isLt]
  rw [hcard]

theorem exec_cardReply_refuses (hheard : (s.card n.val).heard b = .done r l)
    (hst : (s.card n.val).step = .selectAid ∨ (s.card n.val).step = .selectEf ∨ (s.card n.val).step = .readCert)
    (h : swOk r = false) : ∃ t, exec (.cardReply n b) s = .next t ∧ (t.card n.val).info.state = 3 := by
  have hasks : (s.card n.val).exchanges := by
    refine Or.inl ?_
    rcases hst with hst | hst | hst <;> rw [hst] <;> rfl
  have hexec := exec_cardReply_exchange hr hv b hasks
  rw [linkReply_done hheard, cardAnswered_fails (by rw [card_heardOn]; exact hst) h] at hexec
  exact ⟨_, hexec, card_authFails n.isLt _⟩

theorem exec_cardReply_forwarded {q : Nat} {apdu : Bytes} {rs : List (Nat × Bytes)}
    (hheard : (s.card n.val).heard b = .done r l) (hst : (s.card n.val).step = .ready) (hreqs : (s.card n.val).reqs = (q, apdu) :: rs)
    (hs : FixerHeard s) : ∃ t, exec (.cardReply n b) s = .next t ∧ Replied q St.ok r t := by
  have hexec := exec_cardReply_exchange hr hv b (Or.inr ⟨hst, by rw [hreqs]; exact List.cons_ne_nil _ _⟩)
  rw [linkReply_done hheard] at hexec
  have hcard := card_heardOn n l s
  exact ⟨_, hexec, cardAnswered_forwarded (by rw [hcard]; exact hst) (by rw [hcard]; exact hreqs) hs⟩

/-- While the authentication asks, bytes of an answer that is not complete leave the rest of the card alone, and a broken protocol
fails the card (R288, R289). -/
theorem exec_cardReply_asked (h : (s.card n.val).step.asks = true) :
    (∀ l, (s.card n.val).heard b = .wait l → ∃ t, exec (.cardReply n b) s = .next t ∧
      t.card n.val = { s.card n.val with link := l } ∧ t = { s with fix := t.fix }) ∧
    (∀ x l, (s.card n.val).heard b = .send x l → ∃ t, exec (.cardReply n b) s = .next t ∧
      t.card n.val = { s.card n.val with link := l, sent := x } ∧ t = { s with fix := t.fix }) ∧
    ((s.card n.val).heard b = .bad → ∃ t, exec (.cardReply n b) s = .next t ∧ (t.card n.val).info.state = 3) := by
  have hexec := exec_cardReply_exchange hr hv b (Or.inl h)
  refine ⟨fun l hheard => ?_, fun x l hheard => ?_, fun hheard => ?_⟩
  · rw [linkReply_wait hheard] at hexec
    exact ⟨_, hexec, card_heardOn n l s, rfl⟩
  · rw [linkReply_send hheard] at hexec
    exact ⟨_, hexec, card_modCard_same _ n.isLt s, rfl⟩
  · have hne : (s.card n.val).step ≠ .ready := fun hready => by rw [hready] at h; cases h
    rw [linkReply_bad hheard, cardError_other hne] at hexec
    exact ⟨_, hexec, card_authFails n.isLt s⟩

end

end

/-- Settles O40: a CHECK goes out at its time and a COUNT is judged (`exec_sensorCheck`, `exec_sensorCount_judged`); a card's answer
is read by its protocol (`linkReply_*`), and what it completes leads the card on, refuses it, or goes back to the M die. -/
theorem fixerSensorAndCards : Obligations.FixerSensorAndCards := by
  unfold Obligations.FixerSensorAndCards
  intro s hr
  refine ⟨fun hp hv hc hdue => sensorCheck_sends hp hv hc hdue, fun nonce n sent c hc => ⟨fun h => ⟨s, exec_sensorCount_ignored hc h, rfl⟩,
    fun id kp hdue hle hwithin hlen htype hcrc hnone hpaired => ?count⟩, fun nonce n sent hc hdue => ?timeout,
    fun n => ⟨fun hv hp => ⟨_, exec_cardInserted hr hv hp, cardInserted_spec n s⟩,
      fun hp => ⟨_, exec_cardRemoved hr hp, card_removeCard_same n.isLt s, removeCard_strobe n.val s⟩,
      fun hv b => ⟨fun h => ⟨s, exec_cardReply_unheard hr hv b h, rfl⟩, fun r l hheard => ?answered, fun st hst hstep => ?asked,
        fun hstep hatr hcls => ?atr⟩,
      fun hv => ⟨fun hstep hcls => ⟨_, exec_cardWaiting_atr hr hv hstep, card_atrFails n.isLt hcls⟩,
        fun q apdu rs hstep hreqs hrun hdepth => ?silent, fun hstep hreqs => ⟨s, ?unasked, rfl⟩⟩⟩⟩
  case count =>
    have hexec := exec_sensorCount_judged hc hdue hle hwithin ⟨hlen, htype, hcrc⟩
    have hmotion := fixerAt_motion c.stamp s
    rw [← hmotion] at hnone hpaired
    refine ⟨fun hid hmac hbase hfailed => ?_, fun hwrong => ?_⟩
    · rw [← hmotion] at hbase hfailed
      rw [judgeCount_first hnone hpaired hid hmac hbase hfailed, fixerAt_pulsesBefore] at hexec
      exact ⟨_, hexec, rfl, rfl, rfl, rfl⟩
    · rw [judgeCount_wrong hnone hpaired hwrong] at hexec
      obtain ⟨-, -, -, hfails⟩ := checkFails_spec 3 0 (fixerAt c.stamp s)
      rw [hmotion] at hfails hnone
      refine ⟨_, hexec, ?_⟩
      rw [hfails hnone]
      exact ⟨rfl, rfl, rfl, rfl⟩
  case timeout => exact ⟨sensorReplyTimeout_repeats hc hdue, sensorReplyTimeout_fails hc hdue⟩
  case answered =>
    refine ⟨fun hst => exec_cardReply_asks hr hv hheard hst (Or.inl ⟨rfl, rfl, rfl⟩),
      fun hst hok => exec_cardReply_asks hr hv hheard hst (Or.inr ⟨hok, Or.inl ⟨rfl, rfl, rfl⟩⟩),
      fun hst hok => exec_cardReply_asks hr hv hheard hst (Or.inr ⟨hok, Or.inr ⟨rfl, rfl, rfl⟩⟩),
      fun st hst hstep hbad => exec_cardReply_refuses hr hv hheard (by rw [hstep]; exact hst) hbad,
      fun q apdu rs hst hreqs hrun hdepth => exec_cardReply_forwarded hr hv hheard hst hreqs ⟨hrun, hdepth⟩⟩
  case asked =>
    refine exec_cardReply_asked hr hv ?_
    rw [hstep]
    rcases hst with rfl | rfl | rfl | rfl | rfl <;> rfl
  case atr =>
    have hfails : takeAtr n.val b s = atrFails n.val s := by
      unfold takeAtr
      rw [hatr]
    have hexec := exec_cardReply_atr hr hv b hstep
    rw [hfails] at hexec
    exact ⟨_, hexec, card_atrFails n.isLt hcls⟩
  case silent =>
    have hexec := exec_cardWaiting_ready hr hv hstep
    rw [if_neg (by rw [hreqs]; exact List.cons_ne_nil _ _)] at hexec
    exact ⟨_, hexec, cardError_ready (b := apdu) n.isLt hstep ⟨hrun, hdepth⟩ (by rw [hreqs]; exact List.mem_cons_self)⟩
  case unasked => exact (exec_cardWaiting_ready hr hv hstep).trans (next_congr (if_pos hreqs))

end Sys2Proof.Machine
end

section
/-! SUPPORT. What the F die does with a request: reads, driver identities, card requests and sets of settings (R151, R274, R290, R300,
R302, R304). -/

namespace Sys2Proof.Machine

/-! ### The request at the head -/

/-- The lane once the F die has taken the request in front, with these behind it. -/
def laneServed (rest : List (Nat × LaneReq)) (s : State) : State := s.modLane (fun l => { l with toF := rest })

/-- A request that the F die takes leaves the lane and is acted on. -/
theorem serveLane_takes {k : Nat → LaneReq → Option (State → State)} {q : Nat} {r : LaneReq} {rest : List (Nat × LaneReq)}
    {g : State → State} {s : State} (hr : s.fix.running = true) (hq : s.lane.toF = (q, r) :: rest) (hk : k q r = some g) :
    serveLane k s = g (laneServed rest s) := by
  unfold serveLane
  rw [hq]
  dsimp only
  rw [hk]
  exact if_pos hr

/-- From `u` to `t` a request is answered with a status and data, after work of the F die that leaves the other requests alone. -/
structure Served (q st : Nat) (d : Bytes) (u t : State) : Prop where
  toF : t.lane.toF = u.lane.toF
  replied : Replied q st d t

theorem served_answer {u v : State} (q st : Nat) (d : Bytes) (hu : FixerHeard u) (h : FixerActs u v) :
    Served q st d u (answer q st d v) :=
  ⟨(h.answer q st d).toF, replied_answer q st d (h.heard hu)⟩

/-! ### Reads (R274, R304) -/

theorem beBytes_length (n v : Nat) : (beBytes n v).length = n := by rw [beBytes, List.length_reverse, leBytes_length]

theorem fixerCertificate_length : fixerCertificate.length = 152 := by
  simp only [fixerCertificate, List.length_append, leBytes_length, beBytes_length, zeros, List.length_replicate]

/-- F_STAMP stands first in the status block (R304). -/
theorem statusBlock_stamp (free : Nat) (f : Fixer) : (statusBlock free f).take 8 = leBytes 8 f.clock := by
  have hfirst : leBytes 8 f.clock <+: statusBlock free f := by
    unfold statusBlock
    iterate 19 refine List.IsPrefix.trans ?_ ⟨_, rfl⟩
    exact ⟨[], List.append_nil _⟩
  obtain ⟨rest, hrest⟩ := hfirst
  rw [← hrest, List.take_left' (leBytes_length 8 f.clock)]

/-- RECORD_READ answers records, the speed ring, the status block or the certificate, and changes nothing of the F die. -/
theorem recordRead_answers (q sel first count : Nat) {u : State} (hu : FixerHeard u) : ∃ d,
    (recordRead q sel first count u).fix = u.fix ∧
    Served q (if sel = 0 ∧ u.fix.head < first then St.fixerRange else St.ok) d u (recordRead q sel first count u) ∧
    (sel = 0 → d = if u.fix.head < first then [] else ((u.fix.buffer.filter (fun r =>
      decide (first ≤ r.1) && decide (r.1 < first + count))).map (·.2.1)).flatten) ∧
    (sel = 1 → d = speedData first count u.fix) ∧ (sel = 2 → d.take 8 = leBytes 8 u.fix.clock) ∧
    (3 ≤ sel → d.length = 152) := by
  have hserved (st : Nat) (d : Bytes) : Served q st d u (answer q st d u) := served_answer q st d hu (.refl u)
  match sel with
  | 0 =>
    by_cases hfirst : u.fix.head < first
    · refine ⟨[], ?_, ?_, fun _ => (if_pos hfirst).symm, fun h => by omega, fun h => by omega, fun h => by omega⟩ <;>
        rw [show recordRead q 0 first count u = answer q St.fixerRange [] u from if_pos hfirst]
      · exact answer_fix ..
      · rw [if_pos ⟨rfl, hfirst⟩]
        exact hserved ..
    · refine ⟨_, ?_, ?_, fun _ => (if_neg hfirst).symm, fun h => by omega, fun h => by omega, fun h => by omega⟩ <;>
        rw [show recordRead q 0 first count u = answer q 0 _ u from if_neg hfirst]
      · exact answer_fix ..
      · rw [if_neg (fun h => hfirst h.2)]
        exact hserved ..
  | 1 =>
    refine ⟨_, answer_fix .., ?_, fun h => by omega, fun _ => rfl, fun h => by omega, fun h => by omega⟩
    rw [if_neg (by omega)]
    exact hserved ..
  | 2 =>
    refine ⟨statusBlock u.free u.fix, answer_fix .., ?_, fun h => by omega, fun h => by omega, fun _ => statusBlock_stamp ..,
      fun h => by omega⟩
    rw [if_neg (by omega)]
    exact served_answer q 0 _ hu (FixerActs.useFree (FixerActs.useFree (.refl u)))
  | n + 3 =>
    refine ⟨fixerCertificate, answer_fix .., ?_, fun h => by omega, fun h => by omega, fun h => by omega,
      fun _ => fixerCertificate_length⟩
    rw [if_neg (by omega)]
    exact hserved ..

/-! ### The driver (R274, R302) -/

/-- The driver identity as it is when it differs from the one recorded: taken where its record has room (R296, R302). -/
def driverNoted (slot token : Nat) (s : State) : State :=
  s.modFix (fun f => if fits 0x05 (leBytes 1 slot ++ zeros 3 ++ leBytes 4 token) f then { f with driver := (slot, token) } else f)

theorem driverNoted_driver (slot token : Nat) (s : State) : (driverNoted slot token s).fix.driver =
    if s.fix.buffer.length < 3068 then (slot, token) else s.fix.driver := by
  have hfits : fits 0x05 (leBytes 1 slot ++ zeros 3 ++ leBytes 4 token) s.fix = decide (s.fix.buffer.length < 3068) := rfl
  unfold driverNoted
  rw [State.modFix_fix, hfits]
  simp only [decide_eq_true_eq]
  split <;> rfl

theorem tokenIdentity_same {q slot token : Nat} {s : State} (h : s.fix.driver = (slot, token)) :
    tokenIdentity q slot token s = answer q 0 [] s := if_pos h

theorem tokenIdentity_other {q slot token : Nat} {s : State} (h : s.fix.driver ≠ (slot, token)) :
    ∃ v, tokenIdentity q slot token s = answer q 0 [] v ∧ RecordsOnly (driverNoted slot token s) v :=
  ⟨_, if_neg h, .recEvent _ _ _ _ _ (.refl _)⟩

/-! ### Card requests (R274, R290) -/

/-- An APDU of the allow-list has its header. -/
theorem apduOk_ne_nil {b : Bytes} (h : apduOk b = true) : b ≠ [] := by
  rintro rfl
  exact absurd h (by decide)

/-- The card's requests with one more behind them. -/
def cardJoined (q n : Nat) (b : Bytes) (s : State) : State := s.modCard n (fun c => { c with reqs := c.reqs ++ [(q, b)] })

/-- The card whose first request is a warm reset, as its authentication begins again (R290). -/
def cardRestarted (q n : Nat) (rest : List (Nat × Bytes)) (s : State) : State :=
  (s.modFix Fixer.noteCards).modCard n (fun c => { c with
    reqs := rest, step := .waiting, reset := some q
    info := { state := 1, hash := c.info.hash, inserted := c.info.inserted } })

section
variable {q n : Nat} {b : Bytes} {s : State}

theorem serveCard_apdu {rest : List (Nat × Bytes)} (h : (s.card n).reqs = (q, b) :: rest) (hb : b ≠ []) :
    serveCard n s = apduSend n b s := by
  unfold serveCard
  rw [h]
  cases b with
  | nil => exact absurd rfl hb
  | cons _ _ => rfl

theorem serveCard_reset {rest : List (Nat × Bytes)} (h : (s.card n).reqs = (q, []) :: rest) :
    serveCard n s = nextAuth (cardRestarted q n rest s) := by
  unfold serveCard
  rw [h]
  rfl

theorem joinCard_first (hreqs : (s.card n).reqs = []) (hreset : (s.card n).reset = none) :
    joinCard q n b s = serveCard n (cardJoined q n b s) := if_pos (by rw [hreqs, hreset]; rfl)

theorem joinCard_waits (h : (s.card n).reqs ≠ [] ∨ (s.card n).reset ≠ none) : joinCard q n b s = cardJoined q n b s := by
  refine if_neg fun hfirst => ?_
  rw [Bool.and_eq_true, List.isEmpty_iff, Option.isNone_iff_eq_none] at hfirst
  exact h.elim (· hfirst.1) (· hfirst.2)

theorem card_cardJoined_same (h : n < 2) : (cardJoined q n b s).card n = { s.card n with reqs := (s.card n).reqs ++ [(q, b)] } :=
  card_modCard_same _ h s

theorem card_cardJoined_other {k : Nat} (h : n ≠ k) : (cardJoined q n b s).card k = s.card k := card_modCard_other _ h s

/-- An APDU that joins the requests of a card goes out at once where none waits and no warm reset runs (R290). -/
theorem card_joinCard_same (hn : n < 2) (hb : b ≠ []) : ((joinCard q n b s).card n).reqs = (s.card n).reqs ++ [(q, b)] ∧
    ((s.card n).reqs = [] → (s.card n).reset = none → ((joinCard q n b s).card n).sent = ((s.card n).command b).1) ∧
    ((s.card n).reset ≠ none → ((joinCard q n b s).card n).sent = (s.card n).sent) := by
  have hjoined := card_cardJoined_same (q := q) (b := b) (s := s) hn
  by_cases hfirst : (s.card n).reqs = [] ∧ (s.card n).reset = none
  · obtain ⟨hreqs, hreset⟩ := hfirst
    have hhead : ((cardJoined q n b s).card n).reqs = [(q, b)] := by rw [hjoined, hreqs]; rfl
    rw [joinCard_first hreqs hreset, serveCard_apdu hhead hb, card_apduSend hn, hjoined]
    exact ⟨rfl, fun _ _ => rfl, fun h => absurd hreset h⟩
  · rw [joinCard_waits (not_and_or.mp hfirst), hjoined]
    exact ⟨rfl, fun hreqs hreset => absurd ⟨hreqs, hreset⟩ hfirst, fun _ => rfl⟩

theorem card_joinCard_other {k : Nat} (hn : n < 2) (h : n ≠ k) (hb : b ≠ []) : (joinCard q n b s).card k = s.card k := by
  have hjoined := card_cardJoined_other (q := q) (b := b) (s := s) h
  by_cases hfirst : (s.card n).reqs = [] ∧ (s.card n).reset = none
  · obtain ⟨hreqs, hreset⟩ := hfirst
    have hhead : ((cardJoined q n b s).card n).reqs = [(q, b)] := by rw [card_cardJoined_same hn, hreqs]; rfl
    rw [joinCard_first hreqs hreset, serveCard_apdu hhead hb, ← hjoined]
    exact card_modCard_other _ h _
  · rw [joinCard_waits (not_and_or.mp hfirst), hjoined]

/-- A warm reset of a card that owes nothing runs its authentication again, for the request that asked for it (R290). -/
theorem card_joinCard_reset (hn : n < 2) (hreqs : (s.card n).reqs = []) (hreset : (s.card n).reset = none) :
    ((joinCard q n [] s).card n).info.state = 1 ∧ ((joinCard q n [] s).card n).reset = some q := by
  have hhead : ((cardJoined q n [] s).card n).reqs = [(q, [])] := by rw [card_cardJoined_same hn, hreqs]; rfl
  have hrestarted : (cardRestarted q n [] (cardJoined q n [] s)).card n = _ := card_modCard_same _ hn _
  have hauth := (nextAuth_auths (cardRestarted q n [] (cardJoined q n [] s))).card n
  rw [joinCard_first hreqs hreset, serveCard_reset hhead, hauth.state, hauth.reset, hrestarted]
  exact ⟨rfl, rfl⟩

theorem cardApdu_absent (h : (s.card n).serves = false) : cardApdu q n b s = answer q St.fixerCardAbsent [] s := if_pos h

theorem cardApdu_denied (h : (s.card n).serves = true) (hb : apduOk b = false) :
    cardApdu q n b s = answer q St.fixerCardDenied [] s := by
  unfold cardApdu
  rw [if_neg (by simp [h]), if_neg (by simp [hb])]

theorem cardApdu_joins (h : (s.card n).serves = true) (hb : apduOk b = true) : cardApdu q n b s = joinCard q n b s := by
  unfold cardApdu
  rw [if_neg (by simp [h]), if_pos hb]

theorem cardReset_denied (h : (s.card n).serves = true) (hrole : (s.card n).info.role = 2) :
    cardReset q n s = answer q St.fixerCardDenied [] s := by
  unfold cardReset
  rw [if_neg (by simp [h]), if_pos hrole]

theorem cardReset_joins (h : (s.card n).serves = true) (hrole : (s.card n).info.role ≠ 2) :
    cardReset q n s = joinCard q n [] s := by
  unfold cardReset
  rw [if_neg (by simp [h]), if_neg hrole]

/-- A slot serves requests where its card is authenticated or a warm reset runs (R290). -/
theorem Card.serves_iff {c : Card} : c.serves = true ↔ c.info.state = 2 ∨ c.reset ≠ none := by
  rw [serves, Bool.or_eq_true, beq_iff_eq, Option.isSome_iff_ne_none]

end

/-! ### Settings by exposure (R150, R151, R300) -/

/-- The items of a set are settings of the F die within their ranges. -/
def ItemsInRange (items : List (Nat × Int)) : Prop := ∀ i ∈ items, ∃ r, rowOf 9 i.1 = some r ∧ r.ok 0 i.2 = true

section
variable {q gen instant ticket : Nat} {items : List (Nat × Int)} {pair : Option Bytes} {s : State}

theorem fixPrepare_pending (h : s.fix.set ≠ none) :
    fixPrepare q items pair gen instant ticket s = answer q St.fixerSetPending [] s :=
  if_pos (Option.isSome_iff_ne_none.mpr h)

theorem fixPrepare_noWorkshop (h : s.fix.set = none) (hshop : s.fix.shop = false) :
    fixPrepare q items pair gen instant ticket s = answer q St.fixerNoWorkshop [] s := by
  unfold fixPrepare
  rw [h]
  exact if_pos hshop

theorem fixPrepare_outOfRange (h : s.fix.set = none) (hshop : s.fix.shop = true) (hitems : ¬ItemsInRange items) :
    fixPrepare q items pair gen instant ticket s = answer q St.fixerSetting [] s := by
  unfold fixPrepare
  rw [h, hshop]
  refine if_pos (Or.inl (Bool.eq_false_iff.mpr fun hall => hitems fun i hi => ?_))
  have hok := List.all_eq_true.mp hall i hi
  cases hrow : rowOf 9 i.1 with
  | none => rw [hrow] at hok; cases hok
  | some r => rw [hrow] at hok; exact ⟨r, rfl, hok⟩

/-- A set of settings in their ranges is held (R300). -/
theorem fixPrepare_holds (h : s.fix.set = none) (hshop : s.fix.shop = true) (hitems : ItemsInRange items) :
    fixPrepare q items none gen instant ticket s =
      answer q 0 [] (s.modFix (fun f => { f with set := some { items, gen, instant, ticket } })) := by
  unfold fixPrepare
  rw [h, hshop]
  refine (if_neg nofun).trans ((if_neg nofun).trans (if_neg ?_))
  rw [not_or, Bool.not_eq_false, List.all_eq_true]
  refine ⟨fun i hi => ?_, nofun⟩
  obtain ⟨r, hrow, hok⟩ := hitems i hi
  rw [hrow]
  exact hok

theorem fixCommit_done (h : s.fix.set = none) (hgen : s.fix.applied = gen) : fixCommit q gen s = answer q 0 [] s := by
  unfold fixCommit
  rw [h]
  exact if_pos hgen

/-- The status of a request for a set that the F die neither holds nor has applied (log entry 194). -/
def noSetStatus (s : State) : Nat := 1 + Config.freeNat s.free % 0xFFFF

theorem noSetStatus_ne_ok (s : State) : noSetStatus s ≠ St.ok := by
  intro h
  have hpos : 0 < noSetStatus s := Nat.lt_of_lt_of_le Nat.zero_lt_one (Nat.le_add_right 1 _)
  exact Nat.ne_of_gt hpos h

theorem fixCommit_noSet (h : s.fix.set = none) (hgen : s.fix.applied ≠ gen) :
    fixCommit q gen s = answer q (noSetStatus s) [] s.useFree := by
  unfold fixCommit
  rw [h]
  exact if_neg hgen

variable {x : FixSet}

theorem fixCommit_arms (h : s.fix.set = some x) (harmed : x.armed = false) (hshop : s.fix.shop = true) :
    fixCommit q gen s = answer q 0 [] (s.modFix (fun f => { f with set := some { x with armed := true } })) := by
  unfold fixCommit
  rw [h]
  dsimp only
  rw [harmed, hshop]
  rfl

theorem fixCommit_noWorkshop (h : s.fix.set = some x) (harmed : x.armed = false) (hshop : s.fix.shop = false) :
    fixCommit q gen s = answer q St.fixerNoWorkshop [] s := by
  unfold fixCommit
  rw [h]
  dsimp only
  rw [harmed, hshop]
  rfl

theorem fixCommit_applies (h : s.fix.set = some x) (harmed : x.armed = true) :
    fixCommit q gen s = answer q 0 (leBytes 8 (applySet x s.fix.clock s).fix.appliedAt) (applySet x s.fix.clock s) := by
  unfold fixCommit
  rw [h]
  dsimp only
  rw [harmed]
  rfl

end

/-- The armed set `x` in force from a stamp on: its settings, k and its generation (R276, R300). -/
def setApplied (x : FixSet) (edge : Nat) (s : State) : State :=
  s.modFix (fun f =>
    let k := match assoc x.items 0 with
      | some v => v.toNat
      | none => f.k
    let g := if k = f.k then f else f.changeK k edge
    { g with
      values := x.items.foldl (fun m (i : Nat × Int) => assocSet m i.1 i.2) f.values
      kSet := f.kSet || (assoc x.items 0).isSome
      set := none, applied := x.gen, appliedAt := edge }.countUnits)

theorem setApplied_seals (x : FixSet) (edge : Nat) (s : State) : (setApplied x edge s).fix.seals = s.fix.seals := by
  have hk (k : Nat) : (if k = s.fix.k then s.fix else s.fix.changeK k edge).seals = s.fix.seals := by split <;> rfl
  exact hk _

theorem sendCheck_peripherals (n : Nat) (before : Bytes) (s : State) : PeripheralsOnly s (sendCheck n before s) := by
  unfold sendCheck State.modMotion
  exact ⟨(FixerActs.refl s).useFree.modFix _, rfl⟩

/-- A pairing begins on the motion-sensor link, or fails there at once (R282). -/
theorem startPairing_peripherals (id : Nat) (kp blob : Bytes) (s : State) : PeripheralsOnly s (startPairing id kp blob s) := by
  have hnamed : PeripheralsOnly s (s.modMotion (fun m => { m with pairing := some (id, kp) })) := .modFix (.refl s) rfl
  unfold startPairing
  exact .ite (hnamed.trans (checkFails_spec ..).1) (hnamed.trans (sendCheck_peripherals ..))

/-- Beyond the set's settings, its application counts a seal event, and may begin a pairing (R282, R298, R300). -/
theorem applySet_peripherals (x : FixSet) (edge : Nat) (s : State) :
    PeripheralsOnly (sealedOnce (setApplied x edge s)) (applySet x edge s) := by
  have hsealed := (sealEvent_records 2 0xFF (setApplied x edge s)).peripherals
  have heq : applySet x edge s = match x.pair with
      | some (id, kp, blob) => startPairing id kp blob (sealEvent 2 0xFF (setApplied x edge s))
      | none => sealEvent 2 0xFF (setApplied x edge s) := rfl
  rw [heq]
  split
  · exact hsealed.trans (startPairing_peripherals ..)
  · exact hsealed

theorem applySet_acts (x : FixSet) (edge : Nat) (s : State) : FixerActs s (applySet x edge s) :=
  (((FixerActs.refl s).modFix _).modFix _).trans (applySet_peripherals x edge s).toFixerActs

theorem applySet_spec (x : FixSet) (edge : Nat) (s : State) : (applySet x edge s).fix.set = none ∧
    (applySet x edge s).fix.applied = x.gen ∧ (applySet x edge s).fix.appliedAt = edge ∧
    (applySet x edge s).fix.seals = s.fix.seals.raise (satAdd 0xFFFFFFFF s.fix.seals.value 1) := by
  have hkeeps := applySet_peripherals x edge s
  refine ⟨hkeeps.keeps Fixer.set, hkeeps.keeps Fixer.applied, hkeeps.keeps Fixer.appliedAt, ?_⟩
  rw [← setApplied_seals x edge s]
  exact hkeeps.keeps Fixer.seals

end Sys2Proof.Machine
end

section
/-! SUPPORT. The F die's clock: time proposals (R285) and the samples it is compared by (R284, R295). -/

namespace Sys2Proof.Machine

/-! ### Adjustments of the clock (R285) -/

/-- The F die `f` with the clock of `g`, and with what the passing of time and the end of a minute change. -/
def Fixer.withClock (f g : Fixer) : Fixer :=
  { f.withPeripherals g with clock := g.clock, slew := g.slew, ring := g.ring, nextSec := g.nextSec, nextMin := g.nextMin }

theorem Fixer.withPeripherals_withClock (f g h : Fixer) : (f.withPeripherals g).withClock h = f.withClock h := rfl

theorem PeripheralsOnly.clock {s t : State} (h : PeripheralsOnly s t) : t.fix.clock = s.fix.clock := h.keeps Fixer.clock

theorem PeripheralsOnly.slew {s t : State} (h : PeripheralsOnly s t) : t.fix.slew = s.fix.slew := h.keeps Fixer.slew

theorem Fixer.lose_records (f : Fixer) (g : GapAcc → GapAcc) : f.lose g = f.withRecords (f.lose g) := rfl

theorem Fixer.withPeripherals_own (f : Fixer) (cards : Vector Card 2) (minute : Minute) :
    { f with cards, minute } = f.withPeripherals { f with cards, minute } := rfl

theorem Fixer.newMinute_peripherals (f : Fixer) : f.newMinute = f.withPeripherals f.newMinute := by
  unfold newMinute
  exact withPeripherals_own ..

theorem closeMinute_peripherals (s : State) : PeripheralsOnly s (closeMinute s) := by
  unfold closeMinute
  refine PeripheralsOnly.modFix (RecordsOnly.peripherals (.ite ?_ ?_)) (Fixer.newMinute_peripherals _)
  · exact (RecordsOnly.refl s).modFix (Fixer.lose_records ..)
  · exact .makeRec _ _ (.refl s)

/-- The F die with its clock stepped forward (R285, R286). -/
def Fixer.stepped (d : Nat) (f : Fixer) : Fixer := ({ f with clock := f.clock + d }).skipTo

theorem Fixer.stepped_clock (d : Nat) (f : Fixer) : f.stepped d = f.withClock (f.stepped d) ∧
    (f.stepped d).clock = f.clock + d ∧ (f.stepped d).slew = f.slew := ⟨rfl, rfl, rfl⟩

theorem stepClock_eq (d : Nat) (s : State) : stepClock d s = (closeMinute s).modFix (Fixer.stepped d) := by
  unfold stepClock Fixer.stepped
  rfl

/-- A forward step moves the clock on, and the minute in progress closes before it (R285, R286). -/
theorem stepClock_fix (d : Nat) (s : State) : (stepClock d s).fix = s.fix.withClock (stepClock d s).fix ∧
    (stepClock d s).fix.clock = s.fix.clock + d ∧ (stepClock d s).fix.slew = s.fix.slew := by
  have hclose := closeMinute_peripherals s
  obtain ⟨hfix, hstep, hleft⟩ := Fixer.stepped_clock d (closeMinute s).fix
  rw [stepClock_eq, State.modFix_fix, hstep, hleft, hclose.clock, hclose.slew]
  refine ⟨hfix.trans ?_, rfl, rfl⟩
  rw [← Fixer.withPeripherals_withClock s.fix (closeMinute s).fix, ← hclose.fix]

theorem stepClock_acts (d : Nat) (s : State) : FixerActs s (stepClock d s) := by
  rw [stepClock_eq]
  exact (closeMinute_peripherals s).toFixerActs.modFix _

/-- From `s` to `t` the F die's clock is adjusted. -/
structure ClockOnly (s t : State) : Prop extends FixerActs s t where
  fix : t.fix = s.fix.withClock t.fix

theorem ClockOnly.keeps {s t : State} {α : Type} (h : ClockOnly s t) (p : Fixer → α) :
    p t.fix = p (s.fix.withClock t.fix) := congrArg p h.fix

theorem ClockOnly.unset {s t : State} (h : ClockOnly s t) : t.fix.unset = s.fix.unset := h.keeps Fixer.unset

theorem ClockOnly.spent {s t : State} (h : ClockOnly s t) : t.fix.spent = s.fix.spent := h.keeps Fixer.spent

theorem ClockOnly.seals {s t : State} (h : ClockOnly s t) : t.fix.seals = s.fix.seals := h.keeps Fixer.seals

theorem adjust_clock (delta : Int) (s : State) : ClockOnly s (adjust delta s).1 := by
  rw [adjust]
  split
  · dsimp only
    exact ⟨(FixerActs.refl s).modFix _, rfl⟩
  · split
    · dsimp only
      exact ⟨(FixerActs.refl s).modFix _, rfl⟩
    · exact ⟨((FixerActs.refl s).modFix _).trans (stepClock_acts ..), (stepClock_fix ..).1⟩

/-- Where nothing is left to slew, a negative DELTA is slewed (R285). -/
theorem adjust_backward {delta : Int} {s : State} (hslew : s.fix.slew = 0) (h : delta < 0) :
    (adjust delta s).1.fix.slew = delta.natAbs * 100 ∧ (adjust delta s).1.fix.clock = s.fix.clock := by
  rw [adjust, hslew, if_pos (by omega)]
  exact ⟨by rw [State.modFix_fix]; dsimp only; omega, rfl⟩

/-- Where nothing is left to slew, any other DELTA is stepped (R285). -/
theorem adjust_forward {delta : Int} {s : State} (hslew : s.fix.slew = 0) (h : 0 ≤ delta) :
    (adjust delta s).1.fix.slew = 0 ∧ ((adjust delta s).1.fix.clock : Int) = s.fix.clock + delta := by
  rw [adjust, hslew, if_neg (by omega)]
  split
  · next hsmall =>
    obtain rfl : delta = 0 := by omega
    exact ⟨rfl, (Int.add_zero _).symm⟩
  · obtain ⟨-, hclock, hleft⟩ := stepClock_fix ((delta * 100 - (0 : Nat)) / 100).toNat (s.modFix (fun f => { f with slew := 0 }))
    refine ⟨hleft, ?_⟩
    rw [hclock, State.modFix_fix]
    dsimp only
    omega

/-! ### Proposals (R285) -/

section
variable {s t : State}

/-- Records change nothing of the clock and its allowance. -/
theorem RecordsOnly.time (h : RecordsOnly s t) : t.fix.unset = s.fix.unset ∧ t.fix.adjusted = s.fix.adjusted ∧
    t.fix.spent = s.fix.spent ∧ t.fix.slew = s.fix.slew ∧ t.fix.clock = s.fix.clock :=
  ⟨h.keeps Fixer.unset, h.keeps Fixer.adjusted, h.keeps Fixer.spent, h.keeps Fixer.slew, h.keeps Fixer.clock⟩

theorem RecordsOnly.seals (h : RecordsOnly s t) : t.fix.seals = s.fix.seals := h.keeps Fixer.seals

theorem sealedOnce_time (s : State) :
    (sealedOnce s).fix.unset = s.fix.unset ∧ (sealedOnce s).fix.spent = s.fix.spent := ⟨rfl, rfl⟩

theorem sealedOnce_seals (s : State) :
    (sealedOnce s).fix.seals = s.fix.seals.raise (satAdd 0xFFFFFFFF s.fix.seals.value 1) := rfl

/-- The counter counts a seal event the same before and after records. -/
theorem RecordsOnly.sealedOnce (h : RecordsOnly s t) : RecordsOnly (sealedOnce s) (sealedOnce t) where
  frame := (h.toFixerActs.modFix _).frame
  sent := h.sent
  fix := by
    have hfix : t.fix = s.fix.withRecords t.fix := h.fix
    unfold Machine.sealedOnce
    rw [State.modFix_fix, State.modFix_fix, h.seals]
    generalize s.fix.seals.raise _ = u
    generalize t.fix = f at hfix
    generalize s.fix = g at hfix
    rw [hfix]
    rfl

/-- The F die with the clock adjusted by an accepted proposal, before its record (R285). -/
def proposalTaken (delta : Int) (work counted : Bool) (s : State) : State :=
  (adjust delta s).1.modFix (fun f => { f with
    unset := f.unset && !work, adjusted := true, samples := [], drift := none
    spent := if counted then f.spent ++ [(s.fix.clock, delta.natAbs)] else f.spent })

theorem proposalTaken_acts (delta : Int) (work counted : Bool) (s : State) : FixerActs s (proposalTaken delta work counted s) :=
  (adjust_clock delta s).toFixerActs.modFix _

variable {q : Nat} {delta : Int} {work counted flag : Bool}

theorem proposalTaken_spec : (proposalTaken delta work counted s).fix.unset = (s.fix.unset && !work) ∧
    (proposalTaken delta work counted s).fix.adjusted = true ∧
    (proposalTaken delta work counted s).fix.spent =
      (if counted then s.fix.spent ++ [(s.fix.clock, delta.natAbs)] else s.fix.spent) ∧
    (proposalTaken delta work counted s).fix.slew = (adjust delta s).1.fix.slew ∧
    (proposalTaken delta work counted s).fix.clock = (adjust delta s).1.fix.clock ∧
    (proposalTaken delta work counted s).fix.seals = s.fix.seals := by
  have hadjust := adjust_clock delta s
  unfold proposalTaken
  rw [State.modFix_fix, ← hadjust.unset, ← hadjust.spent, ← hadjust.seals]
  exact ⟨rfl, rfl, rfl, rfl, rfl, rfl⟩

/-- An accepted proposal within the allowance is recorded and answered. -/
theorem acceptProposal_within : ∃ d v, acceptProposal q delta work false counted s = answer q 0 d v ∧
    RecordsOnly (proposalTaken delta work counted s) v :=
  ⟨_, _, rfl, .recEvent _ _ _ _ _ (.refl _)⟩

/-- One beyond the allowance is a seal event too (R298). -/
theorem acceptProposal_beyond : ∃ d v, acceptProposal q delta work true counted s = answer q 0 d v ∧
    RecordsOnly (sealedOnce (proposalTaken delta work counted s)) v :=
  ⟨_, _, rfl, (RecordsOnly.sealedOnce (.recEvent _ _ _ _ _ (.refl _))).trans (sealEvent_records ..)⟩

theorem refuseProposal_answers : ∃ d, refuseProposal q s = answer q St.fixerTimeLimit d s.useFree.useFree := ⟨_, rfl⟩

theorem timePropose_refused (h : delta < -((3600 * oneSec : Nat) : Int) ∨
    (flag = false ∨ s.fix.shop = false) ∧ (s.fix.unset = false ∨ delta ≤ 0) ∧ s.fix.allowance < delta.natAbs) :
    timePropose q delta flag s = refuseProposal q s := by
  unfold timePropose
  dsimp only
  split
  · rfl
  · next hlimit =>
    obtain ⟨hwork, hunset, hbeyond⟩ := h.resolve_left hlimit
    rw [if_neg (by rw [Bool.and_eq_true, not_and_or, Bool.not_eq_true, Bool.not_eq_true]; exact hwork),
      if_neg (by rw [not_and_or, Bool.not_eq_true, Int.not_lt]; exact hunset), if_pos (decide_eq_true hbeyond)]

theorem timePropose_counted (hlimit : -((3600 * oneSec : Nat) : Int) ≤ delta) (hwithin : delta.natAbs ≤ s.fix.allowance)
    (hunset : s.fix.unset = false) : timePropose q delta false s = acceptProposal q delta false false true s := by
  unfold timePropose
  dsimp only
  rw [if_neg (Int.not_lt.mpr hlimit), if_neg (by simp), if_neg (by simp [hunset]),
    if_neg (by rw [decide_eq_true_iff]; exact Nat.not_lt.mpr hwithin)]

theorem timePropose_workshop (hlimit : -((3600 * oneSec : Nat) : Int) ≤ delta) (hshop : s.fix.shop = true) :
    timePropose q delta true s = acceptProposal q delta true (decide (s.fix.allowance < delta.natAbs)) false s := by
  unfold timePropose
  dsimp only
  rw [if_neg (Int.not_lt.mpr hlimit), hshop]
  exact if_pos rfl

end

/-! ### Samples (R284, R295) -/

section
variable {s t : State}

theorem RecordsOnly.offset (h : RecordsOnly s t) : t.fix.offset = s.fix.offset := h.keeps Fixer.offset

theorem RecordsOnly.adjusted (h : RecordsOnly s t) : t.fix.adjusted = s.fix.adjusted := h.keeps Fixer.adjusted

/-- From `s` to `t` a usable sample of this offset is taken (R284). -/
structure TakesSample (o : Int) (s t : State) : Prop extends FixerActs s t where
  adjusted : t.fix.adjusted = s.fix.adjusted
  offset : t.fix.offset = some o

theorem TakesSample.records {o : Int} {r : State} (h : TakesSample o r s) (k : RecordsOnly s t) : TakesSample o r t where
  toFixerActs := h.toFixerActs.trans k.toFixerActs
  adjusted := k.adjusted.trans h.adjusted
  offset := k.offset.trans h.offset

theorem TakesSample.modFix {o : Int} {r : State} {g : Fixer → Fixer} (h : TakesSample o r s)
    (hg : ∀ f, (g f).adjusted = f.adjusted ∧ (g f).offset = f.offset) : TakesSample o r (s.modFix g) where
  toFixerActs := h.toFixerActs.modFix g
  adjusted := (hg s.fix).1.trans h.adjusted
  offset := (hg s.fix).2.trans h.offset

theorem takeSample_spec (c : Nat) (o : Int) (s : State) : TakesSample o s (takeSample c o s) := by
  unfold takeSample
  extract_lets s1
  have h1 : TakesSample o s s1 := ⟨(FixerActs.refl s).modFix _, rfl, rfl⟩
  split
  · exact h1
  · extract_lets _ _ s2 _
    have h2 : TakesSample o s s2 := h1.modFix (fun _ => ⟨rfl, rfl⟩)
    split
    · exact h1.modFix (fun _ => ⟨rfl, rfl⟩)
    · split
      · refine TakesSample.records (h2.modFix fun f => ?_) (.recEvent _ _ _ _ _ (.refl _))
        split <;> exact ⟨rfl, rfl⟩
      · exact h2

/-- The F die with TAIL_SEQ moved on: the confirmed records have left the buffer and a chain head stands (R295). -/
def tailAdvanced (tail : Nat) (s : State) : State :=
  s.modFix (fun f =>
    let h := lastHash f.tailH (s.fix.buffer.filter (fun r => decide (r.1 ≤ tail)))
    { f with buffer := f.buffer.filter (fun r => decide (tail < r.1)), tail, tailH := h, heads := ((tail, h, f.clock) :: f.heads).take 512 })

theorem tailAdvanced_spec (tail : Nat) (s : State) : (tailAdvanced tail s).fix.adjusted = s.fix.adjusted ∧
    (tailAdvanced tail s).fix.offset = s.fix.offset ∧ (tailAdvanced tail s).fix.events = s.fix.events ∧
    (tailAdvanced tail s).fix.gap = s.fix.gap ∧ (tailAdvanced tail s).fix.tail = tail ∧
    (tailAdvanced tail s).fix.buffer = s.fix.buffer.filter (fun r => decide (tail < r.1)) ∧
    (tailAdvanced tail s).fix.heads.head?.map (·.1) = some tail := ⟨rfl, rfl, rfl, rfl, rfl, rfl, rfl⟩

/-- TAIL_SEQ moves to a confirmed record after it (R295). -/
def TailMoves (tail : Nat) (f : Fixer) : Prop := tail ≠ 0xFFFFFFFF ∧ (f.tail = 0xFFFFFFFF ∨ f.tail < tail)

variable {tail : Nat}

theorem advanceTail_stays (h : ¬TailMoves tail s.fix) : advanceTail tail s = s := by
  refine if_pos ?_
  rw [TailMoves, not_and_or, not_or, Nat.not_lt] at h
  exact h.imp_left not_not.mp

theorem advanceTail_moves (h : TailMoves tail s.fix) : RecordsOnly (tailAdvanced tail s) (advanceTail tail s) ∧
    (s.fix.gap = none → advanceTail tail s = tailAdvanced tail s) := by
  obtain ⟨hnone, hafter⟩ := h
  have hmoves : advanceTail tail s = match (tailAdvanced tail s).fix.gap with
      | some g => makeGap g (tailAdvanced tail s)
      | none => tailAdvanced tail s := by
    refine if_neg ?_
    rw [not_or, not_and_or, not_not, Nat.not_le]
    exact ⟨hnone, hafter⟩
  rw [hmoves]
  refine ⟨?_, fun hgap => ?_⟩
  · split
    · exact .makeGap _ (.refl _)
    · exact .refl _
  · rw [(tailAdvanced_spec tail s).2.2.2.1, hgap]

theorem advanceTail_acts (tail : Nat) (s : State) : FixerActs s (advanceTail tail s) := by
  by_cases h : TailMoves tail s.fix
  · exact ((FixerActs.refl s).modFix _).trans (advanceTail_moves h).1.toFixerActs
  · rw [advanceTail_stays h]
    exact .refl s

/-- The comparison of a sample is no matter of the tail. -/
theorem advanceTail_compared (tail : Nat) (s : State) : (advanceTail tail s).fix.adjusted = s.fix.adjusted ∧
    (advanceTail tail s).fix.offset = s.fix.offset := by
  by_cases h : TailMoves tail s.fix
  · obtain ⟨hrecords, -⟩ := advanceTail_moves h
    obtain ⟨hadjusted, hoffset, -⟩ := tailAdvanced_spec tail s
    exact ⟨hrecords.adjusted.trans hadjusted, hrecords.offset.trans hoffset⟩
  · rw [advanceTail_stays h]
    exact ⟨rfl, rfl⟩

/-- Where no GAP is pending, the events stay as they are. -/
theorem advanceTail_events (hgap : s.fix.gap = none) : (advanceTail tail s).fix.events = s.fix.events := by
  by_cases h : TailMoves tail s.fix
  · rw [(advanceTail_moves h).2 hgap]
    rfl
  · rw [advanceTail_stays h]

theorem foldl_toMaster_fix {α : Type} (m : α → LaneMsg) : ∀ (l : List α) (s : State),
    (l.foldl (fun t x => toMaster (m x) t) s).fix = s.fix
  | [], _ => rfl
  | x :: xs, s => (foldl_toMaster_fix m xs _).trans (toMaster_fix (m x) s)

/-- What is sent again leaves the F die as it is (R295, R507). -/
theorem resend_spec (s : State) :
    FixerActs s (resendEvents (resendRecords s)) ∧ (resendEvents (resendRecords s)).fix = s.fix := by
  have hsent {α : Type} (m : α → LaneMsg) (l : List α) (t : State) : FixerActs t (l.foldl (fun t x => toMaster (m x) t) t) :=
    FixerActs.foldl (fun t x => .toMaster (m x) (.refl t)) l t
  exact ⟨(hsent _ _ s).trans (hsent _ _ _), (foldl_toMaster_fix _ _ _).trans (foldl_toMaster_fix _ _ _)⟩

/-- The F die as it has heard a sample, before it compares it: its events confirmed up to a key, the older latches gone. -/
def sampleNoted (q confirm : Nat) (s : State) : State :=
  s.modFix (fun f => { f with
    adjusted := false, events := f.events.filter (fun r => decide (confirm < r.key))
    latches := f.latches.filter (fun x => decide (q < x.1)) })

/-- The F die as it has compared a sample: by the clock latched at its own edge, where the comparison is usable (R284). -/
def sampleCompared (q epoch : Nat) (unset : Bool) (confirm : Nat) (s : State) : State :=
  match (if unset || s.fix.adjusted then none else assoc s.fix.latches q) with
  | some c => takeSample c ((c : Int) - epoch) (sampleNoted q confirm s)
  | none => sampleNoted q confirm s

variable {q epoch confirm : Nat} {unset : Bool}

theorem epochSample_eq : epochSample q epoch unset tail confirm s =
    answer q 0 [] (resendEvents (resendRecords (advanceTail tail (sampleCompared q epoch unset confirm s)))) := rfl

/-- Before the clock is known, after it was adjusted, and without a latched clock, a sample compares nothing (R284). -/
theorem sampleCompared_none (h : unset = true ∨ s.fix.adjusted = true ∨ assoc s.fix.latches q = none) :
    sampleCompared q epoch unset confirm s = sampleNoted q confirm s := by
  have hnone : (if unset || s.fix.adjusted then none else assoc s.fix.latches q) = none := by
    split
    · rfl
    · next hknown =>
      rw [Bool.or_eq_true, not_or] at hknown
      exact (h.resolve_left hknown.1).resolve_left hknown.2
  unfold sampleCompared
  rw [hnone]

/-- A sample is compared by the clock latched at its own edge (R284). -/
theorem sampleCompared_some {c : Nat} (hunset : unset = false) (hadjusted : s.fix.adjusted = false)
    (h : assoc s.fix.latches q = some c) :
    TakesSample ((c : Int) - epoch) (sampleNoted q confirm s) (sampleCompared q epoch unset confirm s) := by
  unfold sampleCompared
  rw [hunset, hadjusted, h]
  exact takeSample_spec ..

theorem sampleCompared_acts : FixerActs s (sampleCompared q epoch unset confirm s) ∧
    (sampleCompared q epoch unset confirm s).fix.adjusted = false := by
  have hnoted : FixerActs s (sampleNoted q confirm s) := (FixerActs.refl s).modFix _
  unfold sampleCompared
  split
  · have htaken := takeSample_spec
    exact ⟨hnoted.trans (htaken ..).toFixerActs, (htaken ..).adjusted⟩
  · exact ⟨hnoted, rfl⟩

end

end Sys2Proof.Machine
end

section
/-! SUPPORT. The F die serves the lane: the request at its head, row by row (R274, R284, R285, R290, R295, R300). -/

namespace Sys2Proof.Machine

section
variable {q st : Nat} {d : Bytes} {u : State}

/-- A refusal changes nothing of the F die. -/
theorem answer_only (hu : FixerHeard u) : (answer q st d u).lane.toF = u.lane.toF ∧ (answer q st d u).fix = u.fix ∧
    Replied q st d (answer q st d u) :=
  ⟨((FixerActs.refl u).answer q st d).toF, answer_fix .., replied_answer q st d hu⟩

end

theorem RecordsOnly.driver {s t : State} (h : RecordsOnly s t) : t.fix.driver = s.fix.driver := h.keeps Fixer.driver

/-! ### Row by row -/

section
variable {q : Nat} {u : State} (hu : FixerHeard u)
include hu

theorem refuseProposal_served : ∃ d, (refuseProposal q u).lane.toF = u.lane.toF ∧ (refuseProposal q u).fix = u.fix ∧
    Replied q St.fixerTimeLimit d (refuseProposal q u) := by
  obtain ⟨d, heq⟩ := refuseProposal_answers (q := q) (s := u)
  obtain ⟨htoF, hreplied⟩ := served_answer q St.fixerTimeLimit d hu (FixerActs.refl u).useFree.useFree
  exact ⟨d, heq ▸ htoF, heq ▸ answer_fix .., heq ▸ hreplied⟩

/-- A proposal within the allowance is slewed or stepped, and counts against the allowance (R285). -/
theorem acceptProposal_counted {delta : Int} (hslew : u.fix.slew = 0) (hunset : u.fix.unset = false) :
    ∃ t d, acceptProposal q delta false false true u = t ∧ t.lane.toF = u.lane.toF ∧ Replied q St.ok d t ∧ t.fix.unset = false ∧
      t.fix.adjusted = true ∧ t.fix.spent = u.fix.spent ++ [(u.fix.clock, delta.natAbs)] ∧
      (delta < 0 → t.fix.slew = delta.natAbs * 100 ∧ t.fix.clock = u.fix.clock) ∧
      (0 ≤ delta → t.fix.slew = 0 ∧ (t.fix.clock : Int) = u.fix.clock + delta) := by
  obtain ⟨d, v, heq, hrecords⟩ := acceptProposal_within (q := q) (delta := delta) (work := false) (counted := true) (s := u)
  obtain ⟨htoF, hreplied⟩ := served_answer q 0 d hu
    ((proposalTaken_acts delta false true u).trans hrecords.toFixerActs)
  obtain ⟨hunset', hadjusted, hspent, hslew', hclock⟩ := hrecords.time
  obtain ⟨tunset, tadjusted, tspent, tslew, tclock, -⟩ :=
    proposalTaken_spec (delta := delta) (work := false) (counted := true) (s := u)
  refine ⟨_, d, heq, htoF, hreplied, ?_⟩
  rw [answer_fix, hunset', hadjusted, hspent, hslew', hclock, tunset, tadjusted, tspent, tslew, tclock, hunset]
  exact ⟨rfl, rfl, rfl, adjust_backward hslew, adjust_forward hslew⟩

/-- A workshop proposal is accepted whatever the allowance; beyond it, it is a seal event (R285, R298). -/
theorem acceptProposal_workshop {delta : Int} (beyond : Bool) :
    ∃ t d, acceptProposal q delta true beyond false u = t ∧ t.lane.toF = u.lane.toF ∧ Replied q St.ok d t ∧ t.fix.unset = false ∧
      t.fix.spent = u.fix.spent ∧ (beyond = true → SealCounted u t) := by
  obtain ⟨tunset, -, tspent, -, -, tseals⟩ := proposalTaken_spec (delta := delta) (work := true) (counted := false) (s := u)
  have htaken := proposalTaken_acts delta true false u
  cases beyond with
  | false =>
    obtain ⟨d, v, heq, hrecords⟩ := acceptProposal_within (q := q) (delta := delta) (work := true) (counted := false) (s := u)
    obtain ⟨htoF, hreplied⟩ := served_answer q 0 d hu (htaken.trans hrecords.toFixerActs)
    obtain ⟨hunset, -, hspent, -, -⟩ := hrecords.time
    refine ⟨_, d, heq, htoF, hreplied, ?_⟩
    rw [answer_fix, hunset, hspent, tunset, tspent]
    exact ⟨Bool.and_false _, rfl, nofun⟩
  | true =>
    obtain ⟨d, v, heq, hrecords⟩ := acceptProposal_beyond (q := q) (delta := delta) (work := true) (counted := false) (s := u)
    obtain ⟨htoF, hreplied⟩ := served_answer q 0 d hu
      ((htaken.modFix _).trans hrecords.toFixerActs)
    obtain ⟨hunset, -, hspent, -, -⟩ := hrecords.time
    obtain ⟨ounset, ospent⟩ := sealedOnce_time (proposalTaken delta true false u)
    refine ⟨_, d, heq, htoF, hreplied, ?_, ?_, fun _ => sealCounted_of_seals ?_⟩
    · rw [answer_fix, hunset, ounset, tunset]
      exact Bool.and_false _
    · rw [answer_fix, hspent, ospent, tspent]
      rfl
    · rw [answer_fix, hrecords.seals, sealedOnce_seals, tseals]

/-- A driver identity is noted where it differs and its record has room (R296, R302). -/
theorem tokenIdentity_served (slot token : Nat) : (tokenIdentity q slot token u).lane.toF = u.lane.toF ∧
    Replied q St.ok [] (tokenIdentity q slot token u) ∧
    (u.fix.driver = (slot, token) → (tokenIdentity q slot token u).fix = u.fix) ∧
    (u.fix.buffer.length < 3068 → (tokenIdentity q slot token u).fix.driver = (slot, token)) ∧
    (3068 ≤ u.fix.buffer.length → (tokenIdentity q slot token u).fix.driver = u.fix.driver) := by
  by_cases hsame : u.fix.driver = (slot, token)
  · rw [tokenIdentity_same hsame]
    obtain ⟨htoF, hfix, hreplied⟩ := answer_only (q := q) (st := 0) (d := []) hu
    rw [hfix]
    exact ⟨htoF, hreplied, fun _ => rfl, fun _ => hsame, fun _ => rfl⟩
  · obtain ⟨v, heq, hrecords⟩ := tokenIdentity_other (q := q) hsame
    obtain ⟨htoF, hreplied⟩ := served_answer q 0 [] hu
      (((FixerActs.refl u).modFix _).trans hrecords.toFixerActs)
    rw [heq, answer_fix, hrecords.driver, driverNoted_driver]
    exact ⟨htoF, hreplied, fun h => absurd h hsame, fun h => if_pos h, fun h => if_neg (Nat.not_lt.mpr h)⟩

/-- A sample is answered; it is compared as it came, and moves the tail (R284, R295). -/
theorem epochSample_fix (epoch tail confirm : Nat) (unset : Bool) : ∃ t, epochSample q epoch unset tail confirm u = t ∧
    t.lane.toF = u.lane.toF ∧ Replied q St.ok [] t ∧
    t.fix = (advanceTail tail (sampleCompared q epoch unset confirm u)).fix := by
  have hacts : FixerActs u _ := sampleCompared_acts.1.trans (advanceTail_acts tail (sampleCompared q epoch unset confirm u))
  obtain ⟨hresent, hfix⟩ := resend_spec (advanceTail tail (sampleCompared q epoch unset confirm u))
  obtain ⟨htoF, hreplied⟩ := served_answer q 0 [] hu (hacts.trans hresent)
  exact ⟨_, epochSample_eq, htoF, hreplied, (answer_fix ..).trans hfix⟩

/-- What a sample leaves of the events, the tail and the comparison (R284, R295, R507). -/
theorem epochSample_served (epoch tail confirm : Nat) (unset : Bool) : ∃ t, epochSample q epoch unset tail confirm u = t ∧
    t.lane.toF = u.lane.toF ∧ Replied q St.ok [] t ∧ t.fix.adjusted = false ∧
    (u.fix.gap = none → unset = true ∨ u.fix.adjusted = true →
      t.fix.events = u.fix.events.filter (fun r => decide (confirm < r.key))) ∧
    (u.fix.gap = none → unset = true ∨ u.fix.adjusted = true → TailMoves tail u.fix → t.fix.tail = tail ∧
      t.fix.buffer = u.fix.buffer.filter (fun r => decide (tail < r.1)) ∧ t.fix.heads.head?.map (·.1) = some tail) ∧
    (∀ c : Nat, unset = false → u.fix.adjusted = false → assoc u.fix.latches q = some c →
      t.fix.offset = some ((c : Int) - epoch)) ∧
    (unset = true ∨ u.fix.adjusted = true ∨ assoc u.fix.latches q = none → t.fix.offset = u.fix.offset) := by
  obtain ⟨t, heq, htoF, hreplied, hfix⟩ := epochSample_fix (q := q) hu epoch tail confirm unset
  obtain ⟨hadjusted, hoffset⟩ := advanceTail_compared tail (sampleCompared q epoch unset confirm u)
  have hnone := sampleCompared_none (s := u) (q := q) (epoch := epoch) (confirm := confirm) (unset := unset)
  refine ⟨t, heq, htoF, hreplied, ?_, fun hgap hstill => ?_, fun hgap hstill hmoves => ?_,
    fun c hset hfree hlatch => ?_, fun hstill => ?_⟩ <;> rw [hfix]
  · exact hadjusted.trans sampleCompared_acts.2
  · rw [hnone (hstill.imp_right .inl)]
    exact advanceTail_events (s := sampleNoted q confirm u) hgap
  · obtain ⟨-, -, -, -, htail, hbuffer, hheads⟩ := tailAdvanced_spec tail (sampleNoted q confirm u)
    rw [hnone (hstill.imp_right .inl), (advanceTail_moves (s := sampleNoted q confirm u) hmoves).2 hgap]
    exact ⟨htail, hbuffer, hheads⟩
  · exact hoffset.trans (sampleCompared_some (s := u) hset hfree hlatch).offset
  · rw [hoffset, hnone hstill]
    rfl

/-- The armed set is applied at the clock, which the answer gives (R151, R300). -/
theorem fixCommit_served {gen : Nat} {x : FixSet} (hset : u.fix.set = some x) (harmed : x.armed = true) :
    ∃ t, fixCommit q gen u = t ∧ t.lane.toF = u.lane.toF ∧ t.fix.set = none ∧ t.fix.applied = x.gen ∧
      t.fix.appliedAt = u.fix.clock ∧ SealCounted u t ∧ Replied q St.ok (leBytes 8 u.fix.clock) t := by
  obtain ⟨hnone, hgen, hat, hseals⟩ := applySet_spec x u.fix.clock u
  obtain ⟨htoF, hreplied⟩ := served_answer q 0 (leBytes 8 u.fix.clock) hu (applySet_acts x u.fix.clock u)
  have heq : fixCommit q gen u = answer q 0 (leBytes 8 u.fix.clock) (applySet x u.fix.clock u) := by
    rw [fixCommit_applies hset harmed, hat]
  refine ⟨_, heq, htoF, ?_, ?_, ?_, sealCounted_of_seals ?_, hreplied⟩ <;> rw [answer_fix]
  exacts [hnone, hgen, hat, hseals]

end

/-- Settles O38: the request at the head leaves the lane, its row acts, and the answer goes out to an M die that hears. -/
theorem fixerServesTheLane : Obligations.FixerServesTheLane := by
  unfold Obligations.FixerServesTheLane
  intro q rest s hr hrun hdepth
  have hu : FixerHeard (laneServed rest s) := ⟨hrun, hdepth⟩
  have hrefused (st : Nat) := answer_only (q := q) (st := st) (d := []) hu
  refine ⟨?recordRead, ?timePropose, ?tokenIdentity, ?cardApdu, ?cardReset, ?epochSample, ?exposePrepare, ?exposeCommit,
    ?exposeRollback⟩
  case recordRead =>
    intro sel first count hq
    obtain ⟨d, hfix, hserved, hdata⟩ := recordRead_answers q sel first count hu
    exact ⟨_, d, next_congr (serveLane_takes hr hq rfl), hserved.toF, hfix, hserved.replied, hdata⟩
  case timePropose =>
    intro delta flag hq
    have hexec : exec .timePropose s = .next (timePropose q delta flag (laneServed rest s)) :=
      next_congr (serveLane_takes hr hq rfl)
    refine ⟨fun hrow => ?_, fun hlimit hwithin hslew hunset hflag => ?_, fun hlimit hflag hshop => ?_⟩
    · obtain ⟨d, htoF, hfix, hreplied⟩ := refuseProposal_served (q := q) hu
      rw [timePropose_refused (s := laneServed rest s) hrow] at hexec
      exact ⟨_, d, hexec, htoF, hfix, hreplied⟩
    · subst hflag
      obtain ⟨t, d, heq, hspec⟩ := acceptProposal_counted (q := q) (delta := delta) hu hslew hunset
      rw [timePropose_counted (s := laneServed rest s) hlimit hwithin hunset, heq] at hexec
      exact ⟨t, d, hexec, hspec⟩
    · subst hflag
      obtain ⟨t, d, heq, htoF, hreplied, hunset, hspent, hseal⟩ := acceptProposal_workshop (q := q) (delta := delta) hu
        (decide ((laneServed rest s).fix.allowance < delta.natAbs))
      rw [timePropose_workshop (s := laneServed rest s) hlimit hshop, heq] at hexec
      exact ⟨t, d, hexec, htoF, hreplied, hunset, hspent, fun hbeyond => hseal (decide_eq_true hbeyond)⟩
  case tokenIdentity =>
    intro slot token hq
    exact ⟨_, next_congr (serveLane_takes hr hq rfl), tokenIdentity_served hu slot token⟩
  case cardApdu =>
    intro n b hq
    have hexec : exec .cardRequest s = .next (cardApdu q n.val b (laneServed rest s)) :=
      next_congr (serveLane_takes hr hq rfl)
    refine ⟨fun hstate hreset => ?_, fun hserves hb => ?_, fun hserves hb => ?_⟩
    · have habsent : (s.card n.val).serves = false :=
        Bool.eq_false_iff.mpr fun h => (Card.serves_iff.mp h).elim hstate (· hreset)
      rw [cardApdu_absent (s := laneServed rest s) habsent] at hexec
      exact ⟨_, hexec, hrefused _⟩
    · rw [cardApdu_denied (s := laneServed rest s) hserves hb] at hexec
      exact ⟨_, hexec, hrefused _⟩
    · rw [cardApdu_joins (s := laneServed rest s) hserves hb] at hexec
      obtain ⟨hreqs, hfirst, hlater⟩ := card_joinCard_same (q := q) (s := laneServed rest s) n.isLt (apduOk_ne_nil hb)
      exact ⟨_, hexec, (joinCard_acts q n.val b _).toF, hreqs, hfirst, hlater, fun m hm =>
        card_joinCard_other n.isLt hm.symm (apduOk_ne_nil hb)⟩
  case cardReset =>
    intro n hq
    have hexec : exec .cardRequest s = .next (cardReset q n.val (laneServed rest s)) :=
      next_congr (serveLane_takes hr hq rfl)
    refine ⟨fun hstate hrole => ?_, fun hstate hrole hreqs hreset => ?_⟩
    · rw [cardReset_denied (s := laneServed rest s) (Card.serves_iff.mpr (.inl hstate)) hrole] at hexec
      exact ⟨_, hexec, hrefused _⟩
    · rw [cardReset_joins (s := laneServed rest s) (Card.serves_iff.mpr (.inl hstate)) hrole] at hexec
      exact ⟨_, hexec, (joinCard_acts q n.val [] _).toF, card_joinCard_reset n.isLt hreqs hreset⟩
  case epochSample =>
    intro epoch tail confirm unset hq hedge
    have hexec : exec .epochSample s = .next (epochSample q epoch unset tail confirm (laneServed rest s)) :=
      next_congr (serveLane_takes hr hq (if_neg (by rw [hedge]; exact Bool.false_ne_true)))
    obtain ⟨t, heq, htoF, hreplied, hadjusted, hevents, hmoves, hoffset⟩ := epochSample_served (q := q) hu epoch tail confirm unset
    rw [heq] at hexec
    exact ⟨t, hexec, htoF, hreplied, hadjusted, hevents, fun hgap hstill htail hafter => hmoves hgap hstill ⟨htail, hafter⟩,
      hoffset⟩
  case exposePrepare =>
    intro items pair gen instant ticket hq inRange
    have hexec : exec .exposePrepare s = .next (fixPrepare q items pair gen instant ticket (laneServed rest s)) :=
      next_congr (serveLane_takes hr hq rfl)
    refine ⟨fun hset => ?_, fun hset hshop => ?_, fun hset hshop hitems => ?_, fun hset hshop hitems hpair => ?_⟩
    · rw [fixPrepare_pending (s := laneServed rest s) hset] at hexec
      exact ⟨_, hexec, hrefused _⟩
    · rw [fixPrepare_noWorkshop (s := laneServed rest s) hset hshop] at hexec
      exact ⟨_, hexec, hrefused _⟩
    · rw [fixPrepare_outOfRange (s := laneServed rest s) hset hshop hitems] at hexec
      exact ⟨_, hexec, hrefused _⟩
    · subst hpair
      rw [fixPrepare_holds (s := laneServed rest s) hset hshop hitems] at hexec
      exact ⟨_, hexec, answer_only (u := (laneServed rest s).modFix _) hu⟩
  case exposeCommit =>
    intro gen hq
    have hexec : exec .exposeCommit s = .next (fixCommit q gen (laneServed rest s)) := next_congr (serveLane_takes hr hq rfl)
    refine ⟨fun hset hgen => ?_, fun hset hgen => ?_, fun x hset harmed hshop => ?_, fun x hset harmed hshop => ?_,
      fun x hset harmed => ?_⟩
    · rw [fixCommit_done (s := laneServed rest s) hset hgen] at hexec
      exact ⟨_, hexec, hrefused _⟩
    · rw [fixCommit_noSet (s := laneServed rest s) hset hgen] at hexec
      obtain ⟨htoF, hfix, hreplied⟩ := answer_only (q := q) (st := noSetStatus (laneServed rest s)) (d := [])
        (u := (laneServed rest s).useFree) hu
      exact ⟨_, _, hexec, htoF, hfix, hreplied, noSetStatus_ne_ok _⟩
    · rw [fixCommit_arms (s := laneServed rest s) hset harmed hshop] at hexec
      exact ⟨_, hexec, answer_only (u := (laneServed rest s).modFix _) hu⟩
    · rw [fixCommit_noWorkshop (s := laneServed rest s) hset harmed hshop] at hexec
      exact ⟨_, hexec, hrefused _⟩
    · obtain ⟨t, heq, hspec⟩ := fixCommit_served (q := q) (gen := gen) hu hset harmed
      rw [heq] at hexec
      exact ⟨t, hexec, hspec⟩
  case exposeRollback =>
    intro gen hq
    exact ⟨_, next_congr (serveLane_takes hr hq rfl), answer_only (u := (laneServed rest s).modFix _) hu⟩

end Sys2Proof.Machine
end
